-- ==== Sys2Proof/Word.lean ====
section
/-! DEFINITION. The word types of the KSF-920 and their plainest arithmetic (00 R3, 03 R58). -/
namespace Sys2Proof

/-- A byte of memory. -/
abbrev Byte := BitVec 8
/-- A 32-bit word: one lane of a lane register, one instruction word. -/
abbrev Word := BitVec 32
/-- A 64-bit word: a lead register, a program counter, a virtual address. -/
abbrev Dword := BitVec 64

end Sys2Proof
end

