-- ==== Sys2Proof/Machine/Bits.lean ====
section
/-! DEFINITION. Bit fields, extensions, byte order and sparse tables: the small helpers that every meaning uses
(00 R3, R7). -/
namespace Sys2Proof.Machine

/-- `zext(x, n)` of R7. -/
def zextN (x n : Nat) : Nat := x % 2 ^ n

/-- `sext(x, n)` of R7. -/
def sextN (x n : Nat) : Int :=
  let y := x % 2 ^ n
  if n ≠ 0 ∧ y ≥ 2 ^ (n - 1) then (y : Int) - (2 ^ n : Nat) else (y : Int)

/-- Bits [lo + n - 1 : lo] of a number. -/
def bits (x lo n : Nat) : Nat := (x >>> lo) % 2 ^ n

/-- Bit i of a number. -/
def bit (x i : Nat) : Bool := (x >>> i) % 2 == 1

/-- An integer modulo 2^n, as a natural number. -/
def wrapN (x : Int) (n : Nat) : Nat := (x % ((2 ^ n : Nat) : Int)).toNat

/-- x with bits [lo + n - 1 : lo] replaced by y. -/
def putBits (x lo n y : Nat) : Nat :=
  (x - (bits x lo n <<< lo)) + ((y % 2 ^ n) <<< lo)

/-- x with bit i replaced. -/
def putBit (x i : Nat) (b : Bool) : Nat := putBits x i 1 (if b then 1 else 0)

/-- 0 or 1. -/
def b2n (b : Bool) : Nat := if b then 1 else 0

/-- Exclusive OR of 32-bit shifts used by `mix32` (R7). -/
def mix32 (x : Nat) : Nat :=
  let x := x % 2 ^ 32
  let x := x ^^^ (x >>> 15)
  let x := (x * 0x2C1B3C6D) % 2 ^ 32
  let x := x ^^^ (x >>> 12)
  let x := (x * 0x297A2D39) % 2 ^ 32
  x ^^^ (x >>> 15)

/-- `h17(pc)` of R7. -/
def h17 (pc : Nat) : Nat := ((pc >>> 2) ^^^ (pc >>> 19) ^^^ (pc >>> 36)) % 2 ^ 17

/-- Little-endian value of bytes, lowest address first (R3). -/
def leValue (bs : List Byte) : Nat :=
  match bs with
  | [] => 0
  | b :: rest => b.toNat + 256 * leValue rest

/-- The n low bytes of a value, lowest address first (R3). -/
def leBytes (v n : Nat) : List Byte :=
  match n with
  | 0 => []
  | n + 1 => BitVec.ofNat 8 v :: leBytes (v >>> 8) n

/-- ⌈a / b⌉ -/
def ceilDiv (a b : Nat) : Nat := if b = 0 then 0 else (a + b - 1) / b

/-- The number of one bits among the n low bits. -/
def popcount (x n : Nat) : Nat :=
  match n with
  | 0 => 0
  | n + 1 => b2n (bit x n) + popcount x n

/-- The number of leading zeros in n bits. -/
def clzN (x n : Nat) : Nat :=
  match n with
  | 0 => 0
  | n + 1 => if bit x n then 0 else 1 + clzN x n

/-- The lowest set bit among n bits, n when there is none. -/
def ctzN (x n : Nat) : Nat :=
  ((List.range n).find? (fun i => bit x i)).getD n

/-- The n low bits reversed. -/
def brevN (x n : Nat) : Nat :=
  (List.range n).foldl (fun acc i => acc + (b2n (bit x i) <<< (n - 1 - i))) 0

/-- The lowest set bit of a mask of n lanes, if one is set. -/
def lowestLane (m n : Nat) : Option Nat := (List.range n).find? (fun i => bit m i)

/-- The lanes set in a mask of n lanes, ascending. -/
def lanesOf (m n : Nat) : List Nat := (List.range n).filter (fun i => bit m i)

/-- The mask of a list of lanes. -/
def maskOf (ls : List Nat) : Nat := ls.foldl (fun m l => m ||| (1 <<< l)) 0

/-! ## Sparse tables

A table from numbers to values, kept as a list of pairs with strictly rising keys that never lists the default value, so
that equal tables are equal lists. Memory, register files, scratchpads and tiles are kept so. -/

/-- What a table holds at a key; the default where the key is not listed. -/
def mapGet {β : Type} (dflt : β) (m : List (Nat × β)) (k : Nat) : β :=
  match m with
  | [] => dflt
  | (k', v) :: rest => if k' = k then v else mapGet dflt rest k

/-- An entry put at its place in a table. -/
def mapIns {β : Type} (m : List (Nat × β)) (k : Nat) (v : β) : List (Nat × β) :=
  match m with
  | [] => [(k, v)]
  | (k', v') :: rest => if k < k' then (k, v) :: (k', v') :: rest else (k', v') :: mapIns rest k v

/-- A table without a key. -/
def mapDel {β : Type} (m : List (Nat × β)) (k : Nat) : List (Nat × β) :=
  match m with
  | [] => []
  | (k', v) :: rest => if k' = k then mapDel rest k else (k', v) :: mapDel rest k

/-- A table with one key rewritten, kept in its canonical form. -/
def mapSet {β : Type} [DecidableEq β] (dflt : β) (m : List (Nat × β)) (k : Nat) (v : β) : List (Nat × β) :=
  if v = dflt then mapDel m k else mapIns (mapDel m k) k v

/-- Keys strictly rising from a bound, and no default value listed. -/
def mapWfFrom {β : Type} [DecidableEq β] (dflt : β) (lo : Nat) (m : List (Nat × β)) : Bool :=
  match m with
  | [] => true
  | (k, v) :: rest => decide (lo ≤ k) && decide (v ≠ dflt) && mapWfFrom dflt (k + 1) rest

/-- The canonical form of a table. -/
def mapWf {β : Type} [DecidableEq β] (dflt : β) (m : List (Nat × β)) : Bool := mapWfFrom dflt 0 m

/-- A table with the keys of [lo, lo + n) put back to the default. -/
def mapClear {β : Type} (m : List (Nat × β)) (lo n : Nat) : List (Nat × β) :=
  m.filter (fun kv => decide (kv.1 < lo) || decide (lo + n ≤ kv.1))

/-- Keys strictly ascending: an insertion into an ascending list without repeats. -/
def insertAsc (x : Nat) (l : List Nat) : List Nat :=
  match l with
  | [] => [x]
  | y :: rest => if x = y then y :: rest else if x < y then x :: y :: rest else y :: insertAsc x rest

/-- The element at an index replaced; an index out of range changes nothing. -/
def setAt {β : Type} (l : List β) (i : Nat) (v : β) : List β :=
  match l, i with
  | [], _ => []
  | _ :: rest, 0 => v :: rest
  | x :: rest, i + 1 => x :: setAt rest i v

/-- The element at an index changed; an index out of range changes nothing. -/
def modAt {β : Type} (l : List β) (i : Nat) (f : β → β) : List β :=
  match l, i with
  | [], _ => []
  | x :: rest, 0 => f x :: rest
  | x :: rest, i + 1 => x :: modAt rest i f

/-- The elements without the one at an index. -/
def dropAt {β : Type} (l : List β) (i : Nat) : List β :=
  match l, i with
  | [], _ => []
  | _ :: rest, 0 => rest
  | x :: rest, i + 1 => x :: dropAt rest i

/-- Every element at which the test holds changed. -/
def modWhere {β : Type} (l : List β) (p : β → Bool) (f : β → β) : List β :=
  l.map (fun x => if p x then f x else x)

/-- The element of least measure, the first among equals. -/
def minBy {β : Type} (key : β → Nat) (l : List β) : Option β :=
  match l with
  | [] => none
  | x :: rest =>
    match minBy key rest with
    | none => some x
    | some y => if key x ≤ key y then some x else some y

/-- Sorted by a key, rising, equals in their order. -/
def insertBy {β : Type} (key : β → Nat) (x : β) (l : List β) : List β :=
  match l with
  | [] => [x]
  | y :: rest => if key x ≤ key y then x :: y :: rest else y :: insertBy key x rest

/-- Sorted by a key, rising, equals in their order. -/
def sortBy {β : Type} (key : β → Nat) (l : List β) : List β :=
  match l with
  | [] => []
  | x :: rest => insertBy key x (sortBy key rest)

end Sys2Proof.Machine
end

