-- ==== Sys2Proof/Machine/Num.lean ====
section
/-! DEFINITION. Exact numbers and rounding (05 R106, R107, R113 to R118): a number is a sign, a numerator and a
denominator; every result is computed exactly and rounded once. -/
namespace Sys2Proof.Machine

/-- A number of the extended reals, or no number. A zero keeps its sign (R107). -/
inductive XReal where
  | nan
  | inf (neg : Bool)
  | fin (neg : Bool) (n d : Nat)
deriving DecidableEq, Repr

/-- The eight rounding modes without the dynamic one, which is resolved at issue (R114, 04 R101). -/
inductive RMode where
  | rne | rtz | rup | rdn | rna | rsto | rodd
deriving DecidableEq, Repr

/-- The modes of the `rnd` codes (R114); 111 is dynamic and taken from RNDMODE, which never holds 111. -/
def rmodeOf (code : Nat) : RMode :=
  match code with
  | 0 => .rne | 1 => .rtz | 2 => .rup | 3 => .rdn | 4 => .rna | 5 => .rsto | 6 => .rodd
  | _ => .rne

/-- Whether the upper neighbour of a magnitude is taken: `lo` is at distance `rem`/`d` below it, its last significand
bit is odd or not (R114). `r` is the element's 32-bit random fraction. -/
def roundsUp (mode : RMode) (neg loOdd : Bool) (rem d r : Nat) : Bool :=
  if rem = 0 then false else
  match mode with
  | .rne => decide (2 * rem > d) || (decide (2 * rem = d) && loOdd)
  | .rtz => false
  | .rup => !neg
  | .rdn => neg
  | .rna => decide (2 * rem ≥ d)
  | .rsto => decide (rem * 2 ^ 32 + r * d ≥ d * 2 ^ 32)
  | .rodd => !loOdd

/-- A binary floating-point format: exponent and fraction widths (R106). -/
inductive FFmt where
  | f32 | f16 | bf16
deriving DecidableEq, Repr

/-- Fraction bits (R106). -/
def FFmt.fw : FFmt → Nat
  | .f32 => 23 | .f16 => 10 | .bf16 => 7
/-- Exponent bits (R106). -/
def FFmt.ew : FFmt → Nat
  | .f32 => 8 | .f16 => 5 | .bf16 => 8
/-- Exponent bias (R106). -/
def FFmt.bias : FFmt → Nat
  | .f32 => 127 | .f16 => 15 | .bf16 => 127
/-- Width in bits. -/
def FFmt.width (f : FFmt) : Nat := 1 + f.ew + f.fw
/-- The exponent field of infinities and NaNs, in place. -/
def FFmt.infBits (f : FFmt) : Nat := (2 ^ f.ew - 1) <<< f.fw
/-- The sign bit, in place. -/
def FFmt.signBit (f : FFmt) : Nat := 2 ^ (f.ew + f.fw)

/-- A pattern is a NaN. -/
def isNaNBits (f : FFmt) (b : Nat) : Bool := decide (b % f.signBit > f.infBits)
/-- A pattern is an infinity. -/
def isInfBits (f : FFmt) (b : Nat) : Bool := decide (b % f.signBit = f.infBits)
/-- A pattern's sign. -/
def signOfBits (f : FFmt) (b : Nat) : Bool := decide (b % 2 ^ f.width ≥ f.signBit)

/-- The number a pattern stands for (R106). -/
def valueOfBits (f : FFmt) (b : Nat) : XReal :=
  let b := b % 2 ^ f.width
  let neg := signOfBits f b
  let e := bits b f.fw f.ew
  let m := bits b 0 f.fw
  if e = 2 ^ f.ew - 1 then (if m = 0 then .inf neg else .nan)
  else if e = 0 then .fin neg m (2 ^ (f.bias + f.fw - 1))
  else
    let sig := 2 ^ f.fw + m
    let x := f.bias + f.fw
    if e ≥ x then .fin neg (sig <<< (e - x)) 1 else .fin neg sig (2 ^ (x - e))

/-- ⌊log2 (n / d)⌋ for positive n and d. -/
def floorLog2 (n d : Nat) : Int :=
  let t : Int := (Nat.log2 n : Int) - (Nat.log2 d : Int)
  let below : Bool := if t ≥ 0 then decide (n < d <<< t.toNat) else decide (n <<< (-t).toNat < d)
  if below then t - 1 else t

/-- `round_to` of R7 for a binary format, of a finite number (R113 to R115): the pattern. -/
def roundFin (f : FFmt) (mode : RMode) (sat : Bool) (r : Nat) (neg : Bool) (n d : Nat) : Nat :=
  let s := if neg then f.signBit else 0
  if n = 0 then s else
  let emin : Int := 1 - (f.bias : Int)
  let e := max (floorLog2 n d) emin
  let q : Int := e - f.fw
  let n' := if q ≥ 0 then n else n <<< (-q).toNat
  let d' := if q ≥ 0 then d <<< q.toNat else d
  let m := n' / d'
  let rem := n' % d'
  let m' := if roundsUp mode neg (m % 2 == 1) rem d' r then m + 1 else m
  let b := ((e - emin).toNat <<< f.fw) + m'
  if b ≥ f.infBits then s + (if sat then f.infBits - 1 else f.infBits) else s + b

/-- `round_to` for a binary format of a number or an infinity. A NaN is decided by its page before it comes here; the
pattern given for it is the one of R122 for a NaN made outside any wave. -/
def roundTo (f : FFmt) (mode : RMode) (sat : Bool) (r : Nat) (x : XReal) : Nat :=
  match x with
  | .nan => f.signBit - 1
  | .inf neg => (if neg then f.signBit else 0) + f.infBits
  | .fin neg n d => roundFin f mode sat r neg n d

/-- A finite number rounded to an integer (R113, R114, R118). -/
def roundInt (mode : RMode) (r : Nat) (neg : Bool) (n d : Nat) : Int :=
  let m := n / d
  let rem := n % d
  let m' := if roundsUp mode neg (m % 2 == 1) rem d r then m + 1 else m
  if neg then -(m' : Int) else (m' : Int)

/-- An integer brought into a range. -/
def clampInt (lo hi x : Int) : Int := if x < lo then lo else if x > hi then hi else x

/-- `round_to` for an integer format: rounds and saturates; NaN gives 0 (R108, R118). -/
def roundToInt (lo hi : Int) (mode : RMode) (r : Nat) (x : XReal) : Int :=
  match x with
  | .nan => 0
  | .inf neg => if neg then lo else hi
  | .fin neg n d => clampInt lo hi (roundInt mode r neg n d)

/-- The number of an integer. -/
def xOfInt (i : Int) : XReal := .fin (decide (i < 0)) i.natAbs 1

/-- The opposite number. -/
def xNeg : XReal → XReal
  | .nan => .nan
  | .inf s => .inf (!s)
  | .fin s n d => .fin (!s) n d

/-- The product; 0 × ∞ is no number. The sign of a zero product is the exclusive OR of the signs (R107). -/
def xMul (x y : XReal) : XReal :=
  match x, y with
  | .nan, _ => .nan
  | _, .nan => .nan
  | .inf a, .inf b => .inf (a != b)
  | .inf a, .fin b n _ => if n = 0 then .nan else .inf (a != b)
  | .fin a n _, .inf b => if n = 0 then .nan else .inf (a != b)
  | .fin a n d, .fin b n' d' => .fin (a != b) (n * n') (d * d')

/-- Signed numerator. -/
def sgn (neg : Bool) (n : Nat) : Int := if neg then -(n : Int) else (n : Int)

/-- The exact sum of two numbers; ∞ − ∞ is no number. A zero sum of terms that are not zeros of one sign takes the
sign `zneg` (R107: −0 under rounding toward −∞, else +0). -/
def xAdd (zneg : Bool) (x y : XReal) : XReal :=
  match x, y with
  | .nan, _ => .nan
  | _, .nan => .nan
  | .inf a, .inf b => if a = b then .inf a else .nan
  | .inf a, .fin _ _ _ => .inf a
  | .fin _ _ _, .inf b => .inf b
  | .fin a n d, .fin b n' d' =>
    if n = 0 ∧ n' = 0 then .fin (if a = b then a else zneg) 0 1
    else
      let l := Nat.lcm d d'
      let s := sgn a (n * (l / d)) + sgn b (n' * (l / d'))
      if s = 0 then .fin zneg 0 1 else .fin (decide (s < 0)) s.natAbs l

/-- All terms are zeros of the sign `neg`. -/
def allZero (neg : Bool) (xs : List XReal) : Bool :=
  xs.all (fun x => match x with | .fin s 0 _ => s == neg | _ => false)

/-- The exact sum of several terms, rounded once later: zero signs as the third row of R107's table. -/
def xSum (zneg : Bool) (xs : List XReal) : XReal :=
  let s := xs.foldl (fun acc x => xAdd false acc x) (.fin false 0 1)
  match s with
  | .fin _ 0 _ => if allZero true xs then .fin true 0 1 else if allZero false xs then .fin false 0 1 else .fin zneg 0 1
  | _ => s

/-- x × 2^k -/
def xScale (x : XReal) (k : Int) : XReal :=
  match x with
  | .fin s n d => if k ≥ 0 then .fin s (n <<< k.toNat) d else .fin s n (d <<< (-k).toNat)
  | _ => x

/-- |x| ≤ |y| of finite magnitudes. -/
def magLe (n d n' d' : Nat) : Bool := decide (n * d' ≤ n' * d)

/-- x < y for numbers; false when either is no number; −0 equals +0. -/
def xLt (x y : XReal) : Bool :=
  match x, y with
  | .nan, _ => false
  | _, .nan => false
  | .inf a, .inf b => a && !b
  | .inf a, .fin _ _ _ => a
  | .fin _ _ _, .inf b => !b
  | .fin a n d, .fin b n' d' => decide (sgn a n * (d' : Int) < sgn b n' * (d : Int))

/-- x = y for numbers. -/
def xEq (x y : XReal) : Bool :=
  match x, y with
  | .nan, _ => false
  | _, .nan => false
  | .inf a, .inf b => a == b
  | .inf _, .fin _ _ _ => false
  | .fin _ _ _, .inf _ => false
  | .fin a n d, .fin b n' d' => decide (sgn a n * (d' : Int) = sgn b n' * (d : Int))

/-- The random fraction of element i of n rounded by one lane under stochastic rounding (R117). -/
def rfrac (rbits i n : Nat) : Nat :=
  if n ≤ 1 then rbits % 2 ^ 32
  else
    let w := 32 / n
    (bits rbits (w * i) w) <<< (32 - w)

/-! ## NaNs that carry their origin (R119 to R122) -/

/-- Where a generated NaN comes from: the h17 field of the PC, and the lane modulo 32. -/
structure NanCtx where
  h : Nat
  lane : Nat
deriving DecidableEq, Repr

/-- A NaN made outside any wave: both fields all ones (R122). -/
def nanOutside : NanCtx := { h := 0x1FFFF, lane := 31 }

/-- The context of a lane at a PC. -/
def nanAt (pc lane : Nat) : NanCtx := { h := h17 pc, lane := lane % 32 }

/-- The generated NaN of a format (R119). -/
def genNaN (f : FFmt) (c : NanCtx) : Nat :=
  match f with
  | .f32 => 0x7FC00000 + (c.h % 2 ^ 17) * 32 + c.lane % 32
  | .f16 => 0x7E00 + (c.h % 16) * 32 + c.lane % 32
  | .bf16 => 0x7FC0 + (c.h % 2) * 32 + c.lane % 32

/-- A NaN operand as the result: its quiet bit set (R120). -/
def quietNaN (f : FFmt) (b : Nat) : Nat := (b % 2 ^ f.width) ||| 2 ^ (f.fw - 1)

/-- A NaN that changes format (R121). -/
def convNaN (src dst : FFmt) (b : Nat) : Nat :=
  let s := signOfBits src b
  let sg := if s then dst.signBit else 0
  let narrow32 (f : Nat) (dst : FFmt) : Nat :=
    match dst with
    | .f32 => 0x7F800000 + (f ||| 0x400000)
    | .f16 => 0x7C00 + (0x200 ||| (bits f 5 4 <<< 5) ||| bits f 0 5)
    | .bf16 => 0x7F80 + (0x40 ||| (bits f 5 1 <<< 5) ||| bits f 0 5)
  let f := bits b 0 src.fw
  let f32 :=
    match src with
    | .f32 => f
    | .f16 => 0x400000 ||| (bits f 5 4 <<< 5) ||| bits f 0 5
    | .bf16 => 0x400000 ||| (bits f 5 1 <<< 5) ||| bits f 0 5
  if src = dst then sg + (quietNaN src b) % src.signBit else sg + narrow32 f32 dst

/-- The first NaN of the operands, quieted (R120). -/
def firstNaN (f : FFmt) (ops : List Nat) : Option Nat :=
  match ops with
  | [] => none
  | b :: rest => if isNaNBits f b then some (quietNaN f b) else firstNaN f rest

/-- One floating-point operation of operand patterns: a NaN operand decides, else the exact result is rounded once, and
an invalid one is a generated NaN (R119, R120, R140). -/
def fpResult (f : FFmt) (mode : RMode) (sat : Bool) (r : Nat) (c : NanCtx) (ops : List Nat) (exact : XReal) : Nat :=
  match firstNaN f ops with
  | some b => b
  | none =>
    match exact with
    | .nan => genNaN f c
    | x => roundTo f mode sat r x

/-- The sign of an exact zero under a mode (R107). -/
def zeroNeg (mode : RMode) : Bool := decide (mode = .rdn)

/-- x + y. -/
def fAdd (f : FFmt) (mode : RMode) (sat : Bool) (r : Nat) (c : NanCtx) (x y : Nat) : Nat :=
  fpResult f mode sat r c [x, y] (xAdd (zeroNeg mode) (valueOfBits f x) (valueOfBits f y))
/-- x − y. -/
def fSub (f : FFmt) (mode : RMode) (sat : Bool) (r : Nat) (c : NanCtx) (x y : Nat) : Nat :=
  fpResult f mode sat r c [x, y] (xAdd (zeroNeg mode) (valueOfBits f x) (xNeg (valueOfBits f y)))
/-- x × y. -/
def fMul (f : FFmt) (mode : RMode) (sat : Bool) (r : Nat) (c : NanCtx) (x y : Nat) : Nat :=
  fpResult f mode sat r c [x, y] (xMul (valueOfBits f x) (valueOfBits f y))
/-- x × y + z, rounded once. -/
def fFma (f : FFmt) (mode : RMode) (sat : Bool) (r : Nat) (c : NanCtx) (x y z : Nat) : Nat :=
  fpResult f mode sat r c [x, y, z]
    (xAdd (zeroNeg mode) (xMul (valueOfBits f x) (valueOfBits f y)) (valueOfBits f z))

/-- A negated pattern. -/
def fNegBits (f : FFmt) (b : Nat) : Nat := (b % 2 ^ f.width) ^^^ f.signBit
/-- A pattern without its sign. -/
def fAbsBits (f : FFmt) (b : Nat) : Nat := b % f.signBit

/-- The order of FMIN and FMAX: −0 below +0 (R141). -/
def fTotalLt (f : FFmt) (x y : Nat) : Bool :=
  let vx := valueOfBits f x
  let vy := valueOfBits f y
  xLt vx vy || (xEq vx vy && signOfBits f x && !signOfBits f y)

/-- FMIN or FMAX (R141). -/
def fMinMax (f : FFmt) (isMax : Bool) (x y : Nat) : Nat :=
  match isNaNBits f x, isNaNBits f y with
  | true, true => quietNaN f x
  | true, false => y
  | false, true => x
  | false, false =>
    if isMax then (if fTotalLt f x y then y else x) else (if fTotalLt f y x then y else x)

/-- FCMP's conditions (R142). -/
def fCond (cc x y : Nat) : Bool :=
  let vx := valueOfBits .f32 x
  let vy := valueOfBits .f32 y
  let un := isNaNBits .f32 x || isNaNBits .f32 y
  match cc with
  | 0 => xEq vx vy
  | 1 => !xEq vx vy
  | 2 => xLt vx vy
  | 3 => xLt vx vy || xEq vx vy
  | 4 => xLt vy vx
  | 5 => xLt vy vx || xEq vx vy
  | 6 => !un
  | _ => un

/-- FCLASS's class word (R143). -/
def fClass (x : Nat) : Nat :=
  let e := bits x 23 8
  let m := bits x 0 23
  (if e = 0 ∧ m = 0 then 1 else 0) + (if e = 0 ∧ m ≠ 0 then 2 else 0)
  + (if e ≠ 0 ∧ e ≠ 255 then 4 else 0) + (if e = 255 ∧ m = 0 then 8 else 0)
  + (if e = 255 ∧ m ≥ 2 ^ 22 then 16 else 0) + (if e = 255 ∧ m ≠ 0 ∧ m < 2 ^ 22 then 32 else 0)
  + (if bit x 31 then 64 else 0)

end Sys2Proof.Machine
end

