-- ==== Sys2Proof/Machine/D8.lean ====
section
/-! DEFINITION. D8 codes and SC8 block scales (05 R109 to R112, R127 to R129). -/
namespace Sys2Proof.Machine

/-- Denominator in which every D8 magnitude is a whole number: 2^5 × 10^6. -/
def d8Unit : Nat := 32000000

/-- Leading zeros of the six-bit field (R109). -/
def d8Z (code : Nat) : Nat := clzN (code % 64) 6
/-- The field F below the marker (R109). -/
def d8F (code : Nat) : Nat := (code % 64) % 2 ^ (5 - d8Z code)

/-- The magnitude of a code whose field is nonzero, in units of 1 / `d8Unit` (R109): (1 + 9F/2^w) × 10^E. -/
def d8Mag (code : Nat) : Nat :=
  let z := d8Z code
  let w := 5 - z
  let m := (2 ^ w + 9 * d8F code) * 2 ^ (5 - w)
  if bit code 6 then m * 10 ^ (6 + z) else m * 10 ^ (5 - z)

/-- `d8_value` of R7 and R109. -/
def d8Value (code : Nat) : XReal :=
  let s := bit code 7
  if code % 64 = 0 then
    if bit code 6 then .inf s else if s then .nan else .fin false 0 1
  else .fin s (d8Mag code) d8Unit

/-- The codes of the positive magnitudes, rising in value (R110). -/
def d8Codes : List Nat :=
  [0x01, 0x02, 0x03] ++ (List.range 4).map (· + 0x04) ++ (List.range 8).map (· + 0x08)
  ++ (List.range 16).map (· + 0x10) ++ (List.range 32).map (· + 0x20) ++ (List.range 32).map (· + 0x60)
  ++ (List.range 16).map (· + 0x50) ++ (List.range 8).map (· + 0x48) ++ (List.range 4).map (· + 0x44)
  ++ [0x42, 0x43, 0x41]

/-- The neighbours of a magnitude n/d among 0 and the positive magnitudes: the greatest code not above it (0 for the
magnitude 0) and the next code (R111). -/
def d8Neighbours (n d lo : Nat) (cs : List Nat) : Nat × Nat :=
  match cs with
  | [] => (lo, lo)
  | c :: rest => if d8Mag c * d ≤ n * d8Unit then d8Neighbours n d c rest else (lo, c)

/-- The magnitude of a code or of 0. -/
def d8Mag0 (code : Nat) : Nat := if code % 64 = 0 then 0 else d8Mag code

/-- Whether the neighbour above is taken (R111, R114): the tie rules and the odd rule are those of D8. -/
def d8Up (mode : RMode) (neg : Bool) (lo hi rem d r : Nat) : Bool :=
  if rem = 0 then false else
  match mode with
  | .rne =>
    if 2 * rem > d then true
    else if 2 * rem < d then false
    else if lo = 0 then false
    else if d8F lo % 2 = 0 ∧ d8F hi % 2 = 0 then true
    else decide (d8F hi % 2 = 0)
  | .rodd => !decide (lo ≠ 0 ∧ d8F lo % 2 = 1)
  | m => roundsUp m neg false rem d r

/-- `d8_encode` of R7 and R111. -/
def d8Encode (x : XReal) (mode : RMode) (sat : Bool) (r : Nat) : Nat :=
  match x with
  | .nan => 0x80
  | .inf s => if s then 0xC0 else 0x40
  | .fin s n d =>
    let sg := if s then 0x80 else 0
    if n > 100000 * d then (if sat then sg + 0x41 else sg + 0x40)
    else
      let p := d8Neighbours n d 0 d8Codes
      let lo := p.1
      let hi := p.2
      let num := n * d8Unit - d8Mag0 lo * d
      let den := (d8Mag0 hi - d8Mag0 lo) * d
      let c := if d8Up mode s lo hi num den r then hi else lo
      if c = 0 then 0 else sg + c

/-- The least block scale e in 0..254 with M ≤ L × 2^(e−127), for M = n/d and a whole L (R129, 06 R153). -/
def leastScale (n d l : Nat) : Nat :=
  ((List.range 255).find? (fun e => decide (n * 2 ^ 127 ≤ l * 2 ^ e * d))).getD 254

/-- The greatest magnitude among finite values, as numerator and denominator; 0 when none is finite. -/
def maxFinite (xs : List XReal) : Nat × Nat :=
  xs.foldl (fun acc x => match x with
    | .fin _ n d => if n * acc.2 > acc.1 * d then (n, d) else acc
    | _ => acc) (0, 1)

/-- The sign word of a block (R127). -/
def signWord (seed block : Nat) : Nat := mix32 ((seed ^^^ ((block * 0x9E3779B1) % 2 ^ 32)) % 2 ^ 32)

/-- One butterfly stage over 32 elements (R128); a generated NaN carries the lane it lands in (R119). -/
def butterflyStage (pc base s : Nat) (y : List Nat) : List Nat :=
  (List.range 32).map (fun l =>
    let up := l ||| (1 <<< s)
    let dn := if bit l s then l - (1 <<< s) else l
    let a := y.getD dn 0
    let b := y.getD up 0
    if bit l s then fSub .f32 .rne false 0 (nanAt pc (base + up)) a b
    else fAdd .f32 .rne false 0 (nanAt pc (base + dn)) a b)

/-- The five stages and the factor 1/√32 (R128). -/
def butterflies (pc base : Nat) (y : List Nat) : List Nat :=
  let y := [0, 1, 2, 3, 4].foldl (fun y s => butterflyStage pc base s y) y
  (List.range 32).map (fun l => fMul .f32 .rne false 0 (nanAt pc (base + l)) (y.getD l 0) 0x3E3504F3)

/-- The elements negated where the sign word has a one (R127). -/
def applySigns (h : Nat) (y : List Nat) : List Nat :=
  (List.range 32).map (fun l => if bit h l then fNegBits .f32 (y.getD l 0) else y.getD l 0)

end Sys2Proof.Machine
end

