-- ==== Sys2Proof/Config.lean ====
section
/-! DEFINITION. What an implementation fixes: the populated size of each die's off-package DRAM (15 R339), the keys and
images that the manual does not give (19, 20 R446 to R449; entry 7), and the free values, which have no body. -/
namespace Sys2Proof

/-- Bytes of off-package DRAM populated on a die (15 R339). -/
opaque Config.offPackage : Nat → Nat

/-- The signature the device makes under its identity key of a SHA-256 digest (20 R448): 384 bytes as a number. -/
opaque Config.deviceSign : Nat → Nat

/-- Whether a firmware image verifies against the Koraskop root key (20 R449). -/
opaque Config.rootVerifies : List Byte → Bool

/-- The digest of the ROM firmware with which MR0 is extended (20 R447). -/
opaque Config.romDigest : Nat

/-- The moduli of the code-signing keys that a loaded firmware image carries (20 R446), at most eight. -/
opaque Config.keysOf : List Byte → List Nat

/-- The REASON of a refusal for which the manual gives no code (20 R432), by OPCODE and cause. -/
opaque Config.refusalCode : Nat → Nat → BitVec 16

/-- The body-bias setting that calibration gives a cluster (18 R407). -/
opaque Config.biasSetting : Nat → BitVec 3

/-- Bytes of the management core's own memory that nothing has written: its ROM and tables (20 R439). -/
opaque Config.mgmtRom : Nat → Byte

/-- The n-th word that the manual leaves open (entry 8). -/
opaque Config.freeWord : Nat → Word

end Sys2Proof
end

