-- ==== Sys2Proof/Syntax.lean ====
section
/-! DEFINITION. Syntax: the instruction formats of 03 R65 to R75 as plain records, and Instr, one constructor for
each row of spec/opcode_table.json: 216 encoded instructions, whose fields are kept as the bits the words hold, and 124
steps of the device's agents (95_what_each_step_holds.md), which have no encoding and whose arguments select what they
act on or carry what comes from outside. -/
namespace Sys2Proof

/-- The two instruction streams of a wave (02 R24). -/
inductive Stream where
  | lead
  | lane
deriving DecidableEq, Repr

/-- BA and BS, one base word, with a literal when `lit` holds one (R58, R61, R65). -/
structure BaF where
  lit : Option Dword
  d : BitVec 7
  a : BitVec 7
  b : BitVec 7
deriving DecidableEq, Repr

/-- BB short (R66). -/
structure BbF where
  off21 : BitVec 21
deriving DecidableEq, Repr

/-- BB long (R66). -/
structure BlF where
  off21 : BitVec 21
  a9 : BitVec 9
  rsvd1 : BitVec 18
  xop : BitVec 5
  off21b : BitVec 21
  rsvd2 : BitVec 11
deriving DecidableEq, Repr

/-- BM (R67). -/
structure BmF where
  d : BitVec 7
  a : BitVec 7
  off7 : BitVec 7
deriving DecidableEq, Repr

/-- XA (R68). -/
structure XaF where
  lit : Option Dword
  imm21 : BitVec 21
  d9 : BitVec 9
  a9 : BitVec 9
  b9 : BitVec 9
  xop : BitVec 5
  c9 : BitVec 9
  rnd : BitVec 3
  sat : BitVec 1
  kmask : BitVec 3
  mod : BitVec 4
  order : BitVec 4
  imm8 : BitVec 8
deriving DecidableEq, Repr

/-- XM (R71). -/
structure XmF where
  lit : Option Dword
  off21 : BitVec 21
  d9 : BitVec 9
  a9 : BitVec 9
  b9 : BitVec 9
  xop : BitVec 5
  c9 : BitVec 9
  rsvd1 : BitVec 4
  kmask : BitVec 3
  rsvd2 : BitVec 4
  order : BitVec 4
  imm8 : BitVec 8
deriving DecidableEq, Repr

/-- XQ (R73). -/
structure XqF where
  lit : Option Dword
  imm21 : BitVec 21
  d9 : BitVec 9
  a9 : BitVec 9
  b9 : BitVec 9
  xop : BitVec 5
  c9 : BitVec 9
  rsvd1 : BitVec 3
  push : BitVec 1
  kmask : BitVec 3
  rsvd2 : BitVec 4
  order : BitVec 4
  imm8 : BitVec 8
deriving DecidableEq, Repr

/-- XT (R74). -/
structure XtF where
  lit : Option Dword
  tile : BitVec 6
  aux6 : BitVec 6
  imm9 : BitVec 9
  d9 : BitVec 9
  a9 : BitVec 9
  b9 : BitVec 9
  xop : BitVec 5
  c9 : BitVec 9
  rnd : BitVec 3
  sat : BitVec 1
  kmask : BitVec 3
  skew : BitVec 1
  rsvd1 : BitVec 7
  imm8 : BitVec 8
deriving DecidableEq, Repr

/-- XS (R75). WAIT reads bits 31 to 11 of word 0 as `imm12 ++ sel9`. -/
structure XsF where
  lit : Option Dword
  sel9 : BitVec 9
  imm12 : BitVec 12
  d9 : BitVec 9
  a9 : BitVec 9
  b9 : BitVec 9
  xop : BitVec 5
  c9 : BitVec 9
  rsvd1 : BitVec 4
  kmask : BitVec 3
  rsvd2 : BitVec 4
  order : BitVec 4
  imm8 : BitVec 8
deriving DecidableEq, Repr

/-- What the array code finds at a Basin cache or DRAM access (20 R443): input to HOME_MISS_FILL. -/
inductive EccOutcome where
  | clean
  /-- one symbol of a 32-byte burst of the line -/
  | corrected (burst sym : Nat)
  | uncorrectable (burst sym : Nat)
deriving DecidableEq, Repr

/-- A vertical-bus parity error (20 R444): the burst of the line, the beat and the wire that fail, and the retry that
succeeds, 1 to 4; any other number when the fourth retry fails too. Input to BURST_PARITY_ERROR. -/
structure BurstError where
  burst : Nat
  beat : Nat
  wire : Nat
  retries : Nat
deriving DecidableEq, Repr

/-- The instructions and steps of the KSF-920. -/
inductive Instr where
  /-- IADD_BA, R137. -/
  | iaddBA (f : BaF)
  /-- IADD_XA, R137. -/
  | iaddXA (f : XaF)
  /-- ISUB_BA, R137. -/
  | isubBA (f : BaF)
  /-- ISUB_XA, R137. -/
  | isubXA (f : XaF)
  /-- IMUL_BA, R137. -/
  | imulBA (f : BaF)
  /-- IMUL_XA, R137. -/
  | imulXA (f : XaF)
  /-- IMULHI_BA, R137. -/
  | imulhiBA (f : BaF)
  /-- IMULHI_XA, R137. -/
  | imulhiXA (f : XaF)
  /-- IMAD, R137. -/
  | imad (f : XaF)
  /-- IMIN_BA, R137. -/
  | iminBA (f : BaF)
  /-- IMIN_XA, R137. -/
  | iminXA (f : XaF)
  /-- IMAX_BA, R137. -/
  | imaxBA (f : BaF)
  /-- IMAX_XA, R137. -/
  | imaxXA (f : XaF)
  /-- AND_BA, R137. -/
  | andBA (f : BaF)
  /-- AND_XA, R137. -/
  | andXA (f : XaF)
  /-- OR_BA, R137. -/
  | orBA (f : BaF)
  /-- OR_XA, R137. -/
  | orXA (f : XaF)
  /-- XOR_BA, R137. -/
  | xorBA (f : BaF)
  /-- XOR_XA, R137. -/
  | xorXA (f : XaF)
  /-- ANDN_BA, R137. -/
  | andnBA (f : BaF)
  /-- ANDN_XA, R137. -/
  | andnXA (f : XaF)
  /-- SHL_BA, R138. -/
  | shlBA (f : BaF)
  /-- SHL_XA, R138. -/
  | shlXA (f : XaF)
  /-- SHR_BA, R138. -/
  | shrBA (f : BaF)
  /-- SHR_XA, R138. -/
  | shrXA (f : XaF)
  /-- SAR_BA, R138. -/
  | sarBA (f : BaF)
  /-- SAR_XA, R138. -/
  | sarXA (f : XaF)
  /-- ROT_BA, R138. -/
  | rotBA (f : BaF)
  /-- ROT_XA, R138. -/
  | rotXA (f : XaF)
  /-- BFX, R138. -/
  | bfx (f : XaF)
  /-- BFI, R138. -/
  | bfi (f : XaF)
  /-- POPC_BA, R137. -/
  | popcBA (f : BaF)
  /-- POPC_XA, R137. -/
  | popcXA (f : XaF)
  /-- CLZ_BA, R137. -/
  | clzBA (f : BaF)
  /-- CLZ_XA, R137. -/
  | clzXA (f : XaF)
  /-- CTZ_BA, R137. -/
  | ctzBA (f : BaF)
  /-- CTZ_XA, R137. -/
  | ctzXA (f : XaF)
  /-- BREV_BA, R137. -/
  | brevBA (f : BaF)
  /-- BREV_XA, R137. -/
  | brevXA (f : XaF)
  /-- ICMP, R139. -/
  | icmp (f : XaF)
  /-- SEL, R137. -/
  | sel (f : XaF)
  /-- MOV_BA, R162. -/
  | movBA (f : BaF)
  /-- MOV_XA, R162. -/
  | movXA (f : XaF)
  /-- MOVREL, R162. -/
  | movrel (f : XaF)
  /-- MOVRELW, R162. -/
  | movrelw (f : XaF)
  /-- GETEXEC_BA, R163. -/
  | getexecBA (f : BaF)
  /-- GETEXEC_XA, R163. -/
  | getexecXA (f : XaF)
  /-- SETEXEC_BA, R163. -/
  | setexecBA (f : BaF)
  /-- SETEXEC_XA, R163. -/
  | setexecXA (f : XaF)
  /-- VRDL, R164. -/
  | vrdl (f : XaF)
  /-- VWRL, R164. -/
  | vwrl (f : XaF)
  /-- KAND, R162. -/
  | kand (f : BaF)
  /-- KOR, R162. -/
  | kor (f : BaF)
  /-- KXOR, R162. -/
  | kxor (f : BaF)
  /-- KNOT, R162. -/
  | knot (f : BaF)
  /-- KMOV, R162. -/
  | kmov (f : BaF)
  /-- FADD_BA, R140. -/
  | faddBA (f : BaF)
  /-- FADD_XA, R140. -/
  | faddXA (f : XaF)
  /-- FSUB_BA, R140. -/
  | fsubBA (f : BaF)
  /-- FSUB_XA, R140. -/
  | fsubXA (f : XaF)
  /-- FMUL_BA, R140. -/
  | fmulBA (f : BaF)
  /-- FMUL_XA, R140. -/
  | fmulXA (f : XaF)
  /-- FFMA, R140. -/
  | ffma (f : XaF)
  /-- FMIN_BA, R141. -/
  | fminBA (f : BaF)
  /-- FMIN_XA, R141. -/
  | fminXA (f : XaF)
  /-- FMAX_BA, R141. -/
  | fmaxBA (f : BaF)
  /-- FMAX_XA, R141. -/
  | fmaxXA (f : XaF)
  /-- FCMP, R142. -/
  | fcmp (f : XaF)
  /-- FCLASS, R143. -/
  | fclass (f : XaF)
  /-- FRCP_BA, R144. -/
  | frcpBA (f : BaF)
  /-- FRCP_XA, R144. -/
  | frcpXA (f : XaF)
  /-- FRSQ_BA, R144. -/
  | frsqBA (f : BaF)
  /-- FRSQ_XA, R144. -/
  | frsqXA (f : XaF)
  /-- FSQRT_BA, R144. -/
  | fsqrtBA (f : BaF)
  /-- FSQRT_XA, R144. -/
  | fsqrtXA (f : XaF)
  /-- FEXP2_BA, R144. -/
  | fexp2BA (f : BaF)
  /-- FEXP2_XA, R144. -/
  | fexp2XA (f : XaF)
  /-- FLOG2_BA, R144. -/
  | flog2BA (f : BaF)
  /-- FLOG2_XA, R144. -/
  | flog2XA (f : XaF)
  /-- FSINPI_BA, R144. -/
  | fsinpiBA (f : BaF)
  /-- FSINPI_XA, R144. -/
  | fsinpiXA (f : XaF)
  /-- FCOSPI_BA, R144. -/
  | fcospiBA (f : BaF)
  /-- FCOSPI_XA, R144. -/
  | fcospiXA (f : XaF)
  /-- HFMA2, R147. -/
  | hfma2 (f : XaF)
  /-- HADD2_BA, R147. -/
  | hadd2BA (f : BaF)
  /-- HADD2_XA, R147. -/
  | hadd2XA (f : XaF)
  /-- HMUL2_BA, R147. -/
  | hmul2BA (f : BaF)
  /-- HMUL2_XA, R147. -/
  | hmul2XA (f : XaF)
  /-- DOT4D8, R148. -/
  | dot4d8 (f : XaF)
  /-- DOT2H, R149. -/
  | dot2h (f : XaF)
  /-- CVT, R151. -/
  | cvt (f : XaF)
  /-- PACK, R152. -/
  | pack (f : XaF)
  /-- UNPACK, R152. -/
  | unpack (f : XaF)
  /-- QSCALE, R153. -/
  | qscale (f : XaF)
  /-- DQSCALE, R153. -/
  | dqscale (f : XaF)
  /-- HADQ, R154. -/
  | hadq (f : XaF)
  /-- SHFL_BA, R156. -/
  | shflBA (f : BaF)
  /-- SHFL_XA, R156. -/
  | shflXA (f : XaF)
  /-- BCAST_BA, R156. -/
  | bcastBA (f : BaF)
  /-- BCAST_XA, R156. -/
  | bcastXA (f : XaF)
  /-- QSWAP_BA, R157. -/
  | qswapBA (f : BaF)
  /-- QSWAP_XA, R157. -/
  | qswapXA (f : XaF)
  /-- QBCAST_BA, R157. -/
  | qbcastBA (f : BaF)
  /-- QBCAST_XA, R157. -/
  | qbcastXA (f : XaF)
  /-- VOTE_BA, R158. -/
  | voteBA (f : BaF)
  /-- VOTE_XA, R158. -/
  | voteXA (f : XaF)
  /-- REDUCE, R159. -/
  | reduce (f : XaF)
  /-- SCAN, R159. -/
  | scan (f : XaF)
  /-- HIST, R160. -/
  | hist (f : XaF)
  /-- HMERGE, R160. -/
  | hmerge (f : XaF)
  /-- CXSTAGE, R161. -/
  | cxstage (f : XaF)
  /-- BRDQ, R178. -/
  | brdq (f : BbF)
  /-- CALLL, R181. -/
  | calll (f : BbF)
  /-- BDIV, R179. -/
  | bdiv (f : BlF)
  /-- RECONV, R180. -/
  | reconv (f : BaF)
  /-- RETL, R181. -/
  | retl (f : BaF)
  /-- EXIT, R182. -/
  | exit (f : BaF)
  /-- LD_BM, R240. -/
  | ldBM (minor : BitVec 3) (f : BmF)
  /-- LD_XM, R240. -/
  | ldXM (minor : BitVec 3) (f : XmF)
  /-- ST_BM, R240. -/
  | stBM (minor : BitVec 3) (f : BmF)
  /-- ST_XM, R240. -/
  | stXM (minor : BitVec 3) (f : XmF)
  /-- LDSP, R241. -/
  | ldsp (f : XmF)
  /-- STSP, R241. -/
  | stsp (f : XmF)
  /-- STT, R246. -/
  | stt (f : XmF)
  /-- PREF, R248. -/
  | pref (f : XmF)
  /-- ATOM, R244. -/
  | atom (f : XmF)
  /-- CADD, R247. -/
  | cadd (f : XmF)
  /-- APPEND, R325. -/
  | append (f : XqF)
  /-- MMA, R267. -/
  | mma (f : XtF)
  /-- MZERO, R273. -/
  | mzero (f : XtF)
  /-- MRD, R274. -/
  | mrd (f : XtF)
  /-- MWR, R274. -/
  | mwr (f : XtF)
  /-- MLDT, R275. -/
  | mldt (f : XtF)
  /-- MSTORE, R275. -/
  | mstore (f : XtF)
  /-- MFENCE, R276. -/
  | mfence (f : XtF)
  /-- MWAIT, R277. -/
  | mwait (f : XtF)
  /-- MSIG, R278. -/
  | msig (f : XtF)
  /-- MPAIR, R272. -/
  | mpair (f : XtF)
  /-- SADD_BS, R166. -/
  | saddBS (f : BaF)
  /-- SADD_XA, R166. -/
  | saddXA (f : XaF)
  /-- SSUB_BS, R166. -/
  | ssubBS (f : BaF)
  /-- SSUB_XA, R166. -/
  | ssubXA (f : XaF)
  /-- SMUL_BS, R166. -/
  | smulBS (f : BaF)
  /-- SMUL_XA, R166. -/
  | smulXA (f : XaF)
  /-- SMULHI_BS, R166. -/
  | smulhiBS (f : BaF)
  /-- SMULHI_XA, R166. -/
  | smulhiXA (f : XaF)
  /-- SAND_BS, R166. -/
  | sandBS (f : BaF)
  /-- SAND_XA, R166. -/
  | sandXA (f : XaF)
  /-- SOR_BS, R166. -/
  | sorBS (f : BaF)
  /-- SOR_XA, R166. -/
  | sorXA (f : XaF)
  /-- SXOR_BS, R166. -/
  | sxorBS (f : BaF)
  /-- SXOR_XA, R166. -/
  | sxorXA (f : XaF)
  /-- SMOV_BS, R166. -/
  | smovBS (f : BaF)
  /-- SMOV_XA, R166. -/
  | smovXA (f : XaF)
  /-- SSHL_BS, R167. -/
  | sshlBS (f : BaF)
  /-- SSHL_XA, R167. -/
  | sshlXA (f : XaF)
  /-- SSHR_BS, R167. -/
  | sshrBS (f : BaF)
  /-- SSHR_XA, R167. -/
  | sshrXA (f : XaF)
  /-- SSAR_BS, R167. -/
  | ssarBS (f : BaF)
  /-- SSAR_XA, R167. -/
  | ssarXA (f : XaF)
  /-- SMIN_BS, R166. -/
  | sminBS (f : BaF)
  /-- SMIN_XA, R166. -/
  | sminXA (f : XaF)
  /-- SMAX_BS, R166. -/
  | smaxBS (f : BaF)
  /-- SMAX_XA, R166. -/
  | smaxXA (f : XaF)
  /-- SCMP, R165. -/
  | scmp (f : XaF)
  /-- SSEL, R165. -/
  | ssel (f : XaF)
  /-- SBFX, R167. -/
  | sbfx (f : XaF)
  /-- SBR, R170. -/
  | sbr (f : BbF)
  /-- SBRC, R170. -/
  | sbrc (f : BlF)
  /-- SCALL, R170. -/
  | scall (f : BbF)
  /-- SLOOP, R170. -/
  | sloop (f : BlF)
  /-- JMPL, R173. -/
  | jmpl (f : BbF)
  /-- SRET, R170. -/
  | sret (f : BaF)
  /-- SDONE, R172. -/
  | sdone (f : BaF)
  /-- DQPUSH, R174. -/
  | dqpush (f : BaF)
  /-- VGIVE, R185. -/
  | vgive (f : BaF)
  /-- VCLAIM, R185. -/
  | vclaim (f : BaF)
  /-- ABORT, R186. -/
  | abort (f : BaF)
  /-- POLLABT, R186. -/
  | pollabt (f : BaF)
  /-- LDS_BM, R249. -/
  | ldsBM (f : BmF)
  /-- LDS_XM, R249. -/
  | ldsXM (f : XmF)
  /-- STS_BM, R249. -/
  | stsBM (f : BmF)
  /-- STS_XM, R249. -/
  | stsXM (f : XmF)
  /-- LDLQ, R250. -/
  | ldlq (f : XmF)
  /-- CRANGE_OPEN, R253. -/
  | crangeOpen (f : XmF)
  /-- CRANGE_CLOSE, R253. -/
  | crangeClose (f : XmF)
  /-- PHREL_BS, R254. -/
  | phrelBS (f : BaF)
  /-- PHREL_XM, R254. -/
  | phrelXM (f : XmF)
  /-- PHACQ_BS, R254. -/
  | phacqBS (f : BaF)
  /-- PHACQ_XM, R254. -/
  | phacqXM (f : XmF)
  /-- PHASE_BS, R254. -/
  | phaseBS (f : BaF)
  /-- PHASE_XM, R254. -/
  | phaseXM (f : XmF)
  /-- CONSUME, R322. -/
  | consume (f : XqF)
  /-- RNEXT, R329. -/
  | rnext (f : XqF)
  /-- LAUNCH, R330. -/
  | launch (f : XqF)
  /-- CPY, R332. -/
  | cpy (f : XqF)
  /-- COLL, R333. -/
  | coll (f : XqF)
  /-- WAIT, R368. -/
  | wait (f : XsF)
  /-- SEMINC, R375. -/
  | seminc (f : XsF)
  /-- SEMSET, R375. -/
  | semset (f : XsF)
  /-- SEMWAIT, R375. -/
  | semwait (f : XsF)
  /-- BARINIT, R376. -/
  | barinit (f : XsF)
  /-- BARARR, R376. -/
  | bararr (f : XsF)
  /-- BAREXP, R376. -/
  | barexp (f : XsF)
  /-- BARWAIT, R377. -/
  | barwait (f : XsF)
  /-- JOINSET, R378. -/
  | joinset (f : XsF)
  /-- JOINADD, R378. -/
  | joinadd (f : XsF)
  /-- JOINDEC, R378. -/
  | joindec (f : XsF)
  /-- TRAP, R400. -/
  | trap (f : XsF)
  /-- ERET, R401. -/
  | eret (f : XsF)
  /-- RDSR, R402. -/
  | rdsr (f : XsF)
  /-- WRSR, R402. -/
  | wrsr (f : XsF)
  /-- RDLEAD, R403. -/
  | rdlead (f : XsF)
  /-- WRLEAD, R403. -/
  | wrlead (f : XsF)
  /-- YIELD, R404. -/
  | yield (f : XsF)
  /-- SLEEP, R404. -/
  | sleep (f : XsF)
  /-- RNDMODE_WRITE, R101. -/
  | rndmodeWrite (v : BitVec 3)
  /-- THROTTLE_WRITE, R101. -/
  | throttleWrite (g : Nat) (v : BitVec 3)
  /-- TALERT_WRITE, R408. -/
  | talertWrite (v : BitVec 24)
  /-- CBIAS_WRITE, R407. -/
  | cbiasWrite (g : Nat) (v : BitVec 3)
  /-- CBMAX_WRITE, R412. -/
  | cbmaxWrite (v : BitVec 5)
  /-- SPECIAL_REGISTER_WRITE, R102. -/
  | specialRegisterWrite (n : BitVec 9) (v : Dword)
  /-- STARVATION_PROMOTE_C, R47. -/
  | starvationPromoteC (c : Nat) (slot : Nat)
  /-- STARVATION_PROMOTE_P, R47. -/
  | starvationPromoteP (c : Nat) (slot : Nat)
  /-- COUPLING_DEADLOCK, R28. -/
  | couplingDeadlock (c : Nat) (slot : Nat)
  /-- BLOCK_RESERVE, R48. -/
  | blockReserve (i : Nat)
  /-- RESERVATION_WAIT_EXPIRY, R48. -/
  | reservationWaitExpiry (i : Nat)
  /-- BLOCK_START, R19. -/
  | blockStart (i : Nat)
  /-- WAVE_RETIRE, R20. -/
  | waveRetire (c : Nat) (slot : Nat)
  /-- WORK_REQUEST, R39. -/
  | workRequest (c : Nat)
  /-- RANGE_RECORD_BIND, R37. -/
  | rangeRecordBind (die : Nat) (node : Nat)
  /-- RECORD_ENQUEUE, R289. -/
  | recordEnqueue (i : Nat)
  /-- QUEUE_SPILL_RETURN, R287. -/
  | queueSpillReturn (die : Nat) (node : Nat)
  /-- BATCH_CLOSE, R291. -/
  | batchClose (die : Nat) (node : Nat)
  /-- BATCH_MAXWAIT_EXPIRY, R291. -/
  | batchMaxwaitExpiry (die : Nat) (node : Nat)
  /-- BATCH_ADMIT, R292. -/
  | batchAdmit (i : Nat)
  /-- STEAL_CHECK, R299. -/
  | stealCheck (die : Nat) (node : Nat)
  /-- STEAL_ARRIVAL, R300. -/
  | stealArrival (i : Nat)
  /-- CONSUME_RETRY, R322. -/
  | consumeRetry (c : Nat) (slot : Nat)
  /-- JOIN_RECORD_ARRIVAL, R326. -/
  | joinRecordArrival (i : Nat)
  /-- SIGNAL_APPLY, R374. -/
  | signalApply (i : Nat)
  /-- MASS_RELEASE_ADMIT, R414. -/
  | massReleaseAdmit
  /-- HOME_LOAD, R221. -/
  | homeLoad (i : Nat)
  /-- HOME_MISS_FILL, R214. -/
  | homeMissFill (line : Nat) (ecc : EccOutcome)
  /-- BURST_PARITY_ERROR, R444. -/
  | burstParityError (line : Nat) (e : BurstError)
  /-- FILL_RECEIVE, R220. -/
  | fillReceive (i : Nat)
  /-- HOME_STORE, R218. -/
  | homeStore (i : Nat)
  /-- HOME_ATOM, R244. -/
  | homeAtom (i : Nat)
  /-- UPDATE_RECEIVE, R218. -/
  | updateReceive (i : Nat)
  /-- STORE_ACK, R218. -/
  | storeAck (i : Nat)
  /-- LOAD_RETURN, R238. -/
  | loadReturn (i : Nat)
  /-- LQ_FILL, R250. -/
  | lqFill (c : Nat) (slot : Nat)
  /-- PUSH_RECEIVE, R222. -/
  | pushReceive (i : Nat)
  /-- PUSH_REPLY, R221. -/
  | pushReply (i : Nat)
  /-- DEREGISTRATION, R221. -/
  | deregistration (i : Nat)
  /-- RANGE_OPEN_NOTICE, R220. -/
  | rangeOpenNotice (i : Nat)
  /-- RANGE_NOTICE_REPLY, R221. -/
  | rangeNoticeReply (i : Nat)
  /-- HOLDER_REGISTER, R221. -/
  | holderRegister (i : Nat)
  /-- FOLD_PROBE, R220. -/
  | foldProbe (i : Nat)
  /-- FOLD_COMPLETE, R225. -/
  | foldComplete (line : Nat)
  /-- EVICTED_PARTIAL, R217. -/
  | evictedPartial (i : Nat)
  /-- REMOTE_WRITE_COUNT, R226. -/
  | remoteWriteCount (die : Nat) (page : Nat)
  /-- MIGRATION_FORWARD, R221. -/
  | migrationForward (i : Nat)
  /-- MIGRATION_INSTALL, R227. -/
  | migrationInstall (i : Nat)
  /-- MIGRATION_POINTER_RETIRE, R227. -/
  | migrationPointerRetire (i : Nat)
  /-- DEAD_AGENT_TIMEOUT, R228. -/
  | deadAgentTimeout (a : Nat)
  /-- HOST_SNOOP_INVALIDATE, R230. -/
  | hostSnoopInvalidate (line : Nat) (bytes : List (Nat × Byte))
  /-- PAGE_WALK, R346. -/
  | pageWalk (die : Nat) (va : Nat)
  /-- FAULT_RECORD_WRITE, R437. -/
  | faultRecordWrite
  /-- MATRIX_ENTRY_TAKE, R261. -/
  | matrixEntryTake (c : Nat)
  /-- MSIG_ARRIVAL, R278. -/
  | msigArrival (c : Nat) (i : Nat)
  /-- MATRIX_ENTRY_COMMIT, R264. -/
  | matrixEntryCommit (c : Nat) (i : Nat)
  /-- JOB_START, R356. -/
  | jobStart (die : Nat) (i : Nat)
  /-- JOB_COMPLETE, R335. -/
  | jobComplete (die : Nat) (i : Nat)
  /-- JOB_PAGE_TIMEOUT, R313. -/
  | jobPageTimeout (i : Nat)
  /-- RASTERISE_TRIANGLE, R308. -/
  | rasteriseTriangle (die : Nat) (node : Nat)
  /-- RAY_TRAVERSE, R364. -/
  | rayTraverse (die : Nat) (node : Nat)
  /-- MATRIX_JOB_RUN, R312. -/
  | matrixJobRun (die : Nat) (node : Nat)
  /-- COPY_JOB_RUN, R313. -/
  | copyJobRun (die : Nat) (node : Nat)
  /-- SCANOUT_VBLANK, R316. -/
  | scanoutVblank (head : Nat)
  /-- TRAP_ENTRY, R387. -/
  | trapEntry (c : Nat) (slot : Nat)
  /-- FAULT_WITHOUT_HANDLER, R391. -/
  | faultWithoutHandler (c : Nat) (slot : Nat)
  /-- WAIT_LIMIT, R390. -/
  | waitLimit (c : Nat) (slot : Nat)
  /-- SLEEP_EXPIRY, R404. -/
  | sleepExpiry (c : Nat) (slot : Nat) (st : Stream)
  /-- YIELD_EXPIRY, R404. -/
  | yieldExpiry (c : Nat) (slot : Nat) (st : Stream)
  /-- BLOCK_SAVE, R394. -/
  | blockSave (i : Nat)
  /-- BLOCK_RESTORE, R395. -/
  | blockRestore (i : Nat)
  /-- CODE_PAGE_CHECK, R422. -/
  | codePageCheck (o : Nat) (p : Nat)
  /-- DROOP_TRIP, R406. -/
  | droopTrip (g : Nat)
  /-- CB_STEP_UPDATE, R412. -/
  | cbStepUpdate (g : Nat)
  /-- BIAS_SETTLE, R407. -/
  | biasSettle (g : Nat)
  /-- THERMAL_SAMPLE, R416. -/
  | thermalSample (g : Nat) (t : BitVec 12)
  /-- MGMT_INTERRUPT, R439. -/
  | mgmtInterrupt
  /-- CMDTAIL_WRITE, R431. -/
  | cmdtailWrite (v : Word)
  /-- FLTHEAD_WRITE, R437. -/
  | fltheadWrite (v : Word)
  /-- BAR2BASE_WRITE, R430. -/
  | bar2baseWrite (v : Word)
  /-- BAR0_WRITE_OTHER, R430. -/
  | bar0WriteOther (off : Nat) (v : Word)
  /-- BAR2_WRITE, R212. -/
  | bar2Write (off : Nat) (bytes : List Byte)
  /-- BAR2_READ, R212. -/
  | bar2Read (off : Nat) (n : Nat)
  /-- SENSOR_WINDOW_WRITE, R438. -/
  | sensorWindowWrite (k : Nat) (w : Nat) (off : Nat) (bytes : List Byte)
  /-- SENSOR_DONE, R438. -/
  | sensorDone (k : Nat) (w : Nat) (bytes : Word)
  /-- SENSOR_BARRIER_ARRIVAL, R314. -/
  | sensorBarrierArrival (k : Nat)
  /-- QUERY_STARTUP, R435. -/
  | queryStartup
  /-- QUERY_CORE_COUNTERS, R435. -/
  | queryCoreCounters
  /-- QUERY_FOOTPRINT, R435. -/
  | queryFootprint
  /-- QUERY_DEAD_AGENTS, R435. -/
  | queryDeadAgents
  /-- QUERY_LOG_COUNTS, R435. -/
  | queryLogCounts
  /-- QUERY_MEASUREMENT, R435. -/
  | queryMeasurement
  /-- QUERY_USE_COUNTERS, R435. -/
  | queryUseCounters
  /-- QUERY_JOIN_SLOT, R435. -/
  | queryJoinSlot
  /-- FIRMWARE_UPDATE, R449. -/
  | firmwareUpdate
  /-- ATTEST, R448. -/
  | attest
  /-- SET_SCANOUT, R433. -/
  | setScanout
  /-- RESET_DEVICE, R433. -/
  | resetDevice
  /-- LOAD_CODE, R420. -/
  | loadCode
  /-- UNLOAD_CODE, R433. -/
  | unloadCode
  /-- LOAD_GRAPH, R351. -/
  | loadGraph
  /-- START_GRAPH, R433. -/
  | startGraph
  /-- STOP_GRAPH, R433. -/
  | stopGraph
  /-- VACATE_CORES, R396. -/
  | vacateCores
  /-- SWITCH_CONTEXT, R397. -/
  | switchContext
  /-- MAP_PAGES, R434. -/
  | mapPages
  /-- UNMAP_PAGES, R434. -/
  | unmapPages
  /-- FAULT_REPLY, R437. -/
  | faultReply
  /-- SENSOR_CONFIG, R438. -/
  | sensorConfig
  /-- DISPLAY_MODE, R434. -/
  | displayMode
  /-- DISPLAY_OFF, R434. -/
  | displayOff
  /-- SET_POWER_BIAS, R434. -/
  | setPowerBias
  /-- SET_POWER_CBMAX, R434. -/
  | setPowerCbmax
  /-- SET_POWER_TLIMIT, R434. -/
  | setPowerTlimit
  /-- SET_POWER_SADDLE, R442. -/
  | setPowerSaddle
  /-- BLOCK_CONTROL_IMAGE, R436. -/
  | blockControlImage
  /-- BLOCK_CONTROL_RESUME, R436. -/
  | blockControlResume
  /-- BLOCK_CONTROL_DISCARD, R436. -/
  | blockControlDiscard
  /-- UNLOAD_GRAPH, R433. -/
  | unloadGraph
  /-- POWER_GOOD, R440. -/
  | powerGood
  -- inputs: whether memory and Saddle train, and the clusters that fail calibration
  /-- BOOTSTAGE_ADVANCE, R440. -/
  | bootstageAdvance (trained : Bool) (failed : Nat)
  /-- SADDLE_LANE_FAULT, R442. -/
  | saddleLaneFault (n : Nat)
  /-- CHARGE_BUCKET_REFILL, R412. -/
  | chargeBucketRefill (g : Nat)
  /-- BARRIER_COMPLETES_AGAIN, R377. -/
  | barrierCompletesAgain (b : Nat) (j : Nat) (n : Nat)
deriving DecidableEq, Repr

end Sys2Proof
end

