-- ==== Sys2Proof/Decode.lean ====
section
/-! DEFINITION. Decode: from instruction words to Instr, total on any words and bytes and rejecting by name, and after
it the encoder, both written from the formats R65 to R75 and the opcode map R77. The fields of an instruction are kept
as the bits the words hold; which field values are legal is Machine/Legal.lean's and WellFormed.lean's. -/
namespace Sys2Proof

/-- Why a word pattern is no assigned form (03 R78, R81). Every one of these raises ILLEGAL_OPCODE when it is fetched. -/
inductive DecodeError where
  /-- fewer words than the length code asks for -/
  | tooShort
  /-- a major that R77 reserves -/
  | reservedMajor (major : BitVec 6)
  /-- a minor that R77 reserves -/
  | reservedMinor (major : BitVec 6) (minor : BitVec 3)
  /-- a length code that R77 does not give for the major and minor -/
  | badLength (major : BitVec 6) (minor : BitVec 3) (len : BitVec 2)
deriving DecidableEq, Repr

/-- The fields common to every first word (R58); `hi` is bits 31 to 11. -/
structure Head where
  len : BitVec 2
  major : BitVec 6
  minor : BitVec 3
  hi : BitVec 21
deriving DecidableEq, Repr

/-- R58. -/
def headOf (w : Word) : Head :=
  { len := w.extractLsb' 0 2, major := w.extractLsb' 2 6, minor := w.extractLsb' 8 3, hi := w.extractLsb' 11 21 }

/-- R58, the other way. -/
def headWord (h : Head) : Word := h.hi ++ h.minor ++ h.major ++ h.len

/-- Words of an instruction by its length code (R56). -/
def wordsOfLen (len : BitVec 2) : Nat :=
  if len = 0#2 then 1 else if len = 3#2 then 5 else 3

/-- The trailing literal (R57): the first literal word holds bits 31 to 0. -/
def literalOf (lo hi : Word) : Dword := hi ++ lo
/-- The low literal word. -/
def litLo (l : Dword) : Word := l.extractLsb' 0 32
/-- The high literal word. -/
def litHi (l : Dword) : Word := l.extractLsb' 32 32

/-- BA and BS fields (R58, R65). -/
def BaF.ofHi (hi : BitVec 21) (lit : Option Dword) : BaF :=
  { lit := lit, d := hi.extractLsb' 0 7, a := hi.extractLsb' 7 7, b := hi.extractLsb' 14 7 }
/-- BA and BS, bits 31 to 11. -/
def BaF.hi (f : BaF) : BitVec 21 := f.b ++ f.a ++ f.d

/-- BM fields (R67). -/
def BmF.ofHi (hi : BitVec 21) : BmF :=
  { d := hi.extractLsb' 0 7, a := hi.extractLsb' 7 7, off7 := hi.extractLsb' 14 7 }
/-- BM, bits 31 to 11. -/
def BmF.hi (f : BmF) : BitVec 21 := f.off7 ++ f.a ++ f.d

/-- BB long fields (R66). -/
def BlF.ofWords (hi : BitVec 21) (w1 w2 : Word) : BlF :=
  { off21 := hi, a9 := w1.extractLsb' 0 9, rsvd1 := w1.extractLsb' 9 18, xop := w1.extractLsb' 27 5,
    off21b := w2.extractLsb' 0 21, rsvd2 := w2.extractLsb' 21 11 }
/-- BB long, word 1. -/
def BlF.w1 (f : BlF) : Word := f.xop ++ f.rsvd1 ++ f.a9
/-- BB long, word 2. -/
def BlF.w2 (f : BlF) : Word := f.rsvd2 ++ f.off21b

/-- Word 1 of every extended format but BB long (R68): d9, a9, b9, xop. -/
def extWord1 (d9 a9 b9 : BitVec 9) (xop : BitVec 5) : Word := xop ++ b9 ++ a9 ++ d9

/-- XA fields (R68). -/
def XaF.ofWords (hi : BitVec 21) (w1 w2 : Word) (lit : Option Dword) : XaF :=
  { lit := lit, imm21 := hi,
    d9 := w1.extractLsb' 0 9, a9 := w1.extractLsb' 9 9, b9 := w1.extractLsb' 18 9, xop := w1.extractLsb' 27 5,
    c9 := w2.extractLsb' 0 9, rnd := w2.extractLsb' 9 3, sat := w2.extractLsb' 12 1, kmask := w2.extractLsb' 13 3,
    mod := w2.extractLsb' 16 4, order := w2.extractLsb' 20 4, imm8 := w2.extractLsb' 24 8 }
/-- XA, word 2. -/
def XaF.w2 (f : XaF) : Word := f.imm8 ++ f.order ++ f.mod ++ f.kmask ++ f.sat ++ f.rnd ++ f.c9

/-- XM fields (R71). -/
def XmF.ofWords (hi : BitVec 21) (w1 w2 : Word) (lit : Option Dword) : XmF :=
  { lit := lit, off21 := hi,
    d9 := w1.extractLsb' 0 9, a9 := w1.extractLsb' 9 9, b9 := w1.extractLsb' 18 9, xop := w1.extractLsb' 27 5,
    c9 := w2.extractLsb' 0 9, rsvd1 := w2.extractLsb' 9 4, kmask := w2.extractLsb' 13 3,
    rsvd2 := w2.extractLsb' 16 4, order := w2.extractLsb' 20 4, imm8 := w2.extractLsb' 24 8 }
/-- XM, word 2. -/
def XmF.w2 (f : XmF) : Word := f.imm8 ++ f.order ++ f.rsvd2 ++ f.kmask ++ f.rsvd1 ++ f.c9

/-- XQ fields (R73). -/
def XqF.ofWords (hi : BitVec 21) (w1 w2 : Word) (lit : Option Dword) : XqF :=
  { lit := lit, imm21 := hi,
    d9 := w1.extractLsb' 0 9, a9 := w1.extractLsb' 9 9, b9 := w1.extractLsb' 18 9, xop := w1.extractLsb' 27 5,
    c9 := w2.extractLsb' 0 9, rsvd1 := w2.extractLsb' 9 3, push := w2.extractLsb' 12 1, kmask := w2.extractLsb' 13 3,
    rsvd2 := w2.extractLsb' 16 4, order := w2.extractLsb' 20 4, imm8 := w2.extractLsb' 24 8 }
/-- XQ, word 2. -/
def XqF.w2 (f : XqF) : Word := f.imm8 ++ f.order ++ f.rsvd2 ++ f.kmask ++ f.push ++ f.rsvd1 ++ f.c9

/-- XT fields (R74). -/
def XtF.ofWords (hi : BitVec 21) (w1 w2 : Word) (lit : Option Dword) : XtF :=
  { lit := lit, tile := hi.extractLsb' 0 6, aux6 := hi.extractLsb' 6 6, imm9 := hi.extractLsb' 12 9,
    d9 := w1.extractLsb' 0 9, a9 := w1.extractLsb' 9 9, b9 := w1.extractLsb' 18 9, xop := w1.extractLsb' 27 5,
    c9 := w2.extractLsb' 0 9, rnd := w2.extractLsb' 9 3, sat := w2.extractLsb' 12 1, kmask := w2.extractLsb' 13 3,
    skew := w2.extractLsb' 16 1, rsvd1 := w2.extractLsb' 17 7, imm8 := w2.extractLsb' 24 8 }
/-- XT, bits 31 to 11 of word 0. -/
def XtF.hi (f : XtF) : BitVec 21 := f.imm9 ++ f.aux6 ++ f.tile
/-- XT, word 2. -/
def XtF.w2 (f : XtF) : Word := f.imm8 ++ f.rsvd1 ++ f.skew ++ f.kmask ++ f.sat ++ f.rnd ++ f.c9

/-- XS fields (R75). -/
def XsF.ofWords (hi : BitVec 21) (w1 w2 : Word) (lit : Option Dword) : XsF :=
  { lit := lit, sel9 := hi.extractLsb' 0 9, imm12 := hi.extractLsb' 9 12,
    d9 := w1.extractLsb' 0 9, a9 := w1.extractLsb' 9 9, b9 := w1.extractLsb' 18 9, xop := w1.extractLsb' 27 5,
    c9 := w2.extractLsb' 0 9, rsvd1 := w2.extractLsb' 9 4, kmask := w2.extractLsb' 13 3,
    rsvd2 := w2.extractLsb' 16 4, order := w2.extractLsb' 20 4, imm8 := w2.extractLsb' 24 8 }
/-- XS, bits 31 to 11 of word 0. -/
def XsF.hi (f : XsF) : BitVec 21 := f.imm12 ++ f.sel9
/-- XS, word 2. -/
def XsF.w2 (f : XsF) : Word := f.imm8 ++ f.order ++ f.rsvd2 ++ f.kmask ++ f.rsvd1 ++ f.c9

/-- The forms BA and BS of R77. -/
def decodeBA (major minor : Nat) (f : BaF) : Option Instr :=
  match major with
  | 0 =>
    match minor with
    | 0 => some (.iaddBA f)
    | 1 => some (.isubBA f)
    | 2 => some (.imulBA f)
    | 3 => some (.imulhiBA f)
    | 5 => some (.iminBA f)
    | 6 => some (.imaxBA f)
    | _ => none
  | 1 =>
    match minor with
    | 0 => some (.andBA f)
    | 1 => some (.orBA f)
    | 2 => some (.xorBA f)
    | 3 => some (.andnBA f)
    | 4 => some (.shlBA f)
    | 5 => some (.shrBA f)
    | 6 => some (.sarBA f)
    | 7 => some (.rotBA f)
    | _ => none
  | 2 =>
    match minor with
    | 2 => some (.popcBA f)
    | 3 => some (.clzBA f)
    | 4 => some (.ctzBA f)
    | 5 => some (.brevBA f)
    | _ => none
  | 3 =>
    match minor with
    | 0 => some (.movBA f)
    | 3 => some (.getexecBA f)
    | 4 => some (.setexecBA f)
    | _ => none
  | 4 =>
    match minor with
    | 0 => some (.kand f)
    | 1 => some (.kor f)
    | 2 => some (.kxor f)
    | 3 => some (.knot f)
    | 4 => some (.kmov f)
    | _ => none
  | 16 =>
    match minor with
    | 0 => some (.faddBA f)
    | 1 => some (.fsubBA f)
    | 2 => some (.fmulBA f)
    | 4 => some (.fminBA f)
    | 5 => some (.fmaxBA f)
    | _ => none
  | 17 =>
    match minor with
    | 0 => some (.frcpBA f)
    | 1 => some (.frsqBA f)
    | 2 => some (.fsqrtBA f)
    | 3 => some (.fexp2BA f)
    | 4 => some (.flog2BA f)
    | 5 => some (.fsinpiBA f)
    | 6 => some (.fcospiBA f)
    | _ => none
  | 18 =>
    match minor with
    | 1 => some (.hadd2BA f)
    | 2 => some (.hmul2BA f)
    | _ => none
  | 32 =>
    match minor with
    | 0 => some (.shflBA f)
    | 1 => some (.bcastBA f)
    | 2 => some (.qswapBA f)
    | 3 => some (.qbcastBA f)
    | 4 => some (.voteBA f)
    | _ => none
  | 41 =>
    match minor with
    | 0 => some (.reconv f)
    | 1 => some (.retl f)
    | 2 => some (.exit f)
    | _ => none
  | 52 =>
    match minor with
    | 0 => some (.saddBS f)
    | 1 => some (.ssubBS f)
    | 2 => some (.smulBS f)
    | 3 => some (.smulhiBS f)
    | 4 => some (.sandBS f)
    | 5 => some (.sorBS f)
    | 6 => some (.sxorBS f)
    | 7 => some (.smovBS f)
    | _ => none
  | 53 =>
    match minor with
    | 0 => some (.sshlBS f)
    | 1 => some (.sshrBS f)
    | 2 => some (.ssarBS f)
    | 3 => some (.sminBS f)
    | 4 => some (.smaxBS f)
    | _ => none
  | 55 =>
    match minor with
    | 0 => some (.sret f)
    | 1 => some (.sdone f)
    | 2 => some (.dqpush f)
    | 3 => some (.vgive f)
    | 4 => some (.vclaim f)
    | 5 => some (.abort f)
    | 6 => some (.pollabt f)
    | _ => none
  | 56 =>
    match minor with
    | 4 => some (.phrelBS f)
    | 5 => some (.phacqBS f)
    | 6 => some (.phaseBS f)
    | _ => none
  | _ => none

/-- The form BM of R77. -/
def decodeBM (major minor : Nat) (f : BmF) : Option Instr :=
  match major with
  | 44 =>
    some (.ldBM (BitVec.ofNat 3 minor) f)
  | 45 =>
    some (.stBM (BitVec.ofNat 3 minor) f)
  | 56 =>
    match minor with
    | 0 => some (.ldsBM f)
    | 1 => some (.stsBM f)
    | _ => none
  | _ => none

/-- The short BB forms of R77. -/
def decodeBB (major minor : Nat) (f : BbF) : Option Instr :=
  match major with
  | 40 =>
    match minor with
    | 0 => some (.brdq f)
    | 1 => some (.calll f)
    | _ => none
  | 54 =>
    match minor with
    | 0 => some (.sbr f)
    | 2 => some (.scall f)
    | 4 => some (.jmpl f)
    | _ => none
  | _ => none

/-- The long BB forms of R77. -/
def decodeBL (major minor : Nat) (f : BlF) : Option Instr :=
  match major with
  | 40 =>
    match minor with
    | 2 => some (.bdiv f)
    | _ => none
  | 54 =>
    match minor with
    | 1 => some (.sbrc f)
    | 3 => some (.sloop f)
    | _ => none
  | _ => none

/-- The form XA of R77. -/
def decodeXA (major minor : Nat) (f : XaF) : Option Instr :=
  match major with
  | 0 =>
    match minor with
    | 0 => some (.iaddXA f)
    | 1 => some (.isubXA f)
    | 2 => some (.imulXA f)
    | 3 => some (.imulhiXA f)
    | 4 => some (.imad f)
    | 5 => some (.iminXA f)
    | 6 => some (.imaxXA f)
    | _ => none
  | 1 =>
    match minor with
    | 0 => some (.andXA f)
    | 1 => some (.orXA f)
    | 2 => some (.xorXA f)
    | 3 => some (.andnXA f)
    | 4 => some (.shlXA f)
    | 5 => some (.shrXA f)
    | 6 => some (.sarXA f)
    | 7 => some (.rotXA f)
    | _ => none
  | 2 =>
    match minor with
    | 0 => some (.bfx f)
    | 1 => some (.bfi f)
    | 2 => some (.popcXA f)
    | 3 => some (.clzXA f)
    | 4 => some (.ctzXA f)
    | 5 => some (.brevXA f)
    | 6 => some (.icmp f)
    | 7 => some (.sel f)
    | _ => none
  | 3 =>
    match minor with
    | 0 => some (.movXA f)
    | 1 => some (.movrel f)
    | 2 => some (.movrelw f)
    | 3 => some (.getexecXA f)
    | 4 => some (.setexecXA f)
    | 5 => some (.vrdl f)
    | 6 => some (.vwrl f)
    | _ => none
  | 16 =>
    match minor with
    | 0 => some (.faddXA f)
    | 1 => some (.fsubXA f)
    | 2 => some (.fmulXA f)
    | 3 => some (.ffma f)
    | 4 => some (.fminXA f)
    | 5 => some (.fmaxXA f)
    | 6 => some (.fcmp f)
    | 7 => some (.fclass f)
    | _ => none
  | 17 =>
    match minor with
    | 0 => some (.frcpXA f)
    | 1 => some (.frsqXA f)
    | 2 => some (.fsqrtXA f)
    | 3 => some (.fexp2XA f)
    | 4 => some (.flog2XA f)
    | 5 => some (.fsinpiXA f)
    | 6 => some (.fcospiXA f)
    | _ => none
  | 18 =>
    match minor with
    | 0 => some (.hfma2 f)
    | 1 => some (.hadd2XA f)
    | 2 => some (.hmul2XA f)
    | 3 => some (.dot4d8 f)
    | 4 => some (.dot2h f)
    | _ => none
  | 19 =>
    match minor with
    | 0 => some (.cvt f)
    | 1 => some (.pack f)
    | 2 => some (.unpack f)
    | 3 => some (.qscale f)
    | 4 => some (.dqscale f)
    | 5 => some (.hadq f)
    | _ => none
  | 32 =>
    match minor with
    | 0 => some (.shflXA f)
    | 1 => some (.bcastXA f)
    | 2 => some (.qswapXA f)
    | 3 => some (.qbcastXA f)
    | 4 => some (.voteXA f)
    | _ => none
  | 33 =>
    match minor with
    | 0 => some (.reduce f)
    | 1 => some (.scan f)
    | 2 => some (.hist f)
    | 3 => some (.hmerge f)
    | 4 => some (.cxstage f)
    | _ => none
  | 52 =>
    match minor with
    | 0 => some (.saddXA f)
    | 1 => some (.ssubXA f)
    | 2 => some (.smulXA f)
    | 3 => some (.smulhiXA f)
    | 4 => some (.sandXA f)
    | 5 => some (.sorXA f)
    | 6 => some (.sxorXA f)
    | 7 => some (.smovXA f)
    | _ => none
  | 53 =>
    match minor with
    | 0 => some (.sshlXA f)
    | 1 => some (.sshrXA f)
    | 2 => some (.ssarXA f)
    | 3 => some (.sminXA f)
    | 4 => some (.smaxXA f)
    | 5 => some (.scmp f)
    | 6 => some (.ssel f)
    | 7 => some (.sbfx f)
    | _ => none
  | _ => none

/-- The form XM of R77; CRANGE is open or close by bit 4 of xop (11 R252). -/
def decodeXM (major minor : Nat) (f : XmF) : Option Instr :=
  match major with
  | 44 =>
    some (.ldXM (BitVec.ofNat 3 minor) f)
  | 45 =>
    some (.stXM (BitVec.ofNat 3 minor) f)
  | 46 =>
    match minor with
    | 0 => some (.ldsp f)
    | 1 => some (.stsp f)
    | 2 => some (.stt f)
    | 3 => some (.pref f)
    | _ => none
  | 47 =>
    match minor with
    | 0 => some (.atom f)
    | 1 => some (.cadd f)
    | _ => none
  | 56 =>
    match minor with
    | 0 => some (.ldsXM f)
    | 1 => some (.stsXM f)
    | 2 => some (.ldlq f)
    | 3 => if f.xop.getLsbD 4 then some (.crangeClose f) else some (.crangeOpen f)
    | 4 => some (.phrelXM f)
    | 5 => some (.phacqXM f)
    | 6 => some (.phaseXM f)
    | _ => none
  | _ => none

/-- The form XQ of R77. -/
def decodeXQ (major minor : Nat) (f : XqF) : Option Instr :=
  match major with
  | 47 =>
    match minor with
    | 2 => some (.append f)
    | _ => none
  | 57 =>
    match minor with
    | 0 => some (.consume f)
    | 1 => some (.rnext f)
    | 2 => some (.launch f)
    | 3 => some (.cpy f)
    | 4 => some (.coll f)
    | _ => none
  | _ => none

/-- The form XT of R77. -/
def decodeXT (major minor : Nat) (f : XtF) : Option Instr :=
  match major with
  | 48 =>
    match minor with
    | 0 => some (.mma f)
    | 1 => some (.mzero f)
    | 2 => some (.mrd f)
    | 3 => some (.mwr f)
    | 4 => some (.mldt f)
    | 5 => some (.mstore f)
    | _ => none
  | 49 =>
    match minor with
    | 0 => some (.mfence f)
    | 1 => some (.mwait f)
    | 2 => some (.msig f)
    | 3 => some (.mpair f)
    | _ => none
  | _ => none

/-- The form XS of R77. -/
def decodeXS (major minor : Nat) (f : XsF) : Option Instr :=
  match major with
  | 60 =>
    match minor with
    | 0 => some (.wait f)
    | 1 => some (.seminc f)
    | 2 => some (.semset f)
    | 3 => some (.semwait f)
    | _ => none
  | 61 =>
    match minor with
    | 0 => some (.barinit f)
    | 1 => some (.bararr f)
    | 2 => some (.barexp f)
    | 3 => some (.barwait f)
    | 4 => some (.joinset f)
    | 5 => some (.joinadd f)
    | 6 => some (.joindec f)
    | _ => none
  | 62 =>
    match minor with
    | 0 => some (.trap f)
    | 1 => some (.eret f)
    | 2 => some (.rdsr f)
    | 3 => some (.wrsr f)
    | 4 => some (.rdlead f)
    | 5 => some (.wrlead f)
    | 6 => some (.yield f)
    | 7 => some (.sleep f)
    | _ => none
  | _ => none

/-- The majors R77 assigns. -/
def assignedMajors : List Nat := [0, 1, 2, 3, 4, 16, 17, 18, 19, 32, 33, 40, 41, 44, 45, 46, 47, 48, 49, 52, 53, 54, 55, 56, 57, 60, 61, 62]

/-- Whether R77 assigns the minor of a major, in whatever form. -/
def minorAssigned (major minor : Nat) : Bool :=
  match major with
  | 0 => [0, 1, 2, 3, 4, 5, 6].contains minor
  | 1 => [0, 1, 2, 3, 4, 5, 6, 7].contains minor
  | 2 => [0, 1, 2, 3, 4, 5, 6, 7].contains minor
  | 3 => [0, 1, 2, 3, 4, 5, 6].contains minor
  | 4 => [0, 1, 2, 3, 4].contains minor
  | 16 => [0, 1, 2, 3, 4, 5, 6, 7].contains minor
  | 17 => [0, 1, 2, 3, 4, 5, 6].contains minor
  | 18 => [0, 1, 2, 3, 4].contains minor
  | 19 => [0, 1, 2, 3, 4, 5].contains minor
  | 32 => [0, 1, 2, 3, 4].contains minor
  | 33 => [0, 1, 2, 3, 4].contains minor
  | 40 => [0, 1, 2].contains minor
  | 41 => [0, 1, 2].contains minor
  | 44 => [0, 1, 2, 3, 4, 5, 6, 7].contains minor
  | 45 => [0, 1, 2, 3, 4, 5, 6, 7].contains minor
  | 46 => [0, 1, 2, 3].contains minor
  | 47 => [0, 1, 2].contains minor
  | 48 => [0, 1, 2, 3, 4, 5].contains minor
  | 49 => [0, 1, 2, 3].contains minor
  | 52 => [0, 1, 2, 3, 4, 5, 6, 7].contains minor
  | 53 => [0, 1, 2, 3, 4, 5, 6, 7].contains minor
  | 54 => [0, 1, 2, 3, 4].contains minor
  | 55 => [0, 1, 2, 3, 4, 5, 6].contains minor
  | 56 => [0, 1, 2, 3, 4, 5, 6].contains minor
  | 57 => [0, 1, 2, 3, 4].contains minor
  | 60 => [0, 1, 2, 3].contains minor
  | 61 => [0, 1, 2, 3, 4, 5, 6].contains minor
  | 62 => [0, 1, 2, 3, 4, 5, 6, 7].contains minor
  | _ => false

/-- An instruction of one word (length code 0). -/
def decodeShort (h : Head) : Option Instr :=
  (decodeBA h.major.toNat h.minor.toNat (BaF.ofHi h.hi none)).orElse fun _ =>
  (decodeBM h.major.toNat h.minor.toNat (BmF.ofHi h.hi)).orElse fun _ =>
   decodeBB h.major.toNat h.minor.toNat { off21 := h.hi }

/-- A base word with a literal (length code 2). -/
def decodeShortLit (h : Head) (w1 w2 : Word) : Option Instr :=
  decodeBA h.major.toNat h.minor.toNat (BaF.ofHi h.hi (some (literalOf w1 w2)))

/-- An extended instruction, with or without a literal (length codes 1 and 3); the long BB forms take no literal. -/
def decodeExt (h : Head) (w1 w2 : Word) (lit : Option Dword) : Option Instr :=
  (decodeXA h.major.toNat h.minor.toNat (XaF.ofWords h.hi w1 w2 lit)).orElse fun _ =>
  (decodeXM h.major.toNat h.minor.toNat (XmF.ofWords h.hi w1 w2 lit)).orElse fun _ =>
  (decodeXQ h.major.toNat h.minor.toNat (XqF.ofWords h.hi w1 w2 lit)).orElse fun _ =>
  (decodeXT h.major.toNat h.minor.toNat (XtF.ofWords h.hi w1 w2 lit)).orElse fun _ =>
  (decodeXS h.major.toNat h.minor.toNat (XsF.ofWords h.hi w1 w2 lit)).orElse fun _ =>
  (if lit.isNone then decodeBL h.major.toNat h.minor.toNat (BlF.ofWords h.hi w1 w2) else none)

/-- The name of the rejection of a first word that decodes to no assigned form (R78). -/
def decodeErrorOf (h : Head) : DecodeError :=
  if !assignedMajors.contains h.major.toNat then .reservedMajor h.major
  else if !minorAssigned h.major.toNat h.minor.toNat then .reservedMinor h.major h.minor
  else .badLength h.major h.minor h.len

/-- The instruction that begins a list of words, and how many words it takes (R56, R57). Total; rejects by name. -/
def decodeWords (ws : List Word) : Except DecodeError (Instr × Nat) :=
  match ws with
  | [] => .error .tooShort
  | w0 :: rest =>
    let h := headOf w0
    let answer := fun (r : Option Instr) => match r with
      | some i => Except.ok (i, wordsOfLen h.len)
      | none => Except.error (decodeErrorOf h)
    match h.len.toNat, rest with
    | 0, _ => answer (decodeShort h)
    | 1, w1 :: w2 :: _ => answer (decodeExt h w1 w2 none)
    | 2, w1 :: w2 :: _ => answer (decodeShortLit h w1 w2)
    | 3, w1 :: w2 :: l0 :: l1 :: _ => answer (decodeExt h w1 w2 (some (literalOf l0 l1)))
    | _, _ => .error .tooShort

/-- Little-endian words from bytes (00 R3, 03 R56); bytes that fill no word are dropped. -/
def wordsOfBytes (bs : List Byte) : List Word :=
  match bs with
  | b0 :: b1 :: b2 :: b3 :: rest => (b3 ++ b2 ++ b1 ++ b0) :: wordsOfBytes rest
  | _ => []

/-- The bytes of a word, lowest address first. -/
def bytesOfWord (w : Word) : List Byte :=
  [w.extractLsb' 0 8, w.extractLsb' 8 8, w.extractLsb' 16 8, w.extractLsb' 24 8]

/-- The instruction that begins a list of bytes, and how many bytes it takes. -/
def decodeBytes (bs : List Byte) : Except DecodeError (Instr × Nat) :=
  match decodeWords (wordsOfBytes bs) with
  | .ok (i, n) => .ok (i, 4 * n)
  | .error e => .error e

/-- The five words of an instruction whose low `nbits` bits are `w` and whose other bits are zero. -/
def tableWords (nbits w : Nat) : List Word :=
  let v := w % 2 ^ nbits
  [BitVec.ofNat 32 v, BitVec.ofNat 32 (v >>> 32), BitVec.ofNat 32 (v >>> 64), BitVec.ofNat 32 (v >>> 96),
   BitVec.ofNat 32 (v >>> 128)]

/-- The instruction the decoder reads from an instruction whose bits are `w`: the words are laid out as the device
stores them, little-endian and the first at the lowest address, and given to the decoder. -/
def decodeTableWord (nbits w : Nat) : Option Instr :=
  match decodeBytes ((tableWords nbits w).flatMap bytesOfWord) with
  | .ok (i, _) => some i
  | .error _ => none

/-! ## The encoder -/

/-- The words of a base form: one word, or three with a literal (R56, R61). -/
def encBase (major : BitVec 6) (minor : BitVec 3) (f : BaF) : List Word :=
  match f.lit with
  | none => [headWord { len := 0#2, major := major, minor := minor, hi := f.hi }]
  | some l => [headWord { len := 2#2, major := major, minor := minor, hi := f.hi }, litLo l, litHi l]

/-- The words of an extended form from its fields. -/
def encExt (major : BitVec 6) (minor : BitVec 3) (hi : BitVec 21) (w1 w2 : Word) (lit : Option Dword) : List Word :=
  match lit with
  | none => [headWord { len := 1#2, major := major, minor := minor, hi := hi }, w1, w2]
  | some l => [headWord { len := 3#2, major := major, minor := minor, hi := hi }, w1, w2, litLo l, litHi l]

/-- BM. -/
def encBM (major : BitVec 6) (minor : BitVec 3) (f : BmF) : List Word :=
  [headWord { len := 0#2, major := major, minor := minor, hi := f.hi }]
/-- BB short. -/
def encBB (major : BitVec 6) (minor : BitVec 3) (f : BbF) : List Word :=
  [headWord { len := 0#2, major := major, minor := minor, hi := f.off21 }]
/-- BB long. -/
def encBL (major : BitVec 6) (minor : BitVec 3) (f : BlF) : List Word :=
  [headWord { len := 1#2, major := major, minor := minor, hi := f.off21 }, f.w1, f.w2]
/-- XA. -/
def encXA (major : BitVec 6) (minor : BitVec 3) (f : XaF) : List Word :=
  encExt major minor f.imm21 (extWord1 f.d9 f.a9 f.b9 f.xop) f.w2 f.lit
/-- XM. -/
def encXM (major : BitVec 6) (minor : BitVec 3) (f : XmF) : List Word :=
  encExt major minor f.off21 (extWord1 f.d9 f.a9 f.b9 f.xop) f.w2 f.lit
/-- XQ. -/
def encXQ (major : BitVec 6) (minor : BitVec 3) (f : XqF) : List Word :=
  encExt major minor f.imm21 (extWord1 f.d9 f.a9 f.b9 f.xop) f.w2 f.lit
/-- XT. -/
def encXT (major : BitVec 6) (minor : BitVec 3) (f : XtF) : List Word :=
  encExt major minor f.hi (extWord1 f.d9 f.a9 f.b9 f.xop) f.w2 f.lit
/-- XS. -/
def encXS (major : BitVec 6) (minor : BitVec 3) (f : XsF) : List Word :=
  encExt major minor f.hi (extWord1 f.d9 f.a9 f.b9 f.xop) f.w2 f.lit

/-- The words of an encoded instruction (R65 to R77); a step of a device agent has no words. -/
def encode (i : Instr) : List Word :=
  match i with
  | .iaddBA f => encBase 0#6 0#3 f
  | .iaddXA f => encXA 0#6 0#3 f
  | .isubBA f => encBase 0#6 1#3 f
  | .isubXA f => encXA 0#6 1#3 f
  | .imulBA f => encBase 0#6 2#3 f
  | .imulXA f => encXA 0#6 2#3 f
  | .imulhiBA f => encBase 0#6 3#3 f
  | .imulhiXA f => encXA 0#6 3#3 f
  | .imad f => encXA 0#6 4#3 f
  | .iminBA f => encBase 0#6 5#3 f
  | .iminXA f => encXA 0#6 5#3 f
  | .imaxBA f => encBase 0#6 6#3 f
  | .imaxXA f => encXA 0#6 6#3 f
  | .andBA f => encBase 1#6 0#3 f
  | .andXA f => encXA 1#6 0#3 f
  | .orBA f => encBase 1#6 1#3 f
  | .orXA f => encXA 1#6 1#3 f
  | .xorBA f => encBase 1#6 2#3 f
  | .xorXA f => encXA 1#6 2#3 f
  | .andnBA f => encBase 1#6 3#3 f
  | .andnXA f => encXA 1#6 3#3 f
  | .shlBA f => encBase 1#6 4#3 f
  | .shlXA f => encXA 1#6 4#3 f
  | .shrBA f => encBase 1#6 5#3 f
  | .shrXA f => encXA 1#6 5#3 f
  | .sarBA f => encBase 1#6 6#3 f
  | .sarXA f => encXA 1#6 6#3 f
  | .rotBA f => encBase 1#6 7#3 f
  | .rotXA f => encXA 1#6 7#3 f
  | .bfx f => encXA 2#6 0#3 f
  | .bfi f => encXA 2#6 1#3 f
  | .popcBA f => encBase 2#6 2#3 f
  | .popcXA f => encXA 2#6 2#3 f
  | .clzBA f => encBase 2#6 3#3 f
  | .clzXA f => encXA 2#6 3#3 f
  | .ctzBA f => encBase 2#6 4#3 f
  | .ctzXA f => encXA 2#6 4#3 f
  | .brevBA f => encBase 2#6 5#3 f
  | .brevXA f => encXA 2#6 5#3 f
  | .icmp f => encXA 2#6 6#3 f
  | .sel f => encXA 2#6 7#3 f
  | .movBA f => encBase 3#6 0#3 f
  | .movXA f => encXA 3#6 0#3 f
  | .movrel f => encXA 3#6 1#3 f
  | .movrelw f => encXA 3#6 2#3 f
  | .getexecBA f => encBase 3#6 3#3 f
  | .getexecXA f => encXA 3#6 3#3 f
  | .setexecBA f => encBase 3#6 4#3 f
  | .setexecXA f => encXA 3#6 4#3 f
  | .vrdl f => encXA 3#6 5#3 f
  | .vwrl f => encXA 3#6 6#3 f
  | .kand f => encBase 4#6 0#3 f
  | .kor f => encBase 4#6 1#3 f
  | .kxor f => encBase 4#6 2#3 f
  | .knot f => encBase 4#6 3#3 f
  | .kmov f => encBase 4#6 4#3 f
  | .faddBA f => encBase 16#6 0#3 f
  | .faddXA f => encXA 16#6 0#3 f
  | .fsubBA f => encBase 16#6 1#3 f
  | .fsubXA f => encXA 16#6 1#3 f
  | .fmulBA f => encBase 16#6 2#3 f
  | .fmulXA f => encXA 16#6 2#3 f
  | .ffma f => encXA 16#6 3#3 f
  | .fminBA f => encBase 16#6 4#3 f
  | .fminXA f => encXA 16#6 4#3 f
  | .fmaxBA f => encBase 16#6 5#3 f
  | .fmaxXA f => encXA 16#6 5#3 f
  | .fcmp f => encXA 16#6 6#3 f
  | .fclass f => encXA 16#6 7#3 f
  | .frcpBA f => encBase 17#6 0#3 f
  | .frcpXA f => encXA 17#6 0#3 f
  | .frsqBA f => encBase 17#6 1#3 f
  | .frsqXA f => encXA 17#6 1#3 f
  | .fsqrtBA f => encBase 17#6 2#3 f
  | .fsqrtXA f => encXA 17#6 2#3 f
  | .fexp2BA f => encBase 17#6 3#3 f
  | .fexp2XA f => encXA 17#6 3#3 f
  | .flog2BA f => encBase 17#6 4#3 f
  | .flog2XA f => encXA 17#6 4#3 f
  | .fsinpiBA f => encBase 17#6 5#3 f
  | .fsinpiXA f => encXA 17#6 5#3 f
  | .fcospiBA f => encBase 17#6 6#3 f
  | .fcospiXA f => encXA 17#6 6#3 f
  | .hfma2 f => encXA 18#6 0#3 f
  | .hadd2BA f => encBase 18#6 1#3 f
  | .hadd2XA f => encXA 18#6 1#3 f
  | .hmul2BA f => encBase 18#6 2#3 f
  | .hmul2XA f => encXA 18#6 2#3 f
  | .dot4d8 f => encXA 18#6 3#3 f
  | .dot2h f => encXA 18#6 4#3 f
  | .cvt f => encXA 19#6 0#3 f
  | .pack f => encXA 19#6 1#3 f
  | .unpack f => encXA 19#6 2#3 f
  | .qscale f => encXA 19#6 3#3 f
  | .dqscale f => encXA 19#6 4#3 f
  | .hadq f => encXA 19#6 5#3 f
  | .shflBA f => encBase 32#6 0#3 f
  | .shflXA f => encXA 32#6 0#3 f
  | .bcastBA f => encBase 32#6 1#3 f
  | .bcastXA f => encXA 32#6 1#3 f
  | .qswapBA f => encBase 32#6 2#3 f
  | .qswapXA f => encXA 32#6 2#3 f
  | .qbcastBA f => encBase 32#6 3#3 f
  | .qbcastXA f => encXA 32#6 3#3 f
  | .voteBA f => encBase 32#6 4#3 f
  | .voteXA f => encXA 32#6 4#3 f
  | .reduce f => encXA 33#6 0#3 f
  | .scan f => encXA 33#6 1#3 f
  | .hist f => encXA 33#6 2#3 f
  | .hmerge f => encXA 33#6 3#3 f
  | .cxstage f => encXA 33#6 4#3 f
  | .brdq f => encBB 40#6 0#3 f
  | .calll f => encBB 40#6 1#3 f
  | .bdiv f => encBL 40#6 2#3 f
  | .reconv f => encBase 41#6 0#3 f
  | .retl f => encBase 41#6 1#3 f
  | .exit f => encBase 41#6 2#3 f
  | .ldBM minor f => encBM 44#6 minor f
  | .ldXM minor f => encXM 44#6 minor f
  | .stBM minor f => encBM 45#6 minor f
  | .stXM minor f => encXM 45#6 minor f
  | .ldsp f => encXM 46#6 0#3 f
  | .stsp f => encXM 46#6 1#3 f
  | .stt f => encXM 46#6 2#3 f
  | .pref f => encXM 46#6 3#3 f
  | .atom f => encXM 47#6 0#3 f
  | .cadd f => encXM 47#6 1#3 f
  | .append f => encXQ 47#6 2#3 f
  | .mma f => encXT 48#6 0#3 f
  | .mzero f => encXT 48#6 1#3 f
  | .mrd f => encXT 48#6 2#3 f
  | .mwr f => encXT 48#6 3#3 f
  | .mldt f => encXT 48#6 4#3 f
  | .mstore f => encXT 48#6 5#3 f
  | .mfence f => encXT 49#6 0#3 f
  | .mwait f => encXT 49#6 1#3 f
  | .msig f => encXT 49#6 2#3 f
  | .mpair f => encXT 49#6 3#3 f
  | .saddBS f => encBase 52#6 0#3 f
  | .saddXA f => encXA 52#6 0#3 f
  | .ssubBS f => encBase 52#6 1#3 f
  | .ssubXA f => encXA 52#6 1#3 f
  | .smulBS f => encBase 52#6 2#3 f
  | .smulXA f => encXA 52#6 2#3 f
  | .smulhiBS f => encBase 52#6 3#3 f
  | .smulhiXA f => encXA 52#6 3#3 f
  | .sandBS f => encBase 52#6 4#3 f
  | .sandXA f => encXA 52#6 4#3 f
  | .sorBS f => encBase 52#6 5#3 f
  | .sorXA f => encXA 52#6 5#3 f
  | .sxorBS f => encBase 52#6 6#3 f
  | .sxorXA f => encXA 52#6 6#3 f
  | .smovBS f => encBase 52#6 7#3 f
  | .smovXA f => encXA 52#6 7#3 f
  | .sshlBS f => encBase 53#6 0#3 f
  | .sshlXA f => encXA 53#6 0#3 f
  | .sshrBS f => encBase 53#6 1#3 f
  | .sshrXA f => encXA 53#6 1#3 f
  | .ssarBS f => encBase 53#6 2#3 f
  | .ssarXA f => encXA 53#6 2#3 f
  | .sminBS f => encBase 53#6 3#3 f
  | .sminXA f => encXA 53#6 3#3 f
  | .smaxBS f => encBase 53#6 4#3 f
  | .smaxXA f => encXA 53#6 4#3 f
  | .scmp f => encXA 53#6 5#3 f
  | .ssel f => encXA 53#6 6#3 f
  | .sbfx f => encXA 53#6 7#3 f
  | .sbr f => encBB 54#6 0#3 f
  | .sbrc f => encBL 54#6 1#3 f
  | .scall f => encBB 54#6 2#3 f
  | .sloop f => encBL 54#6 3#3 f
  | .jmpl f => encBB 54#6 4#3 f
  | .sret f => encBase 55#6 0#3 f
  | .sdone f => encBase 55#6 1#3 f
  | .dqpush f => encBase 55#6 2#3 f
  | .vgive f => encBase 55#6 3#3 f
  | .vclaim f => encBase 55#6 4#3 f
  | .abort f => encBase 55#6 5#3 f
  | .pollabt f => encBase 55#6 6#3 f
  | .ldsBM f => encBM 56#6 0#3 f
  | .ldsXM f => encXM 56#6 0#3 f
  | .stsBM f => encBM 56#6 1#3 f
  | .stsXM f => encXM 56#6 1#3 f
  | .ldlq f => encXM 56#6 2#3 f
  | .crangeOpen f => encXM 56#6 3#3 f
  | .crangeClose f => encXM 56#6 3#3 f
  | .phrelBS f => encBase 56#6 4#3 f
  | .phrelXM f => encXM 56#6 4#3 f
  | .phacqBS f => encBase 56#6 5#3 f
  | .phacqXM f => encXM 56#6 5#3 f
  | .phaseBS f => encBase 56#6 6#3 f
  | .phaseXM f => encXM 56#6 6#3 f
  | .consume f => encXQ 57#6 0#3 f
  | .rnext f => encXQ 57#6 1#3 f
  | .launch f => encXQ 57#6 2#3 f
  | .cpy f => encXQ 57#6 3#3 f
  | .coll f => encXQ 57#6 4#3 f
  | .wait f => encXS 60#6 0#3 f
  | .seminc f => encXS 60#6 1#3 f
  | .semset f => encXS 60#6 2#3 f
  | .semwait f => encXS 60#6 3#3 f
  | .barinit f => encXS 61#6 0#3 f
  | .bararr f => encXS 61#6 1#3 f
  | .barexp f => encXS 61#6 2#3 f
  | .barwait f => encXS 61#6 3#3 f
  | .joinset f => encXS 61#6 4#3 f
  | .joinadd f => encXS 61#6 5#3 f
  | .joindec f => encXS 61#6 6#3 f
  | .trap f => encXS 62#6 0#3 f
  | .eret f => encXS 62#6 1#3 f
  | .rdsr f => encXS 62#6 2#3 f
  | .wrsr f => encXS 62#6 3#3 f
  | .rdlead f => encXS 62#6 4#3 f
  | .wrlead f => encXS 62#6 5#3 f
  | .yield f => encXS 62#6 6#3 f
  | .sleep f => encXS 62#6 7#3 f
  | .rndmodeWrite _ => []
  | .throttleWrite _ _ => []
  | .talertWrite _ => []
  | .cbiasWrite _ _ => []
  | .cbmaxWrite _ => []
  | .specialRegisterWrite _ _ => []
  | .starvationPromoteC _ _ => []
  | .starvationPromoteP _ _ => []
  | .couplingDeadlock _ _ => []
  | .blockReserve _ => []
  | .reservationWaitExpiry _ => []
  | .blockStart _ => []
  | .waveRetire _ _ => []
  | .workRequest _ => []
  | .rangeRecordBind _ _ => []
  | .recordEnqueue _ => []
  | .queueSpillReturn _ _ => []
  | .batchClose _ _ => []
  | .batchMaxwaitExpiry _ _ => []
  | .batchAdmit _ => []
  | .stealCheck _ _ => []
  | .stealArrival _ => []
  | .consumeRetry _ _ => []
  | .joinRecordArrival _ => []
  | .signalApply _ => []
  | .massReleaseAdmit => []
  | .homeLoad _ => []
  | .homeMissFill _ _ => []
  | .burstParityError _ _ => []
  | .fillReceive _ => []
  | .homeStore _ => []
  | .homeAtom _ => []
  | .updateReceive _ => []
  | .storeAck _ => []
  | .loadReturn _ => []
  | .lqFill _ _ => []
  | .pushReceive _ => []
  | .pushReply _ => []
  | .deregistration _ => []
  | .rangeOpenNotice _ => []
  | .rangeNoticeReply _ => []
  | .holderRegister _ => []
  | .foldProbe _ => []
  | .foldComplete _ => []
  | .evictedPartial _ => []
  | .remoteWriteCount _ _ => []
  | .migrationForward _ => []
  | .migrationInstall _ => []
  | .migrationPointerRetire _ => []
  | .deadAgentTimeout _ => []
  | .hostSnoopInvalidate _ _ => []
  | .pageWalk _ _ => []
  | .faultRecordWrite => []
  | .matrixEntryTake _ => []
  | .msigArrival _ _ => []
  | .matrixEntryCommit _ _ => []
  | .jobStart _ _ => []
  | .jobComplete _ _ => []
  | .jobPageTimeout _ => []
  | .rasteriseTriangle _ _ => []
  | .rayTraverse _ _ => []
  | .matrixJobRun _ _ => []
  | .copyJobRun _ _ => []
  | .scanoutVblank _ => []
  | .trapEntry _ _ => []
  | .faultWithoutHandler _ _ => []
  | .waitLimit _ _ => []
  | .sleepExpiry _ _ _ => []
  | .yieldExpiry _ _ _ => []
  | .blockSave _ => []
  | .blockRestore _ => []
  | .codePageCheck _ _ => []
  | .droopTrip _ => []
  | .cbStepUpdate _ => []
  | .biasSettle _ => []
  | .thermalSample _ _ => []
  | .mgmtInterrupt => []
  | .cmdtailWrite _ => []
  | .fltheadWrite _ => []
  | .bar2baseWrite _ => []
  | .bar0WriteOther _ _ => []
  | .bar2Write _ _ => []
  | .bar2Read _ _ => []
  | .sensorWindowWrite _ _ _ _ => []
  | .sensorDone _ _ _ => []
  | .sensorBarrierArrival _ => []
  | .queryStartup => []
  | .queryCoreCounters => []
  | .queryFootprint => []
  | .queryDeadAgents => []
  | .queryLogCounts => []
  | .queryMeasurement => []
  | .queryUseCounters => []
  | .queryJoinSlot => []
  | .firmwareUpdate => []
  | .attest => []
  | .setScanout => []
  | .resetDevice => []
  | .loadCode => []
  | .unloadCode => []
  | .loadGraph => []
  | .startGraph => []
  | .stopGraph => []
  | .vacateCores => []
  | .switchContext => []
  | .mapPages => []
  | .unmapPages => []
  | .faultReply => []
  | .sensorConfig => []
  | .displayMode => []
  | .displayOff => []
  | .setPowerBias => []
  | .setPowerCbmax => []
  | .setPowerTlimit => []
  | .setPowerSaddle => []
  | .blockControlImage => []
  | .blockControlResume => []
  | .blockControlDiscard => []
  | .unloadGraph => []
  | .powerGood => []
  | .bootstageAdvance _ _ => []
  | .saddleLaneFault _ => []
  | .chargeBucketRefill _ => []
  | .barrierCompletesAgain _ _ _ => []

/-- Whether a row of the table is an encoded instruction. -/
def Instr.isEncoded (i : Instr) : Bool := !(encode i).isEmpty

/-- How many words the instruction takes (R56). -/
def Instr.words (i : Instr) : Nat := (encode i).length

/-- The first word of the instruction, zero for a step without an encoding. -/
def Instr.word0 (i : Instr) : Word := (encode i).headD 0#32

/-- The major opcode, for TINFO (17 R384). -/
def Instr.major (i : Instr) : BitVec 6 := (headOf i.word0).major
/-- The minor opcode, for TINFO (17 R384). -/
def Instr.minor (i : Instr) : BitVec 3 := (headOf i.word0).minor

end Sys2Proof
end

