-- ==== Sys2Proof/Machine/Legal.lean ====
section
/-! DEFINITION. Which field values of an assigned form are legal, and the fault an illegal one raises (03 R59 to R79 and
the instruction pages): decided from the words alone. Where several reasons of ILLEGAL_OPCODE apply the first in the
order of the checks below is reported (entry 13). -/
namespace Sys2Proof.Machine

/-- A fault the encoding alone decides: ILLEGAL_OPCODE with its reason, or ILLEGAL_OPERAND with its operand (17 R384). -/
inductive EncFault where
  | opcode (reason : Nat)
  | operand (which : Nat)
deriving DecidableEq, Repr

/-- The first fault found. -/
def firstFault (l : List (Option EncFault)) : Option EncFault :=
  match l with
  | [] => none
  | some e :: _ => some e
  | none :: rest => firstFault rest

/-- ILLEGAL_OPCODE stands above ILLEGAL_OPERAND (17 R383). -/
def opcodeFirst (l : List (Option EncFault)) : Option EncFault :=
  (firstFault (l.filter (fun e => match e with | some (.opcode _) => true | _ => false))).orElse fun _ => firstFault l

/-- A fault when the condition holds. -/
def faultIf (c : Bool) (e : EncFault) : Option EncFault := if c then some e else none

/-! ## Operand indices (R59, R60) -/

/-- A lane-stream operand index (R59). -/
inductive LaneIx where
  | v (n : Nat)
  | lq | dq | rq | zero | laneid
  | c (n : Nat)
  | lit
  | imm (i : Int)
  | reserved
deriving DecidableEq, Repr

/-- R59, lane stream. -/
def laneIx (i : Nat) : LaneIx :=
  if i < 320 then .v i
  else if i = 320 then .lq else if i = 321 then .dq else if i = 322 then .rq else if i = 323 then .zero
  else if i = 324 then .laneid else if i < 328 then .reserved else if i < 360 then .c (i - 328)
  else if i < 383 then .reserved else if i = 383 then .lit else .imm ((i : Int) - 448)

/-- A lead-stream operand (R59, R60). -/
inductive LeadIx where
  | s (n : Nat)
  | rq | zero
  /-- WAVEID, BLOCKID, NODEID, ROLE -/
  | ident (n : Nat)
  | lit
  | imm (i : Int)
  | reserved
deriving DecidableEq, Repr

/-- R59, lead stream: a 9-bit field. -/
def leadIx9 (i : Nat) : LeadIx :=
  if i < 64 then .s i else if i = 323 then .zero else if i < 383 then .reserved
  else if i = 383 then .lit else .imm ((i : Int) - 448)

/-- R60, lead stream: a base field; `litB` when it is the field `b` of a word with a literal. -/
def leadIx7 (i : Nat) (litB : Bool) : LeadIx :=
  if litB then .lit
  else if i < 64 then .s i else if i = 64 then .rq else if i = 65 then .zero else if i < 70 then .ident (i - 66)
  else if i < 96 then .reserved else .imm ((i : Int) - 112)

/-- Whether an operand names the literal. -/
def isLitIx (i : BitVec 9) : Bool := i == 383#9

/-- The literal rule of R61: bits above the width are all zero or all copies of the top bit. -/
def litFits (lit : Dword) (w : Nat) : Bool :=
  if w ≥ 64 then true
  else
    let hi := lit.toNat >>> w
    hi == 0 || (hi == 2 ^ (64 - w) - 1 && bit lit.toNat (w - 1))

/-- R61: the literal is named exactly when it is there, and its upper bits obey the rule of the width. -/
def litFault (lit : Option Dword) (named : Bool) (w : Nat) : Option EncFault :=
  match lit with
  | none => faultIf named (.opcode 4)
  | some l => faultIf (!named || !litFits l w) (.opcode 4)

/-- R61: index 383 in a destination of an instruction without a literal; it stands above the ILLEGAL_OPERAND of R59 (17
R383). -/
def litDst (lit : Option Dword) (i : BitVec 9) : Option EncFault := faultIf (lit.isNone && isLitIx i) (.opcode 4)

/-! ## Operand kinds of the pages -/

/-- What a page lets a lane source field name. -/
inductive SK where
  /-- unused: must be zero -/
  | none
  /-- any readable source of 06 R131 -/
  | any
  /-- any readable source but an inline integer (an operand read as D8 or SC8, R62) -/
  | noImm
  /-- a lane register v0 to v319 -/
  | vreg
  /-- a mask register (R64) -/
  | kreg
  /-- v0 to v318, a register with its next one -/
  | vpair
  /-- anything: another rule decides it -/
  | free
deriving DecidableEq, Repr

/-- What a page lets a lane destination field name. -/
inductive DK where
  | none | any | kreg | vreg | vpair | free
  /-- a lane register or `zero` -/
  | vzero
  /-- v0 to v316 -/
  | vquad
deriving DecidableEq, Repr

/-- The fault of a lane source field; `w` is its operand number for ILLEGAL_OPERAND. -/
def srcFault (k : SK) (i : BitVec 9) (w : Nat) : Option EncFault :=
  match k with
  | .none => faultIf (i != 0#9) (.opcode 2)
  | .free => none
  | .kreg => faultIf (decide (i.toNat ≥ 8)) (.opcode 2)
  | .any | .noImm | .vreg | .vpair =>
    match laneIx i.toNat with
    | .reserved => some (.opcode 1)
    | .rq => some (.operand w)
    | .imm _ =>
      match k with
      | .noImm => some (.opcode 0)
      | .any => none
      | _ => some (.operand w)
    | .v n => faultIf (decide (k = .vpair ∧ n > 318)) (.operand w)
    | _ =>
      match k with
      | .vreg | .vpair => some (.operand w)
      | _ => none

/-- The fault of a lane destination field. -/
def dstFault (k : DK) (i : BitVec 9) : Option EncFault :=
  match k with
  | .none => faultIf (i != 0#9) (.opcode 2)
  | .free => none
  | .kreg => faultIf (decide (i.toNat ≥ 8)) (.opcode 2)
  | .any | .vreg | .vpair | .vzero | .vquad =>
    match laneIx i.toNat with
    | .reserved => some (.opcode 1)
    | .v n =>
      match k with
      | .vpair => faultIf (decide (n > 318)) (.operand 0)
      | .vquad => faultIf (decide (n > 316)) (.operand 0)
      | _ => none
    | .zero =>
      match k with
      | .any | .vzero => none
      | _ => some (.operand 0)
    | .rq =>
      match k with
      | .any => none
      | _ => some (.operand 0)
    | _ => some (.operand 0)

/-- A field that its page marks as unused must be zero (R63). -/
def zeroField (c : Bool) : Option EncFault := faultIf c (.opcode 2)
/-- A used field holds a value its page does not allow (17 R384, reason 0). -/
def badValue (c : Bool) : Option EncFault := faultIf c (.opcode 0)

/-! ## XA in the lane stream (R68, 06) -/

/-- How a form rounds: not at all, in every mode, or in every mode but stochastic (06 R159). -/
inductive RndUse where
  | none | all | noSto
deriving DecidableEq, Repr

/-- Where a form takes its random bits from (05 R116). -/
inductive RandAt where
  | none
  /-- the index in `c9` -/
  | c
  /-- the register after the one in `c9` -/
  | cNext
deriving DecidableEq, Repr

/-- What the page of a lane form says of the fields of XA. -/
structure XaSpec where
  types : List Nat
  variants : List Nat
  rnd : RndUse
  sat : Bool
  mods : Nat
  imm : Option EncFault
  d : DK
  a : SK
  b : SK
  c : SK
  rand : RandAt
  imm21 : Option EncFault
deriving DecidableEq, Repr

/-- A random-bit index of `c9`: the sources that the table of R116 admits, which `laneid` is not among. The manual does not
say which fault `laneid` raises; it is taken as R237 and R131 take an index that a page does not list (entry 13). -/
def randIxFault (i : BitVec 9) : Option EncFault :=
  match laneIx i.toNat with
  | .laneid => some (.operand 3)
  | _ => srcFault .any i 3

/-- The fault of `c9` as far as random bits use it (05 R116). A nonzero index under a code that reads no random bits is a
value that its page does not allow in a used field: reason 0 of ILLEGAL_OPCODE, DESIGN CHOICE (entry 13). -/
def randFault (sp : XaSpec) (f : XaF) : Option EncFault :=
  match sp.rand with
  | .none => srcFault sp.c f.c9 3
  | .c =>
    if f.rnd = 5#3 ∨ f.rnd = 7#3 then randIxFault f.c9 else badValue (f.c9 != 0#9)
  | .cNext => opcodeFirst [srcFault sp.c f.c9 3, badValue (f.rnd == 5#3 && decide (f.c9.toNat > 318))]

/-- Whether some source field of the form names the literal. -/
def xaNamesLit (sp : XaSpec) (f : XaF) : Bool :=
  (decide (sp.a ≠ .none) && isLitIx f.a9) || (decide (sp.b ≠ .none) && isLitIx f.b9)
  || (decide (sp.c ≠ .none ∨ sp.rand = .c) && isLitIx f.c9)

/-- The first fault of a lane XA form by its page (R68 to R70, R78, R79). -/
def legalXa (sp : XaSpec) (f : XaF) : Option EncFault :=
  opcodeFirst [
    badValue (!sp.types.contains (f.xop.toNat % 8)),
    badValue (!sp.variants.contains (f.xop.toNat / 8)),
    (match sp.rnd with
     | .all => none
     | .none => badValue (f.rnd != 0#3)
     | .noSto => badValue (f.rnd == 5#3)),
    badValue (!sp.sat && f.sat != 0#1),
    badValue (decide (f.mod.toNat &&& (15 - sp.mods) ≠ 0)),
    sp.imm,
    srcFault sp.a f.a9 1,
    srcFault sp.b f.b9 2,
    randFault sp f,
    dstFault sp.d f.d9,
    zeroField (f.order != 0#4),
    sp.imm21,
    litFault f.lit (xaNamesLit sp f) 32, litDst f.lit f.d9 ]

/-- The base form as the extended form it executes as (R76); its `b` names the literal when there is one (R61). -/
def xaOfBa (ty : Nat) (f : BaF) : XaF :=
  { lit := f.lit, imm21 := 0#21, d9 := f.d.setWidth 9, a9 := f.a.setWidth 9,
    b9 := if f.lit.isSome then 383#9 else f.b.setWidth 9, xop := BitVec.ofNat 5 ty, c9 := 0#9, rnd := 0#3, sat := 0#1,
    kmask := 0#3, mod := 0#4, order := 0#4, imm8 := 0#8 }

/-- A base word with a literal holds 0x7F in `b` (R61). -/
def baLitFault (f : BaF) : Option EncFault := faultIf (f.lit.isSome && f.b != 0x7F#7) (.opcode 4)

/-- The fault of a lane base form. -/
def legalBa (sp : XaF → XaSpec) (ty : Nat) (f : BaF) : Option EncFault :=
  (baLitFault f).orElse fun _ => legalXa (sp (xaOfBa ty f)) (xaOfBa ty f)

/-- `imm21` is `rsvd`. -/
def imm21Zero (f : XaF) : Option EncFault := zeroField (f.imm21 != 0#21)

/-- The page of a form with sources a and b and no other use of a field. -/
def spec2 (types : List Nat) (sat : Bool) (f : XaF) : XaSpec :=
  { types := types, variants := [0], rnd := .none, sat := sat, mods := 0, imm := zeroField (f.imm8 != 0#8), d := .any,
    a := .any, b := .any, c := .none, rand := .none, imm21 := imm21Zero f }

/-- The page of a form with the one source a. -/
def spec1 (types : List Nat) (f : XaF) : XaSpec := { spec2 types false f with b := .none }

-- Types of R69 by their codes: 0 f32, 1 f16, 2 bf16, 3 d8, 4 i8, 5 i32, 6 u32, 7 sc8.

/-- IADD, ISUB, IMUL (06 R137). -/
def specArith (f : XaF) : XaSpec := spec2 [5, 6] true f
/-- IMULHI, IMIN, IMAX (06 R137). -/
def specMinMax (f : XaF) : XaSpec := spec2 [5, 6] false f
/-- IMAD (06 R137). -/
def specImad (f : XaF) : XaSpec := { spec2 [5, 6] true f with c := .any }
/-- AND to ROT (06 R137, R138). -/
def specLogic (f : XaF) : XaSpec := spec2 [6] false f
/-- BFX (06 R138). -/
def specBfx (f : XaF) : XaSpec := { spec2 [6] false f with variants := [0, 1] }
/-- BFI (06 R138). -/
def specBfi (f : XaF) : XaSpec := { spec2 [6] false f with c := .any }
/-- POPC, CLZ, CTZ, BREV (06 R137). -/
def specBit (f : XaF) : XaSpec := spec1 [6] f

/-- The destination of a compare: a lane register, or a mask register under `imm8`[7] (06 R132). -/
def cmpDst (f : XaF) : DK := if f.imm8.getLsbD 7 then .kreg else .any

/-- ICMP (06 R139). -/
def specIcmp (f : XaF) : XaSpec :=
  { spec2 [5, 6] false f with d := cmpDst f, imm := badValue (decide (f.imm8.toNat % 8 ≥ 6 ∨ f.imm8.toNat / 8 % 16 ≠ 0)) }
/-- SEL (06 R137). -/
def specSel (f : XaF) : XaSpec :=
  { spec2 [6] false f with
    c := if f.imm8.getLsbD 6 then .kreg else .any, imm := badValue (f.imm8 &&& 0xBF#8 != 0#8) }
/-- FADD, FSUB, FMUL (06 R140). -/
def specF2 (f : XaF) : XaSpec := { spec2 [0] true f with rnd := .all, mods := 7, rand := .c }
/-- FFMA (06 R140). -/
def specFfma (f : XaF) : XaSpec := { spec2 [0] true f with rnd := .all, mods := 15, c := .any, rand := .cNext }
/-- FMIN, FMAX (06 R140). -/
def specFminmax (f : XaF) : XaSpec := { spec2 [0] false f with mods := 7 }
/-- FCMP (06 R142). -/
def specFcmp (f : XaF) : XaSpec :=
  { spec2 [0] false f with mods := 7, d := cmpDst f, imm := badValue (decide (f.imm8.toNat / 8 % 16 ≠ 0)) }
/-- FCLASS (06 R143). -/
def specFclass (f : XaF) : XaSpec :=
  { spec1 [0] f with d := cmpDst f, imm := badValue (!f.imm8.getLsbD 7 && f.imm8 != 0#8) }
/-- Major 0x11 (06 R144). -/
def specFn (f : XaF) : XaSpec := { spec1 [0] f with sat := true, mods := 3 }
/-- HADD2, HMUL2 (06 R146). -/
def specH2 (f : XaF) : XaSpec := { spec2 [1, 2] true f with rnd := .all, mods := 7, rand := .c }
/-- HFMA2 (06 R146). -/
def specHfma (f : XaF) : XaSpec := { spec2 [1, 2] true f with rnd := .all, mods := 15, c := .any, rand := .cNext }
/-- DOT2H (06 R146). -/
def specDot2h (f : XaF) : XaSpec := { spec2 [1, 2] true f with rnd := .all, c := .any, rand := .cNext }
/-- DOT4D8 (06 R146, R148). The scale register that `imm21` names in the scaled variant must be v0 to v319; any other value
raises ILLEGAL_OPERAND with operand 3, reserved and inline indices too: DESIGN CHOICE, the manual names no fault
(entry 13). -/
def specDot4 (f : XaF) : XaSpec :=
  let scaled := decide (f.xop.toNat / 8 = 1)
  let i8 := decide (f.xop.toNat % 8 = 4)
  { spec2 [3, 4] true f with
    variants := [0, 1], rnd := if i8 && !scaled then .none else .all, a := .noImm, b := .noImm, c := .any,
    rand := if i8 && !scaled then .none else .cNext,
    imm := if scaled then zeroField (decide (f.imm8.toNat / 16 ≠ 0)) else zeroField (f.imm8 != 0#8),
    imm21 := if scaled then (zeroField (decide (f.imm21.toNat / 512 ≠ 0))).orElse fun _ =>
        faultIf (decide (f.imm21.toNat % 512 ≥ 320)) (.operand 3)
      else imm21Zero f }
/-- Elements in a 32-bit word by type code (06 R150). -/
def elemsOf (ty : Nat) : Nat := if ty = 1 ∨ ty = 2 then 2 else if ty = 3 ∨ ty = 4 then 4 else 1
/-- CVT (06 R150, R151). -/
def specCvt (f : XaF) : XaSpec :=
  let dt := f.xop.toNat % 8
  let sty := f.imm8.toNat % 8
  { spec1 [0, 1, 2, 3, 4, 5, 6] f with
    rnd := .all, sat := true, rand := .c,
    a := if sty = 3 then .noImm else .any,
    imm := badValue (decide (sty = 7 ∨ sty = dt ∨ f.imm8.toNat / 8 % 4 ≥ elemsOf dt ∨ f.imm8.toNat / 32 % 4 ≥ elemsOf sty
      ∨ f.imm8.toNat / 128 ≠ 0)) }
/-- PACK (06 R150, R152). -/
def specPack (f : XaF) : XaSpec :=
  let ty := f.xop.toNat % 8
  { spec2 [1, 2, 3, 4] true f with
    rnd := if ty = 4 then .none else .all, rand := if ty = 4 then .none else .c,
    imm := badValue (decide (f.imm8.toNat > 1 ∨ (f.imm8.toNat = 1 ∧ (ty = 1 ∨ ty = 2)))) }
/-- UNPACK (06 R150, R152). -/
def specUnpack (f : XaF) : XaSpec :=
  let ty := f.xop.toNat % 8
  { spec1 [1, 2, 3, 4] f with
    rnd := if ty = 3 then .all else .none, rand := if ty = 3 then .c else .none,
    a := if ty = 3 then .noImm else .any, imm := badValue (decide (f.imm8.toNat ≥ elemsOf ty)) }
/-- QSCALE (06 R150, R153). -/
def specQscale (f : XaF) : XaSpec :=
  let amax := decide (f.xop.toNat / 8 = 1)
  { spec2 [3, 4] (!amax) f with
    variants := [0, 1], rnd := if amax then .none else .all, rand := if amax then .none else .c,
    b := if amax then .none else .noImm,
    imm := badValue (decide (f.imm8.toNat / 4 % 4 ≠ 0 ∨ f.imm8.toNat / 64 ≠ 0 ∨ (amax ∧ f.imm8.toNat / 16 ≠ 0))) }
/-- DQSCALE (06 R150, R153). -/
def specDqscale (f : XaF) : XaSpec :=
  { spec2 [3, 4] true f with
    rnd := .all, rand := .c, a := if f.xop.toNat % 8 = 3 then .noImm else .any, b := .noImm,
    imm := badValue (decide (f.imm8.toNat / 4 % 4 ≠ 0 ∨ f.imm8.toNat / 64 ≠ 0)) }
/-- HADQ (06 R150, R154). -/
def specHadq (f : XaF) : XaSpec :=
  let inv := decide (f.xop.toNat / 8 = 1)
  { spec2 [3] (!inv) f with
    variants := [0, 1], rnd := if inv then .none else .all, rand := if inv then .none else .cNext, c := .any,
    a := if inv then .noImm else .any,
    imm := badValue (decide (f.imm8.toNat / 4 % 4 ≠ 0 ∨ f.imm8.toNat / 64 ≠ 0
      ∨ f.imm8.toNat % 4 = f.imm8.toNat / 16 % 4)) }
/-- SHFL (06 R155). -/
def specShfl (f : XaF) : XaSpec := { spec2 [6] false f with variants := [0, 1, 2, 3] }
/-- BCAST, HIST, HMERGE (06 R155). -/
def specBcast (f : XaF) : XaSpec := spec2 [6] false f
/-- QSWAP (06 R155). -/
def specQswap (f : XaF) : XaSpec := { spec1 [6] f with variants := [0, 1, 2] }
/-- QBCAST (06 R155). -/
def specQbcast (f : XaF) : XaSpec := { spec1 [6] f with imm := badValue (decide (f.imm8.toNat > 3)) }
/-- VOTE (06 R155, R132). -/
def specVote (f : XaF) : XaSpec :=
  { spec1 [6] f with
    variants := [0, 1, 2, 3], d := cmpDst f, a := if f.imm8.getLsbD 6 then .kreg else .any,
    imm := zeroField (decide (f.imm8.toNat % 64 ≠ 0)) }
/-- REDUCE and SCAN (06 R155, R159); `vs` are the variants. -/
def specReduce (vs : List Nat) (f : XaF) : XaSpec :=
  let op := f.imm8.toNat
  let fp := decide (f.xop.toNat % 8 = 0)
  { spec1 [0, 5, 6] f with
    variants := vs, rnd := .noSto, sat := decide (op = 0),
    imm := badValue (decide (op > 5 ∨ (fp ∧ op ≥ 3))) }
/-- CXSTAGE (06 R155, R161): a stage beyond the group is judged with the wave's width. Its type is f32, as R79 lists it; R155
calls it u32: DESIGN CHOICE (entry 44). -/
def specCx (f : XaF) : XaSpec :=
  { spec2 [0] false f with d := .vpair, a := .vpair, b := .vpair, imm := badValue (decide (f.imm8.toNat > 7)) }
/-- MOV (06 R162). -/
def specMov (f : XaF) : XaSpec := spec1 [6] f
/-- MOVREL (06 R162). -/
def specMovrel (f : XaF) : XaSpec := { spec2 [6] false f with a := .vreg }
/-- MOVRELW (06 R162). -/
def specMovrelw (f : XaF) : XaSpec := { spec2 [6] false f with d := .vreg }
/-- GETEXEC (06 R163). -/
def specGetexec (f : XaF) : XaSpec :=
  { spec1 [6] f with d := cmpDst f, a := .none, imm := zeroField (decide (f.imm8.toNat % 128 ≠ 0)) }
/-- SETEXEC (06 R163): `kmask` must be zero. -/
def specSetexec (f : XaF) : XaSpec :=
  { spec1 [6] f with
    d := .none, a := if f.imm8.getLsbD 6 then .kreg else .any,
    imm := (badValue (f.kmask != 0#3)).orElse fun _ => zeroField (f.imm8 &&& 0xBF#8 != 0#8) }
/-- VRDL (06 R164). -/
def specVrdl (f : XaF) : XaSpec := spec2 [6] false f
/-- VWRL (06 R164). -/
def specVwrl (f : XaF) : XaSpec := { spec2 [6] false f with d := .none, c := .any }

end Sys2Proof.Machine
end

