-- ==== Sys2Proof/Machine/Types.lean ====
section
/-! DEFINITION. The plain records that State is made of: waves and what they hold (02, 04, 07, 16, 17), blocks (02, 17),
cores and L1s (08, 10, 12), home slices and messages in flight (10, 15). Graph, host and power records stand in
TypesGraph.lean. -/
namespace Sys2Proof.Machine

/-- A block of the loaded graph: its node and BLOCKID (02 R18), and for a block of a dispatch node the number of its grid,
whose blocks are numbered from 0 (13 R301); 0 for any other. -/
structure BKey where
  node : Nat
  blk : Nat
  grid : Nat
deriving DecidableEq, Repr

/-- A semaphore or barrier as a wait or signal reaches it (16 R369, R370): `j` is the span core index; for the span
barriers b32 to b47 it is 0. -/
inductive ObjRef where
  | sem (key : BKey) (j n : Nat)
  | bar (key : BKey) (j n : Nat)
deriving DecidableEq, Repr

/-- Why a wave is Parked (02 R19, R49; 17 R389), with the stream that waits and the bytes of its instruction. -/
inductive Park where
  /-- SEMWAIT (16 R375) -/
  | semwait (st : Stream) (len : Nat) (o : ObjRef) (thr : Nat) (take : Bool)
  /-- BARWAIT for the phase after `p`, recorded in the waiter list of its barrier (16 R377) -/
  | barwait (st : Stream) (len : Nat) (o : ObjRef) (p : Nat)
  /-- MWAIT on a batch number (12 R277) -/
  | mwait (len n : Nat)
  /-- VCLAIM (07 R185), with its place in the order of claims: 64 × its cluster's cycle + the wave slot -/
  | vclaim (len n seq : Nat)
  /-- CONSUME (14 R322) -/
  | consume (len : Nat)
  /-- a missing page at a virtual address (17 R389) -/
  | page (st : Stream) (va : Nat)
  /-- its wait is satisfied and the limiter has not yet admitted its cluster (18 R414) -/
  | released (st : Stream) (len : Nat)
deriving DecidableEq, Repr

/-- The states of R19 (02). A Saved wave stands in its block's saved record and no longer in a slot. -/
inductive WStatus where
  | reserved
  | running
  | parked (p : Park)
  | retired
deriving DecidableEq, Repr

/-- The eight class counters of R365 (16). -/
inductive OpCls where
  | laneLd | laneSt | laneMx | laneQo | leadLd | leadSt | leadCp | leadQo
deriving DecidableEq, Repr

/-- The stream of a class. -/
def OpCls.stream : OpCls → Stream
  | .laneLd | .laneSt | .laneMx | .laneQo => .lane
  | .leadLd | .leadSt | .leadCp | .leadQo => .lead

/-- Where the result of an outstanding operation goes (the register scoreboard, 02 R22, 12 R264). -/
inductive Dst where
  | none
  /-- lane registers base to base + n − 1 in the lanes of a mask; `sgn` extends a short load (11 R233) -/
  | lanes (base n : Nat) (mask : Nat) (size : Nat)
  /-- a lead register, with the size code of its load -/
  | lead (idx size : Nat)
  /-- two lead registers idx and idx + 1 (RNEXT) -/
  | lead2 (idx : Nat)
  /-- an LQ entry by its number -/
  | lq (id size : Nat)
deriving DecidableEq, Repr

/-- An outstanding operation of a wave (16 R365, R366), held from issue until every earlier operation of its class and
itself have finished. `left` counts its values not yet returned, `leftDie` and `leftAll` its writes not yet acknowledged
at `.die` and at `.dev` (10 R218). -/
structure Op where
  id : Nat
  cls : OpCls
  /-- WORDS, MAJ and MIN of the instruction, for a deferred fault (17 R384) -/
  tinfo : Nat
  pc : Nat
  left : Nat
  leftDie : Nat
  leftAll : Nat
  /-- an STT: performed at no scope before its pushes are answered (09 R202) -/
  pushes : Bool
  dst : Dst
  /-- an acquire is applied when the operation performs (ATOM `.acq`, 11 R244) -/
  acq : Bool
  /-- bytes returned so far, by lane -/
  got : List (Nat × List Byte)
  /-- lanes whose bytes were poisoned, with the virtual address of the line (11 R250) -/
  bad : List (Nat × Nat)
  done : Bool
deriving DecidableEq, Repr

/-- A fault or trap on its way to the trap registers (17 R383, R384). -/
structure Trap where
  cause : Nat
  st : Stream
  deferred : Bool
  flanes : Nat
  taddr : Nat
  tinfo : Nat
deriving DecidableEq, Repr

/-- A posted deferred fault (16 R367): the operation that posted it and its class decide who takes it. -/
structure Deferred where
  cause : Nat
  op : Nat
  cls : OpCls
  flanes : Nat
  taddr : Nat
  tinfo : Nat
  /-- POISON of a load, returning ATOM or LDLQ is also taken by a reader of these destinations (11 R250) -/
  dst : Dst
  /-- operations of its class that the stream issued after it -/
  later : Nat
  /-- its operation was issued by a handler (17 R388) -/
  handler : Bool
deriving DecidableEq, Repr

/-- An entry of the reconvergence stack (07 R177): `rpc` holds the reconvergence PC with the kind in bits [1:0]. -/
structure SEntry where
  pc : Nat
  rpc : Nat
  mask : Nat
deriving DecidableEq, Repr

/-- An LQ entry (02 R25, 11 R250, R251): its lanes' words when filled, and the descriptor of its reads. -/
structure LqEntry where
  id : Nat
  filled : Bool
  data : List Word
  addr : Nat
  stride : Int
  size : Nat
  /-- lanes that were poisoned: the fault is delivered when the entry is popped -/
  poison : Nat
deriving DecidableEq, Repr

/-- A batch of the batch table (12 R256): pending entries and pending event counts. -/
structure MBatch where
  num : Nat
  pending : Nat
  nan : Nat
  ovf : Nat
deriving DecidableEq, Repr

/-- The kernel header fields in force for a wave (03 R84); section addresses are virtual. -/
structure KInfo where
  leadBase : Nat
  leadSize : Nat
  laneBase : Nat
  laneSize : Nat
  /-- 0 when the header has no abort entry -/
  abortPc : Nat
  regs : Nat
  sregs : Nat
  tiles : Nat
  barriers : Nat
  spanb : Nat
  sems : Nat
  scratch : Nat
  divspill : Nat
  record : Nat
  consts : Nat
deriving DecidableEq, Repr

/-- How a stream stands in the cycle that runs (02 R22, R47; 16 R382): not judged yet; ready and not issued;
issued; not ready; its wave not Running as the cycle began; held only by the charge-budget limiter (18 R411); or, in a cycle
that is counted out for its wave (02 R53, 18 R413), ready but for that (`out`) or not ready (`shut`). -/
inductive Attempt where
  | none
  | ready
  | issued
  | unready
  | parked
  | unpaid
  | out
  | shut
deriving DecidableEq, Repr

/-- A form that holds its lead stream until it has acted, at its following instruction (11 R253, R254): a phase form with
the operations it waits for and whether it acquires; CRANGE with its range's die and entry and the index of its `d9`. -/
inductive Hold where
  | phase (scope : Nat) (after : List Nat) (acq : Bool)
  | opening (die i d : Nat)
  | closing (die i d : Nat)
deriving DecidableEq, Repr

/-- The state of a wave in a hardware slot. -/
structure Wave where
  /-- core 0 to 191 and slot 0 to 63; the management core stands at core 192 -/
  core : Nat
  slot : Nat
  mgmt : Bool
  status : WStatus
  key : BKey
  waveid : Nat
  role : Nat
  /-- PCLS (04 R99): class in [1:0], deadline in [2] -/
  pcls : Nat
  /-- 16, 32 or 64 (04 R99) -/
  width : Nat
  poolpart : Nat
  /-- span core index j (02 R17) -/
  j : Nat
  k : KInfo
  prio : Nat
  leadPc : Nat
  lanePc : Nat
  leadDone : Bool
  laneDone : Bool
  inTrap : Bool
  aborted : Bool
  exec : Nat
  helper : Nat
  kreg : List (Nat × Nat)
  /-- lane registers: key 64 × register + lane; an unlisted word reads 0 (08 R190) -/
  v : List (Nat × Word)
  /-- the valid sectors of its registers, ascending: 2 × (register / 2), and 1 more for lanes 32 to 63 (08 R190) -/
  sect : List Nat
  s : List (Nat × Dword)
  c : List (Nat × Word)
  g : Nat
  rnd : Nat
  tcause : Nat
  tpclead : Nat
  tpclane : Nat
  flanes : Nat
  taddr : Nat
  tinfo : Nat
  cyc : Nat
  lq : List LqEntry
  dq : List Word
  rq : List Dword
  /-- on-chip entries, top first -/
  stack : List SEntry
  /-- entries in the spill area, which lies at physical address `spillBase` (07 R183) -/
  spill : Nat
  spillBase : Nat
  ops : List Op
  deferred : Option Deferred
  /-- starvation timer (16 R382), coupling-deadlock count (07 R176), parked cycles (17 R390) -/
  starve : Nat
  deadlock : Nat
  parkCount : Nat
  /-- readiness ages: the cycle of its cluster in which each stream last became ready (02 R23) -/
  ageLead : Nat
  ageLane : Nat
  /-- cycles a YIELD still holds each stream; TIMEN at which a SLEEP ends (17 R404) -/
  yieldLead : Nat
  yieldLane : Nat
  sleepLead : Option Nat
  sleepLane : Option Nat
  /-- how each stream stands in this cycle -/
  tryLead : Attempt
  tryLane : Attempt
  /-- its starvation timer has raised its place (02 R23, R47) -/
  promoted : Bool
  /-- dirty-line set, oldest first (10 R223) -/
  dirty : List Nat
  /-- record windows (14 R323): physical address of page 0, next page, first CONSUME done, records in each page -/
  winBase : Nat
  winNext : Nat
  winFirst : Bool
  winRecs0 : Nat
  winRecs1 : Nat
  bseq : Nat
  batches : List MBatch
  /-- pending entries and event counts of the open batch (12 R256, R281) -/
  open_ : MBatch
  pendTrap : Option Trap
  /-- number of the next operation when the trap was entered: later operations are the handler's (17 R388) -/
  trapOp : Nat
  /-- the elected lane of the trap being handled: its helper status does not count in the handler (17 R387) -/
  trapLane : Nat
  /-- the block of this wave is being saved: it issues nothing (17 R394) -/
  stopped : Bool
  /-- the host refused the missing page at this address: the next miss there takes PAGE_PROT (17 R389) -/
  refused : Option Nat
  /-- records placed with the wave (14 R322) -/
  nrec : Nat
  /-- the form that holds the lead stream until it has acted (11 R253, R254) -/
  holding : Option Hold
deriving DecidableEq, Repr

/-! ## Matrix entries -/

/-- How far a matrix entry has come (12 R262): waiting in its FIFO, an MPAIR whose cores have agreed a start (R272), or with
its operand reads done. -/
inductive MState where
  | waiting
  | paired
  | reading
deriving DecidableEq, Repr

/-- An entry of a matrix FIFO (12 R256), with the register values read at issue (R259). -/
structure MEntry where
  id : Nat
  key : BKey
  /-- issuing wave -/
  core : Nat
  slot : Nat
  /-- core on which this half runs: the far half of an MPAIR runs on the partner (12 R272) -/
  far : Bool
  deadline : Bool
  st : MState
  instr : Instr
  mask : Nat
  /-- the number of its batch, under which MFENCE closes it later (12 R276) -/
  batch : Nat
  pc : Nat
  mode : Nat
  regs : List (List Word)
  /-- operand bytes read when the entry started: its operand latch (12 R256) -/
  latch : List Byte
  /-- the other half of an MPAIR has committed -/
  halfDone : Bool
deriving DecidableEq, Repr

/-! ## Blocks -/

/-- A semaphore (16 R369) with the slots of its take queue in order: the waves parked in SEMWAIT `.take`. -/
structure Sem where
  count : Nat
  tag : Nat
  takes : List (Nat × Nat)
deriving DecidableEq, Repr

/-- A barrier (16 R369) with its waiter list, by core and slot. -/
structure Bar where
  arr : Nat
  exp : Nat
  phase : Nat
  pend : Nat
  tag : Nat
  waiters : List (Nat × Nat)
  /-- the cycle of its cluster after that of its last completion: it completes at most once in a cycle (R377) -/
  next : Nat
deriving DecidableEq, Repr

/-- What a block holds on one core of its span (02 R17, R35; 08 R191, R197). -/
structure CoreSeg where
  core : Nat
  /-- register reserve, in granules -/
  reserve : Nat
  sems : List Sem
  bars : List Bar
  /-- scratchpad window: byte offset to byte; an unlisted byte reads 0 (08 R190) -/
  scratch : List (Nat × Byte)
  /-- tiles: 128 × tile + 16 × row + column to word; an unlisted word reads 0 -/
  tiles : List (Nat × Word)
  /-- the valid sectors of the window and of the tiles, ascending, by their byte offsets / 256 (08 R190) -/
  ssect : List Nat
  tsect : List Nat
deriving DecidableEq, Repr

/-- How a block stands (02 R19, R20; 17 R391, R394). -/
inductive BStatus where
  | reserved
  | running
  /-- stopping to be saved; FAULTED when a fault had no handler; the image goes to the save pool, or to this address of a
  context save area -/
  | saving (faulted : Bool) (image : Option Nat)
  | saved (faulted : Bool) (image : Nat)
deriving DecidableEq, Repr

/-- A wave of a saved block (17 R395): its state, the records of its windows, and its spilled stack entries (07 R183). -/
structure SavedWave where
  wave : Wave
  win0 : List Byte
  win1 : List Byte
  spill : List Byte
deriving DecidableEq, Repr

/-- A block placed on or saved from a die. -/
structure Block where
  key : BKey
  die : Nat
  core0 : Nat
  k : Nat
  n : Nat
  width : Nat
  status : BStatus
  pcls : Nat
  prio : Nat
  /-- records of its batch, and their greatest DEPTH (13 R293) -/
  r : Nat
  depth : Nat
  segs : List CoreSeg
  spanBars : List Bar
  /-- per edge: records appended and allowance (13 R293, 14 R322) -/
  edges : List (Nat × Nat)
  /-- records that later CONSUMEs took, whose credits are the block's own in every class (14 R322) -/
  later : Nat
  /-- range descriptor: cluster and index (02 R38) -/
  desc : Option (Nat × Nat)
  /-- waves not yet retired -/
  live : Nat
  /-- cause that faulted it, for the fault record and BLOCK_CONTROL (20 R436) -/
  cause : Nat
  /-- for a block of a grid: its local index and its parameter-record address (13 R301, 14 R324) -/
  grid : Option (Nat × Nat)
  /-- tile-order keys of records it holds (13 R304) -/
  tileKeys : List Nat
  /-- its waves while it is Saved, in WAVEID order -/
  saved : List SavedWave
  /-- the matrix entries that its save abandoned, in their order (12 R280) -/
  abandoned : List MEntry
  /-- VACATE_CORES saves it (20 R433) -/
  vacate : Bool
deriving DecidableEq, Repr

/-! ## Cores -/

/-- Line states of an L1 (10 R216); a line in state I is not listed. -/
inductive LineSt where
  | s | p | c
deriving DecidableEq, Repr

/-- A line held by an L1 (10 R216): its copy of the 128 bytes, or in state C its partial, with the touched words. -/
structure L1Line where
  line : Nat
  st : LineSt
  drop : Bool
  data : List Byte
  touched : Nat
deriving DecidableEq, Repr

/-- An entry of the pending-update array (10 R216): a 32-byte sector of a line, and bytes by their offsets in the line. -/
structure PendUpd where
  line : Nat
  sector : Nat
  bytes : List (Nat × Byte)
deriving DecidableEq, Repr

/-- A leaf translation (15 R347): first virtual address, log2 of its size, physical base, permission bits RD WR AT EX. -/
structure TlbEntry where
  va : Nat
  lg : Nat
  pa : Nat
  perm : Nat
deriving DecidableEq, Repr

/-- A core (08, 10, 12, 15). -/
structure Core where
  l1 : List L1Line
  pend : List PendUpd
  injcnt : Nat
  refcnt : Nat
  tlb : List TlbEntry
  mxnan : Nat
  mxovf : Nat
  /-- events committed in the cycle that runs, which a WRSR of that cycle does not lose (04 R102) -/
  nanNow : Nat
  ovfNow : Nat
  fifo : List MEntry
  /-- this core's side of a pair handshake in flight (12 R272): the entry's id -/
  pair : Option Nat
  /-- declared dead (10 R228) -/
  dead : Bool
deriving DecidableEq, Repr

/-! ## Home slices and messages -/

/-- Directory states (10 R217); a line in state U that holds nothing else is not listed. -/
inductive DirSt where
  | u | s | c | m
deriving DecidableEq, Repr

/-- A partial kept at a home (10 R217, R225): the words and their touched mask. -/
structure Partial where
  agent : Nat
  words : List Word
  touched : Nat
deriving DecidableEq, Repr

/-- A fold in progress (10 R225): cores whose probe is outstanding, and the loads that it answers; it poisons its line when a
dead core has taken a partial with it (10 R229). -/
structure Fold where
  cores : List Nat
  loads : List Nat
  poison : Bool
deriving DecidableEq, Repr

/-- A directory entry (10 R217). The state of a line is that of its range, its page and its sharers (Coherence.lean), and
the forward die of state M is the other die. -/
structure DirEntry where
  sharers : List Nat
  holders : List Nat
  parts : List Partial
  poison : Bool
  fold : Option Fold
deriving DecidableEq, Repr

/-- A line in state U with POISON 0 needs no entry. -/
def DirEntry.empty : DirEntry := { sharers := [], holders := [], parts := [], poison := false, fold := none }

/-- Who is told when a write has been recorded (10 R218). -/
inductive AckTo where
  /-- an operation of a wave: core, slot, operation -/
  | wave (core slot op : Nat)
  /-- a job of a die's footprint table, by its id -/
  | job (die id : Nat)
  /-- the ingest engine of a sensor stream -/
  | sensor (k : Nat)
  /-- the host's BAR2 writes, which a command waits for (09 R212) -/
  | host
  | none
deriving DecidableEq, Repr

/-- Acknowledgement of a store in progress (10 R218): the writer's die, the sharers that have not recorded it, the
destination cores of its pushes that have not answered, and whether ACK_DIE has been sent. -/
structure Ack where
  id : Nat
  tell : AckTo
  die : Nat
  wait : List Nat
  pushes : List Nat
  sentDie : Bool
deriving DecidableEq, Repr

/-- A handoff under way (10 R222, R223): the push of its line before `rest` is on its way to the core, under this number. -/
structure Handoff where
  id : Nat
  core : Nat
  rest : List Nat
deriving DecidableEq, Repr

/-- An ATOM of one lane (11 R243): operation, size in bytes, operand and compare values, whether it returns the old
value, and the PC for a generated NaN (05 R119). -/
structure AtomOp where
  op : Nat
  n : Nat
  lane : Nat
  v : Nat
  c : Nat
  returns : Bool
  pc : Nat
deriving DecidableEq, Repr

/-- A request to a home on behalf of an operation of a wave: the addresses are a line's, or an atomic's location. -/
structure Req where
  core : Nat
  slot : Nat
  op : Nat
  va : Nat
  pa : Nat
deriving DecidableEq, Repr

/-- Objects a signal changes (16 R374): a semaphore, a barrier or a join slot, with the change. -/
inductive Signal where
  | seminc (o : ObjRef) (n : Nat)
  | semset (o : ObjRef) (n tag : Nat)
  | barinit (o : ObjRef) (n tag : Nat)
  | bararr (o : ObjRef) (n : Nat)
  | barexp (o : ObjRef) (n : Nat) (arr : Bool)
  | joinset (die slot n tag : Nat)
  | joinadd (die slot n : Nat)
  | joindec (die slot n : Nat)
  | barpend (o : ObjRef) (n : Nat)
deriving DecidableEq, Repr

/-- A record in flight to a queue or a join slot (13 R289, R303). -/
structure RecMsg where
  die : Nat
  node : Nat
  /-- the join slot it is held at, for APPEND `.join` -/
  join : Option Nat
  bytes : List Byte
  depth : Nat
  family : Nat
  cluster : Nat
  cmark : Bool
  sideb : List Nat
  /-- producer: the operation to be told, and its core for port order -/
  tell : AckTo
  credit : Bool
  launch : Bool
  /-- edge index of the APPEND, for a deferred QUEUE_OVERRUN (17 R384) -/
  edge : Nat
deriving DecidableEq, Repr

/-- A queue entry: record bytes with its tag (13 R286); `since` is the cycle it arrived in (R291) and `batch` the closed
batch it is in, if any. -/
structure QEntry where
  seq : Nat
  depth : Nat
  family : Nat
  cmark : Bool
  cluster : Nat
  void : Bool
  /-- handoff sideband: its lines; none is 0x7FF -/
  sideb : List Nat
  bytes : List Byte
  since : Nat
  batch : Option Nat
  /-- it stands in the spill extension (R287) -/
  spilled : Bool
deriving DecidableEq, Repr

/-- What travels between cores, homes and the other agents. A message becomes an event when its turn comes; messages of
one path keep their order (10 R218). -/
inductive Msg where
  /-- read of a line for some lanes: lane, offset and bytes; `fill` asks for a copy, `pref` reads nothing -/
  | load (r : Req) (parts : List (Nat × Nat × Nat)) (fill pref : Bool)
  /-- write of bytes of a line by their offsets, then pushed to some cores -/
  | store (r : Req) (data : List (Nat × Byte)) (push : List Nat)
  | atom (r : Req) (a : AtomOp)
  /-- home to L1; `drop` when a snoop has invalidated the line on its way (10 R230) -/
  | fill (core line : Nat) (data : List Byte) (drop : Bool)
  /-- `now`: the update of an ATOM of the core itself, which its copy takes at once (09 R200) -/
  | update (core line : Nat) (data : List (Nat × Byte)) (ack : Nat) (now : Bool)
  | push (core line : Nat) (data : List Byte) (ack : Nat)
  | notice (core line : Nat)
  | probe (core line : Nat)
  /-- bytes back to their wave, by lane: of a load, which a copy installed meanwhile serves instead (`parts`, 09 R207), or
  old values of an ATOM; `poison` is the virtual address of the line when it is poisoned -/
  | ret (core slot op line : Nat) (data : List (Nat × List Byte)) (parts : List (Nat × Nat × Nat)) (poison : Option Nat)
  /-- L1 to home -/
  | pushReply (core line : Nat) (installed : Bool) (ack : Nat)
  | dereg (core line : Nat)
  | noticeReply (core line : Nat)
  | holder (core line : Nat)
  | evicted (core line : Nat) (words : List Word) (touched : Nat)
  /-- ACK_DIE (`all` false) or ACK_ALL -/
  | ack (tell : AckTo) (all : Bool)
  /-- signal on its way to its object; `to` is told when it has been applied -/
  | signal (tell : AckTo) (s : Signal) (die : Nat)
  /-- records of one operation to their queue, which take consecutive places (14 R325), or one record to a join slot -/
  | record (rs : List RecMsg)
  /-- directory entries of a migrating page, to its new home -/
  | migrate (page die : Nat) (entries : List (Nat × DirEntry))
  /-- records crossing Saddle after a steal (13 R300) -/
  | steal (die node : Nat) (recs : List QEntry)
deriving DecidableEq, Repr

/-- A message with its number, the wave that sent it, and its release (09 R203): the operations of that wave that must
perform first, at a scope. -/
structure NetMsg where
  id : Nat
  core : Nat
  slot : Nat
  after : List Nat
  scope : Nat
  /-- forwarded to the new home of a migrating page (10 R227) -/
  fwd : Bool
  /-- TIMEN when it was sent -/
  sent : Nat
  msg : Msg
deriving DecidableEq, Repr

/-- A remote-write counter (10 R226). -/
structure RwCounter where
  page : Nat
  count : Nat
  start : Nat
  hold : Nat
  used : Nat
deriving DecidableEq, Repr

/-- An entry of a commutative-range table (15 R359). -/
structure CRange where
  valid : Bool
  fmt : Nat
  op : Nat
  closing : Bool
  len : Nat
  base : Nat
  /-- the lines are in state C (11 R253 step 3), and the physical addresses of the range's 16 KiB pages: what the homes
  hold per line -/
  active : Bool
  pages : List Nat
deriving DecidableEq, Repr

end Sys2Proof.Machine
end

