-- ==== Sys2Proof/Machine/TypesGraph.lean ====
section
/-! DEFINITION. The plain records of graphs, queues and tables (13, 14, 15), code objects (19), clusters and dies
(18), host link and management core (20). -/
namespace Sys2Proof.Machine

/-- An edge of a node (15 R350). -/
structure Edge where
  target : Nat
  fanout : Nat
  depth : Nat
deriving DecidableEq, Repr

/-- A node-table entry (15 R349) as LOAD_GRAPH copies it, with what the loader derives from it: the kernel header's
fields, the trap vector table (R353), edges (R350), sink distance and largest batch (13 R290, R294). -/
structure Node where
  kind : Nat
  recsz : Nat
  cls : Nat
  qclass : Nat
  prio : Nat
  width : Nat
  policy : Nat
  waitf : Bool
  tileord : Bool
  coop : Nat
  minfill : Nat
  maxwait : Nat
  codeptr : Nat
  constptr : Nat
  edges : List Edge
  cmask : Nat
  dslots : Nat
  dgran : Nat
  param : Nat
  tv : List Nat
  sinkd : Nat
  hdr : KInfo
  roles : List Nat
  /-- code object that holds the kernel -/
  obj : Nat
  /-- the 64 bytes of its entry as loaded (15 R349) -/
  raw : Nat
deriving DecidableEq, Repr

/-- A queue of a node on a die (13 R285). -/
structure Queue where
  node : Nat
  qhead : Nat
  qtail : Nat
  qresv : Nat
  qcap : Nat
  scap : Nat
  qtag : Nat
  entries : List QEntry
deriving DecidableEq, Repr

/-- A closed batch, group or grid block awaiting admission or placement (13 R291 to R295, R301; 17 R396). -/
structure Batch where
  id : Nat
  node : Nat
  /-- its blocks, each with the number of records dealt to it in SEQ order -/
  parts : List (BKey × Nat)
  r : Nat
  depth : Nat
  admitted : Bool
  /-- since when it waits for reservation (02 R48) -/
  since : Nat
  /-- SEQ of its oldest record -/
  seq : Nat
deriving DecidableEq, Repr

/-- A grid with its indirection table (13 R301): first BLOCKID and parameter-record address per entry; `count` is the number
of its blocks and `total` counts those not yet retired. -/
structure Grid where
  id : Nat
  node : Nat
  entries : List (Nat × Nat)
  count : Nat
  total : Nat
deriving DecidableEq, Repr

/-- An entry of the pending-launch store (13 R302). -/
structure Launch where
  node : Nat
  param : Nat
  count : Nat
  since : Nat
deriving DecidableEq, Repr

/-- A range descriptor (02 R38) with the node whose record it holds. -/
structure RDesc where
  next : Nat
  hi : Nat
  grain : Nat
  family : Nat
  cluster : Nat
  abt : Bool
  valid : Bool
  node : Nat
  depth : Nat
deriving DecidableEq, Repr

/-- A join slot (15 R358); `held` is the parked record. -/
structure JoinSlot where
  count : Nat
  tag : Nat
  held : Option RecMsg
  /-- NODE and RECIDX of the record last appended -/
  node : Nat
  recidx : Nat
deriving DecidableEq, Repr

/-- A region of a footprint entry (15 R354). -/
structure Region where
  base : Nat
  rowbytes : Nat
  rows : Nat
  stride : Int
  mode : Nat
  scratch : Bool
  score : Nat
  scnt : Nat
deriving DecidableEq, Repr

/-- A job card (14 R331). -/
structure Card where
  src : Nat
  dst : Nat
  sstride : Int
  dstride : Int
  rowbytes : Nat
  rows : Nat
  skind : Nat
  dkind : Nat
  conv : Nat
  elem : Nat
  jobid : Nat
deriving DecidableEq, Repr

/-- What a footprint entry runs. -/
inductive JobKind where
  /-- CPY or a copy-node job -/
  | copy (c : Card)
  /-- COLL with its op (14 R333) -/
  | coll (op : Nat) (c : Card)
  /-- matrix-node job: its record bytes (13 R312) -/
  | matrix (rec : List Byte)
deriving DecidableEq, Repr

/-- An entry of a footprint table (15 R354), with what the engine needs to run and complete it (14 R335, R336). -/
structure Job where
  id : Nat
  jobid : Nat
  /-- 1 waiting, 2 running -/
  state : Nat
  core : Nat
  slot : Nat
  srck : Nat
  preds : List Nat
  regions : List Region
  kind : JobKind
  key : BKey
  /-- issuing operation of a wave, or the node and edge of a node job -/
  op : Nat
  node : Nat
  edge : Nat
  scope : Nat
  /-- operations of the issuing wave that its issue release waits for (09 R210) -/
  after : List Nat
  comp : Nat
  compNum : Nat
  /-- rows still to be moved: the next row; all moved when it equals the row count -/
  row : Nat
  /-- the row begun: bytes written of it, and the bytes still to write -/
  col : Nat
  buf : List Byte
  /-- writes not yet performed, by acknowledgement -/
  acks : Nat
  /-- a page it waits for, the fault it stopped with (cause, address, detail), STATUS and event counts -/
  page : Option Nat
  pageSince : Nat
  fault : Option (Nat × Nat × Nat)
  status : Nat
  nnan : Nat
  novf : Nat
  /-- bytes that it may still write before the next charge (18 R410) -/
  paid : Nat
  /-- the SC8 arrays of a matrix job, of A and of B, which are read when it starts (15 R355) -/
  scales : Option (List Byte × List Byte)
deriving DecidableEq, Repr

/-- A fault record of the host queue (20 R437). -/
structure FaultRec where
  va : Nat
  kind : Nat
  node : Nat
  core : Nat
  fseq : Nat
  /-- the cause of a fault without a handler, which no page is waited for; none for a missing page (17 R391, R398) -/
  cause : Option Nat
  /-- the graph whose translation missed -/
  graph : Nat
  /-- its page has been mapped, or its graph unloaded, before it was written: it is written, and never outstanding -/
  ended : Bool := false
deriving DecidableEq, Repr

/-- Status area of a node (13 R305). -/
structure NodeStatus where
  taken : Nat
  put : Nat
  lost : Nat
  overrun : Nat
  skip : Nat
  flags : Nat
deriving DecidableEq, Repr

/-- A kernel of a loaded object (03 R84): the address of its header, the header's fields in force for a wave, and those that
LOAD_GRAPH compares. -/
structure Kernel where
  ptr : Nat
  info : KInfo
  roles : List Nat
  cls : Nat
  coop : Nat
  width : Nat
deriving DecidableEq, Repr

/-- A code object (19 R418 to R421): base and size of its code region, table root, the check state and digest of each page. -/
structure CodeObj where
  id : Nat
  base : Nat
  ptroot : Nat
  size : Nat
  kernels : List Kernel
  chk : List Nat
  digests : List Nat
  rev : Bool
deriving DecidableEq, Repr

/-- What a mass release still has to wake (18 R414): the waves by core and slot; `rotated` once a later cycle has admitted
one of its clusters. -/
structure MassRelease where
  die : Nat
  /-- the cycle of its last admission: the next is in a later one -/
  since : Nat
  rotated : Bool
  waves : List (Nat × Nat)
deriving DecidableEq, Repr

/-- A cluster (02 R38, R42; 18 R406 to R416). -/
structure Cluster where
  descs : List RDesc
  abortLines : List Nat
  bucket : Int
  step : Nat
  /-- the bucket stayed full since the last microsecond began -/
  full : Bool
  throttle : Nat
  cbias : Nat
  settling : Bool
  /-- its slots stay empty in the cycle that runs (18 R407, R415): decided as the cycle begins -/
  idle : Bool
  temp : Nat
  /-- cycles counted, for the throttle window of R415 -/
  cycle : Nat
  /-- microseconds of TIMEN at the last step change (R412), and tenths of a millisecond at the last sample (R408) -/
  stepAt : Nat
  sampleAt : Nat
  /-- in the cycle that runs, a droop trip has come, and a sample has set the TALERT bit (R417) -/
  tripped : Bool
  alerted : Bool
  /-- TIMEN at which the thermal handler last changed THROTTLE: its table entry (18 R416) -/
  throttleAt : Nat
deriving DecidableEq, Repr

/-- A traversal that a missing page has stopped (15 R364): its node, the record that it has taken, the page, and once the host
has answered whether it mapped the page. -/
structure RayWait where
  node : Nat
  took : QEntry
  page : Nat
  answer : Option Bool
deriving DecidableEq, Repr

/-- A die: queues, tables and tags (13, 14, 15). -/
structure Die where
  queues : List Queue
  seq : Nat
  /-- batches in the order they closed -/
  batches : List Batch
  grids : List Grid
  launches : List Launch
  joins : List (Nat × JoinSlot)
  jobs : List Job
  ranges : List CRange
  ptroot : Nat
  /-- pages whose home differs from the die of 15 R339 -/
  homes : List Nat
  rw : List RwCounter
  /-- pages of remote writes not yet counted (10 R226) -/
  rwPend : List Nat
  cbrot : Nat
  /-- sidebands held -/
  sidebands : Nat
  /-- save pool images in use, address and size, and table pages taken -/
  pool : List (Nat × Nat)
  tablePages : Nat
  /-- cores excluded from a node's placement by VACATE_CORES: node and core -/
  excluded : List (Nat × Nat)
  /-- pages migrating away -/
  migrating : List Nat
  /-- traversals that wait for a page, one for each ray node at most (15 R364) -/
  rayWait : List RayWait
deriving DecidableEq, Repr

/-- Where LOAD_GRAPH places a graph's items in the working area of a die (15 R341). -/
structure Layout where
  base : Nat
  size : Nat
  win : Nat
  spill : Nat
  spillStep : Nat
  pool : Nat
  poolSize : Nat
  status : Nat
  tables : Nat
  need : Nat
deriving DecidableEq, Repr

/-- A deadline reservation: a node's slots on a core (02 R52). -/
structure Resv where
  node : Nat
  core : Nat
  slots : List Nat
deriving DecidableEq, Repr

/-- A loaded graph (15 R348 to R353; 20 R433). -/
structure Graph where
  id : Nat
  nodes : List Node
  ptroot : Nat
  running : Bool
  started : Bool
  status : List NodeStatus
  nextBlk : List Nat
  layouts : List Layout
  qshare : Nat
  /-- deadline reservations (02 R52) -/
  resv : List Resv
deriving DecidableEq, Repr

/-- A loaded graph that is not the current context (17 R397): its tables and blocks, and the range descriptors of each
cluster with their abort lines. -/
structure Context where
  graph : Graph
  dies : List Die
  blocks : List Block
  clusters : List (List RDesc × List Nat)
deriving DecidableEq, Repr

/-- A command whose effect still goes on (20 R431): the cores that VACATE_CORES excludes; SWITCH_CONTEXT with the admission of
its outgoing graph as it was, and the pages that its save takes; a response (STATUS, REASON, DATA) whose release waits for
the command's writes. -/
inductive Busy where
  | vacate
  | switch (running : Bool) (used : Nat)
  | respond (status reason data : Nat)
deriving DecidableEq, Repr

/-- A sensor stream block (20 R438); `pending` holds for each window its last record while no CONSUME has taken it, `writes`
counts writes not yet performed. -/
structure Sensor where
  waddr0 : Nat
  waddr1 : Nat
  wbytes : Nat
  seq : Nat
  drop : Nat
  barh : Nat
  herr : Nat
  pending : List (Nat × Nat)
  writes : Nat
  /-- barrier arrivals due once a record is in its queue: the number of its message, and the handle checked at completion -/
  due : List (Nat × Nat)
deriving DecidableEq, Repr

/-- A display head (20 R434, R440; 13 R316). -/
structure Head where
  on : Bool
  mode : List Nat
  fb : Nat
  pitch : Nat
  fmt : Nat
  width : Nat
  height : Nat
  frame : Nat
deriving DecidableEq, Repr

/-- An entry of an error log (20 R445): the two 64-bit halves. -/
structure LogEntry where
  lo : Nat
  time : Nat
deriving DecidableEq, Repr

end Sys2Proof.Machine
end

