-- ==== Sys2Proof/Machine/State.lean ====
section
/-! DEFINITION. State: everything the spec gives the machine, as plain data, and State.reset. A table that is sparse
lists no default value (Machine/Bits.lean). -/
namespace Sys2Proof.Machine

/-- Why the machine stops without a next state. -/
inductive Fault where
  /-- Raised by no meaning: the manual gives every fault of this device a course (17 R383 to R392), which is a next state.
  Safe. -/
  | none
deriving DecidableEq, Repr

/-- Why an instruction has no meaning here. -/
inductive Refusal where
  /-- Raised by an arm of Machine/Dispatch.lean whose meaning is not written. Safe: the machine stops. -/
  | notModelled (mnemonic : String)
deriving DecidableEq, Repr

/-- The steps that the device's own agents take by themselves, by the name of the event step each is (entry 1); the last four
have no event step. -/
inductive AgentStep where
  | migrationForward | homeLoad | homeStore | homeAtom | fillReceive | updateReceive | pushReceive | rangeOpenNotice
  | foldProbe | loadReturn | pushReply | deregistration | rangeNoticeReply | holderRegister | evictedPartial | storeAck
  | signalApply | joinRecordArrival | recordEnqueue | migrationInstall | stealArrival | lqFill | trapEntry
  | faultWithoutHandler | waveRetire | consumeRetry | couplingDeadlock | waitLimit | sleepExpiryLead | sleepExpiryLane
  | yieldExpiryLead | yieldExpiryLane | starvationPromoteC | starvationPromoteP | matrixEntryTake | matrixEntryCommit
  | msigArrival | workRequest | deadAgentTimeout | blockStart | blockSave | blockRestore | barrierCompletesAgain
  | queueSpillReturn | batchClose | batchMaxwaitExpiry | rangeRecordBind | stealCheck | rasteriseTriangle | rayTraverse
  | matrixJobRun | copyJobRun | jobStart | jobComplete | remoteWriteCount | migrationPointerRetire | batchAdmit
  | blockReserve | reservationWaitExpiry | jobPageTimeout | foldComplete | bootstageAdvance | codePageCheck
  | scanoutVblank | sensorBarrierArrival | biasSettle | cbStepUpdate | chargeBucketRefill | commandTake | thermalHandler
  | endBarriers | serveClaims
deriving DecidableEq, Repr

/-- One turn of the device (entry 1): which agent acts next is plain data. -/
inductive Turn where
  /-- a stream of a wave issues its next instruction, out of the order of R23 -/
  | issue (core slot : Nat) (st : Stream)
  /-- the streams of a core are judged ready or not (02 R22) -/
  | ready (core : Nat)
  /-- an issue slot of a core takes the first ready stream of its kind (02 R21, R23) -/
  | slot (core : Nat) (st : Stream)
  /-- the form that holds the lead stream of a wave acts if it can (11 R253, R254) -/
  | hold (core slot : Nat)
  /-- the message of this number is taken by the step of its kind -/
  | msg (id : Nat)
  /-- a step of another agent -/
  | event (i : Instr)
  /-- a step that an agent takes by itself, with its operands -/
  | agent (x : AgentStep) (a b c : Nat)
  /-- nanoseconds of TIMEN pass -/
  | time (ns : Nat)
deriving DecidableEq, Repr

/-- The machine. -/
structure State where
  /-- the wave whose instruction issues now, and its stream -/
  w : Wave
  st : Stream
  /-- every other resident wave, ascending core, then slot; the management core is core 192 -/
  waves : List Wave
  agenda : List Turn
  /-- the last issue attempt found its stream not ready (02 R22) -/
  stalled : Bool
  /-- number of the next operation, message, entry or job -/
  nextId : Nat
  /-- counter for free values (entry 8) -/
  fresh : Nat
  /-- cycles of the device, counted by CHARGE_BUCKET_REFILL of cluster 0 -/
  cycle : Nat
  mem : List Host.Cell
  dir : List (Nat × DirEntry)
  net : List NetMsg
  acks : List Ack
  handoffs : List Handoff
  cores : List Core
  clusters : List Cluster
  dies : List Die
  blocks : List Block
  graph : Option Graph
  contexts : List Context
  codes : List CodeObj
  mass : List MassRelease
  -- device-wide special registers (04 R99, 18 R408)
  timen : Nat
  retcnt : List Nat
  bootstage : Nat
  talert : Nat
  tlimit : Nat
  csel : Nat
  cbmax : Nat
  droopcnt : Nat
  -- management core (20 R439)
  mgmtIe : Bool
  mgmtPending : List Nat
  mgmtHalted : Bool
  mgmtMem : List Host.Cell
  -- host link (20 R430 to R437)
  devstat : Nat
  bar2base : Nat
  cmdtail : Nat
  cmdhead : Nat
  rsptail : Nat
  flttail : Nat
  flthead : Nat
  /-- command and response rings: byte offset within BAR0 to byte -/
  bar0 : List Host.Cell
  msix : List Nat
  fseq : Nat
  /-- fault records outstanding, and those waiting for room -/
  faults : List FaultRec
  faultsWaiting : List FaultRec
  /-- command begun whose effect still goes on -/
  busy : Option Busy
  /-- the record that the command node of a graph has taken from its queue: graph, node and record (13 R317) -/
  queueCmd : Option (Nat × Nat × Nat)
  /-- code objects whose revocation has been reported to the host (17 R392) -/
  reports : List Nat
  sensors : List Sensor
  heads : List Head
  scanFb : Nat
  scanPitch : Nat
  arrayLog : List LogEntry
  arrayCount : Nat
  xferLog : List LogEntry
  xferCount : Nat
  saddleHalf : Bool
  /-- spare lanes used on the vertical bus of a layer of a die: 8 × die + layer (20 R444) -/
  spares : List (Nat × Nat)
  /-- the data of the host's last BAR2 read (20 R430) -/
  bar2Data : List Byte
  hostDead : Bool
  mr : List Nat
  flash : List Byte
  keys : List Nat
  nextObj : Nat
  nextGraph : Nat
  powered : Bool
  stage0Head : Bool
deriving DecidableEq, Repr

/-- A core at device reset (10 R216, 12 R256). -/
def Core.reset : Core :=
  { l1 := [], pend := [], injcnt := 0, refcnt := 0, tlb := [], mxnan := 0, mxovf := 0, nanNow := 0, ovfNow := 0, fifo := [], pair := none,
    dead := false }

/-- A range descriptor not in use (02 R38). -/
def RDesc.empty : RDesc :=
  { next := 0, hi := 0, grain := 0, family := 0, cluster := 0, abt := false, valid := false, node := 0, depth := 0 }

/-- A cluster at device reset (18 R408). -/
def Cluster.reset : Cluster :=
  { descs := List.replicate 64 RDesc.empty, abortLines := [], bucket := 1048576, step := 1, full := true, throttle := 0,
    cbias := 3, settling := false, idle := false, temp := 0, cycle := 0, stepAt := 0, sampleAt := 0, tripped := false, alerted := false, throttleAt := 0 }

/-- A commutative-range entry not in use (15 R359). -/
def CRange.empty : CRange := { valid := false, fmt := 0, op := 0, closing := false, len := 0, base := 0, active := false, pages := [] }

/-- A die at device reset; `rot` is its CBROT (18 R408). -/
def Die.reset (rot : Nat) : Die :=
  { queues := [], seq := 0, batches := [], grids := [], launches := [], joins := [], jobs := [],
    ranges := List.replicate 64 CRange.empty, ptroot := 0, homes := [], rw := [], rwPend := [], cbrot := rot, sidebands := 0,
    pool := [], tablePages := 0, excluded := [], migrating := [], rayWait := [] }

/-- No kernel header in force. -/
def KInfo.none : KInfo :=
  { leadBase := 0, leadSize := 0, laneBase := 0, laneSize := 0, abortPc := 0, regs := 0, sregs := 64, tiles := 0,
    barriers := 0, spanb := 0, sems := 0, scratch := 0, divspill := 0, record := 0, consts := 0 }

/-- An open batch with no entries. -/
def MBatch.open0 : MBatch := { num := 0, pending := 0, nan := 0, ovf := 0 }

/-- A wave slot with every register at its reset value (04 R95, R99). -/
def Wave.blank (core slot : Nat) : Wave :=
  { core := core, slot := slot, mgmt := false, status := .reserved, key := { node := 0, blk := 0, grid := 0 }, waveid := 0,
    role := 0, pcls := 0, width := 32, poolpart := 0, j := 0, k := KInfo.none, prio := 0, leadPc := 0, lanePc := 0,
    leadDone := false, laneDone := false, inTrap := false, aborted := false, exec := 0, helper := 0, kreg := [],
    v := [], sect := [], s := [], c := [], g := 0, rnd := 0, tcause := 0, tpclead := 0, tpclane := 0, flanes := 0, taddr := 0,
    tinfo := 0, cyc := 0, lq := [], dq := [], rq := [], stack := [], spill := 0, spillBase := 0, ops := [],
    deferred := none, starve := 0, deadlock := 0, parkCount := 0, ageLead := 0, ageLane := 0, yieldLead := 0,
    yieldLane := 0, sleepLead := none, sleepLane := none, tryLead := .none, tryLane := .none, promoted := false, dirty := [], winBase := 0, winNext := 0, winFirst := false,
    winRecs0 := 0, winRecs1 := 0, bseq := 0, batches := [], open_ := MBatch.open0, pendTrap := none, trapOp := 0, trapLane := 0, stopped := false,
    refused := none, nrec := 0, holding := none }

/-- The management core at device reset: its lead-style registers 0 and its PC at the reset jump address (entry 3). -/
def Wave.mgmtReset : Wave :=
  { Wave.blank 192 0 with mgmt := true, status := .running, laneDone := true, g := 0 }

/-- A display head: only head 2 scans at stage 0 (20 R440). -/
def Head.reset (on : Bool) : Head :=
  { on := on, mode := if on then [1920, 1080] else [], fb := 0, pitch := 0, fmt := 0, width := 0, height := 0, frame := 0 }

/-- A sensor stream, off (20 R438). -/
def Sensor.reset : Sensor :=
  { waddr0 := 0, waddr1 := 0, wbytes := 0, seq := 0, drop := 0, barh := 0, herr := 0, pending := [], writes := 0, due := [] }

/-- The machine right after reset. -/
def State.reset : State :=
  { w := Wave.mgmtReset, st := .lead, waves := [], agenda := [], stalled := false, nextId := 1, fresh := 0, cycle := 0,
    mem := [], dir := [], net := [], acks := [], handoffs := [], cores := List.replicate 192 Core.reset,
    clusters := List.replicate 24 Cluster.reset, dies := [Die.reset 0, Die.reset 12], blocks := [], graph := none,
    contexts := [], codes := [], mass := [],
    timen := 0, retcnt := List.replicate 8 0, bootstage := 0, talert := 0, tlimit := 0x2F8, csel := 0, cbmax := 12,
    droopcnt := 0, mgmtIe := false, mgmtPending := [], mgmtHalted := false, mgmtMem := [], devstat := 0, bar2base := 0,
    cmdtail := 0, cmdhead := 0, rsptail := 0, flttail := 0, flthead := 0, bar0 := [], msix := List.replicate 8 0,
    fseq := 0, faults := [], faultsWaiting := [], busy := none, queueCmd := none, reports := [], sensors := List.replicate 16 Sensor.reset,
    heads := [Head.reset false, Head.reset false, Head.reset true, Head.reset false], scanFb := 0, scanPitch := 0,
    arrayLog := [], arrayCount := 0, xferLog := [], xferCount := 0, saddleHalf := false, spares := [], bar2Data := [], hostDead := false,
    mr := List.replicate 8 0, flash := [], keys := [], nextObj := 1, nextGraph := 1, powered := false,
    stage0Head := true }

end Sys2Proof.Machine
end

