-- ==== Sys2Proof/Machine/Ops.lean ====
section
/-! DEFINITION. The named operations over waves, registers, queues and memory, taking a trap and returning from one, and
issuing an instruction: everything the meanings share. -/
namespace Sys2Proof.Machine

/-- The outcome of a meaning. -/
abbrev Out := Host.Outcome State Fault Refusal

/-- Why an instruction does not act: its stream is not ready, it faults (cause, FLANES, TADDR, DETAIL shifted to bit 11),
it misses a page, or it takes the pending deferred fault; `unpaid` says that only its charge holds it. -/
inductive Stop where
  | stall
  | unpaid
  | trap (cause flanes taddr detail : Nat)
  | miss (va kind flanes : Nat)
  | deferred
deriving DecidableEq, Repr

/-- A computation that an instruction may stop. -/
abbrev R (α : Type) := Except Stop α

-- Cause codes (17 R383)
/-- ILLEGAL_OPCODE -/
def causeOpcode : Nat := 0x01
/-- RETIRED_OP -/
def causeRetired : Nat := 0x02
/-- ILLEGAL_OPERAND -/
def causeOperand : Nat := 0x03
/-- REG_ALLOC -/
def causeReg : Nat := 0x04
/-- SCRATCH_BOUNDS -/
def causeScratch : Nat := 0x05
/-- BARRIER_ALLOC -/
def causeBarrier : Nat := 0x06
/-- TILE_ALLOC -/
def causeTile : Nat := 0x07
/-- MISALIGNED -/
def causeAlign : Nat := 0x08
/-- PAGE_PROT -/
def causeProt : Nat := 0x0A
/-- POISON -/
def causePoison : Nat := 0x0B
/-- CODE_INTEGRITY -/
def causeIntegrity : Nat := 0x0C
/-- ILLEGAL_WAIT -/
def causeWait : Nat := 0x0D
/-- COUPLING_DEADLOCK -/
def causeDeadlock : Nat := 0x0E
/-- DIVERGE_OVERFLOW -/
def causeDiverge : Nat := 0x0F
/-- PARTIAL_OCTET -/
def causeOctet : Nat := 0x10
/-- JOIN_UNDERFLOW -/
def causeJoin : Nat := 0x11
/-- QUEUE_OVERRUN -/
def causeOverrun : Nat := 0x12
/-- PUSH_TARGET -/
def causePush : Nat := 0x13
/-- COMMUTATIVE_MISUSE -/
def causeCommut : Nat := 0x14
/-- LAUNCH_INVALID -/
def causeLaunch : Nat := 0x15
/-- WAIT_LIMIT -/
def causeLimit : Nat := 0x16
/-- TRAP_INSTR -/
def causeTrap : Nat := 0x17

/-- The lane PC that stands for a held lane stream (07 R173). -/
def heldPc : Nat := 0xFFFFFFFFFFFFFFFC
/-- TPCLANE of a lane stream that had finished (17 R385). -/
def donePc : Nat := 0xFFFFFFFFFFFFFFF8

/-! ## Waves -/

/-- Lanes of a wave: 64 at width 64, else 32 (02 R31). -/
def Wave.lanes (w : Wave) : Nat := if w.width = 64 then 64 else 32
/-- All lanes of a wave. -/
def Wave.allLanes (w : Wave) : Nat := 2 ^ w.lanes - 1
/-- The die of a core number. -/
def dieOf (core : Nat) : Nat := if core < 96 then 0 else 1
/-- The cluster of a core number. -/
def clusterOf (core : Nat) : Nat := core / 8
/-- The lane stream is held (07 R173). -/
def Wave.laneHeld (w : Wave) : Bool := w.lanePc == heldPc
/-- A wave of a deadline-class node (04 R99). -/
def Wave.deadline (w : Wave) : Bool := bit w.pcls 2
/-- The PC of a stream. -/
def Wave.pcOf (w : Wave) (st : Stream) : Nat := match st with | .lead => w.leadPc | .lane => w.lanePc
/-- A PC rewritten. -/
def Wave.setPc (w : Wave) (st : Stream) (pc : Nat) : Wave :=
  match st with
  | .lead => { w with leadPc := pc }
  | .lane => { w with lanePc := pc }

/-- The issuing wave changed. -/
def State.modW (s : State) (f : Wave → Wave) : State := { s with w := f s.w }

/-- The wave in a slot of a core, if one is resident there. -/
def State.wave? (s : State) (core slot : Nat) : Option Wave :=
  if s.w.core = core ∧ s.w.slot = slot then some s.w
  else s.waves.find? (fun w => w.core == core && w.slot == slot)

/-- The wave in a slot of a core changed, where one is resident. -/
def State.modWave (s : State) (core slot : Nat) (f : Wave → Wave) : State :=
  if s.w.core = core ∧ s.w.slot = slot then { s with w := f s.w }
  else { s with waves := s.waves.map (fun w => if w.core = core ∧ w.slot = slot then f w else w) }

/-- Every resident wave. -/
def State.allWaves (s : State) : List Wave := s.w :: s.waves

/-- The block of a key. -/
def State.block? (s : State) (k : BKey) : Option Block := s.blocks.find? (fun b => b.key == k)
/-- The block of a key changed. -/
def State.modBlock (s : State) (k : BKey) (f : Block → Block) : State :=
  { s with blocks := s.blocks.map (fun b => if b.key = k then f b else b) }
/-- A core changed. -/
def State.modCore (s : State) (c : Nat) (f : Core → Core) : State := { s with cores := modAt s.cores c f }
/-- A cluster changed. -/
def State.modCluster (s : State) (g : Nat) (f : Cluster → Cluster) : State :=
  { s with clusters := modAt s.clusters g f }
/-- A die changed. -/
def State.modDie (s : State) (d : Nat) (f : Die → Die) : State := { s with dies := modAt s.dies d f }
/-- A core's state. -/
def State.core (s : State) (c : Nat) : Core := s.cores.getD c Core.reset
/-- A cluster's state. -/
def State.cluster (s : State) (g : Nat) : Cluster := s.clusters.getD g Cluster.reset
/-- The cycle that runs on a core: a cycle is one of the local cluster's clock (00 R2). The management core goes with
cluster 0. -/
def State.cycleOf (s : State) (core : Nat) : Nat := (s.cluster (if core < 192 then clusterOf core else 0)).cycle
/-- A die's state. -/
def State.die (s : State) (d : Nat) : Die := s.dies.getD d (Die.reset 0)
/-- A node of the current graph. -/
def State.node? (s : State) (n : Nat) : Option Node :=
  match s.graph with
  | none => none
  | some g => g.nodes[n]?

/-! ## Registers -/

/-- A lane register's word (04 R95; an unwritten word reads 0, 08 R190). -/
def Wave.getV (w : Wave) (r l : Nat) : Nat := (mapGet 0#32 w.v (64 * r + l)).toNat
/-- The sector of a lane register's word: two registers of a hardware slot (08 R190, R194). -/
def regSector (r l : Nat) : Nat := 2 * (r / 2) + l / 32
/-- A lane register's word written, which makes its sector valid (08 R190). -/
def Wave.setV (w : Wave) (r l x : Nat) : Wave :=
  { w with v := mapSet 0#32 w.v (64 * r + l) (BitVec.ofNat 32 x), sect := insertAsc (regSector r l) w.sect }
/-- A lead register. -/
def Wave.getS (w : Wave) (i : Nat) : Nat := (mapGet 0#64 w.s i).toNat
/-- A lead register written. -/
def Wave.setS (w : Wave) (i x : Nat) : Wave := { w with s := mapSet 0#64 w.s i (BitVec.ofNat 64 x) }
/-- A mask register. -/
def Wave.getK (w : Wave) (i : Nat) : Nat := mapGet 0 w.kreg i
/-- A mask register written, in the lanes of the wave. -/
def Wave.setK (w : Wave) (i x : Nat) : Wave := { w with kreg := mapSet 0 w.kreg i (x % 2 ^ w.lanes) }
/-- A word of the constant bank. -/
def Wave.getC (w : Wave) (i : Nat) : Nat := (mapGet 0#32 w.c i).toNat

/-- Active lanes under a mask field (03 R64). -/
def Wave.active (w : Wave) (kmask : Nat) : Nat :=
  if kmask = 0 then w.exec else w.exec &&& w.getK kmask

/-! ## Memory as bytes at physical addresses (15 R339; entry 2: an unlisted byte reads 0) -/

/-- What an unlisted byte reads as. -/
def memDefault : Byte := 0#8

/-- The canonical form of a memory: strictly rising addresses, no default byte listed. -/
def Memory.wf (m : List Host.Cell) : Bool := mapWf memDefault m

/-- A byte. -/
def memByte (m : List Host.Cell) (a : Nat) : Byte := mapGet memDefault m a

/-- n bytes from an address. -/
def memBytes (m : List Host.Cell) (a n : Nat) : List Byte := (List.range n).map (fun i => memByte m (a + i))

/-- Bytes written from an address. -/
def memWrite (m : List Host.Cell) (a : Nat) (bs : List Byte) : List Host.Cell :=
  match bs with
  | [] => m
  | b :: rest => memWrite (mapSet memDefault m a b) (a + 1) rest

/-- A little-endian value of n bytes. -/
def memVal (m : List Host.Cell) (a n : Nat) : Nat := leValue (memBytes m a n)

/-- A little-endian value of n bytes written. -/
def State.poke (s : State) (a n v : Nat) : State := { s with mem := memWrite s.mem a (leBytes v n) }

/-! ## Class counters (16 R365, R366) -/

/-- Operations of a class, oldest first, from the first that has not finished. -/
def Wave.opsOf (w : Wave) (c : OpCls) : List Op :=
  (w.ops.filter (fun o => decide (o.cls = c))).dropWhile (fun o => o.done)

/-- A class counter: operations out in issue order, so one that finishes early still counts until all before it have. -/
def Wave.counter (w : Wave) (c : OpCls) : Nat := (w.opsOf c).length

/-- The largest value of a counter (16 R365). -/
def OpCls.max (c : OpCls) : Nat :=
  match c with
  | .laneLd | .laneSt | .laneMx | .leadLd | .leadSt => 63
  | .laneQo | .leadQo => 31
  | .leadCp => 15

/-- Finished operations at the head of their class leave the list, once their writes are acknowledged. -/
def Wave.prune (w : Wave) : Wave :=
  let keep (c : OpCls) : List Nat := (w.opsOf c).map (fun o => o.id)
  let ids := [OpCls.laneLd, .laneSt, .laneMx, .laneQo, .leadLd, .leadSt, .leadCp, .leadQo].flatMap keep
  { w with ops := w.ops.filter (fun o => ids.contains o.id || decide (o.leftAll ≠ 0)) }

/-- All eight counters are zero and every write is acknowledged. -/
def Wave.drained (w : Wave) : Bool := w.ops.all (fun o => o.done && decide (o.leftAll = 0))

/-- A deferred fault that the wave may take: while INTRAP is 1, only one of the handler's operations (17 R388). -/
def Wave.takable (w : Wave) : Option Deferred :=
  match w.deferred with
  | some d => if w.inTrap && !d.handler then none else some d
  | none => none

/-- A new outstanding operation of the issuing wave. -/
def State.addOp (s : State) (o : Op) : State :=
  let bump (d : Deferred) : Deferred := if d.cls = o.cls then { d with later := d.later + 1 } else d
  { s with nextId := s.nextId + 1, w := { s.w with ops := s.w.ops ++ [o], deferred := s.w.deferred.map bump } }

/-- An operation of a wave changed. -/
def State.modOp (s : State) (core slot id : Nat) (f : Op → Op) : State :=
  s.modWave core slot (fun w => Wave.prune { w with ops := w.ops.map (fun (o : Op) => if o.id = id then f o else o) })

/-! ## The reconvergence stack (07 R177, R183) -/

/-- Kinds of an entry. -/
def kindPending : Nat := 0
/-- A call entry. -/
def kindCall : Nat := 1
/-- A join entry. -/
def kindJoin : Nat := 2
/-- The kind of an entry. -/
def SEntry.kind (e : SEntry) : Nat := e.rpc % 4

/-- The physical address of spilled entry j of a wave. -/
def Wave.spillAt (w : Wave) (j : Nat) : Nat := w.spillBase + 24 * j

/-- Whether a push would raise DIVERGE_OVERFLOW (R183). -/
def Wave.pushFull (w : Wave) : Bool := decide (w.stack.length ≥ 24 ∧ 24 * (w.spill + 1) > w.k.divspill)

/-- A push that has room: with 24 entries on chip the bottom one is spilled first (R183). -/
def State.pushEntry (s : State) (e : SEntry) : State :=
  if s.w.stack.length < 24 then s.modW (fun w => { w with stack := e :: w.stack })
  else
    let b := (s.w.stack.getLast?).getD { pc := 0, rpc := 0, mask := 0 }
    let a := s.w.spillAt s.w.spill
    let s := ((s.poke a 8 b.pc).poke (a + 8) 8 b.rpc).poke (a + 16) 8 b.mask
    s.modW (fun w => { w with stack := e :: w.stack.dropLast, spill := w.spill + 1 })

/-- The directory entry of a line (10 R217). -/
def State.dirOf (s : State) (line : Nat) : DirEntry := mapGet DirEntry.empty s.dir line
/-- A directory entry changed. -/
def State.modDir (s : State) (line : Nat) (f : DirEntry → DirEntry) : State :=
  { s with dir := mapSet DirEntry.empty s.dir line (f (s.dirOf line)) }
/-- Whether a line is poisoned (10 R229). -/
def State.poisoned (s : State) (line : Nat) : Bool := (s.dirOf line).poison

/-- The line of an address. -/
def lineOf (pa : Nat) : Nat := pa / 128 * 128

/-- The refill of R183: when no entry is on chip and some are spilled, the last spilled one comes back. -/
def State.refill (s : State) (flanes : Nat) : R State :=
  if s.w.stack = [] ∧ s.w.spill > 0 then
    let a := s.w.spillAt (s.w.spill - 1)
    if s.poisoned (lineOf a) ∨ s.poisoned (lineOf (a + 23)) then .error (.trap causePoison flanes 0 (1 <<< 12))
    else
      let e : SEntry := { pc := memVal s.mem a 8, rpc := memVal s.mem (a + 8) 8, mask := memVal s.mem (a + 16) 8 }
      .ok (s.modW (fun w => { w with stack := [e], spill := w.spill - 1 }))
  else .ok s

/-! ## Stopping and taking a trap (17 R383 to R391) -/

/-- TPCLANE at a stop (17 R385): the done mark when LANEDONE was set; a held lane stream keeps its PC. -/
def Wave.stopLane (w : Wave) : Nat := if w.laneDone then donePc else w.lanePc

/-- The vector entry of a cause in a wave's node (15 R353). -/
def State.vector (s : State) (w : Wave) (cause : Nat) : Nat :=
  match s.node? w.key.node with
  | some n => n.tv.getD cause 0
  | none => 0

/-- Whether a trap of a wave enters a handler: its vector entry is VALID, INTRAP is 0 and the push has room (17 R387,
R391). -/
def State.hasHandler (s : State) (w : Wave) (cause : Nat) : Bool :=
  bit (s.vector w cause) 0 && !w.inTrap && !w.pushFull

/-- The trap registers written (17 R387 step 1). -/
def Wave.setTrapRegs (w : Wave) (t : Trap) : Wave :=
  { w with
    tcause := t.cause % 256 + (if t.st = .lead then 256 else 0) + (if t.deferred then 512 else 0)
    tpclead := w.leadPc
    tpclane := w.stopLane
    flanes := t.flanes
    taddr := t.taddr
    tinfo := t.tinfo }

/-- A deferred fault that has been taken is no longer pending (16 R367). -/
def Wave.takeDeferred (w : Wave) (d : Bool) : Wave := if d then { w with deferred := none } else w

/-- TAKING A TRAP WITH A HANDLER, of the issuing wave, as one step (17 R387): trap registers, elected lane, call entry
pushed, `exec`, LANEDONE, INTRAP and the lane PC. The lead stream stays stopped while INTRAP is 1 (R388). -/
def State.enterHandler (s : State) (t : Trap) : State :=
  let pc := bits (s.vector s.w t.cause) 2 45 * 4
  let w0 := s.w
  let s := s.modW (fun w => (w.setTrapRegs t).takeDeferred t.deferred)
  let s := s.pushEntry { pc := w0.stopLane, rpc := kindCall, mask := w0.exec }
  let e := (lowestLane t.flanes w0.lanes).getD 0
  let n := s.nextId
  s.modW (fun w => { w with exec := 2 ^ e, laneDone := false, inTrap := true, lanePc := pc, pendTrap := none, trapOp := n, trapLane := e })

/-- The number of the current graph, 0 for none. -/
def State.graphId (s : State) : Nat := match s.graph with | some g => g.id | none => 0
/-- A FAULT WITHOUT A HANDLER, of the issuing wave (17 R391): every wave of its block stops and the block is to be saved
with FAULTED set; when INTRAP was 1 the first trap's registers are kept. A fault record goes to the host, with the cause
(R398; entry 41). -/
def State.faultBlock (s : State) (t : Trap) : State :=
  let k := s.w.key
  let s := s.modW (fun w =>
    { (if w.inTrap then w else w.setTrapRegs t).takeDeferred t.deferred with pendTrap := none, stopped := true })
  let s := { s with waves := s.waves.map (fun (w : Wave) => if w.key = k ∧ w.mgmt = false then { w with stopped := true } else w) }
  let rec_ : FaultRec :=
    { va := t.taddr, kind := t.cause, node := k.node, core := s.w.core, fseq := 0, cause := some t.cause, graph := s.graphId }
  ({ s with faultsWaiting := s.faultsWaiting ++ [rec_] } : State).modBlock k (fun b => { b with status := .saving true none, cause := t.cause })

/-- A fault of the management core (20 R439): with interrupts enabled TCAUSE, TADDR and TINFO are written and it jumps to
address 0; with interrupts disabled it halts and DEVSTAT[1] is set. The PC at the fault goes to TPCLEAD (04 R102); the
interrupt enable stays as it is (entry 14). -/
def State.mgmtFault (s : State) (t : Trap) : State :=
  if s.mgmtIe then
    s.modW (fun w =>
        { w with
          tcause := t.cause % 256 + 256 + (if t.deferred then 512 else 0), taddr := t.taddr, tinfo := t.tinfo,
          tpclead := w.leadPc, leadPc := 0, deferred := if t.deferred then none else w.deferred })
  else { s with mgmtHalted := true, devstat := putBit s.devstat 1 true }

/-- A posted trap of the issuing wave is taken: with its handler, without one, or by the management core. -/
def State.takeTrap (s : State) (t : Trap) : State :=
  if s.w.mgmt then s.mgmtFault t
  else if s.hasHandler s.w t.cause then s.enterHandler t
  else s.faultBlock t

/-- WORDS, MAJ and MIN of an instruction word (17 R384). -/
def tinfoHead (w0 : Word) : Nat := w0.toNat % 2048

/-- A record of a miss to the page of an address is outstanding (20 R437). -/
def State.missKnown (s : State) (va : Nat) : Bool :=
  (s.faults ++ s.faultsWaiting).any (fun f =>
    f.cause.isNone && !f.ended && f.va / 16384 == va / 16384 && f.graph == s.graphId)

/-- A page miss of the issuing wave (17 R389): it parks, its registers unchanged, and one fault record goes to the host
unless its page already has one outstanding (20 R437). -/
def State.pageMiss (s : State) (va kind : Nat) : State :=
  let known := s.missKnown va
  let rec_ : FaultRec := { va := va, kind := kind, node := s.w.key.node, core := s.w.core, fseq := 0, cause := none, graph := s.graphId }
  { s.modW (fun w => { w with status := .parked (.page s.st va) }) with
    faultsWaiting := if known then s.faultsWaiting else s.faultsWaiting ++ [rec_] }

/-- A use counter counted (03 R82). -/
def State.countRet (s : State) (n : Nat) : State := { s with retcnt := modAt s.retcnt n (fun x => (x + 1) % 2 ^ 32) }

/-- How a stream stands in the cycle that runs, written. -/
def Wave.attempt (w : Wave) (st : Stream) (x : Attempt) : Wave :=
  match st with
  | .lead => { w with tryLead := x }
  | .lane => { w with tryLane := x }

/-- How a stream stands in the cycle that runs. -/
def Wave.stands (w : Wave) (st : Stream) : Attempt := match st with | .lead => w.tryLead | .lane => w.tryLane

/-- The issuing stream was found not ready. -/
def State.stall (s : State) (x : Attempt) : State := { s.modW (fun w => w.attempt s.st x) with stalled := true }

/-- What a stopped instruction does to the machine: RETIRED_OP is counted in RETCNT1 each time it is raised (03 R82). -/
def State.stopWith (s : State) (w0 : Word) (x : Stop) : State :=
  match x with
  | .stall => s.stall .unready
  | .unpaid => s.stall .unpaid
  | .trap cause flanes taddr detail =>
    ((if cause = causeRetired then s.countRet 1 else s).modW (fun w => { w with refused := none })).takeTrap
      { cause := cause, st := s.st, deferred := false, flanes := flanes, taddr := taddr,
        tinfo := tinfoHead w0 + detail }
  | .miss va kind _ => s.pageMiss va kind
  | .deferred =>
    match s.w.takable with
    | none => s.stall .unready
    | some d =>
      s.takeTrap
        { cause := d.cause, st := s.st, deferred := true, flanes := d.flanes, taddr := d.taddr, tinfo := d.tinfo }

/-! ## Readiness and issue (02 R22, R54; 17 R388, R404; 18 R407, R411, R415) -/

/-- A deadline block stands Reserved, Running or not yet parked on a core: no other wave issues there (02 R54). -/
def State.deadlineHolds (s : State) (core : Nat) : Bool :=
  s.allWaves.any (fun w => w.core == core && w.deadline &&
    (match w.status with | .reserved => true | .running => true | _ => false))

/-- The cluster leaves the slots of its cycle `cycle` empty to every wave but deadline waves (18 R407, R415). -/
def Cluster.idles (c : Cluster) (cycle : Nat) : Bool :=
  let k := cycle % 8
  c.settling || decide (c.throttle ≠ 0 ∧ (k * c.throttle) % 8 < c.throttle)

/-- A stream of a wave may issue as far as the wave's own state says (02 R19, R22; 17 R388, R394, R404). -/
def Wave.streamOpen (w : Wave) (st : Stream) (timen : Nat) : Bool :=
  decide (w.status = .running) && !w.stopped && w.pendTrap.isNone &&
  (match st with
   | .lead => !w.leadDone && w.holding.isNone && !w.inTrap && w.yieldLead == 0 && (match w.sleepLead with | none => true | some t => decide (t ≤ timen))
   | .lane => !w.laneDone && !w.laneHeld && w.yieldLane == 0
       && (match w.sleepLane with | none => true | some t => decide (t ≤ timen)))

/-- The cycle is counted out for a wave: deadline waves hold its core, or its cluster's slots stay empty (02 R53, R54; 18
R407, R413, R415). -/
def State.countedOut (s : State) (w : Wave) : Bool :=
  !w.deadline && (s.deadlineHolds w.core || (s.cluster (clusterOf w.core)).idle)

/-- The stream that issues may do so: the wave's own state, the deadline rule and the throttle. -/
def State.mayIssue (s : State) : Bool :=
  s.w.streamOpen s.st s.timen
    && (if s.w.mgmt then !s.mgmtHalted else !s.countedOut s.w)

/-- An instruction of this weight is covered by the cluster's bucket (18 R411). -/
def State.covered (s : State) (weight : Nat) : Bool :=
  s.w.mgmt || s.w.deadline || decide ((weight : Int) ≤ (s.cluster (clusterOf s.w.core)).bucket)

/-- The charge of an issued instruction (18 R411). -/
def State.charge (s : State) (core weight : Nat) : State :=
  s.modCluster (clusterOf core) (fun c =>
    { c with bucket := max (-1048576) (c.bucket - weight), full := false })

/-- The charge of an instruction that has issued, on the cluster of its wave; the management core has no bucket (18 R410,
R411). -/
def State.billed (s : State) (weight : Nat) : State := if s.w.mgmt then s else s.charge s.w.core weight

/-- The charge of an issue that ends in its own fault or page miss, each time that it issues (18 R410, R411; 17 R389). What is
no legal instruction has no class, and one that is not ready, or at which an earlier operation's fault is taken, has not issued
(entry 35). -/
def State.stopCharge (s : State) (weight : Nat) (x : Stop) : State :=
  match x with
  | .miss _ _ _ => s.billed weight
  | .trap c _ _ _ => if c = causeOpcode then s else s.billed weight
  | .stall | .unpaid | .deferred => s

/-- What every issue that completes does beside the instruction's own effect: the charge, and the coupling-deadlock count put
back (07 R176). -/
def State.issued (s : State) (weight : Nat) : State :=
  (s.billed weight).modW
    (fun w => { w.attempt s.st .issued with deadlock := 0, refused := none })

/-- The stream's PC moved past the instruction (03 R57). -/
def State.advance (s : State) (words : Nat) : State :=
  s.modW (fun w => w.setPc s.st (w.pcOf s.st + 4 * words))

/-- The lanes that a fault decided from the encoding reports: the active lanes of a lane-stream form, none of a
lead-stream one (06 R136, 17 R405). Helper lanes are among them, as 03 R64 defines active lanes, also for VOTE, REDUCE, SCAN,
HIST and HMERGE, which 06 R133 has treat them as inactive: DESIGN CHOICE (entry 44). -/
def State.encLanes (s : State) (kmask : Nat) : Nat := if s.st = .lane then s.w.active kmask else 0

/-- The instructions of the management core (03 R80), by major and minor. -/
def mgmtAllowed (i : Instr) : Bool :=
  let m := i.major.toNat
  let n := i.minor.toNat
  m == 0x34 || m == 0x35 || (m == 0x36 && n != 4) || (m == 0x37 && decide (n ≤ 1)) || (m == 0x38 && decide (n ≤ 1))
  || (m == 0x3C && n == 0) || (m == 0x3E && [0, 1, 2, 3, 7].contains n)

/-- The fault of an encoding, which stands above whatever the instruction would do: a form of the other stream, or one that the
management core does not execute, and a page broken (03 R78 to R81). -/
def State.encStop (s : State) (i : Instr) (st : Option Stream) (kmask : Nat) (legal : Option EncFault) : Option Stop :=
  if decide (st.getD s.st ≠ s.st) || (s.w.mgmt && !mgmtAllowed i) then
    some (.trap causeOpcode (s.encLanes kmask) 0 (3 <<< 11))
  else legal.map (fun
    | .opcode n => .trap causeOpcode (s.encLanes kmask) 0 (n <<< 11)
    | .operand n => .trap causeOperand (s.encLanes kmask) 0 (n <<< 11))

/-- ISSUING AN INSTRUCTION: the stream must be ready; a form of the other stream, or one the management core does not
execute, and an encoding that breaks its page fault before any effect; the charge must be covered; then the body acts, or
stops the instruction without effect (03 R78 to R81; 17 R383; 18 R410, R411). An encoding that is no instruction has no class
and takes no charge (entry 35). A body that has taken its own trap (QUEUE_OVERRUN) says so in `stalled`. -/
def State.issue (s : State) (i : Instr) (st : Option Stream) (kmask weight : Nat) (legal : Option EncFault)
    (body : State → R State) : Out :=
  let s := { s with stalled := false }
  if !s.mayIssue then .next { s with stalled := true }
  else
    match s.encStop i st kmask legal with
    | some x => .next (s.stopWith i.word0 x)
    | none =>
      match body s with
      | .ok s' =>
        if s.covered weight then .next (if s'.stalled then { s'.billed weight with stalled := false } else s'.issued weight)
        else .next (s.stopWith i.word0 .unpaid)
      | .error x =>
        if s.covered weight ∨ x = .stall then .next ((s.stopCharge weight x).stopWith i.word0 x)
        else .next (s.stopWith i.word0 .unpaid)

end Sys2Proof.Machine
end

