-- ==== Sys2Proof/Machine/Operands.lean ====
section
/-! DEFINITION. Operand forms: readiness, allocation checks, reading sources, popping queues and writing results of both
streams (02 R22, R26, R27; 03 R59 to R64, R87; 05 R116; 06 R131; 07 R165). -/
namespace Sys2Proof.Machine

/-! ## The lane stream -/

/-- An inline integer converted to a type, in every element of a packed one (03 R62). -/
def immBits (ty : Nat) (i : Int) : Nat :=
  match ty with
  | 0 => roundTo .f32 .rne false 0 (xOfInt i)
  | 1 => let x := roundTo .f16 .rne false 0 (xOfInt i); x + x * 2 ^ 16
  | 2 => let x := roundTo .bf16 .rne false 0 (xOfInt i); x + x * 2 ^ 16
  | 4 => let x := wrapN i 8; x * 0x01010101
  | _ => wrapN i 32

/-- The value of a source for a lane, read as a type (06 R131); ports read the head of their queue. -/
def Wave.srcT (w : Wave) (lit : Option Dword) (ty ix l : Nat) : Nat :=
  match laneIx ix with
  | .v n => w.getV n l
  | .lq => match w.lq with | e :: _ => (e.data.getD l 0#32).toNat | [] => 0
  | .dq => match w.dq with | x :: _ => x.toNat | [] => 0
  | .zero => 0
  | .laneid => l
  | .c n => w.getC n
  | .lit => (lit.getD 0#64).toNat % 2 ^ 32
  | .imm i => immBits ty i
  | _ => 0

/-- The value of a source read as a 32-bit pattern or integer. -/
def Wave.src (w : Wave) (lit : Option Dword) (ix l : Nat) : Nat := w.srcT lit 6 ix l

/-- A 64-bit value from a pair of lane or constant registers, the literal, `zero` or an inline integer sign-extended
(11 R235, R237; 16 R370; 17 R402). -/
def Wave.src64 (w : Wave) (lit : Option Dword) (ix l : Nat) : Nat :=
  match laneIx ix with
  | .v n => w.getV n l + w.getV (n + 1) l * 2 ^ 32
  | .c n => w.getC n + w.getC (n + 1) * 2 ^ 32
  | .lit => (lit.getD 0#64).toNat
  | .imm i => wrapN i 64
  | _ => 0

/-- The operation whose result a lane register still waits for, if any (02 R22). -/
def Wave.pendingV (w : Wave) (r : Nat) : Bool :=
  w.ops.any (fun o => !o.done && (match o.dst with
    | .lanes b n _ _ => decide (b ≤ r ∧ r < b + n)
    | _ => false))

/-- A lead register still waits for a result (02 R22). -/
def Wave.pendingS (w : Wave) (r : Nat) : Bool :=
  w.ops.any (fun o => !o.done && (match o.dst with
    | .lead i _ => decide (i = r)
    | .lead2 i => decide (i = r ∨ i + 1 = r)
    | _ => false))

/-- The deferred POISON of a load is taken by a reader of these lane registers (11 R250, 16 R367). -/
def Wave.poisonV (w : Wave) (rs : List Nat) : Bool :=
  match w.takable with
  | some d => decide (d.cause = causePoison) && (match d.dst with
      | .lanes b n _ _ => rs.any (fun r => decide (b ≤ r ∧ r < b + n))
      | _ => false)
  | none => false

/-- The same for a reader of lead registers. -/
def Wave.poisonS (w : Wave) (rs : List Nat) : Bool :=
  match w.takable with
  | some d => decide (d.cause = causePoison) && (match d.dst with
      | .lead i _ => rs.contains i
      | _ => false)
  | none => false

/-- A form of MMA and MPAIR that reads scales: d8, and i8 without `.int` (12 R266). -/
def xtScaled (f : XtF) : Bool := f.xop == 3#5 || f.xop == 4#5

/-- Lane registers that a posted matrix entry still has to read: no later instruction writes them (12 R259). The entry
names them in the fields of its instruction. -/
def MEntry.holdsV (e : MEntry) : List Nat :=
  if e.st = .reading then [] else
  let mma (f : XtF) : List Nat :=
    [f.a9.toNat, f.b9.toNat] ++
      (if xtScaled f then f.c9.toNat :: (if e.mode = 5 then [f.c9.toNat + 1] else []) else [])
  let move (f : XtF) : List Nat := if f.skew = 1#1 then [f.a9.toNat, f.b9.toNat] else [f.a9.toNat]
  let held :=
    match e.instr with
    | .mma f | .mpair f => mma f
    | .mwr f => (List.range 4).map (fun q => f.a9.toNat + q)
    | .mldt f | .mstore f => move f
    | .msig f => [f.a9.toNat, f.b9.toNat]
    | _ => []
  held.filter (fun x => decide (x < 320))

/-- Whether a lane register is held for a matrix entry of the issuing wave. -/
def State.matrixHolds (s : State) (r : Nat) : Bool :=
  (s.core s.w.core).fifo.any (fun e => e.slot == s.w.slot && e.core == s.w.core && e.holdsV.contains r)

/-- The lane registers among operand indices. -/
def vRegs (ixs : List Nat) : List Nat := ixs.filter (fun i => decide (i < 320))

/-- Readiness of a lane-stream form (02 R22, R27): the queues it pops hold filled entries, the queue it pushes has room,
no register it reads or writes waits for a result. `srcs` and `dsts` are operand indices and registers; a deferred POISON
of what it reads is taken here (11 R250), but REG_ALLOC, which stands above it (17 R383), is left to be raised. -/
def State.laneReady (s : State) (srcs dsts : List Nat) : R Unit :=
  let w := s.w
  let held := (vRegs srcs ++ vRegs dsts).all (fun r => decide (r < 8 * w.g))
  let lq := srcs.contains 320
  if lq && !(match w.lq with | e :: _ => e.filled | [] => false) then .error .stall
  else if srcs.contains 321 && w.dq.isEmpty then .error .stall
  else if dsts.contains 322 && decide (w.rq.length ≥ 8) then .error .stall
  else if w.poisonV (vRegs srcs) && held then .error .deferred
  else if (vRegs srcs ++ vRegs dsts).any w.pendingV then .error .stall
  else if (vRegs dsts).any s.matrixHolds then .error .stall
  else
    match (if lq then w.lq else []) with
    | e :: _ =>
      if e.poison ≠ 0 then
        match w.takable with
        | some d => if d.op = e.id ∧ held = true then .error .deferred else .ok ()
        | none => .ok ()
      else .ok ()
    | [] => .ok ()

/-- REG_ALLOC of the first lane register outside the allocation (03 R87). -/
def State.regCheck (s : State) (flanes : Nat) (rs : List Nat) : R Unit :=
  match rs.find? (fun r => decide (r ≥ 8 * s.w.g)) with
  | some r => .error (.trap causeReg flanes 0 (r <<< 11))
  | none => .ok ()

/-- The entries that a form's sources pop leave LQ and DQ: at most one from each (02 R26). -/
def Wave.popUsed (w : Wave) (srcs : List Nat) : Wave :=
  let w := if srcs.contains 320 then { w with lq := w.lq.tail } else w
  if srcs.contains 321 then { w with dq := w.dq.tail } else w

/-- A push of RQ (02 R25). -/
def Wave.pushRq (w : Wave) (x : Nat) : Wave := { w with rq := w.rq ++ [BitVec.ofNat 64 x] }

/-- Lanes of a lane register written. -/
def Wave.setLanes (w : Wave) (r : Nat) (ls : List Nat) (f : Nat → Nat) : Wave :=
  match ls with
  | [] => w
  | l :: rest => (w.setV r l (f l)).setLanes r rest f

/-- The value of the lowest lane of a mask, or 0 when it is empty. -/
def lowestVal (m n : Nat) (f : Nat → Nat) : Nat :=
  match lowestLane m n with
  | some l => f l % 2 ^ 32
  | none => 0

/-- The RQ entry of a per-lane result (02 R26): the value of the lowest active lane, or 0; at width 16 one half in each
32 bits (02 R31). -/
def Wave.rqEntry (w : Wave) (act : Nat) (f : Nat → Nat) : Nat :=
  if w.width = 16 then lowestVal (act &&& 0xFFFF) 32 f + lowestVal (act &&& 0xFFFF0000) 32 f * 2 ^ 32
  else lowestVal act w.lanes f

/-- A per-lane result written to its destination in the active lanes: a register, `zero` (discarded), or `rq` (02 R26). -/
def Wave.writeDst (w : Wave) (ix act : Nat) (f : Nat → Nat) : Wave :=
  match laneIx ix with
  | .v n => w.setLanes n (lanesOf act w.lanes) f
  | .rq => w.pushRq (w.rqEntry act f)
  | _ => w

/-- A one-bit result written to bit l of a mask register in the active lanes (06 R132). -/
def Wave.writeKBits (w : Wave) (k act : Nat) (p : Nat → Bool) : Wave :=
  let old := w.getK k
  w.setK k ((lanesOf act w.lanes).foldl (fun m l => putBit m l (p l)) old)

/-- The operand index of a source field, or `zero` (323) where the page does not use the field. -/
def usedIx (used : Bool) (i : BitVec 9) : List Nat := if used then [i.toNat] else []

/-- The rounding mode of a `rnd` field at issue (05 R114, 04 R101). -/
def Wave.modeOf (w : Wave) (rnd : BitVec 3) : RMode := if rnd = 7#3 then rmodeOf w.rnd else rmodeOf rnd.toNat

/-- The rounding code in force at issue. -/
def Wave.rndCode (w : Wave) (rnd : BitVec 3) : Nat := if rnd = 7#3 then w.rnd else rnd.toNat

/-- The source index that random bits are read from, when they are read at issue (05 R116). -/
def Wave.randSrc (w : Wave) (at_ : RandAt) (f : XaF) : List Nat :=
  match at_ with
  | .none => []
  | .c => if f.rnd = 5#3 ∨ f.rnd = 7#3 then [f.c9.toNat] else []
  | .cNext => if w.rndCode f.rnd = 5 then [f.c9.toNat + 1] else []

/-- The 32 random bits of a lane (05 R116). -/
def Wave.randBits (w : Wave) (at_ : RandAt) (f : XaF) (l : Nat) : Nat :=
  match at_ with
  | .none => 0
  | .c => if f.rnd = 5#3 ∨ f.rnd = 7#3 then w.src f.lit f.c9.toNat l else 0
  | .cNext => if w.rndCode f.rnd = 5 then w.getV (f.c9.toNat + 1) l else 0

/-- The sources a lane XA form reads, by its page. -/
def Wave.xaSrcs (w : Wave) (sp : XaSpec) (f : XaF) : List Nat :=
  let use (k : SK) (i : BitVec 9) : List Nat :=
    match k with
    | .none | .kreg => []
    | .vpair => [i.toNat, i.toNat + 1]
    | _ => [i.toNat]
  use sp.a f.a9 ++ use sp.b f.b9 ++ use sp.c f.c9 ++ w.randSrc sp.rand f

/-- The destination indices a lane XA form writes, by its page. -/
def xaDsts (sp : XaSpec) (f : XaF) : List Nat :=
  match sp.d with
  | .none | .kreg => []
  | .vpair => [f.d9.toNat, f.d9.toNat + 1]
  | _ => [f.d9.toNat]

/-- A random-bit register after `c9` exists only when `c9` names v0 to v318; under the dynamic mode this is judged with
RNDMODE (05 R116). -/
def Wave.dynRandFault (w : Wave) (sp : XaSpec) (f : XaF) : Bool :=
  decide (sp.rand = .cNext ∧ f.rnd = 7#3 ∧ w.rnd = 5 ∧ f.c9.toNat > 318)

/-- A LANE XA FORM: readiness, allocation, then its effect on the wave given the active lanes; queue entries its sources
name are popped with it (06 R131, R136). -/
def State.laneForm (s : State) (words : Nat) (sp : XaSpec) (f : XaF) (more : List Nat)
    (eff : Wave → Nat → Wave) : R State := do
  let act := s.w.active f.kmask.toNat
  let srcs := s.w.xaSrcs sp f ++ more
  let dsts := xaDsts sp f
  s.laneReady srcs dsts
  s.regCheck act (vRegs (dsts ++ srcs))
  .ok ((s.modW (fun w => (eff w act).popUsed srcs)).advance words)

/-- A lane XA form that writes one 32-bit result per active lane (06 R131). -/
def State.laneMap (s : State) (words : Nat) (sp : XaSpec) (f : XaF) (res : Wave → Nat → Nat) : R State :=
  s.laneForm words sp f [] (fun w act => w.writeDst f.d9.toNat act (res w))

/-- A lane XA form that writes a truth value: all ones or zero to a register, or a bit of a mask register (06 R139). -/
def State.lanePred (s : State) (words : Nat) (sp : XaSpec) (f : XaF) (p : Wave → Nat → Bool) : R State :=
  s.laneForm words sp f [] (fun w act =>
    if f.imm8.getLsbD 7 then w.writeKBits (f.d9.toNat % 8) act (p w)
    else w.writeDst f.d9.toNat act (fun l => if p w l then 0xFFFFFFFF else 0))

/-- Words of a base form. -/
def baWords (f : BaF) : Nat := if f.lit.isSome then 3 else 1
/-- Words of an extended form. -/
def xaWords (f : XaF) : Nat := if f.lit.isSome then 5 else 3

/-- The lanes on which a form with helper lanes excluded acts (06 R133); in a handler the elected lane counts as no helper
(17 R387). -/
def Wave.voters (w : Wave) (act : Nat) : Nat :=
  let helper := if w.inTrap then putBit w.helper w.trapLane false else w.helper
  act &&& (w.allLanes ^^^ helper % 2 ^ w.lanes)

/-- The cross-lane groups of a wave: first lane and size (06 R134). -/
def Wave.groups (w : Wave) : List (Nat × Nat) :=
  if w.width = 64 then [(0, 64)] else if w.width = 16 then [(0, 16), (16, 16)] else [(0, 32)]
/-- The first lane and size of a lane's group. -/
def Wave.groupOf (w : Wave) (l : Nat) : Nat × Nat :=
  if w.width = 64 then (0, 64) else if w.width = 16 then (l / 16 * 16, 16) else (0, 32)
/-- The blocks of 32 lanes of a wave (05 R123). -/
def Wave.blocks32 (w : Wave) : List Nat := if w.width = 64 then [0, 32] else [0]

/-- A LANE XA FORM as an instruction, given its effect on the issued wave's lanes. `early` is a fault that the wave's own
state decides: with a cause of higher priority it stands above those of the encoding (17 R383). -/
def State.laneXAIf (s : State) (i : Instr) (weight : Nat) (sp : XaF → XaSpec) (f : XaF) (early : Option EncFault)
    (body : State → Nat → XaSpec → XaF → R State) : Out :=
  s.issue i (some .lane) f.kmask.toNat weight
    (opcodeFirst [legalXa (sp f) f, badValue (s.w.dynRandFault (sp f) f), early])
    (fun s => body s (xaWords f) (sp f) f)

/-- A LANE XA FORM whose legality the wave's state decides only for its random bits. -/
def State.laneXA (s : State) (i : Instr) (weight : Nat) (sp : XaF → XaSpec) (f : XaF)
    (body : State → Nat → XaSpec → XaF → R State) : Out := s.laneXAIf i weight sp f none body

/-- A LANE BASE FORM executes as the extended form of R76. -/
def State.laneBA (s : State) (i : Instr) (weight : Nat) (sp : XaF → XaSpec) (ty : Nat) (f : BaF)
    (body : State → Nat → XaSpec → XaF → R State) : Out :=
  s.issue i (some .lane) 0 weight (legalBa sp ty f)
    (fun s => body s (baWords f) (sp (xaOfBa ty f)) (xaOfBa ty f))

/-- The body of a form with one result per lane. -/
def mapBody (res : XaF → Wave → Nat → Nat) (s : State) (words : Nat) (sp : XaSpec) (f : XaF) : R State :=
  s.laneMap words sp f (res f)
/-- The body of a form with one truth value per lane. -/
def predBody (p : XaF → Wave → Nat → Bool) (s : State) (words : Nat) (sp : XaSpec) (f : XaF) : R State :=
  s.lanePred words sp f (p f)
/-- The body of a form that changes the wave as a whole. -/
def waveBody (eff : XaF → Wave → Nat → Wave) (s : State) (words : Nat) (sp : XaSpec) (f : XaF) : R State :=
  s.laneForm words sp f [] (eff f)

end Sys2Proof.Machine

namespace Sys2Proof
open Machine

/-- The first source of a lane, read as a type. -/
def XaF.aT (f : XaF) (ty : Nat) (w : Wave) (l : Nat) : Nat := w.srcT f.lit ty f.a9.toNat l
/-- The second source. -/
def XaF.bT (f : XaF) (ty : Nat) (w : Wave) (l : Nat) : Nat := w.srcT f.lit ty f.b9.toNat l
/-- The third source. -/
def XaF.cT (f : XaF) (ty : Nat) (w : Wave) (l : Nat) : Nat := w.srcT f.lit ty f.c9.toNat l
/-- The type code of a lane form. -/
def XaF.ty (f : XaF) : Nat := f.xop.toNat % 8
/-- The variant code. -/
def XaF.variant (f : XaF) : Nat := f.xop.toNat / 8
/-- The old content of a destination register; 0 for a port, whose entry has no old content (entry 16). -/
def XaF.oldD (f : XaF) (w : Wave) (l : Nat) : Nat :=
  match laneIx f.d9.toNat with
  | .v n => w.getV n l
  | _ => 0

end Sys2Proof

namespace Sys2Proof.Machine

/-! ## The lead stream -/

/-- The value of a lead operand (03 R59, R60). The management core reads its identity ports as 0 (03 R80). -/
def Wave.leadVal (w : Wave) (lit : Option Dword) (x : LeadIx) : Nat :=
  match x with
  | .s n => w.getS n
  | .rq => match w.rq with | e :: _ => e.toNat | [] => 0
  | .zero => 0
  | .ident n =>
    if w.mgmt then 0 else if n = 0 then w.waveid else if n = 1 then w.key.blk else if n = 2 then w.key.node else w.role
  | .lit => (lit.getD 0#64).toNat
  | .imm i => wrapN i 64
  | .reserved => 0

/-- The lead registers among operands. -/
def leadRegs (srcs : List LeadIx) : List Nat := srcs.filterMap (fun x => match x with | .s n => some n | _ => none)

/-- Readiness of lead operands (02 R22, R27); a deferred POISON is taken here, below REG_ALLOC (17 R383). -/
def State.leadReady (s : State) (srcs : List LeadIx) (dsts : List Nat) : R Unit :=
  let regs := leadRegs srcs
  if srcs.contains .rq && s.w.rq.isEmpty then .error .stall
  else if s.w.poisonS regs && (regs ++ dsts).all (fun r => decide (r < s.w.k.sregs)) then .error .deferred
  else if (regs ++ dsts).any s.w.pendingS then .error .stall
  else .ok ()

/-- RQ popped when an operand names it: one entry (02 R26). -/
def Wave.popRq (w : Wave) (srcs : List LeadIx) : Wave :=
  if srcs.contains .rq then { w with rq := w.rq.tail } else w

/-- REG_ALLOC of a lead register at or beyond SREGS (03 R87, 14 R320). -/
def State.sregCheck (s : State) (rs : List Nat) : R Unit :=
  match rs.find? (fun r => decide (r ≥ s.w.k.sregs)) with
  | some r => .error (.trap causeReg 0 0 ((r <<< 11) + (1 <<< 20)))
  | none => .ok ()

/-- Lead operands that are ready and allocated. -/
def State.leadOk (s : State) (srcs : List LeadIx) (dsts : List Nat) : R Unit := do
  s.leadReady srcs dsts
  s.sregCheck (leadRegs srcs ++ dsts)

/-- A lead result written to s0 to s63, or discarded by `zero`. -/
def Wave.writeLead (w : Wave) (d : LeadIx) (x : Nat) : Wave :=
  match d with
  | .s n => w.setS n x
  | _ => w

end Sys2Proof.Machine
end

