-- ==== Sys2Proof/Machine/Flags.lean ====
section
/-! DEFINITION. Conditions and flags: the compare conditions (06 R139, R142; 07 R168), and the status words WSTAT and
POOLPART as they are read (04 R99). The device has no condition register: a compare writes a truth value. -/
namespace Sys2Proof.Machine

/-- ICMP's and SCMP's conditions (06 R139). -/
def iCond (cc : Nat) (a b : Int) : Bool :=
  match cc with
  | 0 => decide (a = b)
  | 1 => decide (a ≠ b)
  | 2 => decide (a < b)
  | 3 => decide (a ≤ b)
  | 4 => decide (a > b)
  | _ => decide (a ≥ b)

/-- An operand pattern as an integer of its type: i32 signed, u32 unsigned (06 R137). -/
def intOf (ty x : Nat) : Int := if ty = 5 then sextN x 32 else ((x % 2 ^ 32 : Nat) : Int)
/-- The least value of an integer type. -/
def intMin (ty : Nat) : Int := if ty = 5 then -2147483648 else 0
/-- The greatest value of an integer type. -/
def intMax (ty : Nat) : Int := if ty = 5 then 2147483647 else 4294967295
/-- An exact integer result as a pattern: saturated to its type, or wrapped (06 R137). -/
def intRes (ty : Nat) (sat : Bool) (v : Int) : Nat :=
  if sat then wrapN (clampInt (intMin ty) (intMax ty) v) 32 else wrapN v 32

/-- DSN: entries of the reconvergence stack on chip (04 R99). -/
def Wave.dsn (w : Wave) : Nat := w.stack.length

/-- WSTAT as it reads (04 R99). -/
def Wave.wstat (w : Wave) : Nat :=
  b2n w.leadDone + 2 * b2n w.laneDone + 4 * b2n w.inTrap + 8 * b2n w.deferred.isSome + 16 * b2n w.aborted
  + 32 * b2n (decide (w.width = 64)) + 64 * w.dsn

/-- POOLPART: the 16 KiB pool granules of a block on a core (04 R99). -/
def Wave.poolpartBits (regs scratch tiles : Nat) : Nat :=
  regs % 128 + 128 * (scratch % 128) + 16384 * (tiles % 128)

end Sys2Proof.Machine
end

