-- ==== Sys2Proof/Machine/LaneCtl.lean ====
section
/-! DEFINITION. Lane control flow and the reconvergence stack, majors 0x28 and 0x29 (07 R177 to R184). -/
namespace Sys2Proof.Machine

/-- A branch target: words from the next instruction (03 R66), an address of 64 bits. -/
def target (next : Nat) (off : BitVec 21) : Nat := wrapN ((next : Int) + 4 * off.toInt) 64

/-- The PC of the issuing stream. -/
def State.pc (s : State) : Nat := s.w.pcOf s.st
/-- The issuing stream goes to an address. -/
def State.goto (s : State) (a : Nat) : State := s.modW (fun w => w.setPc s.st a)

/-- RECONV, RETL and EXIT leave `d`, `a` and `b` zero and take no literal. -/
def legalBare (f : BaF) : Option EncFault :=
  opcodeFirst [faultIf f.lit.isSome (.opcode 4), zeroField (f.d != 0#7), zeroField (f.a != 0#7), zeroField (f.b != 0#7)]

/-- The stack is empty (R177). -/
def Wave.stackEmpty (w : Wave) : Bool := w.stack.isEmpty && w.spill == 0

/-- DIVERGE_OVERFLOW with S in DETAIL, when a push has no room (R183). -/
def State.pushCheck (s : State) : R Unit :=
  if s.w.pushFull then .error (.trap causeDiverge s.w.exec 0 (s.w.spill <<< 11)) else .ok ()

/-- BRDQ (R178): one DQ entry decides. -/
def execBrdq (f : BbF) (s : State) : Out :=
  s.issue (.brdq f) (some .lane) 0 4 none (fun s =>
    match s.w.dq with
    | [] => .error .stall
    | x :: rest =>
      let next := s.pc + 4
      .ok ((s.modW (fun w => { w with dq := rest })).goto (if x ≠ 0#32 then target next f.off21 else next)))

/-- CALLL (R181): a call entry is pushed. -/
def execCalll (f : BbF) (s : State) : Out :=
  s.issue (.calll f) (some .lane) 0 4 none (fun s =>
    match s.pushCheck with
    | .error x => .error x
    | .ok _ =>
      let next := s.pc + 4
      .ok ((s.pushEntry { pc := next, rpc := kindCall, mask := s.w.exec }).goto (target next f.off21)))

/-- A uniform predicate of BDIV (R179). -/
def bdivUniform (f : BlF) : Bool :=
  if f.xop.getLsbD 0 then false
  else match laneIx f.a9.toNat with | .zero | .dq | .c _ | .imm _ => true | _ => false

/-- Which encodings of BDIV are legal (R178, R179). -/
def legalBdiv (f : BlF) : Option EncFault :=
  opcodeFirst [
    badValue (decide (f.xop.toNat ≥ 2)),
    (if f.xop.getLsbD 0 then zeroField (decide (f.a9.toNat ≥ 8))
     else
      match laneIx f.a9.toNat with
      | .reserved => some (.opcode 1)
      | .lit => some (.opcode 4)
      | .rq => some (.operand 1)
      | _ => none),
    zeroField (bdivUniform f && f.off21b != 0#21),
    zeroField (f.rsvd1 != 0#18), zeroField (f.rsvd2 != 0#11)]

/-- The lanes at which BDIV's per-lane predicate is true. -/
def bdivPred (f : BlF) (w : Wave) : Nat :=
  if f.xop.getLsbD 0 then w.getK (f.a9.toNat % 8)
  else maskOf ((List.range w.lanes).filter (fun l => w.src none f.a9.toNat l != 0))

/-- BDIV (R179). -/
def bdivBody (f : BlF) (s : State) : R State := do
  let srcs := if f.xop.getLsbD 0 then [] else [f.a9.toNat]
  s.laneReady srcs []
  s.regCheck s.w.exec (vRegs srcs)
  let next := s.pc + 12
  let tgt := target next f.off21
  let pop (s : State) : State := s.modW (fun w => w.popUsed srcs)
  if bdivUniform f then .ok ((pop s).goto (if s.w.src none f.a9.toNat 0 ≠ 0 then tgt else next))
  else
    let t := s.w.exec &&& bdivPred f s.w
    let n := s.w.exec ^^^ t
    if t = 0 then .ok ((pop s).goto next)
    else if n = 0 then .ok ((pop s).goto tgt)
    else
      match s.pushCheck with
      | .error x => .error x
      | .ok _ =>
        let e : SEntry := { pc := next, rpc := target next f.off21b, mask := n }
        .ok ((((pop s).pushEntry e).modW (fun w => { w with exec := t })).goto tgt)

/-- BDIV (R179). -/
def execBdiv (f : BlF) (s : State) : Out := s.issue (.bdiv f) (some .lane) 0 4 (legalBdiv f) (bdivBody f)

/-- RECONV on the top entry (R180). -/
def reconvBody (s : State) : R State :=
  match s.refill s.w.exec with
  | .error x => .error x
  | .ok s =>
    let pc := s.pc
    match s.w.stack with
    | [] => .ok (s.goto (pc + 4))
    | e :: rest =>
      if e.kind = kindCall ∨ e.rpc / 4 ≠ pc / 4 then .ok (s.goto (pc + 4))
      else if e.kind = kindPending then
        .ok ((s.modW (fun w =>
          { w with exec := e.mask, stack := { e with mask := w.exec, rpc := e.rpc / 4 * 4 + kindJoin } :: rest })).goto e.pc)
      else .ok (s.modW (fun w => { w with exec := w.exec ||| e.mask, stack := rest }))

/-- RECONV (R180). -/
def execReconv (f : BaF) (s : State) : Out := s.issue (.reconv f) (some .lane) 0 4 (legalBare f) reconvBody

/-- RETL: a call entry on top is needed (R181). -/
def retlBody (s : State) : R State :=
  match s.refill s.w.exec with
  | .error x => .error x
  | .ok s =>
    match s.w.stack with
    | [] => .error (.trap causeOperand s.w.exec 0 0)
    | e :: rest =>
      if e.kind ≠ kindCall then .error (.trap causeOperand s.w.exec 0 0)
      else .ok ((s.modW (fun w => { w with exec := w.exec &&& e.mask, stack := rest })).goto e.pc)

/-- RETL (R181). -/
def execRetl (f : BaF) (s : State) : Out := s.issue (.retl f) (some .lane) 0 4 (legalBare f) retlBody

/-- EXIT: with an empty stack the lane stream has finished (R182). -/
def exitBody (s : State) : R State :=
  .ok ((s.modW (fun w => { w with exec := 0, laneDone := w.laneDone || w.stackEmpty })).goto (s.pc + 4))

/-- EXIT (R182). -/
def execExit (f : BaF) (s : State) : Out := s.issue (.exit f) (some .lane) 0 4 (legalBare f) exitBody

end Sys2Proof.Machine
end

