-- ==== Sys2Proof/Machine/LeadScalar.lean ====
section
/-! DEFINITION. The lead scalar instructions, majors 0x34 and 0x35 (07 R165 to R168). -/
namespace Sys2Proof.Machine

/-- The operands and fields of a lead scalar form, from either format (07 R165, 03 R76). -/
structure LeadOp where
  lit : Option Dword
  d : LeadIx
  a : LeadIx
  b : LeadIx
  c : LeadIx
  ty : Nat
  variant : Nat
  sat : Bool
  cc : Nat
deriving DecidableEq, Repr

/-- What the page of a lead scalar form says of the fields. -/
structure LeadSpec where
  variants : List Nat
  sat : Bool
  cond : Bool
  useB : Bool
  useC : Bool
deriving DecidableEq, Repr

/-- SADD, SSUB, SMUL (R165). -/
def specSadd : LeadSpec := { variants := [0], sat := true, cond := false, useB := true, useC := false }
/-- The forms with two sources and no saturation (R165). -/
def specSand : LeadSpec := { specSadd with sat := false }
/-- SMOV (R165). -/
def specSmov : LeadSpec := { specSand with useB := false }
/-- SCMP (R165). -/
def specScmp : LeadSpec := { specSand with cond := true }
/-- SSEL (R165). -/
def specSsel : LeadSpec := { specSand with useC := true }
/-- SBFX (R165). -/
def specSbfx : LeadSpec := { specSand with variants := [0, 1] }

/-- The fault of a lead source operand; `w` is its operand number. -/
def leadSrcFault (x : LeadIx) : Option EncFault :=
  match x with
  | .reserved => some (.opcode 1)
  | _ => none
/-- The fault of a lead destination operand. -/
def leadDstFault (x : LeadIx) : Option EncFault :=
  match x with
  | .reserved => some (.opcode 1)
  | .s _ | .zero => none
  | _ => some (.operand 0)

/-- The operands of an extended form. -/
def leadOfXa (f : XaF) : LeadOp :=
  { lit := f.lit, d := leadIx9 f.d9.toNat, a := leadIx9 f.a9.toNat, b := leadIx9 f.b9.toNat, c := leadIx9 f.c9.toNat,
    ty := f.xop.toNat % 8, variant := f.xop.toNat / 8, sat := f.sat == 1#1, cc := f.imm8.toNat % 8 }
/-- The operands of a base form: type i64, every other field zero. -/
def leadOfBs (f : BaF) : LeadOp :=
  { lit := f.lit, d := leadIx7 f.d.toNat false, a := leadIx7 f.a.toNat false, b := leadIx7 f.b.toNat f.lit.isSome,
    c := .s 0, ty := 7, variant := 0, sat := false, cc := 0 }

/-- The width of a lead type (R166). -/
def leadWidth (ty : Nat) : Nat := if ty = 7 then 64 else 32

/-- The first fault of an extended lead scalar form (R165). -/
def legalLeadXa (sp : LeadSpec) (f : XaF) : Option EncFault :=
  let o := leadOfXa f
  let named := isLitIx f.a9 || (sp.useB && isLitIx f.b9) || (sp.useC && isLitIx f.c9)
  opcodeFirst [
    badValue (!decide (o.ty = 5 ∨ o.ty = 6 ∨ o.ty = 7)),
    badValue (!sp.variants.contains o.variant),
    badValue (f.rnd != 0#3), badValue (!sp.sat && o.sat), badValue (f.mod != 0#4),
    (if sp.cond then badValue (decide (f.imm8.toNat ≥ 6)) else zeroField (f.imm8 != 0#8)),
    leadSrcFault o.a,
    (if sp.useB then leadSrcFault o.b else zeroField (f.b9 != 0#9)),
    (if sp.useC then leadSrcFault o.c else zeroField (f.c9 != 0#9)),
    leadDstFault o.d,
    zeroField (f.kmask != 0#3), zeroField (f.order != 0#4), zeroField (f.imm21 != 0#21),
    litFault f.lit named (leadWidth o.ty), litDst f.lit f.d9]

/-- The first fault of a base lead scalar form (R165). -/
def legalLeadBs (sp : LeadSpec) (f : BaF) : Option EncFault :=
  let o := leadOfBs f
  opcodeFirst [
    baLitFault f, leadSrcFault o.a, (if sp.useB then leadSrcFault o.b else zeroField (f.b != 0#7)), leadDstFault o.d]

/-- An operand as an integer of its type (R166). -/
def leadInt (ty x : Nat) : Int :=
  if ty = 7 then sextN x 64 else if ty = 5 then sextN x 32 else ((x % 2 ^ 32 : Nat) : Int)
/-- A w-bit result extended as the type says (R166). -/
def leadOut (ty x : Nat) : Nat := if ty = 7 then x % 2 ^ 64 else if ty = 5 then wrapN (sextN x 32) 64 else x % 2 ^ 32
/-- An exact result: saturated or wrapped, then extended (R166). -/
def leadRes (o : LeadOp) (v : Int) : Nat :=
  let r : Int :=
    if o.sat then
      (if o.ty = 7 then clampInt (-9223372036854775808) 9223372036854775807 v
       else if o.ty = 5 then clampInt (-2147483648) 2147483647 v else clampInt 0 4294967295 v)
    else v
  leadOut o.ty (wrapN r (leadWidth o.ty))

/-- A lead scalar operation of three operand values. -/
abbrev LeadFn := LeadOp → Nat → Nat → Nat → Nat

/-- SADD. -/
def opSadd : LeadFn := fun o a b _ => leadRes o (leadInt o.ty a + leadInt o.ty b)
/-- SSUB. -/
def opSsub : LeadFn := fun o a b _ => leadRes o (leadInt o.ty a - leadInt o.ty b)
/-- SMUL. -/
def opSmul : LeadFn := fun o a b _ => leadRes o (leadInt o.ty a * leadInt o.ty b)
/-- SMULHI. -/
def opSmulhi : LeadFn := fun o a b _ => leadRes o ((leadInt o.ty a * leadInt o.ty b) / ((2 ^ leadWidth o.ty : Nat) : Int))
/-- SAND. -/
def opSand : LeadFn := fun o a b _ => leadOut o.ty (a &&& b)
/-- SOR. -/
def opSor : LeadFn := fun o a b _ => leadOut o.ty (a ||| b)
/-- SXOR. -/
def opSxor : LeadFn := fun o a b _ => leadOut o.ty (a ^^^ b)
/-- SMOV. -/
def opSmov : LeadFn := fun o a _ _ => leadOut o.ty a
/-- SSHL (R167). -/
def opSshl : LeadFn := fun o a b _ => if b ≥ leadWidth o.ty then 0 else leadOut o.ty (a <<< b)
/-- SSHR: zero fill (R167). -/
def opSshr : LeadFn := fun o a b _ =>
  if b ≥ leadWidth o.ty then 0 else leadOut o.ty (zextN a (leadWidth o.ty) >>> b)
/-- SSAR: bit w − 1 is the sign for every type (R167). -/
def opSsar : LeadFn := fun o a b _ =>
  let x := sextN a (leadWidth o.ty)
  let n := min b (leadWidth o.ty)
  leadOut o.ty (wrapN (x / ((2 ^ n : Nat) : Int)) (leadWidth o.ty))
/-- SMIN. -/
def opSmin : LeadFn := fun o a b _ => leadRes o (min (leadInt o.ty a) (leadInt o.ty b))
/-- SMAX. -/
def opSmax : LeadFn := fun o a b _ => leadRes o (max (leadInt o.ty a) (leadInt o.ty b))
/-- SCMP: 1 or 0. -/
def opScmp : LeadFn := fun o a b _ => b2n (iCond o.cc (leadInt o.ty a) (leadInt o.ty b))
/-- SSEL. -/
def opSsel : LeadFn := fun o a b c => leadOut o.ty (if c ≠ 0 then a else b)
/-- SBFX (R167). -/
def opSbfx : LeadFn := fun o a b _ =>
  let w := leadWidth o.ty
  let off := if w = 64 then bits b 0 6 else bits b 0 5
  let wid := if w = 64 then bits b 8 7 else bits b 8 6
  let e := min wid (w - off)
  let x := if e = 0 then 0 else zextN (zextN a w >>> off) e
  leadOut o.ty (if o.variant = 1 ∧ e > 0 then wrapN (sextN x e) w else x)

/-- The management core has no coupling queues: field 64 raises ILLEGAL_OPERAND there (03 R80). -/
def State.mgmtPort (s : State) (srcs : List LeadIx) : R Unit :=
  if s.w.mgmt then
    match srcs.findIdx? (fun x => decide (x = .rq)) with
    | some i => .error (.trap causeOperand 0 0 ((i + 1) <<< 11))
    | none => .ok ()
  else .ok ()

/-- The registers a lead destination writes. -/
def leadDst (d : LeadIx) : List Nat := match d with | .s n => [n] | _ => []

/-- A LEAD SCALAR FORM: its operands are read, RQ is popped at most once, and the result is written (R166). -/
def scalarBody (sp : LeadSpec) (o : LeadOp) (words : Nat) (op : LeadFn) (s : State) : R State := do
  let srcs := [o.a] ++ (if sp.useB then [o.b] else []) ++ (if sp.useC then [o.c] else [])
  s.mgmtPort srcs
  s.leadOk srcs (leadDst o.d)
  let v (x : LeadIx) : Nat := s.w.leadVal o.lit x
  .ok ((s.modW (fun w => (w.popRq srcs).writeLead o.d (op o (v o.a) (v o.b) (v o.c)))).advance words)

/-- An extended lead scalar form. -/
def State.scalarXA (s : State) (i : Instr) (sp : LeadSpec) (f : XaF) (op : LeadFn) : Out :=
  s.issue i (some .lead) 0 1 (legalLeadXa sp f) (scalarBody sp (leadOfXa f) (xaWords f) op)
/-- A base lead scalar form. -/
def State.scalarBS (s : State) (i : Instr) (sp : LeadSpec) (f : BaF) (op : LeadFn) : Out :=
  s.issue i (some .lead) 0 1 (legalLeadBs sp f) (scalarBody sp (leadOfBs f) (baWords f) op)

/-- SADD, base form (R165). -/
def execSaddBS (f : BaF) (s : State) : Out := s.scalarBS (.saddBS f) specSadd f opSadd
/-- SADD, extended form (R165). -/
def execSaddXA (f : XaF) (s : State) : Out := s.scalarXA (.saddXA f) specSadd f opSadd
/-- SSUB, base form (R165). -/
def execSsubBS (f : BaF) (s : State) : Out := s.scalarBS (.ssubBS f) specSadd f opSsub
/-- SSUB, extended form (R165). -/
def execSsubXA (f : XaF) (s : State) : Out := s.scalarXA (.ssubXA f) specSadd f opSsub
/-- SMUL, base form (R165). -/
def execSmulBS (f : BaF) (s : State) : Out := s.scalarBS (.smulBS f) specSadd f opSmul
/-- SMUL, extended form (R165). -/
def execSmulXA (f : XaF) (s : State) : Out := s.scalarXA (.smulXA f) specSadd f opSmul
/-- SMULHI, base form (R165). -/
def execSmulhiBS (f : BaF) (s : State) : Out := s.scalarBS (.smulhiBS f) specSand f opSmulhi
/-- SMULHI, extended form (R165). -/
def execSmulhiXA (f : XaF) (s : State) : Out := s.scalarXA (.smulhiXA f) specSand f opSmulhi
/-- SAND, base form (R165). -/
def execSandBS (f : BaF) (s : State) : Out := s.scalarBS (.sandBS f) specSand f opSand
/-- SAND, extended form (R165). -/
def execSandXA (f : XaF) (s : State) : Out := s.scalarXA (.sandXA f) specSand f opSand
/-- SOR, base form (R165). -/
def execSorBS (f : BaF) (s : State) : Out := s.scalarBS (.sorBS f) specSand f opSor
/-- SOR, extended form (R165). -/
def execSorXA (f : XaF) (s : State) : Out := s.scalarXA (.sorXA f) specSand f opSor
/-- SXOR, base form (R165). -/
def execSxorBS (f : BaF) (s : State) : Out := s.scalarBS (.sxorBS f) specSand f opSxor
/-- SXOR, extended form (R165). -/
def execSxorXA (f : XaF) (s : State) : Out := s.scalarXA (.sxorXA f) specSand f opSxor
/-- SMOV, base form (R165). -/
def execSmovBS (f : BaF) (s : State) : Out := s.scalarBS (.smovBS f) specSmov f opSmov
/-- SMOV, extended form (R165). -/
def execSmovXA (f : XaF) (s : State) : Out := s.scalarXA (.smovXA f) specSmov f opSmov
/-- SSHL, base form (R165). -/
def execSshlBS (f : BaF) (s : State) : Out := s.scalarBS (.sshlBS f) specSand f opSshl
/-- SSHL, extended form (R165). -/
def execSshlXA (f : XaF) (s : State) : Out := s.scalarXA (.sshlXA f) specSand f opSshl
/-- SSHR, base form (R165). -/
def execSshrBS (f : BaF) (s : State) : Out := s.scalarBS (.sshrBS f) specSand f opSshr
/-- SSHR, extended form (R165). -/
def execSshrXA (f : XaF) (s : State) : Out := s.scalarXA (.sshrXA f) specSand f opSshr
/-- SSAR, base form (R165). -/
def execSsarBS (f : BaF) (s : State) : Out := s.scalarBS (.ssarBS f) specSand f opSsar
/-- SSAR, extended form (R165). -/
def execSsarXA (f : XaF) (s : State) : Out := s.scalarXA (.ssarXA f) specSand f opSsar
/-- SMIN, base form (R165). -/
def execSminBS (f : BaF) (s : State) : Out := s.scalarBS (.sminBS f) specSand f opSmin
/-- SMIN, extended form (R165). -/
def execSminXA (f : XaF) (s : State) : Out := s.scalarXA (.sminXA f) specSand f opSmin
/-- SMAX, base form (R165). -/
def execSmaxBS (f : BaF) (s : State) : Out := s.scalarBS (.smaxBS f) specSand f opSmax
/-- SMAX, extended form (R165). -/
def execSmaxXA (f : XaF) (s : State) : Out := s.scalarXA (.smaxXA f) specSand f opSmax
/-- SCMP (R165). -/
def execScmp (f : XaF) (s : State) : Out := s.scalarXA (.scmp f) specScmp f opScmp
/-- SSEL (R165). -/
def execSsel (f : XaF) (s : State) : Out := s.scalarXA (.ssel f) specSsel f opSsel
/-- SBFX (R165). -/
def execSbfx (f : XaF) (s : State) : Out := s.scalarXA (.sbfx f) specSbfx f opSbfx

end Sys2Proof.Machine
end

