-- ==== Sys2Proof/Machine/LeadCtl.lean ====
section
/-! DEFINITION. Lead control flow, DQPUSH and register re-division, majors 0x36 and 0x37 but for the abort instructions
(07 R169 to R176, R185). -/
namespace Sys2Proof.Machine

/-- DQ has no room (02 R25, R27). -/
def Wave.dqFull (w : Wave) : Bool := decide (w.dq.length ≥ 16)
/-- A push of DQ. -/
def Wave.pushDq (w : Wave) (x : Nat) : Wave := { w with dq := w.dq ++ [BitVec.ofNat 32 x] }

/-- SBR (R170). -/
def execSbr (f : BbF) (s : State) : Out :=
  s.issue (.sbr f) (some .lead) 0 1 none (fun s => .ok (s.goto (target (s.pc + 4) f.off21)))

/-- Fields of SBRC and SLOOP that must be zero. -/
def legalBl (f : BlF) : List (Option EncFault) :=
  [zeroField (f.off21b != 0#21), zeroField (f.rsvd1 != 0#18), zeroField (f.rsvd2 != 0#11)]

/-- SBRC tests s0 to s63 or an inline integer (R169). The manual names no fault for `zero`, which is neither reserved nor
listed: ILLEGAL_OPERAND with operand 1, DESIGN CHOICE (entry 13). -/
def legalSbrc (f : BlF) : Option EncFault :=
  opcodeFirst ([
    badValue (decide (f.xop.toNat % 8 ≥ 6 ∨ f.xop.toNat ≥ 16)),
    (match leadIx9 f.a9.toNat with
     | .reserved => some (.opcode 1)
     | .lit => some (.opcode 4)
     | .s _ | .imm _ => none
     | _ => some (.operand 1))] ++ legalBl f)

/-- SLOOP counts in s0 to s63 (R169). -/
def legalSloop (f : BlF) : Option EncFault :=
  opcodeFirst ([
    badValue (decide (f.xop.toNat % 8 ≠ 0 ∨ f.xop.toNat ≥ 16)),
    (match leadIx9 f.a9.toNat with
     | .reserved => some (.opcode 1)
     | .lit => some (.opcode 4)
     | .s _ => none
     | _ => some (.operand 1))] ++ legalBl f)

/-- The push bit of SBRC and SLOOP. -/
def blPush (f : BlF) : Bool := f.xop.getLsbD 3

/-- On the management core, which has no coupling queues, a push is ILLEGAL_OPCODE (03 R80). -/
def Wave.pushFault (w : Wave) (f : BlF) : Option EncFault := faultIf (blPush f && w.mgmt) (.opcode 3)

/-- A push needs room in DQ (R170). -/
def State.pushReady (s : State) (push : Bool) : R Unit := if push && s.w.dqFull then .error .stall else .ok ()

/-- The branch of SBRC and SLOOP, with its push. -/
def State.condBranch (s : State) (f : BlF) (t : Bool) : State :=
  let next := s.pc + 12
  (s.modW (fun w => if blPush f then w.pushDq (b2n t) else w)).goto (if t then target next f.off21 else next)

/-- SBRC (R170). -/
def sbrcBody (f : BlF) (s : State) : R State := do
  let a := leadIx9 f.a9.toNat
  s.pushReady (blPush f)
  s.leadOk [a] []
  .ok (s.condBranch f (iCond (f.xop.toNat % 8) (sextN (s.w.leadVal none a) 64) 0))

/-- SBRC (R170). -/
def execSbrc (f : BlF) (s : State) : Out := 
  s.issue (.sbrc f) (some .lead) 0 1 (opcodeFirst [legalSbrc f, s.w.pushFault f]) (sbrcBody f)

/-- SLOOP (R170). -/
def sloopBody (f : BlF) (s : State) : R State := do
  let n := f.a9.toNat
  s.pushReady (blPush f)
  s.leadOk [.s n] [n]
  let x := wrapN ((s.w.getS n : Int) - 1) 64
  .ok ((s.modW (fun w => w.setS n x)).condBranch f (decide (x ≠ 0)))

/-- SLOOP (R170). -/
def execSloop (f : BlF) (s : State) : Out := 
  s.issue (.sloop f) (some .lead) 0 1 (opcodeFirst [legalSloop f, s.w.pushFault f]) (sloopBody f)

/-- The link register L: s(SREGS − 1), s63 on the management core (R170). -/
def Wave.link (w : Wave) : Nat := if w.mgmt then 63 else w.k.sregs - 1

/-- SCALL (R170). -/
def scallBody (f : BbF) (s : State) : R State := do
  let next := s.pc + 4
  s.leadOk [] [s.w.link]
  .ok ((s.modW (fun w => w.setS w.link next)).goto (target next f.off21))

/-- SCALL (R170). -/
def execScall (f : BbF) (s : State) : Out := s.issue (.scall f) (some .lead) 0 1 none (scallBody f)

/-- JMPL: a held lane stream goes on at the target (R173). -/
def jmplBody (f : BbF) (s : State) : R State :=
  if s.w.laneHeld && !s.w.laneDone then
    .ok ((s.modW (fun w => { w with lanePc := target (s.pc + 4) f.off21 })).goto (s.pc + 4))
  else .error (.trap causeOpcode 0 0 (6 <<< 11))

/-- JMPL (R173). -/
def execJmpl (f : BbF) (s : State) : Out := s.issue (.jmpl f) (some .lead) 0 1 none (jmplBody f)

/-- SRET takes s0 to s63 in `b`; `d` and `a` are zero (R169). The manual names no fault for `rq`, `zero`, an identity port, an
inline integer or a literal there: ILLEGAL_OPERAND with operand 2, DESIGN CHOICE (entry 13). -/
def legalSret (f : BaF) : Option EncFault :=
  opcodeFirst [
    baLitFault f, zeroField (f.d != 0#7), zeroField (f.a != 0#7),
    (match leadIx7 f.b.toNat f.lit.isSome with
     | .reserved => some (.opcode 1)
     | .s _ => none
     | _ => some (.operand 2))]

/-- SRET (R170). -/
def sretBody (f : BaF) (s : State) : R State := do
  s.leadOk [.s f.b.toNat] []
  let x := s.w.getS f.b.toNat
  if x % 4 ≠ 0 then .error (.trap causeAlign 0 x (7 <<< 11))
  else .ok (s.goto x)

/-- SRET (R170). -/
def execSret (f : BaF) (s : State) : Out := s.issue (.sret f) (some .lead) 0 1 (legalSret f) (sretBody f)

/-- SDONE: a held lane stream has finished with it (R170, R172). -/
def sdoneBody (s : State) : R State :=
  .ok ((s.modW (fun w => { w with leadDone := true, laneDone := w.laneDone || w.laneHeld })).goto (s.pc + 4))

/-- SDONE (R170, R172). -/
def execSdone (f : BaF) (s : State) : Out := s.issue (.sdone f) (some .lead) 0 1 (legalBare f) sdoneBody

/-- The one operand `b` of DQPUSH, VGIVE and VCLAIM; a literal has the width given. The manual names no fault for an operand
that `ok` does not admit (in VGIVE and VCLAIM `rq`, `zero` and the identity ports, R185): ILLEGAL_OPERAND with operand 2,
DESIGN CHOICE (entry 13). -/
def legalB (width : Nat) (ok : LeadIx → Bool) (f : BaF) : Option EncFault :=
  let x := leadIx7 f.b.toNat f.lit.isSome
  opcodeFirst [
    baLitFault f, zeroField (f.d != 0#7), zeroField (f.a != 0#7), leadSrcFault x,
    faultIf (!ok x) (.operand 2), litFault f.lit f.lit.isSome width]

/-- DQPUSH (R174). -/
def dqpushBody (f : BaF) (s : State) : R State := do
  let x := leadIx7 f.b.toNat f.lit.isSome
  s.leadReady [x] []
  if s.w.dqFull then .error .stall
  s.sregCheck (leadRegs [x])
  .ok ((s.modW (fun w => (w.popRq [x]).pushDq (w.leadVal f.lit x))).advance (baWords f))

/-- DQPUSH (R174). -/
def execDqpush (f : BaF) (s : State) : Out :=
  s.issue (.dqpush f) (some .lead) 0 1 (legalB 32 (fun _ => true) f) (dqpushBody f)

/-! ## Register re-division (R185; 02 R35, R36; 04 R97) -/

/-- Granule counts come from s0 to s63, an inline integer or a literal. -/
def countIx (x : LeadIx) : Bool := match x with | .s _ | .imm _ | .lit => true | _ => false

/-- Granules moved for each granule of an allocation: both slots of a wave of width 64. -/
def Wave.granules (w : Wave) (n : Nat) : Nat := if w.width = 64 then 2 * n else n

/-- The reserve of a block on a core. -/
def State.reserve (s : State) (k : BKey) (core : Nat) : Nat :=
  match s.block? k with
  | none => 0
  | some b =>
    match b.segs.find? (fun g => g.core == core) with
    | none => 0
    | some g => g.reserve

/-- The part of a block on a core changed. -/
def State.modSeg (s : State) (k : BKey) (core : Nat) (f : CoreSeg → CoreSeg) : State :=
  s.modBlock k (fun b => { b with segs := b.segs.map (fun (g : CoreSeg) => if g.core = core then f g else g) })

/-- A result on its way to registers that are given away is not delivered: DESIGN CHOICE, unsafe (entry 39). R98 says only that
the operation completes against the granules it named, and which memory those are now, nothing that a program reads. -/
def Dst.cut (d : Dst) (g : Nat) : Dst :=
  match d with
  | .lanes b n m sz => if b + n ≤ 8 * g then d else if b ≥ 8 * g then .none else .lanes b (8 * g - b) m sz
  | _ => d

/-- The allocation shrinks to g granules; the removed ones keep no content (04 R97). -/
def Wave.shrink (w : Wave) (g : Nat) : Wave :=
  { w with
    g := g, v := mapClear w.v (64 * 8 * g) (64 * 8 * (w.g - g)), sect := w.sect.filter (fun x => decide (x < 8 * g)),
    ops := w.ops.map (fun (o : Op) => { o with dst := o.dst.cut g }) }

/-- The allocation grows by n granules, which read 0 (04 R97). -/
def Wave.grow (w : Wave) (n : Nat) : Wave :=
  { w with
    g := w.g + n, v := mapClear w.v (64 * 8 * w.g) (64 * 8 * n), sect := w.sect.filter (fun x => decide (x < 8 * w.g)) }

/-- A parked claim completed: its wave holds the granules and goes on after the VCLAIM. -/
def Wave.claimed (w : Wave) (len n : Nat) : Wave :=
  { w.grow n with status := .running, leadPc := w.leadPc + 4 * len, parkCount := 0 }

/-- The parked claims of a block on a core, by their order. -/
def State.claims (s : State) (k : BKey) (core : Nat) : List (Nat × Nat × Nat × Nat) :=
  sortBy (fun p => p.1) (s.allWaves.filterMap (fun w =>
    match w.status with
    | .parked (.vclaim len n seq) => if w.key = k ∧ w.core = core then some (seq, w.slot, len, n) else none
    | _ => none))

/-- Parked claims are served in their order while the reserve holds enough. -/
def State.serveClaims (s : State) (k : BKey) (core : Nat) (l : List (Nat × Nat × Nat × Nat)) : State :=
  match l with
  | [] => s
  | (_, slot, len, n) :: rest =>
    let need := match s.wave? core slot with | some w => w.granules n | none => n
    if s.reserve k core < need then s
    else
      let s := s.modSeg k core (fun g => { g with reserve := g.reserve - need })
      (s.modWave core slot (fun w => w.claimed len n)).serveClaims k core rest

/-- The claims of some blocks on a core served. -/
def State.serveBlocks (s : State) (core : Nat) (l : List Block) : State :=
  match l with
  | [] => s
  | b :: rest => (s.serveClaims b.key core (s.claims b.key core)).serveBlocks core rest

/-- CLAIMS SERVED on a core, after the issue slots of a cycle: those that parked in it behind another are taken in ascending
wave slot (R185). -/
def State.coreClaims (s : State) (core : Nat) : State := s.serveBlocks core s.blocks

/-- A granule-count fault names no register (17 R384). -/
def countFault : Stop := .trap causeReg 0 0 (1 <<< 21)

/-- VGIVE (R185): the granules go to the reserve, which serves the parked claims. -/
def vgiveBody (f : BaF) (s : State) : R State := do
  let x := leadIx7 f.b.toNat f.lit.isSome
  s.leadOk [x] []
  let n := s.w.leadVal f.lit x
  if n = 0 then .ok (s.advance (baWords f))
  else if n ≥ s.w.g then .error countFault
  else
    let k := s.w.key
    let core := s.w.core
    let moved := s.w.granules n
    let s := (s.modW (fun w => w.shrink (w.g - n))).advance (baWords f)
    let s := s.modSeg k core (fun g => { g with reserve := g.reserve + moved })
    .ok (s.serveClaims k core (s.claims k core))

/-- VGIVE (R185). -/
def execVgive (f : BaF) (s : State) : Out := s.issue (.vgive f) (some .lead) 0 1 (legalB 64 countIx f) (vgiveBody f)

/-- What the reserve of the issuing wave's core could ever hold: the granules that the block's other waves there hold and
its content (02 R36). -/
def State.couldHold (s : State) : Nat :=
  s.reserve s.w.key s.w.core +
  ((s.waves.filter (fun w => w.key == s.w.key && w.core == s.w.core && w.status != .retired)).map (fun w => w.granules w.g)).foldl (· + ·) 0

/-- The place of a claim that the issuing wave makes in the order of claims (R185): by cycle, then by wave slot. -/
def State.claimSeq (s : State) : Nat := 64 * s.cycleOf s.w.core + s.w.slot

/-- A claim of the issuing wave stands behind another (R185): one that parked in an earlier cycle, or in this one from a lower
slot; or a wave of its block in a lower slot of the core may yet make one in this cycle. -/
def State.claimBehind (s : State) : Bool :=
  (s.claims s.w.key s.w.core).any (fun p => decide (p.1 < s.claimSeq))
    || s.waves.any (fun w => w.key == s.w.key && w.core == s.w.core && decide (w.slot < s.w.slot) && w.tryLead == .ready)

/-- VCLAIM (R185): the wave parks while the reserve is short, or behind another claim; the synchronisation unit serves the
claims of a cycle after its issue slots (CLAIMS SERVED). -/
def vclaimBody (f : BaF) (s : State) : R State := do
  let x := leadIx7 f.b.toNat f.lit.isSome
  s.leadOk [x] []
  let n := s.w.leadVal f.lit x
  let need := s.w.granules n
  if n = 0 then .ok (s.advance (baWords f))
  else if s.w.g + n > 40 ∨ need > s.couldHold then .error countFault
  else if s.reserve s.w.key s.w.core < need ∨ s.claimBehind = true then
    .ok (s.modW (fun w => { w with status := .parked (.vclaim (baWords f) n s.claimSeq), parkCount := 0 }))
  else
    let s := s.modSeg s.w.key s.w.core (fun g => { g with reserve := g.reserve - need })
    .ok ((s.modW (fun w => w.grow n)).advance (baWords f))

/-- VCLAIM (R185). -/
def execVclaim (f : BaF) (s : State) : Out := s.issue (.vclaim f) (some .lead) 0 1 (legalB 64 countIx f) (vclaimBody f)

end Sys2Proof.Machine
end

