-- ==== Sys2Proof/Machine/LegalMem.lean ====
section
/-! DEFINITION. Which encodings of the memory forms are legal (03 R67, R71, R72; 09 R204; 11 R233 to R237, R252). -/
namespace Sys2Proof.Machine

/-- Bytes of an access by its size code (03 R67); the reserved code accesses none. -/
def sizeBytes (code : Nat) : Nat :=
  match code with
  | 0 | 1 => 1
  | 2 | 3 => 2
  | 4 => 4
  | 5 => 8
  | 6 => 16
  | _ => 0
/-- Lane registers of an access. -/
def sizeRegs (code : Nat) : Nat := if code = 6 then 4 else if code = 5 then 2 else 1

/-- The size codes of a load, a store and an atomic (11 R233). -/
def loadSizes : List Nat := [0, 1, 2, 3, 4, 5, 6]
/-- ST, STSP, STT. -/
def storeSizes : List Nat := [0, 2, 4, 5, 6]

/-- A destination of a load: as many lane registers as the size needs, or `zero` (11 R237). -/
def loadDstFault (code : Nat) (i : Nat) : Option EncFault :=
  match laneIx i with
  | .reserved => some (.opcode 1)
  | .v n => faultIf (decide (n + sizeRegs code > 320)) (.operand 0)
  | .zero => none
  | _ => some (.operand 0)

/-- A data operand of a size; `w` is its operand number (11 R237). -/
def dataFault (code : Nat) (i w : Nat) : Option EncFault :=
  match laneIx i with
  | .reserved => some (.opcode 1)
  | .rq => some (.operand w)
  | .v n => faultIf (decide (n + sizeRegs code > 320)) (.operand w)
  | .c n => if code = 6 then some (.operand w) else faultIf (decide (code = 5 ∧ n > 30)) (.operand w)
  | .zero => none
  | .lit | .imm _ => faultIf (decide (code = 6)) (.operand w)
  | _ => faultIf (decide (code ≥ 5)) (.operand w)

/-- A lane base operand (11 R235). -/
def baseFault (i : Nat) : Option EncFault :=
  match laneIx i with
  | .reserved => some (.opcode 1)
  | .v n => faultIf (decide (n > 318)) (.operand 1)
  | .c n => faultIf (decide (n > 30)) (.operand 1)
  | .lit | .zero => none
  | _ => some (.operand 1)

/-- Any readable lane source (06 R131). -/
def anySrcFault (i w : Nat) : Option EncFault :=
  match laneIx i with
  | .reserved => some (.opcode 1)
  | .rq => some (.operand w)
  | _ => none

/-- A lead base operand: s0 to s63, or the literal (11 R235). -/
def leadBaseFault (x : LeadIx) : Option EncFault :=
  match x with
  | .reserved => some (.opcode 1)
  | .s _ | .lit => none
  | _ => some (.operand 1)

/-- The word-2 and word-0 fields of XM that a page may use (11 R234). -/
structure XmUse where
  lead : Bool
  off : Bool
  xop : Bool
  c : Bool
  shift : Bool
  skew : Bool
  home : Bool
  sizeImm : Bool
  orders : List Nat
deriving DecidableEq, Repr

/-- A form that uses the byte offset and the shift. -/
def xmAddr : XmUse :=
  { lead := false, off := true, xop := false, c := false, shift := true, skew := false, home := false, sizeImm := true,
    orders := [0] }

/-- Faults of the fields a page leaves unused, and of the order code. -/
def xmRest (u : XmUse) (f : XmF) : List (Option EncFault) :=
  [ badValue (!u.orders.contains f.order.toNat),
    zeroField (f.rsvd1 != 0#4), zeroField (f.rsvd2 != 0#4), zeroField (f.imm8.getLsbD 7),
    zeroField (!u.home && f.imm8.getLsbD 6), zeroField (!u.shift && decide (f.imm8.toNat / 16 % 4 ≠ 0)),
    zeroField (!u.skew && f.imm8.getLsbD 3), zeroField (!u.sizeImm && decide (f.imm8.toNat % 8 ≠ 0)),
    zeroField (!u.off && f.off21 != 0#21), zeroField (!u.xop && f.xop != 0#5), zeroField (!u.c && f.c9 != 0#9),
    zeroField (u.lead && f.kmask != 0#3) ]

/-- The literal rule over the fields a memory form may name it in: the narrowest width of those that do. -/
def xmLit (f : XmF) (fields : List (BitVec 9 × Nat)) : Option EncFault :=
  let named := fields.filter (fun p => isLitIx p.1)
  litFault f.lit (!named.isEmpty) ((minBy (fun p => p.2) named).map (fun p => p.2) |>.getD 64)

/-- Width in bits of a data operand of a size, for the literal rule. R61 speaks of a type width, and a memory form has only a
size: data of 8, 16 and 32 bits are taken as 32 bits wide, the width of the register or element that holds them, in both
streams: DESIGN CHOICE (entry 13). -/
def dataWidth (code : Nat) : Nat := if code ≥ 5 then 64 else 32

/-- The size code of an XM form other than LD and ST. -/
def xmSize (f : XmF) : Nat := f.imm8.toNat % 8

/-- LD, XM. -/
def legalLdXm (code : Nat) (f : XmF) : Option EncFault :=
  opcodeFirst ([badValue (!loadSizes.contains code), loadDstFault code f.d9.toNat, baseFault f.a9.toNat,
    anySrcFault f.b9.toNat 2, litDst f.lit f.d9, xmLit f [(f.a9, 64), (f.b9, 32)]] ++ xmRest { xmAddr with sizeImm := false } f)
/-- ST, XM. -/
def legalStXm (code : Nat) (f : XmF) : Option EncFault :=
  opcodeFirst ([badValue (!storeSizes.contains code), dataFault code f.d9.toNat 0, baseFault f.a9.toNat,
    anySrcFault f.b9.toNat 2, xmLit f [(f.d9, dataWidth code), (f.a9, 64), (f.b9, 32)]]
    ++ xmRest { xmAddr with sizeImm := false } f)
/-- LD, BM: every register field names v0 to v127. -/
def legalLdBm (code : Nat) (_ : BmF) : Option EncFault := badValue (!loadSizes.contains code)
/-- ST, BM. -/
def legalStBm (code : Nat) (_ : BmF) : Option EncFault := badValue (!storeSizes.contains code)

/-- LDSP and STSP under the skewed mapping: `.b32` only, no shift and no offset (11 R241). -/
def skewFault (f : XmF) : Option EncFault :=
  badValue (f.imm8.getLsbD 3 && (decide (xmSize f ≠ 4 ∨ f.imm8.toNat / 16 % 4 ≠ 0) || f.off21 != 0#21))
/-- LDSP (11 R241). -/
def legalLdsp (f : XmF) : Option EncFault :=
  opcodeFirst ([badValue (!loadSizes.contains (xmSize f)), skewFault f, loadDstFault (xmSize f) f.d9.toNat,
    anySrcFault f.a9.toNat 1, anySrcFault f.b9.toNat 2, litDst f.lit f.d9, xmLit f [(f.a9, 32), (f.b9, 32)]]
    ++ xmRest { xmAddr with skew := true } f)
/-- STSP (11 R241). -/
def legalStsp (f : XmF) : Option EncFault :=
  opcodeFirst ([badValue (!storeSizes.contains (xmSize f)), skewFault f, dataFault (xmSize f) f.d9.toNat 0,
    anySrcFault f.a9.toNat 1, anySrcFault f.b9.toNat 2, xmLit f [(f.d9, dataWidth (xmSize f)), (f.a9, 32), (f.b9, 32)]]
    ++ xmRest { xmAddr with skew := true } f)
/-- STT (11 R245). -/
def legalStt (f : XmF) : Option EncFault :=
  opcodeFirst ([badValue (!storeSizes.contains (xmSize f)), dataFault (xmSize f) f.d9.toNat 0, baseFault f.a9.toNat,
    anySrcFault f.b9.toNat 2, anySrcFault f.c9.toNat 3,
    xmLit f [(f.d9, dataWidth (xmSize f)), (f.a9, 64), (f.b9, 32), (f.c9, 32)]] ++ xmRest { xmAddr with c := true } f)
/-- PREF (11 R248). -/
def legalPref (f : XmF) : Option EncFault :=
  opcodeFirst ([zeroField (f.d9 != 0#9), baseFault f.a9.toNat, anySrcFault f.b9.toNat 2, badValue (decide (xmSize f ≠ 0)),
    xmLit f [(f.a9, 64), (f.b9, 32)]] ++ xmRest { xmAddr with home := true } f)
/-- The order codes of ATOM: relaxed, acquire and release at five scopes (09 R204). -/
def atomOrders : List Nat := List.range 15
/-- ATOM (11 R243, R244). -/
def legalAtom (f : XmF) : Option EncFault :=
  let op := f.xop.toNat
  let code := xmSize f
  opcodeFirst ([badValue (decide (op > 12)), badValue (!decide (code = 4 ∨ (code = 5 ∧ op ≤ 9))),
    loadDstFault code f.d9.toNat, litDst f.lit f.d9, baseFault f.a9.toNat, dataFault code f.b9.toNat 2,
    (if op = 9 then dataFault code f.c9.toNat 3 else zeroField (f.c9 != 0#9)),
    xmLit f ([(f.a9, 64), (f.b9, dataWidth code)] ++ (if op = 9 then [(f.c9, dataWidth code)] else []))]
    ++ xmRest { xmAddr with shift := false, xop := true, c := true, orders := atomOrders } f)
/-- CADD (11 R247). -/
def legalCadd (f : XmF) : Option EncFault :=
  opcodeFirst ([badValue (decide (xmSize f ≠ 4)), zeroField (f.d9 != 0#9), baseFault f.a9.toNat,
    dataFault 4 f.b9.toNat 2, xmLit f [(f.a9, 64), (f.b9, 32)]] ++ xmRest { xmAddr with shift := false } f)

/-- A lead offset or length operand: any readable one of R59. -/
def leadAnyFault (x : LeadIx) : Option EncFault := leadSrcFault x

/-- LDS, XM (11 R249). -/
def legalLdsXm (f : XmF) : Option EncFault :=
  opcodeFirst ([badValue (decide (xmSize f ≥ 6)), leadDstFault (leadIx9 f.d9.toNat), leadBaseFault (leadIx9 f.a9.toNat),
    leadAnyFault (leadIx9 f.b9.toNat), litDst f.lit f.d9, xmLit f [(f.a9, 64), (f.b9, 64)]]
    ++ xmRest { xmAddr with lead := true } f)
/-- STS, XM (11 R249). -/
def legalStsXm (f : XmF) : Option EncFault :=
  opcodeFirst ([badValue (!decide (xmSize f = 0 ∨ xmSize f = 2 ∨ xmSize f = 4 ∨ xmSize f = 5)),
    leadSrcFault (leadIx9 f.d9.toNat), leadBaseFault (leadIx9 f.a9.toNat), leadAnyFault (leadIx9 f.b9.toNat),
    xmLit f [(f.d9, dataWidth (xmSize f)), (f.a9, 64), (f.b9, 64)]] ++ xmRest { xmAddr with lead := true } f)
/-- The base of a lead BM form: s0 to s63. -/
def legalBmBase (f : BmF) : Option EncFault := leadBaseFault (leadIx7 f.a.toNat false)
/-- LDS, BM: 64 bits (11 R233). -/
def legalLdsBm (f : BmF) : Option EncFault := opcodeFirst [leadDstFault (leadIx7 f.d.toNat false), legalBmBase f]
/-- STS, BM: 64 bits (11 R233). -/
def legalStsBm (f : BmF) : Option EncFault := opcodeFirst [leadSrcFault (leadIx7 f.d.toNat false), legalBmBase f]
/-- LDLQ (11 R250). -/
def legalLdlq (f : XmF) : Option EncFault :=
  opcodeFirst ([badValue (decide (xmSize f ≥ 5)), zeroField (f.d9 != 0#9), leadBaseFault (leadIx9 f.a9.toNat),
    leadAnyFault (leadIx9 f.b9.toNat), xmLit f [(f.a9, 64), (f.b9, 64)]]
    ++ xmRest { xmAddr with lead := true, shift := false } f)
/-- CRANGE (11 R252); the status may be discarded. -/
def legalCrange (f : XmF) : Option EncFault :=
  opcodeFirst ([badValue (decide (f.xop.toNat % 4 = 3 ∨ f.xop.toNat / 4 % 4 = 3)), leadDstFault (leadIx9 f.d9.toNat),
    leadBaseFault (leadIx9 f.a9.toNat),
    (match leadIx9 f.b9.toNat with
     | .reserved => some (.opcode 1)
     | .s _ | .imm _ | .lit => none
     | _ => some (.operand 2)),
    badValue (decide (xmSize f ≠ 0)), litDst f.lit f.d9, xmLit f [(f.a9, 64), (f.b9, 64)]]
    ++ xmRest { xmAddr with lead := true, off := false, xop := true, shift := false } f)
/-- The order codes of the phase forms: a scope, no ordering (09 R204). -/
def phaseOrders : List Nat := [0, 3, 6, 9, 12]
/-- PHREL, PHACQ, PHASE, XM: every field but `order` is zero (11 R254). -/
def legalPhXm (f : XmF) : Option EncFault :=
  opcodeFirst ([faultIf f.lit.isSome (.opcode 4), zeroField (f.d9 != 0#9), zeroField (f.a9 != 0#9), zeroField (f.b9 != 0#9)]
    ++ xmRest { xmAddr with lead := true, off := false, shift := false, sizeImm := false, orders := phaseOrders } f)
/-- PHREL, PHACQ, PHASE, base form. -/
def legalPhBs (f : BaF) : Option EncFault := legalBare f

/-- The scope of an order code: 0 `.wave`, 1 `.block`, 2 `.die`, 3 `.dev`, 4 `.sys` (03 R72). -/
def scopeOf (order : Nat) : Nat := order / 3
/-- The scope of a phase form: part 0 means `.dev` (09 R204). -/
def phaseScope (order : Nat) : Nat := if order / 3 = 0 then 3 else order / 3

end Sys2Proof.Machine
end

