-- ==== Sys2Proof/Machine/Xlate.lean ====
section
/-! DEFINITION. The physical address space and translation (15 R339 to R347), the record windows (14 R323) and fetching
an instruction (03 R57; 07 R171; 19 R422). -/
namespace Sys2Proof.Machine

/-! ## The physical address space (R339) -/

/-- An address inside a range. -/
def inRange (a lo n : Nat) : Bool := decide (lo ≤ a ∧ a < lo + n)

/-- Stacked DRAM of a die: 24 GiB. -/
def stackedBase (die : Nat) : Nat := if die = 0 then 0 else 0x800000000
/-- Its size. -/
def stackedSize : Nat := 0x600000000
/-- Off-package DRAM of a die. -/
def offBase (die : Nat) : Nat := if die = 0 then 0x1000000000 else 0x1800000000
/-- At most 32 GiB of it, as much as is populated. -/
def offSize (die : Nat) : Nat := min 0x800000000 (Config.offPackage die)
/-- Host memory over CXL.cache. -/
def isHostPa (pa : Nat) : Bool := inRange pa 0x800000000000 0x800000000000
/-- The firmware's reserved region: the top 64 MiB of each die's stacked DRAM. -/
def firmwareReserved (pa : Nat) : Bool :=
  inRange pa (stackedBase 0 + stackedSize - 0x4000000) 0x4000000
  || inRange pa (stackedBase 1 + stackedSize - 0x4000000) 0x4000000
/-- Device memory: every backed address below 0x0020_0000_0000. -/
def isDevicePa (pa : Nat) : Bool :=
  inRange pa (stackedBase 0) stackedSize || inRange pa (stackedBase 1) stackedSize
  || inRange pa (offBase 0) (offSize 0) || inRange pa (offBase 1) (offSize 1)
/-- A backed address. -/
def backed (pa : Nat) : Bool := isDevicePa pa || isHostPa pa

/-- The die of R339 that homes an address at reset; host memory is homed on die 0. -/
def resetHome (pa : Nat) : Nat :=
  if inRange pa (stackedBase 1) stackedSize || inRange pa (offBase 1) 0x800000000 then 1 else 0

/-- The home die of an address in a die's home-lookup table (R340): the table of a die lists the pages whose home is not
the die of R339. -/
def State.homeOf (s : State) (die pa : Nat) : Nat :=
  let h := resetHome pa
  if isHostPa pa then 0 else if (s.die die).homes.contains (pa / 16384) then 1 - h else h

/-! ## Walks (R342 to R346) -/

/-- Permission bits of an entry as kept in a TLB. -/
def permRD : Nat := 1
/-- write -/
def permWR : Nat := 2
/-- atomic and commutative -/
def permAT : Nat := 4
/-- code fetch -/
def permEX : Nat := 8

/-- What a walk finds. -/
inductive Walk where
  | leaf (e : TlbEntry)
  | miss
  | prot (level : Nat)
deriving DecidableEq, Repr

/-- PFN of an entry, as an address. -/
def pteAddr (e : Nat) : Nat := bits e 14 34 * 16384
/-- A nonzero reserved bit, or a PFN that no entry may hold. -/
def pteBad (e : Nat) : Bool :=
  bits e 6 8 != 0 || bits e 48 16 != 0 || !backed (pteAddr e) || firmwareReserved (pteAddr e)

/-- A walk from a level-3 table (R343, R346). -/
def walk (mem : List Host.Cell) (root va : Nat) : Walk :=
  let e3 := memVal mem (root + 8 * bits va 36 11) 8
  if !bit e3 0 then .miss
  else if pteBad e3 || bit e3 1 then .prot 3
  else
    let e2 := memVal mem (pteAddr e3 + 8 * bits va 25 11) 8
    if !bit e2 0 then .miss
    else if pteBad e2 then .prot 2
    else if bit e2 1 then
      if bits e2 14 11 ≠ 0 then .prot 2
      else .leaf { va := va / 2 ^ 25 * 2 ^ 25, lg := 25, pa := pteAddr e2, perm := bits e2 2 4 }
    else
      let e1 := memVal mem (pteAddr e2 + 8 * bits va 14 11) 8
      if !bit e1 0 then .miss
      else if pteBad e1 || !bit e1 1 then .prot 1
      else .leaf { va := va / 16384 * 16384, lg := 14, pa := pteAddr e1, perm := bits e1 2 4 }

/-- The level a leaf stands at. -/
def TlbEntry.level (e : TlbEntry) : Nat := if e.lg = 25 then 2 else 1
/-- A leaf covers an address. -/
def TlbEntry.covers (e : TlbEntry) (va : Nat) : Bool := inRange va e.va (2 ^ e.lg)
/-- The physical address of an address that a leaf covers. -/
def TlbEntry.phys (e : TlbEntry) (va : Nat) : Nat := e.pa + (va - e.va)

/-- A core's translation of an address: its TLB's leaf, or that of a walk (R347). -/
def State.leafOf (s : State) (core va : Nat) : Walk :=
  match (s.core core).tlb.find? (fun e => e.covers va) with
  | some e => .leaf e
  | none => walk s.mem (s.die (dieOf core)).ptroot va

/-- A leaf kept in a core's TLB. -/
def State.tlbFill (s : State) (core va : Nat) : State :=
  match s.leafOf core va with
  | .leaf e => s.modCore core (fun c => if c.tlb.contains e then c else { c with tlb := c.tlb ++ [e] })
  | _ => s

/-- Why an access does not translate. -/
inductive XlFail where
  | miss
  /-- the level of the failing entry -/
  | prot (level : Nat)
deriving DecidableEq, Repr

/-- The physical address of an access that needs some permission bits (R345, R346). -/
def State.xlate (s : State) (core va need : Nat) : Except XlFail Nat :=
  match s.leafOf core va with
  | .miss => .error .miss
  | .prot l => .error (.prot l)
  | .leaf e => if e.perm &&& need = need then .ok (e.phys va) else .error (.prot e.level)

/-! ## Record windows (14 R323) -/

/-- WIN0; WIN1 follows 16 KiB above. -/
def win0 : Nat := 0x7FFFFFFF8000
/-- An address in a record window. -/
def inWindow (va : Nat) : Bool := inRange va win0 0x8000
/-- The two window pages of a slot lie one after the other. -/
def Wave.windowPa (w : Wave) (va : Nat) : Nat := w.winBase + (va - win0)

/-! ## Fetch -/

/-- The section of a stream (07 R171). -/
def Wave.inSection (w : Wave) (st : Stream) (a : Nat) : Bool :=
  match st with
  | .lead => inRange a w.k.leadBase w.k.leadSize
  | .lane => inRange a w.k.laneBase w.k.laneSize

/-- The code region page of a loaded object that holds an address: the object's index and the page. -/
def State.codePage (s : State) (va : Nat) : Option (Nat × Nat) :=
  let root := (s.die (dieOf s.w.core)).ptroot
  match s.codes.findIdx? (fun o => o.ptroot == root && inRange va o.base o.size) with
  | some i =>
    let o := s.codes.getD i { id := 0, base := 0, ptroot := 0, size := 0, kernels := [], chk := [], digests := [], rev := false }
    some (i, (va - o.base) / 16384)
  | none => none

/-- The check state of a code page (19 R421). -/
def State.pageChk (s : State) (va : Nat) : Nat :=
  match s.codePage va with
  | some (i, p) =>
    match s.codes[i]? with
    | some o => o.chk.getD p 1
    | none => 1
  | none => 1

/-- Lanes a fetch fault reports: `exec` for the lane stream (07 R184), none for the lead stream. -/
def State.fetchLanes (s : State) : Nat := match s.st with | .lane => s.w.exec | .lead => 0

/-- One fetched word (17 R383 priorities 1 and 2; 19 R422): a failed page, a missing or forbidden page, an unchecked page
that holds the stream. An address of 2^47 or more is walked by its low 47 bits: DESIGN CHOICE (entry 44). -/
def State.fetchWord (s : State) (va : Nat) : R Word :=
  let chk := s.pageChk va
  if chk = 2 then .error (.trap causeIntegrity s.fetchLanes 0 0)
  else
    match s.xlate s.w.core va permEX with
    | .error .miss =>
      if s.w.refused = some (va / 16384) then .error (.trap causeProt s.fetchLanes va ((1 <<< 11) + (1 <<< 17)))
      else .error (.miss va 3 s.fetchLanes)
    | .error (.prot l) => .error (.trap causeProt s.fetchLanes va ((1 <<< 11) + (l <<< 14)))
    | .ok pa => if chk = 0 then .error .stall else .ok (BitVec.ofNat 32 (memVal s.mem pa 4))

/-- A word of the management core's own memory (20 R439): what its stores have written, else its ROM and tables. -/
def State.mgmtByte (s : State) (a : Nat) : Byte :=
  match s.mgmtMem.find? (fun c => c.1 == a) with
  | some c => c.2
  | none => Config.mgmtRom a
/-- A little-endian word of it. -/
def State.mgmtWord (s : State) (a : Nat) : Word :=
  BitVec.ofNat 32 (leValue ((List.range 4).map (fun i => s.mgmtByte (a + i))))

/-- The word at an instruction address of the issuing wave. -/
def State.codeWord (s : State) (va : Nat) : R Word :=
  if s.w.mgmt then .ok (s.mgmtWord va) else s.fetchWord va

/-- Words from an address, each at its own address. -/
def State.codeWords (s : State) (va n : Nat) : R (List Word) :=
  match n with
  | 0 => .ok []
  | n + 1 =>
    match s.codeWord va with
    | .error x => .error x
    | .ok w =>
      match s.codeWords (va + 4) n with
      | .error x => .error x
      | .ok ws => .ok (w :: ws)

/-- FETCHING THE NEXT INSTRUCTION of the issuing stream: its first word gives the length; a word outside the section
raises ILLEGAL_OPCODE at the first word's PC (03 R57, 07 R171). -/
def State.fetch (s : State) : R (List Word) :=
  let pc := s.w.pcOf s.st
  match s.codeWord pc with
  | .error x => .error x
  | .ok w0 =>
    let n := wordsOfLen (headOf w0).len
    match s.codeWords (pc + 4) (n - 1) with
    | .error x => .error x
    | .ok ws =>
      if !s.w.mgmt && !(List.range n).all (fun i => s.w.inSection s.st (pc + 4 * i)) then
        .error (.trap causeOpcode s.fetchLanes 0 (5 <<< 11))
      else .ok (w0 :: ws)

/-- The word that describes an instruction whose fetch stopped, 0 where its first word could not be fetched. -/
def State.fetchHead (s : State) : Word :=
  match s.codeWord (s.w.pcOf s.st) with
  | .ok w => w
  | .error _ => 0#32

/-- The pages of a fetched instruction stay translated in the TLB. -/
def State.fetched (s : State) : State :=
  if s.w.mgmt then s else s.tlbFill s.w.core (s.w.pcOf s.st)

/-- A word pattern that is no assigned form raises ILLEGAL_OPCODE (03 R78, R81). -/
def State.undecoded (s : State) (w0 : Word) : State :=
  s.stopWith w0 (.trap causeOpcode s.fetchLanes 0 0)

end Sys2Proof.Machine
end

