-- ==== Sys2Proof/Machine/Coherence.lean ====
section
/-! DEFINITION. What carries the memory model out: messages and their order, line states of the L1s and of the homes,
stores with their updates and acknowledgements, acquires, and folds (09; 10 R214 to R225, R229). Entry 17 states the
choices among orders that the manual leaves free. -/
namespace Sys2Proof.Machine

/-! ## Messages and their order (10 R218) -/

/-- A message sent on behalf of a wave, which goes no further before the operations `after` have performed at a scope. -/
def State.sendAfter (s : State) (core slot : Nat) (after : List Nat) (scope : Nat) (m : Msg) : State :=
  { s with
    nextId := s.nextId + 1
    net := s.net ++ [{ id := s.nextId, core := core, slot := slot, after := after, scope := scope, fwd := false,
                       sent := s.timen, msg := m }] }

/-- A message that waits for nothing. -/
def State.send (s : State) (m : Msg) : State := s.sendAfter 192 0 [] 0 m

/-- The home slice of an address within its home die (10 R214). -/
def homeSlice (pa : Nat) : Nat :=
  (bits pa 7 10 ^^^ bits pa 17 10 ^^^ bits pa 27 10 ^^^ bits pa 37 10 ^^^ b2n (bit pa 47)) % 12

/-- A request for a line from a core. -/
def Msg.request (m : Msg) : Option (Nat × Nat) :=
  match m with
  | .load r _ _ _ | .store r _ _ | .atom r _ => some (r.core, lineOf r.pa)
  | _ => none

/-- Any other message about a line from a core to its home. -/
def Msg.reply (m : Msg) : Option (Nat × Nat) :=
  match m with
  | .dereg c l | .holder c l | .evicted c l _ _ | .pushReply c l _ _ | .noticeReply c l => some (c, l)
  | _ => none

/-- A message about a line from its home to a core. -/
def Msg.coreward (m : Msg) : Option (Nat × Nat) :=
  match m with
  | .fill c l _ _ | .update c l _ _ _ | .push c l _ _ | .notice c l | .probe c l | .ret c _ _ l _ _ _ => some (c, l)
  | _ => none

/-- Whether an earlier message keeps a later one back: requests of a core for one line keep their order and stay behind
its other messages about the line, and what one home sends to one core arrives in the order sent. -/
def Msg.blocks (e m : Msg) : Bool :=
  match m.request with
  | some k => decide (e.request = some k ∨ e.reply = some k)
  | none =>
    match m.reply with
    | some k => decide (e.reply = some k)
    | none =>
      match m.coreward with
      | some (c, l) =>
        match e.coreward with
        | some (c', l') => c == c' && homeSlice l == homeSlice l'
        | none => false
      | none => false

/-- A signal or a record that a wave sent. -/
def Msg.posted (m : Msg) : Bool := match m with | .signal _ _ _ | .record _ => true | _ => false

/-- Signals and records of one wave keep their order, and so do the releases of one join arbiter (13 R289, R303). -/
def NetMsg.behind (n e : NetMsg) : Bool :=
  decide ((n.core < 192 ∨ n.slot ≠ 0) ∧ e.core = n.core ∧ e.slot = n.slot) && n.msg.posted && e.msg.posted

/-- An operation has performed at a scope (09 R202); `spans` says that the wave's block spans cores. -/
def Op.performedAt (o : Op) (scope : Nat) (spans : Bool) : Bool :=
  let acks :=
    if scope ≥ 3 then decide (o.leftAll = 0)
    else if scope = 2 ∨ o.pushes ∨ (scope = 1 ∧ spans) then decide (o.leftDie = 0)
    else true
  match o.cls with
  | .laneSt | .leadSt => acks
  | _ => o.done && acks

/-- The block of a wave spans cores (02 R17). -/
def State.spans (s : State) (k : BKey) : Bool :=
  match s.block? k with
  | some b => decide (b.k > 1)
  | none => false

/-- A write in progress at its home has performed at a scope, seen from its writer's die (10 R218). -/
def Ack.performedAt (a : Ack) (scope : Nat) : Bool := decide (scope < 2) || (decide (scope = 2) && a.sentDie)

/-- An operation or a write in progress, by its number, has performed at a scope; one that is over has performed at all. -/
def State.performed (s : State) (scope id : Nat) : Bool :=
  s.allWaves.all (fun w =>
    match w.ops.find? (fun o => o.id == id) with
    | none => true
    | some o => o.performedAt scope (s.spans w.key))
  && (match s.acks.find? (fun a => a.id == id) with
      | none => true
      | some a => a.performedAt scope)

/-- The release of a message has completed (09 R203). -/
def State.releaseDone (s : State) (_core _slot : Nat) (after : List Nat) (scope : Nat) : Bool := after.all (s.performed scope)

/-- A memory operation: what a boundary orders (09 R201). -/
def Op.isMem (o : Op) : Bool := match o.cls with | .laneLd | .laneSt | .leadLd | .leadSt => true | _ => false

/-- The writes of the other waves of a wave's die, and of the jobs of that die, that have not performed everywhere: a wave of
the die may have observed them at a scope narrower than that of its next release (09 R206, R207). -/
def State.dieWrites (s : State) : List Nat :=
  let die := dieOf s.w.core
  let waves := s.waves.filter (fun w => dieOf w.core == die && !w.mgmt)
  waves.flatMap (fun w => (w.ops.filter (fun o => o.isMem && decide (o.leftAll ≠ 0))).map (fun o => o.id))
    ++ (s.acks.filter (fun a => a.die == die && (match a.tell with | .job _ _ => true | _ => false))).map (fun a => a.id)

/-- What a release of the issuing stream covers: the memory operations that it has issued, those of its partner that
are counted out while a write of theirs is not yet performed everywhere, and the writes that it may have observed
(09 R203, R207; entry 18). -/
def State.memOps (s : State) : List Nat :=
  (s.w.ops.filter (fun o => (decide (o.cls.stream = s.st) || o.done) && o.isMem)).map (fun o => o.id) ++ s.dieWrites

/-- The message at a place in the net, if its turn has come. -/
def State.arrives (s : State) (i : Nat) : Option NetMsg :=
  match s.net[i]? with
  | none => none
  | some n =>
    if (s.net.take i).any (fun e => e.msg.blocks n.msg || n.behind e) then none
    else if s.releaseDone n.core n.slot n.after n.scope then some n
    else none

/-- The net without the message at a place. -/
def State.taken (s : State) (i : Nat) : State := { s with net := dropAt s.net i }

/-! ## Lines of an L1 (10 R216, R220) -/

/-- A line that an L1 holds in state S, P or C. -/
def Core.line? (c : Core) (line : Nat) : Option L1Line := c.l1.find? (fun x => x.line == line)
/-- A line of an L1 changed. -/
def Core.modLine (c : Core) (line : Nat) (f : L1Line → L1Line) : Core :=
  { c with l1 := c.l1.map (fun (x : L1Line) => if x.line = line then f x else x) }
/-- A line goes to I: its pending entries are discarded, and a P line leaves INJCNT. -/
def Core.dropLine (c : Core) (line : Nat) : Core :=
  let p := c.l1.any (fun x => x.line == line && decide (x.st = .p))
  { c with
    l1 := c.l1.filter (fun x => x.line != line), pend := c.pend.filter (fun u => u.line != line),
    injcnt := if p then c.injcnt - 1 else c.injcnt }

/-- Bytes written over the bytes of a line. -/
def overBytes (data : List Byte) (bs : List (Nat × Byte)) : List Byte :=
  match bs with
  | [] => data
  | (i, b) :: rest => overBytes (setAt data i b) rest

/-- Words of a line. -/
def lineWords (data : List Byte) : List Word :=
  (List.range 32).map (fun k => BitVec.ofNat 32 (leValue ((data.drop (4 * k)).take 4)))

/-- A line of a core is on its way in some message. -/
def State.inFlight (s : State) (core line : Nat) : Bool :=
  s.net.any (fun n => decide (n.msg.request = some (core, line) ∨ n.msg.reply = some (core, line)
    ∨ n.msg.coreward = some (core, line)))

/-- Lines an L1 holds: 256 KiB (01 R12). -/
def l1Lines : Nat := 2048

/-- The line of an L1 that gives way: S lines before P lines before C lines (10 R220; entry 19). -/
def State.victim (s : State) (core : Nat) : Option L1Line :=
  let free (st : LineSt) : Option L1Line :=
    (s.core core).l1.find? (fun x => decide (x.st = st) && !s.inFlight core x.line)
  ((free .s).orElse fun _ => free .p).orElse fun _ => free .c

/-- EVICTION of a line (10 R220): a copy is deregistered, a partial goes to its home. -/
def State.evict (s : State) (core : Nat) (x : L1Line) : State :=
  let s := s.modCore core (fun c => c.dropLine x.line)
  match x.st with
  | .s | .p => s.send (.dereg core x.line)
  | .c => s.send (.evicted core x.line (lineWords x.data) x.touched)

/-- Room for one more line in an L1, where some line can give way. -/
def State.makeRoom (s : State) (core : Nat) : Option State :=
  if (s.core core).l1.length < l1Lines then some s
  else (s.victim core).map (fun x => s.evict core x)

/-- The writer of an acknowledged write is a wave of a core. -/
def State.ackOf (s : State) (id core : Nat) : Bool :=
  s.acks.any (fun a => a.id == id && (match a.tell with | .wave c _ _ => c == core | _ => false))

/-- Bytes of a line that a core's own waves have written and that its copy has not taken yet (09 R200, R207). -/
def State.ownBytes (s : State) (core line : Nat) : List (Nat × Byte) :=
  let upd (n : NetMsg) : List (Nat × Byte) :=
    match n.msg with
    | .update c l d a _ => if c = core ∧ l = line ∧ s.ackOf a core then d else []
    | _ => []
  let sto (n : NetMsg) : List (Nat × Byte) :=
    match n.msg with
    | .store r d _ => if r.core = core ∧ lineOf r.pa = line then d else []
    | _ => []
  s.net.flatMap upd ++ s.net.flatMap sto

/-- A core's own outstanding writes laid over its copy of a line. -/
def State.overlay (s : State) (core line : Nat) : State :=
  let bs := s.ownBytes core line
  s.modCore core (fun c => c.modLine line (fun x => { x with data := overBytes x.data bs }))

/-- Copies that an acquire discards (R219 item 1). -/
def State.dropMarked (s : State) (core : Nat) (ls : List L1Line) : State :=
  match ls with
  | [] => s
  | x :: rest => ((s.modCore core (fun c => c.dropLine x.line)).send (.dereg core x.line)).dropMarked core rest

/-- Pending entries written into their lines, in array order (R219 item 2). -/
def Core.applyPend (c : Core) (us : List PendUpd) : Core :=
  match us with
  | [] => { c with pend := [] }
  | u :: rest => (c.modLine u.line (fun x => { x with data := overBytes x.data u.bytes })).applyPend rest

/-- Own outstanding writes laid over every line of a core. -/
def State.overlayAll (s : State) (core : Nat) (ls : List L1Line) : State :=
  match ls with
  | [] => s
  | x :: rest => (if x.st = .c then s else s.overlay core x.line).overlayAll core rest

/-- AN ACQUIRE applied on a core (10 R219). -/
def State.acquire (s : State) (core : Nat) : State :=
  let s := s.dropMarked core ((s.core core).l1.filter (fun x => x.drop && decide (x.st ≠ .c)))
  let s := s.modCore core (fun c => c.applyPend c.pend)
  let s := s.modCore core (fun c =>
    { c with
      injcnt := 0
      l1 := c.l1.map (fun (x : L1Line) => { x with st := if x.st = .p then .s else x.st, drop := false }) })
  s.overlayAll core (s.core core).l1

/-- Acquires on the cores of a span (09 R203). -/
def State.acquireSpan (s : State) (cs : List Nat) : State :=
  match cs with
  | [] => s
  | c :: rest => (s.acquire c).acquireSpan rest

/-! ## Homes (10 R217, R218, R221, R222) -/

/-- A range holds a physical line: one of its bytes lies in the page that backs a page of the range (15 R359). -/
def CRange.spansLine (r : CRange) (line : Nat) : Bool :=
  r.valid &&
  (List.range r.pages.length).any (fun k =>
    r.pages.getD k 0 == line / 16384 * 16384
      && inRange ((r.base / 16384 + k) * 16384 + line % 16384) r.base r.len)

/-- A range whose lines are in state C holds a physical line. -/
def CRange.holdsLine (r : CRange) (line : Nat) : Bool := r.active && r.spansLine line

/-- The range entries of both dies, with die and index. -/
def State.ranges (s : State) : List (Nat × Nat × CRange) :=
  [0, 1].flatMap (fun d => ((s.die d).ranges.zipIdx).map (fun p => (d, p.2, p.1)))

/-- The range that a line in state C belongs to. -/
def State.rangeOfLine (s : State) (line : Nat) : Option CRange :=
  ((s.ranges.find? (fun p => p.2.2.holdsLine line))).map (fun p => p.2.2)

/-- The entries of a migrating page are on their way to the new home (10 R227). -/
def State.moving (s : State) (page : Nat) : Bool :=
  s.net.any (fun n => match n.msg with | .migrate p _ _ => p == page | _ => false)

/-- Requests forwarded to the new home of a page, by their numbers, in the order in which they reached the old home (10
R227). -/
def State.forwards (s : State) (page : Nat) : List Nat :=
  s.net.filterMap (fun n =>
    match n.msg with
    | .load r _ _ _ | .store r _ _ | .atom r _ => if n.fwd && lineOf r.pa / 16384 == page then some n.id else none
    | _ => none)

/-- The state of a line at its home (10 R217). -/
def State.lineState (s : State) (line : Nat) : DirSt :=
  if s.moving (line / 16384) then .m
  else if (s.rangeOfLine line).isSome then .c
  else if (s.dirOf line).sharers = [] then .u
  else .s

/-- An engine's, a sensor's or the host's access to a line waits behind what it may not pass: the entries of a migrating page,
and the requests forwarded to its new home (10 R227). -/
def State.heldBack (s : State) (line : Nat) : Bool :=
  decide (s.lineState line = .m) || s.forwards (line / 16384) != []

/-- The home die of a line: both dies' tables agree but while a migration updates them (10 R227). -/
def State.home (s : State) (line : Nat) : Nat := s.homeOf (resetHome line) line

/-- A sharer bit set. -/
def State.share (s : State) (core line : Nat) : State :=
  s.modDir line (fun d => { d with sharers := insertAsc core d.sharers })

/-- A sharer bit cleared, unless a copy is held or on its way again. -/
def State.unshare (s : State) (core line : Nat) : State :=
  let again := s.net.any (fun n =>
    match n.msg with
    | .fill c l _ _ | .push c l _ _ => c == core && l == line
    | _ => false)
  let holds := (s.core core).l1.any (fun x => x.line == line && decide (x.st ≠ .c))
  if again || holds then s else s.modDir line (fun d => { d with sharers := d.sharers.filter (fun c => c != core) })

/-- What an acknowledgement in progress may send now: ACK_DIE, then ACK_ALL, after which it is over. -/
def State.ackStep (s : State) (id : Nat) : State :=
  match s.acks.find? (fun a => a.id == id) with
  | none => s
  | some a =>
    let die := decide (a.pushes = []) && a.wait.all (fun c => dieOf c != a.die)
    let all := decide (a.pushes = [] ∧ a.wait = [])
    let tell (s : State) (all : Bool) : State :=
      match a.tell with
      | .host | .none => s
      | t => s.send (.ack t all)
    let s := if die && !a.sentDie then tell s false else s
    if all then { tell s true with acks := s.acks.filter (fun x => x.id != id) }
    else { s with acks := s.acks.map (fun (x : Ack) => if x.id = id then { x with sentDie := x.sentDie || die } else x) }

/-- A sharer has recorded an update. -/
def State.recorded (s : State) (id core : Nat) : State :=
  State.ackStep
    { s with acks := s.acks.map (fun (x : Ack) =>
        if x.id = id then { x with wait := x.wait.filter (fun c => c != core) } else x) } id

/-- A destination has answered a push. -/
def State.answered (s : State) (id core : Nat) : State :=
  State.ackStep
    { s with acks := s.acks.map (fun (x : Ack) =>
        if x.id = id then { x with pushes := x.pushes.filter (fun c => c != core) } else x) } id

/-- Updates to the sharers of a line. -/
def State.sendUpdates (s : State) (line id : Nat) (data : List (Nat × Byte)) (now : Option Nat) (cs : List Nat) : State :=
  match cs with
  | [] => s
  | c :: rest => (s.send (.update c line data id (decide (now = some c)))).sendUpdates line id data now rest

/-- Pushes of a line as it stands, each destination becoming a sharer (R222). -/
def State.sendPushes (s : State) (line id : Nat) (cs : List Nat) : State :=
  match cs with
  | [] => s
  | c :: rest => ((s.share c line).send (.push c line (memBytes s.mem line 128) id)).sendPushes line id rest

/-- A home never pushes this line (R221, R229, R230): one of host memory, poisoned, or in state C or M. -/
def State.neverPushed (s : State) (line : Nat) : Bool :=
  isHostPa line || s.poisoned line || decide (s.lineState line = .c) || decide (s.lineState line = .m)

/-- The next push of a handoff (R222, R223): a line that its home never pushes is skipped. -/
def State.nextPush (s : State) (id core : Nat) (lines : List Nat) : State :=
  match lines with
  | [] => s
  | l :: rest =>
    if s.neverPushed l then s.nextPush id core rest
    else { s.sendPushes l id [core] with handoffs := s.handoffs ++ [{ id := id, core := core, rest := rest }] }

/-- The reply to a push that belongs to a handoff (R223): its next line follows, unless the quota refused this one. -/
def State.handoffReply (s : State) (id : Nat) (ok : Bool) : State :=
  match s.handoffs.find? (fun h => h.id == id) with
  | none => s
  | some h =>
    let s : State := { s with handoffs := s.handoffs.filter (fun x => x.id != id) }
    if ok then s.nextPush id h.core h.rest else s

/-- Bytes written at their offsets in a line. -/
def State.putBytes (s : State) (line : Nat) (bs : List (Nat × Byte)) : State :=
  match bs with
  | [] => s
  | (o, b) :: rest => ({ s with mem := mapSet memDefault s.mem (line + o) b } : State).putBytes line rest

/-- The writes that count for migration (R226): a wave's, and an engine's, among them the sensor ingest engines (R215). -/
def AckTo.counts (t : AckTo) : Bool := match t with | .wave _ _ _ | .job _ _ | .sensor _ => true | .host | .none => false

/-- A WRITE TAKEN AT ITS HOME (R218): the bytes are written, every sharer is sent the update, then the line is pushed to
`pushes`; a write of all 128 bytes clears POISON (R229); a wave's or an engine's write from the other die will count for migration (R226).
`now` names the core whose own ATOM this is. -/
def State.homeWrite (s : State) (die line : Nat) (data : List (Nat × Byte)) (tell : AckTo) (now : Option Nat)
    (pushes : List Nat) : State :=
  let id := s.nextId
  let s : State := { s.putBytes line data with nextId := s.nextId + 1 }
  let s : State := if (List.range 128).all (fun o => data.any (fun d => d.1 == o))
    then s.modDir line (fun d => { d with poison := false }) else s
  let home := s.homeOf die line
  let s : State := if isDevicePa line && home != die && tell.counts then s.modDie home (fun d => { d with rwPend := d.rwPend ++ [line / 16384] }) else s
  let sharers := (s.dirOf line).sharers
  let pushes := if s.neverPushed line then [] else pushes.filter (fun c => !(s.core c).dead)
  let s : State := { s with acks := s.acks ++ [{ id := id, tell := tell, die := die, wait := sharers, pushes := pushes, sentDie := false }] }
  ((s.sendUpdates line id data now sharers).sendPushes line id pushes).ackStep id

/-! ## Folds (10 R224, R225; 09 R209) -/

/-- The operation of a range on two words (R224). -/
def combineWord (fmt op : Nat) (c : NanCtx) (x y : Nat) : Nat :=
  match fmt with
  | 0 => if op = 0 then fAdd .f32 .rne false 0 c x y else fMinMax .f32 (decide (op = 2)) x y
  | _ =>
    let ty := if fmt = 1 then 5 else 6
    if op = 0 then (x + y) % 2 ^ 32
    else if op = 1 then (if intOf ty x ≤ intOf ty y then x else y)
    else (if intOf ty x ≥ intOf ty y then x else y)

/-- The touched words of one partial combined into another, word by word; a word not yet touched takes the other's. -/
def Partial.merge (fmt op : Nat) (p q : Partial) : Partial :=
  let word (k : Nat) : Word :=
    let x := p.words.getD k 0#32
    let y := q.words.getD k 0#32
    if !bit q.touched k then x
    else if !bit p.touched k then y
    else BitVec.ofNat 32 (combineWord fmt op nanOutside x.toNat y.toNat)
  { agent := p.agent, words := (List.range 32).map word, touched := p.touched ||| q.touched }

/-- A partial kept at a home: at most one for each agent. -/
def keepPartial (fmt op : Nat) (p : Partial) (l : List Partial) : List Partial :=
  match l with
  | [] => [p]
  | x :: rest => if x.agent = p.agent then x.merge fmt op p :: rest else x :: keepPartial fmt op p rest

/-- The words of a line after its partials are combined in order (R225). -/
def foldWords (fmt op : Nat) (ws : List Word) (ps : List Partial) : List Word :=
  match ps with
  | [] => ws
  | p :: rest =>
    foldWords fmt op ((List.range 32).map (fun k =>
      let x := ws.getD k 0#32
      if bit p.touched k then BitVec.ofNat 32 (combineWord fmt op nanOutside x.toNat (p.words.getD k 0#32).toNat) else x)) rest

/-- Bytes of the words that some partial touched, by their offsets. -/
def foldBytes (ws : List Word) (touched : Nat) : List (Nat × Byte) :=
  ((List.range 32).filter (fun k => bit touched k)).flatMap (fun k =>
    (leBytes (ws.getD k 0#32).toNat 4).zipIdx.map (fun p => (4 * k + p.2, p.1)))

/-- THE WRITE OF A FOLD (R225): the partials kept at the home, in ascending agent order, the host's last, are combined
into the line in one write, and cleared. A poisoned line that it reads stays poisoned (R229). -/
def State.foldWrite (s : State) (line : Nat) : State :=
  match s.rangeOfLine line with
  | none => s
  | some r =>
    let ps := sortBy (fun p => p.agent) (s.dirOf line).parts
    let ws := foldWords r.fmt r.op (lineWords (memBytes s.mem line 128)) ps
    let t := ps.foldl (fun m p => m ||| p.touched) 0
    let bad := s.poisoned line || (match (s.dirOf line).fold with | some f => f.poison | none => false)
    let s := s.modDir line (fun d => { d with parts := [], fold := none })
    (if t = 0 then s else s.homeWrite (s.home line) line (foldBytes ws t) .none none []).modDir line (fun d => { d with poison := bad })

/-- A partial joins those kept at the home of its line. -/
def State.addPartial (s : State) (line : Nat) (p : Partial) : State :=
  match s.rangeOfLine line with
  | none => s
  | some r => s.modDir line (fun d => { d with parts := keepPartial r.fmt r.op p d.parts })

/-- A partial that an L1 gives up to a probe: its touched words, and the line goes to I (R220). -/
def State.giveUp (s : State) (core line : Nat) : State :=
  match (s.core core).line? line with
  | some x =>
    if x.st = .c then
      let s := s.modCore core (fun c => c.dropLine line)
      s.modDir line (fun d => { d with parts := d.parts ++ [{ agent := core, words := lineWords x.data, touched := x.touched }] })
    else s
  | none => s

/-- Partials of a list of cores given up. -/
def State.giveUpAll (s : State) (line : Nat) (cs : List Nat) : State :=
  match cs with
  | [] => s
  | c :: rest => (s.giveUp c line).giveUpAll line rest

/-- Nothing that a fold of the line must include is still on its way to the home. -/
def State.foldReady (s : State) (line : Nat) : Bool :=
  !s.net.any (fun n =>
    match n.msg with
    | .holder _ l | .evicted _ l _ _ => l == line
    | _ => false)

/-- A line of a range has nothing to fold. -/
def DirEntry.clean (d : DirEntry) : Bool := decide (d.holders = [] ∧ d.parts = [] ∧ d.fold = none)

/-- An engine's or the host's read of a line waits: a fold of it is under way, or something that its own fold must include is
still on its way to the home (R225). -/
def State.foldBusy (s : State) (line : Nat) : Bool :=
  decide (s.lineState line = .c) && ((s.dirOf line).fold.isSome || !s.foldReady line)

/-- A fold whose probes reach every core at once: an engine's or the host's read (R221). -/
def State.foldNow (s : State) (line : Nat) : State :=
  let s := s.giveUpAll line (s.dirOf line).holders
  (s.modDir line (fun d => { d with holders := [] })).foldWrite line

/-- Probes to the holders of a line. -/
def State.sendProbes (s : State) (line : Nat) (cs : List Nat) : State :=
  match cs with
  | [] => s
  | c :: rest => (s.send (.probe c line)).sendProbes line rest

/-- A fold begun (R225 item 1); `loads` are answered by its write. -/
def State.foldStart (s : State) (line : Nat) (loads : List Nat) : State :=
  let cs := (s.dirOf line).holders.filter (fun c => c != 192)
  (s.modDir line (fun d => { d with holders := [], fold := some { cores := cs, loads := loads, poison := false } })).sendProbes line cs

end Sys2Proof.Machine
end

