-- ==== Sys2Proof/Machine/Access.lean ====
section
/-! DEFINITION. What the memory instructions share at issue: effective addresses, the checks of 11 R235 and R236, and
posting loads, stores and atomics (09 R202; 10 R218, R220, R223; 11 R237, R238). -/
namespace Sys2Proof.Machine

/-! ## Checks (11 R235, R236, R239; 15 R345, R346) -/

/-- Kinds of access: 0 read, 1 write, 2 atomic or commutative (20 R437). -/
def permOf (kind : Nat) : Nat := if kind = 0 then permRD else if kind = 1 then permWR else permRD + permWR + permAT

/-- DETAIL of PAGE_PROT by kind (17 R384). -/
def protDetail (kind : Nat) : Nat := if kind = 1 then 1 <<< 12 else if kind = 2 then 1 <<< 13 else 0

/-- How one address translates for a kind of access. -/
inductive XlRes where
  | ok (pa : Nat)
  | prot (detail : Nat)
  | miss
deriving DecidableEq, Repr

/-- Translation of an address for the issuing wave: its record windows, which it only reads (14 R323), or its die's
tables; an ATOM or CADD to host memory is PAGE_PROT (11 R236), and so is a page the host refused (17 R389). -/
def State.xl (s : State) (kind va : Nat) : XlRes :=
  if inWindow va then (if kind = 0 then .ok (s.w.windowPa va) else .prot (protDetail kind))
  else
    match s.xlate s.w.core va (permOf kind) with
    | .ok pa => if kind = 2 && isHostPa pa then .prot (protDetail kind) else .ok pa
    | .error .miss => if s.w.refused = some (va / 16384) then .prot (protDetail kind + (1 <<< 17)) else .miss
    | .error (.prot l) => .prot (protDetail kind + (l <<< 14))

/-- One lane of an access: the lane, its virtual and its physical address. -/
structure Acc where
  lane : Nat
  va : Nat
  pa : Nat
deriving DecidableEq, Repr

/-- The mask of the lanes of a list, lane stream or LDLQ; a lead form reports none (R235). -/
def accLanes (report : Bool) (ls : List Nat) : Nat := if report then maskOf ls else 0

/-- An address within 0 to 2^47 − 1. -/
def eaFits (ea : Int) : Bool := decide (0 ≤ ea ∧ ea < 2 ^ 47)

/-- THE CHECK OF AN ACCESS (R235, R236; priorities of 17 R383): every lane's address is in range, aligned, permitted and
present. -/
def State.checkAccess (s : State) (report : Bool) (kind code n : Nat) (lanes : List (Nat × Int)) : R (List Acc) :=
  let bad := lanes.filter (fun p => !eaFits p.2)
  let odd := lanes.filter (fun p => decide (p.2 % (n : Int) ≠ 0))
  match bad, odd with
  | (_, ea) :: _, _ => .error (.trap causeProt (accLanes report (bad.map (fun p => p.1))) (wrapN ea 64) (protDetail kind))
  | [], (_, ea) :: _ =>
    .error (.trap causeAlign (accLanes report (odd.map (fun p => p.1))) (wrapN ea 64) (code <<< 11))
  | [], [] =>
    let res := lanes.map (fun p => (p.1, p.2.toNat, s.xl kind p.2.toNat))
    let prots := res.filterMap (fun r => match r.2.2 with | .prot d => some (r.1, r.2.1, d) | _ => none)
    let misses := res.filterMap (fun r => match r.2.2 with | .miss => some (r.1, r.2.1) | _ => none)
    match prots, misses with
    | (_, va, d) :: _, _ => .error (.trap causeProt (accLanes report (prots.map (fun p => p.1))) va d)
    | [], (_, va) :: _ => .error (.miss va kind (accLanes report (misses.map (fun p => p.1))))
    | [], [] =>
      .ok (res.filterMap (fun r => match r.2.2 with | .ok pa => some { lane := r.1, va := r.2.1, pa := pa } | _ => none))

/-- Leaf translations of an access stay in the TLB (15 R347). -/
def State.tlbFills (s : State) (l : List Acc) : State :=
  match l with
  | [] => s
  | a :: rest => (if inWindow a.va then s else s.tlbFill s.w.core a.va).tlbFills rest

/-- The bounds of a range that every core checks (10 R224): valid, and not dropped by a close. -/
def CRange.bounds (r : CRange) (va n : Nat) : Bool :=
  r.valid && !r.closing && decide (va < r.base + r.len ∧ r.base < va + n)

/-- The open range that bytes at a virtual address touch: its die, index and entry. -/
def State.rangeAt (s : State) (va n : Nat) : Option (Nat × Nat × CRange) :=
  s.ranges.find? (fun p => p.2.2.bounds va n)

/-- COMMUTATIVE_MISUSE of a store or ATOM that touches an open range (10 R224). -/
def State.plainCheck (s : State) (report : Bool) (n : Nat) (l : List Acc) : R Unit :=
  let bad := l.filter (fun a => (s.rangeAt a.va n).isSome)
  match bad with
  | [] => .ok ()
  | a :: _ => .error (.trap causeCommut (accLanes report (bad.map (fun (x : Acc) => x.lane))) a.va 0)

/-! ## Loads -/

/-- The bytes an L1 copy holds from an offset of its line. -/
def L1Line.bytes (x : L1Line) (off n : Nat) : List Byte := (x.data.drop off).take n

/-- Word k of a loaded value in 32-bit registers, extended by its size code (11 R233). -/
def loadWord (code : Nat) (bs : List Byte) (k : Nat) : Nat :=
  match code with
  | 1 => wrapN (sextN (leValue bs) 8) 32
  | 3 => wrapN (sextN (leValue bs) 16) 32
  | _ => leValue ((bs.drop (4 * k)).take 4)

/-- A loaded value in a lead register, extended by its size code (11 R233). -/
def loadLead (code : Nat) (bs : List Byte) : Nat :=
  match code with
  | 1 => wrapN (sextN (leValue bs) 8) 64
  | 3 => wrapN (sextN (leValue bs) 16) 64
  | _ => leValue bs % 2 ^ 64

/-- Registers base to base + n − 1 of a lane written from its bytes. -/
def Wave.loadRegs (w : Wave) (base code lane : Nat) (bs : List Byte) (n : Nat) : Wave :=
  match n with
  | 0 => w
  | n + 1 => (w.loadRegs base code lane bs n).setV (base + n) lane (loadWord code bs n)

/-- The values of a load written to its destination (11 R240, R249). -/
def Wave.loadInto (w : Wave) (dst : Dst) (got : List (Nat × List Byte)) : Wave :=
  match got with
  | [] => w
  | (lane, bs) :: rest =>
    (match dst with
     | .lanes base n _ code => w.loadRegs base code lane bs n
     | .lead i code => w.setS i (loadLead code bs)
     | _ => w).loadInto dst rest

/-- A deferred fault posted by an operation; one that finds another pending is discarded (16 R367). -/
def Wave.post (w : Wave) (o : Op) (cause flanes taddr detail : Nat) : Wave :=
  match w.deferred with
  | some _ => w
  | none =>
    { w with
      deferred := some
        { cause := cause, op := o.id, cls := o.cls, flanes := flanes, taddr := taddr, tinfo := o.tinfo + detail,
          dst := o.dst, later := (w.ops.filter (fun x => decide (x.cls = o.cls ∧ x.id > o.id))).length,
          handler := w.inTrap && decide (o.id ≥ w.trapOp) } }

/-- A destination in LQ. -/
def Dst.isLq (d : Dst) : Bool := match d with | .lq _ _ => true | _ => false

/-- The lanes that the POISON of an operation reports: none for a lead load, whose lanes are the LDLQ's alone (R235, R250). -/
def Op.badLanes (o : Op) : Nat := if o.cls.stream = .lead && !o.dst.isLq then 0 else maskOf (o.bad.map (fun p => p.1))

/-- A load whose values have all returned (11 R240, R250): they are written, or, when bytes were poisoned, nothing is
written and POISON is posted; an acquiring ATOM then acquires (11 R244). An LQ entry waits for its turn (02 R27). -/
def State.loadDone (s : State) (core slot id : Nat) : State :=
  match s.wave? core slot with
  | none => s
  | some w =>
    match w.ops.find? (fun o => o.id == id) with
    | none => s
    | some o =>
      if o.left ≠ 0 || o.dst.isLq then s
      else
        let fin (w : Wave) : Wave :=
          match minBy (fun (p : Nat × Nat) => p.1) o.bad with
          | some (_, va) => w.post o causePoison o.badLanes va 0
          | none => w.loadInto o.dst o.got
        let s := (s.modWave core slot fin).modOp core slot id (fun o => { o with done := true })
        if o.acq then s.acquire core else s

/-- Lanes of an access by line: the line's virtual and physical addresses, and (lane, offset) of each lane. -/
def byLine (l : List Acc) : List (Nat × Nat × List (Nat × Nat)) :=
  let lines := l.foldl (fun acc (a : Acc) => insertAsc (lineOf a.pa) acc) []
  lines.filterMap (fun line =>
    match l.filter (fun a => lineOf a.pa == line) with
    | [] => none
    | a :: rest => some (lineOf a.va, line, ((a :: rest).map (fun x => (x.lane, x.pa - line)))))

/-- Requests for the lines of a load (10 R220): a fill is asked for where the L1 holds no state for the line. -/
def State.sendLoads (s : State) (id n : Nat) (ls : List (Nat × Nat × List (Nat × Nat))) : State :=
  match ls with
  | [] => s
  | (va, line, parts) :: rest =>
    let fill := ((s.core s.w.core).line? line).isNone
    let r : Req := { core := s.w.core, slot := s.w.slot, op := id, va := va, pa := line }
    (s.sendAfter s.w.core s.w.slot [] 0 (.load r (parts.map (fun p => (p.1, p.2, n))) fill false)).sendLoads id n rest

/-- The bytes of an access that the issuing core gives at once: a record window's, or those of a line in state S. -/
def State.here (s : State) (n : Nat) (a : Acc) : Option (List Byte) :=
  if inWindow a.va then some (memBytes s.mem a.pa n)
  else
    match (s.core s.w.core).line? (lineOf a.pa) with
    | some x => if x.st = .s then some (x.bytes (a.pa - lineOf a.pa) n) else none
    | none => none

/-- A LOAD POSTED (11 R238; 10 R220): windows and lines in state S give their bytes at once, every other line is read at
its home. -/
def State.postLoad (s : State) (cls : OpCls) (tinfo n : Nat) (dst : Dst) (l : List Acc) : State :=
  let got := l.filterMap (fun a => (s.here n a).map (fun bs => (a.lane, bs)))
  let far := byLine (l.filter (fun a => (s.here n a).isNone))
  let id := s.nextId
  let now := decide (far = []) && !dst.isLq
  let o : Op :=
    { id := id, cls := cls, tinfo := tinfo, pc := s.w.pcOf s.st, left := far.length, leftDie := 0, leftAll := 0,
      pushes := false, dst := dst, acq := false, got := got, bad := [], done := now }
  let s := (s.addOp o).tlbFills l
  if now then s.modW (fun w => (w.loadInto dst got).prune) else s.sendLoads id n far

/-! ## Stores -/

/-- A byte put into a list of bytes by offset, in ascending order; a later lane replaces an earlier one (09 R200). -/
def putOff (l : List (Nat × Byte)) (o : Nat) (b : Byte) : List (Nat × Byte) :=
  match l with
  | [] => [(o, b)]
  | (o', b') :: rest =>
    if o = o' then (o, b) :: rest else if o < o' then (o, b) :: (o', b') :: rest else (o', b') :: putOff rest o b

/-- Bytes put from an offset on. -/
def putOffs (l : List (Nat × Byte)) (o : Nat) (bs : List Byte) : List (Nat × Byte) :=
  match bs with
  | [] => l
  | b :: rest => putOffs (putOff l o b) (o + 1) rest

/-- What the lanes of a store write to a line, the highest lane last (11 R240). -/
def lineData (data : Nat → List Byte) (parts : List (Nat × Nat)) : List (Nat × Byte) :=
  parts.foldl (fun acc p => putOffs acc p.2 (data p.1)) []

/-- A line added to the dirty-line set of a wave (10 R223). -/
def Wave.addDirty (w : Wave) (line : Nat) : Wave :=
  if w.dirty.contains line then w
  else
    let d := w.dirty ++ [line]
    { w with dirty := if d.length > 256 then d.tail else d }

/-- The lines of a store written: into the L1 where they are in state S, and on their way home (10 R218). -/
def State.sendStores (s : State) (id : Nat) (data : Nat → List Byte) (push : List Nat)
    (ls : List (Nat × Nat × List (Nat × Nat))) : State :=
  match ls with
  | [] => s
  | (va, line, parts) :: rest =>
    let bs := lineData data parts
    let r : Req := { core := s.w.core, slot := s.w.slot, op := id, va := va, pa := line }
    let s := s.modCore s.w.core (fun c =>
      c.modLine line (fun x => if x.st = .s then { x with data := overBytes x.data bs } else x))
    let s := s.modW (fun w => w.addDirty line)
    (s.sendAfter s.w.core s.w.slot [] 0 (.store r bs (if isHostPa line then [] else push))).sendStores id data push rest

/-- A STORE POSTED (11 R238, R240, R246): one write for each line, pushed to `push` when it is an STT. -/
def State.postStore (s : State) (cls : OpCls) (tinfo : Nat) (l : List Acc) (data : Nat → List Byte) (stt : Bool)
    (push : List Nat) : State :=
  let ls := byLine l
  let id := s.nextId
  let o : Op :=
    { id := id, cls := cls, tinfo := tinfo, pc := s.w.pcOf s.st, left := 0, leftDie := ls.length, leftAll := ls.length,
      pushes := stt, dst := .none, acq := false, got := [], bad := [], done := decide (ls = []) }
  (((s.addOp o).tlbFills l).sendStores id data push ls).modOp s.w.core s.w.slot id (fun o => o)

/-- The counter of a class has room (11 R238). -/
def State.counterRoom (s : State) (c : OpCls) : R Unit :=
  if s.w.counter c ≥ c.max then .error .stall else .ok ()

/-! ## Lane operands (11 R235, R237) -/

/-- The registers of a pair or wider operand. -/
def wideRegs (ix n : Nat) : List Nat := if ix < 320 then (List.range n).map (fun k => ix + k) else []

/-- The operand indices of a wide operand: its registers, or the port or uniform source itself. -/
def wideSrc (ix n : Nat) : List Nat := if ix < 320 then wideRegs ix n else [ix]

/-- The effective address of a lane in an XM form (R235). -/
def eaXm (f : XmF) (w : Wave) (l : Nat) : Int :=
  (w.src64 f.lit f.a9.toNat l : Int) + sextN (w.src f.lit f.b9.toNat l) 32 * ((2 ^ (f.imm8.toNat / 16 % 4) : Nat) : Int)
    + f.off21.toInt

/-- The effective address of a lane in CADD and ATOM: the base and the offset field (R232, R234). -/
def eaBase (f : XmF) (w : Wave) (l : Nat) : Int := (w.src64 f.lit f.a9.toNat l : Int) + f.off21.toInt

/-- The effective address of a lane in a BM form (R235). -/
def eaBm (f : BmF) (n : Nat) (w : Wave) (l : Nat) : Int :=
  (w.src64 none f.a.toNat l : Int) + f.off7.toInt * (n : Int)

/-- The data bytes of a lane (R237). -/
def dataBytes (w : Wave) (lit : Option Dword) (ix code l : Nat) : List Byte :=
  match code with
  | 6 => if ix < 320 then (List.range 4).flatMap (fun k => leBytes (w.getV (ix + k) l) 4) else leBytes 0 16
  | 5 => leBytes (w.src64 lit ix l) 8
  | _ => leBytes (w.src lit ix l) (sizeBytes code)

/-- Words of an XM form. -/
def xmWords (f : XmF) : Nat := if f.lit.isSome then 5 else 3

/-- TINFO of an instruction (17 R384). -/
def tinfoOf (i : Instr) : Nat := tinfoHead i.word0

/-- Lanes with their effective addresses. -/
def lanesEa (w : Wave) (act : Nat) (ea : Wave → Nat → Int) : List (Nat × Int) :=
  (lanesOf act w.lanes).map (fun l => (l, ea w l))

/-- A LANE LOAD (R236, R237, R240). -/
def State.laneLoad (s : State) (i : Instr) (words kmask code d : Nat) (srcs : List Nat) (ea : Wave → Nat → Int) : R State := do
  let act := s.w.active kmask
  let n := sizeBytes code
  let dsts := wideRegs d (sizeRegs code)
  s.laneReady srcs dsts
  s.counterRoom .laneLd
  s.regCheck act (dsts ++ vRegs srcs)
  let l ← s.checkAccess true 0 code n (lanesEa s.w act ea)
  let dst : Dst := if d < 320 then .lanes d (sizeRegs code) act code else .none
  .ok ((((s.postLoad .laneLd (tinfoOf i) n dst l).modW (fun w => w.popUsed srcs))).advance words)

/-- A LANE STORE (R236, R237, R240); `push` gives the target cores of an STT. -/
def State.laneStore (s : State) (i : Instr) (words kmask code d : Nat) (lit : Option Dword) (srcs : List Nat)
    (ea : Wave → Nat → Int) (stt : Bool) (push : Nat → R (List Nat)) : R State := do
  let act := s.w.voters (s.w.active kmask)
  let n := sizeBytes code
  let all := srcs ++ wideSrc d (sizeRegs code)
  s.laneReady all []
  s.counterRoom .laneSt
  s.regCheck act (vRegs all)
  let targets ← push act
  let l ← s.checkAccess true 1 code n (lanesEa s.w act ea)
  s.plainCheck true n l
  let w0 := s.w
  .ok (((s.postStore .laneSt (tinfoOf i) l (fun lane => dataBytes w0 lit d code lane) stt targets).modW
    (fun w => w.popUsed all)).advance words)

end Sys2Proof.Machine
end

