-- ==== Sys2Proof/Machine/MemOps.lean ====
section
/-! DEFINITION. The memory, atomic, targeted and phase instructions of both streams (11 R232 to R254). -/
namespace Sys2Proof.Machine

/-! ## LD, ST, STT, PREF (R240, R245, R246, R248) -/

/-- The sources of an address in XM. -/
def xmAddrSrcs (f : XmF) : List Nat := wideSrc f.a9.toNat 2 ++ [f.b9.toNat]

/-- LD, base form (R240). -/
def execLdBM (minor : BitVec 3) (f : BmF) (s : State) : Out :=
  s.issue (.ldBM minor f) (some .lane) 0 16 (legalLdBm minor.toNat f) (fun s =>
    s.laneLoad (.ldBM minor f) 1 0 minor.toNat f.d.toNat (wideRegs f.a.toNat 2) (eaBm f (sizeBytes minor.toNat)))

/-- LD, extended form (R240). -/
def execLdXM (minor : BitVec 3) (f : XmF) (s : State) : Out :=
  s.issue (.ldXM minor f) (some .lane) f.kmask.toNat 16 (legalLdXm minor.toNat f) (fun s =>
    s.laneLoad (.ldXM minor f) (xmWords f) f.kmask.toNat minor.toNat f.d9.toNat (xmAddrSrcs f) (eaXm f))

/-- A store that pushes nothing. -/
def noPush (_ : Nat) : R (List Nat) := .ok []

/-- ST, base form (R240). -/
def execStBM (minor : BitVec 3) (f : BmF) (s : State) : Out :=
  s.issue (.stBM minor f) (some .lane) 0 16 (legalStBm minor.toNat f) (fun s =>
    s.laneStore (.stBM minor f) 1 0 minor.toNat f.d.toNat none (wideRegs f.a.toNat 2)
      (eaBm f (sizeBytes minor.toNat)) false noPush)

/-- ST, extended form (R240). -/
def execStXM (minor : BitVec 3) (f : XmF) (s : State) : Out :=
  s.issue (.stXM minor f) (some .lane) f.kmask.toNat 16 (legalStXm minor.toNat f) (fun s =>
    s.laneStore (.stXM minor f) (xmWords f) f.kmask.toNat minor.toNat f.d9.toNat f.lit (xmAddrSrcs f) (eaXm f) false noPush)

/-- The target cores of an STT's target value, for a block that starts at core `core0` and spans `k` (R245). -/
def targetCores (core0 k x : Nat) : Option (List Nat) :=
  let mask := bits x 0 8
  let cl := bits x 8 5
  if bits x 14 18 ≠ 0 ∨ cl > 23 then none
  else if bit x 13 then
    (if mask ≠ 0 ∨ cl ≠ 0 then none else some ((List.range k).map (fun j => core0 + j)))
  else if mask = 0 then none
  else some ((lanesOf mask 8).map (fun i => 8 * cl + i))

/-- The targets of an STT: a lane register is read in the lowest active lane (R245). -/
def State.sttTargets (s : State) (f : XmF) (act : Nat) : R (List Nat) :=
  let val : Option Nat :=
    if f.c9.toNat < 320 then (lowestLane act s.w.lanes).map (fun l => s.w.src f.lit f.c9.toNat l)
    else some (s.w.src f.lit f.c9.toNat 0)
  match val with
  | none => .ok []
  | some x =>
    let span := match s.block? s.w.key with | some b => (b.core0, b.k) | none => (s.w.core, 1)
    match targetCores span.1 span.2 x with
    | some cs => .ok cs
    | none => .error (.trap causePush act 0 0)

/-- STT (R245, R246). -/
def execStt (f : XmF) (s : State) : Out :=
  s.issue (.stt f) (some .lane) f.kmask.toNat 16 (legalStt f) (fun s =>
    s.laneStore (.stt f) (xmWords f) f.kmask.toNat (xmSize f) f.d9.toNat f.lit (xmAddrSrcs f ++ [f.c9.toNat])
      (eaXm f) true (s.sttTargets f))

/-- The lines that a PREF fetches into the L1: lanes that translate, lines neither held, poisoned nor in a range (R248). -/
def State.prefLines (s : State) (l : List (Nat × Int)) : List (Nat × Nat) :=
  let core := s.core s.w.core
  let ok := l.filterMap (fun p =>
    if eaFits p.2 && !inWindow p.2.toNat then
      match s.xl 0 p.2.toNat with
      | .ok pa => if (s.rangeAt p.2.toNat 1).isSome then none else some (lineOf p.2.toNat, lineOf pa)
      | _ => none
    else none)
  (ok.foldl (fun acc p => if acc.contains p then acc else acc ++ [p]) []).filter
    (fun p => (core.line? p.2).isNone && !s.poisoned p.2)

/-- Fills asked for on behalf of no operation. -/
def State.sendPrefs (s : State) (l : List (Nat × Nat)) : State :=
  match l with
  | [] => s
  | (va, line) :: rest =>
    (s.send (.load { core := s.w.core, slot := s.w.slot, op := 0, va := va, pa := line } [] true true)).sendPrefs rest

/-- PREF: into the L1, or with the home flag into the home slice, which holds nothing to observe (R248, 09 R198). -/
def prefBody (f : XmF) (s : State) : R State := do
  let act := s.w.active f.kmask.toNat
  let srcs := xmAddrSrcs f
  s.laneReady srcs []
  s.regCheck act (vRegs srcs)
  let l := s.prefLines (lanesEa s.w act (eaXm f))
  let s := if f.imm8.getLsbD 6 then s else s.sendPrefs l
  .ok ((s.modW (fun w => w.popUsed srcs)).advance (xmWords f))

/-- PREF (R248). -/
def execPref (f : XmF) (s : State) : Out :=
  s.issue (.pref f) (some .lane) f.kmask.toNat 16 (legalPref f) (prefBody f)

/-! ## Scratchpad (R241, R242; 08 R191 to R194) -/

/-- The skewed offset of element e of a tile (08 R194). -/
def skewOffset (desc e : Nat) : Nat :=
  bits desc 0 20 + 256 * bits e 5 5 + 128 * bits desc 20 1 + 4 * ((bits e 0 5 + bits e 5 5) % 32)

/-- The scratch bytes of the issuing wave's block on its core (08 R191). -/
def State.scratchOf (s : State) (k : BKey) (core : Nat) : List (Nat × Byte) :=
  match s.block? k with
  | none => []
  | some b =>
    match b.segs.find? (fun g => g.core == core) with
    | none => []
    | some g => g.scratch

/-- Bytes of a scratchpad. -/
def scratchBytes (m : List (Nat × Byte)) (o n : Nat) : List Byte := (List.range n).map (fun i => mapGet 0#8 m (o + i))

/-- Bytes written into a scratchpad. -/
def scratchWrite (m : List (Nat × Byte)) (o : Nat) (bs : List Byte) : List (Nat × Byte) :=
  match bs with
  | [] => m
  | b :: rest => scratchWrite (mapSet 0#8 m o b) (o + 1) rest

/-- The scratch offset of a lane (R241). -/
def scratchOff (f : XmF) (w : Wave) (l : Nat) : Int :=
  if f.imm8.getLsbD 3 then (skewOffset (w.src f.lit f.a9.toNat l) (w.src f.lit f.b9.toNat l) : Int)
  else
    (w.src f.lit f.a9.toNat l : Int)
      + sextN (w.src f.lit f.b9.toNat l) 32 * ((2 ^ (f.imm8.toNat / 16 % 4) : Nat) : Int) + f.off21.toInt

/-- A tile descriptor with a reserved bit set (08 R194): its check stands above those of register numbers (17 R383). -/
def State.descCheck (s : State) (f : XmF) (ls : List (Nat × Nat × Nat × Int)) : R Unit :=
  let known := (vRegs [f.a9.toNat]).all (fun r => decide (r < 8 * s.w.g))
  match ls.filter (fun p => f.imm8.getLsbD 3 && known && bits p.2.1 21 11 != 0) with
  | [] => .ok ()
  | bad => .error (.trap causeOperand (maskOf (bad.map (fun p => p.1))) 0 (1 <<< 11))

/-- THE CHECK OF A SCRATCH ACCESS by lanes with their descriptors, elements and offsets (08 R192, R194; 11 R242).
DESIGN CHOICE (entry 39): TADDR of a negative offset is the offset modulo 2^64. -/
def State.scratchCheck (s : State) (skew : Bool) (code n : Nat) (ls : List (Nat × Nat × Nat × Int)) : R Unit :=
  let base := ls.filter (fun p => skew && bits p.2.1 0 8 != 0)
  let odd := ls.filter (fun p => decide (p.2.2.2 % (n : Int) ≠ 0))
  let out := ls.filter (fun p => (skew && decide (p.2.2.1 ≥ 1024)) || decide (p.2.2.2 < 0 ∨ p.2.2.2 + (n : Int) > (s.w.k.scratch : Int)))
  let m (l : List (Nat × Nat × Nat × Int)) : Nat := maskOf (l.map (fun p => p.1))
  match base, odd, out with
  | p :: _, _, _ => .error (.trap causeAlign (m base) (wrapN p.2.2.2 64) (7 <<< 11))
  | [], p :: _, _ => .error (.trap causeAlign (m odd) (wrapN p.2.2.2 64) (code <<< 11))
  | [], [], p :: _ => .error (.trap causeScratch (m out) (wrapN p.2.2.2 64) 0)
  | [], [], [] => .ok ()

/-- The lanes of a scratch access. -/
def scratchLanes (f : XmF) (w : Wave) (act : Nat) : List (Nat × Nat × Nat × Int) :=
  (lanesOf act w.lanes).map (fun l => (l, w.src f.lit f.a9.toNat l, w.src f.lit f.b9.toNat l, scratchOff f w l))

/-- An operation that has finished at issue is counted out and in again (16 R366). -/
def State.doneOp (s : State) (cls : OpCls) (tinfo : Nat) : State :=
  let id := s.nextId
  let o : Op :=
    { id := id, cls := cls, tinfo := tinfo, pc := s.w.pcOf s.st, left := 0, leftDie := 0, leftAll := 0, pushes := false,
      dst := .none, acq := false, got := [], bad := [], done := true }
  (s.addOp o).modOp s.w.core s.w.slot id (fun o => o)

/-- LDSP (R241). -/
def ldspBody (f : XmF) (s : State) : R State := do
  let code := xmSize f
  let n := sizeBytes code
  let act := s.w.active f.kmask.toNat
  let srcs := [f.a9.toNat, f.b9.toNat]
  let dsts := wideRegs f.d9.toNat (sizeRegs code)
  s.laneReady srcs dsts
  s.counterRoom .laneLd
  let ls := scratchLanes f s.w act
  s.descCheck f ls
  s.regCheck act (dsts ++ vRegs srcs)
  s.scratchCheck (f.imm8.getLsbD 3) code n ls
  let m := s.scratchOf s.w.key s.w.core
  let got := ls.map (fun p => (p.1, scratchBytes m p.2.2.2.toNat n))
  let dst : Dst := if f.d9.toNat < 320 then .lanes f.d9.toNat (sizeRegs code) act code else .none
  .ok (((s.doneOp .laneLd (tinfoOf (.ldsp f))).modW (fun w => (w.loadInto dst got).popUsed srcs)).advance (xmWords f))

/-- LDSP (R241). -/
def execLdsp (f : XmF) (s : State) : Out :=
  s.issue (.ldsp f) (some .lane) f.kmask.toNat 10 (legalLdsp f) (ldspBody f)

/-- Scratch bytes written lane by lane, ascending (R241, 08 R195). -/
def scratchStores (m : List (Nat × Byte)) (l : List (Nat × List Byte)) : List (Nat × Byte) :=
  match l with
  | [] => m
  | (o, bs) :: rest => scratchStores (scratchWrite m o bs) rest

/-- Sectors of some bytes at their offsets, joined to those of a list. -/
def touchSectors (v : List Nat) (l : List (Nat × List Byte)) : List Nat :=
  (l.flatMap (fun p => if p.2 = [] then [] else
    (List.range ((p.1 + p.2.length - 1) / 256 - p.1 / 256 + 1)).map (fun k => p.1 / 256 + k))).foldl (fun v x => insertAsc x v) v

/-- Stores to a scratchpad window in their order, which make their sectors valid (08 R190). -/
def CoreSeg.putScratch (g : CoreSeg) (l : List (Nat × List Byte)) : CoreSeg :=
  { g with scratch := scratchStores g.scratch l, ssect := touchSectors g.ssect l }

/-- STSP (R241). -/
def stspBody (f : XmF) (s : State) : R State := do
  let code := xmSize f
  let n := sizeBytes code
  let act := s.w.voters (s.w.active f.kmask.toNat)
  let srcs := [f.a9.toNat, f.b9.toNat] ++ wideSrc f.d9.toNat (sizeRegs code)
  s.laneReady srcs []
  s.counterRoom .laneSt
  let ls := scratchLanes f s.w act
  s.descCheck f ls
  s.regCheck act (vRegs srcs)
  s.scratchCheck (f.imm8.getLsbD 3) code n ls
  let w := s.w
  let sts := ls.map (fun p => (p.2.2.2.toNat, dataBytes w f.lit f.d9.toNat code p.1))
  let s := s.modSeg w.key w.core (fun g => g.putScratch sts)
  .ok (((s.doneOp .laneSt (tinfoOf (.stsp f))).modW (fun w => w.popUsed srcs)).advance (xmWords f))

/-- STSP (R241). -/
def execStsp (f : XmF) (s : State) : Out :=
  s.issue (.stsp f) (some .lane) f.kmask.toNat 10 (legalStsp f) (stspBody f)

/-! ## ATOM (R243, R244) and CADD (R247) -/

/-- The new value of an ATOM; none where a compare fails (R243). -/
def atomResult (a : AtomOp) (m : Nat) : Option Nat :=
  let w := 8 * a.n
  let s (x : Nat) : Int := sextN x w
  match a.op with
  | 0 => some ((m + a.v) % 2 ^ w)
  | 1 => some (m &&& a.v)
  | 2 => some (m ||| a.v)
  | 3 => some (m ^^^ a.v)
  | 4 => some (if s m ≤ s a.v then m else a.v)
  | 5 => some (if s m ≥ s a.v then m else a.v)
  | 6 => some (min m a.v)
  | 7 => some (max m a.v)
  | 8 => some a.v
  | 9 => if m = a.c then some a.v else none
  | 10 => some (fAdd .f32 .rne false 0 (nanAt a.pc a.lane) m a.v)
  | 11 => some (fMinMax .f32 false m a.v)
  | _ => some (fMinMax .f32 true m a.v)

/-- The ordering part of an order code: 0 relaxed, 1 acquire, 2 release (03 R72). -/
def orderOf (order : Nat) : Nat := order % 3

/-- One request for each lane, in ascending lane order (R244). -/
def State.sendAtoms (s : State) (id : Nat) (after : List Nat) (scope : Nat) (mk : Nat → AtomOp) (l : List Acc) : State :=
  match l with
  | [] => s
  | a :: rest =>
    let r : Req := { core := s.w.core, slot := s.w.slot, op := id, va := a.va, pa := a.pa }
    let s := s.modW (fun w => w.addDirty (lineOf a.pa))
    (s.sendAfter s.w.core s.w.slot after scope (.atom r (mk a.lane))).sendAtoms id after scope mk rest

/-- The value of a data operand of one or two words (R243); `.fadd`, `.fmin` and `.fmax` read FP32, to which an inline
integer is converted (03 R62). -/
def Wave.dataVal (w : Wave) (lit : Option Dword) (op ix code l : Nat) : Nat :=
  if code = 5 then w.src64 lit ix l else if op ∈ [10, 11, 12] then w.srcT lit 0 ix l else w.src lit ix l

/-- ATOM (R243, R244). -/
def atomBody (f : XmF) (s : State) : R State := do
  let code := xmSize f
  let n := sizeBytes code
  let op := f.xop.toNat
  let act := s.w.voters (s.w.active f.kmask.toNat)
  let ret := decide (f.d9.toNat ≠ 323)
  let srcs := wideSrc f.a9.toNat 2 ++ wideSrc f.b9.toNat (sizeRegs code) ++ (if op = 9 then wideSrc f.c9.toNat (sizeRegs code) else [])
  let dsts := wideRegs f.d9.toNat (sizeRegs code)
  let cls : OpCls := if ret then .laneLd else .laneSt
  s.laneReady srcs dsts
  s.counterRoom cls
  s.regCheck act (dsts ++ vRegs srcs)
  let l ← s.checkAccess true 2 code n (lanesEa s.w act (eaBase f))
  s.plainCheck true n l
  let w0 := s.w
  let pc := s.pc
  let mk (lane : Nat) : AtomOp :=
    { op := op, n := n, lane := lane, v := w0.dataVal f.lit op f.b9.toNat code lane,
      c := if op = 9 then w0.dataVal f.lit op f.c9.toNat code lane else 0, returns := ret, pc := pc }
  let ord := orderOf f.order.toNat
  let after := if ord = 2 then s.memOps else []
  let id := s.nextId
  let o : Op :=
    { id := id, cls := cls, tinfo := tinfoOf (.atom f), pc := pc, left := if ret then l.length else 0,
      leftDie := l.length, leftAll := l.length, pushes := false,
      dst := if ret then .lanes f.d9.toNat (sizeRegs code) act code else .none, acq := decide (ord = 1), got := [],
      bad := [], done := decide (l = []) }
  let s := ((s.addOp o).tlbFills l).sendAtoms id after (scopeOf f.order.toNat) mk l
  let s := s.modW Wave.prune
  let s := if l = [] ∧ ord = 1 then s.acquire s.w.core else s
  .ok ((s.modW (fun w => w.popUsed srcs)).advance (xmWords f))

/-- ATOM (R243, R244). -/
def execAtom (f : XmF) (s : State) : Out :=
  s.issue (.atom f) (some .lane) f.kmask.toNat 16 (legalAtom f) (atomBody f)

/-- The L1 of a core made to hold a partial of a line in state C (10 R220): a copy that a range-open notice marked is
discarded first, and a new partial is registered with the home. -/
def State.partialLine (s : State) (core line : Nat) : Option State :=
  match (s.core core).line? line with
  | some x =>
    if x.st = .c then some s
    else some (((s.modCore core (fun c => c.dropLine line)).modCore core (fun c =>
      { c with l1 := c.l1 ++ [{ line := line, st := .c, drop := false, data := List.replicate 128 0#8, touched := 0 }] })).send
        (.holder core line))
  | none =>
    (s.makeRoom core).map (fun s =>
      (s.modCore core (fun c =>
        { c with l1 := c.l1 ++ [{ line := line, st := .c, drop := false, data := List.replicate 128 0#8, touched := 0 }] })).send
          (.holder core line))

/-- One word combined into a partial; the first one is written as it stands (10 R224). -/
def L1Line.combine (x : L1Line) (fmt op : Nat) (c : NanCtx) (off v : Nat) : L1Line :=
  let old := leValue (x.bytes off 4)
  let y := if bit x.touched (off / 4) then combineWord fmt op c old v else v
  { x with data := overBytes x.data ((leBytes y 4).zipIdx.map (fun p => (off + p.2, p.1))), touched := x.touched ||| (1 <<< (off / 4)) }

/-- CADD lane by lane, ascending (R247); it waits while an L1 line cannot be had. -/
def State.caddLanes (s : State) (val : Nat → Nat) (pc : Nat) (l : List Acc) : R State :=
  match l with
  | [] => .ok s
  | a :: rest =>
    match s.rangeAt a.va 4, s.partialLine s.w.core (lineOf a.pa) with
    | some (_, _, r), some s' =>
      (s'.modCore s.w.core (fun c => c.modLine (lineOf a.pa) (fun x =>
        x.combine r.fmt r.op (nanAt pc a.lane) (a.pa - lineOf a.pa) (val a.lane)))).caddLanes val pc rest
    | _, _ => .error .stall

/-- CADD (R247): a word outside every open range is COMMUTATIVE_MISUSE; a range still opening holds it (R253). Its encoding
gives no type, so an inline integer b9 is the 32-bit integer's pattern in an FP32 range too: DESIGN CHOICE (entry 44; 03
R62). -/
def caddBody (f : XmF) (s : State) : R State := do
  let act := s.w.voters (s.w.active f.kmask.toNat)
  let srcs := wideSrc f.a9.toNat 2 ++ [f.b9.toNat]
  s.laneReady srcs []
  s.counterRoom .laneSt
  s.regCheck act (vRegs srcs)
  let l ← s.checkAccess true 2 4 4 (lanesEa s.w act (eaBase f))
  let bad := l.filter (fun a => (s.rangeAt a.va 4).isNone)
  match bad with
  | a :: _ => .error (.trap causeCommut (maskOf (bad.map (fun (x : Acc) => x.lane))) a.va (1 <<< 11))
  | [] =>
    if l.any (fun a => match s.rangeAt a.va 4 with | some (_, _, r) => !r.active | none => false) then .error .stall
    else
      let w0 := s.w
      let pc := s.pc
      match (s.tlbFills l).caddLanes (fun lane => w0.src f.lit f.b9.toNat lane) pc l with
      | .error x => .error x
      | .ok s => .ok (((s.doneOp .laneSt (tinfoOf (.cadd f))).modW (fun w => w.popUsed srcs)).advance (xmWords f))

/-- CADD (R247). -/
def execCadd (f : XmF) (s : State) : Out :=
  s.issue (.cadd f) (some .lane) f.kmask.toNat 16 (legalCadd f) (caddBody f)

/-! ## LDS, STS, LDLQ (R249, R250) -/

/-- The effective address of a lead XM form (R235). -/
def eaLead (f : XmF) (w : Wave) : Int :=
  (w.leadVal f.lit (leadIx9 f.a9.toNat) : Int)
    + sextN (w.leadVal f.lit (leadIx9 f.b9.toNat)) 64 * ((2 ^ (f.imm8.toNat / 16 % 4) : Nat) : Int) + f.off21.toInt

/-- The effective address of a lead BM form (R235). -/
def eaLeadBm (f : BmF) (w : Wave) : Int := (w.getS f.a.toNat : Int) + f.off7.toInt * 8

/-- The management core's own memory is neither translated nor cached (20 R439); its address must be aligned. -/
def mgmtAddr (code n : Nat) (ea : Int) : R Nat :=
  if !eaFits ea then .error (.trap causeProt 0 (wrapN ea 64) 0)
  else if ea % (n : Int) ≠ 0 then .error (.trap causeAlign 0 (wrapN ea 64) (code <<< 11))
  else .ok ea.toNat

/-- Bytes of the management core's memory written. -/
def State.mgmtWrite (s : State) (a : Nat) (bs : List Byte) : State :=
  match bs with
  | [] => s
  | b :: rest =>
    ({ s with mgmtMem := sortBy (fun (c : Host.Cell) => c.1) ((a, b) :: s.mgmtMem.filter (fun c => c.1 != a)) } : State).mgmtWrite (a + 1) rest

/-- LDS (R249). -/
def ldsBody (i : Instr) (words code : Nat) (d : LeadIx) (srcs : List LeadIx) (ea : Wave → Int) (s : State) : R State := do
  let n := sizeBytes code
  s.mgmtPort srcs
  s.leadReady srcs (leadDst d)
  s.counterRoom .leadLd
  s.sregCheck (leadRegs srcs ++ leadDst d)
  if s.w.mgmt then
    let a ← mgmtAddr code n (ea s.w)
    let bs := (List.range n).map (fun k => s.mgmtByte (a + k))
    .ok (((s.doneOp .leadLd (tinfoOf i)).modW (fun w => w.writeLead d (loadLead code bs))).advance words)
  else
    let l ← s.checkAccess false 0 code n [(0, ea s.w)]
    let dst : Dst := match d with | .s k => .lead k code | _ => .none
    .ok (((s.postLoad .leadLd (tinfoOf i) n dst l).modW (fun w => w.popRq srcs)).advance words)

/-- LDS, base form: 64 bits (R249). -/
def execLdsBM (f : BmF) (s : State) : Out :=
  s.issue (.ldsBM f) (some .lead) 0 12 (legalLdsBm f)
    (ldsBody (.ldsBM f) 1 5 (leadIx7 f.d.toNat false) [leadIx7 f.a.toNat false] (eaLeadBm f))

/-- The sources of an address in a lead XM form. -/
def leadAddrSrcs (f : XmF) : List LeadIx := [leadIx9 f.a9.toNat, leadIx9 f.b9.toNat]

/-- LDS, extended form (R249). -/
def execLdsXM (f : XmF) (s : State) : Out :=
  s.issue (.ldsXM f) (some .lead) 0 12 (legalLdsXm f)
    (ldsBody (.ldsXM f) (xmWords f) (xmSize f) (leadIx9 f.d9.toNat) (leadAddrSrcs f) (eaLead f))

/-- STS (R249). -/
def stsBody (i : Instr) (words code : Nat) (lit : Option Dword) (d : LeadIx) (addr : List LeadIx) (ea : Wave → Int)
    (s : State) : R State := do
  let n := sizeBytes code
  let srcs := d :: addr
  s.mgmtPort srcs
  s.leadReady srcs []
  s.counterRoom .leadSt
  s.sregCheck (leadRegs srcs)
  let bs := leBytes (s.w.leadVal lit d) n
  if s.w.mgmt then
    let a ← mgmtAddr code n (ea s.w)
    .ok (((s.doneOp .leadSt (tinfoOf i)).mgmtWrite a bs).advance words)
  else
    let l ← s.checkAccess false 1 code n [(0, ea s.w)]
    s.plainCheck false n l
    .ok (((s.postStore .leadSt (tinfoOf i) l (fun _ => bs) false []).modW (fun w => w.popRq srcs)).advance words)

/-- STS, base form: 64 bits (R249). -/
def execStsBM (f : BmF) (s : State) : Out :=
  s.issue (.stsBM f) (some .lead) 0 12 (legalStsBm f)
    (stsBody (.stsBM f) 1 5 none (leadIx7 f.d.toNat false) [leadIx7 f.a.toNat false] (eaLeadBm f))

/-- STS, extended form (R249). -/
def execStsXM (f : XmF) (s : State) : Out :=
  s.issue (.stsXM f) (some .lead) 0 12 (legalStsXm f)
    (stsBody (.stsXM f) (xmWords f) (xmSize f) f.lit (leadIx9 f.d9.toNat) (leadAddrSrcs f) (eaLead f))

/-- LQ has no free entry (02 R25). -/
def Wave.lqFull (w : Wave) : Bool := decide (w.lq.length ≥ 16)

/-- The addresses of an LQ load: A + l × S for every lane of the width (R250). -/
def lqLanes (w : Wave) (a stride : Int) : List (Nat × Int) :=
  (List.range w.lanes).map (fun l => (l, a + (l : Int) * stride))

/-- LDLQ (R250). -/
def ldlqBody (f : XmF) (s : State) : R State := do
  let code := xmSize f
  let n := sizeBytes code
  let srcs := leadAddrSrcs f
  s.mgmtPort srcs
  s.leadReady srcs []
  s.counterRoom .leadLd
  if s.w.lqFull then .error .stall
  s.sregCheck (leadRegs srcs)
  let stride := sextN (s.w.leadVal f.lit (leadIx9 f.b9.toNat)) 64
  if stride < -2147483648 ∨ stride > 2147483647 then .error (.trap causeOperand 0 0 (2 <<< 11))
  let a := (s.w.leadVal f.lit (leadIx9 f.a9.toNat) : Int) + f.off21.toInt
  let l ← s.checkAccess true 0 code n (lqLanes s.w a stride)
  let e : LqEntry :=
    { id := s.nextId, filled := false, data := [], addr := a.toNat, stride := stride, size := code, poison := 0 }
  let s := (s.postLoad .leadLd (tinfoOf (.ldlq f)) n (.lq s.nextId code) l)
  .ok ((s.modW (fun w => { (w.popRq srcs) with lq := w.lq ++ [e] })).advance (xmWords f))

/-- LDLQ (R250). -/
def execLdlq (f : XmF) (s : State) : Out := s.issue (.ldlq f) (some .lead) 0 12 (legalLdlq f) (ldlqBody f)

/-! ## CRANGE (R252, R253; 15 R359) -/

/-- The format, operation and length of a CRANGE. -/
def crangeFmt (f : XmF) : Nat := f.xop.toNat % 4
/-- Its operation. -/
def crangeOp (f : XmF) : Nat := f.xop.toNat / 4 % 4
/-- Its length. -/
def crangeLen (f : XmF) (w : Wave) : Nat := w.leadVal f.lit (leadIx9 f.b9.toNat)
/-- Its base. -/
def crangeBase (f : XmF) (w : Wave) : Nat := w.leadVal f.lit (leadIx9 f.a9.toNat)

/-- The readiness and operand faults of CRANGE (R252). -/
def State.crangeCheck (s : State) (f : XmF) : R Unit := do
  let srcs := leadAddrSrcs f
  s.leadOk srcs (leadDst (leadIx9 f.d9.toNat))
  let len := crangeLen f s.w
  let base := crangeBase f s.w
  if len = 0 ∨ len % 128 ≠ 0 ∨ len > 2 ^ 26 then .error (.trap causeOperand 0 0 (2 <<< 11))
  else if base % 128 ≠ 0 then .error (.trap causeAlign 0 base (7 <<< 11))
  else .ok ()

/-- The pages of a range, each at its first byte in the range. -/
def crangePages (base len : Nat) : List Nat :=
  (List.range ((base + len - 1) / 16384 - base / 16384 + 1)).map (fun k => max base ((base / 16384 + k) * 16384))

/-- Every page of an opening range is device memory with RD, WR and AT (R252, 15 R345): their physical page addresses. -/
def State.crangeXl (s : State) (vas : List Nat) : R (List Nat) :=
  match s.checkAccess false 2 0 1 (vas.map (fun (va : Nat) => (0, Int.ofNat va))) with
  | .error x => .error x
  | .ok l => .ok (l.map (fun a => a.pa / 16384 * 16384))

/-- CRANGE has issued: its operands are read and the stream stands at the following instruction. -/
def State.crangeIssued (s : State) (f : XmF) (h : Option Hold) : State :=
  (s.modW (fun w => { w.popRq (leadAddrSrcs f) with holding := h })).advance (xmWords f)

/-- CRANGE acts: the status is written and the stream goes on. -/
def State.crangeDone (s : State) (d status : Nat) : State :=
  s.modW (fun w => { w.writeLead (leadIx9 d) status with holding := none })

/-- A range entry changed. -/
def State.modRange (s : State) (die i : Nat) (g : CRange → CRange) : State :=
  s.modDie die (fun d => { d with ranges := modAt d.ranges i g })

/-- The first step of an open: a free entry takes the bounds, which reach every core; or the status that refuses it. -/
def State.crangeBegin (s : State) (f : XmF) : R State := do
  s.crangeCheck f
  let len := crangeLen f s.w
  let base := crangeBase f s.w
  let pages ← if base + len > 2 ^ 47 then .error (.trap causeProt 0 base (protDetail 2)) else s.crangeXl (crangePages base len)
  let die := s.homeOf (dieOf s.w.core) (pages.getD 0 0)
  match (s.die die).ranges.findIdx? (fun r => !r.valid) with
  | none => .ok ((s.crangeIssued f none).crangeDone f.d9.toNat 1)
  | some i =>
    if s.ranges.any (fun p => p.2.2.valid && decide (base < p.2.2.base + p.2.2.len ∧ p.2.2.base < base + len)) then
      .ok ((s.crangeIssued f none).crangeDone f.d9.toNat 2)
    else
      let r : CRange :=
        { valid := true, fmt := crangeFmt f, op := crangeOp f, closing := false, len := len, base := base, active := false,
          pages := pages }
      .ok ((s.modRange die i (fun _ => r)).crangeIssued f (some (.opening die i f.d9.toNat)))

/-- Range-open notices to the sharers of a line that have none on its way (10 R221). -/
def State.sendNotices (s : State) (l : List (Nat × Nat)) : State :=
  match l with
  | [] => s
  | (c, line) :: rest =>
    let out := s.net.any (fun n =>
      match n.msg with
      | .notice c' l' | .noticeReply c' l' => c' == c && l' == line
      | _ => false)
    (if out then s else s.send (.notice c line)).sendNotices rest

/-- A write to a line of a range is still on its way to its home. -/
def State.writesInFlight (s : State) (r : CRange) : Bool :=
  s.net.any (fun n =>
    match n.msg with
    | .store q _ _ | .atom q _ => r.spansLine (lineOf q.pa)
    | _ => false)

/-- The later steps of an open (R253): stores that passed their check are taken, every copy is marked, then the lines enter
state C. -/
def State.crangeOpening (s : State) (die i d : Nat) : State :=
  let r := (s.die die).ranges.getD i CRange.empty
  let held := (s.dir.filter (fun p => r.spansLine p.1)).flatMap (fun p => p.2.sharers.map (fun c => (c, p.1)))
  let moving := s.dies.any (fun d => d.migrating.any (fun p => r.pages.contains (p * 16384)))
  if s.writesInFlight r || moving then s
  else if held ≠ [] then s.sendNotices held
  else (s.modRange die i (fun r => { r with active := true })).crangeDone d 0

/-- CRANGE open (R252, R253): it issues, and the later steps follow while it holds its stream. -/
def execCrangeOpen (f : XmF) (s : State) : Out :=
  s.issue (.crangeOpen f) (some .lead) 0 12 (legalCrange f) (fun s => s.crangeBegin f)

/-- The first step of a close: the bounds are dropped on every core (R253 step 1). -/
def State.crangeCloseBegin (s : State) (f : XmF) : R State := do
  s.crangeCheck f
  let hit (r : CRange) : Bool :=
    r.valid && !r.closing && decide (r.base = crangeBase f s.w ∧ r.len = crangeLen f s.w ∧ r.fmt = crangeFmt f ∧ r.op = crangeOp f)
  match s.ranges.find? (fun p => hit p.2.2) with
  | none => .ok ((s.crangeIssued f none).crangeDone f.d9.toNat 2)
  | some (die, i, r) =>
    if !r.active then .error .stall
    else .ok ((s.modRange die i (fun r => { r with closing := true })).crangeIssued f (some (.closing die i f.d9.toNat)))

/-- Folds begun for lines that still have something to fold. -/
def State.foldLines (s : State) (ls : List Nat) : State :=
  match ls with
  | [] => s
  | l :: rest =>
    (if (s.dirOf l).fold.isNone && s.foldReady l then s.foldStart l [] else s).foldLines rest

/-- The later steps of a close (R253): every line is folded, then the entry is free, its format and bounds left as they are
(15 R359). -/
def State.crangeClosing (s : State) (die i d : Nat) : State :=
  let r := (s.die die).ranges.getD i CRange.empty
  let ls := ((s.dir.filter (fun p => r.holdsLine p.1 && !p.2.clean)).map (fun p => p.1))
  let late := s.net.any (fun n => match n.msg with | .holder _ l | .evicted _ l _ _ => r.holdsLine l | _ => false)
  if ls ≠ [] then s.foldLines ls
  else if late then s
  else (s.modRange die i (fun r => { r with valid := false, closing := false, active := false, pages := [] })).crangeDone d 0

/-- CRANGE close (R252, R253): it issues, and the later steps follow while it holds its stream. -/
def execCrangeClose (f : XmF) (s : State) : Out :=
  s.issue (.crangeClose f) (some .lead) 0 12 (legalCrange f) (fun s => s.crangeCloseBegin f)

/-! ## Phase instructions (R254; 09 R203) -/

/-- A phase form that holds its stream acts once the operations before it have performed at its scope (R254). -/
def State.phaseActs (s : State) (scope : Nat) (after : List Nat) (acq : Bool) : State :=
  if s.releaseDone s.w.core s.w.slot after scope then
    let s := s.modW (fun w => { w with holding := none })
    if acq then s.acquire s.w.core else s
  else s

/-- A phase form issues and holds its stream, at the following instruction, until it has acted: at once where nothing is
left to perform (R254). -/
def phaseBody (words scope : Nat) (acq : Bool) (s : State) : R State :=
  let after := s.memOps
  .ok (((s.modW (fun w => { w with holding := some (.phase scope after acq) })).advance words).phaseActs scope after acq)

/-- THE FORM THAT HOLDS THE LEAD STREAM goes on (R253, R254). It has issued, so no trap, save, pre-emption or limiter keeps
it from acting (R254; 17 R385, R394). -/
def State.holdStep (s : State) : State :=
  match s.w.holding with
  | some (.phase scope after acq) => s.phaseActs scope after acq
  | some (.opening die i d) => s.crangeOpening die i d
  | some (.closing die i d) => s.crangeClosing die i d
  | none => s

/-- PHREL, base form: `.dev` (R254). -/
def execPhrelBS (f : BaF) (s : State) : Out :=
  s.issue (.phrelBS f) (some .lead) 0 12 (legalPhBs f) (phaseBody (baWords f) 3 false)
/-- PHREL, extended form (R254). -/
def execPhrelXM (f : XmF) (s : State) : Out :=
  s.issue (.phrelXM f) (some .lead) 0 12 (legalPhXm f) (phaseBody (xmWords f) (phaseScope f.order.toNat) false)
/-- PHACQ, base form (R254). -/
def execPhacqBS (f : BaF) (s : State) : Out :=
  s.issue (.phacqBS f) (some .lead) 0 12 (legalPhBs f) (phaseBody (baWords f) 3 true)
/-- PHACQ, extended form (R254). -/
def execPhacqXM (f : XmF) (s : State) : Out :=
  s.issue (.phacqXM f) (some .lead) 0 12 (legalPhXm f) (phaseBody (xmWords f) (phaseScope f.order.toNat) true)
/-- PHASE, base form (R254). -/
def execPhaseBS (f : BaF) (s : State) : Out :=
  s.issue (.phaseBS f) (some .lead) 0 12 (legalPhBs f) (phaseBody (baWords f) 3 true)
/-- PHASE, extended form (R254). -/
def execPhaseXM (f : XmF) (s : State) : Out :=
  s.issue (.phaseXM f) (some .lead) 0 12 (legalPhXm f) (phaseBody (xmWords f) (phaseScope f.order.toNat) true)

end Sys2Proof.Machine
end

