-- ==== Sys2Proof/Machine/Abort.lean ====
section
/-! DEFINITION. The cluster abort lines: ABORT, POLLABT and sampling (02 R42 to R44; 07 R186, R187). -/
namespace Sys2Proof.Machine

/-- The family of a block of a range node: the cluster of its descriptor, and the family number (02 R38). -/
def State.family (s : State) (k : BKey) : Option (Nat × Nat) :=
  match s.block? k with
  | some b => b.desc.map (fun d => (d.1, ((s.cluster d.1).descs.getD d.2 RDesc.empty).family))
  | none => none

/-- A wave sees its family's line raised; a handler's wave does not sample (02 R43, 17 R388). -/
def State.lineRaised (s : State) (w : Wave) : Bool :=
  match s.family w.key with
  | some (g, f) => (s.cluster g).abortLines.contains f && !w.inTrap
  | none => false

/-- SAMPLING A RAISED LINE (02 R44): queues and stack empty, `exec` all lanes, the lead stream at its abort label and the
lane stream held, unless it had finished; with no label, as if both streams had finished. -/
def Wave.sampleAbort (w : Wave) : Wave :=
  let w : Wave :=
    { w with
      status := .running, lq := [], dq := [], rq := [], stack := [], spill := 0, exec := w.allLanes, aborted := true,
      yieldLead := 0, yieldLane := 0, sleepLead := none, sleepLane := none, parkCount := 0 }
  if w.k.abortPc = 0 then { w with leadDone := true, laneDone := true }
  else { w with leadPc := w.k.abortPc, leadDone := false, lanePc := if w.laneDone then w.lanePc else heldPc }

/-- A wave leaves the waiter lists and take queues of its objects (16 R380). -/
def Block.unwait (b : Block) (core slot : Nat) : Block :=
  let bar (x : Bar) : Bar := { x with waiters := x.waiters.filter (fun p => p != (core, slot)) }
  let sem (x : Sem) : Sem := { x with takes := x.takes.filter (fun p => p != (core, slot)) }
  { b with
    spanBars := b.spanBars.map bar
    segs := b.segs.map (fun (g : CoreSeg) => { g with sems := g.sems.map sem, bars := g.bars.map bar }) }

/-- The same over every block: a handle may name any block's object. -/
def State.unwait (s : State) (core slot : Nat) : State := { s with blocks := s.blocks.map (fun b => b.unwait core slot) }

/-- A wave parked where it samples in the cycle the line rises (02 R43). -/
def Wave.parkedSampler (w : Wave) : Bool :=
  match w.status with
  | .parked (.barwait _ _ _ _) | .parked (.consume _) => true
  | _ => false

/-- Parked samplers of a list that see their line raised. -/
def State.sampleParked (s : State) (l : List Wave) : State :=
  match l with
  | [] => s
  | w :: rest =>
    (if w.parkedSampler && s.lineRaised w then (s.unwait w.core w.slot).modWave w.core w.slot Wave.sampleAbort else s).sampleParked rest

/-- A record of a range node that belongs to a family, not yet placed (02 R42). -/
def QEntry.ofFamily (e : QEntry) (g f : Nat) : Bool := e.cmark && e.cluster == g && e.family == f

/-- The line of a family raised (02 R42): ABT in its descriptors, and its unplaced records leave the queues as void entries
(13 R286, R318). -/
def State.raiseAbort (s : State) (g f : Nat) : State :=
  let s := s.modCluster g (fun c =>
    { c with
      abortLines := insertAsc f c.abortLines
      descs := c.descs.map (fun (d : RDesc) => if d.valid ∧ d.family = f then { d with abt := true } else d) })
  let s := s.modDie (g / 12) (fun d =>
    { d with queues := d.queues.map (fun (q : Queue) =>
        { q with
          entries := q.entries.map (fun (e : QEntry) => if e.ofFamily g f && e.batch.isNone then { e with void := true } else e) }) })
  s.sampleParked s.allWaves

/-- ABORT: in a node that is not a range node it has no effect (07 R186). -/
def abortBody (s : State) : R State :=
  let s' := s.advance 1
  match s.family s.w.key with
  | some (g, f) => .ok (if (s.cluster g).abortLines.contains f then s' else s'.raiseAbort g f)
  | none => .ok s'

/-- ABORT (07 R186). -/
def execAbort (f : BaF) (s : State) : Out := s.issue (.abort f) (some .lead) 0 1 (legalBare f) abortBody

/-- POLLABT: a sampling point (07 R186). -/
def pollabtBody (s : State) : R State :=
  .ok (if s.lineRaised s.w then s.modW Wave.sampleAbort else s.advance 1)

/-- POLLABT (07 R186). -/
def execPollabt (f : BaF) (s : State) : Out := s.issue (.pollabt f) (some .lead) 0 1 (legalBare f) pollabtBody

end Sys2Proof.Machine
end

