-- ==== Sys2Proof/Machine/Sync.lean ====
section
/-! DEFINITION. Synchronisation objects: semaphores, barriers and join slots, their tags, signals and wakes (13 R303; 16
R369 to R379; 18 R414). -/
namespace Sys2Proof.Machine

/-! ## Objects (R369) -/

/-- A semaphore of a block. -/
def State.sem? (s : State) (k : BKey) (j n : Nat) : Option Sem :=
  (s.block? k).bind (fun b => (b.segs[j]?).bind (fun (g : CoreSeg) => g.sems[n]?))

/-- A barrier of a block: b0 to b31 of a core, b32 up of the span. -/
def State.bar? (s : State) (k : BKey) (j n : Nat) : Option Bar :=
  (s.block? k).bind (fun b => if n ≥ 32 then b.spanBars[n - 32]? else (b.segs[j]?).bind (fun (g : CoreSeg) => g.bars[n]?))

/-- A semaphore changed. -/
def State.modSem (s : State) (k : BKey) (j n : Nat) (f : Sem → Sem) : State :=
  s.modBlock k (fun b => { b with segs := modAt b.segs j (fun g => { g with sems := modAt g.sems n f }) })

/-- A barrier changed. -/
def State.modBar (s : State) (k : BKey) (j n : Nat) (f : Bar → Bar) : State :=
  s.modBlock k (fun b =>
    if n ≥ 32 then { b with spanBars := modAt b.spanBars (n - 32) f }
    else { b with segs := modAt b.segs j (fun g => { g with bars := modAt g.bars n f }) })

/-- CLASS of a tag (R371). -/
def tagClass (t : Nat) : Nat := bits t 0 2
/-- OWN of a tag (R371). -/
def tagOwn (t : Nat) : Bool := bit t 2
/-- A tag written (R371). -/
def tagOf (cls : Nat) (own : Bool) : Nat := cls % 4 + 4 * b2n own

/-- A wait on an object of a block is legal for a waiter (R372, 02 R51). -/
def waitLegal (tag : Nat) (owner waiter : BKey) : Bool :=
  tagClass tag == 0 || tagClass tag == 3 || (tagOwn tag && decide (owner = waiter))

/-- A block stands saved: its waves are not resident. -/
def State.isSaved (s : State) (k : BKey) : Bool :=
  match s.block? k with
  | some b => (match b.status with | .saved _ _ => true | _ => false)
  | none => false

/-! ## Wakes (R375, R377; 18 R414) -/

/-- A wave goes on after the instruction that parked it. -/
def Wave.goOn (w : Wave) (st : Stream) (len : Nat) : Wave :=
  { w.setPc st (w.pcOf st + 4 * len) with status := .running, parkCount := 0 }

/-- The stream and length of the instruction a parked wave waits in. -/
def Wave.waitsIn (w : Wave) : Stream × Nat :=
  match w.status with
  | .parked (.semwait st len _ _ _) => (st, len)
  | .parked (.barwait st len _ _) => (st, len)
  | .parked (.mwait len _) => (.lane, len)
  | .parked (.released st len) => (st, len)
  | _ => (.lead, 0)

/-- A parked wave wakes. -/
def Wave.wake (w : Wave) : Wave := w.goOn w.waitsIn.1 w.waitsIn.2

/-- A wave whose wait is satisfied and that the limiter has not yet admitted. -/
def Wave.hold (w : Wave) : Wave := { w with status := .parked (.released w.waitsIn.1 w.waitsIn.2) }

/-- The acquires of satisfied waits (09 R203). -/
def State.acquireAll (s : State) (l : List (Nat × Nat)) : State :=
  match l with
  | [] => s
  | p :: rest => (s.acquire p.1).acquireAll rest

/-- Waves changed. -/
def State.modWaves (s : State) (l : List (Nat × Nat)) (f : Wave → Wave) : State :=
  match l with
  | [] => s
  | p :: rest => (s.modWave p.1 p.2 f).modWaves rest f

/-- Clusters of waves, ascending. -/
def clustersOf (l : List (Nat × Nat)) : List Nat := l.foldl (fun acc p => insertAsc (clusterOf p.1) acc) []

/-- A deadline wave is among the waves of a cluster. -/
def State.anyDeadline (s : State) (l : List (Nat × Nat)) : Bool :=
  l.any (fun p => match s.wave? p.1 p.2 with | some w => w.deadline | none => false)

/-- The clusters of a mass release admitted at once: each whose level covers its restart cost (18 R414 step 1). -/
def State.admitNow (s : State) (l : List (Nat × Nat)) (cs : List Nat) (left : List (Nat × Nat)) : State × List (Nat × Nat) :=
  match cs with
  | [] => (s, left)
  | c :: rest =>
    let mine := l.filter (fun p => clusterOf p.1 == c)
    let cost := 64 * mine.length
    if s.anyDeadline mine || decide ((cost : Int) ≤ (s.cluster c).bucket) then
      ((s.charge (8 * c) cost).modWaves mine Wave.wake).admitNow l rest left
    else (s.modWaves mine Wave.hold).admitNow l rest (left ++ mine)

/-- SATISFIED WAITS: acquired, then woken; over two clusters or more the limiter admits them cluster by cluster
(18 R414). -/
def State.wakeAll (s : State) (l : List (Nat × Nat)) : State :=
  let s := s.acquireAll l
  let cs := clustersOf l
  if cs.length ≤ 1 then s.modWaves l Wave.wake
  else
    let p := s.admitNow l cs []
    match p.2 with
    | [] => p.1
    | w :: rest => { p.1 with mass := p.1.mass ++ [{ die := dieOf w.1, since := p.1.cycle, rotated := false, waves := w :: rest }] }

/-- The clusters of a die in the order of a rotation: after `c`, wrapping (18 R414 step 2). -/
def rotation (die c : Nat) : List Nat := (List.range 12).map (fun k => 12 * die + (c - 12 * die + 1 + k) % 12)

/-- One cluster of a mass release admitted in a later cycle. -/
def State.massStep (s : State) (m : MassRelease) : Option (State × MassRelease) :=
  let mine (c : Nat) : List (Nat × Nat) := m.waves.filter (fun p => clusterOf p.1 == c)
  let fits (c : Nat) : Bool :=
    mine c != [] && decide (((64 * (mine c).length : Nat) : Int) ≤ (s.cluster c).bucket)
  match (if m.since < s.cycle then (rotation m.die (s.die m.die).cbrot).find? fits else none) with
  | none => none
  | some c =>
    let s := (s.charge (8 * c) (64 * (mine c).length)).modWaves (mine c) Wave.wake
    let s := if m.rotated then s else s.modDie m.die (fun d => { d with cbrot := c })
    some (s, { m with since := s.cycle, rotated := true, waves := m.waves.filter (fun p => clusterOf p.1 != c) })

/-- On each die, the first mass release that can admit a cluster does so; `done` lists the dies that have. -/
def State.massAdmit (s : State) (before after : List MassRelease) (done : List Nat) : State :=
  match after with
  | [] => { s with mass := before }
  | m :: rest =>
    match (if done.contains m.die then none else s.massStep m) with
    | some (s', m') => s'.massAdmit (before ++ (if m'.waves = [] then [] else [m'])) rest (m.die :: done)
    | none => s.massAdmit (before ++ [m]) rest done

/-- MASS_RELEASE_ADMIT (18 R414). -/
def execMassReleaseAdmit (s : State) : Out := .next (s.massAdmit [] s.mass [])

/-! ## Semaphores (R375) -/

/-- Waves parked in SEMWAIT without `.take` on a semaphore whose threshold a count reaches. -/
def State.semReady (s : State) (o : ObjRef) (count : Nat) : List (Nat × Nat) :=
  s.allWaves.filterMap (fun w =>
    match w.status with
    | .parked (.semwait _ _ o' thr false) => if o' = o ∧ thr ≤ count then some (w.core, w.slot) else none
    | _ => none)

/-- The take queue served from its head: the count left, the waves completed and those that stay. -/
def State.serveTakes (s : State) (count : Nat) (q : List (Nat × Nat)) : Nat × List (Nat × Nat) × List (Nat × Nat) :=
  match q with
  | [] => (count, [], [])
  | p :: rest =>
    let thr := match s.wave? p.1 p.2 with
      | some w => (match w.status with | .parked (.semwait _ _ _ t true) => t | _ => 0)
      | none => 0
    if thr ≤ count then
      let r := s.serveTakes (count - thr) rest
      (r.1, p :: r.2.1, r.2.2)
    else (count, [], p :: rest)

/-- Parked waits judged after a change of a count: those without `.take` first, then the take queue (R375). -/
def State.judgeSem (s : State) (k : BKey) (j n : Nat) : State :=
  if s.isSaved k then s
  else
    match s.sem? k j n with
    | none => s
    | some x =>
      let ready := s.semReady (.sem k j n) x.count
      let r := s.serveTakes x.count x.takes
      (s.modSem k j n (fun x => { x with count := r.1, takes := r.2.2 })).wakeAll (ready ++ r.2.1)

/-- A semaphore's count changed, and its waits judged. -/
def State.changeSem (s : State) (k : BKey) (j n : Nat) (f : Sem → Sem) : State := (s.modSem k j n f).judgeSem k j n

/-- SEMINC: saturating. -/
def Sem.inc (n : Nat) (x : Sem) : Sem := { x with count := min (x.count + n) 0xFFFFFFFF }

/-! ## Barriers (R376, R377) -/

/-- A barrier's completion condition. -/
def Bar.ready (x : Bar) : Bool := decide (x.arr ≥ x.exp ∧ x.pend = 0)

/-- The cycle that runs where a barrier stands: on its core, for a span barrier the first core of the span. -/
def State.barCycle (s : State) (k : BKey) (j : Nat) : Nat :=
  match s.block? k with
  | some b => s.cycleOf (match b.segs[j]? with | some g => g.core | none => b.core0)
  | none => 0

/-- COMPLETION OF A PHASE at the end of a cycle, at most once in it (R377): arrivals leave, the phase toggles, the waiters
wake. -/
def State.completeBar (s : State) (k : BKey) (j n : Nat) : State :=
  match s.bar? k j n with
  | none => s
  | some x =>
    let now := s.barCycle k j
    if x.ready && !s.isSaved k && decide (x.next ≤ now) then
      (s.modBar k j n (fun x => { x with arr := x.arr - x.exp, phase := 1 - x.phase, waiters := [], next := now + 1 })).wakeAll
        x.waiters
    else s

/-- Arrivals, saturating. -/
def Bar.arrive (n : Nat) (x : Bar) : Bar := { x with arr := min (x.arr + n) 65535 }
/-- Bytes expected, with or without an arrival (R376). -/
def Bar.expect (n : Nat) (arr : Bool) (x : Bar) : Bar :=
  let x := { x with pend := (x.pend + n) % 2 ^ 24 }
  if arr then x.arrive 1 else x
/-- Bytes of a job subtracted (14 R335). -/
def Bar.paid (n : Nat) (x : Bar) : Bar := { x with pend := (x.pend + 2 ^ 24 - n % 2 ^ 24) % 2 ^ 24 }

/-- BARRIER_COMPLETES_AGAIN (R377): the condition holds at the end of a cycle, the first after a change or a later one; `b`
is the block's place in the list. -/
def execBarrierCompletesAgain (b : Nat) (j : Nat) (n : Nat) (s : State) : Out :=
  .next (match s.blocks[b]? with | some x => s.completeBar x.key j n | none => s)

/-- The barriers of a block, by span core and number. -/
def Block.barList (b : Block) : List (Nat × Nat) :=
  b.segs.zipIdx.flatMap (fun p => (List.range p.1.bars.length).map (fun n => (p.2, n)))
    ++ (List.range b.spanBars.length).map (fun n => (0, 32 + n))

/-- Some barriers of a block judged. -/
def State.completeBars (s : State) (k : BKey) (l : List (Nat × Nat)) : State :=
  match l with
  | [] => s
  | p :: rest => (s.completeBar k p.1 p.2).completeBars k rest

/-- Every barrier of some blocks judged. -/
def State.completeBlocks (s : State) (l : List Block) : State :=
  match l with
  | [] => s
  | b :: rest => (s.completeBars b.key b.barList).completeBlocks rest

/-- THE END OF A CYCLE for the barriers, after every request of the cycle (R377, R379). -/
def State.endBarriers (s : State) : State := s.completeBlocks s.blocks

/-! ## Joins (R378; 13 R303) -/

/-- A join slot as LOAD_GRAPH leaves it (15 R358). -/
def JoinSlot.empty : JoinSlot := { count := 0, tag := 0, held := none, node := 0, recidx := 0 }

/-- A join slot of a die (15 R358): reset values where nothing was written. -/
def State.join (s : State) (die slot : Nat) : JoinSlot :=
  match (s.die die).joins.find? (fun p => p.1 == slot) with
  | some p => p.2
  | none => JoinSlot.empty

/-- A join slot changed; an unused one is not listed. -/
def State.setJoin (s : State) (die slot : Nat) (x : JoinSlot) : State :=
  s.modDie die (fun d =>
    { d with joins :=
        sortBy (fun p => p.1) ((d.joins.filter (fun p => p.1 != slot)) ++
          (if x = JoinSlot.empty then [] else [(slot, x)])) })

/-- Release of a join slot: HELD is cleared and the record goes to its queue's arbiter, after the arbiter's earlier releases
(13 R289, R303); the join arbiter of a die sends as slot 1 + die of core 192. -/
def State.releaseJoin (s : State) (die slot : Nat) : State :=
  let x := s.join die slot
  match x.held with
  | some r => (s.setJoin die slot { x with held := none }).sendAfter 192 (1 + die) [] 0 (.record [{ r with join := none }])
  | none => s

/-! ## Signals applied (R374, R378) -/

/-- The active lanes with which a posting operation issued, kept in its destination. -/
def Op.lanes (o : Op) : Nat := match o.dst with | .lanes _ _ m _ => m | _ => 0

/-- A deferred fault posted to the wave behind an operation. -/
def State.postTo (s : State) (tell : AckTo) (cause taddr detail : Nat) : State :=
  match tell with
  | .wave core slot op =>
    s.modWave core slot (fun w =>
      match w.ops.find? (fun o => o.id == op) with
      | some o => w.post o cause o.lanes taddr detail
      | none => w)
  | _ => s

/-- A signal's change applied to its object. -/
def State.applySignal (s : State) (tell : AckTo) (x : Signal) : State :=
  match x with
  | .seminc (.sem k j n) m => if m = 0 then s else s.changeSem k j n (Sem.inc m)
  | .semset (.sem k j n) m tag => s.changeSem k j n (fun x => { x with count := m, tag := tag })
  | .barinit (.bar k j n) m tag =>
    s.modBar k j n (fun x => { x with exp := m, arr := 0, pend := 0, phase := 0, tag := tag })
  | .bararr (.bar k j n) m => s.modBar k j n (Bar.arrive m)
  | .barexp (.bar k j n) m arr => s.modBar k j n (Bar.expect m arr)
  | .barpend (.bar k j n) m => s.modBar k j n (Bar.paid m)
  | .joinset die slot m tag =>
    let s := s.setJoin die slot { s.join die slot with count := m, tag := tag }
    if m = 0 then s.releaseJoin die slot else s
  | .joinadd die slot m =>
    let x := s.join die slot
    if x.count + m > 65535 then s.postTo tell causeJoin 0 (slot <<< 11)
    else s.setJoin die slot { x with count := x.count + m }
  | .joindec die slot m =>
    let x := s.join die slot
    if m > x.count then s.postTo tell causeJoin 0 (slot <<< 11)
    else
      let s := s.setJoin die slot { x with count := x.count - m }
      if m > 0 ∧ x.count = m then s.releaseJoin die slot else s
  | _ => s

/-- An operation of a wave finished. -/
def State.finishOp (s : State) (tell : AckTo) : State :=
  match tell with
  | .wave core slot op => s.modOp core slot op (fun o => { o with done := true })
  | _ => s

/-- SIGNAL_APPLY (R374, R378): the change is made once the signal's release has completed. -/
def signalApplyStep (i : Nat) (s : State) : State :=
  match s.arrives i with
  | none => s
  | some n =>
    match n.msg with
    | .signal tell x _ => ((s.taken i).applySignal tell x).finishOp tell
    | _ => s

/-- SIGNAL_APPLY (R374). -/
def execSignalApply (i : Nat) (s : State) : Out := .next (signalApplyStep i s)

end Sys2Proof.Machine
end

