-- ==== Sys2Proof/Machine/SyncOps.lean ====
section
/-! DEFINITION. The instructions of majors 0x3C and 0x3D: WAIT, semaphores, barriers and joins (16 R367 to R381). -/
namespace Sys2Proof.Machine

/-- Words of an XS form. -/
def xsWords (f : XsF) : Nat := if f.lit.isSome then 5 else 3

/-! ## WAIT (R367, R368) -/

/-- The 21 bits of word 0 that hold WAIT's fields (03 R75). -/
def waitBits (f : XsF) : Nat := f.sel9.toNat + f.imm12.toNat * 512

/-- The field of a class in a WAIT, none where it is all ones (03 R75). -/
def waitField (f : XsF) (c : OpCls) : Option Nat :=
  let lim (v top : Nat) : Option Nat := if v = top then none else some v
  match c with
  | .laneLd | .leadLd => lim (bits (waitBits f) 0 6) 63
  | .laneSt | .leadSt => lim (bits (waitBits f) 6 6) 63
  | .laneMx => lim (bits (waitBits f) 12 6) 63
  | .leadCp => lim (bits (waitBits f) 12 4) 15
  | .laneQo | .leadQo => lim (bits f.imm8.toNat 0 5) 31

/-- The classes of a stream. -/
def classesOf (st : Stream) : List OpCls :=
  match st with
  | .lane => [.laneLd, .laneSt, .laneMx, .laneQo]
  | .lead => [.leadLd, .leadSt, .leadCp, .leadQo]

/-- Which encodings of WAIT are legal in a stream (R368). -/
def legalWait (st : Stream) (f : XsF) : Option EncFault :=
  opcodeFirst [
    faultIf f.lit.isSome (.opcode 4), zeroField (f.d9 != 0#9), zeroField (f.a9 != 0#9), zeroField (f.b9 != 0#9),
    zeroField (f.xop != 0#5), zeroField (f.c9 != 0#9), zeroField (f.rsvd1 != 0#4), zeroField (f.kmask != 0#3),
    zeroField (f.rsvd2 != 0#4), zeroField (f.order != 0#4), zeroField (bits f.imm8.toNat 5 3 != 0),
    zeroField (bits (waitBits f) 18 3 != 0), zeroField (decide (st = .lead) && bits (waitBits f) 16 2 != 0)]

/-- Every class counter of the stream is at or below its field. -/
def waitReady (f : XsF) (w : Wave) (st : Stream) : Bool :=
  (classesOf st).all (fun c => match waitField f c with | some n => decide (w.counter c ≤ n) | none => true)

/-- The WAIT requires the operation that posted the pending deferred fault (R367). -/
def waitSelects (f : XsF) (w : Wave) (st : Stream) : Bool :=
  match w.takable with
  | some d =>
    decide (d.cls.stream = st) && (match waitField f d.cls with | some n => decide (n ≤ d.later) | none => false)
  | none => false

/-- WAIT (R368). -/
def waitBody (f : XsF) (s : State) : R State :=
  if !waitReady f s.w s.st then .error .stall
  else if waitSelects f s.w s.st then .error .deferred
  else .ok (s.advance (xsWords f))

/-- WAIT (R368). -/
def execWait (f : XsF) (s : State) : Out := s.issue (.wait f) none 0 8 (legalWait s.st f) (waitBody f)

/-! ## Encodings of the signal and wait forms (R370, R373) -/

/-- What a page of a synchronisation form says: a join form, a use of `xop`[3], and the limits of `b9`. -/
structure SyncSpec where
  join : Bool
  flag : Bool
  lo : Nat
  hi : Nat
deriving DecidableEq, Repr

/-- Handle naming (R370). -/
def isHandle (f : XsF) : Bool := f.imm12.getLsbD 0
/-- `.eng`, `.take` or `.noarr` (R373). -/
def xopFlag (f : XsF) : Bool := f.xop.getLsbD 3

/-- A handle operand in a stream (R370). -/
def handleFault (st : Stream) (i : BitVec 9) : Option EncFault :=
  match st with
  | .lane =>
    match laneIx i.toNat with
    | .reserved => some (.opcode 1)
    | .v n => faultIf (decide (n > 318)) (.operand 1)
    | .c n => faultIf (decide (n > 30)) (.operand 1)
    | .lit => none
    | _ => some (.operand 1)
  | .lead =>
    match leadIx9 i.toNat with
    | .reserved => some (.opcode 1)
    | .s _ | .lit => none
    | _ => some (.operand 1)

/-- Any readable source in a stream (06 R131, 07 R165). -/
def sourceFault (st : Stream) (i : BitVec 9) (which : Nat) : Option EncFault :=
  match st with
  | .lane => anySrcFault i.toNat which
  | .lead => leadSrcFault (leadIx9 i.toNat)

/-- Which encodings of a synchronisation form are legal in a stream (R370, R373; 09 R204). -/
def legalSync (sp : SyncSpec) (st : Stream) (f : XsF) : Option EncFault :=
  let h := isHandle f && !sp.join
  let litA := isLitIx f.a9 && (h || sp.join)
  let litB := isLitIx f.b9
  opcodeFirst [
    badValue (!phaseOrders.contains f.order.toNat),
    badValue (!h && !sp.join && decide (f.sel9.toNat > 63)),
    zeroField (h && f.sel9 != 0#9),
    zeroField (f.d9 != 0#9), zeroField (f.c9 != 0#9), zeroField (f.imm8 != 0#8), zeroField (f.rsvd1 != 0#4),
    zeroField (f.rsvd2 != 0#4), zeroField (decide (f.imm12.toNat / 2 ≠ 0)), zeroField (sp.join && isHandle f),
    zeroField (f.xop.toNat % 8 != 0 || f.xop.toNat / 16 != 0), zeroField (!sp.flag && xopFlag f),
    zeroField (decide (st = .lead) && f.kmask != 0#3),
    (if h then handleFault st f.a9 else if sp.join then sourceFault st f.a9 1 else zeroField (f.a9 != 0#9)),
    sourceFault st f.b9 2,
    litFault f.lit (litA || litB) (if litB || sp.join then 32 else 64)]

/-! ## Operands and objects (R370, R372, R374) -/

/-- The operand indices of a form, `a9` where it is used; the lane stream reads a handle from a pair. -/
def SyncSpec.handleIxs (sp : SyncSpec) (st : Stream) (f : XsF) : List Nat :=
  if isHandle f || sp.join then (match st with | .lead => [f.a9.toNat] | .lane => wideSrc f.a9.toNat (if sp.join then 1 else 2))
  else []

/-- REG_ALLOC of operand indices in the issuing stream. -/
def State.ixsAlloc (s : State) (f : XsF) (ixs : List Nat) : R Unit :=
  match s.st with
  | .lead => s.sregCheck (leadRegs (ixs.map leadIx9))
  | .lane => s.regCheck (s.w.active f.kmask.toNat) (vRegs ixs)

/-- The operands of a form, ready: the value of `a9` where it is used, and of `b9`, a u32 to which the lead stream converts a
literal or an inline integer (03 R61, R62; entry 35); none in the lane stream with no lane active. -/
def State.syncRead (s : State) (sp : SyncSpec) (f : XsF) : R (Option (Nat × Nat)) :=
  let ixs := sp.handleIxs s.st f ++ [f.b9.toNat]
  match s.st with
  | .lead => do
    s.leadReady (ixs.map leadIx9) []
    let x := leadIx9 f.b9.toNat
    let b := s.w.leadVal f.lit x
    .ok (some (s.w.leadVal f.lit (leadIx9 f.a9.toNat), match x with | .lit | .imm _ => b % 2 ^ 32 | _ => b))
  | .lane =>
    match lowestLane (s.w.active f.kmask.toNat) s.w.lanes with
    | none => .ok none
    | some l => do
      s.laneReady ixs []
      .ok (some (if sp.join then s.w.src f.lit f.a9.toNat l else s.w.src64 f.lit f.a9.toNat l, s.w.src f.lit f.b9.toNat l))

/-- The operands of a form, ready and allocated. -/
def State.syncVals (s : State) (sp : SyncSpec) (f : XsF) : R (Option (Nat × Nat)) := do
  let v ← s.syncRead sp f
  if v.isSome then s.ixsAlloc f (sp.handleIxs s.st f ++ [f.b9.toNat]) else .ok ()
  .ok v

/-- The queue entries that the operands pop. -/
def State.syncPop (s : State) (sp : SyncSpec) (f : XsF) : State :=
  let useA := isHandle f || sp.join
  match s.st with
  | .lead => s.modW (fun w => w.popRq ((if useA then [leadIx9 f.a9.toNat] else []) ++ [leadIx9 f.b9.toNat]))
  | .lane => s.modW (fun w => w.popUsed ((if useA then [f.a9.toNat] else []) ++ [f.b9.toNat]))

/-- Lanes that a fault of these forms reports (R381). -/
def State.syncLanes (s : State) (f : XsF) : Nat := s.encLanes f.kmask.toNat

/-- The block of a die that a handle names (R370): one of the namer's own grid where BLOCKIDs of several grids coincide
(entry 36). -/
def State.handleBlock (s : State) (die node blk : Nat) (own : BKey) : Option Block :=
  let mine := s.blocks.filter (fun b => b.die == die && b.key.node == node && b.key.blk == blk)
  match mine.find? (fun b => b.key.grid == own.grid) with
  | some b => some b
  | none => mine.head?

/-- The block, span core and number that a form names: its own, or its handle's (R370). -/
def State.nameOf (s : State) (f : XsF) (a : Nat) : R (BKey × Nat × Nat) :=
  if !isHandle f then .ok (s.w.key, s.w.j, f.sel9.toNat)
  else
    let bad : R (BKey × Nat × Nat) := .error (.trap causeOperand (s.syncLanes f) 0 (3 <<< 11))
    if bits a 59 5 ≠ 0 then bad
    else
      match s.handleBlock (dieOf s.w.core) (bits a 11 16) (bits a 27 32) s.w.key with
      | none => bad
      | some b => .ok (b.key, bits a 6 5, bits a 0 6)

/-- The semaphore that a form names. -/
def State.semOf (s : State) (f : XsF) (a : Nat) : R (BKey × Nat × Nat × Sem) := do
  let (k, j, n) ← s.nameOf f a
  match s.sem? k j n with
  | some x => .ok (k, j, n, x)
  | none => .error (.trap causeOperand (s.syncLanes f) 0 (3 <<< 11))

/-- The barrier that a form names. -/
def State.barOf (s : State) (f : XsF) (a : Nat) : R (BKey × Nat × Nat × Bar) := do
  let (k, j, n) ← s.nameOf f a
  let beyond := match s.block? k with | some b => decide ((n < 32 ∨ n ≥ 48) ∧ j ≥ b.k) | none => false
  if beyond then .error (.trap causeOperand (s.syncLanes f) 0 (3 <<< 11))
  match (if n < 48 then s.bar? k j n else none) with
  | some x => .ok (k, if n ≥ 32 then 0 else j, n, x)
  | none => .error (.trap causeBarrier (s.syncLanes f) 0 (n <<< 11))

/-- A value outside its row's limits (R373, R374). -/
def State.limits (s : State) (sp : SyncSpec) (f : XsF) (b : Nat) : R Unit :=
  if b < sp.lo ∨ b > sp.hi then .error (.trap causeOperand (s.syncLanes f) 0 (2 <<< 11)) else .ok ()

/-- A wave signal to an object that engines signal (R372). -/
def State.engineCheck (s : State) (f : XsF) (tag : Nat) : R Unit :=
  if tagClass tag = 3 then .error (.trap causeOperand (s.syncLanes f) 0 (3 <<< 11)) else .ok ()

/-- The tag that SEMSET, BARINIT and JOINSET write (R371). -/
def State.newTag (s : State) (f : XsF) (own : Bool) : Nat :=
  if xopFlag f then tagOf 3 false else tagOf (s.w.pcls % 4) own

/-- The class of signals of a stream. -/
def qoClass (st : Stream) : OpCls := match st with | .lane => .laneQo | .lead => .leadQo

/-- A SIGNAL POSTED (R374): it is counted, and applied once its release at its scope completes (09 R203, R204). -/
def State.postSignal (s : State) (i : Instr) (f : XsF) (join : Bool) (x : Signal) : State :=
  let part := scopeOf f.order.toNat
  let scope := if part = 0 then (if join then 3 else 1) else part
  let id := s.nextId
  let o : Op :=
    { id := id, cls := qoClass s.st, tinfo := tinfoOf i, pc := s.w.pcOf s.st, left := 0, leftDie := 0, leftAll := 0,
      pushes := false, dst := .lanes 0 0 (s.syncLanes f) 0, acq := false, got := [], bad := [], done := false }
  let after := s.memOps
  (s.addOp o).sendAfter s.w.core s.w.slot after scope (.signal (.wave s.w.core s.w.slot id) x (dieOf s.w.core))

/-- What stops a form with an operand that is not allocated: ILLEGAL_OPERAND of an operand that is, which stands above
REG_ALLOC (17 R383): a value outside its limits, or an object that `act` refuses, which it judges by the handle alone. -/
def State.syncStop (s : State) (sp : SyncSpec) (f : XsF) (a b : Nat) (act : State → Nat → Nat → R State) (e : Stop) : Stop :=
  match s.ixsAlloc f [f.b9.toNat], s.limits sp f b with
  | .ok _, .error l => l
  | _, _ =>
    match s.ixsAlloc f (sp.handleIxs s.st f), act (s.syncPop sp f) a b with
    | .ok _, .error (.trap c fl ta ti) => if c = causeOperand then .trap c fl ta ti else e
    | _, _ => e

/-- A synchronisation form: what it does given its operands (R374). -/
def syncBody (sp : SyncSpec) (f : XsF) (act : State → Nat → Nat → R State) (s : State) : R State := do
  match ← s.syncRead sp f with
  | none => .ok (s.advance (xsWords f))
  | some (a, b) =>
    match s.ixsAlloc f (sp.handleIxs s.st f ++ [f.b9.toNat]) with
    | .error e => .error (s.syncStop sp f a b act e)
    | .ok _ => do
      s.limits sp f b
      act (s.syncPop sp f) a b

/-- A signal form: its counter has room where it acts, and the posted signal leaves the stream going on (R365, R374). -/
def signalBody (i : Instr) (sp : SyncSpec) (f : XsF) (mk : State → Nat → Nat → R Signal) (s : State) : R State := do
  if s.st = .lead ∨ lowestLane (s.w.active f.kmask.toNat) s.w.lanes ≠ none then s.counterRoom (qoClass s.st) else .ok ()
  syncBody sp f (fun s a b => do
    let x ← mk s a b
    .ok ((s.postSignal i f sp.join x).advance (xsWords f))) s

/-! ## Semaphores (R375) -/

/-- SEMINC and SEMSET, SEMWAIT: u32. -/
def specSem (flag : Bool) : SyncSpec := { join := false, flag := flag, lo := 0, hi := 0xFFFFFFFF }

/-- SEMINC (R375). -/
def semincSignal (f : XsF) (s : State) (a b : Nat) : R Signal := do
  let (k, j, n, x) ← s.semOf f a
  s.engineCheck f x.tag
  .ok (.seminc (.sem k j n) b)

/-- SEMINC (R375). -/
def execSeminc (f : XsF) (s : State) : Out :=
  s.issue (.seminc f) none f.kmask.toNat 8 (legalSync (specSem false) s.st f)
    (signalBody (.seminc f) (specSem false) f (semincSignal f))

/-- SEMSET (R371, R375). -/
def semsetSignal (f : XsF) (s : State) (a b : Nat) : R Signal := do
  let (k, j, n, x) ← s.semOf f a
  if xopFlag f then .ok () else s.engineCheck f x.tag
  .ok (.semset (.sem k j n) b (s.newTag f (decide (k = s.w.key))))

/-- SEMSET (R375). -/
def execSemset (f : XsF) (s : State) : Out :=
  s.issue (.semset f) none f.kmask.toNat 8 (legalSync (specSem true) s.st f)
    (signalBody (.semset f) (specSem true) f (semsetSignal f))

/-- ILLEGAL_WAIT and its detail (R372, 17 R384): object 0 semaphore, 1 barrier. -/
def State.waitCheck (s : State) (f : XsF) (obj tag : Nat) (k : BKey) : R Unit :=
  if waitLegal tag k s.w.key then .ok ()
  else .error (.trap causeWait (s.syncLanes f) 0 ((obj <<< 11) + (tagClass tag <<< 13) + (b2n (tagOwn tag) <<< 15)))

/-- A wait satisfied at issue: an acquire (09 R203). -/
def State.waitDone (s : State) (words : Nat) : State := (s.acquire s.w.core).advance words

/-- A wave joins the tail of a take queue: those that park in one cycle stand in ascending wave slot order (R375). -/
def State.joinTakes (s : State) (p : Nat × Nat) (q : List (Nat × Nat)) : List (Nat × Nat) :=
  let now (x : Nat × Nat) : Bool := match s.wave? x.1 x.2 with | some w => w.parkCount == 0 | none => false
  q.filter (fun x => !now x) ++ sortBy (fun x => 256 * x.2 + x.1) (q.filter now ++ [p])

/-- The issuing wave parks. -/
def State.park (s : State) (p : Park) : State := s.modW (fun w => { w with status := .parked p, parkCount := 0 })

/-- SEMWAIT (R372, R375). -/
def semwaitBody (f : XsF) : State → R State :=
  syncBody (specSem true) f (fun s a b => do
    let (k, j, n, x) ← s.semOf f a
    s.waitCheck f 0 x.tag k
    let take := xopFlag f
    let now := decide (x.count ≥ b) && !s.isSaved k && (!take || decide (x.takes = []))
    if now then
      .ok ((if take then s.modSem k j n (fun x => { x with count := x.count - b }) else s).waitDone (xsWords f))
    else
      let p := (s.w.core, s.w.slot)
      let s := s.park (.semwait s.st (xsWords f) (.sem k j n) b take)
      .ok (if take then s.modSem k j n (fun x => { x with takes := s.joinTakes p x.takes }) else s))

/-- SEMWAIT (R375). -/
def execSemwait (f : XsF) (s : State) : Out :=
  s.issue (.semwait f) none f.kmask.toNat 8 (legalSync (specSem true) s.st f) (semwaitBody f)

/-! ## Barriers (R376, R377) -/

/-- BARINIT, BARARR. -/
def specBar (flag : Bool) : SyncSpec := { join := false, flag := flag, lo := 1, hi := 65535 }
/-- BAREXP. -/
def specBarexp : SyncSpec := { join := false, flag := true, lo := 0, hi := 2 ^ 24 - 1 }
/-- BARWAIT. -/
def specBarwait : SyncSpec := { join := false, flag := false, lo := 0, hi := 1 }

/-- BARINIT: not while waves wait (R376). -/
def barinitSignal (f : XsF) (s : State) (a b : Nat) : R Signal := do
  let (k, j, n, x) ← s.barOf f a
  if x.waiters ≠ [] then .error (.trap causeOperand (s.syncLanes f) 0 (3 <<< 11))
  .ok (.barinit (.bar k j n) b (s.newTag f (decide (k = s.w.key))))

/-- BARINIT (R376). -/
def execBarinit (f : XsF) (s : State) : Out :=
  s.issue (.barinit f) none f.kmask.toNat 8 (legalSync (specBar true) s.st f)
    (signalBody (.barinit f) (specBar true) f (barinitSignal f))

/-- BARARR (R376). -/
def bararrSignal (f : XsF) (s : State) (a b : Nat) : R Signal := do
  let (k, j, n, x) ← s.barOf f a
  s.engineCheck f x.tag
  .ok (.bararr (.bar k j n) b)

/-- BARARR (R376). -/
def execBararr (f : XsF) (s : State) : Out :=
  s.issue (.bararr f) none f.kmask.toNat 8 (legalSync (specBar false) s.st f)
    (signalBody (.bararr f) (specBar false) f (bararrSignal f))

/-- BAREXP (R376). -/
def barexpSignal (f : XsF) (s : State) (a b : Nat) : R Signal := do
  let (k, j, n, x) ← s.barOf f a
  if xopFlag f then .ok () else s.engineCheck f x.tag
  .ok (.barexp (.bar k j n) b (!xopFlag f))

/-- BAREXP (R376). -/
def execBarexp (f : XsF) (s : State) : Out :=
  s.issue (.barexp f) none f.kmask.toNat 8 (legalSync specBarexp s.st f)
    (signalBody (.barexp f) specBarexp f (barexpSignal f))

/-- BARWAIT (R372, R377): the tag, then the abort line, then the phase. -/
def barwaitBody (f : XsF) : State → R State :=
  syncBody specBarwait f (fun s a b => do
    let (k, j, n, x) ← s.barOf f a
    s.waitCheck f 1 x.tag k
    if s.lineRaised s.w then .ok (s.modW Wave.sampleAbort)
    else if x.phase ≠ b ∧ !s.isSaved k then .ok (s.waitDone (xsWords f))
    else
      let p := (s.w.core, s.w.slot)
      .ok ((s.park (.barwait s.st (xsWords f) (.bar k j n) b)).modBar k j n (fun x => { x with waiters := x.waiters ++ [p] })))

/-- BARWAIT (R377). -/
def execBarwait (f : XsF) (s : State) : Out :=
  s.issue (.barwait f) none f.kmask.toNat 8 (legalSync specBarwait s.st f) (barwaitBody f)

/-! ## Joins (R378) -/

/-- The join forms. -/
def specJoin : SyncSpec := { join := true, flag := false, lo := 0, hi := 65535 }

/-- The slot of a join form (R378). -/
def State.slotOf (s : State) (f : XsF) (a : Nat) : R Nat :=
  let slot := f.sel9.toNat + a % 2 ^ 32
  if slot ≥ 1048576 then .error (.trap causeOperand (s.syncLanes f) 0 (1 <<< 11)) else .ok slot

/-- JOINSET (R378). -/
def joinsetSignal (f : XsF) (s : State) (a b : Nat) : R Signal := do
  let slot ← s.slotOf f a
  .ok (.joinset (dieOf s.w.core) slot b (tagOf (s.w.pcls % 4) false))

/-- JOINSET (R378). -/
def execJoinset (f : XsF) (s : State) : Out :=
  s.issue (.joinset f) none f.kmask.toNat 8 (legalSync specJoin s.st f)
    (signalBody (.joinset f) specJoin f (joinsetSignal f))

/-- JOINADD (R378). -/
def joinaddSignal (f : XsF) (s : State) (a b : Nat) : R Signal := do
  let slot ← s.slotOf f a
  s.engineCheck f (s.join (dieOf s.w.core) slot).tag
  .ok (.joinadd (dieOf s.w.core) slot b)

/-- JOINADD (R378). -/
def execJoinadd (f : XsF) (s : State) : Out :=
  s.issue (.joinadd f) none f.kmask.toNat 8 (legalSync specJoin s.st f)
    (signalBody (.joinadd f) specJoin f (joinaddSignal f))

/-- JOINDEC (R378). -/
def joindecSignal (f : XsF) (s : State) (a b : Nat) : R Signal := do
  let slot ← s.slotOf f a
  s.engineCheck f (s.join (dieOf s.w.core) slot).tag
  .ok (.joindec (dieOf s.w.core) slot b)

/-- JOINDEC (R378). -/
def execJoindec (f : XsF) (s : State) : Out :=
  s.issue (.joindec f) none f.kmask.toNat 8 (legalSync specJoin s.st f)
    (signalBody (.joindec f) specJoin f (joindecSignal f))

end Sys2Proof.Machine
end

