-- ==== Sys2Proof/Machine/Matrix.lean ====
section
/-! DEFINITION. The matrix engine and the instructions of majors 0x30 and 0x31 (12 R256 to R282). -/
namespace Sys2Proof.Machine

/-! ## Encodings (R257 to R259, R266) -/

/-- What a page of a matrix form lets a source field name. -/
inductive MK where
  /-- unused: must be zero -/
  | none
  /-- any readable source but the ports (R259) -/
  | src
  /-- the same, read as SC8: no inline integer (03 R62) -/
  | scale
  /-- v0 to v316 -/
  | quad
deriving DecidableEq, Repr

/-- The fields that a matrix form uses (R258). -/
structure XtUse where
  types : List Nat
  int : Bool
  tile : Bool
  aux : Bool
  imm9 : Nat
  imm8 : Nat
  kmask : Bool
  skew : Bool
  rounds : Bool
  d : DK
  a : MK
  b : MK
  c : MK
deriving DecidableEq, Repr

/-- The fault of a source field of a matrix form; `w` is its operand number. -/
def matFault (k : MK) (i : BitVec 9) (w : Nat) : Option EncFault :=
  match k with
  | .none => zeroField (i != 0#9)
  | .quad =>
    match laneIx i.toNat with
    | .reserved => some (.opcode 1)
    | .v n => faultIf (decide (n > 316)) (.operand w)
    | _ => some (.operand w)
  | .src | .scale =>
    match laneIx i.toNat with
    | .reserved => some (.opcode 1)
    | .lq | .dq | .rq => some (.operand w)
    | .imm _ => faultIf (decide (k = .scale)) (.opcode 0)
    | _ => none

/-- A source field that the form uses names the literal. -/
def MK.namesLit (k : MK) (i : BitVec 9) : Bool := decide (k ≠ .none) && isLitIx i

/-- The rounding and saturation settings of MMA and MPAIR (R266, 05 R116). -/
def mmaRnd (f : XtF) : Option EncFault :=
  let int := f.xop == 12#5
  let sto := f.rnd == 5#3
  badValue ((int && f.rnd != 0#3) || (sto && !xtScaled f) || (sto && decide (f.c9.toNat > 318)))

/-- Which encodings of a matrix form are legal (R257, R258). -/
def legalXt (u : XtUse) (f : XtF) : Option EncFault :=
  opcodeFirst [
    badValue (!u.types.contains (f.xop.toNat % 8)),
    badValue (decide (f.xop.toNat / 8 > (if u.int ∧ f.xop.toNat % 8 = 4 then 1 else 0))),
    (if u.rounds then mmaRnd f else badValue (f.rnd != 0#3 || f.sat != 0#1)),
    zeroField (!u.tile && f.tile != 0#6), zeroField (!u.aux && f.aux6 != 0#6),
    zeroField (decide (f.imm9.toNat > u.imm9)), zeroField (decide (f.imm8.toNat > u.imm8)),
    zeroField (!u.kmask && f.kmask != 0#3), zeroField (!u.skew && f.skew != 0#1), zeroField (f.rsvd1 != 0#7),
    dstFault u.d f.d9, litDst f.lit f.d9, matFault u.a f.a9 1, matFault u.b f.b9 2, matFault u.c f.c9 3,
    litFault f.lit (u.a.namesLit f.a9 || u.b.namesLit f.b9 || u.c.namesLit f.c9) 32]

/-- MMA; MPAIR with `aux`. -/
def useMma (aux : Bool) (f : XtF) : XtUse :=
  { types := [1, 2, 3, 4], int := true, tile := true, aux := aux, imm9 := if f.skew = 1#1 then 3 else 0,
    imm8 := if xtScaled f then 15 else 0, kmask := true, skew := true, rounds := true, d := .none, a := .src, b := .src,
    c := if xtScaled f then .scale else .none }

/-- A form that uses no field. -/
def useNone : XtUse :=
  { types := [0], int := false, tile := false, aux := false, imm9 := 0, imm8 := 0, kmask := false, skew := false,
    rounds := false, d := .none, a := .none, b := .none, c := .none }

/-- The types f32 and i32 of the moves (R257, 03 R69). -/
def moveTypes : List Nat := [0, 5]
/-- MZERO -/
def useMzero : XtUse := { useNone with types := moveTypes, tile := true, imm9 := 63 }
/-- MRD -/
def useMrd : XtUse := { useNone with types := moveTypes, tile := true, kmask := true, d := .vquad }
/-- MWR -/
def useMwr : XtUse := { useNone with types := moveTypes, tile := true, kmask := true, a := .quad }
/-- MLDT, MSTORE -/
def useMove (f : XtF) : XtUse :=
  { useNone with types := moveTypes, tile := true, skew := true, a := .src, b := if f.skew = 1#1 then .src else .none }
/-- MFENCE -/
def useMfence : XtUse := { useNone with d := .any }
/-- MWAIT -/
def useMwait : XtUse := { useNone with a := .src }
/-- MSIG -/
def useMsig : XtUse := { useNone with aux := true, a := .src, b := .src }

/-! ## Operands and checks at issue (R259, R260, R265, R272 to R275, R283) -/

/-- Words of an XT form. -/
def xtWords (f : XtF) : Nat := if f.lit.isSome then 5 else 3

/-- Octets of a mask whose eight lanes are all in it (R260). -/
def octetsOf (m : Nat) : List Nat := (List.range 8).filter (fun o => bits m (8 * o) 8 == 255)

/-- Octets of a mask that hold some but not all of their lanes. -/
def partialOctets (m : Nat) : List Nat :=
  (List.range 8).filter (fun o => bits m (8 * o) 8 != 255 && bits m (8 * o) 8 != 0)

/-- The lanes of some octets. -/
def octetLanes (os : List Nat) : Nat := os.foldl (fun m o => m ||| (255 <<< (8 * o))) 0

/-- The other core of a pair (01 R10). -/
def partner (core : Nat) : Nat := core ^^^ 1

/-- A source over the lanes of the wave. -/
def Wave.lanesVal (w : Wave) (lit : Option Dword) (ix : Nat) : List Word :=
  (List.range w.lanes).map (fun l => BitVec.ofNat 32 (w.src lit ix l))

/-- A captured value of a lane. -/
def laneVal (ws : List Word) (l : Nat) : Nat := (ws.getD l 0#32).toNat

/-- TILE_ALLOC of the first tile at or above TILES (R265, 08 R197). -/
def State.tileCheck (s : State) (ts : List (Nat × Nat)) : R Unit :=
  let bad := ts.filter (fun p => decide (p.1 ≥ s.w.k.tiles))
  match bad with
  | (t, _) :: _ => .error (.trap causeTile (bad.foldl (fun m p => m ||| p.2) 0) 0 ((t % 64) <<< 11))
  | [] => .ok ()

/-- One scratch operand of a matrix form: the lanes that a fault of it reports, the offset that TADDR gives, and whether
it is misaligned or out of bounds. -/
structure MAddr where
  lanes : Nat
  off : Nat
  odd : Bool
  out : Bool
deriving DecidableEq, Repr

/-- MISALIGNED, then SCRATCH_BOUNDS, of the scratch operands; TADDR is that of the lowest faulting lane (R265), and where a row
of A and the B operand of one lane both fault, the row's offset: DESIGN CHOICE (entry 44). -/
def matrixAddrs (l : List MAddr) : R Unit :=
  let low (x : MAddr) : Nat := (lowestLane x.lanes 64).getD 64
  let all (p : MAddr → Bool) : Nat := (l.filter p).foldl (fun m (x : MAddr) => m ||| x.lanes) 0
  match minBy low (l.filter (fun x => x.odd)), minBy low (l.filter (fun x => x.out)) with
  | some x, _ => .error (.trap causeAlign (all (fun x => x.odd)) x.off (7 <<< 11))
  | none, some x => .error (.trap causeScratch (all (fun x => x.out)) x.off 0)
  | none, none => .ok ()

/-- The scratch offsets of the words of B for an octet, column by column (R265). -/
def bWords (f : XtF) (b : Nat) : List Nat :=
  (List.range 16).flatMap (fun j => (List.range 16).map (fun w =>
    if f.skew = 1#1 then skewOffset b (32 * (8 * (f.imm9.toNat % 4) + j / 2) + 16 * (j % 2) + w) else b + 64 * j + 4 * w))

/-- A reserved bit of a descriptor raises ILLEGAL_OPERAND (08 R194). -/
def descCheck (skew : Bool) (which : Nat) (ds : List (Nat × Nat)) : R Unit :=
  let bad := ds.filter (fun p => skew && bits p.1 21 11 != 0)
  match bad with
  | [] => .ok ()
  | _ => .error (.trap causeOperand (bad.foldl (fun m p => m ||| p.2) 0) 0 (which <<< 11))

/-- The B operand of an octet as a scratch operand. -/
def bAddr (f : XtF) (scratch o b : Nat) : MAddr :=
  let ws := bWords f b
  { lanes := 1 <<< (8 * o), off := ws.headD b, odd := if f.skew = 1#1 then bits b 0 8 != 0 else b % 64 != 0,
    out := ws.any (fun x => decide (x + 4 > scratch)) }

/-- The A rows of an octet as scratch operands. -/
def aAddrs (scratch o : Nat) (a : List Word) : List MAddr :=
  (List.range 8).map (fun i =>
    let x := laneVal a (8 * o + i)
    { lanes := 1 <<< (8 * o + i), off := x, odd := x % 64 != 0, out := decide (x + 64 > scratch) })

/-- The engine and the counter have room (R261). -/
def State.matrixRoom (s : State) : R Unit :=
  if (s.core s.w.core).fifo.length ≥ 64 ∨ s.w.counter .laneMx ≥ OpCls.max .laneMx then .error .stall else .ok ()

/-- POSTING AN ENTRY (R261): the operand values are read now and the registers stay as they are until the engine has read
them (R259). -/
def State.postEntry (s : State) (i : Instr) (mask mode : Nat) (regs : List (List Word)) (dst : Dst) : State :=
  let id := s.nextId
  let o : Op :=
    { id := id, cls := .laneMx, tinfo := tinfoOf i, pc := s.w.pcOf s.st, left := 0, leftDie := 0, leftAll := 0,
      pushes := false, dst := dst, acq := false, got := [], bad := [], done := false }
  let e : MEntry :=
    { id := id, key := s.w.key, core := s.w.core, slot := s.w.slot, far := false, deadline := s.w.deadline, st := .waiting,
      instr := i, mask := mask, batch := s.w.bseq, pc := s.w.pcOf s.st, mode := mode, regs := regs, latch := [],
      halfDone := false }
  ((s.addOp o).modCore s.w.core (fun c => { c with fifo := c.fifo ++ [e] })).modW
    (fun w => { w with open_ := { w.open_ with pending := w.open_.pending + 1 } })

/-- The rounding mode of MMA at issue (R266). -/
def mmaMode (f : XtF) (w : Wave) : Nat :=
  if f.rnd = 7#3 then (if !xtScaled f && w.rnd == 5 then 0 else w.rnd) else f.rnd.toNat

/-- Under the dynamic mode, the random-bit register after `c9` is judged with RNDMODE (R266, 05 R116). -/
def Wave.mmaRandFault (w : Wave) (f : XtF) : Option EncFault :=
  badValue (xtScaled f && f.rnd == 7#3 && w.rnd == 5 && decide (f.c9.toNat > 318))

/-- MMA and MPAIR at issue (R265, R266, R272). -/
def mmaBody (i : Instr) (pair : Bool) (f : XtF) (s : State) : R State := do
  let act := s.w.active f.kmask.toNat
  let mode := mmaMode f s.w
  let scaled := xtScaled f
  let random := scaled && mode == 5
  let os := octetsOf act
  let spanned := match s.block? s.w.key with
    | some b => b.segs.any (fun g => g.core == partner s.w.core)
    | none => false
  let srcs := [f.a9.toNat, f.b9.toNat] ++ (if scaled then [f.c9.toNat] else []) ++ (if random then [f.c9.toNat + 1] else [])
  s.laneReady srcs []
  s.matrixRoom
  if pair && !spanned then .error (.trap causeOperand act 0 (3 <<< 11))
  let a := s.w.lanesVal f.lit f.a9.toNat
  let b := s.w.lanesVal f.lit f.b9.toNat
  if f.b9.toNat < 8 * s.w.g ∨ f.b9.toNat ≥ 320 then
    descCheck (f.skew = 1#1) 2 (os.map (fun o => (laneVal b (8 * o), 1 <<< (8 * o))))
  s.regCheck act (vRegs srcs)
  s.tileCheck (os.map (fun o => (f.tile.toNat + o, 255 <<< (8 * o)))
    ++ (if pair then os.map (fun o => (f.aux6.toNat + o, 255 <<< (8 * o))) else []))
  if partialOctets act ≠ [] then
    .error (.trap causeOctet (act &&& octetLanes (partialOctets act)) 0 (maskOf (partialOctets act) <<< 11))
  matrixAddrs (os.flatMap (fun o => aAddrs s.w.k.scratch o a ++ [bAddr f s.w.k.scratch o (laneVal b (8 * o))]))
  let c := if scaled then s.w.lanesVal f.lit f.c9.toNat else []
  let r := if random then s.w.lanesVal f.lit (f.c9.toNat + 1) else []
  .ok ((s.postEntry i act mode [a, b, c, r] .none).advance (xtWords f))

/-- The charge of MMA and MPAIR (18 R410): per issuing octet, an MPAIR on each core of the pair. -/
def mmaWeight (pair : Bool) (f : XtF) (s : State) : Nat :=
  (octetsOf (s.w.active f.kmask.toNat)).length *
    (if pair then 384 else if f.xop.toNat % 8 = 1 ∨ f.xop.toNat % 8 = 2 then 96 else 128)

/-- MMA (R265). -/
def execMma (f : XtF) (s : State) : Out :=
  s.issue (.mma f) (some .lane) f.kmask.toNat (mmaWeight false f s) (opcodeFirst [legalXt (useMma false f) f, s.w.mmaRandFault f])
    (mmaBody (.mma f) false f)

/-- MPAIR (R272). -/
def execMpair (f : XtF) (s : State) : Out :=
  s.issue (.mpair f) (some .lane) f.kmask.toNat (mmaWeight true f s) (opcodeFirst [legalXt (useMma true f) f, s.w.mmaRandFault f])
    (mmaBody (.mpair f) true f)

/-- A tile-wide form acts once when a lane is active, and not at all when none is (R260). -/
def tileWide (f : XtF) (act : Nat) (s : State) (body : Nat → R State) : R State :=
  match lowestLane act s.w.lanes with
  | none => .ok (s.advance (xtWords f))
  | some l => body l

/-- MZERO (R273). -/
def mzeroBody (f : XtF) (s : State) : R State :=
  let act := s.w.active 0
  tileWide f act s (fun _ => do
    s.matrixRoom
    s.tileCheck ((List.range (f.imm9.toNat % 64 + 1)).map (fun k => (f.tile.toNat + k, act)))
    .ok ((s.postEntry (.mzero f) act 0 [] .none).advance (xtWords f)))

/-- MZERO (R273). -/
def execMzero (f : XtF) (s : State) : Out :=
  s.issue (.mzero f) (some .lane) 0 16 (legalXt useMzero f) (mzeroBody f)

/-- Tiles of MRD and MWR that must be allocated (R274). -/
def moveTiles (f : XtF) (w : Wave) (act : Nat) : List (Nat × Nat) :=
  (f.tile.toNat, act) :: (if w.width = 64 then [(f.tile.toNat + 1, act)] else [])

/-- MRD (R274). -/
def mrdBody (f : XtF) (s : State) : R State := do
  let act := s.w.active f.kmask.toNat
  let rs := (List.range 4).map (fun q => f.d9.toNat + q)
  s.laneReady [] rs
  s.matrixRoom
  s.regCheck act rs
  s.tileCheck (moveTiles f s.w act)
  .ok ((s.postEntry (.mrd f) act 0 [] (.lanes f.d9.toNat 4 act 4)).advance (xtWords f))

/-- MRD (R274). -/
def execMrd (f : XtF) (s : State) : Out :=
  s.issue (.mrd f) (some .lane) f.kmask.toNat 16 (legalXt useMrd f) (mrdBody f)

/-- MWR (R274). -/
def mwrBody (f : XtF) (s : State) : R State := do
  let act := s.w.active f.kmask.toNat
  let rs := (List.range 4).map (fun q => f.a9.toNat + q)
  s.laneReady rs []
  s.matrixRoom
  s.regCheck act rs
  s.tileCheck (moveTiles f s.w act)
  .ok ((s.postEntry (.mwr f) act 0 (rs.map (fun r => s.w.lanesVal none r)) .none).advance (xtWords f))

/-- MWR (R274). -/
def execMwr (f : XtF) (s : State) : Out :=
  s.issue (.mwr f) (some .lane) f.kmask.toNat 16 (legalXt useMwr f) (mwrBody f)

/-- The scratch words of a tile move, row by row (R275). -/
def moveWords (skew : Bool) (off e0 : Nat) : List Nat :=
  (List.range 8).flatMap (fun i => (List.range 16).map (fun c =>
    if skew then skewOffset off (e0 + 32 * i + c) else off + 64 * i + 4 * c))

/-- MLDT and MSTORE at issue (R275). A fault of the address or of the descriptor reports all active lanes, though the operands
are read in the lowest alone: DESIGN CHOICE (entry 44; 08 R192, R194). -/
def moveBody (i : Instr) (f : XtF) (s : State) : R State :=
  let act := s.w.active 0
  tileWide f act s (fun l => do
    let skew := decide (f.skew = 1#1)
    let srcs := f.a9.toNat :: (if skew then [f.b9.toNat] else [])
    s.laneReady srcs []
    s.matrixRoom
    let a := s.w.lanesVal f.lit f.a9.toNat
    let b := if skew then s.w.lanesVal f.lit f.b9.toNat else []
    let off := laneVal a l
    let e0 := laneVal b l
    if f.a9.toNat < 8 * s.w.g ∨ f.a9.toNat ≥ 320 then
      descCheck skew 1 [(off, act)]
    s.regCheck act (vRegs srcs)
    s.tileCheck [(f.tile.toNat, act)]
    let far := skew && decide (e0 % 32 > 16 ∨ e0 + 239 ≥ 1024)
    let ws := moveWords skew off e0
    matrixAddrs [
      { lanes := act, off := ws.headD off, odd := if skew then bits off 0 8 != 0 else off % 4 != 0,
        out := far || ws.any (fun x => decide (x + 4 > s.w.k.scratch)) }]
    .ok ((s.postEntry i act 0 [a, b] .none).advance (xtWords f)))

/-- MLDT (R275). -/
def execMldt (f : XtF) (s : State) : Out :=
  s.issue (.mldt f) (some .lane) 0 16 (legalXt (useMove f) f) (moveBody (.mldt f) f)

/-- MSTORE (R275). -/
def execMstore (f : XtF) (s : State) : Out :=
  s.issue (.mstore f) (some .lane) 0 16 (legalXt (useMove f) f) (moveBody (.mstore f) f)

/-- MSIG (R278). Its SCRATCH_BOUNDS reports all active lanes, and the stage base in TADDR: DESIGN CHOICE (entry 44). -/
def msigBody (f : XtF) (s : State) : R State :=
  let act := s.w.active 0
  tileWide f act s (fun l => do
    let srcs := [f.a9.toNat, f.b9.toNat]
    s.laneReady srcs []
    s.matrixRoom
    s.regCheck act (vRegs srcs)
    let n := f.aux6.toNat
    match (if n < 48 then s.bar? s.w.key s.w.j n else none) with
    | none => .error (.trap causeBarrier act 0 (n <<< 11))
    | some _ =>
      let a := s.w.lanesVal f.lit f.a9.toNat
      let b := s.w.lanesVal f.lit f.b9.toNat
      if laneVal a l + laneVal b l > s.w.k.scratch then .error (.trap causeScratch act (laneVal a l) 0)
      .ok ((s.postEntry (.msig f) act 0 [a, b] .none).advance (xtWords f)))

/-- MSIG (R278). -/
def execMsig (f : XtF) (s : State) : Out :=
  s.issue (.msig f) (some .lane) 0 16 (legalXt useMsig f) (msigBody f)

/-! ## Batches (R276, R277, R279) -/

/-- The outcome of a batch goes to the core's counters, wrapping (R279). -/
def Core.countBatch (c : Core) (b : MBatch) : Core :=
  { c with
    mxnan := (c.mxnan + b.nan) % 2 ^ 32, mxovf := (c.mxovf + b.ovf) % 2 ^ 32, nanNow := c.nanNow + b.nan, ovfNow := c.ovfNow + b.ovf }

/-- Batches counted. -/
def Core.countBatches (c : Core) (bs : List MBatch) : Core :=
  match bs with
  | [] => c
  | b :: rest => (c.countBatch b).countBatches rest

/-- A wave in MWAIT on a batch that is no longer outstanding goes on (R277). -/
def Wave.batchWake (w : Wave) : Wave :=
  match w.status with
  | .parked (.mwait _ n) => if w.batches.any (fun b => b.num == n) then w else w.wake
  | _ => w

/-- BATCH COMMIT (R279): the closed batches of a wave whose entries have all committed. -/
def State.batchCommit (s : State) (core slot : Nat) : State :=
  match s.wave? core slot with
  | none => s
  | some w =>
    let overB := w.batches.filter (fun b => b.pending == 0)
    (s.modCore core (fun c => c.countBatches overB)).modWave core slot (fun w =>
      Wave.batchWake { w with batches := w.batches.filter (fun b => b.pending != 0) })

/-- MFENCE (R276). -/
def mfenceBody (f : XtF) (s : State) : R State :=
  let act := s.w.active 0
  tileWide f act s (fun _ => do
    s.laneReady [] [f.d9.toNat]
    if s.w.batches.length ≥ 16 then .error .stall
    s.regCheck act (vRegs [f.d9.toNat])
    let n := s.w.bseq
    let s := s.modW (fun w =>
      { w.writeDst f.d9.toNat act (fun _ => n) with
        bseq := (n + 1) % 65536, batches := w.batches ++ [{ w.open_ with num := n }], open_ := MBatch.open0 })
    .ok ((s.batchCommit s.w.core s.w.slot).advance (xtWords f)))

/-- MFENCE (R276). -/
def execMfence (f : XtF) (s : State) : Out :=
  s.issue (.mfence f) (some .lane) 0 16 (legalXt useMfence f) (mfenceBody f)

/-- MWAIT (R277). -/
def mwaitBody (f : XtF) (s : State) : R State :=
  let act := s.w.active 0
  tileWide f act s (fun l => do
    s.laneReady [f.a9.toNat] []
    s.regCheck act (vRegs [f.a9.toNat])
    let n := s.w.src f.lit f.a9.toNat l % 65536
    .ok (if s.w.batches.any (fun b => b.num == n) then s.park (.mwait (xtWords f) n) else s.advance (xtWords f)))

/-- MWAIT (R277). -/
def execMwait (f : XtF) (s : State) : Out :=
  s.issue (.mwait f) (some .lane) 0 16 (legalXt useMwait f) (mwaitBody f)

/-! ## The arithmetic (R266 to R269) -/

/-- The value of an element by type (R267). -/
def elemVal (ty c : Nat) : XReal :=
  match ty with
  | 1 => valueOfBits .f16 c
  | 2 => valueOfBits .bf16 c
  | 3 => d8Value c
  | _ => xOfInt (sextN c 8)

/-- The product of two elements; a zero product of I8 factors is +0 (05 R107). -/
def elemMul (ty x y : Nat) : XReal :=
  if ty = 4 then xOfInt (sextN x 8 * sextN y 8) else xMul (elemVal ty x) (elemVal ty y)

/-- The first NaN among a_0, b_0, a_1, b_1 and so on, as FP32 (R268). -/
def elemNaN (ty : Nat) (a b : List Nat) : Option Nat :=
  let f : FFmt := if ty = 1 then .f16 else .bf16
  match a, b with
  | x :: xs, y :: ys =>
    if isNaNBits f x then some (convNaN f .f32 x) else if isNaNBits f y then some (convNaN f .f32 y) else elemNaN ty xs ys
  | _, _ => none

/-- One element of a K-step in floating point: the result and whether it overflowed (R267, R268, R279). `g` holds the
binary exponents of the two blocks, none where a scale is 255. -/
def elemF (ty mode : Nat) (sat : Bool) (ctx : NanCtx) (r x : Nat) (a b : List Nat) (g : Option (Int × Int)) : Nat × Bool :=
  if isNaNBits .f32 x then (quietNaN .f32 x, false)
  else
    match g with
    | none => (genNaN .f32 ctx, false)
    | some (g0, g1) =>
      if ty = 3 ∧ (a.contains 0x80 ∨ b.contains 0x80) then (genNaN .f32 ctx, false)
      else
        match (if ty ≤ 2 then elemNaN ty a b else none) with
        | some n => (n, false)
        | none =>
          let ps := (List.range a.length).map (fun k =>
            xScale (elemMul ty (a.getD k 0) (b.getD k 0)) (if k < 32 then g0 else g1))
          let m := rmodeOf mode
          match xSum (zeroNeg m) (valueOfBits .f32 x :: ps) with
          | .nan => (genNaN .f32 ctx, false)
          | .inf n => (roundTo .f32 m sat r (.inf n), false)
          | .fin n p q => (roundTo .f32 m sat r (.fin n p q), isInfBits .f32 (roundTo .f32 m false r (.fin n p q)))

/-- One element of the integer variant (R267). -/
def elemI (sat : Bool) (x : Nat) (a b : List Nat) : Nat :=
  let v := (List.range a.length).foldl (fun acc k => acc + sextN (a.getD k 0) 8 * sextN (b.getD k 0) 8) (sextN x 32)
  wrapN (if sat then clampInt (-2147483648) 2147483647 v else v) 32

/-- The elements of 64 bytes (R265). -/
def rowElems (ty : Nat) (bs : List Byte) : List Nat :=
  if ty ≤ 2 then (List.range 32).map (fun k => leValue ((bs.drop (2 * k)).take 2)) else bs.map (fun b => b.toNat)

/-- Byte k of a word, k taken modulo 4. -/
def octetByte (x k : Nat) : Nat := bits x (8 * (k % 4)) 8

/-- The block exponents of row i and column j (R267; 05 R124); the far half of an MPAIR takes the next byte for its columns
(R272). -/
def blockExp (f : XtF) (c : List Word) (far : Bool) (row j : Nat) : Option (Int × Int) :=
  let ka := f.imm8.toNat % 4
  let kb := f.imm8.toNat / 4 % 4 + b2n far
  let one (h : Nat) : Option Int :=
    let ea := octetByte (laneVal c row) (ka + h)
    let eb := octetByte (laneVal c (16 * h + j)) kb
    if ea = 255 ∨ eb = 255 then none else some ((ea : Int) + eb - 254)
  match one 0, one 1 with
  | some x, some y => some (x, y)
  | _, _ => none

/-- Random bits of element (i, j) (R269): j counts to 31 over the two halves of an MPAIR. -/
def elemRand (r : List Word) (row j : Nat) : Nat :=
  ((r.getD row 0#32).rotateRight (2 * j % 32)).toNat

/-- The octet of an MMA at a place in its latch: new elements of its tile, NaN events and overflow events (R267, R279). -/
def MEntry.octet (e : MEntry) (f : XtF) (k o : Nat) (old : Nat → Nat) : List (Nat × Nat) × Nat × Nat :=
  let ty := f.xop.toNat % 8
  let lat := (e.latch.drop (1536 * k)).take 1536
  let c := e.regs.getD 2 []
  let r := e.regs.getD 3 []
  let sat := decide (f.sat = 1#1)
  let cells := (List.range 128).map (fun n =>
    let i := n / 16
    let j := n % 16
    let a := rowElems ty ((lat.drop (64 * i)).take 64)
    let b := rowElems ty ((lat.drop (512 + 64 * j)).take 64)
    if f.xop = 12#5 then (n, elemI sat (old n) a b, 0, 0)
    else
      let g := if xtScaled f then blockExp f c e.far (8 * o + i) j else some (0, 0)
      let p := elemF ty e.mode sat (nanAt e.pc (8 * o + i)) (elemRand r (8 * o + i) (j + 16 * b2n e.far)) (old n) a b g
      (n, p.1, b2n (isNaNBits .f32 p.1 && !isNaNBits .f32 (old n)), b2n p.2))
  (cells.map (fun x => (x.1, x.2.1)), (cells.map (fun x => x.2.2.1)).sum, (cells.map (fun x => x.2.2.2)).sum)

/-! ## The engine (R261 to R264, R270, R272, R278 to R280) -/

/-- The tiles an entry names, the far half of an MPAIR its own (R262, R272). -/
def MEntry.tiles (e : MEntry) : List Nat :=
  match e.instr with
  | .mma f => (octetsOf e.mask).map (fun o => f.tile.toNat + o)
  | .mpair f => (octetsOf e.mask).map (fun o => (if e.far then f.aux6.toNat else f.tile.toNat) + o)
  | .mzero f => (List.range (f.imm9.toNat % 64 + 1)).map (fun k => f.tile.toNat + k)
  | .mrd f | .mwr f =>
    (if e.mask % 2 ^ 32 = 0 then [] else [f.tile.toNat]) ++ (if e.mask / 2 ^ 32 = 0 then [] else [f.tile.toNat + 1])
  | .mldt f | .mstore f => [f.tile.toNat]
  | _ => []

/-- The value of an operand of a tile-wide entry. -/
def MEntry.low (e : MEntry) (k : Nat) : Nat := laneVal (e.regs.getD k []) ((lowestLane e.mask 64).getD 0)

/-- Two entries name one tile of one block. -/
def MEntry.sharesTile (e x : MEntry) : Bool := decide (e.key = x.key) && e.tiles.any (fun t => x.tiles.contains t)

/-- The scratch words that an entry reads on its own core (R265, R275, R278). -/
def MEntry.reads (e : MEntry) : List Nat :=
  let mma (f : XtF) : List Nat :=
    (octetsOf e.mask).flatMap (fun o =>
      (List.range 8).flatMap (fun i => (List.range 16).map (fun w => laneVal (e.regs.getD 0 []) (8 * o + i) + 4 * w))
        ++ bWords f (laneVal (e.regs.getD 1 []) (8 * o)))
  match e.instr with
  | .mma f | .mpair f => mma f
  | .mldt f => moveWords (f.skew = 1#1) (e.low 0) (e.low 1)
  | _ => []

/-- Words of a scratchpad. -/
def scratchWords (m : List (Nat × Byte)) (os : List Nat) : List Byte := os.flatMap (fun o => scratchBytes m o 4)

/-- The operand reads of an entry (R265, R272, R275): for each issuing octet its eight A rows and its B block. -/
def State.latchOf (s : State) (e : MEntry) : List Byte :=
  let near := s.scratchOf e.key e.core
  let mma (f : XtF) : List Byte :=
    let mB := if e.far then s.scratchOf e.key (partner e.core) else near
    (octetsOf e.mask).flatMap (fun o =>
      (List.range 8).flatMap (fun i => scratchBytes near (laneVal (e.regs.getD 0 []) (8 * o + i)) 64)
        ++ scratchWords mB (bWords f (laneVal (e.regs.getD 1 []) (8 * o))))
  match e.instr with
  | .mma f | .mpair f => mma f
  | .mldt f => scratchWords near (moveWords (f.skew = 1#1) (e.low 0) (e.low 1))
  | _ => []

/-- An entry's block is being saved, so that no entry of it starts (R280). -/
def State.isSaving (s : State) (k : BKey) : Bool :=
  match s.block? k with
  | some b => (match b.status with | .saving _ _ => true | _ => false)
  | none => false

/-- An entry may be taken (R261, R262, R272, R280): it waits, the entries before it on its tiles have started their reads,
and a half that follows an MPAIR's handshake finds its other half ready. -/
def State.canTake (s : State) (c i : Nat) (e : MEntry) : Bool :=
  let before := (s.core c).fifo.take i
  decide (e.st = .waiting) && !before.any (fun x => x.sharesTile e && decide (x.st ≠ .reading)) &&
  (match e.instr with
   | .msig _ => false
   | .mpair _ =>
     e.far || ((s.core c).pair.isNone && (s.core (partner c)).pair.isNone
       && decide ((s.core (partner c)).fifo.length < 64) && !s.isSaving e.key)
   | _ => !s.isSaving e.key)

/-- The entry the engine of a core takes next: a deadline wave's first, else the first in FIFO order (R261). -/
def State.nextEntry (s : State) (c : Nat) : Option (Nat × MEntry) :=
  let l := ((s.core c).fifo.zipIdx).filter (fun p => s.canTake c p.2 p.1)
  ((l.find? (fun p => p.1.deadline)).orElse fun _ => l.head?).map (fun p => (p.2, p.1))

/-- The entries of an id on a core changed. -/
def State.modEntry (s : State) (c id : Nat) (f : MEntry → MEntry) : State :=
  s.modCore c (fun x => { x with fifo := x.fifo.map (fun (e : MEntry) => if e.id = id then f e else e) })

/-- An entry's operand reads. -/
def State.readEntry (s : State) (e : MEntry) : MEntry := { e with st := .reading, latch := s.latchOf e }

/-- MATRIX_ENTRY_TAKE (R261, R270, R272): the near half of an MPAIR begins the handshake and its far half enters the
partner's FIFO; when that half can be taken both start their reads. -/
def execMatrixEntryTake (c : Nat) (s : State) : Out :=
  .next (match s.nextEntry c with
    | none => s
    | some (_, e) =>
      match e.instr with
      | .mpair _ =>
        if e.far then (s.modEntry c e.id s.readEntry).modEntry (partner c) e.id s.readEntry
        else
          let s := (s.modEntry c e.id (fun e => { e with st := .paired })).modCore c (fun x => { x with pair := some e.id })
          s.modCore (partner c) (fun x => { x with pair := some e.id, fifo := x.fifo ++ [{ e with far := true }] })
      | _ => s.modEntry c e.id s.readEntry)

/-- A tile element (08 R197). -/
def CoreSeg.tileAt (g : CoreSeg) (t n : Nat) : Nat := (mapGet 0#32 g.tiles (128 * t + n)).toNat

/-- Elements of a tile written, which makes their sectors valid (08 R190). -/
def CoreSeg.setTile (g : CoreSeg) (t : Nat) (l : List (Nat × Nat)) : CoreSeg :=
  match l with
  | [] => g
  | (n, x) :: rest =>
    ({ g with
        tiles := mapSet 0#32 g.tiles (128 * t + n) (BitVec.ofNat 32 x),
        tsect := insertAsc (2 * t + n / 64) g.tsect } : CoreSeg).setTile t rest

/-- The octets of an entry into its tiles, with their event counts. -/
def mmaCommit (e : MEntry) (f : XtF) (base : Nat) (g : CoreSeg) (os : List (Nat × Nat)) : CoreSeg × Nat × Nat :=
  match os with
  | [] => (g, 0, 0)
  | (o, k) :: rest =>
    let r := e.octet f k o (g.tileAt (base + o))
    let q := mmaCommit e f base (g.setTile (base + o) r.1) rest
    (q.1, r.2.1 + q.2.1, r.2.2 + q.2.2)

/-- The element of MRD and MWR for a lane and register (R274): tile and element number. -/
def moveElem (t l q : Nat) : Nat × Nat := (t + l / 32, 16 * (2 * q + l % 32 / 16) + l % 16)

/-- Elements of MWR written lane by lane. -/
def mwrWrite (e : MEntry) (t : Nat) (g : CoreSeg) (ps : List (Nat × Nat)) : CoreSeg :=
  match ps with
  | [] => g
  | (l, q) :: rest =>
    let p := moveElem t l q
    mwrWrite e t (g.setTile p.1 [(p.2, laneVal (e.regs.getD q []) l)]) rest

/-- Registers of MRD written. -/
def Wave.mrdWrite (w : Wave) (g : CoreSeg) (t d : Nat) (ps : List (Nat × Nat)) : Wave :=
  match ps with
  | [] => w
  | (l, q) :: rest =>
    let p := moveElem t l q
    (w.setV (d + q) l (g.tileAt p.1 p.2)).mrdWrite g t d rest

/-- Lanes and registers of a move. -/
def movePairs (mask : Nat) : List (Nat × Nat) := (lanesOf mask 64).flatMap (fun l => (List.range 4).map (fun q => (l, q)))

/-- The registers of a move that its operation still writes: a VGIVE may have taken the upper ones away (04 R98; 07 R185). -/
def Wave.mrdPairs (w : Wave) (id mask : Nat) : List (Nat × Nat) :=
  let n := match w.ops.find? (fun o => o.id == id) with
    | some o => (match o.dst with | .lanes _ n _ _ => n | _ => 0)
    | none => 0
  (movePairs (mask % 2 ^ w.lanes)).filter (fun p => decide (p.2 < n))

/-- Tiles cleared by a write of zeros. -/
def CoreSeg.zeroTiles (g : CoreSeg) (t n : Nat) : CoreSeg :=
  { g with
    tiles := mapClear g.tiles (128 * t) (128 * n)
    tsect := (List.range (2 * n)).foldl (fun l k => insertAsc (2 * t + k) l) g.tsect }

/-- What an entry does to the segment of its block at its commit, with NaN and overflow events (R264, R267, R273 to
R275). -/
def MEntry.effect (e : MEntry) (g : CoreSeg) : CoreSeg × Nat × Nat :=
  match e.instr with
  | .mma f => mmaCommit e f f.tile.toNat g (octetsOf e.mask).zipIdx
  | .mpair f => mmaCommit e f (if e.far then f.aux6.toNat else f.tile.toNat) g (octetsOf e.mask).zipIdx
  | .mzero f => (g.zeroTiles f.tile.toNat (f.imm9.toNat % 64 + 1), 0, 0)
  | .mwr f => (mwrWrite e f.tile.toNat g (movePairs e.mask), 0, 0)
  | .mldt f =>
    (g.setTile f.tile.toNat ((List.range 128).map (fun n => (n, leValue ((e.latch.drop (4 * n)).take 4)))), 0, 0)
  | .mstore f =>
    let ws := (moveWords (f.skew = 1#1) (e.low 0) (e.low 1)).zipIdx
    (g.putScratch (ws.map (fun p => (p.1, leBytes (g.tileAt f.tile.toNat p.2) 4))), 0, 0)
  | _ => (g, 0, 0)

/-- Counts of an entry added to its batch, and its place given back when it has committed (R279). -/
def Wave.batchCount (w : Wave) (n nan ovf done : Nat) : Wave :=
  let add (b : MBatch) : MBatch :=
    { b with pending := b.pending - done, nan := (b.nan + nan) % 2 ^ 32, ovf := (b.ovf + ovf) % 2 ^ 32 }
  if w.batches.any (fun b => b.num == n) then
    { w with batches := w.batches.map (fun b => if b.num = n then add b else b) }
  else { w with open_ := add w.open_ }

/-- An entry that has committed leaves the `mx` counter and its batch. -/
def State.entryDone (s : State) (e : MEntry) (nan ovf : Nat) : State :=
  ((s.modOp e.core e.slot e.id (fun o => { o with done := true })).modWave e.core e.slot
    (fun w => w.batchCount e.batch nan ovf 1)).batchCommit e.core e.slot

/-- COMMIT of an entry whose reads are done and which is the first on its tiles (R262, R264, R272, R279). -/
def State.commitEntry (s : State) (c i : Nat) (e : MEntry) : State :=
  let g := match s.block? e.key with
    | some b => (b.segs.find? (fun g => g.core == c)).getD
        { core := c, reserve := 0, sems := [], bars := [], scratch := [], tiles := [], ssect := [], tsect := [] }
    | none => { core := c, reserve := 0, sems := [], bars := [], scratch := [], tiles := [], ssect := [], tsect := [] }
  let r := e.effect g
  let s := (s.modSeg e.key c (fun _ => r.1)).modCore c (fun x => { x with fifo := dropAt x.fifo i })
  match e.instr with
  | .mrd f =>
    (s.modWave e.core e.slot (fun w => w.mrdWrite g f.tile.toNat f.d9.toNat (w.mrdPairs e.id e.mask))).entryDone
      e 0 0
  | .mpair _ =>
    if e.halfDone then
      ((s.modCore c (fun x => { x with pair := none })).modCore (partner c) (fun x => { x with pair := none })).entryDone
        e r.2.1 r.2.2
    else
      (s.modEntry (partner c) e.id (fun x => { x with halfDone := true })).modWave e.core e.slot
        (fun w => w.batchCount e.batch r.2.1 r.2.2 0)
  | _ => s.entryDone e r.2.1 r.2.2

/-- MATRIX_ENTRY_COMMIT (R264). -/
def execMatrixEntryCommit (c i : Nat) (s : State) : Out :=
  .next (match (s.core c).fifo[i]? with
    | none => s
    | some e =>
      if decide (e.st = .reading) && !((s.core c).fifo.take i).any (fun x => x.sharesTile e) then s.commitEntry c i e
      else s)

/-- The stage of an MSIG is no longer being read (R278); an empty one never is. -/
def State.stageFree (s : State) (c i : Nat) (e : MEntry) : Bool :=
  let base := e.low 0
  let len := e.low 1
  !((s.core c).fifo.take i).any (fun x =>
    x.core == e.core && x.slot == e.slot && !x.far && decide (x.st ≠ .reading)
      && x.reads.any (fun o => decide (len > 0 ∧ o < base + len ∧ base < o + 4)))

/-- MSIG_ARRIVAL (R278): one arrival on the barrier, and the entry is over. -/
def execMsigArrival (c i : Nat) (s : State) : Out :=
  .next (match (s.core c).fifo[i]? with
    | none => s
    | some e =>
      match e.instr with
      | .msig f =>
        if s.stageFree c i e && !s.isSaving e.key then
          let j := match s.wave? e.core e.slot with | some w => w.j | none => 0
          let n := f.aux6.toNat
          let s := s.modCore c (fun x => { x with fifo := dropAt x.fifo i })
          (s.modBar e.key (if n ≥ 32 then 0 else j) n (Bar.arrive 1)).entryDone e 0 0
        else s
      | _ => s)

end Sys2Proof.Machine
end

