-- ==== Sys2Proof/Machine/Fetch.lean ====
section
/-! DEFINITION. What Machine/Step.lean calls: bringing a stream into focus, a fetch that stops, time passing, and placing
an instruction where the next step fetches it. -/
namespace Sys2Proof.Machine

/-- Waves in ascending order of core, then slot. -/
def insertWave (w : Wave) (l : List Wave) : List Wave :=
  match l with
  | [] => [w]
  | x :: rest => if w.core * 64 + w.slot ≤ x.core * 64 + x.slot then w :: x :: rest else x :: insertWave w rest

/-- The stream of a wave brought into focus, if the wave is resident. -/
def State.focus (s : State) (core slot : Nat) (st : Stream) : Option State :=
  if s.w.core = core ∧ s.w.slot = slot then some { s with st := st }
  else
    match s.waves.find? (fun w => w.core == core && w.slot == slot) with
    | none => none
    | some w =>
      some { s with
        w := w, st := st,
        waves := insertWave s.w (s.waves.filter (fun x => !(x.core == core && x.slot == slot))) }

/-- A fetch that does not give an instruction: the stream stops, and a fetch held by an unchecked page asks the management
core for its check (19 R422; 20 R439 source 4). -/
def State.stopFetch (s : State) (x : Stop) : State :=
  let ask := decide (x = .stall) && !s.w.mgmt
  let s' := s.stopWith s.fetchHead x
  if ask then { s' with mgmtPending := insertAsc 4 s'.mgmtPending } else s'

/-- Nanoseconds of TIMEN pass (04 R99). -/
def State.passTime (s : State) (ns : Nat) : State := { s with timen := (s.timen + ns) % 2 ^ 64 }

/-- The stream that a first word's major belongs to (03 R77); the forms of both streams are placed in the lane stream. -/
def streamOfWord (w0 : Word) : Stream :=
  let m := (headOf w0).major.toNat
  if decide (0x34 ≤ m) && decide (m ≤ 0x39) then .lead else .lane

/-- Virtual address at which withFetchWord places an instruction. -/
def placeVa : Nat := 0x400000
/-- Physical address of its page. -/
def placePa : Nat := 0x10000

/-- The issuing wave made to run at placeVa on a stream: the management core gives way to a wave of core 0, slot 0, with
all its registers and lanes. -/
def State.placeWave (s : State) (st : Stream) : State :=
  let w0 : Wave := if s.w.mgmt then { Wave.blank 0 0 with g := 40, exec := 2 ^ 32 - 1 } else s.w
  let k : KInfo :=
    match st with
    | .lead => { w0.k with leadBase := placeVa, leadSize := 20 }
    | .lane => { w0.k with laneBase := placeVa, laneSize := 20 }
  let w1 : Wave :=
    { w0 with
      status := .running, stopped := false, pendTrap := none, holding := none, k := k,
      inTrap := w0.inTrap && decide (st = .lane),
      leadDone := w0.leadDone && decide (st = .lane), laneDone := w0.laneDone && decide (st = .lead),
      yieldLead := 0, yieldLane := 0, sleepLead := none, sleepLane := none }
  { s with
    w := w1.setPc st placeVa, st := st,
    waves := if s.w.mgmt then insertWave s.w (s.waves.filter (fun x => !(x.core == 0 && x.slot == 0))) else s.waves }

/-- The code page of placeVa: translated, checked and holding the instruction's bytes. -/
def State.placeCode (s : State) (bytes : List Byte) : State :=
  let e : TlbEntry := { va := placeVa, lg := 14, pa := placePa, perm := permRD + permEX }
  let o : CodeObj :=
    { id := 0, base := placeVa, ptroot := (s.die (dieOf s.w.core)).ptroot, size := 16384, kernels := [], chk := [1],
      digests := [], rev := false }
  { (s.modCore s.w.core (fun c => { c with tlb := e :: c.tlb })).modCluster (clusterOf s.w.core)
      (fun c => { c with settling := false, idle := false, throttle := 0 }) with
    mem := memWrite s.mem placePa bytes, codes := o :: s.codes }

end Sys2Proof.Machine
end

