-- ==== Sys2Proof/Machine/Queues.lean ====
section
/-! DEFINITION. Record queues, credits, the graph status area and graph drain (13 R284 to R288, R292, R293, R303, R305). -/
namespace Sys2Proof.Machine

/-! ## Nodes (13 R290; 15 R349) -/

/-- Node kinds (15 R349). -/
def kindShader : Nat := 0
/-- range -/
def kindRange : Nat := 1
/-- dispatch -/
def kindDispatch : Nat := 2
/-- raster -/
def kindRaster : Nat := 3
/-- ray traversal -/
def kindRay : Nat := 4
/-- matrix -/
def kindMatrix : Nat := 5
/-- copy -/
def kindCopy : Nat := 6
/-- sensor -/
def kindSensor : Nat := 7
/-- scanout -/
def kindScanout : Nat := 8
/-- command -/
def kindCommand : Nat := 9

/-- Lanes of a wave of a node (13 R290). -/
def Node.lanes (n : Node) : Nat := if n.width = 64 then 64 else 32
/-- Waves of a block of a node (02 R15). -/
def Node.waves (n : Node) : Nat := if n.roles = [] then 1 else n.roles.sum
/-- A shader node that consumes no records. -/
def Node.bare (n : Node) : Bool := decide (n.kind = kindShader ∧ n.recsz = 0)
/-- The largest batch of a node (13 R290); 1,024 launch entries for a dispatch node, 1 for a fixed node (R285). -/
def Node.batchMax (n : Node) : Nat :=
  if n.kind = kindShader ∨ n.kind = kindRange then (if n.policy = 0 then n.lanes else n.lanes * n.waves)
  else if n.kind = kindDispatch then 1024 else 1
/-- Bytes of a queue entry without its tag (13 R285). -/
def Node.entryBytes (n : Node) : Nat := if n.kind = kindDispatch then 16 else n.recsz
/-- A deadline-class node. -/
def Node.deadline (n : Node) : Bool := n.qclass == 2

/-- The nodes of the current graph. -/
def State.nodes (s : State) : List Node := match s.graph with | some g => g.nodes | none => []

/-! ## The status area (13 R305) -/

/-- A node's status at LOAD_GRAPH. -/
def NodeStatus.zero : NodeStatus := { taken := 0, put := 0, lost := 0, overrun := 0, skip := 0, flags := 0 }

/-- The 32 bytes of a node's status (R305). -/
def NodeStatus.bytes (x : NodeStatus) : List Byte :=
  leBytes x.taken 8 ++ leBytes x.put 8 ++ leBytes x.lost 2 ++ leBytes x.overrun 2 ++ leBytes x.skip 2 ++ leBytes x.flags 1
    ++ leBytes 0 9

/-- The status of a node of a graph written to its status area, at `.sys`. -/
def State.putStatus (s : State) (g : Graph) (n : Nat) (x : NodeStatus) : State :=
  let pa := (match g.layouts[0]? with | some l => l.status | none => 0) + 32 * n
  s.homeWrite 0 (lineOf pa) (x.bytes.zipIdx.map (fun p => (pa - lineOf pa + p.2, p.1))) .none none []

/-- The status of a node changed, in the scheduler and in the status area. -/
def State.setStatus (s : State) (n : Nat) (f : NodeStatus → NodeStatus) : State :=
  match s.graph with
  | none => s
  | some g =>
    let old := g.status.getD n NodeStatus.zero
    let x := f old
    if x = old then s
    else
      ({ s with graph := some { g with status := setAt g.status n x } } : State).putStatus g n x

/-- Code revoked: no more blocks of the node are admitted (17 R392). -/
def State.revoked (s : State) (node : Nat) : Bool :=
  match s.graph with
  | some g => bit (g.status.getD node NodeStatus.zero).flags 1
  | none => false

/-- A saturating 16-bit count. -/
def sat16 (x : Nat) : Nat := min x 65535

/-- One more QUEUE_OVERRUN of a node. -/
def State.countOverrun (s : State) (n : Nat) : State := s.setStatus n (fun x => { x with overrun := sat16 (x.overrun + 1) })

/-! ## Queues (13 R284 to R287) -/

/-- The queue of a node on a die. -/
def State.queue? (s : State) (die node : Nat) : Option Queue := (s.die die).queues.find? (fun q => q.node == node)
/-- A queue changed. -/
def State.modQueue (s : State) (die node : Nat) (f : Queue → Queue) : State :=
  s.modDie die (fun d => { d with queues := d.queues.map (fun (q : Queue) => if q.node = node then f q else q) })
/-- Entries of a queue, none where the node has none. -/
def State.entries (s : State) (die node : Nat) : List QEntry := match s.queue? die node with | some q => q.entries | none => []
/-- The free capacity of a queue (R285). -/
def Queue.free (q : Queue) : Int := (q.qcap + q.scap : Nat) - (q.entries.length : Int) - q.qresv
/-- An entry that formation may take. -/
def QEntry.open? (e : QEntry) : Bool := !e.void && e.batch.isNone
/-- Records that formation may take, in order (R287). -/
def Queue.avail (q : Queue) : List QEntry := q.entries.filter QEntry.open?
/-- The entries before the first that a batch may take, without the void ones among them, and how many those were. -/
def trimHead (l : List QEntry) : List QEntry × Nat :=
  match l with
  | [] => ([], 0)
  | e :: rest =>
    if e.open? then (e :: rest, 0)
    else
      let r := trimHead rest
      if e.void && e.batch.isNone then (r.1, r.2 + 1) else (e :: r.1, r.2)
/-- Void entries at the head leave the queue (R285). -/
def Queue.trim (q : Queue) : Queue :=
  let r := trimHead q.entries
  { q with entries := r.1, qhead := (q.qhead + r.2) % 2 ^ 32 }
/-- The first k entries that a batch may take marked with their batch, the void ones that it passes gone, and how many
entries that makes. -/
def markEntries (id : Nat) (l : List QEntry) (k : Nat) : List QEntry × Nat :=
  match l, k with
  | l, 0 => (l, 0)
  | [], _ => ([], 0)
  | e :: rest, k + 1 =>
    if e.open? then
      let r := markEntries id rest k
      ({ e with batch := some id } :: r.1, r.2 + 1)
    else
      let r := markEntries id rest (k + 1)
      if e.void && e.batch.isNone then (r.1, r.2 + 1) else (e :: r.1, r.2)
/-- BATCH FORMATION takes k entries: QHEAD passes them and the void ones before them (R285). -/
def Queue.form (id k : Nat) (q : Queue) : Queue :=
  let r := markEntries id q.entries k
  { q with entries := r.1, qhead := (q.qhead + r.2) % 2 ^ 32 }

/-- The die of a display head (01 R9). -/
def headDie (h : Nat) : Nat := if h < 2 then 1 else 0

/-- The die whose queue of a node a record reaches from a die (R284). -/
def State.targetDie (s : State) (die t : Nat) (bytes : List Byte) : Nat :=
  match s.node? t with
  | none => die
  | some n =>
    if n.kind = kindScanout then headDie ((bytes.headD 0#8).toNat % 4)
    else if n.kind = kindCommand then 0
    else if n.deadline && bits n.cmask (12 * die) 12 == 0 then 1 - die
    else die

/-- The dies in whose queues of a node admission on a die reserves (R292). -/
def State.reserveDies (s : State) (die t : Nat) : List Nat :=
  match s.node? t with
  | some n => if n.kind = kindScanout then [0, 1] else [s.targetDie die t []]
  | none => []

/-- QRESV of a queue raised or lowered. -/
def State.resv (s : State) (die node : Nat) (x : Int) : State :=
  s.modQueue die node (fun q => { q with qresv := ((q.qresv : Int) + x).toNat })

/-- Credits reserved in the queues of one edge's target, if each has room. -/
def State.reserveEdge (s : State) (n t : Nat) (dies : List Nat) : Option State :=
  match dies with
  | [] => some s
  | d :: rest =>
    match s.queue? d t with
    | none => s.reserveEdge n t rest
    | some q => if (n : Int) ≤ q.free then (s.resv d t n).reserveEdge n t rest else none

/-- CREDITS for r records on every outgoing edge, in one step, or none (R292). -/
def State.takeCredits (s : State) (die r : Nat) (es : List Edge) : Option State :=
  match es with
  | [] => some s
  | e :: rest =>
    match s.reserveEdge (r * e.fanout) e.target (s.reserveDies die e.target) with
    | some s' => s'.takeCredits die r rest
    | none => none

/-- Credits given back on the queues of an edge's target. -/
def State.giveBack (s : State) (n t : Nat) (dies : List Nat) : State :=
  match dies with
  | [] => s
  | d :: rest => (s.resv d t (-(n : Int))).giveBack n t rest

/-- The credits a block did not use leave QRESV; the reserve of a deadline block takes back those it used, but those that
its later CONSUMEs of `later` records reserved leave (R292, R297; 14 R322). -/
def State.freeCredits (s : State) (die : Nat) (deadline : Bool) (later : Nat) (es : List (Edge × Nat × Nat)) : State :=
  match es with
  | [] => s
  | (e, used, allowed) :: rest =>
    let dies := s.reserveDies die e.target
    (if deadline then dies.foldl (fun s d => s.resv d e.target ((used : Int) - (later * e.fanout : Nat))) s
     else s.giveBack (allowed - used) e.target dies).freeCredits die deadline later rest

/-- The ring has room for one more entry, and no entry has spilled (R287). -/
def Queue.ringFull (q : Queue) : Bool :=
  q.entries.any (fun e => e.spilled) || decide ((q.entries.filter (fun e => !e.spilled)).length ≥ q.qcap)

/-- A range record whose GRAIN is 0 is void on arrival (R307). -/
def badRange (n : Node) (bytes : List Byte) : Bool :=
  decide (n.kind = kindRange) && leValue ((bytes.drop 16).take 4) == 0

/-- CLUSTER of a range record that no cluster holds yet (02 R37): a number that no cluster has. -/
def noCluster : Nat := 31

/-- A RECORD TAKEN BY THE QUEUE ARBITER (R284 to R287, R292, R293, R305). -/
def State.enqueue (s : State) (r : RecMsg) : State :=
  match s.node? r.node with
  | none => s
  | some n =>
    let d := s.die r.die
    let void := badRange n r.bytes
    let s := s.modDie r.die (fun d => { d with seq := (d.seq + 1) % 2 ^ 32 })
    let s := s.modQueue r.die r.node (fun q =>
      { q with
        qtail := (q.qtail + 1) % 2 ^ 32
        qresv := if r.credit then q.qresv - 1 else q.qresv
        entries := q.entries ++ [{
          seq := d.seq, depth := r.depth, family := r.family, cmark := r.cmark || decide (n.kind = kindRange),
          cluster := if n.kind = kindRange then noCluster else r.cluster, void := void, sideb := r.sideb, bytes := r.bytes, since := s.cycle, batch := none,
          spilled := q.ringFull }] })
    let s := if r.credit && n.kind == kindScanout then s.resv (1 - r.die) r.node (-1) else s
    let s := s.setStatus r.node (fun x => { x with put := (x.put + 1) % 2 ^ 64 })
    if void then s.countOverrun r.node else s

/-- A message of records of an operation has been taken; the operation finishes with its last, and a LAUNCH then writes its
status 0 (14 R321, R330). -/
def State.recordDone (s : State) (tell : AckTo) : State :=
  match tell with
  | .wave core slot op =>
    let write (w : Wave) : Wave :=
      match w.ops.find? (fun o => o.id == op) with
      | some o => (match o.dst with | .lead i _ => w.setS i 0 | _ => w)
      | none => w
    (s.modWave core slot write).modOp core slot op (fun o => { o with left := o.left - 1, done := decide (o.left ≤ 1) })
  | _ => s

/-- Records taken in order; a launch entry without credit goes to the pending-launch store (R302). -/
def State.enqueueAll (s : State) (rs : List RecMsg) : State :=
  match rs with
  | [] => s
  | r :: rest =>
    (if r.launch && !r.credit then
       s.modDie r.die (fun d => { d with launches := d.launches ++ [{
         node := r.node, param := leValue (r.bytes.take 8), count := leValue ((r.bytes.drop 8).take 8), since := s.cycle }] })
     else s.enqueue r).enqueueAll rest

/-- The queue that a record enters (R284): that of its target on the die it was made on, or its exception. -/
def State.aim (s : State) (r : RecMsg) : RecMsg :=
  if r.launch && !r.credit then r else { r with die := s.targetDie r.die r.node r.bytes }

/-! ## Drain (R291, R305; 17 R391) -/

/-- A block counts as live: a faulted one does not (17 R391). -/
def Block.isLive (b : Block) : Bool :=
  match b.status with
  | .saving f _ | .saved f _ => !f
  | _ => true

/-- A record for a node is held by a join slot or on its way to a queue. -/
def State.heldFor (s : State) (n : Nat) : Bool :=
  [0, 1].any (fun d => (s.die d).joins.any (fun p => match p.2.held with | some r => r.node == n | none => false))
  || s.net.any (fun m => match m.msg with | .record rs => rs.any (fun r => r.node == n) | .steal _ k _ => k == n | _ => false)

/-- The command node of the current graph executes a record that it has taken (R317). -/
def State.commandHeld (s : State) (n : Nat) : Bool :=
  match s.queueCmd with
  | some c => c.1 == s.graphId && c.2.1 == n
  | none => false

/-- A node is resident, admitted or queued on either die. -/
def State.liveNode (s : State) (n : Nat) : Bool :=
  s.heldFor n || s.commandHeld n || s.blocks.any (fun b => b.key.node == n && b.isLive)
  || [0, 1].any (fun d =>
      (s.die d).batches.any (fun b => b.node == n) || (s.die d).launches.any (fun l => l.node == n)
      || (s.die d).jobs.any (fun j => j.node == n) || (s.die d).rayWait.any (fun x => x.node == n) || (s.entries d n).any (fun e => !e.void))

/-- The nodes with an edge to a node. -/
def State.producers (s : State) (n : Nat) : List Nat :=
  (s.nodes.zipIdx.filter (fun p => p.1.edges.any (fun e => e.target == n))).map (fun p => p.2)

/-- A node whose records come from a rasteriser: HLP marks helper lanes (13 R309). -/
def State.rasterFed (s : State) (node : Nat) : Bool :=
  (s.producers node).any (fun p => match s.node? p with | some n => n.kind == kindRaster | none => false)

/-- The queue of a node is tile-ordered: by its entry, or because the rasteriser's output enters it (13 R304). -/
def State.tileOrdered (s : State) (n : Node) (node : Nat) : Bool := n.tileord || s.rasterFed node

/-- No producer of a node is live, and no join slot holds a record for it (R291). -/
def State.noProducers (s : State) (n : Nat) : Bool := !s.heldFor n && !(s.producers n).any s.liveNode

/-- DRAINED of a node (R305): nothing of it is live either. -/
def State.drained (s : State) (n : Nat) : Bool := s.noProducers n && !s.liveNode n

/-- DRAINED of some nodes brought up to date. -/
def State.drainNodes (s : State) (ns : List Nat) : State :=
  match ns with
  | [] => s
  | n :: rest => (s.setStatus n (fun x => { x with flags := putBit x.flags 0 (s.drained n) })).drainNodes rest

/-- GRAPH DRAIN (R291, R305) of every node of a started graph. -/
def State.drainCheck (s : State) : State :=
  match s.graph with
  | some g => if g.started then s.drainNodes (List.range g.nodes.length) else s
  | none => s

/-! ## Arrivals (R287 to R289, R303) -/

/-- RECORD_ENQUEUE (R289). -/
def recordEnqueueStep (i : Nat) (s : State) : State :=
  match s.arrives i with
  | some n =>
    match n.msg with
    | .record (r :: rest) =>
      if r.join.isNone then (((s.taken i).enqueueAll ((r :: rest).map s.aim)).recordDone r.tell).drainCheck else s
    | _ => s
  | none => s

/-- RECORD_ENQUEUE (R289). -/
def execRecordEnqueue (i : Nat) (s : State) : Out := .next (recordEnqueueStep i s)

/-- JOIN_RECORD_ARRIVAL (14 R326; 13 R303): an occupied slot discards the record; one whose count is 0 releases it at once. Which
parked entry it takes the manual leaves open (15 R358; entry 8). -/
def joinArrivalStep (i : Nat) (s : State) : State :=
  match s.arrives i with
  | some n =>
    match n.msg with
    | .record (r :: _) =>
      match r.join with
      | none => s
      | some slot =>
        let s := s.taken i
        let x := s.join r.die slot
        if x.held.isSome then
          let owner := match r.tell with
            | .wave core slot _ => (s.wave? core slot).map (fun w => w.key.node)
            | _ => none
          let s := s.postTo r.tell causeOverrun 0 ((r.edge <<< 11) + (1 <<< 20))
          (match owner with | some k => s.countOverrun k | none => s).recordDone r.tell
        else
          let park := match s.node? r.node with | some n => b2n n.deadline | none => 0
          let at_ := (Config.freeWord s.fresh).toNat % 2 ^ 31 + 2 ^ 31 * park
          let s := ({ s with fresh := s.fresh + 1 } : State).setJoin r.die slot
            { x with held := some { r with tell := .none }, node := r.node, recidx := at_ }
          (if x.count = 0 then s.releaseJoin r.die slot else s).recordDone r.tell
    | _ => s
  | none => s

/-- JOIN_RECORD_ARRIVAL (14 R326). -/
def execJoinRecordArrival (i : Nat) (s : State) : Out := .next (joinArrivalStep i s)

/-- The first spilled entry goes back to the ring. -/
def unspill (l : List QEntry) : List QEntry :=
  match l with
  | [] => []
  | e :: rest => if e.spilled then { e with spilled := false } :: rest else e :: unspill rest

/-- QUEUE_SPILL_RETURN (R287). -/
def execQueueSpillReturn (die : Nat) (node : Nat) (s : State) : Out :=
  .next (s.modQueue die node (fun q =>
    if (q.entries.filter (fun e => !e.spilled)).length < q.qcap then { q with entries := unspill q.entries } else q))

/-- HEAD INSERTION of a split record, at QHEAD: ahead of every entry but those of batches already formed (R285, R288). Where
the queue holds entries of formed batches alone, its SEQ is the die's next SEQ less 1: DESIGN CHOICE (entry 44). -/
def State.headInsert (s : State) (die node : Nat) (bytes : List Byte) (depth family cluster : Nat) : State :=
  let next := (s.die die).seq
  let s := s.modQueue die node (fun q =>
    let formed := q.entries.takeWhile (fun e => e.batch.isSome)
    let rest := q.entries.dropWhile (fun e => e.batch.isSome)
    let seq := match rest with | e :: _ => (e.seq + 2 ^ 32 - 1) % 2 ^ 32 | [] => (next + (if formed = [] then 0 else 2 ^ 32 - 1)) % 2 ^ 32
    { q with
      qhead := (q.qhead + 2 ^ 32 - 1) % 2 ^ 32
      entries := formed ++
        { seq := seq, depth := depth, family := family, cmark := true, cluster := cluster, void := false, sideb := [],
          bytes := bytes, since := s.cycle, batch := none, spilled := false } :: rest })
  s.setStatus node (fun x => { x with put := (x.put + 1) % 2 ^ 64 })

end Sys2Proof.Machine
end

