-- ==== Sys2Proof/Machine/QueueOps.lean ====
section
/-! DEFINITION. CONSUME, RNEXT, LAUNCH and APPEND, and the retry of a parked CONSUME (14 R319 to R330). -/
namespace Sys2Proof.Machine

/-- Words of an XQ form. -/
def xqWords (f : XqF) : Nat := if f.lit.isSome then 5 else 3

/-! ## Encodings (R319) -/

/-- Which of the fields that R319 gives a form it uses. -/
structure XqUse where
  imm21 : Bool
  d : Bool
  a : Bool
  b : Bool
  xop : Bool
  push : Bool
  imm8 : Bool
  lead : Bool
deriving DecidableEq, Repr

/-- No field used, in a lead form. -/
def XqUse.bare : XqUse :=
  { imm21 := false, d := false, a := false, b := false, xop := false, push := false, imm8 := false, lead := true }

/-- Fields that must be zero. -/
def xqZero (u : XqUse) (f : XqF) : List (Option EncFault) :=
  [ zeroField (f.c9 != 0#9), zeroField (f.rsvd1 != 0#3), zeroField (f.rsvd2 != 0#4), zeroField (u.lead && f.kmask != 0#3),
    zeroField (!u.imm21 && f.imm21 != 0#21), zeroField (!u.d && f.d9 != 0#9), zeroField (!u.a && f.a9 != 0#9),
    zeroField (!u.b && f.b9 != 0#9), zeroField (!u.xop && f.xop != 0#5), zeroField (!u.push && f.push != 0#1),
    zeroField (!u.imm8 && f.imm8 != 0#8) ]

/-- The orders of a form (R204). -/
def orderFault (l : List Nat) (f : XqF) : Option EncFault := badValue (!l.contains f.order.toNat)

/-- A lead register s0 to a bound, named by a destination or a source field. -/
def leadRegFault (hi which : Nat) (zero : Bool) (i : BitVec 9) : Option EncFault :=
  match leadIx9 i.toNat with
  | .reserved => some (.opcode 1)
  | .s n => faultIf (decide (n > hi)) (.operand which)
  | .zero => faultIf (!zero) (.operand which)
  | _ => some (.operand which)

/-- The count of CONSUME: s0 to s63, an inline 0 to 63, or the literal. -/
def countOperandFault (i : BitVec 9) : Option EncFault :=
  match leadIx9 i.toNat with
  | .reserved => some (.opcode 1)
  | .s _ | .lit => none
  | .imm x => faultIf (decide (x < 0 ∨ x > 63)) (.operand 2)
  | _ => some (.operand 2)

/-- CONSUME (R319). -/
def legalConsume (f : XqF) : Option EncFault :=
  opcodeFirst (orderFault [0, 9, 12] f :: leadRegFault 62 0 true f.d9 :: litDst f.lit f.d9 :: countOperandFault f.b9 ::
    litFault f.lit (isLitIx f.b9) 64 :: xqZero { XqUse.bare with d := true, b := true } f)
/-- RNEXT (R319). -/
def legalRnext (f : XqF) : Option EncFault :=
  opcodeFirst (orderFault [0] f :: leadRegFault 62 0 false f.d9 :: litDst f.lit f.d9 :: litFault f.lit false 64 ::
    xqZero { XqUse.bare with d := true } f)
/-- LAUNCH (R319). -/
def legalLaunch (f : XqF) : Option EncFault :=
  opcodeFirst (orderFault [0, 9, 12] f :: zeroField (decide (f.imm21.toNat ≥ 65536)) :: leadDstFault (leadIx9 f.d9.toNat) ::
    litDst f.lit f.d9 :: leadSrcFault (leadIx9 f.a9.toNat) :: leadSrcFault (leadIx9 f.b9.toNat) ::
    litFault f.lit (isLitIx f.a9 || isLitIx f.b9) 64 ::
    xqZero { XqUse.bare with imm21 := true, d := true, a := true, b := true } f)
/-- APPEND: `.join`. -/
def appendJoin (f : XqF) : Bool := f.xop.getLsbD 0
/-- APPEND: `.tile`. -/
def appendTile (f : XqF) : Bool := f.xop.getLsbD 1
/-- A lane register in a source field. -/
def vregFault (i : BitVec 9) (which : Nat) : Option EncFault :=
  match laneIx i.toNat with
  | .reserved => some (.opcode 1)
  | .v _ => none
  | _ => some (.operand which)
/-- APPEND (R319). -/
def legalAppend (f : XqF) : Option EncFault :=
  opcodeFirst (orderFault [0, 9, 12] f :: zeroField (decide (f.imm21.toNat ≥ 256)) :: zeroField (decide (f.xop.toNat ≥ 4)) ::
    badValue (appendJoin f && appendTile f) :: vregFault f.a9 1 :: (if appendJoin f then vregFault f.b9 2 else none) ::
    litFault f.lit (isLitIx f.a9 || (appendJoin f && isLitIx f.b9)) 32 ::
    xqZero { imm21 := true, d := false, a := true, b := appendJoin f, xop := true, push := true, imm8 := false, lead := false } f)

/-! ## What a wave finds -/

/-- The node of the issuing wave. -/
def State.myNode (s : State) : Node :=
  (s.node? s.w.key.node).getD
    { kind := 0, recsz := 0, cls := 0, qclass := 0, prio := 0, width := 0, policy := 0, waitf := false, tileord := false, coop := 1,
      minfill := 1, maxwait := 0, codeptr := 0, constptr := 0, edges := [], cmask := 0, dslots := 0, dgran := 0, param := 0,
      tv := [], sinkd := 0, hdr := KInfo.none, roles := [], obj := 0, raw := 0 }

/-- Its die. -/
def State.myDie (s : State) : Nat := dieOf s.w.core

/-- Records of the block's edges: appended, and allowed. -/
def State.edgeUse (s : State) (k : BKey) (e : Nat) : Nat × Nat :=
  match s.block? k with
  | some b => b.edges.getD e (0, 0)
  | none => (0, 0)

/-- Records counted against the allowance of a block's edge. -/
def State.useEdge (s : State) (k : BKey) (e n : Nat) : State :=
  s.modBlock k (fun b => { b with edges := modAt b.edges e (fun p => (p.1 + n, p.2)) })

/-- A posted operation of this chapter. -/
def State.queueOp (s : State) (i : Instr) (c : OpCls) (left : Nat) (dst : Dst) : State :=
  s.addOp
    { id := s.nextId, cls := c, tinfo := tinfoOf i, pc := s.w.pcOf s.st, left := left, leftDie := 0, leftAll := 0, pushes := false,
      dst := dst, acq := false, got := [], bad := [], done := false }

/-- The scope of the release of an APPEND or LAUNCH: `.dev` unless `.sys` (R204). -/
def queueScope (f : XqF) : Nat := max 3 (scopeOf f.order.toNat)

/-- A QUEUE_OVERRUN of the issuing wave (R305, R328): the fault is taken, instead of an issue, and OVERRUN counts it. -/
def State.overrun (s : State) (i : Instr) (flanes detail : Nat) : State :=
  { (s.countOverrun s.w.key.node).stopWith i.word0 (.trap causeOverrun flanes 0 detail) with stalled := true }

/-! ## CONSUME (R322 to R324) -/

/-- Bytes of a window page. -/
def windowPage : Nat := 16384

/-- Copies of the lines of a window page leave the core's L1, with every message on its way to install one. -/
def Core.dropPage (c : Core) (lines : List Nat) : Core :=
  match lines with
  | [] => c
  | l :: rest => (c.dropLine l).dropPage rest

/-- A message that would install or change a line of an address range in an L1. -/
def Msg.installs (m : Msg) (pa n : Nat) : Bool :=
  match m with
  | .fill _ l _ _ | .push _ l _ _ | .notice _ l => inRange l pa n
  | _ => false

/-- A WINDOW PAGE WRITTEN (R323): the records in lane order, and 0 beyond them; no older copy of its lines stays. -/
def State.writeWindow (s : State) (core pa : Nat) (bs : List Byte) : State :=
  let lines := ((s.core core).l1.filter (fun x => inRange x.line pa windowPage)).map (fun x => x.line)
  let s := s.modCore core (fun c => c.dropPage lines)
  { s with
    mem := memWrite (mapClear s.mem pa windowPage) pa bs
    dir := mapClear s.dir pa windowPage
    net := s.net.filter (fun n => !n.msg.installs pa windowPage) }

/-- The sidebands of placed records are over (10 R223). -/
def State.freeSidebands (s : State) (die : Nat) (es : List QEntry) : State :=
  s.modDie die (fun d => { d with sidebands := d.sidebands - (es.filter (fun e => e.sideb != [])).length })

/-- A HANDOFF: the lines of the sidebands of some records, in their order, repeated addresses dropped, pushed one after the
other into the L1 of the core that consumes them (10 R222, R223). -/
def State.handOff (s : State) (core : Nat) (es : List QEntry) : State :=
  let lines := (es.flatMap (fun e => e.sideb)).foldl (fun acc l => if acc.contains l then acc else acc ++ [l]) []
  if lines = [] then s else { s with nextId := s.nextId + 1 }.nextPush s.nextId core lines

/-- The sidebands of records that a CONSUME takes. -/
def State.pushSidebands (s : State) (core : Nat) (es : List QEntry) : State := (s.freeSidebands (dieOf core) es).handOff core es

/-- The tile key of a record (13 R304). -/
def tileKey (bs : List Byte) : Nat := leValue (bs.take 4)

/-- Tile keys of the resident blocks of a node on a die, but one. -/
def State.tileKeysBut (s : State) (die node : Nat) (k : Option BKey) : List Nat :=
  (s.blocks.filter (fun b => b.key.node == node && b.die == die && k != some b.key && b.isLive)).flatMap (fun b => b.tileKeys)

/-- The records that a later CONSUME may take, in order: those of closed batches not yet placed as well (24 R488;
entry 25), up to the first that tile order withholds; none of a revoked node, whose batches are not admitted (17 R392). -/
def State.consumable (s : State) (n : Node) : List QEntry :=
  let es := (s.entries s.myDie s.w.key.node).filter (fun e => !e.void)
  if s.revoked s.w.key.node then []
  else if s.tileOrdered n s.w.key.node then
    let held := s.tileKeysBut s.myDie s.w.key.node (some s.w.key)
    es.takeWhile (fun e => !held.contains (tileKey e.bytes))
  else es

/-- k records fewer in the parts of a batch, from the first. -/
def shrinkParts (l : List (BKey × Nat)) (k : Nat) : List (BKey × Nat) :=
  match l with
  | [] => []
  | (b, n) :: rest => if n ≤ k then shrinkParts rest (k - n) else (b, n - k) :: rest

/-- Credits of an admitted batch given back on every edge. -/
def State.giveBackEdges (s : State) (die r : Nat) (es : List Edge) : State :=
  match es with
  | [] => s
  | e :: rest => (s.giveBack (r * e.fanout) e.target (s.reserveDies die e.target)).giveBackEdges die r rest

/-- One closed batch of a die gives up k of its records, and with them their credits. -/
def State.shrinkBatch (s : State) (die : Nat) (n : Node) (id k : Nat) : State :=
  match (s.die die).batches.find? (fun b => b.id == id) with
  | none => s
  | some b =>
    let s := if b.admitted && !n.deadline then s.giveBackEdges die k n.edges else s
    s.modDie die (fun d =>
      { d with batches := d.batches.filterMap (fun (x : Batch) =>
          if x.id = id then (if x.r ≤ k then none else some { x with r := x.r - k, parts := shrinkParts x.parts k }) else some x) })

/-- The batches of some records give them up. -/
def State.shrinkFor (s : State) (die : Nat) (n : Node) (es : List QEntry) : State :=
  match es with
  | [] => s
  | e :: rest => (match e.batch with | some id => s.shrinkBatch die n id 1 | none => s).shrinkFor die n rest

/-- The first n non-void entries leave a queue, and void ones before them with them; how many of these QHEAD had not
passed. -/
def takeEntries (l : List QEntry) (n : Nat) : List QEntry × Nat :=
  match l, n with
  | l, 0 => (l, 0)
  | [], _ => ([], 0)
  | e :: rest, n + 1 =>
    let r := takeEntries rest (if e.void then n + 1 else n)
    (r.1, r.2 + b2n e.batch.isNone)

/-- Records taken off the head of a queue. -/
def State.dequeue (s : State) (die node n : Nat) : State :=
  let s := s.modQueue die node (fun q =>
    let l := takeEntries q.entries n
    Queue.trim { q with qhead := (q.qhead + l.2) % 2 ^ 32, entries := l.1 })
  s.setStatus node (fun x => { x with taken := (x.taken + n) % 2 ^ 64 })

/-- The largest count, at most n, for which credits can be reserved, with the reservation made, in every class (R322); of
pixel records only whole quads are taken (13 R309). -/
def State.takeSome (s : State) (node : Node) (es : List QEntry) (n : Nat) : State × Nat :=
  match n with
  | 0 => (s, 0)
  | n + 1 =>
    if s.rasterFed s.w.key.node && (n + 1) % 4 != 0 then s.takeSome node es n
    else
    let s1 := s.shrinkFor s.myDie node (es.take (n + 1))
    match s1.takeCredits s.myDie (n + 1) node.edges with
    | some s2 => (s2, n + 1)
    | none => s.takeSome node es n

/-- The greatest DEPTH of some records. -/
def maxDepth (es : List QEntry) : Nat := es.foldl (fun m e => max m e.depth) 0

/-- What a CONSUME adds to its block: allowance, DEPTH and tile keys (R322, 13 R293). -/
def Block.widen (n : Node) (tiled : Bool) (es : List QEntry) (b : Block) : Block :=
  { b with
    r := b.r + es.length
    later := b.later + es.length
    depth := max b.depth (maxDepth es)
    edges := (b.edges.zip n.edges).map (fun p => (p.1.1, p.1.2 + es.length * p.2.fanout))
    tileKeys := if tiled then b.tileKeys ++ es.map (fun e => tileKey e.bytes) else b.tileKeys }

/-- The two results of CONSUME, where its destination is a register. -/
def State.consumeOut (s : State) (f : XqF) (a b : Nat) : State :=
  match leadIx9 f.d9.toNat with
  | .s d => (s.modW (fun w => (w.setS d a).setS (d + 1) b)).advance (xqWords f)
  | _ => s.advance (xqWords f)

/-- Records of a node come from a sensor stream (13 R314). -/
def State.sensorFed (s : State) (node : Nat) : Bool :=
  (s.producers node).any (fun p => match s.node? p with | some n => n.kind == kindSensor | none => false)

/-- A window is pending no more once its latest frame record itself, not an older one, is taken (20 R438). -/
def Sensor.frameTaken (x : Sensor) (rec : Nat) : Sensor := { x with pending := x.pending.filter (fun p => p.2 != rec) }

/-- Frame records taken by a CONSUME. -/
def State.framesTaken (s : State) (recs : List (List Byte)) : State :=
  if s.sensorFed s.w.key.node then
    recs.foldl (fun s r =>
      { s with sensors := modAt s.sensors (leValue (r.take 1)) (fun x => x.frameTaken (leValue r)) }) s
  else s

/-- The records that were placed with a wave, as its first window page holds them. -/
def State.placedRecords (s : State) (n : Node) : List (List Byte) :=
  (List.range s.w.nrec).map (fun i => memBytes s.mem (s.w.winBase + i * n.recsz) n.recsz)

/-- The next window page holds the records of a later CONSUME, and 0 beyond them; the one after it takes the other page
(R323). -/
def State.turnPage (s : State) (es : List QEntry) : State :=
  let page := s.w.winNext
  let k := es.length
  (s.writeWindow s.w.core (s.w.winBase + windowPage * page) (es.flatMap (fun e => e.bytes))).modW (fun w =>
    { w with
      winNext := 1 - page
      winRecs0 := if page = 0 then k else w.winRecs0
      winRecs1 := if page = 1 then k else w.winRecs1 })

/-- A LATER CONSUME takes n records into its next window page (R322, R323). -/
def State.consumeTake (s : State) (n : Node) (es : List QEntry) (k : Nat) : State :=
  let es := es.take k
  let key := s.w.key
  let tiled := s.tileOrdered n key.node
  let s := ((s.dequeue s.myDie key.node k).modBlock key (Block.widen n tiled es)).framesTaken (es.map (fun e => e.bytes))
  let s := (s.turnPage es).pushSidebands s.w.core es
  s.acquire s.w.core

/-- CONSUME of a shader node with records (R322). -/
def State.consumeShader (s : State) (n : Node) (f : XqF) (m : Nat) : R State :=
  let w := s.w
  if !w.winFirst then
    let s := (s.framesTaken (s.placedRecords n)).modW (fun w => { w with winFirst := true, winNext := 1, winRecs0 := w.nrec })
    .ok ((if w.nrec > 0 then s.acquire w.core else s).consumeOut f w.nrec win0)
  else
    let tag := match s.queue? s.myDie w.key.node with | some q => q.qtag | none => 0
    if n.waitf && !waitLegal tag w.key w.key && tagClass tag != 0 && tagClass tag != 3 then
      .error (.trap causeWait 0 0 ((2 <<< 11) + (tagClass tag <<< 13) + (b2n (tagOwn tag) <<< 15)))
    else
      let es := s.consumable n
      let (s1, k) := s.takeSome n es (min m es.length)
      let addr := win0 + windowPage * w.winNext
      if k > 0 then .ok ((s1.consumeTake n es k).consumeOut f k addr)
      else if n.waitf && !s.noProducers w.key.node then
        .ok (s.park (.consume (xqWords f)))
      else .ok ((s.turnPage []).consumeOut f 0 addr)

/-- CONSUME (R322, R324). -/
def consumeBody (f : XqF) (s : State) : R State := do
  let b := leadIx9 f.b9.toNat
  let ds := match leadIx9 f.d9.toNat with | .s d => [d, d + 1] | _ => []
  s.leadReady [b] ds
  let l := s.w.lanes
  let m0 := s.w.leadVal f.lit b
  let m := if m0 = 0 then l else m0
  if m > l then .error (.trap causeOperand 0 0 (2 <<< 11))
  s.sregCheck (ds ++ (match b with | .s n => [n] | _ => []))
  if s.lineRaised s.w then .ok (s.modW Wave.sampleAbort)
  else
    let n := s.myNode
    if n.kind = kindDispatch then
      match (s.block? s.w.key).bind (fun b => b.grid) with
      | some (local_, param) => .ok (s.consumeOut f local_ param)
      | none => .ok (s.consumeOut f 0 0)
    else if n.kind = kindShader ∧ n.recsz ≠ 0 then s.consumeShader n f m
    else .ok (s.consumeOut f 0 0)

/-- CONSUME (R322). -/
def execConsume (f : XqF) (s : State) : Out := s.issue (.consume f) (some .lead) 0 8 (legalConsume f) (consumeBody f)

/-- A parked CONSUME has something to go on for: records it can take, or the graph drain (R324). -/
def State.consumeWakes (s : State) (w : Wave) : Bool :=
  match s.focus w.core w.slot .lead with
  | some s' =>
    let n := s'.myNode
    let es := s'.consumable n
    decide ((s'.takeSome n es (min 4 es.length)).2 > 0) || s'.noProducers w.key.node
  | none => false

/-- CONSUME_RETRY (R322, R324): the parked wave runs again, and its CONSUME issues again. -/
def execConsumeRetry (c : Nat) (slot : Nat) (s : State) : Out :=
  .next (match s.wave? c slot with
    | some w =>
      (match w.status with
       | .parked (.consume _) =>
         if s.consumeWakes w then s.modWave c slot (fun w => { w with status := .running, parkCount := 0 }) else s
       | _ => s)
    | none => s)

/-! ## RNEXT (R329) -/

/-- The next chunk of a descriptor. -/
def RDesc.chunk (d : RDesc) : Nat × Nat × RDesc :=
  if d.next ≥ d.hi then (0, 0, d)
  else
    let e := min (d.next + d.grain) d.hi
    (d.next, e, { d with next := e })

/-- RNEXT: the chunk is taken by the arbiter now, and the pair is written; it counts out in the order of its class (R321,
R329; 16 R366). -/
def rnextBody (f : XqF) (s : State) : R State := do
  let d := f.d9.toNat
  s.leadReady [] [d, d + 1]
  s.counterRoom .leadQo
  match (s.block? s.w.key).bind (fun b => b.desc) with
  | none => .error (.trap causeOperand 0 0 0)
  | some (g, i) =>
    s.sregCheck [d, d + 1]
    if s.lineRaised s.w then .ok (s.modW Wave.sampleAbort)
    else
      let (lo, hi, d') := ((s.cluster g).descs.getD i RDesc.empty).chunk
      let s := s.modCluster g (fun c => { c with descs := setAt c.descs i d' })
      .ok (((s.doneOp .leadQo (tinfoOf (.rnext f))).modW (fun w => (w.setS d lo).setS (d + 1) hi)).advance (xqWords f))

/-- RNEXT (R329). -/
def execRnext (f : XqF) (s : State) : Out := s.issue (.rnext f) (some .lead) 0 8 (legalRnext f) (rnextBody f)

/-! ## LAUNCH (R330) -/

/-- Entries of the pending-launch store of a die (13 R302). -/
def launchMax : Nat := 4096

/-- Launch entries of a die in its pending-launch store or on their way to it. -/
def State.launchesHeld (s : State) (die : Nat) : Nat :=
  (s.die die).launches.length +
    (s.net.flatMap (fun m => match m.msg with
      | .record rs => rs.filter (fun r => r.launch && !r.credit && r.die == die)
      | _ => [])).length

/-- The fault of a LAUNCH's operands. -/
def State.launchFault (s : State) (t g param : Nat) : Option Nat :=
  match s.node? t with
  | none => some 0
  | some n =>
    if n.kind ≠ kindDispatch then some 0
    else if g = 0 ∨ g > 65536 then some 1
    else if param ≥ 2 ^ 47 ∨ param % 16 ≠ 0 then some 2
    else none

/-- A launch entry on its way (R330); it has DEPTH 0. -/
def State.sendLaunch (s : State) (i : Instr) (f : XqF) (t g param e : Nat) (credit : Bool) : State :=
  let d := leadIx9 f.d9.toNat
  let dst : Dst := match d with | .s n => .lead n 5 | _ => .none
  let id := s.nextId
  let after := s.memOps
  let die := if credit then s.targetDie s.myDie t [] else s.myDie
  let r : RecMsg :=
    { die := die, node := t, join := none, bytes := leBytes param 8 ++ leBytes g 8, depth := 0, family := 0, cluster := 0, cmark := false,
      sideb := [], tell := .wave s.w.core s.w.slot id, credit := credit, launch := true, edge := e }
  (s.queueOp i .leadQo 1 dst).sendAfter s.w.core s.w.slot after (queueScope f) (.record [r])

/-- LAUNCH (R330). -/
def launchBody (f : XqF) (s : State) : R State := do
  let i : Instr := .launch f
  let a := leadIx9 f.a9.toNat
  let b := leadIx9 f.b9.toNat
  let d := leadIx9 f.d9.toNat
  s.leadReady [a, b] (leadDst d)
  s.counterRoom .leadQo
  s.sregCheck (leadRegs [a, b] ++ leadDst d)
  let t := f.imm21.toNat
  let g := s.w.leadVal f.lit b
  let param := s.w.leadVal f.lit a
  let s1 := s.modW (fun w => w.popRq [a, b])
  match s.launchFault t g param with
  | some n => .error (.trap causeLaunch 0 0 (n <<< 11))
  | none =>
    match s.myNode.edges.findIdx? (fun e => e.target == t) with
    | some e =>
      let u := s.edgeUse s.w.key e
      if u.1 + 1 > u.2 then .ok (s.overrun i 0 (e <<< 11))
      else .ok (((s1.useEdge s.w.key e 1).sendLaunch i f t g param e true).advance (xqWords f))
    | none =>
      if s.launchesHeld s.myDie ≥ launchMax then .ok (((s1.doneOp .leadQo (tinfoOf i)).modW (fun w => w.writeLead d 1)).advance (xqWords f))
      else .ok ((s1.sendLaunch i f t g param 0 false).advance (xqWords f))

/-- LAUNCH (R330). -/
def execLaunch (f : XqF) (s : State) : Out := s.issue (.launch f) (some .lead) 0 8 (legalLaunch f) (launchBody f)

/-! ## APPEND (R325 to R328) -/

/-- The record of a lane: registers A up, low register first. -/
def Wave.record (w : Wave) (a size l : Nat) : List Byte :=
  (List.range (size / 4)).flatMap (fun k => leBytes (w.getV (a + k) l) 4)

/-- The handoff sideband that an APPEND hands over (R327): nothing while the die's store is full. -/
def State.sidebandOf (s : State) (f : XqF) : List Nat :=
  if f.push = 1#1 ∧ (s.die s.myDie).sidebands < 2047 then s.w.dirty else []

/-- The records of an APPEND. -/
def State.appendRecs (s : State) (f : XqF) (t : Nat) (n : Node) (depth : Nat) (tell : AckTo) (lanes : List Nat) : List RecMsg :=
  let low := lanes.head?
  lanes.map (fun l =>
    let bs := s.w.record f.a9.toNat n.recsz l
    { die := s.targetDie s.myDie t bs, node := t, join := if appendJoin f then some (s.w.getV f.b9.toNat l) else none, bytes := bs,
      depth := depth, family := 0, cluster := 0, cmark := false, sideb := if low = some l then s.sidebandOf f else [], tell := tell,
      credit := true, launch := false, edge := f.imm21.toNat })

/-- Records sent, one message each. -/
def State.sendEach (s : State) (after : List Nat) (scope : Nat) (rs : List RecMsg) : State :=
  match rs with
  | [] => s
  | r :: rest => (s.sendAfter s.w.core s.w.slot after scope (.record [{ r with die := s.myDie }])).sendEach after scope rest

/-- RECORDS ON THEIR WAY (R325): to one queue together, or each to its join slot on this die; a handed-over sideband empties
the dirty-line set (R327). -/
def State.sendRecords (s : State) (i : Instr) (f : XqF) (t : Nat) (n : Node) (depth : Nat) (lanes : List Nat) : State :=
  let id := s.nextId
  let rs := s.appendRecs f t n depth (.wave s.w.core s.w.slot id) lanes
  let after := s.memOps
  let held := (rs.filter (fun r => r.sideb != [])).length
  let die := s.myDie
  let s := (s.queueOp i .laneQo (if appendJoin f then rs.length else 1) (.lanes 0 0 (maskOf lanes) 0)).modDie die
    (fun d => { d with sidebands := d.sidebands + held })
  let s := if f.push = 1#1 then s.modW (fun w => { w with dirty := [] }) else s
  if appendJoin f then s.sendEach after (queueScope f) rs
  else s.sendAfter s.w.core s.w.slot after (queueScope f) (.record rs)

/-- The DEPTH of a record that the issuing block appends on an edge (13 R293). -/
def State.newDepth (s : State) (e : Edge) : Nat :=
  match s.block? s.w.key with
  | some b => if s.myNode.recsz = 0 && s.myNode.kind == kindShader then 0 else if e.depth = 0 then b.depth else b.depth + 1
  | none => 0

/-- The operand faults of APPEND that R325 judges: the edge, its target's record, the register run, the tile form. -/
def State.appendTarget (s : State) (f : XqF) (act : Nat) : R (Edge × Node) :=
  match s.myNode.edges[f.imm21.toNat]? with
  | none => .error (.trap causeOperand act 0 (3 <<< 11))
  | some e =>
    match s.node? e.target with
    | none => .error (.trap causeOperand act 0 (3 <<< 11))
    | some n =>
      if n.recsz = 0 ∨ n.kind = kindDispatch then .error (.trap causeOperand act 0 (3 <<< 11))
      else if f.a9.toNat + n.recsz / 4 - 1 > 319 then .error (.trap causeOperand act 0 (1 <<< 11))
      else if appendTile f != s.tileOrdered n e.target then .error (.trap causeOperand act 0 (3 <<< 11))
      else .ok (e, n)

/-- APPEND (R325). -/
def appendBody (f : XqF) (s : State) : R State := do
  let i : Instr := .append f
  let act := s.w.active f.kmask.toNat
  let lanes := lanesOf (s.w.voters act) s.w.lanes
  if lanes = [] then .ok () else s.counterRoom .laneQo
  let (e, n) ← s.appendTarget f act
  if lanes = [] then .ok (s.advance (xqWords f))
  else
    let srcs := (List.range (n.recsz / 4)).map (fun k => f.a9.toNat + k) ++ (if appendJoin f then [f.b9.toNat] else [])
    s.laneReady srcs []
    let far := lanes.filter (fun l => decide (s.w.getV f.b9.toNat l ≥ 1048576))
    if appendJoin f && decide (f.b9.toNat < 8 * s.w.g) && far != [] then
      .error (.trap causeOperand (maskOf far) 0 (2 <<< 11))
    s.regCheck act srcs
    let ei := f.imm21.toNat
    let u := s.edgeUse s.w.key ei
    let depth := s.newDepth e
    let beyond := lanes.drop (u.2 - u.1)
    if beyond ≠ [] then .ok (s.overrun i (maskOf beyond) (ei <<< 11))
    else if e.depth ≠ 0 ∧ depth > e.depth then .ok (s.overrun i act ((ei <<< 11) + (1 <<< 19)))
    else .ok (((s.useEdge s.w.key ei lanes.length).sendRecords i f e.target n depth lanes).advance (xqWords f))

/-- APPEND (R325). -/
def execAppend (f : XqF) (s : State) : Out :=
  s.issue (.append f) (some .lane) f.kmask.toNat 8 (legalAppend f) (appendBody f)

end Sys2Proof.Machine
end

