-- ==== Sys2Proof/Machine/Footprint.lean ====
section
/-! DEFINITION. Job cards and footprints: CPY, COLL, and the engines that run jobs (09 R210; 14 R331 to R337; 15 R354 to
R357; 13 R312, R313). -/
namespace Sys2Proof.Machine

/-! ## Cards (R331) -/

/-- A field of a card as a signed number of 32 bits. -/
def cardStride (x lo : Nat) : Int := sextN (bits x lo 32) 32

/-- The card of 512 bits. -/
def cardOf (x : Nat) : Card :=
  { src := bits x 0 64, dst := bits x 64 64, sstride := cardStride x 128, dstride := cardStride x 160, rowbytes := bits x 192 24,
    rows := bits x 216 16, skind := bits x 232 2, dkind := bits x 234 2, conv := bits x 236 4, elem := bits x 240 4,
    jobid := bits x 480 32 }

/-- The eight registers of a card as one number. -/
def Wave.cardBits (w : Wave) (n : Nat) : Nat := (List.range 8).foldl (fun acc k => acc + w.getS (n + k) * 2 ^ (64 * k)) 0

/-- Bytes of a source row. -/
def Card.srcRow (c : Card) : Nat := if c.conv = 2 then 2 * c.rowbytes else if c.conv = 3 then c.rowbytes / 2 else c.rowbytes

/-- A zero or out-of-range count, a reserved code or a reserved bit. -/
def cardBad (x : Nat) (c : Card) : Bool :=
  c.rowbytes == 0 || c.rows == 0 || decide (c.conv > 3) || bits x 244 236 != 0 || decide (c.elem > 3)

/-- What a job does: a copy, or a collective by its op (R332, R333). -/
def kindsOk (coll : Option Nat) (c : Card) : Bool :=
  match coll with
  | none => decide (c.skind ≤ 1 ∧ c.dkind ≤ 1)
  | some 0 => decide (c.skind ≤ 1 ∧ c.dkind = 2)
  | some 1 => decide (c.skind = 2 ∧ c.dkind ≤ 1 ∧ c.conv = 0)
  | _ => decide (c.skind = 2 ∧ c.dkind ≤ 1)

/-- The value that breaks an alignment of R331, source before destination. -/
def cardOdd (c : Card) (reduce : Bool) : Option Nat :=
  let sa := if reduce ∨ c.conv = 2 then 4 else if c.conv = 3 then 2 else 1
  let da := if reduce ∨ c.conv = 1 ∨ c.conv = 3 then 4 else if c.conv = 2 then 2 else 1
  let vals : List (Nat × Int) :=
    [(sa, (c.src : Int)), (sa, c.sstride), (da, (c.dst : Int)), (da, c.dstride), (da, (c.rowbytes : Int))]
  (vals.find? (fun p => decide (p.2 % (p.1 : Int) ≠ 0))).map (fun p => wrapN p.2 64)

/-! ## Regions (R334, R355, R356) -/

/-- A region. -/
def regionOf (base rowbytes rows : Nat) (stride : Int) (mode : Nat) (scratch : Bool) (score scnt : Nat) : Region :=
  { base := base, rowbytes := rowbytes, rows := rows, stride := stride, mode := mode, scratch := scratch, score := score,
    scnt := scnt }

/-- The regions of a card on a span that begins at a core (R334, R355). -/
def Card.regions (c : Card) (coll : Option Nat) (core core0 k : Nat) : List Region :=
  let place (kind : Nat) : Bool × Nat × Nat := if kind = 0 then (false, 0, 0) else if kind = 1 then (true, core, 1) else (true, core0, k)
  let s := place c.skind
  let d := place c.dkind
  let rows := if coll = some 2 then k * c.rows else c.rows
  (if c.conv = 1 then [] else [regionOf c.src c.srcRow c.rows c.sstride 1 s.1 s.2.1 s.2.2])
    ++ [regionOf c.dst c.rowbytes rows c.dstride 2 d.1 d.2.1 d.2.2]

/-- The start of a row. -/
def Region.rowAt (r : Region) (i : Nat) : Int := (r.base : Int) + r.stride * (i : Int)
/-- The envelope of a region (R356). -/
def Region.lo (r : Region) : Int := (r.base : Int) + min 0 (((r.rows : Int) - 1) * r.stride)
/-- Its end. -/
def Region.hi (r : Region) : Int := (r.base : Int) + max 0 (((r.rows : Int) - 1) * r.stride) + (r.rowbytes : Int)

/-- Two regions conflict (R356). -/
def Region.conflicts (a b : Region) : Bool :=
  a.scratch == b.scratch
  && (!a.scratch || decide (a.score < b.score + b.scnt ∧ b.score < a.score + a.scnt))
  && decide (max a.lo b.lo < min a.hi b.hi) && (decide (a.mode ≥ 2) || decide (b.mode ≥ 2))

/-- DETAIL of a job's PAGE_PROT (17 R384). -/
def jobProt (write : Bool) : Nat := (1 <<< 16) + (if write then 1 <<< 12 else 0)

/-- A row of a region that satisfies a test, at its start. -/
def Region.badRow (r : Region) (p : Int → Bool) : Option Int :=
  ((List.range r.rows).find? (fun i => p (r.rowAt i))).map (fun i => r.rowAt i)

/-- The checks of regions at issue, by the order of 17 R383: an address outside 0 to 2^47 − 1, alignment, the scratch window
(08 R192), then the record windows (R323). TADDR of SCRATCH_BOUNDS is the start offset of the first row outside the window,
modulo 2^64, the source region before the destination: DESIGN CHOICE, unsafe (entry 39), since R192 speaks of lanes only. -/
def regionsFault (scratch : Nat) (odd : Option Nat) (rs : List Region) : Option Stop :=
  let wr (r : Region) : Bool := decide (r.mode ≥ 2)
  let far (r : Region) : Option Stop :=
    if !r.scratch && r.rows != 0 && decide (r.lo < 0 ∨ r.hi > 2 ^ 47) then
      some (.trap causeProt 0 (wrapN ((r.badRow (fun a => decide (a < 0 ∨ a + (r.rowbytes : Int) > 2 ^ 47))).getD r.lo) 64) (jobProt (wr r)))
    else none
  let out (r : Region) : Option Stop :=
    if r.scratch && r.rows != 0 && decide (r.lo < 0 ∨ r.hi > (scratch : Int)) then
      some (.trap causeScratch 0
        (wrapN ((r.badRow (fun a => decide (a < 0 ∨ a + (r.rowbytes : Int) > (scratch : Int)))).getD r.lo) 64) 0)
    else none
  let win (r : Region) : Option Stop :=
    if r.scratch then none
    else (r.badRow (fun a => decide (a < (win0 : Int) + 0x8000 ∧ (win0 : Int) < a + (r.rowbytes : Int)))).map
      (fun a => .trap causeProt 0 (wrapN (max a (win0 : Int)) 64) (jobProt (wr r)))
  (rs.findSome? far).orElse fun _ =>
    (odd.map (fun v => Stop.trap causeAlign 0 v (7 <<< 11))).orElse fun _ => (rs.findSome? out).orElse fun _ => rs.findSome? win

/-! ## Entries (R354, R356) -/

/-- Entries of a footprint table. -/
def jobMax : Nat := 1024

/-- The table of a die is full. -/
def State.tableFull (s : State) (die : Nat) : Bool := decide ((s.die die).jobs.length ≥ jobMax)

/-- AN ENTRY MADE (R356): its predecessors are the jobs with a conflicting region. -/
def State.enterJob (s : State) (die : Nat) (j : Job) : State :=
  let hit (x : Job) : Bool := x.regions.any (fun a => j.regions.any (fun b => a.conflicts b))
  let preds := ((s.die die).jobs.filter hit).map (fun x => x.id)
  s.modDie die (fun d => { d with jobs := d.jobs ++ [{ j with preds := preds }] })

/-- A job that has not begun. -/
def Job.blank (id core : Nat) (kind : JobKind) (regions : List Region) : Job :=
  { id := id, jobid := 0, state := 1, core := core, slot := 0, srck := 0, preds := [], regions := regions, kind := kind,
    key := { node := 0, blk := 0, grid := 0 }, op := 0, node := 65536, edge := 0, scope := 3, after := [], comp := 0, compNum := 0,
    row := 0, col := 0, buf := [], acks := 0, page := none, pageSince := 0, fault := none, status := 0, nnan := 0, novf := 0, paid := 0, scales := none }

/-! ## CPY and COLL (R319, R331 to R335) -/

/-- The completion code and the op of a job form. -/
def jobComp (f : XqF) : Nat := f.xop.toNat % 4
/-- The op of COLL. -/
def collOp (f : XqF) : Nat := f.xop.toNat / 4

/-- CPY and COLL (R319). -/
def legalJob (coll : Bool) (f : XqF) : Option EncFault :=
  opcodeFirst (orderFault [0, 6, 9, 12] f :: badValue (decide (jobComp f > 2)) ::
    (if coll then badValue (decide (collOp f > 2)) else zeroField (collOp f != 0)) ::
    leadRegFault 56 1 false f.a9 :: zeroField (decide (jobComp f = 0) && f.imm8 != 0#8) :: litFault f.lit (isLitIx f.a9) 64 ::
    xqZero { XqUse.bare with a := true, xop := true, imm8 := true } f)

/-- Destination bytes, summed over every core written (R335). -/
def Card.bytes (c : Card) (coll : Option Nat) (k : Nat) : Nat :=
  c.rowbytes * c.rows * (match coll with | some 0 | some 2 => k | _ => 1)

/-- The scope of a job (R204). -/
def jobScope (f : XqF) : Nat := if scopeOf f.order.toNat = 0 then 3 else scopeOf f.order.toNat

/-- CPY and COLL at issue (R331 to R336). -/
def jobBody (i : Instr) (coll : Option Nat) (f : XqF) (s : State) : R State := do
  let n := f.a9.toNat
  let rs := (List.range 8).map (fun k => n + k)
  s.leadReady (rs.map LeadIx.s) []
  s.counterRoom .leadCp
  if s.tableFull s.myDie then .error .stall
  else
    s.sregCheck rs
    let x := s.w.cardBits n
    let c := cardOf x
    let (core0, k) := match s.block? s.w.key with | some b => (b.core0, b.k) | none => (s.w.core, 1)
    if cardBad x c || !kindsOk coll c
        || (decide (jobComp f = 2) && decide (c.bytes coll k ≥ 2 ^ 24)) then
      .error (.trap causeOperand 0 0 (3 <<< 11))
    else
      let regions := c.regions coll s.w.core core0 k
      match regionsFault s.w.k.scratch (cardOdd c (decide (coll = some 1))) regions with
      | some x => .error x
      | none =>
        let id := s.nextId
        let kind : JobKind := match coll with | none => .copy c | some op => .coll op c
        let j : Job :=
          { Job.blank id s.w.core kind regions with
            jobid := c.jobid, slot := s.w.slot, srck := if coll = none then 0 else 1, key := s.w.key, op := id,
            scope := jobScope f, after := s.memOps, comp := jobComp f, compNum := f.imm8.toNat }
        .ok (((s.queueOp i .leadCp 0 .none).enterJob s.myDie j).advance (xqWords f))

/-- CPY (R332). -/
def execCpy (f : XqF) (s : State) : Out := s.issue (.cpy f) (some .lead) 0 8 (legalJob false f) (jobBody (.cpy f) none f)

/-- COLL (R333). -/
def execColl (f : XqF) (s : State) : Out :=
  s.issue (.coll f) (some .lead) 0 8 (legalJob true f) (jobBody (.coll f) (some (collOp f)) f)

/-! ## What a job reads and writes (R332, R333, R336) -/

/-- What an engine's access meets: a missing page, a fault with its address and DETAIL, or a line that is moving home. -/
inductive JobStop where
  | miss (va : Nat)
  | fault (cause va detail : Nat)
  | wait
deriving DecidableEq, Repr

/-- The parts of n bytes from an address that lie in one line each. -/
def lineParts (va n : Nat) : List (Nat × Nat) :=
  (List.range (if n = 0 then 0 else (va + n - 1) / 128 - va / 128 + 1)).map (fun k =>
    let a := max va ((va / 128 + k) * 128)
    (a, min (va + n) ((va / 128 + k + 1) * 128) - a))

/-- The physical address of a job's access. -/
def State.jobXl (s : State) (core : Nat) (write : Bool) (va : Nat) : Except JobStop Nat :=
  if va ≥ 2 ^ 47 ∨ inWindow va then .error (.fault causeProt va (jobProt write))
  else
  match s.xlate core va (if write then permWR else permRD) with
  | .ok pa => .ok pa
  | .error .miss => .error (.miss va)
  | .error (.prot l) => .error (.fault causeProt va (jobProt write + (l <<< 14)))

/-- Bytes read at virtual addresses: a line in state C is folded (10 R221), a poisoned one is a fault. -/
def State.jobRead (s : State) (core : Nat) (ps : List (Nat × Nat)) : Except JobStop (State × List Byte) :=
  match ps with
  | [] => .ok (s, [])
  | (va, n) :: rest =>
    match s.jobXl core false va with
    | .error x => .error x
    | .ok pa =>
      let line := lineOf pa
      if s.heldBack line || s.foldBusy line then .error .wait
      else
        let s := if s.lineState line = .c then s.foldNow line else s
        if s.poisoned line then .error (.fault causePoison va (1 <<< 11))
        else
          match s.jobRead core rest with
          | .error x => .error x
          | .ok (s', bs) => .ok (s', memBytes s.mem pa n ++ bs)

/-- Bytes of a scratchpad of a block read. -/
def State.jobScratch (s : State) (k : BKey) (core o n : Nat) : List Byte := scratchBytes (s.scratchOf k core) o n

/-- Reads of a region's row on a core: virtual, or of a scratchpad. -/
def State.rowRead (s : State) (j : Job) (core : Nat) (r : Region) (i : Nat) : Except JobStop (State × List Byte) :=
  let a := (r.rowAt i).toNat
  if r.scratch then .ok (s, s.jobScratch j.key core a r.rowbytes) else s.jobRead j.core (lineParts a r.rowbytes)

/-- A source row converted (R331). -/
def convRow (conv pattern n : Nat) (bs : List Byte) : List Byte :=
  let val (w k : Nat) : Nat := leValue ((bs.drop (w * k)).take w)
  match conv with
  | 1 => (List.range (n / 4)).flatMap (fun _ => leBytes pattern 4)
  | 2 => (List.range (n / 2)).flatMap (fun k =>
      let x := val 4 k
      leBytes (if isNaNBits .f32 x then convNaN .f32 .bf16 x else roundTo .bf16 .rne false 0 (valueOfBits .f32 x)) 2)
  | 3 => (List.range (n / 4)).flatMap (fun k =>
      let x := val 2 k
      leBytes (if isNaNBits .bf16 x then convNaN .bf16 .f32 x else roundTo .f32 .rne false 0 (valueOfBits .bf16 x)) 4)
  | _ => bs

/-- The combine step of `.reduce` (R333). -/
def elemCombine (elem x y : Nat) : Nat :=
  match elem with
  | 0 => fAdd .f32 .rne false 0 nanOutside x y
  | 1 => (x + y) % 2 ^ 32
  | 2 => fMinMax .f32 true x y
  | _ => if sextN x 32 ≥ sextN y 32 then x else y

/-- Two rows combined word by word. -/
def combineRows (elem : Nat) (xs ys : List Byte) : List Byte :=
  (List.range (xs.length / 4)).flatMap (fun k =>
    leBytes (elemCombine elem (leValue ((xs.drop (4 * k)).take 4)) (leValue ((ys.drop (4 * k)).take 4))) 4)

/-- A row of a card's source on one core, converted. -/
def State.cardRow (s : State) (j : Job) (c : Card) (core i : Nat) : Except JobStop (State × List Byte) :=
  match j.regions with
  | r :: _ :: _ => (match s.rowRead j core r i with
    | .error x => .error x
    | .ok (s', bs) => .ok (s', convRow c.conv 0 c.rowbytes bs))
  | _ => .ok (s, convRow 1 (c.src % 2 ^ 32) c.rowbytes [])

/-- The reduction of one row over the span, in ascending j (R333). -/
def State.reduceRow (s : State) (j : Job) (c : Card) (i : Nat) (acc : List Byte) (cores : List Nat) : List Byte :=
  match cores with
  | [] => acc
  | core :: rest =>
    match s.cardRow j c core i with
    | .ok (_, bs) => s.reduceRow j c i (combineRows c.elem acc bs) rest
    | .error _ => s.reduceRow j c i acc rest

/-! ## Matrix-node jobs (13 R312) -/

/-- A field of a record of 64 bytes. -/
def recBits (bs : List Byte) (lo n : Nat) : Nat := bits (leValue bs) lo n

/-- A matrix job record. -/
structure MatJob where
  a : Nat
  b : Nat
  c : Nat
  m : Nat
  n : Nat
  k : Nat
  ty : Nat
  int : Bool
  rnd : Nat
  sat : Bool
  lda : Nat
  ldb : Nat
  ldc : Nat
  sca : Nat
  scb : Nat
  jobid : Nat
deriving DecidableEq, Repr

/-- The record's fields (R312). -/
def matJobOf (bs : List Byte) : MatJob :=
  { a := recBits bs 0 64, b := recBits bs 64 64, c := recBits bs 128 64, m := recBits bs 192 16, n := recBits bs 208 16,
    k := recBits bs 224 16, ty := recBits bs 240 3, int := recBits bs 243 1 == 1, rnd := recBits bs 244 3, sat := recBits bs 247 1 == 1,
    lda := recBits bs 256 32, ldb := recBits bs 288 32, ldc := recBits bs 320 32, sca := recBits bs 352 64, scb := recBits bs 416 64,
    jobid := recBits bs 480 32 }

/-- Bytes of an element. -/
def MatJob.eb (x : MatJob) : Nat := if x.ty ≤ 2 then 2 else 1
/-- Elements of a K-step. -/
def MatJob.step (x : MatJob) : Nat := if x.ty ≤ 2 then 32 else 64
/-- A strided field as a signed number of 32 bits. -/
def ldOf (x : Nat) : Int := sextN x 32

/-- A record that names no legal job: type, variant, mode or dimensions (R312). -/
def MatJob.bad (x : MatJob) : Bool :=
  !([1, 2, 3, 4].contains x.ty) || (x.int && x.ty != 4) || (x.int && x.rnd != 0) || [5, 7].contains x.rnd
  || x.m % 8 != 0 || x.n % 16 != 0 || x.k % x.step != 0

/-- Its regions (R355). -/
def MatJob.regions (x : MatJob) : List Region :=
  [regionOf x.a (x.k * x.eb) x.m (ldOf x.lda) 1 false 0 0, regionOf x.b (x.k * x.eb) x.n (ldOf x.ldb) 1 false 0 0,
   regionOf x.c (4 * x.n) x.m (ldOf x.ldc) 3 false 0 0]

/-- Elements of some bytes by type. -/
def MatJob.elems (x : MatJob) (bs : List Byte) : List Nat :=
  (List.range (bs.length / x.eb)).map (fun k => leValue ((bs.drop (x.eb * k)).take x.eb))

/-- One element of C over its K-steps in ascending order (R312): value, NaN events, overflow events. -/
def MatJob.elem (x : MatJob) (a b sa sb : List Nat) (fuel st : Nat) (acc : Nat × Nat × Nat) : Nat × Nat × Nat :=
  match fuel with
  | 0 => acc
  | fuel + 1 =>
    let as_ := (a.drop (x.step * st)).take x.step
    let bs := (b.drop (x.step * st)).take x.step
    if x.int then x.elem a b sa sb fuel (st + 1) (elemI x.sat acc.1 as_ bs, acc.2)
    else
      let g1 (h : Nat) : Option Int :=
        let ea := sa.getD (2 * st + h) 0
        let eb := sb.getD (2 * st + h) 0
        if ea = 255 ∨ eb = 255 then none else some ((ea : Int) + eb - 254)
      let g : Option (Int × Int) :=
        if x.ty ≤ 2 then some (0, 0) else match g1 0, g1 1 with | some p, some q => some (p, q) | _, _ => none
      let p := elemF x.ty x.rnd x.sat nanOutside 0 acc.1 as_ bs g
      x.elem a b sa sb fuel (st + 1)
        (p.1, acc.2.1 + b2n (isNaNBits .f32 p.1 && !isNaNBits .f32 acc.1), acc.2.2 + b2n p.2)

/-- A job whose operands have SC8 scales: types d8 and i8 but for the I32 accumulator (R312). -/
def MatJob.scaled (x : MatJob) : Bool := decide (x.ty > 2) && !x.int

/-- The SC8 bytes of row or column i, one for each block of 32 along K. -/
def MatJob.scaleRow (x : MatJob) (arr : List Byte) (i : Nat) : List Nat :=
  ((arr.drop (x.k / 32 * i)).take (x.k / 32)).map (fun b => b.toNat)

/-- The SC8 arrays of a job read whole (15 R355). -/
def State.readScales (s : State) (core : Nat) (x : MatJob) : Except JobStop (State × List Byte × List Byte) :=
  match s.jobRead core (lineParts x.sca (x.k / 32 * x.m)) with
  | .error e => .error e
  | .ok (s1, a) =>
    match s1.jobRead core (lineParts x.scb (x.k / 32 * x.n)) with
    | .error e => .error e
    | .ok (s2, b) => .ok (s2, a, b)

/-- A matrix job that has yet to read its SC8 arrays. -/
def Job.needsScales (j : Job) : Option MatJob :=
  match j.kind with
  | .matrix bs => if (matJobOf bs).scaled && j.scales.isNone then some (matJobOf bs) else none
  | _ => none

/-- The columns of a row of C from a column on. -/
def State.matCols (s : State) (j : Job) (x : MatJob) (a sa old : List Nat) (cs : List Nat) :
    Except JobStop (State × List Byte × Nat × Nat) :=
  match cs with
  | [] => .ok (s, [], 0, 0)
  | col :: rest =>
    match s.jobRead j.core (lineParts ((x.b : Int) + ldOf x.ldb * (col : Int)).toNat (x.k * x.eb)) with
    | .error e => .error e
    | .ok (s1, bb) =>
      let sb := match j.scales with | some p => x.scaleRow p.2 col | none => []
      let r := x.elem a (x.elems bb) sa sb (x.k / x.step) 0 (old.getD col 0, 0, 0)
      match s1.matCols j x a sa old rest with
      | .error e => .error e
      | .ok (s2, bs, nan, ovf) => .ok (s2, leBytes r.1 4 ++ bs, r.2.1 + nan, r.2.2 + ovf)

/-- Row i of C := A × B + C (R312). -/
def State.matRow (s : State) (j : Job) (x : MatJob) (i : Nat) : Except JobStop (State × List Byte × Nat × Nat) :=
  match s.jobRead j.core (lineParts ((x.a : Int) + ldOf x.lda * (i : Int)).toNat (x.k * x.eb)) with
  | .error e => .error e
  | .ok (s1, ab) =>
    match s1.jobRead j.core (lineParts ((x.c : Int) + ldOf x.ldc * (i : Int)).toNat (4 * x.n)) with
    | .error e => .error e
    | .ok (s2, cb) =>
      let sa := match j.scales with | some p => x.scaleRow p.1 i | none => []
      let old := (List.range x.n).map (fun k => leValue ((cb.drop (4 * k)).take 4))
      s2.matCols j x (x.elems ab) sa old (List.range x.n)

/-! ## Running a job -/

/-- The span of `.gather` and `.reduce`: the cores of the source region. -/
def Job.sources (j : Job) : List Nat :=
  match j.regions with
  | r :: _ :: _ => if r.scratch then (List.range r.scnt).map (fun k => r.score + k) else [j.core]
  | _ => [j.core]

/-- The write region of a job. -/
def Job.dest (j : Job) : Region := (j.regions.getLast?).getD (regionOf 0 0 0 0 2 false 0 0)

/-- Destination rows of a job. -/
def Job.rowCount (j : Job) : Nat :=
  match j.kind with
  | .copy c => c.rows
  | .coll _ _ => j.dest.rows
  | .matrix bs => (matJobOf bs).m

/-- The bytes of a destination row, with NaN and overflow events. -/
def State.jobRow (s : State) (j : Job) : Except JobStop (State × List Byte × Nat × Nat) :=
  let plain (x : Except JobStop (State × List Byte)) : Except JobStop (State × List Byte × Nat × Nat) :=
    match x with
    | .error e => .error e
    | .ok (s', bs) => .ok (s', bs, 0, 0)
  match j.kind with
  | .copy c => plain (s.cardRow j c j.core j.row)
  | .coll 1 c =>
    (match j.sources with
     | [] => plain (.ok (s, []))
     | c0 :: rest =>
       match s.cardRow j c c0 j.row with
       | .error e => .error e
       | .ok (_, bs) => plain (.ok (s, s.reduceRow j c j.row bs rest)))
  | .coll 2 c => plain (s.cardRow j c (j.sources.getD (j.row / c.rows) j.core) (j.row % c.rows))
  | .coll _ c => plain (s.cardRow j c j.core j.row)
  | .matrix bs => s.matRow j (matJobOf bs) j.row

/-- Bytes written to virtual addresses, line by line, each acknowledged to the job; a line in state C stops the writes
(R336, 11 R253). -/
def State.jobWrite (s : State) (die : Nat) (j : Job) (bs : List Byte) (ps : List (Nat × Nat)) : Except JobStop State :=
  match ps with
  | [] => .ok s
  | (va, n) :: rest =>
    match s.jobXl j.core true va with
    | .error x => .error x
    | .ok pa =>
      let line := lineOf pa
      if s.heldBack line then .error .wait
      else if s.lineState line = .c then .error (.fault causeCommut va (1 <<< 12))
      else
        let data := (bs.take n).zipIdx.map (fun p => (pa - line + p.2, p.1))
        let s := s.modDie die (fun d => { d with jobs := d.jobs.map (fun (x : Job) => if x.id = j.id then { x with acks := x.acks + 1 } else x) })
        (s.homeWrite die line data (.job die j.id) none []).jobWrite die j (bs.drop n) rest

/-- Bytes written to the scratchpads of a destination. -/
def State.scratchPut (s : State) (k : BKey) (o : Nat) (bs : List Byte) (cores : List Nat) : State :=
  match cores with
  | [] => s
  | c :: rest => (s.modSeg k c (fun g => g.putScratch [(o, bs)])).scratchPut k o bs rest

/-- A job of a die changed. -/
def State.modJob (s : State) (die id : Nat) (f : Job → Job) : State :=
  s.modDie die (fun d => { d with jobs := d.jobs.map (fun (x : Job) => if x.id = id then f x else x) })

/-- A missing page reported to the host, unless its page has a record outstanding (20 R437). -/
def State.reportMiss (s : State) (va kind node core : Nat) : State :=
  if s.missKnown va then s
  else
    { s with faultsWaiting := s.faultsWaiting ++ [
        { va := va, kind := kind, node := node, core := core, fseq := 0, cause := none, graph := s.graphId }] }

/-- The node whose work a job is. -/
def Job.owner (j : Job) : Nat := if j.node = 65536 then j.key.node else j.node

/-- A job stops at an access: it waits for its page, or makes no more writes (R336; 13 R313). -/
def State.jobStopped (s : State) (die : Nat) (j : Job) (x : JobStop) : State :=
  match x with
  | .wait => s
  | .miss va =>
    let now := s.timen
    (s.modJob die j.id (fun j => { j with page := some va, pageSince := now })).reportMiss va 4 j.owner j.core
  | .fault cause va detail =>
    s.modJob die j.id (fun j =>
      { j with fault := some (cause, va, detail), status := if cause = causePoison then 2 else 3, buf := [] })

/-- Copies of each byte that the engine writes. -/
def Job.copies (j : Job) : Nat := match j.kind with | .coll 0 _ => j.dest.scnt | _ => 1

/-- The charges that the next n bytes of a row still need: one for each 256 bytes written that no charge covers yet (18
R410). -/
def Job.due (j : Job) (n : Nat) : Nat :=
  match j.kind with
  | .matrix _ => 0
  | _ => ceilDiv (n * j.copies - j.paid) 256

/-- The charge for the next bytes of a copy or collective engine, at most 256 of each copy (18 R410, R411). -/
def Job.weight (j : Job) (n : Nat) : Nat := 32 * j.due n

/-- The next bytes of the row begun are written: at most 256 (18 R410). -/
def State.jobChunk (s : State) (die : Nat) (j : Job) : State :=
  let bs := j.buf.take 256
  let a := (j.dest.rowAt j.row).toNat + j.col
  let next (s : State) : State :=
    let w := j.weight bs.length
    (if w = 0 then s else s.charge j.core w).modJob die j.id (fun x =>
      let rest := x.buf.drop 256
      let x := { x with paid := x.paid + 256 * j.due bs.length - bs.length * j.copies }
      if rest = [] then { x with buf := [], col := 0, row := x.row + 1 } else { x with buf := rest, col := x.col + 256 })
  if j.dest.scratch then
    next (s.scratchPut j.key a bs ((List.range j.dest.scnt).map (fun k => j.dest.score + k)))
  else
    match s.jobWrite die j bs (lineParts a bs.length) with
    | .ok s' => next s'
    | .error x => s.jobStopped die j x

/-- The next bytes are written once their charge is covered (18 R411). -/
def State.jobPay (s : State) (die : Nat) (j : Job) : State :=
  let w := j.weight (j.buf.take 256).length
  if w > 0 ∧ (w : Int) > (s.cluster (clusterOf j.core)).bucket then s else s.jobChunk die j

/-- The next row of a running job read, and the first bytes of it written. -/
def State.jobNext (s : State) (die : Nat) (j : Job) : State :=
  match s.jobRow j with
  | .error x => s.jobStopped die j x
  | .ok (s1, bs, nan, ovf) =>
    let put (x : Job) : Job :=
      { x with buf := bs, nnan := min (x.nnan + nan) (2 ^ 32 - 1), novf := min (x.novf + ovf) (2 ^ 32 - 1) }
    if bs = [] then s1.modJob die j.id (fun x => { put x with row := x.row + 1 })
    else (s1.modJob die j.id put).jobPay die (put j)

/-- A running job goes on: its SC8 arrays first; then the next row is read whole, and the next bytes of the row begun are
written. -/
def State.jobGo (s : State) (die : Nat) (j : Job) : State :=
  if j.page.isSome || j.fault.isSome || decide (j.row ≥ j.rowCount) then s
  else
    match j.needsScales with
    | some x =>
      (match s.readScales j.core x with
       | .error e => s.jobStopped die j e
       | .ok (s', a, b) => s'.modJob die j.id (fun j => { j with scales := some (a, b) }))
    | none => if j.buf ≠ [] then s.jobPay die j else s.jobNext die j

/-- JOB_START of entry i of a die (R356, R210): an entry without predecessors whose issue release has completed starts; a
running job moves its next bytes. -/
def jobStartStep (die i : Nat) (s : State) : State :=
  match (s.die die).jobs[i]? with
  | none => s
  | some j =>
    if j.state = 2 then s.jobGo die j
    else if j.preds = [] && s.releaseDone j.core j.slot j.after j.scope then s.modJob die j.id (fun j => { j with state := 2 })
    else s

/-- JOB_START (R356). -/
def execJobStart (die : Nat) (i : Nat) (s : State) : Out := .next (jobStartStep die i s)

/-! ## Completion (R335, R336, R357; 13 R306, R313) -/

/-- A job has made its last write, and every write of it has performed at its scope. -/
def Job.overB (j : Job) : Bool :=
  decide (j.state = 2) && decide (j.acks = 0) && (j.fault.isSome || decide (j.row ≥ j.rowCount))

/-- Destination bytes of a job. -/
def Job.bytes (j : Job) : Nat :=
  match j.kind with
  | .copy c => c.bytes none 1
  | .coll _ c => c.rowbytes * j.dest.rows * j.copies
  | .matrix _ => 0

/-- The completion of a wave's job (R335). -/
def State.applyComp (s : State) (j : Job) : State :=
  let at_ := match s.block? j.key with | some b => j.core - b.core0 | none => 0
  match j.comp with
  | 1 => s.changeSem j.key at_ j.compNum (Sem.inc 1)
  | 2 => s.modBar j.key (if j.compNum ≥ 32 then 0 else at_) j.compNum (Bar.paid j.bytes)
  | _ => s

/-- The completion record of a node job (R313). -/
def Job.record (j : Job) : List Byte := leBytes j.jobid 4 ++ leBytes j.status 1 ++ leBytes 0 3 ++ leBytes j.nnan 4 ++ leBytes j.novf 4

/-- The slot of core 192 that the output records of a kind of fixed node are sent as, in the port order of R289: sensors first,
then raster, ray traversal, matrix and copy. -/
def fixedSlot (kind : Nat) : Nat := if kind = kindSensor then 3 else 4 + kind

/-- An output record of a fixed node on an edge, with the credits it did not use given back (R306). -/
def State.nodeOutput (s : State) (die node edge : Nat) (recs : List (List Byte)) : State :=
  match s.node? node with
  | none => s
  | some n =>
    let t := match n.edges[edge]? with | some e => e.target | none => 65536
    let msg (bs : List Byte) : RecMsg :=
      { die := die, node := t, join := none, bytes := bs, depth := 0, family := 0, cluster := 0, cmark := false,
        sideb := [], tell := .none, credit := true, launch := false, edge := edge }
    let sent := if t = 65536 ∨ recs = [] then s else s.sendAfter 192 (fixedSlot n.kind) [] 0 (.record (recs.map msg))
    sent.freeCredits die n.deadline 0 (n.edges.zipIdx.map (fun p => (p.1, if p.2 = edge then recs.length else 0, p.1.fanout)))

/-- JOB_COMPLETE of entry i of a die (R335, R336, R357). -/
def jobCompleteStep (die i : Nat) (s : State) : State :=
  match (s.die die).jobs[i]? with
  | none => s
  | some j =>
    if !j.overB then s
    else
      let s := s.modDie die (fun d =>
        { d with jobs := (d.jobs.filter (fun x => x.id != j.id)).map (fun (x : Job) => { x with preds := x.preds.filter (fun p => p != j.id) }) })
      if j.node = 65536 then
        let tell : AckTo := .wave j.core j.slot j.op
        let s := match j.fault with | some (c, va, d) => s.postTo tell c va d | none => s
        (s.applyComp j).finishOp tell
      else (s.nodeOutput die j.node 0 [j.record]).drainCheck

/-- JOB_COMPLETE (R335). -/
def execJobComplete (die : Nat) (i : Nat) (s : State) : Out := .next (jobCompleteStep die i s)

/-- The jobs of both dies, with their die. -/
def State.allJobs (s : State) : List (Nat × Job) := [0, 1].flatMap (fun d => (s.die d).jobs.map (fun j => (d, j)))

/-- JOB_PAGE_TIMEOUT (R313): a node job whose page was not served within 1 ms ends with STATUS 1. -/
def execJobPageTimeout (i : Nat) (s : State) : Out :=
  .next (match s.allJobs[i]? with
    | some (die, j) =>
      if j.page.isSome && decide (j.node ≠ 65536) && decide (s.timen ≥ j.pageSince + 1000000) then
        s.modJob die j.id (fun j => { j with page := none, fault := some (causeProt, 0, 0), status := 1, buf := [] })
      else s
    | none => s)

/-! ## The matrix and copy nodes (13 R306, R312, R313) -/

/-- The oldest record that a fixed node of a die may take. -/
def State.oldest (s : State) (die node : Nat) : Option QEntry := (s.entries die node).find? QEntry.open?

/-- A FIXED NODE TAKES ITS OLDEST RECORD, with credit for what it may produce (R292, R306). -/
def State.takeRecord (s : State) (die node : Nat) : Option (State × QEntry) :=
  let on := match s.graph with | some g => g.running | none => false
  match s.node? node, (if on then s.oldest die node else none) with
  | some n, some e =>
    match (if n.deadline then some s else s.takeCredits die 1 n.edges) with
    | some s' =>
      let s' := if e.sideb = [] then s' else s'.modDie die (fun d => { d with sidebands := d.sidebands - 1 })
      some (s'.dequeue die node 1, e)
    | none => none
  | _, _ => none

/-- A node job entered in a footprint table; one that names no legal job is over at once with STATUS 3. -/
def State.enterNodeJob (s : State) (die node jobid srck : Nat) (kind : JobKind) (regions : List Region) (bad : Bool) : State :=
  let j := Job.blank s.nextId (96 * die) kind (if bad then [] else regions)
  ({ s with nextId := s.nextId + 1 } : State).enterJob die
    { j with
      jobid := jobid, srck := srck, node := node, state := if bad then 2 else 1,
      fault := if bad then some (causeOperand, 0, 0) else none, status := if bad then 3 else 0 }

/-- Virtual regions reach outside the address space or a record window. -/
def farRegions (rs : List Region) : Bool := (regionsFault 0 none rs).isSome

/-- MATRIX_JOB_RUN (R312): the node takes a job record and enters its job; JOB_START computes it row by row. -/
def execMatrixJobRun (die : Nat) (node : Nat) (s : State) : Out :=
  .next (match s.node? node with
    | some n =>
      if n.kind ≠ kindMatrix ∨ s.tableFull die then s
      else
        match s.takeRecord die node with
        | some (s', e) =>
          let x := matJobOf e.bytes
          s'.enterNodeJob die node x.jobid 2 (.matrix e.bytes) x.regions (x.bad || farRegions x.regions)
        | none => s
    | none => s)

/-- COPY_JOB_RUN (R313): the node takes a copy job record and enters its job. A nonzero `rsvd` bit makes it an invalid job, as
it does a card (14 R331), though R306 has a fixed node ignore such bits: DESIGN CHOICE (entry 44). -/
def execCopyJobRun (die : Nat) (node : Nat) (s : State) : Out :=
  .next (match s.node? node with
    | some n =>
      if n.kind ≠ kindCopy ∨ s.tableFull die then s
      else
        match s.takeRecord die node with
        | some (s', e) =>
          let x := leValue e.bytes
          let c := cardOf x
          let rs := c.regions none (96 * die) (96 * die) 1
          let bad := cardBad x c || decide (c.skind ≠ 0 ∨ c.dkind ≠ 0) || (cardOdd c false).isSome || farRegions rs
          s'.enterNodeJob die node c.jobid 3 (.copy c) rs bad
        | none => s
    | none => s)

end Sys2Proof.Machine
end

