-- ==== Sys2Proof/Machine/Place.lean ====
section
/-! DEFINITION. The distributor's resources: spans, free slots and granules, and what a placed block is given (02 R15 to
R18, R37, R52; 04 R95, R99; 08 R188, R189; 16 R369; 17 R396). -/
namespace Sys2Proof.Machine

/-! ## What a block needs (02 R15 to R17; 08 R188) -/

/-- Hardware slots of a wave (02 R32). -/
def Node.slotsPer (n : Node) : Nat := if n.width = 64 then 2 else 1
/-- Waves on span core j of k (02 R17). -/
def Node.wavesOn (n : Node) (k j : Nat) : Nat :=
  let q := ceilDiv n.waves k
  min q (n.waves - j * q)
/-- Pool granules of each partition for a number of waves on a core (08 R188). -/
def Node.parts (n : Node) (cnt : Nat) : Nat × Nat × Nat :=
  (ceilDiv (cnt * n.slotsPer * n.hdr.regs) 16, ceilDiv n.hdr.scratch 16384, ceilDiv (n.hdr.tiles * 512) 16384)
/-- Their total. -/
def Node.granulesOn (n : Node) (cnt : Nat) : Nat := (n.parts cnt).1 + (n.parts cnt).2.1 + (n.parts cnt).2.2
/-- POOLPART (04 R99). -/
def Node.poolpart (n : Node) (cnt : Nat) : Nat :=
  let p := n.parts cnt
  p.1 + p.2.1 * 128 + p.2.2 * 16384
/-- An empty core takes a share of k (02 R16). -/
def Node.fitsEmpty (n : Node) (k : Nat) : Bool :=
  let c := n.wavesOn k 0
  decide (c * n.slotsPer ≤ 64 ∧ n.granulesOn c ≤ 96 ∧ n.hdr.sems ≤ 64 ∧ n.hdr.barriers ≤ 32)
/-- Cores of the span of a block, 33 where it needs more than 32 (02 R16). -/
def Node.spanK (n : Node) : Nat := (((List.range 32).map (fun k => k + 1)).find? n.fitsEmpty).getD 33

/-- The spans of k cores on a die, by their lowest core (02 R16); of a range block, within one cluster (02 R41). -/
def spansOf (die k : Nat) (cluster : Option Nat) : List (List Nat) :=
  let run (c : Nat) : List Nat := (List.range k).map (fun i => c + i)
  let cls := match cluster with | some g => [g] | none => (List.range 12).map (fun g => 12 * die + g)
  if k ≤ 8 then cls.flatMap (fun g => (List.range (9 - k)).map (fun o => run (8 * g + o)))
  else (cls.filter (fun g => decide (g + ceilDiv k 8 ≤ 12 * die + 12))).map (fun g => run (8 * g))

/-! ## What a core has left (02 R16, R52; 08 R189; 16 R369) -/

/-- The loaded graphs, in the order of their numbers. -/
def State.loadedGraphs (s : State) : List Graph :=
  sortBy (fun (g : Graph) => g.id) ((match s.graph with | some g => [g] | none => []) ++ s.contexts.map (fun c => c.graph))

/-- The deadline reservations on a core: graph, reservation and node. -/
def State.resvOn (s : State) (c : Nat) : List (Nat × Resv × Node) :=
  s.loadedGraphs.flatMap (fun g => g.resv.filterMap (fun r =>
    if r.core = c then (g.nodes[r.node]?).map (fun n => (g.id, r, n)) else none))

/-- Slots taken on a core. -/
def State.slotsTaken (s : State) (c : Nat) : List Nat :=
  s.allWaves.flatMap (fun w => if w.core = c ∧ !w.mgmt then (if w.width = 64 then [w.slot, w.slot + 1] else [w.slot]) else [])

/-- The first slots on which a wave of a node can be placed on a core: outside every reservation, or, of a deadline node, on
its own. -/
def State.freeSlots (s : State) (c node : Nat) (n : Node) : List Nat :=
  let rs := s.resvOn c
  let gid := match s.graph with | some g => g.id | none => 0
  let mine (r : Nat × Resv × Node) : Bool := r.1 == gid && r.2.1.node == node
  let reserved (x : Nat) (l : List (Nat × Resv × Node)) : Bool := l.any (fun r => r.2.1.slots.contains x)
  let taken := s.slotsTaken c
  let free (x : Nat) : Bool :=
    decide (x < 64) && !taken.contains x && (if n.deadline then reserved x (rs.filter mine) else !reserved x rs)
  if n.width = 64 then (List.range 64).filter (fun x => x % 2 == 0 && free x && free (x + 1)) else (List.range 64).filter free

/-- A block stands on its cores. -/
def Block.onCores (b : Block) : Bool := match b.status with | .saved _ _ => false | _ => true

/-- Pool granules, semaphores and core barriers held on a core. -/
def State.held (s : State) (c : Nat) : Nat × Nat × Nat :=
  let ofBlock (b : Block) : Nat × Nat × Nat :=
    match s.node? b.key.node with
    | some n =>
      if b.onCores && !n.deadline && decide (b.core0 ≤ c ∧ c < b.core0 + b.k) then
        (n.granulesOn (n.wavesOn b.k (c - b.core0)), n.hdr.sems, n.hdr.barriers)
      else (0, 0, 0)
    | none => (0, 0, 0)
  let ofResv (r : Nat × Resv × Node) : Nat × Nat × Nat :=
    let n := r.2.2
    (n.dslots * n.dgran, n.dslots * n.hdr.sems, n.dslots * n.hdr.barriers)
  (s.blocks.map ofBlock ++ (s.resvOn c).map ofResv).foldl (fun a x => (a.1 + x.1, a.2.1 + x.2.1, a.2.2 + x.2.2)) (0, 0, 0)

/-- Granules that the blocks of a deadline node hold on a core, out of its reservation there (08 R188, R189). -/
def State.reservedUse (s : State) (c node : Nat) (n : Node) : Nat :=
  ((s.blocks.filter (fun b => b.onCores && b.key.node == node && decide (b.core0 ≤ c ∧ c < b.core0 + b.k))).map
    (fun b => n.granulesOn (n.wavesOn b.k (c - b.core0)))).sum

/-- A core takes a number of waves of a node's block: a deadline node's within its reservation (R189). -/
def State.coreTakes (s : State) (c node : Nat) (n : Node) (cnt : Nat) : Bool :=
  let h := s.held c
  !(s.core c).dead && !(s.die (dieOf c)).excluded.contains (node, c) && decide (cnt ≤ (s.freeSlots c node n).length)
  && (if n.deadline then decide (s.reservedUse c node n + n.granulesOn cnt ≤ n.dslots * n.dgran)
      else decide (h.1 + n.granulesOn cnt ≤ 96 ∧ h.2.1 + n.hdr.sems ≤ 64 ∧ h.2.2 + n.hdr.barriers ≤ 32))

/-- A context switch is under way: no block is placed or restored (17 R397). -/
def State.switching (s : State) : Bool := match s.busy with | some (.switch _ _) => true | _ => false

/-- A span takes a block. -/
def State.spanTakes (s : State) (node : Nat) (n : Node) (span : List Nat) : Bool :=
  !s.switching && span.zipIdx.all (fun p => s.coreTakes p.1 node n (n.wavesOn span.length p.2))

/-- The spans that a block may be placed on, on a die (02 R16, R41, R52). -/
def State.spans? (s : State) (die node : Nat) (n : Node) (cluster : Option Nat) : List (List Nat) :=
  if n.deadline then
    let cores := match s.graph with
      | some g => (g.resv.filter (fun r => r.node == node && dieOf r.core == die)).map (fun r => r.core)
      | none => []
    (sortBy id cores).map (fun c => [c])
  else spansOf die n.spanK cluster

/-- The span chosen for a block, if one can take it. -/
def State.chooseSpan (s : State) (die node : Nat) (n : Node) (cluster : Option Nat) : Option (List Nat) :=
  (s.spans? die node n cluster).find? (s.spanTakes node n)

/-! ## Saved blocks (17 R396) -/

/-- A saved block that waits to be restored on a die. -/
def Block.waits (b : Block) : Bool := match b.status with | .saved f _ => !f | _ => false

/-- The span that a saved block can be restored on. -/
def State.restoreSpan (s : State) (b : Block) : Option (List Nat) :=
  match s.node? b.key.node with
  | some n => s.chooseSpan b.die b.key.node n (b.desc.map (fun d => d.1))
  | none => none

/-! ## Placing a block (02 R18, R19, R48; 04 R95, R99; 13 R290) -/

/-- The role of a wave index (02 R34). -/
def roleOf (roles : List Nat) (w r : Nat) : Nat :=
  match roles with
  | [] => 0
  | c :: rest => if w < c then r else roleOf rest (w - c) (r + 1)

/-- PCLS (04 R99). -/
def Node.pcls (n : Node) : Nat := n.cls + 4 * b2n n.deadline

/-- The `exec` of a wave at placement (04 R95). -/
def Node.exec0 (n : Node) (recs : Nat) : Nat := if n.kind = kindShader ∧ n.recsz ≠ 0 then 2 ^ recs - 1 else 2 ^ n.lanes - 1

/-- HELPER of a wave: HLP of its pixel records. -/
def helperOf (recs : List QEntry) : Nat :=
  maskOf ((recs.zipIdx.filter (fun p => bit (leValue ((p.1.bytes.drop 8).take 1)) 0)).map (fun p => p.2))

/-- The working areas of a die for the current graph. -/
def State.layout (s : State) (die : Nat) : Layout :=
  match s.graph with
  | some g => g.layouts.getD die { base := 0, size := 0, win := 0, spill := 0, spillStep := 0, pool := 0, poolSize := 0, status := 0, tables := 0, need := 0 }
  | none => { base := 0, size := 0, win := 0, spill := 0, spillStep := 0, pool := 0, poolSize := 0, status := 0, tables := 0, need := 0 }

/-- The number of a hardware slot within its die. -/
def slotIndex (core slot : Nat) : Nat := core % 96 * 64 + slot

/-- The record windows of a slot (14 R323). -/
def State.winBaseOf (s : State) (core slot : Nat) : Nat := (s.layout (dieOf core)).win + 2 * windowPage * slotIndex core slot
/-- The divergence spill area of a slot (07 R183). -/
def State.spillBaseOf (s : State) (core slot : Nat) : Nat :=
  let l := s.layout (dieOf core)
  l.spill + l.spillStep * slotIndex core slot

/-- A wave of a block in the state Reserved. -/
def State.newWave (s : State) (key : BKey) (n : Node) (core slot j idx cnt : Nat) (recs : List QEntry) : Wave :=
  { Wave.blank core slot with
    key := key, waveid := idx, role := roleOf n.roles idx 0, pcls := n.pcls, width := if n.width = 0 then 32 else n.width,
    poolpart := n.poolpart cnt, j := j, k := n.hdr, prio := n.prio, leadPc := n.hdr.leadBase, lanePc := n.hdr.laneBase,
    exec := n.exec0 recs.length, helper := if s.rasterFed key.node then helperOf recs else 0, g := n.hdr.regs,
    spillBase := s.spillBaseOf core slot, winBase := s.winBaseOf core slot, nrec := recs.length }

/-- The waves of a block placed one by one, each on the lowest free slot of its core, its records in its first window. -/
def State.placeWaves (s : State) (key : BKey) (n : Node) (span : List Nat) (recs : List QEntry) (idxs : List Nat) : State :=
  match idxs with
  | [] => s
  | i :: rest =>
    let q := max 1 (ceilDiv n.waves span.length)
    let j := i / q
    let core := span.getD j 0
    let slot := ((s.freeSlots core key.node n).head?).getD 0
    let mine := (recs.drop (n.lanes * i)).take n.lanes
    let w := s.newWave key n core slot j i (n.wavesOn span.length j) mine
    let s : State := { s with waves := insertWave w s.waves }
    let s := if n.recsz ≠ 0 ∧ n.kind = kindShader then s.writeWindow core w.winBase (mine.flatMap (fun e => e.bytes)) else s
    (s.freeSidebands (dieOf core) mine).placeWaves key n span recs rest

/-- The handoffs of a placed block: each core of its span gets the lines of its own waves' records (10 R223). -/
def State.handOffs (s : State) (n : Node) (recs : List QEntry) (q : Nat) (cores : List (Nat × Nat)) : State :=
  match cores with
  | [] => s
  | (c, j) :: rest => (s.handOff c ((recs.drop (n.lanes * q * j)).take (n.lanes * q))).handOffs n recs q rest

/-- What a block holds on a core of its span, at its reset values (16 R369). -/
def Node.seg (n : Node) (core cnt : Nat) : CoreSeg :=
  { core := core, reserve := 0, sems := List.replicate n.hdr.sems { count := 0, tag := tagOf n.cls true, takes := [] },
    bars := List.replicate n.hdr.barriers { arr := 0, exp := cnt, phase := 0, pend := 0, tag := tagOf n.cls true, waiters := [], next := 0 },
    scratch := [], tiles := [], ssect := [], tsect := [] }

/-- A BLOCK RESERVED on a span with its records (02 R18, R19, R48; 13 R293). `r` is what its admission counted. -/
def State.placeBlock (s : State) (key : BKey) (n : Node) (span : List Nat) (recs : List QEntry) (r : Nat)
    (grid : Option (Nat × Nat)) (desc : Option (Nat × Nat)) : State :=
  let die := dieOf (span.headD 0)
  let k := span.length
  let b : Block :=
    { key := key, die := die, core0 := span.headD 0, k := k, n := n.waves, width := n.width, status := .reserved, pcls := n.pcls,
      prio := n.prio, r := r, depth := maxDepth recs, segs := span.zipIdx.map (fun p => n.seg p.1 (n.wavesOn k p.2)),
      spanBars := List.replicate n.hdr.spanb { arr := 0, exp := n.waves, phase := 0, pend := 0, tag := tagOf n.cls true, waiters := [], next := 0 },
      edges := n.edges.map (fun e => (0, r * e.fanout)), later := 0, desc := desc, live := n.waves, cause := 0, grid := grid,
      tileKeys := if s.tileOrdered n key.node then recs.map (fun e => tileKey e.bytes) else [], saved := [], abandoned := [], vacate := false }
  (({ s with blocks := s.blocks ++ [b] } : State).placeWaves key n span recs (List.range n.waves)).handOffs n recs
    (max 1 (ceilDiv n.waves k)) span.zipIdx

/-! ## Starting a block (02 R19; 04 R95; 15 R352) -/

/-- The constant bank of a node as the die reads it (15 R352). -/
def State.constants (s : State) (core : Nat) (n : Node) : Except JobStop (State × List (Nat × Word)) :=
  if n.hdr.consts = 0 then .ok (s, [])
  else
    match s.jobRead core (lineParts n.constptr 128) with
    | .ok (s', bs) =>
      .ok (s', ((List.range 32).map (fun k => (k, BitVec.ofNat 32 (leValue ((bs.drop (4 * k)).take 4))))).filter (fun p => p.2 != 0#32))
    | .error x => .error x

/-- The waves of a block start in one cycle: constants loaded, both streams at their sections' entries. -/
def Wave.start (c : List (Nat × Word)) (now : Nat) (w : Wave) : Wave :=
  { w with status := .running, c := c, ageLead := now, ageLane := now }

/-- BLOCK_START of block i (02 R19): it waits while its constant bank cannot be read, and a missing page of the bank is
reported (entry 20). The start of a launched block, and of one that START_GRAPH gives a node without records, is an acquire
on its cores (09 R203, R212). -/
def blockStartStep (i : Nat) (s : State) : State :=
  match s.blocks[i]? with
  | none => s
  | some b =>
    match b.status, s.node? b.key.node with
    | .reserved, some n =>
      (match s.constants b.core0 n with
       | .error (.miss va) => s.reportMiss va 0 b.key.node b.core0
       | .error _ => s
       | .ok (s', c) =>
         let s' := if b.grid.isSome || n.recsz = 0 then s'.acquireSpan (b.segs.map (fun g => g.core)) else s'
         let go (w : Wave) : Wave := if w.key = b.key ∧ w.status = .reserved then w.start c (s'.cycleOf w.core) else w
         ({ s' with waves := s'.waves.map go, w := if s'.w.mgmt then s'.w else go s'.w } : State).modBlock b.key
           (fun b => { b with status := .running }))
    | _, _ => s

/-- BLOCK_START (02 R19). -/
def execBlockStart (i : Nat) (s : State) : Out := .next (blockStartStep i s)

end Sys2Proof.Machine
end

