-- ==== Sys2Proof/Machine/Batches.lean ====
section
/-! DEFINITION. The graph scheduler: batches, admission, ready order, reservation, range binding and splitting, grids and
stealing (02 R37 to R41, R48; 13 R290 to R302, R304). -/
namespace Sys2Proof.Machine

/-! ## Closing (R290, R291, R301) -/

/-- The launch entries of a node in the pending-launch store of a die. -/
def State.storeOf (s : State) (die node : Nat) : List Launch := (s.die die).launches.filter (fun l => l.node == node)

/-- Records of a node on a die that a batch may take. -/
def State.available (s : State) (die node : Nat) : Nat :=
  (match s.queue? die node with | some q => q.avail.length | none => 0) + (s.storeOf die node).length

/-- Blocks that close together (02 R45). -/
def Node.group (n : Node) : Nat := if n.cls = 0 then max 1 n.coop else 1

/-- The next BLOCKIDs of a node. -/
def State.newKeys (s : State) (node cnt : Nat) : State × List BKey :=
  match s.graph with
  | none => (s, [])
  | some g =>
    let first := g.nextBlk.getD node 0
    ({ s with graph := some { g with nextBlk := setAt g.nextBlk node ((first + cnt) % 2 ^ 32) } },
      (List.range cnt).map (fun i => { node := node, blk := (first + i) % 2 ^ 32, grid := 0 }))

/-- Records dealt evenly to the blocks of a group in SEQ order, in units of a quad where pixels are dealt (entry 21). -/
def deal (k groups unit : Nat) (keys : List BKey) : List (BKey × Nat) :=
  let u := k / unit
  keys.zipIdx.map (fun p => (p.1, unit * (u * (p.2 + 1) / groups - u * p.2 / groups)))

/-- The blocks of a grid from a number on, one group of them (R301, 02 R45). -/
def gridParts (node id first count groups : Nat) : List (BKey × Nat) :=
  (List.range (min groups (count - first))).map (fun i => ({ node := node, blk := first + i, grid := id }, 1))

/-- Launch entries taken into a grid: first BLOCKID and parameter address of each, at most 2^24 blocks in all (R301). -/
def gridEntries (l : List (Nat × Nat)) (first : Nat) : List (Nat × Nat) × Nat :=
  match l with
  | [] => ([], first)
  | (param, g) :: rest =>
    if first + g > 2 ^ 24 then ([], first)
    else
      let r := gridEntries rest (first + g)
      ((first, param) :: r.1, r.2)

/-- A GRID FORMED of at most 1,024 launch entries: those of the queue, then those of the pending-launch store (R301, R302;
entry 22). -/
def State.closeGrid (s : State) (die node : Nat) (n : Node) : State :=
  let qs := match s.queue? die node with | some q => q.avail.take 1024 | none => []
  let ls := (s.storeOf die node).take (1024 - qs.length)
  let all := qs.map (fun e => (leValue (e.bytes.take 8), leValue ((e.bytes.drop 8).take 8))) ++ ls.map (fun l => (l.param, l.count))
  let g := gridEntries all 0
  let used := g.1.length
  let id := s.nextId
  let nq := min used qs.length
  let taken := ls.take (used - nq)
  let b : Batch :=
    { id := id, node := node, parts := gridParts node id 0 g.2 n.group, r := min n.group g.2, depth := 0, admitted := false,
      since := s.cycle, seq := match qs with | e :: _ => e.seq | [] => (s.die die).seq }
  let s : State := { s with nextId := id + 1 }
  let s := s.modQueue die node (Queue.form id nq)
  s.modDie die (fun d =>
    { d with
      launches := taken.foldl (fun l x => l.erase x) d.launches
      grids := d.grids ++ [{ id := id, node := node, entries := g.1, count := g.2, total := g.2 }]
      batches := d.batches ++ [b] })

/-- A BATCH CLOSED with k records, or a group with theirs (R290, R291). -/
def State.closeRecords (s : State) (die node : Nat) (n : Node) (k : Nat) : State :=
  let unit := if s.rasterFed node then 4 else 1
  let k := k / unit * unit
  if k = 0 then s
  else
    let es := (match s.queue? die node with | some q => q.avail | none => []).take k
    let (s, keys) := s.newKeys node n.group
    let id := s.nextId
    let b : Batch :=
      { id := id, node := node, parts := deal k n.group unit keys, r := k, depth := maxDepth es, admitted := false,
        since := s.cycle, seq := match es with | e :: _ => e.seq | [] => 0 }
    let s : State := { s with nextId := id + 1 }
    (s.modQueue die node (Queue.form id k)).modDie die (fun d => { d with batches := d.batches ++ [b] })

/-- RANGE BATCHES closed over the first records of a queue, at most `k`: each record is a block of its own (02 R37), so each
is a batch; of a co-operating node, each group of records (02 R45; entry 36). -/
def State.closeRanges (s : State) (die node : Nat) (n : Node) (k fuel : Nat) : State :=
  match fuel with
  | 0 => s
  | fuel + 1 =>
    if k = 0 then s
    else
      let es := (match s.queue? die node with | some q => q.avail | none => []).take (min k n.group)
      let (s, keys) := s.newKeys node es.length
      let id := s.nextId
      let b : Batch :=
        { id := id, node := node, parts := keys.map (fun x => (x, 1)), r := es.length, depth := maxDepth es, admitted := false,
          since := s.cycle, seq := match es with | e :: _ => e.seq | [] => 0 }
      let s : State := { s with nextId := id + 1 }
      ((s.modQueue die node (Queue.form id es.length)).modDie die (fun d => { d with batches := d.batches ++ [b] })).closeRanges
        die node n (k - n.group) fuel

/-- A batch closed with what is available, at most the largest (R290). -/
def State.closeNow (s : State) (die node : Nat) (n : Node) : State :=
  let a := s.available die node
  if n.kind = kindDispatch then s.closeGrid die node n
  else if n.kind = kindRange then s.closeRanges die node n (min a (n.batchMax * n.group)) a
  else s.closeRecords die node n (min a (n.batchMax * n.group))

/-- A node whose records form batches. -/
def Node.forms (n : Node) : Bool :=
  (n.kind == kindShader && n.recsz != 0) || n.kind == kindRange || n.kind == kindDispatch

/-- BATCH_CLOSE (R291, R297): a full batch, the minimum fill, the graph drain, or a deadline queue. -/
def batchCloseStep (die node : Nat) (s : State) : State :=
  match s.node? node with
  | none => s
  | some n =>
    let a := s.available die node
    let k := if n.kind = kindDispatch then 1 else n.group
    let full := decide (a ≥ n.minfill * k ∨ a ≥ n.batchMax * k)
    if n.forms && decide (a > 0) && (n.deadline || full || s.noProducers node) then s.closeNow die node n else s

/-- BATCH_CLOSE (R291). -/
def execBatchClose (die : Nat) (node : Nat) (s : State) : Out := .next (batchCloseStep die node s)

/-- The maximum wait of a node; an interactive queue holds it at 4,096 cycles (R296). -/
def Node.waitMax (n : Node) : Nat := if n.qclass = 1 then min n.maxwait 4096 else n.maxwait

/-- Since when the oldest available record of a node waits. -/
def State.oldestSince (s : State) (die node : Nat) : Option Nat :=
  let qs := match s.queue? die node with | some q => q.avail.map (fun e => e.since) | none => []
  minBy id (qs ++ (s.storeOf die node).map (fun l => l.since))

/-- BATCH_MAXWAIT_EXPIRY (R291, R296). -/
def batchMaxwaitStep (die node : Nat) (s : State) : State :=
  match s.node? node, s.oldestSince die node with
  | some n, some t => if n.forms && decide (s.cycle ≥ t + n.waitMax) then s.closeNow die node n else s
  | _, _ => s

/-- BATCH_MAXWAIT_EXPIRY (R291). -/
def execBatchMaxwaitExpiry (die : Nat) (node : Nat) (s : State) : Out := .next (batchMaxwaitStep die node s)

/-! ## Admission (R292, R294, R304) -/

/-- The batches of both dies, with their die. -/
def State.allBatches (s : State) : List (Nat × Batch) := [0, 1].flatMap (fun d => (s.die d).batches.map (fun b => (d, b)))

/-- A batch of a die changed. -/
def State.modBatch (s : State) (die id : Nat) (f : Batch → Batch) : State :=
  s.modDie die (fun d => { d with batches := d.batches.map (fun (b : Batch) => if b.id = id then f b else b) })

/-- The records of a batch in its queue. -/
def State.batchRecs (s : State) (die : Nat) (b : Batch) : List QEntry := (s.entries die b.node).filter (fun e => e.batch == some b.id)

/-- Tile order withholds a batch while an earlier record of one of its keys is in a resident block or in an earlier batch
(R304). -/
def State.tileHeld (s : State) (die : Nat) (b : Batch) : Bool :=
  let keys := (s.batchRecs die b).map (fun e => tileKey e.bytes)
  let before := ((s.die die).batches.takeWhile (fun x => x.id != b.id)).filter (fun x => x.node == b.node)
  let held := s.tileKeysBut die b.node none ++ before.flatMap (fun x => (s.batchRecs die x).map (fun e => tileKey e.bytes))
  keys.any (fun k => held.contains k)

/-- The lead instructions of the wave in focus, with their addresses, from an address on. -/
def State.leadCode (s : State) (pc fuel : Nat) : List (Nat × Instr) :=
  match fuel with
  | 0 => []
  | fuel + 1 =>
    match (s.modW (fun w => { w with leadPc := pc })).fetch with
    | .error _ => []
    | .ok ws => match decodeWords ws with | .ok (i, _) => (pc, i) :: s.leadCode (pc + 4 * ws.length) fuel | .error _ => []

/-- Where a lead instruction at an address may branch to. -/
def branchTo (p : Nat × Instr) : Option Nat :=
  match p.2 with
  | .sbr f | .scall f => some (target (p.1 + 4) f.off21)
  | .sbrc f | .sloop f => some (target (p.1 + 12) f.off21)
  | _ => none

/-- The lowest address that code may run on from an address, by its branches. -/
def lowestRun (code : List (Nat × Instr)) (m fuel : Nat) : Nat :=
  match fuel with
  | 0 => m
  | fuel + 1 => lowestRun code (((code.filter (fun p => decide (m ≤ p.1))).filterMap branchTo).foldl min m) fuel

/-- The first CONSUME that code may reach from an address. -/
def nextConsume (code : List (Nat × Instr)) (m : Nat) : Option Nat :=
  let low := lowestRun code m code.length
  ((code.filter (fun p => decide (low ≤ p.1) && (match p.2 with | .consume _ => true | _ => false))).map (fun p => p.1)).head?

/-- A wave may yet issue a CONSUME that is not its first: its lead section, as its branches connect it, leads to one. -/
def State.consumesAgain (s : State) (w : Wave) : Bool :=
  match (if w.leadDone then none else s.focus w.core w.slot .lead) with
  | none => false
  | some s' =>
    let code := s'.leadCode w.k.leadBase (w.k.leadSize / 4)
    match nextConsume code w.leadPc with
    | none => false
    | some a => w.winFirst || (nextConsume code (a + 4)).isSome

/-- A resident wave of a node may yet take the records that its queue on a die holds: their batch is not admitted before it
has, as 24 R483 and R488 have the pose wave take its second record (entry 25). -/
def State.takerStands (s : State) (die : Nat) (n : Node) (node : Nat) : Bool :=
  n.kind == kindShader && s.allWaves.any (fun w =>
    !w.mgmt && w.key.node == node && dieOf w.core == die && w.status != .retired && s.consumesAgain w)

/-- What the admission of a batch does: its credits reserved, if they can be (R292, R297). -/
def State.admitted (s : State) (die : Nat) (b : Batch) : Option State :=
  match s.graph, s.node? b.node with
  | some g, some n =>
    if b.admitted || !g.running || s.revoked b.node || (!n.deadline && s.takerStands die n b.node) || (s.tileOrdered n b.node && s.tileHeld die b) then none
    else
      let now := s.cycle
      let go (s : State) : State := s.modBatch die b.id (fun b => { b with admitted := true, since := now })
      if n.deadline then some (go s) else (s.takeCredits die b.r n.edges).map go
  | _, _ => none

/-- Bytes of a queue entry with its tag. -/
def Node.slotBytes (n : Node) : Nat := n.entryBytes + 8

/-- More than three quarters of a die's queue share is occupied (R294). -/
def State.crowded (s : State) (die : Nat) : Bool :=
  let used := ((s.die die).queues.map (fun q =>
    match s.node? q.node with | some n => n.slotBytes * (q.entries.length + q.qresv) | none => 0)).sum
  let share := match s.graph with | some g => g.qshare | none => 0
  decide (4 * used > 3 * share)

/-- READY ORDER (R295) as a number: the least goes first. -/
def State.readyKey (s : State) (die : Nat) (b : Batch) : Nat :=
  match s.node? b.node with
  | none => 2 ^ 64
  | some n =>
    let level := if n.deadline then 0 else if n.cls = 0 ∧ b.admitted ∧ s.cycle ≥ b.since + 65536 then 1 else 2
    let seq := match s.batchRecs die b with | e :: _ => e.seq | [] => b.seq
    let age := ((s.die die).seq + 2 ^ 32 - seq % 2 ^ 32) % 2 ^ 32
    let cls := if n.qclass = 0 then 1 else 0
    (((level * 16 + (15 - n.prio)) * 2 + cls) * 2 ^ 32 + (2 ^ 32 - 1 - age)) * 65536 + b.node

/-- The sink distance of a batch's node. -/
def State.sinkOf (s : State) (b : Batch) : Nat := match s.node? b.node with | some n => n.sinkd | none => 0

/-- In a crowded die, a batch waits for one that can be admitted with a smaller sink distance, or of an equal one and ahead
in ready order (R294). -/
def State.yieldsTo (s : State) (die : Nat) (b : Batch) : Bool :=
  let key (x : Batch) : Nat := s.sinkOf x * 2 ^ 110 + s.readyKey die x
  let dl := match s.node? b.node with | some n => n.deadline | none => false
  !dl && s.crowded die && (s.die die).batches.any (fun x => x.id != b.id && decide (key x < key b) && (s.admitted die x).isSome)

/-- BATCH_ADMIT of batch i (R292). -/
def batchAdmitStep (i : Nat) (s : State) : State :=
  match s.allBatches[i]? with
  | none => s
  | some (die, b) => if s.yieldsTo die b then s else (s.admitted die b).getD s

/-- BATCH_ADMIT (R292). -/
def execBatchAdmit (i : Nat) (s : State) : Out := .next (batchAdmitStep i s)

/-! ## Placement (02 R16, R37, R48; 13 R295, R301) -/

/-- The records of a batch leave their queue as they are placed: QHEAD has passed them at formation (R285, R305). -/
def State.dequeueBatch (s : State) (die node id : Nat) : State :=
  let n := ((s.entries die node).filter (fun e => e.batch == some id)).length
  let s := s.modQueue die node (fun q =>
    Queue.trim { q with entries := q.entries.filter (fun e => e.batch != some id) })
  s.setStatus node (fun x => { x with taken := (x.taken + n) % 2 ^ 64 })

/-- The entry of a grid that a block belongs to: its local index and parameter address (R301). -/
def gridSlot (entries : List (Nat × Nat)) (blk : Nat) : Nat × Nat :=
  match (entries.filter (fun e => decide (e.1 ≤ blk))).getLast? with
  | some (first, param) => (blk - first, param)
  | none => (0, 0)

/-- Every block of a batch placed, or none (02 R48). -/
def State.placeParts (s : State) (die : Nat) (n : Node) (grid : Option Grid) (recs : List QEntry) (ps : List (BKey × Nat)) :
    Option State :=
  match ps with
  | [] => some s
  | (key, cnt) :: rest =>
    match s.chooseSpan die key.node n none with
    | none => none
    | some span =>
      let g := grid.map (fun g => gridSlot g.entries key.blk)
      let r := if n.kind = kindShader ∧ n.recsz ≠ 0 then cnt else 1
      (s.placeBlock key n span (if grid.isSome then [] else recs.take cnt) r g none).placeParts die n grid (recs.drop cnt) rest

/-- A free descriptor of a cluster: for an original record, one whose number no live family has (02 R37, R38; entry 23). -/
def Cluster.freeDesc (c : Cluster) (original : Bool) : Option Nat :=
  let used (i : Nat) : Bool := c.descs.any (fun d => d.valid && d.family == i)
  ((c.descs.zipIdx.filter (fun p => !p.1.valid && !(original && used p.2))).head?).map (fun p => p.2)

/-- The clusters that a range record may be placed in. -/
def rangeClusters (die : Nat) (e : QEntry) : List Nat :=
  if e.cluster = noCluster then (List.range 12).map (fun g => 12 * die + g) else [e.cluster]

/-- A RANGE RECORD PLACED (02 R37, R38, R41): bound to the lowest cluster with a free descriptor and a span, its descriptor
written and its block reserved there. -/
def State.placeRange (s : State) (die : Nat) (n : Node) (key : BKey) (e : QEntry) (gs : List Nat) : Option State :=
  match gs with
  | [] => none
  | g :: rest =>
    let original := decide (e.cluster = noCluster)
    match (s.cluster g).freeDesc original, s.chooseSpan die key.node n (some g) with
    | some i, some span =>
      let fam := if original then i else e.family
      let d : RDesc :=
        { next := leValue (e.bytes.take 8), hi := leValue ((e.bytes.drop 8).take 8), grain := leValue ((e.bytes.drop 16).take 4),
          family := fam, cluster := g, abt := (s.cluster g).abortLines.contains fam, valid := true, node := key.node, depth := e.depth }
      some ((s.modCluster g (fun c => { c with descs := setAt c.descs i d })).placeBlock key n span [e] 1 none (some (g, i)))
    | _, _ => s.placeRange die n key e rest

/-- The range records of a batch placed, every one or none (02 R45, R48). -/
def State.placeRanges (s : State) (die : Nat) (n : Node) (es : List QEntry) (ps : List (BKey × Nat)) : Option State :=
  match es, ps with
  | e :: es, p :: ps => (s.placeRange die n p.1 e (rangeClusters die e)).bind (fun s => s.placeRanges die n es ps)
  | _, _ => some s

/-- The next group of a grid waits for its own admission. -/
def State.gridNext (s : State) (die : Nat) (n : Node) (b : Batch) (g : Grid) : State :=
  let next := match b.parts.getLast? with | some p => p.1.blk + 1 | none => g.count
  let now := s.cycle
  if next ≥ g.count then s.modDie die (fun d => { d with batches := d.batches.filter (fun x => x.id != b.id) })
  else
    let ps := gridParts b.node g.id next g.count n.group
    s.modBatch die b.id (fun b => { b with parts := ps, r := ps.length, admitted := false, since := now })

/-- AN ADMITTED BATCH PLACED, if its blocks can be (02 R48; 13 R295). -/
def State.placeBatch (s : State) (die : Nat) (b : Batch) : Option State :=
  match s.node? b.node with
  | none => none
  | some n =>
    if !b.admitted then none
    else
      let recs := s.batchRecs die b
      let overB (s : State) : State :=
        (s.dequeueBatch die b.node b.id).modDie die (fun d => { d with batches := d.batches.filter (fun x => x.id != b.id) })
      if n.kind = kindRange then
        if recs = [] then none else (s.placeRanges die n recs b.parts).map overB
      else if n.kind = kindDispatch then
        match (s.die die).grids.find? (fun g => g.id == b.id) with
        | none => none
        | some g => (s.placeParts die n (some g) [] b.parts).map (fun s => (s.dequeueBatch die b.node b.id).gridNext die n b g)
      else (s.placeParts die n none recs b.parts).map overB

/-- A saved block of a node goes before its batches (17 R396). -/
def State.savedFirst (s : State) (die node : Nat) : Bool := s.blocks.any (fun x => x.waits && x.die == die && x.key.node == node)

/-- The batch of a die that goes next: the first in ready order among those that can be placed (R295). -/
def State.nextBatch (s : State) (die : Nat) : Option Batch :=
  minBy (s.readyKey die) ((s.die die).batches.filter (fun b => !s.savedFirst die b.node && (s.placeBatch die b).isSome))

/-- BLOCK_RESERVE of batch i (02 R48): placed when it is the next in ready order. -/
def blockReserveStep (i : Nat) (s : State) : State :=
  match s.allBatches[i]? with
  | none => s
  | some (die, b) =>
    let range := match s.node? b.node with | some n => n.kind == kindRange | none => true
    if range || decide (s.nextBatch die ≠ some b) then s else ((s.placeBatch die b).getD s).drainCheck

/-- BLOCK_RESERVE (02 R48). -/
def execBlockReserve (i : Nat) (s : State) : Out := .next (blockReserveStep i s)

/-- RANGE_RECORD_BIND (02 R37): the range record that goes next on a die, of a node. -/
def rangeRecordBindStep (die node : Nat) (s : State) : State :=
  match s.nextBatch die, s.node? node with
  | some b, some n =>
    if b.node = node ∧ n.kind = kindRange then ((s.placeBatch die b).getD s).drainCheck else s
  | _, _ => s

/-- RANGE_RECORD_BIND (02 R37). -/
def execRangeRecordBind (die : Nat) (node : Nat) (s : State) : Out := .next (rangeRecordBindStep die node s)

/-- Every wave of a block stops, to be saved (17 R394). -/
def State.stopBlock (s : State) (k : BKey) (faulted : Bool) (image : Option Nat) : State :=
  let stop (w : Wave) : Wave := if w.key = k ∧ w.mgmt = false then { w with stopped := true } else w
  ({ s with w := stop s.w, waves := s.waves.map stop } : State).modBlock k (fun b => { b with status := .saving faulted image })

/-- A block of class W, but for a deadline one. -/
def Block.weak (b : Block) : Bool := b.pcls % 4 == 2 && !bit b.pcls 2

/-- The W block of a die that gives way first: the lowest node priority (02 R48). -/
def State.weakBlock (s : State) (die : Nat) : Option Block :=
  minBy (fun b => b.prio) (s.blocks.filter (fun b => b.die == die && decide (b.status = .running) && b.weak))

/-- An admitted C block or group has waited 65,536 cycles for its reservation (02 R48). -/
def State.dueC (s : State) (b : Batch) : Bool :=
  (match s.node? b.node with | some n => n.cls == 0 | none => false) && b.admitted && decide (s.cycle ≥ b.since + 65536)

/-- Such a reservation waits on a die. -/
def State.reservationDue (s : State) (die : Nat) : Bool := (s.die die).batches.any s.dueC

/-- RESERVATION_WAIT_EXPIRY of batch i (02 R48): a C block or group has waited 65,536 cycles, and no save is under way. -/
def reservationWaitStep (i : Nat) (s : State) : State :=
  match s.allBatches[i]? with
  | none => s
  | some (die, b) =>
    let saving := s.blocks.any (fun x => x.die == die && (match x.status with | .saving _ _ => true | _ => false))
    if s.dueC b && !saving && (s.placeBatch die b).isNone then
      match s.weakBlock die with
      | some w => s.stopBlock w.key false none
      | none => s
    else s

/-- RESERVATION_WAIT_EXPIRY (02 R48). -/
def execReservationWaitExpiry (i : Nat) (s : State) : Out := .next (reservationWaitStep i s)

/-! ## Requests for work and splits (02 R39; 13 R288) -/

/-- A core asks for work: it holds no Running or Reserved wave. -/
def State.asksWork (s : State) (c : Nat) : Bool :=
  !s.allWaves.any (fun w => w.core == c && (match w.status with | .running | .reserved => true | _ => false))

/-- An admitted batch of the die can be placed on a span with the core. -/
def State.servesCore (s : State) (c : Nat) : Bool :=
  let die := dieOf c
  (s.die die).batches.any (fun b =>
    b.admitted &&
    (match s.node? b.node with
     | none => false
     | some n =>
       let cl := if n.kind = kindRange then (match s.batchRecs die b with | e :: _ => rangeClusters die e | [] => []).map some else [none]
       cl.any (fun g => (s.spans? die b.node n g).any (fun sp => sp.contains c && s.spanTakes b.node n sp))))

/-- A range record bound to a cluster waits in a queue of its die. -/
def State.boundWaits (s : State) (g : Nat) : Bool :=
  (s.die (g / 12)).queues.any (fun q => q.entries.any (fun e => e.cmark && e.cluster == g && !e.void))

/-- The descriptor that a split takes: the longest rest, then the lowest index. -/
def Cluster.longest (c : Cluster) : Option (RDesc × Nat) :=
  minBy (fun p => 2 ^ 64 - (p.1.hi - p.1.next)) (c.descs.zipIdx.filter (fun p => p.1.valid && !p.1.abt))

/-- RANGE_SPLIT in a cluster (02 R39; 13 R288). -/
def State.split (s : State) (g : Nat) : State :=
  match (s.cluster g).longest with
  | none => s
  | some (d, i) =>
    let mid := d.next + d.grain * ((d.hi - d.next) / (2 * d.grain))
    if mid = d.next then s
    else
      let s := s.modCluster g (fun c => { c with descs := setAt c.descs i { d with hi := mid } })
      s.headInsert (g / 12) d.node (leBytes mid 8 ++ leBytes d.hi 8 ++ leBytes d.grain 4 ++ leBytes 0 12) d.depth d.family g

/-- WORK_REQUEST of a core (02 R39). -/
def execWorkRequest (c : Nat) (s : State) : Out :=
  .next (if c < 192 ∧ s.asksWork c && !s.servesCore c && !s.boundWaits (clusterOf c) then s.split (clusterOf c) else s)

/-! ## Stealing (R299, R300) -/

/-- The queues of a node are never stolen from (R300). -/
def State.unstealable (s : State) (n : Node) (node : Nat) : Bool :=
  n.kind == kindRange || n.deadline || s.tileOrdered n node || n.kind == kindCommand || n.kind == kindScanout || n.kind == kindSensor

/-- Steals in flight to a die of a node. -/
def State.stealing (s : State) (die node : Nat) : Bool :=
  s.net.any (fun m => match m.msg with | .steal d n _ => d == die && n == node | _ => false)

/-- The k youngest eligible entries split from a queue, given youngest first. -/
def takeYoungest (l : List QEntry) (k : Nat) : List QEntry × List QEntry :=
  match l, k with
  | l, 0 => ([], l)
  | [], _ => ([], [])
  | e :: rest, k + 1 =>
    if e.open? && !e.cmark then
      let r := takeYoungest rest k
      (e :: r.1, r.2)
    else
      let r := takeYoungest rest (k + 1)
      (r.1, e :: r.2)

/-- STEAL_CHECK of a node by the scheduler of a die (R299, R300). -/
def stealCheckStep (die node : Nat) (s : State) : State :=
  match s.node? node, s.queue? die node, s.queue? (1 - die) node with
  | some n, some mine, some other =>
    let count := (other.entries.filter (fun e => e.open? && !e.cmark)).length
    let k := min (min (count / 2) 1024) mine.free.toNat
    let idle := (List.range 96).any (fun c => s.asksWork (96 * die + c))
    if die ≤ 1 && !s.unstealable n node && mine.avail = [] && idle && decide (count > 256 ∧ k > 0) && !s.stealing die node then
      let r := takeYoungest other.entries.reverse k
      let held := (r.1.filter (fun e => e.sideb != [])).length
      let s := s.modQueue (1 - die) node (fun q => { q with qtail := (q.qtail + 2 ^ 32 - k) % 2 ^ 32, entries := r.2.reverse })
      (s.modDie (1 - die) (fun d => { d with sidebands := d.sidebands - held })).send (.steal die node r.1.reverse)
    else s
  | _, _, _ => s

/-- STEAL_CHECK (R299). -/
def execStealCheck (die : Nat) (node : Nat) (s : State) : Out := .next (stealCheckStep die node s)

/-- Stolen records appended with new SEQ values, in their order. -/
def State.appendStolen (s : State) (die node : Nat) (es : List QEntry) : State :=
  match es with
  | [] => s
  | e :: rest =>
    let seq := (s.die die).seq
    let held := b2n (e.sideb != [])
    let s := s.modDie die (fun d => { d with seq := (d.seq + 1) % 2 ^ 32, sidebands := d.sidebands + held })
    (s.modQueue die node (fun q =>
      { q with qtail := (q.qtail + 1) % 2 ^ 32, entries := q.entries ++ [{ e with seq := seq, spilled := q.ringFull }] })).appendStolen
      die node rest

/-- STEAL_ARRIVAL of a message (R300): it waits while the free capacity does not cover it. -/
def stealArrivalStep (i : Nat) (s : State) : State :=
  match s.arrives i with
  | some m =>
    (match m.msg with
     | .steal die node es =>
       (match s.queue? die node with
        | some q => if (es.length : Int) ≤ q.free then (s.taken i).appendStolen die node es else s
        | none => s)
     | _ => s)
  | none => s

/-- STEAL_ARRIVAL (R300). -/
def execStealArrival (i : Nat) (s : State) : Out := .next (stealArrivalStep i s)

end Sys2Proof.Machine
end

