-- ==== Sys2Proof/Machine/Crypto.lean ====
section
/-! DEFINITION. SHA-256, MGF1 and RSASSA-PSS verification, which LOAD_CODE, the page check, the measurement registers and
ATTEST use (19 R418, R419; 20 R446 to R448). Octet strings and the public exponent are as in the standards (entry 27). -/
namespace Sys2Proof.Machine

/-! ## SHA-256 -/

/-- Initial hash words. -/
def shaInit : List Nat :=
  [0x6a09e667, 0xbb67ae85, 0x3c6ef372, 0xa54ff53a, 0x510e527f, 0x9b05688c, 0x1f83d9ab, 0x5be0cd19]

/-- Round constants. -/
def shaK : List Nat :=
  [0x428a2f98, 0x71374491, 0xb5c0fbcf, 0xe9b5dba5, 0x3956c25b, 0x59f111f1, 0x923f82a4, 0xab1c5ed5] ++
  [0xd807aa98, 0x12835b01, 0x243185be, 0x550c7dc3, 0x72be5d74, 0x80deb1fe, 0x9bdc06a7, 0xc19bf174] ++
  [0xe49b69c1, 0xefbe4786, 0x0fc19dc6, 0x240ca1cc, 0x2de92c6f, 0x4a7484aa, 0x5cb0a9dc, 0x76f988da] ++
  [0x983e5152, 0xa831c66d, 0xb00327c8, 0xbf597fc7, 0xc6e00bf3, 0xd5a79147, 0x06ca6351, 0x14292967] ++
  [0x27b70a85, 0x2e1b2138, 0x4d2c6dfc, 0x53380d13, 0x650a7354, 0x766a0abb, 0x81c2c92e, 0x92722c85] ++
  [0xa2bfe8a1, 0xa81a664b, 0xc24b8b70, 0xc76c51a3, 0xd192e819, 0xd6990624, 0xf40e3585, 0x106aa070] ++
  [0x19a4c116, 0x1e376c08, 0x2748774c, 0x34b0bcb5, 0x391c0cb3, 0x4ed8aa4a, 0x5b9cca4f, 0x682e6ff3] ++
  [0x748f82ee, 0x78a5636f, 0x84c87814, 0x8cc70208, 0x90befffa, 0xa4506ceb, 0xbef9a3f7, 0xc67178f2]

/-- A sum of 32-bit words. -/
def add32 (l : List Nat) : Nat := l.sum % 2 ^ 32
/-- Rotation to the right. -/
def rotr (x n : Nat) : Nat := (x >>> n) ||| (x <<< (32 - n)) % 2 ^ 32

/-- The big-endian value of octets. -/
def beValue (bs : List Byte) : Nat := bs.foldl (fun acc b => acc * 256 + b.toNat) 0
/-- n octets of a value, the highest first. -/
def beBytes (v n : Nat) : List Byte := (leBytes v n).reverse

/-- `k x`, with x evaluated first. -/
def force {α : Type} (x : Nat) (k : Nat → α) : α :=
  match x with
  | 0 => k 0
  | n + 1 => k (n + 1)

/-- Words of the message schedule, newest first, and n more. -/
def shaSchedule (l : List Nat) (n : Nat) : List Nat :=
  match n with
  | 0 => l
  | n + 1 =>
    let x := l.getD 14 0
    let y := l.getD 1 0
    let s0 := rotr x 7 ^^^ rotr x 18 ^^^ (x >>> 3)
    let s1 := rotr y 17 ^^^ rotr y 19 ^^^ (y >>> 10)
    force (add32 [l.getD 15 0, s0, l.getD 6 0, s1]) (fun w => shaSchedule (w :: l) n)

/-- The rounds on the eight working words, with each round's constant and word. -/
def shaRounds (h : List Nat) (kws : List (Nat × Nat)) : List Nat :=
  match kws, h with
  | (k, w) :: rest, [a, b, c, d, e, f, g, h] =>
    let s1 := rotr e 6 ^^^ rotr e 11 ^^^ rotr e 25
    let ch := (e &&& f) ^^^ ((2 ^ 32 - 1 - e) &&& g)
    let s0 := rotr a 2 ^^^ rotr a 13 ^^^ rotr a 22
    let maj := (a &&& b) ^^^ (a &&& c) ^^^ (b &&& c)
    force (add32 [h, s1, ch, k + w]) (fun t1 =>
      force (add32 [t1, s0, maj]) (fun a' => force (add32 [d, t1]) (fun e' => shaRounds [a', a, b, c, e', e, f, g] rest)))
  | _, _ => h

/-- Numbers evaluated one after the other. -/
def forceAll {α : Type} (l acc : List Nat) (k : List Nat → α) : α :=
  match l with
  | [] => k acc.reverse
  | x :: rest => force x (fun x => forceAll rest (x :: acc) k)

/-- One block of 64 octets. -/
def shaBlock (h : List Nat) (block : List Byte) : List Nat :=
  forceAll ((List.range 16).map (fun k => beValue ((block.drop (4 * k)).take 4))) [] (fun ws =>
    let all := (shaSchedule ws.reverse 48).reverse
    (h.zip (shaRounds h (shaK.zip all))).map (fun p => (p.1 + p.2) % 2 ^ 32))

/-- Blocks of a padded message. -/
def shaBlocks (h : List Nat) (bs : List Byte) (n : Nat) : List Nat :=
  match n with
  | 0 => h
  | n + 1 => forceAll (shaBlock h (bs.take 64)) [] (fun h => shaBlocks h (bs.drop 64) n)

/-- A message padded to blocks. -/
def shaPad (bs : List Byte) : List Byte :=
  let z := (119 - bs.length % 64) % 64
  bs ++ 0x80#8 :: (List.replicate z 0#8 ++ beBytes (8 * bs.length) 8)

/-- SHA-256: 32 octets. -/
def sha256 (bs : List Byte) : List Byte :=
  let p := shaPad bs
  (shaBlocks shaInit p (p.length / 64)).flatMap (fun w => beBytes w 4)

/-! ## RSASSA-PSS with SHA-256, MGF1 with SHA-256 and a salt of 32 octets (R419) -/

/-- MGF1. -/
def mgf1 (seed : List Byte) (n : Nat) : List Byte :=
  ((List.range ((n + 31) / 32)).flatMap (fun i => sha256 (seed ++ beBytes i 4))).take n

/-- Octets combined by exclusive OR. -/
def xorBytes (a b : List Byte) : List Byte := (a.zip b).map (fun p => p.1 ^^^ p.2)

/-- b^e mod n, by squaring over the bits of e. -/
def modPow (b n e : Nat) (fuel : Nat) : Nat :=
  match fuel with
  | 0 => 1 % n
  | fuel + 1 =>
    let r := modPow (b * b % n) n (e / 2) fuel
    if e % 2 = 1 then r * b % n else r

/-- The public exponent of a code-signing key (entry 27). -/
def rsaExponent : Nat := 65537

/-- The encoded message of 384 octets verified against a digest (modulus of 3,072 bits: 3,071 message bits). -/
def pssOk (em digest : List Byte) : Bool :=
  let masked := em.take 351
  let h := (em.drop 351).take 32
  let db := match xorBytes masked (mgf1 h 351) with
    | [] => []
    | b :: rest => (b &&& 0x7F#8) :: rest
  let top := decide ((masked.headD 0#8).toNat < 128)
  let ps := db.take 318
  let salt := db.drop 319
  top && (em.drop 383 == [0xBC#8]) && ps.all (fun b => b == 0#8) && (db.getD 318 0#8 == 1#8)
    && (sha256 (List.replicate 8 0#8 ++ digest ++ salt) == h)

/-- A signature verified under a modulus. -/
def rsaVerify (modulus : Nat) (sig message : List Byte) : Bool :=
  let x := beValue sig
  decide (x < modulus) && pssOk (beBytes (modPow x modulus rsaExponent 17) 384) (sha256 message)

/-- KEYID: the first 8 octets of SHA-256 of the modulus (20 R446). -/
def keyIdOf (modulus : Nat) : Nat := leValue ((sha256 (beBytes modulus 384)).take 8)

end Sys2Proof.Machine
end

