-- ==== Sys2Proof/Machine/MemEvents.lean ====
section
/-! DEFINITION. The steps of the memory system's own agents: home slices, L1s, Saddle ingresses and page walks (10 R216 to
R230; 11 R250; 15 R346, R347). A step whose message has not come, or whose condition does not hold, changes nothing. -/
namespace Sys2Proof.Machine

/-! ## Homes and migration (10 R221, R226, R227) -/

/-- The die that a migrating page leaves, if it is migrating. -/
def State.leaving (s : State) (page : Nat) : Option Nat :=
  [0, 1].find? (fun d => (s.die d).migrating.contains page)

/-- A request of a core finds the line at its home now: the page is not migrating, or its entries are installed and the
request is the first of those forwarded, or reaches the new home direct with no forwarded one before it (R227). -/
def State.atHome (s : State) (n : NetMsg) (core line : Nat) : Bool :=
  match s.leaving (line / 16384) with
  | none => true
  | some d =>
    let fw := s.forwards (line / 16384)
    !s.moving (line / 16384)
      && (if n.fwd then fw.all (fun id => decide (n.id ≤ id)) else s.homeOf (dieOf core) line != d && fw == [])

/-- A reply about a line finds its directory entry. -/
def State.entryHere (s : State) (line : Nat) : Bool := !s.moving (line / 16384)

/-- Bytes of the lanes of a load. -/
def partBytes (data : List Byte) (parts : List (Nat × Nat × Nat)) : List (Nat × List Byte) :=
  parts.map (fun p => (p.1, (data.drop p.2.1).take p.2.2))

/-- A load answered by its home: the fill for a requester that becomes a sharer, then the bytes; nothing of a poisoned
line (R221, R229). -/
def State.answerLoad (s : State) (r : Req) (parts : List (Nat × Nat × Nat)) (fill : Bool) : State :=
  let line := lineOf r.pa
  if s.poisoned line then
    if parts = [] then s else s.send (.ret r.core r.slot r.op line (parts.map (fun p => (p.1, []))) [] (some r.va))
  else
    let data := memBytes s.mem line 128
    let s := if fill then (s.share r.core line).send (.fill r.core line data false) else s
    if parts = [] then s else s.send (.ret r.core r.slot r.op line (partBytes data parts) parts none)

/-- HOME_LOAD (R214, R221): a line in state C is folded first, and its reader is not registered. -/
def homeLoadStep (i : Nat) (s : State) : State :=
  match s.arrives i with
  | none => s
  | some n =>
    match n.msg with
    | .load r parts fill pref =>
      let line := lineOf r.pa
      if !s.atHome n r.core line then s
      else if s.lineState line = .c then
        if pref then s.taken i
        else if (s.dirOf line).fold.isSome || !s.foldReady line then s
        else if (s.dirOf line).clean then (s.taken i).answerLoad r parts false
        else s.foldStart line [n.id]
      else (s.taken i).answerLoad r parts fill
    | _ => s

/-- HOME_LOAD (R214, R217, R221). -/
def execHomeLoad (i : Nat) (s : State) : Out := .next (homeLoadStep i s)

/-- HOME_STORE (R218, R221, R222): a store to a line in state C is held. -/
def homeStoreStep (i : Nat) (s : State) : State :=
  match s.arrives i with
  | none => s
  | some n =>
    match n.msg with
    | .store r data push =>
      let line := lineOf r.pa
      if !s.atHome n r.core line || decide (s.lineState line = .c) then s
      else (s.taken i).homeWrite (dieOf r.core) line data (.wave r.core r.slot r.op) none push
    | _ => s

/-- HOME_STORE (R218). -/
def execHomeStore (i : Nat) (s : State) : Out := .next (homeStoreStep i s)

/-- An ATOM taken by its home at one point of coherence order (11 R244); on a poisoned line it does not perform (R250). -/
def State.takeAtom (s : State) (r : Req) (a : AtomOp) : State :=
  let line := lineOf r.pa
  let die := dieOf r.core
  let none_ (s : State) : State :=
    (s.send (.ack (.wave r.core r.slot r.op) false)).send (.ack (.wave r.core r.slot r.op) true)
  if s.poisoned line then
    if a.returns then none_ (s.send (.ret r.core r.slot r.op line [(a.lane, [])] [] (some (lineOf r.va))))
    else none_ (s.modOp r.core r.slot r.op (fun o => { o with bad := o.bad ++ [(a.lane, lineOf r.va)] }))
  else
    let m := memVal s.mem r.pa a.n
    let s :=
      match atomResult a m with
      | some v =>
        s.homeWrite die line ((leBytes v a.n).zipIdx.map (fun p => (r.pa - line + p.2, p.1))) (.wave r.core r.slot r.op)
          (some r.core) []
      | none => none_ s
    if a.returns then s.send (.ret r.core r.slot r.op line [(a.lane, leBytes m a.n)] [] none) else s

/-- HOME_ATOM (11 R243, R244). -/
def homeAtomStep (i : Nat) (s : State) : State :=
  match s.arrives i with
  | none => s
  | some n =>
    match n.msg with
    | .atom r a =>
      if !s.atHome n r.core (lineOf r.pa) || decide (s.lineState (lineOf r.pa) = .c) then s
      else (s.taken i).takeAtom r a
    | _ => s

/-- HOME_ATOM (11 R243, R244). -/
def execHomeAtom (i : Nat) (s : State) : Out := .next (homeAtomStep i s)

/-! ## L1s (10 R216, R218, R220) -/

/-- A fill installed in state S, under the core's own writes on their way; a line that already has a state keeps it. There is
nothing to install into while every line has a message on its way: the fill waits (entry 19). -/
def State.install (s : State) (core line : Nat) (data : List Byte) (drop : Bool) : Option State :=
  if (s.core core).dead || ((s.core core).line? line).isSome then some s
  else
    (s.makeRoom core).map (fun s =>
      (s.modCore core (fun c => { c with l1 := c.l1 ++ [{ line := line, st := .s, drop := drop, data := data, touched := 0 }] })).overlay
        core line)

/-- FILL_RECEIVE (R220). -/
def fillReceiveStep (i : Nat) (s : State) : State :=
  match s.arrives i with
  | none => s
  | some n =>
    match n.msg with
    | .fill core line data drop => ((s.taken i).install core line data drop).getD s
    | _ => s

/-- FILL_RECEIVE (R220). -/
def execFillReceive (i : Nat) (s : State) : Out := .next (fillReceiveStep i s)

/-- The sectors of a line that bytes touch, with their bytes (R216). -/
def sectorsOf (line : Nat) (data : List (Nat × Byte)) : List PendUpd :=
  (List.range 4).filterMap (fun k =>
    match data.filter (fun d => d.1 / 32 == k) with
    | [] => none
    | b :: bs => some { line := line, sector := k, bytes := b :: bs })

/-- An update recorded: appended to the pending-update array, or DROP when it is full; discarded in state I (R218). -/
def Core.record (c : Core) (line : Nat) (data : List (Nat × Byte)) : Core :=
  match c.line? line with
  | none => c
  | some x =>
    if x.st = .c then c
    else
      let us := sectorsOf line data
      if c.pend.length + us.length > 512 then c.modLine line (fun x => { x with drop := true })
      else { c with pend := c.pend ++ us }

/-- UPDATE_RECEIVE (R218): the core's own ATOM is taken by its copy at once, under its later writes. -/
def updateReceiveStep (i : Nat) (s : State) : State :=
  match s.arrives i with
  | none => s
  | some n =>
    match n.msg with
    | .update core line data ack now =>
      let s := (s.taken i).modCore core (fun c => c.record line data)
      let s := if now then
          (s.modCore core (fun c =>
            c.modLine line (fun x => if x.st = .s then { x with data := overBytes x.data data } else x))).overlay core line
        else s
      s.recorded ack core
    | _ => s

/-- UPDATE_RECEIVE (R218). -/
def execUpdateReceive (i : Nat) (s : State) : Out := .next (updateReceiveStep i s)

/-- An acknowledgement of a write reaches its wave's operation. -/
def State.ackWave (s : State) (core slot id : Nat) (all : Bool) : State :=
  let s := s.modWave core slot (fun w =>
    { w with ops := w.ops.map (fun (o : Op) =>
        if o.id = id then (if all then { o with leftAll := o.leftAll - 1 } else { o with leftDie := o.leftDie - 1 }) else o) })
  match (s.wave? core slot).bind (fun w => w.ops.find? (fun o => o.id == id)) with
  | none => s
  | some o =>
    if o.leftAll ≠ 0 then s
    else
      match o.cls with
      | .laneSt | .leadSt =>
        let fin (w : Wave) : Wave :=
          match minBy (fun (p : Nat × Nat) => p.1) o.bad with
          | some (_, va) => w.post o causePoison (maskOf (o.bad.map (fun p => p.1))) va 0
          | none => w
        let s := (s.modWave core slot fin).modOp core slot id (fun o => { o with done := true })
        if o.acq && all then s.acquire core else s
      | _ => s.modOp core slot id (fun o => o)

/-- STORE_ACK (R218): ACK_DIE or ACK_ALL reaches the writer; a job's write has performed at the job's scope. -/
def storeAckStep (i : Nat) (s : State) : State :=
  match s.arrives i with
  | none => s
  | some n =>
    match n.msg with
    | .ack tell all =>
      let s := s.taken i
      match tell with
      | .wave core slot op => s.ackWave core slot op all
      | .job die id =>
        s.modDie die (fun d => { d with jobs := d.jobs.map (fun (j : Job) =>
          if j.id = id ∧ all = decide (j.scope ≠ 2) then { j with acks := j.acks - 1 } else j) })
      | .sensor k => if all then { s with sensors := modAt s.sensors k (fun x => { x with writes := x.writes - 1 }) } else s
      | .host => s
      | .none => s
    | _ => s

/-- STORE_ACK (R218). -/
def execStoreAck (i : Nat) (s : State) : Out := .next (storeAckStep i s)

/-- LOAD_RETURN (11 R238, R250): bytes reach their wave; those of a load are its L1 copy's where one is held. -/
def loadReturnStep (i : Nat) (s : State) : State :=
  match s.arrives i with
  | none => s
  | some n =>
    match n.msg with
    | .ret core slot op line data parts poison =>
      let s := s.taken i
      let got :=
        match (s.core core).line? line with
        | some x => if x.st = .s ∧ parts ≠ [] then partBytes x.data parts else data
        | none => data
      (s.modWave core slot (fun w =>
        { w with ops := w.ops.map (fun (o : Op) =>
            if o.id = op then
              match poison with
              | some va => { o with left := o.left - 1, bad := o.bad ++ data.map (fun p => (p.1, va)) }
              | none => { o with left := o.left - 1, got := o.got ++ got }
            else o) })).loadDone core slot op
    | _ => s

/-- LOAD_RETURN (11 R238, R250). -/
def execLoadReturn (i : Nat) (s : State) : Out := .next (loadReturnStep i s)

/-- The elements of a filled LQ entry (11 R250); what a poisoned lane holds the manual leaves open (entry 8). -/
def lqData (o : Op) (code lanes fresh : Nat) : List Word :=
  (List.range lanes).map (fun l =>
    match o.got.find? (fun p => p.1 == l) with
    | some (_, bs) => BitVec.ofNat 32 (loadWord code bs 0)
    | none => Config.freeWord (fresh + l))

/-- LQ_FILL (02 R27; 11 R250): the wave's oldest LQ load not yet filled, when its lanes have returned; the data of an entry
that abort sampling emptied are discarded. -/
def lqFillStep (c slot : Nat) (s : State) : State :=
  match s.wave? c slot with
  | none => s
  | some w =>
    let isLq (o : Op) : Bool := !o.done && (match o.dst with | .lq _ _ => true | _ => false)
    match w.ops.find? isLq with
    | none => s
    | some o =>
      if o.left ≠ 0 then s
      else
        let code := match o.dst with | .lq _ code => code | _ => 4
        let m := maskOf (o.bad.map (fun p => p.1))
        let va := match minBy (fun (p : Nat × Nat) => p.1) o.bad with | some (_, va) => va | none => 0
        let fill (e : LqEntry) : LqEntry :=
          if e.id = o.id then
            { e with filled := true, data := lqData o code w.lanes s.fresh, poison := m }
          else e
        let known := w.lq.any (fun e => e.id == o.id)
        let upd (w : Wave) : Wave :=
          let w := { w with lq := w.lq.map fill }
          if m ≠ 0 ∧ known then w.post o causePoison m va 0 else w
        ({ s.modWave c slot upd with fresh := s.fresh + w.lanes } : State).modOp c slot o.id (fun o => { o with done := true })

/-- LQ_FILL (11 R250). -/
def execLqFill (c : Nat) (slot : Nat) (s : State) : Out := .next (lqFillStep c slot s)

/-- A push at its destination (R220): installed in state P, kept by a held copy, or refused; one that finds no line that can
give way waits (entry 19). -/
def State.pushIn (s : State) (core line : Nat) (data : List Byte) (ack : Nat) : Option State :=
  let c := s.core core
  let refuse (s : State) : State :=
    (s.modCore core (fun c => { c with refcnt := (c.refcnt + 1) % 2 ^ 32 })).send (.pushReply core line false ack)
  match c.line? line with
  | some x => some (if x.st = .c then refuse s else s.send (.pushReply core line true ack))
  | none =>
    if c.injcnt ≥ 512 then some (refuse s)
    else
      (s.makeRoom core).map (fun s =>
        (s.modCore core (fun c =>
          { c with
            l1 := c.l1 ++ [{ line := line, st := .p, drop := false, data := data, touched := 0 }]
            injcnt := c.injcnt + 1 })).send (.pushReply core line true ack))

/-- PUSH_RECEIVE (R220, R222). -/
def pushReceiveStep (i : Nat) (s : State) : State :=
  match s.arrives i with
  | none => s
  | some n =>
    match n.msg with
    | .push core line data ack => ((s.taken i).pushIn core line data ack).getD s
    | _ => s

/-- PUSH_RECEIVE (R220, R222). -/
def execPushReceive (i : Nat) (s : State) : Out := .next (pushReceiveStep i s)

/-- PUSH_REPLY (R221, R222): a refusal clears the sharer bit; a handoff goes on to its next line, or ends at a refusal
(R223). -/
def pushReplyStep (i : Nat) (s : State) : State :=
  match s.arrives i with
  | none => s
  | some n =>
    match n.msg with
    | .pushReply core line ok ack =>
      if !s.entryHere line then s
      else
        let s := s.taken i
        ((if ok then s else s.unshare core line).answered ack core).handoffReply ack ok
    | _ => s

/-- PUSH_REPLY (R221, R222). -/
def execPushReply (i : Nat) (s : State) : Out := .next (pushReplyStep i s)

/-- DEREGISTRATION (R221). -/
def deregistrationStep (i : Nat) (s : State) : State :=
  match s.arrives i with
  | none => s
  | some n =>
    match n.msg with
    | .dereg core line => if s.entryHere line then (s.taken i).unshare core line else s
    | _ => s

/-- DEREGISTRATION (R221). -/
def execDeregistration (i : Nat) (s : State) : Out := .next (deregistrationStep i s)

/-- RANGE_OPEN_NOTICE (R220): a copy is marked. -/
def rangeOpenNoticeStep (i : Nat) (s : State) : State :=
  match s.arrives i with
  | none => s
  | some n =>
    match n.msg with
    | .notice core line =>
      ((s.taken i).modCore core (fun c =>
        c.modLine line (fun x => if x.st = .c then x else { x with drop := true }))).send (.noticeReply core line)
    | _ => s

/-- RANGE_OPEN_NOTICE (R220). -/
def execRangeOpenNotice (i : Nat) (s : State) : Out := .next (rangeOpenNoticeStep i s)

/-- RANGE_NOTICE_REPLY (R221): the sharer bit is cleared. -/
def rangeNoticeReplyStep (i : Nat) (s : State) : State :=
  match s.arrives i with
  | none => s
  | some n =>
    match n.msg with
    | .noticeReply core line =>
      if s.entryHere line then
        (s.taken i).modDir line (fun d => { d with sharers := d.sharers.filter (fun c => c != core) })
      else s
    | _ => s

/-- RANGE_NOTICE_REPLY (R221). -/
def execRangeNoticeReply (i : Nat) (s : State) : Out := .next (rangeNoticeReplyStep i s)

/-! ## Commutative ranges (10 R221, R225) -/

/-- HOLDER_REGISTER (R221). -/
def holderRegisterStep (i : Nat) (s : State) : State :=
  match s.arrives i with
  | none => s
  | some n =>
    match n.msg with
    | .holder core line =>
      if s.entryHere line then (s.taken i).modDir line (fun d => { d with holders := insertAsc core d.holders }) else s
    | _ => s

/-- HOLDER_REGISTER (R221). -/
def execHolderRegister (i : Nat) (s : State) : Out := .next (holderRegisterStep i s)

/-- EVICTED_PARTIAL (R217): it stands in its core's place; one given up after the probe of a fold in progress waits for
the next fold (09 R209). -/
def evictedPartialStep (i : Nat) (s : State) : State :=
  match s.arrives i with
  | none => s
  | some n =>
    match n.msg with
    | .evicted core line words touched =>
      let late := match (s.dirOf line).fold with | some f => !f.cores.contains core | none => false
      if late || !s.entryHere line then s
      else (s.taken i).addPartial line { agent := core, words := words, touched := touched }
    | _ => s

/-- EVICTED_PARTIAL (R217). -/
def execEvictedPartial (i : Nat) (s : State) : Out := .next (evictedPartialStep i s)

/-- FOLD_PROBE (R225): the core gives up its partial, once any that it evicted before has arrived. -/
def foldProbeStep (i : Nat) (s : State) : State :=
  match s.arrives i with
  | none => s
  | some n =>
    match n.msg with
    | .probe core line =>
      let behind := s.net.any (fun m => match m.msg with | .evicted c l _ _ => c == core && l == line | _ => false)
      if behind then s
      else
        ((s.taken i).giveUp core line).modDir line (fun d =>
          { d with fold := d.fold.map (fun f => { f with cores := f.cores.filter (fun c => c != core) }) })
    | _ => s

/-- FOLD_PROBE (R225). -/
def execFoldProbe (i : Nat) (s : State) : Out := .next (foldProbeStep i s)

/-- The loads that a fold answers, by their message numbers. -/
def State.answerFolded (s : State) (ids : List Nat) : State :=
  match ids with
  | [] => s
  | id :: rest =>
    let s' : State :=
      match s.net.find? (fun n => n.id == id) with
      | some n =>
        (match n.msg with
         | .load r parts _ _ => ({ s with net := s.net.filter (fun x => x.id != id) } : State).answerLoad r parts false
         | _ => s)
      | none => s
    s'.answerFolded rest

/-- FOLD_COMPLETE (R225): every probe is answered; one write, then the waiting loads. -/
def foldCompleteStep (line : Nat) (s : State) : State :=
  match (s.dirOf line).fold with
  | some f => if f.cores = [] then (s.foldWrite line).answerFolded f.loads else s
  | none => s

/-- FOLD_COMPLETE (R225). -/
def execFoldComplete (line : Nat) (s : State) : Out := .next (foldCompleteStep line s)

/-! ## Migration (R226, R227) -/

/-- A page's home moves: its lines enter M and their entries travel (R227 item 1). -/
def State.startMigration (s : State) (die page : Nat) : State :=
  let mine := s.dir.filter (fun p => p.1 / 16384 == page)
  let s := { s with dir := s.dir.filter (fun p => p.1 / 16384 != page) }
  (s.modDie die (fun d => { d with migrating := d.migrating ++ [page] })).send (.migrate page (1 - die) mine)

/-- The counter of a page with one more remote write (R226). -/
def RwCounter.count1 (c : RwCounter) (now : Nat) : RwCounter :=
  if now - c.start ≥ 2 ^ 20 then { c with count := 1, start := now, used := now } else { c with count := c.count + 1, used := now }

/-- The counter of a page, allocated when it has none: in a free place or that of the least recently used (R226). -/
def allocRw (l : List RwCounter) (page now : Nat) : List RwCounter :=
  if l.any (fun c => c.page == page) then l
  else
    let c : RwCounter := { page := page, count := 0, start := now, hold := 0, used := now }
    if l.length < 2048 then l ++ [c]
    else
      match minBy (fun c => c.used) l with
      | some v => (l.filter (fun x => x.page != v.page)) ++ [c]
      | none => l ++ [c]

/-- REMOTE_WRITE_COUNT (R226): one remote write to a page counted at its home die's Saddle ingress. -/
def remoteWriteCountStep (die page : Nat) (s : State) : State :=
  let d := s.die die
  if !d.rwPend.contains page || (s.leaving page).isSome then s
  else
    let s := s.modDie die (fun d => { d with rwPend := d.rwPend.erase page })
    if s.homeOf die (page * 16384) ≠ die then s
    else
      let l := (allocRw d.rw page s.cycle).map (fun c => if c.page = page then c.count1 s.cycle else c)
      let c := (l.find? (fun c => c.page == page)).getD { page := page, count := 0, start := 0, hold := 0, used := 0 }
      let inC := s.ranges.any (fun r => r.2.2.valid && r.2.2.active && r.2.2.pages.contains (page * 16384))
      let full := decide (c.count ≥ 4096)
      let go := full && !inC && decide (s.cycle - c.hold ≥ 2 ^ 20) && decide (d.migrating.length < 4)
      let k := if full then (if go then 0 else 4095) else c.count
      let s := s.modDie die (fun d => { d with rw := l.map (fun c => if c.page = page then { c with count := k } else c) })
      if go then s.startMigration die page else s

/-- REMOTE_WRITE_COUNT (R226). -/
def execRemoteWriteCount (die : Nat) (page : Nat) (s : State) : Out := .next (remoteWriteCountStep die page s)

/-- A request stands at the old home of a migrating page. -/
def State.atOldHome (s : State) (n : NetMsg) : Bool :=
  match n.msg.request with
  | some (core, line) =>
    (match s.leaving (line / 16384) with | some d => !n.fwd && s.homeOf (dieOf core) line == d | none => false)
  | none => false

/-- MIGRATION_FORWARD (R227 item 2): a request that reaches an M line at the old home goes on to the new one, under a number
that keeps the order of arrival. -/
def migrationForwardStep (i : Nat) (s : State) : State :=
  match s.arrives i with
  | none => s
  | some n =>
    if s.atOldHome n then
      { s with
        nextId := s.nextId + 1
        net := s.net.map (fun (m : NetMsg) => if m.id = n.id then { m with fwd := true, id := s.nextId } else m) }
    else s

/-- MIGRATION_FORWARD (R227). -/
def execMigrationForward (i : Nat) (s : State) : Out := .next (migrationForwardStep i s)

/-- A page's home in one die's table changed to the other die. -/
def flipHome (l : List Nat) (page : Nat) : List Nat :=
  if l.contains page then l.filter (fun p => p != page) else insertAsc page l

/-- Entries installed at the new home. -/
def State.installDir (s : State) (es : List (Nat × DirEntry)) : State :=
  match es with
  | [] => s
  | (line, e) :: rest => (s.modDir line (fun _ => e)).installDir rest

/-- MIGRATION_INSTALL (R227 items 3 and 4): the new home installs the entries and its die updates its table. -/
def migrationInstallStep (i : Nat) (s : State) : State :=
  match s.arrives i with
  | none => s
  | some n =>
    match n.msg with
    | .migrate page die es =>
      ((s.taken i).installDir es).modDie die (fun d => { d with homes := flipHome d.homes page })
    | _ => s

/-- MIGRATION_INSTALL (R227). -/
def execMigrationInstall (i : Nat) (s : State) : Out := .next (migrationInstallStep i s)

/-- The counter of a page that has just migrated to a die, with HOLD set (R226, R227 item 5). -/
def holdRw (l : List RwCounter) (page now : Nat) : List RwCounter :=
  (allocRw l page now).map (fun c => if c.page = page then { c with hold := now } else c)

/-- MIGRATION_POINTER_RETIRE of a page (R227 items 4 and 5): the old home's die updates its table after the new home's, and
with no forwarded request in flight the pointers retire. -/
def pointerRetireStep (page : Nat) (s : State) : State :=
  match s.leaving page with
  | none => s
  | some d =>
    if s.moving page then s
    else
      let s := if s.homeOf d (page * 16384) = d then s.modDie d (fun x => { x with homes := flipHome x.homes page }) else s
      if s.forwards page != [] then s
      else
        (s.modDie d (fun x => { x with migrating := x.migrating.filter (fun p => p != page) })).modDie (1 - d)
          (fun x => { x with rw := holdRw x.rw page s.cycle })

/-- MIGRATION_POINTER_RETIRE (R227). -/
def execMigrationPointerRetire (i : Nat) (s : State) : Out := .next (pointerRetireStep i s)

/-! ## The host's snoops and page walks (10 R230; 15 R346, R347) -/

/-- HOST_SNOOP_INVALIDATE of a line (R230): each device sharer gets DROP, with the fill if that is still on its way, and the
host's write for which it took the line
reaches host memory (09 R212): `bytes` by their offsets. -/
def hostSnoopStep (line : Nat) (bytes : List (Nat × Byte)) (s : State) : State :=
  if isHostPa line && line % 128 == 0 then
    let mark (n : NetMsg) : NetMsg :=
      match n.msg with
      | .fill c l d _ => if l = line then { n with msg := .fill c l d true } else n
      | _ => n
    { s.putBytes line (bytes.filter (fun b => decide (b.1 < 128))) with
      cores := s.cores.map (fun (c : Core) => c.modLine line (fun x => { x with drop := true })), net := s.net.map mark }
  else s

/-- HOST_SNOOP_INVALIDATE (R230). -/
def execHostSnoopInvalidate (line : Nat) (bytes : List (Nat × Byte)) (s : State) : Out := .next (hostSnoopStep line bytes s)

/-- PAGE_WALK (15 R346, R347): the leaf of an address reaches the TLBs of the cores of a die that run waves. -/
def pageWalkStep (die va : Nat) (s : State) : State :=
  match walk s.mem (s.die die).ptroot va with
  | .leaf e =>
    if inWindow va then s
    else
      let runs (c : Nat) : Bool := dieOf c == die && s.allWaves.any (fun w => w.core == c && decide (w.status = .running))
      { s with cores := s.cores.zipIdx.map (fun p =>
          if runs p.2 && (p.1.tlb.find? (fun x => x.covers va)).isNone then { p.1 with tlb := p.1.tlb ++ [e] } else p.1) }
  | _ => s

/-- PAGE_WALK (15 R346, R347). -/
def execPageWalk (die : Nat) (va : Nat) (s : State) : Out := .next (pageWalkStep die va s)

end Sys2Proof.Machine
end

