-- ==== Sys2Proof/Machine/Retire.lean ====
section
/-! DEFINITION. The end of waves and blocks, traps that events post, and the timers of a wave: retirement, trap entry,
promotion, coupling deadlock and the wait limit (02 R20, R23, R28, R46, R47; 07 R176; 16 R367; 17 R387, R390, R391). -/
namespace Sys2Proof.Machine

/-! ## Blocks leaving (02 R20, R38, R42; 13 R292) -/

/-- The waves of a block leave their slots; the management core stands in focus where one of them stood. -/
def State.dropWaves (s : State) (k : BKey) : State :=
  let mine (w : Wave) : Bool := decide (w.key = k) && !w.mgmt
  let s := if mine s.w then (s.focus 192 0 .lead).getD s else s
  { s with waves := s.waves.filter (fun w => !mine w) }

/-- A range descriptor freed; its family's abort line falls with the last of the family (02 R38, R42). -/
def Cluster.freeDescAt (c : Cluster) (i : Nat) : Cluster :=
  let f := (c.descs.getD i RDesc.empty).family
  let ds := modAt c.descs i (fun d => { d with valid := false })
  { c with
    descs := ds
    abortLines := if ds.any (fun d => d.valid && d.family == f) then c.abortLines else c.abortLines.filter (fun x => x != f) }

/-- Unused credits of a block given back (13 R292, R297). -/
def State.blockCredits (s : State) (b : Block) : State :=
  match s.node? b.key.node with
  | some n => s.freeCredits b.die n.deadline b.later ((n.edges.zip b.edges).map (fun p => (p.1, p.2.1, p.2.2)))
  | none => s

/-- A block of a grid is over; the grid goes with its last (13 R301). -/
def State.gridDone (s : State) (b : Block) : State :=
  if b.grid.isSome then
    s.modDie b.die (fun d =>
      let gs : List Grid := d.grids.map (fun g => if g.id = b.key.grid then { g with total := g.total - 1 } else g)
      { d with grids := gs.filter (fun g => g.total != 0) })
  else s

/-- A block leaves the die: its slots, granules, descriptor and objects are free (02 R20). -/
def State.removeBlock (s : State) (b : Block) : State :=
  let s := s.dropWaves b.key
  let s := match b.desc with | some (g, i) => s.modCluster g (fun c => c.freeDescAt i) | none => s
  (({ s with blocks := s.blocks.filter (fun x => x.key != b.key) } : State).gridDone b).drainCheck

/-- A BLOCK RETIRES (02 R20). -/
def State.retireBlock (s : State) (b : Block) : State := (s.blockCredits b).removeBlock b

/-! ## Retirement of a wave (02 R20; 12 R279; 16 R367) -/

/-- The deferred fault that the instruction ending a stream takes (16 R367 item 3): the stream at that instruction, not
finished. A lane stream that a held stop ended takes it at the SDONE. -/
def Wave.reopen (w : Wave) (d : Deferred) : Wave × Stream :=
  let back := if w.aborted && w.k.abortPc == 0 then 0 else 4
  if decide (d.cls.stream = .lane) && !w.laneHeld then ({ w with laneDone := false, lanePc := w.lanePc - back }, .lane)
  else ({ w with leadDone := false, leadPc := w.leadPc - back }, .lead)

/-- A trap posted to a wave: neither stream issues before TRAP_ENTRY or FAULT_WITHOUT_HANDLER takes it (17 R385). -/
def State.postTrap (s : State) (c slot : Nat) (t : Trap) : State := s.modWave c slot (fun w => { w with pendTrap := some t })

/-- A pending deferred fault of a wave that would retire is posted to it. -/
def State.endFault (s : State) (w : Wave) (d : Deferred) : State :=
  let r := w.reopen d
  (s.modWave w.core w.slot (fun _ => r.1)).postTrap w.core w.slot
    { cause := d.cause, st := r.2, deferred := true, flanes := d.flanes, taddr := d.taddr, tinfo := d.tinfo }

/-- A wave may retire: both streams have finished and every counter is zero, its writes performed at `.dev`. -/
def Wave.mayRetire (w : Wave) : Bool :=
  !w.mgmt && decide (w.status = .running) && !w.stopped && w.pendTrap.isNone && w.holding.isNone && w.leadDone && w.laneDone && !w.inTrap && w.drained

/-- A wave retires: its open batch commits (12 R279), and its block with the last of them. -/
def State.retireWave (s : State) (w : Wave) : State :=
  let s := s.modCore w.core (fun c => c.countBatch w.open_)
  let s := s.modWave w.core w.slot (fun w => { w with status := .retired, open_ := MBatch.open0 })
  let s := s.modBlock w.key (fun b => { b with live := b.live - 1 })
  match s.block? w.key with
  | some b => if b.live = 0 then s.retireBlock b else s
  | none => s

/-- WAVE_RETIRE (02 R20). -/
def waveRetireStep (c slot : Nat) (s : State) : State :=
  match s.wave? c slot with
  | none => s
  | some w =>
    if !w.mayRetire then s
    else
      match w.takable with
      | some d => s.endFault w d
      | none => s.retireWave w

/-- WAVE_RETIRE (02 R20). -/
def execWaveRetire (c : Nat) (slot : Nat) (s : State) : Out := .next (waveRetireStep c slot s)

/-! ## Traps posted by events (17 R387, R391) -/

/-- A posted trap of a wave is taken, if it has a handler or not as asked. -/
def trapStep (handler : Bool) (c slot : Nat) (s : State) : State :=
  match s.wave? c slot with
  | none => s
  | some w =>
    match w.pendTrap with
    | none => s
    | some t =>
      match s.focus c slot t.st with
      | some s' =>
        if s'.w.mgmt || s'.w.stopped || s'.hasHandler s'.w t.cause != handler then s
        else if handler then s'.enterHandler t else s'.faultBlock t
      | none => s

/-- TRAP_ENTRY (17 R387). -/
def execTrapEntry (c : Nat) (slot : Nat) (s : State) : Out := .next (trapStep true c slot s)
/-- FAULT_WITHOUT_HANDLER (17 R391). -/
def execFaultWithoutHandler (c : Nat) (slot : Nat) (s : State) : Out := .next (trapStep false c slot s)

/-! ## Promotion (02 R23, R46, R47; 16 R382) -/

/-- A starved wave of a class enters its level of R23, until its timer falls back to 0. -/
def promoteStep (cls limit c slot : Nat) (s : State) : State :=
  s.modWave c slot (fun w =>
    if !w.mgmt && w.pcls % 4 == cls && decide (w.starve ≥ limit) then { w with promoted := true } else w)

/-- STARVATION_PROMOTE_C (02 R47). -/
def execStarvationPromoteC (c : Nat) (slot : Nat) (s : State) : Out := .next (promoteStep 0 3072 c slot s)
/-- STARVATION_PROMOTE_P (02 R47). -/
def execStarvationPromoteP (c : Nat) (slot : Nat) (s : State) : Out := .next (promoteStep 1 61440 c slot s)

/-! ## Coupling deadlock (02 R28; 07 R176) -/

/-- The next instruction of a stream of a wave, with its words. -/
def State.peek (s : State) (c slot : Nat) (st : Stream) : Option (State × Instr × List Word) :=
  match s.focus c slot st with
  | none => none
  | some s' =>
    match s'.fetch with
    | .error _ => none
    | .ok ws => match decodeWords ws with | .ok (i, _) => some (s', i, ws) | .error _ => none

/-- Operand fields of the words of a lane instruction: d9, a9, b9, c9 of an extended form, where it has them. -/
def laneFields (i : Instr) (ws : List Word) : List Nat :=
  match ws with
  | _ :: w1 :: w2 :: _ =>
    let f := [bits w1.toNat 0 9, bits w1.toNat 9 9, bits w1.toNat 18 9]
    (match i with
     | .bdiv _ => [bits w1.toNat 0 9]
     | _ => if (headOf i.word0).len = 2#2 then [] else f ++ [bits w2.toNat 0 9])
  | _ => []

/-- The coupling queue that a lane instruction waits on: 0 LQ with no reserved entry, 1 DQ, 2 RQ (17 R384). -/
def laneWaits (w : Wave) (i : Instr) (ws : List Word) : Option Nat :=
  let f := laneFields i ws
  let brdq := match i with | .brdq _ => true | _ => false
  if f.contains 320 && w.lq.isEmpty then some 0
  else if (f.contains 321 || brdq) && w.dq.isEmpty then some 1
  else if f.head? == some 322 && decide (w.rq.length ≥ 8) then some 2
  else none

/-- The coupling queue that a lead instruction waits on. -/
def leadWaits (w : Wave) (i : Instr) : Option Nat :=
  let rq (l : List LeadIx) : Option Nat := if l.contains .rq && w.rq.isEmpty then some 2 else none
  let h := headOf i.word0
  let m := h.major.toNat
  let hi := h.hi.toNat
  match i with
  | .dqpush f => if w.dqFull then some 1 else rq [leadIx7 f.b.toNat f.lit.isSome]
  | .ldlq _ => if w.lqFull then some 0 else none
  | .sbrc f | .sloop f => if blPush f && w.dqFull then some 1 else none
  | .stsBM f => rq [leadIx7 f.d.toNat false]
  | _ =>
    if (m = 0x34 ∨ m = 0x35) ∧ (h.len = 0#2 ∨ h.len = 2#2) then
      rq [leadIx7 (bits hi 7 7) false, leadIx7 (bits hi 14 7) (h.len == 2#2)]
    else none

/-- The wait of a stream of a wave that may issue but for its queues. -/
def State.queueWait (s : State) (w : Wave) (st : Stream) : Option Nat :=
  if !w.streamOpen st s.timen then none
  else
    match s.peek w.core w.slot st with
    | none => none
    | some (s', i, ws) => match st with | .lead => leadWaits s'.w i | .lane => laneWaits s'.w i ws

/-- COUPLING DEADLOCK of a wave: the stream that takes the fault and its DETAIL (02 R28; 07 R176). -/
def State.deadlockOf (s : State) (w : Wave) : Option (Stream × Nat) :=
  if w.mgmt then none
  else
    match s.queueWait w .lead, s.queueWait w .lane with
    | some q, some _ => some (.lead, q <<< 11)
    | some q, none => if w.laneDone || w.laneHeld then some (.lead, (q <<< 11) + (1 <<< 13)) else none
    | none, some q => if w.leadDone then some (.lane, (q <<< 11) + (1 <<< 13)) else none
    | none, none => none

/-- The lanes that a condition's fault at an instruction reports: its active lanes. BDIV has no mask field. -/
def State.peekLanes (s : State) (i : Instr) (ws : List Word) : Nat :=
  match s.st, i with
  | .lead, _ => 0
  | .lane, .bdiv _ => s.w.exec
  | .lane, _ => match ws with | _ :: _ :: w2 :: _ => s.w.active (bits w2.toNat 13 3) | _ => s.w.exec

/-- A fault posted at the next instruction of a stream. -/
def State.faultAt (s : State) (c slot : Nat) (st : Stream) (cause detail : Nat) : State :=
  match s.peek c slot st with
  | some (s', i, ws) =>
    s.postTrap c slot
      { cause := cause, st := st, deferred := false, flanes := s'.peekLanes i ws, taddr := 0, tinfo := tinfoHead i.word0 + detail }
  | none => s

/-- COUPLING_DEADLOCK: the condition has held for 16 cycles (02 R28; 07 R176). -/
def couplingDeadlockStep (c slot : Nat) (s : State) : State :=
  match s.wave? c slot with
  | none => s
  | some w =>
    match s.deadlockOf w with
    | some (st, d) => if w.deadlock ≥ 16 then (s.modWave c slot (fun w => { w with deadlock := 0 })).faultAt c slot st causeDeadlock d else s
    | none => s

/-- COUPLING_DEADLOCK (02 R28). -/
def execCouplingDeadlock (c : Nat) (slot : Nat) (s : State) : Out := .next (couplingDeadlockStep c slot s)

/-! ## The wait limit (17 R390) -/

/-- The stream of a limited wait and its DETAIL. -/
def Park.limited (p : Park) : Option (Stream × Nat) :=
  match p with
  | .semwait st _ _ _ _ => some (st, 0)
  | .barwait st _ _ _ => some (st, 1)
  | .mwait _ _ => some (.lane, 2)
  | .vclaim _ _ _ => some (.lead, 3)
  | .consume _ => some (.lead, 4)
  | _ => none

/-- WAIT_LIMIT (17 R390): armed by a valid vector entry; the wait has no effect and leaves its lists, and a claim that stood
behind it may be served (02 R35). -/
def waitLimitStep (c slot : Nat) (s : State) : State :=
  match s.wave? c slot with
  | none => s
  | some w =>
    match w.status with
    | .parked p =>
      (match p.limited with
       | some (st, d) =>
         if bit (s.vector w causeLimit) 0 && decide (w.parkCount ≥ 2 ^ 20) && !w.stopped then
           let s := ((s.unwait c slot).modWave c slot (fun w => { w with status := .running, parkCount := 0 })).faultAt c slot st causeLimit (d <<< 11)
           s.serveClaims w.key c (s.claims w.key c)
         else s
       | none => s)
    | _ => s

/-- WAIT_LIMIT (17 R390). -/
def execWaitLimit (c : Nat) (slot : Nat) (s : State) : Out := .next (waitLimitStep c slot s)

end Sys2Proof.Machine
end

