-- ==== Sys2Proof/Machine/Save.lean ====
section
/-! DEFINITION. Saving a block and restoring it: the block image with its wave images and matrix records, BLOCK_SAVE and
BLOCK_RESTORE (02 R30; 04 R103 to R105; 11 R251; 12 R280, R281; 15 R341; 16 R380; 17 R394 to R396). -/
namespace Sys2Proof.Machine

/-! ## The wave image (04 R103, R104) -/

/-- Bytes filled up with zeros to a length. -/
def padTo (bs : List Byte) (n : Nat) : List Byte := bs ++ List.replicate (n - bs.length) 0#8

/-- Numbers as words of n bytes each. -/
def packed (n : Nat) (l : List Nat) : List Byte := l.flatMap (fun x => leBytes x n)

/-- The class counters, one byte each. -/
def Wave.counterBytes (w : Wave) : List Byte :=
  packed 1 ([OpCls.laneLd, .laneSt, .laneMx, .laneQo, .leadLd, .leadSt, .leadCp, .leadQo].map w.counter)

/-- The queue state word. -/
def Wave.queueWord (w : Wave) : Nat :=
  w.lq.length % 32 + maskOf ((w.lq.zipIdx.filter (fun p => p.1.filled)).map (fun p => p.2)) % 65536 * 32
    + w.dq.length % 32 * 2 ^ 21 + w.rq.length % 16 * 2 ^ 26

/-- The reissue descriptor of an LQ entry (11 R251). -/
def LqEntry.descriptor (e : LqEntry) (wide : Bool) : List Byte :=
  if e.filled then leBytes 0 16
  else leBytes (e.addr % 2 ^ 47) 8 ++ leBytes (wrapN e.stride 32) 4 ++ leBytes (e.size % 8 + 8 * b2n wide) 4

/-- A stack entry (07 R183). -/
def SEntry.bytes (e : SEntry) : List Byte := leBytes e.pc 8 ++ leBytes e.rpc 8 ++ leBytes e.mask 8

/-- Lanes of the LQ entries of a slot: those of slot 2i + 1 are lanes 32 to 63. -/
def Wave.lqBytes (w : Wave) (hi : Bool) : List Byte :=
  w.lq.flatMap (fun e => (List.range 32).flatMap (fun l => leBytes (e.data.getD (l + if hi then 32 else 0) 0#32).toNat 4))

/-- Lane registers of a slot. -/
def Wave.regBytes (w : Wave) (hi : Bool) : List Byte :=
  (List.range (8 * w.g)).flatMap (fun r => (List.range 32).flatMap (fun l => leBytes (w.getV r (l + if hi then 32 else 0)) 4))

/-- The image of a slot (04 R103). -/
def Wave.image (w : Wave) : List Byte :=
  let head :=
    packed 8 [w.leadPc, w.lanePc, w.exec] ++ packed 8 ((List.range 8).map w.getK) ++ packed 4 [w.wstat, w.rnd] ++ w.counterBytes
      ++ packed 8 [w.cyc] ++ packed 4 [w.tcause, w.tinfo] ++ packed 8 [w.flanes, w.tpclead, w.tpclane, w.taddr]
      ++ packed 4 [w.queueWord, w.dsn % 32 + w.spill % 65536 * 32] ++ packed 8 [w.helper] ++ packed 4 [w.waveid, w.role]
  padTo head 0x100 ++ padTo (w.lq.flatMap (fun e => e.descriptor (decide (w.width = 64)))) 256
    ++ padTo (w.stack.reverse.flatMap SEntry.bytes) 576 ++ padTo (w.dq.flatMap (fun x => leBytes x.toNat 4)) 64
    ++ padTo (w.rq.flatMap (fun x => leBytes x.toNat 8)) 128 ++ padTo (packed 8 ((List.range 64).map w.getS)) 0x300
    ++ padTo (w.lqBytes false) 2048 ++ w.regBytes false

/-- The image of slot 2i + 1 of a wave of width 64 (04 R104). -/
def Wave.imageHigh (w : Wave) : List Byte := padTo [] 0x800 ++ padTo (w.lqBytes true) 2048 ++ w.regBytes true

/-! ## The matrix record (12 R281) -/

/-- A batch entry. -/
def MBatch.bytes (b : MBatch) : List Byte := leBytes (b.num % 65536 + b.pending % 128 * 65536) 8 ++ packed 4 [b.nan, b.ovf]

/-- The descriptor of an abandoned entry; the open batch has number 0xFFFF. -/
def MEntry.descriptor (e : MEntry) (w : Wave) : List Byte :=
  let ws := encode e.instr
  let word (k : Nat) : Nat := (ws.getD k 0#32).toNat
  let b := if w.batches.any (fun x => x.num == e.batch) then e.batch else 0xFFFF
  packed 4 [word 0, word 1, word 2] ++ packed 4 [word 3, word 4] ++ leBytes e.mask 8 ++ leBytes b 2 ++ leBytes 0 2

/-- The matrix record of a wave with its abandoned entries. -/
def Wave.matrixRecord (w : Wave) (es : List MEntry) : List Byte :=
  leBytes (w.bseq % 65536 + w.batches.length % 32 * 2 ^ 16 + es.length % 128 * 2 ^ 21) 8 ++ packed 4 [w.open_.nan, w.open_.ovf]
    ++ w.batches.flatMap MBatch.bytes ++ es.flatMap (fun e => e.descriptor w)

/-! ## The block image (17 R395) -/

/-- Records in the pages of a wave's windows: those placed with it before its first CONSUME. -/
def Wave.winRecs (w : Wave) : Nat × Nat := if w.winFirst then (w.winRecs0, w.winRecs1) else (w.nrec, 0)

/-- The window word. -/
def Wave.windowWord (w : Wave) : Nat := w.winNext % 2 + 2 * b2n w.winFirst + 4 * (w.winRecs.1 % 128) + 512 * (w.winRecs.2 % 128)

/-- A wave area, filled up to a multiple of 1 KiB. -/
def SavedWave.area (x : SavedWave) (es : List MEntry) : List Byte :=
  let w := x.wave
  let bs := w.image ++ (if w.width = 64 then w.imageHigh else []) ++ w.matrixRecord es ++ leBytes w.windowWord 16 ++ x.win0 ++ x.win1
  padTo bs (1024 * ceilDiv bs.length 1024)

/-- A barrier record. -/
def Bar.bytes (b : Bar) : List Byte := leBytes (b.arr + b.exp * 2 ^ 16 + b.phase * 2 ^ 32 + b.pend * 2 ^ 40) 8 ++ leBytes b.tag 8
/-- A semaphore record. -/
def Sem.bytes (x : Sem) : List Byte := leBytes (x.count + x.tag * 2 ^ 32) 8

/-- A core segment. -/
def CoreSeg.bytes (g : CoreSeg) (scratch tiles : Nat) : List Byte :=
  padTo (g.sems.flatMap Sem.bytes) 512 ++ padTo (g.bars.flatMap Bar.bytes) 512
    ++ scratchBytes g.scratch 0 (256 * ceilDiv scratch 256)
    ++ (List.range tiles).flatMap (fun t => (List.range 128).flatMap (fun n => leBytes (g.tileAt t n) 4))

/-- A range descriptor (02 R38). -/
def RDesc.bytes (d : RDesc) : List Byte :=
  packed 8 [d.next, d.hi] ++ packed 4 [d.grain, d.family + d.cluster * 64 + b2n d.abt * 2048 + b2n d.valid * 4096] ++ leBytes 0 8

/-- Wave areas one after the other, with their byte offsets from the image. -/
def areaOffsets (at_ : Nat) (l : List (List Byte)) : List Nat :=
  match l with
  | [] => []
  | a :: rest => at_ :: areaOffsets (at_ + a.length) rest

/-- THE BLOCK IMAGE (R395): the segments fill up to 1 KiB, so that every wave area is aligned to it. -/
def Block.image (b : Block) (scratch tiles : Nat) (desc : List Byte) : List Byte :=
  let bare := b.segs.flatMap (fun g => g.bytes scratch tiles)
  let segs := padTo bare (1024 * ceilDiv bare.length 1024)
  let areas := b.saved.map (fun x =>
    x.area (b.abandoned.filter (fun e => e.core == x.wave.core && e.slot == x.wave.slot)))
  let faulted := match b.status with | .saving f _ | .saved f _ => f | _ => false
  let x := 0x1000 + 1024 * ceilDiv (8 * b.n) 1024
  let head :=
    leBytes (b.key.blk + b.key.node * 2 ^ 32 + (b.k - 1) % 32 * 2 ^ 48 + b2n faulted * 2 ^ 53) 8
      ++ leBytes ((b.n - 1) % 2048 + b2n (decide (b.width = 64)) * 2 ^ 11 + b.r % 2 ^ 18 * 2 ^ 16 + b.depth % 256 * 2 ^ 34) 8
  padTo head 0x40 ++ padTo (packed 2 (b.segs.map (fun g => g.reserve))) 64 ++ padTo desc 128
    ++ padTo (b.edges.flatMap (fun e => leBytes e.1 4 ++ leBytes e.2 4)) 2048 ++ padTo (b.spanBars.flatMap Bar.bytes) 0x700
    ++ padTo (packed 8 (areaOffsets (x + segs.length) areas)) (x - 0x1000) ++ segs ++ areas.flatten

/-! ## Room for an image (15 R341) -/

/-- An area is free of the images of a pool. -/
def poolFree (used : List (Nat × Nat)) (a n : Nat) : Bool := used.all (fun u => decide (a + n ≤ u.1 ∨ u.1 + u.2 ≤ a))

/-- The lowest place in a save pool for an image: its base, or the end of another image. -/
def poolPlace (l : Layout) (used : List (Nat × Nat)) (n : Nat) : Option Nat :=
  let at_ := (sortBy id (l.pool :: used.map (fun u => u.1 + u.2)))
  at_.find? (fun a => decide (a + n ≤ l.pool + l.poolSize) && poolFree used a n)

/-! ## BLOCK_SAVE (17 R394; 04 R105; 12 R280; 16 R380) -/

/-- A wave of a block being saved leaves its wait: a satisfied one has ended, any other issues again after the restore; a
SLEEP has ended, and a posted fault is raised again (R389, R404). -/
def Wave.leaveWait (w : Wave) : Wave :=
  let w := match w.status with
    | .parked (.released _ _) => { w.wake with stopped := w.stopped }
    | .parked _ => { w with status := .running }
    | _ => w
  { w with parkCount := 0, pendTrap := none, yieldLead := 0, yieldLane := 0, sleepLead := none, sleepLane := none, deadlock := 0 }

/-- The waves of a block. -/
def State.wavesOf (s : State) (k : BKey) : List Wave :=
  sortBy (fun w => w.waveid) (s.allWaves.filter (fun w => decide (w.key = k) && !w.mgmt))

/-- Waves leave their waits and the lists of the objects they waited for. -/
def State.leaveWaits (s : State) (l : List Wave) : State :=
  match l with
  | [] => s
  | w :: rest =>
    let me (p : Nat × Nat) : Bool := p == (w.core, w.slot)
    let s : State := { s with mass := (s.mass.map (fun (m : MassRelease) =>
      { m with waves := m.waves.filter (fun p => !me p) })).filter (fun m => m.waves != []) }
    ((s.unwait w.core w.slot).modWave w.core w.slot Wave.leaveWait).leaveWaits rest

/-- ABANDONMENT (12 R280): the entries of a block that have not started leave their FIFOs, kept in their order. The far half
of an MPAIR stays and runs, even behind an abandoned entry of its tile, which runs at the restore: DESIGN CHOICE (entry 44;
R262 has the entries of a tile start in order). -/
def State.abandon (s : State) (k : BKey) (cores : List Nat) : State :=
  match cores with
  | [] => s
  | c :: rest =>
    let gone (e : MEntry) : Bool := decide (e.key = k ∧ e.st = .waiting) && !e.far
    let es := (s.core c).fifo.filter gone
    ((s.modCore c (fun x => { x with fifo := x.fifo.filter (fun e => !gone e) })).modBlock k
      (fun b => { b with abandoned := b.abandoned ++ es })).abandon k rest

/-- An operation that a save does not wait for: an LDLQ read not returned, or an abandoned entry (04 R105). -/
def Op.kept (o : Op) (abandoned : List MEntry) : Bool :=
  match o.dst with
  | .lq _ _ => true
  | _ => abandoned.any (fun e => e.id == o.id)

/-- A wave of a block may be saved: nothing of it is outstanding but what the image records. -/
def Wave.savable (w : Wave) (abandoned : List MEntry) : Bool :=
  w.holding.isNone && w.ops.all (fun o => (o.done && decide (o.leftAll = 0)) || o.kept abandoned)

/-- Window page of a wave as its records stand in it. -/
def State.windowBytes (s : State) (w : Wave) (n : Node) (page recs : Nat) : List Byte :=
  memBytes s.mem (w.winBase + windowPage * page) (recs * n.recsz)

/-- A wave as it is kept. -/
def State.savedWave (s : State) (n : Node) (w : Wave) : SavedWave :=
  { wave := { w with dirty := [], starve := 0, stopped := true }, win0 := s.windowBytes w n 0 w.winRecs.1,
    win1 := s.windowBytes w n 1 w.winRecs.2, spill := memBytes s.mem w.spillBase (24 * w.spill) }

/-- A SAVED BLOCK written to its image, and off its cores (R394 steps 3 and 4). -/
def State.writeImage (s : State) (b : Block) (n : Node) (faulted : Bool) (image : Nat) (bs : List Byte) : State :=
  let s : State := { s with mem := memWrite s.mem image bs }
  let noTakes (g : CoreSeg) : CoreSeg := { g with sems := g.sems.map (fun x => { x with takes := [] }) }
  ((s.dropWaves b.key).modBlock b.key (fun x =>
    { x with saved := (s.wavesOf b.key).map (s.savedWave n), segs := x.segs.map noTakes, status := .saved faulted image })).drainCheck

/-- The range descriptor of a block as its image holds it. -/
def State.descBytes (s : State) (b : Block) : List Byte :=
  match b.desc with
  | some (g, i) => ((s.cluster g).descs.getD i RDesc.empty).bytes
  | none => []

/-- BLOCK_SAVE of block i: its waits are left and its waiting entries abandoned; once nothing else is outstanding and its
image has room, it is saved (R394). -/
def blockSaveStep (i : Nat) (s : State) : State :=
  match s.blocks[i]? with
  | none => s
  | some b0 =>
    match b0.status, s.node? b0.key.node with
    | .saving faulted place, some n =>
      let s := (s.leaveWaits (s.wavesOf b0.key)).abandon b0.key (b0.segs.map (fun g => g.core))
      let b := (s.block? b0.key).getD b0
      let ws := s.wavesOf b.key
      let busy := s.cores.any (fun c => c.fifo.any (fun e => decide (e.key = b.key)))
      if busy || !ws.all (fun w => w.savable b.abandoned) then s
      else
        let bs := { b with saved := ws.map (s.savedWave n) }.image n.hdr.scratch n.hdr.tiles (s.descBytes b)
        let size := 4096 * ceilDiv bs.length 4096
        match place with
        | some a => s.writeImage b n faulted a bs
        | none =>
          match poolPlace (s.layout b.die) (s.die b.die).pool size with
          | some a => (s.modDie b.die (fun d => { d with pool := d.pool ++ [(a, size)] })).writeImage b n faulted a bs
          | none => s
    | _, _ => s

/-- BLOCK_SAVE (17 R394). -/
def execBlockSave (i : Nat) (s : State) : Out := .next (blockSaveStep i s)

/-! ## BLOCK_RESTORE (17 R394 to R396; 02 R30; 04 R105; 12 R280; 16 R380) -/

/-- An image of a pool freed. -/
def State.freeImage (s : State) (die image : Nat) : State :=
  s.modDie die (fun d => { d with pool := d.pool.filter (fun u => u.1 != image) })

/-- Every sector of a wave's registers: a restore writes them all (08 R190). -/
def Wave.allSectors (w : Wave) : List Nat := (List.range (8 * w.g)).filter (fun x => decide (w.width = 64) || x % 2 == 0)

/-- Waves restored one by one, each on the lowest free slot of its core, with its windows and its spilled entries. -/
def State.restoreWaves (s : State) (key : BKey) (n : Node) (span : List Nat) (l : List SavedWave) : State :=
  match l with
  | [] => s
  | x :: rest =>
    let j := x.wave.waveid / max 1 (ceilDiv n.waves span.length)
    let core := span.getD j 0
    let slot := ((s.freeSlots core key.node n).head?).getD 0
    let now := s.cycleOf core
    let w : Wave :=
      { x.wave with
        core := core, slot := slot, j := j, sect := x.wave.allSectors, poolpart := n.poolpart (n.wavesOn span.length j), stopped := false,
        winBase := s.winBaseOf core slot, spillBase := s.spillBaseOf core slot, ageLead := now, ageLane := now }
    let s : State := { s with waves := insertWave w s.waves }
    let s := if n.recsz = 0 then s
      else (s.writeWindow core w.winBase x.win0).writeWindow core (w.winBase + windowPage) x.win1
    ({ s with mem := memWrite s.mem w.spillBase x.spill } : State).restoreWaves key n span rest

/-- The reads of one LDLQ entry of the wave in focus issued again (11 R251), under a new operation. -/
def State.reissueLq (s : State) (e : LqEntry) : R State := do
  let n := sizeBytes e.size
  let info := match s.w.ops.find? (fun o => o.id == e.id) with | some o => o.tinfo | none => 0
  let l ← s.checkAccess true 0 e.size n (lqLanes s.w e.addr e.stride)
  let s := s.modW (fun w => { w with ops := w.ops.filter (fun o => o.id != e.id) })
  let id := s.nextId
  let s := s.postLoad .leadLd info n (.lq id e.size) l
  .ok (s.modW (fun w => { w with lq := w.lq.map (fun (x : LqEntry) => if x.id = e.id then { x with id := id } else x) }))

/-- Marked LDLQ reads of the wave in focus issued again, in LQ order. -/
def State.reissueAll (s : State) (es : List LqEntry) : R State :=
  match es with
  | [] => .ok s
  | e :: rest =>
    match s.reissueLq e with
    | .ok s' => s'.reissueAll rest
    | .error x => .error x

/-- The marked reads of every wave of a list. A read that does not translate holds the restore (entry 24). -/
def State.reissueWaves (s : State) (l : List Wave) : R State :=
  match l with
  | [] => .ok s
  | w :: rest =>
    match s.focus w.core w.slot .lead with
    | none => s.reissueWaves rest
    | some s' =>
      let todo := s'.w.lq.filter (fun e => !e.filled)
      let s' := s'.modW (fun w => { w with ops := w.ops.filter (fun o =>
        match o.dst with | .lq _ _ => todo.any (fun e => e.id == o.id) | _ => true) })
      match s'.reissueAll todo with
      | .ok s'' => s''.reissueWaves rest
      | .error x => .error x

/-- Abandoned entries posted again (12 R280): each to the FIFO of its wave's new core. -/
def State.repost (s : State) (key : BKey) (old : List SavedWave) (es : List MEntry) : State :=
  match es with
  | [] => s
  | e :: rest =>
    match old.find? (fun x => x.wave.core == e.core && x.wave.slot == e.slot) with
    | none => s.repost key old rest
    | some x =>
      match (s.wavesOf key).find? (fun w => w.waveid == x.wave.waveid) with
      | none => s.repost key old rest
      | some w =>
        (s.modCore w.core (fun c => { c with fifo := c.fifo ++ [{ e with core := w.core, slot := w.slot }] })).repost key old rest

/-- The FIFOs of a block's new cores have room for its abandoned entries (12 R256, R280). -/
def State.repostRoom (s : State) (key : BKey) (old : List SavedWave) (es : List MEntry) (span : List Nat) : Bool :=
  let coming (c : Nat) : Nat := (es.filter (fun e =>
    match old.find? (fun x => x.wave.core == e.core && x.wave.slot == e.slot) with
    | some x => (s.wavesOf key).any (fun w => w.waveid == x.wave.waveid && w.core == c)
    | none => false)).length
  span.all (fun c => decide ((s.core c).fifo.length + coming c ≤ 64))

/-- Waits of other blocks parked on a barrier whose PHASE is not the one they wait out complete (16 R370, R377). -/
def State.judgeBar (s : State) (k : BKey) (j n : Nat) : State :=
  match s.bar? k j n with
  | none => s
  | some x =>
    let past := s.allWaves.filterMap (fun w =>
      match w.status with
      | .parked (.barwait _ _ o p) => if o = .bar k j n ∧ p ≠ x.phase then some (w.core, w.slot) else none
      | _ => none)
    (s.modBar k j n (fun x => { x with waiters := x.waiters.filter (fun p => !past.contains p) })).wakeAll past

/-- Waits of other blocks on the objects of a restored block judged afresh (R395): semaphores with their take queues, in
ascending core and slot, then barriers. -/
def State.judgeBlock (s : State) (k : BKey) (objs : List (Nat × Nat)) : State :=
  match objs with
  | [] => s
  | (j, n) :: rest =>
    let takers := s.allWaves.filterMap (fun w =>
      match w.status with
      | .parked (.semwait _ _ o _ true) => if o = .sem k j n then some (w.core, w.slot) else none
      | _ => none)
    let takers := sortBy (fun p => 64 * p.1 + p.2) takers
    (((s.modSem k j n (fun x => { x with takes := takers })).judgeSem k j n).judgeBar k j n).judgeBlock k rest

/-- The objects of a block by core index and number. -/
def Block.objects (b : Block) : List (Nat × Nat) :=
  b.segs.zipIdx.flatMap (fun p => (List.range (max p.1.sems.length p.1.bars.length)).map (fun n => (p.2, n)))
    ++ (List.range b.spanBars.length).map (fun n => (0, 32 + n))

/-- The waves of a block with `mx` rebuilt: only their abandoned entries count (12 R280; 16 R365). -/
def State.onlyReposted (s : State) (key : BKey) (es : List MEntry) : State :=
  let keep (o : Op) : Bool := decide (o.cls ≠ .laneMx) || es.any (fun e => e.id == o.id)
  { s with waves := s.waves.map (fun (w : Wave) => if w.key = key then { w with ops := w.ops.filter keep } else w) }

/-- A BLOCK RESTORED on a span (R395, R396): it waits for room in the matrix FIFOs; its acquires come before its reads are
issued again. -/
def State.restoreOn (s : State) (b : Block) (n : Node) (image : Nat) (span : List Nat) : R State :=
  let place (x : Block) : Block :=
    { x with
      core0 := span.headD 0, saved := [], abandoned := [], vacate := false
      status := if b.saved.any (fun w => decide (w.wave.status = .reserved)) then .reserved else .running
      segs := x.segs.zipIdx.map (fun p =>
        { p.1 with core := span.getD p.2 0, ssect := List.range (ceilDiv n.hdr.scratch 256), tsect := List.range (2 * n.hdr.tiles) }) }
  let s := ((s.freeImage b.die image).restoreWaves b.key n span b.saved).modBlock b.key place
  if !s.repostRoom b.key b.saved b.abandoned span then .error .stall
  else
    match (s.acquireSpan span).reissueWaves (s.wavesOf b.key) with
    | .error x => .error x
    | .ok s => .ok (((s.onlyReposted b.key b.abandoned).repost b.key b.saved b.abandoned).judgeBlock b.key b.objects)

/-- A saved block of its node on its die goes before a saved block: one with a lower number (R396). -/
def State.behindSaved (s : State) (b : Block) : Bool :=
  s.blocks.any (fun x =>
    x.waits && x.die == b.die && x.key.node == b.key.node
      && decide (x.key.grid < b.key.grid ∨ (x.key.grid = b.key.grid ∧ x.key.blk < b.key.blk)))

/-- The saved blocks that are restored with a block: itself, or the blocks of its co-operating group (02 R46). -/
def State.restoreGroup (s : State) (b : Block) (n : Node) : List Block :=
  let g := n.group
  sortBy (fun x => x.key.blk) (s.blocks.filter (fun x =>
    x.waits && decide (x.key.node = b.key.node ∧ x.key.grid = b.key.grid ∧ x.key.blk / g = b.key.blk / g)))

/-- Blocks restored one after the other, all or none. -/
def State.restoreAll (s : State) (n : Node) (l : List Block) : R State :=
  match l with
  | [] => .ok s
  | b :: rest =>
    match b.status, s.restoreSpan b with
    | .saved _ image, some span =>
      (match s.restoreOn b n image span with
       | .ok s' => s'.restoreAll n rest
       | .error x => .error x)
    | _, _ => .error .stall

/-- BLOCK_RESTORE of block i (R395, R396): a block of class W leaves its cores to a reservation that is due (02 R48). -/
def blockRestoreStep (i : Nat) (s : State) : State :=
  match s.blocks[i]? with
  | none => s
  | some b =>
    match s.node? b.key.node with
    | none => s
    | some n =>
      if !b.waits || s.behindSaved b || (b.weak && s.reservationDue b.die) then s
      else
        (match s.restoreAll n (s.restoreGroup b n) with
         | .ok s' => s'
         | .error (.miss va _ _) => s.reportMiss va 0 b.key.node b.core0
         | .error _ => s)

/-- BLOCK_RESTORE (17 R395). -/
def execBlockRestore (i : Nat) (s : State) : Out := .next (blockRestoreStep i s)

end Sys2Proof.Machine
end

