-- ==== Sys2Proof/Machine/Nodes.lean ====
section
/-! DEFINITION. The rasteriser, ray traversal and scanout nodes (13 R306, R308 to R311, R315, R316; 15 R361 to R364). -/
namespace Sys2Proof.Machine

/-! ## FP32 values as integers

A finite FP32 value times 2^149 is an integer: sums, products and comparisons of coordinates are exact. -/

/-- A finite FP32 value times 2^149. -/
def fixOf (b : Nat) : Int :=
  match valueOfBits .f32 b with
  | .fin neg n d => sgn neg (n * (2 ^ 149 / d))
  | _ => 0

/-- A pattern is a NaN or an infinity. -/
def notFinite (b : Nat) : Bool := isNaNBits .f32 b || isInfBits .f32 b

/-- A quotient rounded once to FP32, RNE. -/
def ratF32 (n d : Int) : Nat :=
  roundFin .f32 .rne false 0 (decide ((n < 0) ≠ (d < 0)) && decide (n ≠ 0)) n.natAbs d.natAbs

/-! ## The rasteriser (R308, R309) -/

/-- A point in the plane with its depth, in units of 2^-149. -/
structure Vertex where
  x : Int
  y : Int
  z : Int
deriving DecidableEq, Repr

/-- Field k of 32 bits of a record. -/
def recWord (bs : List Byte) (k : Nat) : Nat := leValue ((bs.drop (4 * k)).take 4)
/-- Field k of 16 bits of a record. -/
def recHalf (bs : List Byte) (k : Nat) : Nat := leValue ((bs.drop (2 * k)).take 2)

/-- Vertex k of a triangle. -/
def vertexOf (bs : List Byte) (k : Nat) : Vertex :=
  { x := fixOf (recWord bs (3 * k)), y := fixOf (recWord bs (3 * k + 1)), z := fixOf (recWord bs (3 * k + 2)) }

/-- The edge function of a and b at a point (R308). -/
def edgeFn (a b : Vertex) (px py : Int) : Int := (b.x - a.x) * (py - a.y) - (b.y - a.y) * (px - a.x)

/-- A top edge, with the interior below it, or a left edge, with the interior to its right; `s` is the sign of the doubled
area. -/
def topLeft (s : Int) (a b : Vertex) : Bool :=
  if a.y = b.y then decide (s * (b.x - a.x) > 0) else decide (s * (b.y - a.y) < 0)

/-- A pixel's centre in units of 2^-149. -/
def centre (x : Nat) : Int := (2 * x + 1 : Nat) * 2 ^ 148

/-- What a triangle record gives: its vertices, doubled area with its sign, and the record. -/
structure Tri where
  v0 : Vertex
  v1 : Vertex
  v2 : Vertex
  area : Int
  bs : List Byte
deriving DecidableEq, Repr

/-- The sign of a triangle's area. -/
def Tri.sign (t : Tri) : Int := if t.area < 0 then -1 else 1

/-- A triangle of a record. -/
def triOf (bs : List Byte) : Tri :=
  let v0 := vertexOf bs 0
  let v1 := vertexOf bs 1
  let v2 := vertexOf bs 2
  { v0 := v0, v1 := v1, v2 := v2, area := edgeFn v0 v1 v2.x v2.y, bs := bs }

/-- An edge admits a point. -/
def Tri.inside (t : Tri) (a b : Vertex) (px py : Int) : Bool :=
  let e := t.sign * edgeFn a b px py
  decide (e > 0) || (decide (e = 0) && topLeft t.sign a b)

/-- A pixel is covered (R308). -/
def Tri.covers (t : Tri) (x y : Nat) : Bool :=
  let px := centre x
  let py := centre y
  decide (recHalf t.bs 20 ≤ x ∧ recHalf t.bs 21 ≤ y ∧ x < recHalf t.bs 22 ∧ y < recHalf t.bs 23)
    && t.inside t.v0 t.v1 px py && t.inside t.v1 t.v2 px py && t.inside t.v2 t.v0 px py

/-- The triangle is of zero area or of a culled facing: a positive doubled area is counter-clockwise, which is the front
unless FRONTCW (R308; entry 26). -/
def Tri.culled (t : Tri) : Bool :=
  let flags := recWord t.bs 12
  let front := decide (t.area > 0) != bit flags 2
  decide (t.area = 0) || (bit flags 0 && !front) || (bit flags 1 && front)

/-- The pixel record of a pixel (R309). -/
def Tri.pixel (t : Tri) (x y : Nat) : List Byte :=
  let px := centre x
  let py := centre y
  let e1 := edgeFn t.v2 t.v0 px py
  let e2 := edgeFn t.v0 t.v1 px py
  let z := t.v0.z * t.area + e1 * (t.v1.z - t.v0.z) + e2 * (t.v2.z - t.v0.z)
  leBytes (x / 8) 2 ++ leBytes (y / 8) 2 ++ leBytes x 2 ++ leBytes y 2 ++ leBytes (b2n (!t.covers x y)) 4
    ++ leBytes (recWord t.bs 9) 4 ++ leBytes (ratF32 e1 t.area) 4 ++ leBytes (ratF32 e2 t.area) 4
    ++ leBytes (ratF32 z (t.area * 2 ^ 149)) 4 ++ leBytes (recWord t.bs 14) 4

/-- The pixels of a quad: x first, then y (R309, 06 R157). -/
def quadAt (qx qy : Nat) : List (Nat × Nat) := [(2 * qx, 2 * qy), (2 * qx + 1, 2 * qy), (2 * qx, 2 * qy + 1), (2 * qx + 1, 2 * qy + 1)]

/-- Numbers from lo to below hi. -/
def fromTo (lo hi : Nat) : List Nat := (List.range (hi - lo)).map (fun i => lo + i)

/-- The range of pixels, along one axis, between the least and the greatest of three coordinates and inside a scissor. -/
def pixelSpan (a b c : Int) (lo hi : Nat) : Nat × Nat :=
  let least := min a (min b c)
  let most := max a (max b c)
  (max lo (least / 2 ^ 149).toNat, min hi ((most / 2 ^ 149).toNat + 1))

/-- The pixel records of a triangle, quad by quad, row by row. -/
def Tri.pixels (t : Tri) : List (List Byte) :=
  let (x0, x1) := pixelSpan t.v0.x t.v1.x t.v2.x (recHalf t.bs 20) (recHalf t.bs 22)
  let (y0, y1) := pixelSpan t.v0.y t.v1.y t.v2.y (recHalf t.bs 21) (recHalf t.bs 23)
  (fromTo (y0 / 2) ((y1 + 1) / 2)).flatMap (fun qy =>
    (fromTo (x0 / 2) ((x1 + 1) / 2)).flatMap (fun qx =>
      let q := quadAt qx qy
      if q.any (fun p => t.covers p.1 p.2) then q.map (fun p => t.pixel p.1 p.2) else []))

/-- Counts of records that an edge's allowance refuses (R293). -/
def State.countRefused (s : State) (node n : Nat) : State :=
  if n = 0 then s else s.setStatus node (fun x => { x with overrun := sat16 (x.overrun + n) })

/-- RASTERISE_TRIANGLE (R308, R309): whole quads within the fan-out of the record's edge are produced; those beyond it are
refused as R293 refuses a block's (entry 26). -/
def rasteriseStep (die node : Nat) (s : State) : State :=
  match s.node? node with
  | none => s
  | some n =>
    if n.kind ≠ kindRaster then s
    else
      match s.takeRecord die node with
      | none => s
      | some (s', e) =>
        let edge := bits (recWord e.bytes 12) 8 8
        if (List.range 9).any (fun k => notFinite (recWord e.bytes k)) then
          ((s'.countOverrun node).nodeOutput die node edge []).drainCheck
        else
          let t := triOf e.bytes
          let all := if t.culled then [] else t.pixels
          let room := match n.edges[edge]? with | some e => e.fanout | none => 0
          let keep := min all.length room / 4 * 4
          ((s'.countRefused node (all.length - keep)).nodeOutput die node edge (all.take keep)).drainCheck

/-- RASTERISE_TRIANGLE (R308). -/
def execRasteriseTriangle (die : Nat) (node : Nat) (s : State) : Out := .next (rasteriseStep die node s)

/-! ## Ray traversal (R310, R311, R361 to R364) -/

/-- A vector in units of 2^-149. -/
structure Vec where
  x : Int
  y : Int
  z : Int
deriving DecidableEq, Repr

/-- Difference. -/
def Vec.sub (a b : Vec) : Vec := { x := a.x - b.x, y := a.y - b.y, z := a.z - b.z }
/-- Scalar product. -/
def Vec.dot (a b : Vec) : Int := a.x * b.x + a.y * b.y + a.z * b.z
/-- Vector product. -/
def Vec.cross (a b : Vec) : Vec :=
  { x := a.y * b.z - a.z * b.y, y := a.z * b.x - a.x * b.z, z := a.x * b.y - a.y * b.x }

/-- Three FP32 fields as a vector. -/
def vecOf (bs : List Byte) (k : Nat) : Vec :=
  { x := fixOf (recWord bs k), y := fixOf (recWord bs (k + 1)), z := fixOf (recWord bs (k + 2)) }

/-- An exact quotient with a denominator that is not negative; denominator 0 stands for an infinity. -/
structure Quot where
  n : Int
  d : Int
deriving DecidableEq, Repr

/-- A quotient brought to a positive denominator. -/
def quotOf (n d : Int) : Quot := if d < 0 then { n := -n, d := -d } else { n := n, d := d }

/-- a ≤ b. -/
def Quot.le (a b : Quot) : Bool :=
  if a.d = 0 ∧ b.d = 0 then decide (a.n ≤ b.n) else decide (a.n * b.d ≤ b.n * a.d)
/-- a < b. -/
def Quot.lt (a b : Quot) : Bool := !b.le a
/-- The greater. -/
def Quot.max (a b : Quot) : Quot := if a.le b then b else a
/-- The smaller. -/
def Quot.min (a b : Quot) : Quot := if a.le b then a else b

/-- An FP32 pattern, not a NaN, as a quotient. -/
def quotBits (b : Nat) : Quot :=
  if isInfBits .f32 b then { n := if signOfBits .f32 b then -1 else 1, d := 0 } else { n := fixOf b, d := 2 ^ 149 }

/-- A ray (R310). -/
structure Ray where
  o : Vec
  d : Vec
  tmin : Quot
  tmax : Quot
  root : Nat
  any : Bool
  cullb : Bool
deriving DecidableEq, Repr

/-- The ray of a record. -/
def rayOf (bs : List Byte) : Ray :=
  { o := vecOf bs 0, d := vecOf bs 3, tmin := quotBits (recWord bs 6), tmax := quotBits (recWord bs 7),
    root := leValue ((bs.drop 32).take 8), any := bit (recWord bs 11) 0, cullb := bit (recWord bs 11) 1 }

/-- The ray is invalid (R364). -/
def rayBad (bs : List Byte) : Bool :=
  let r := rayOf bs
  (List.range 8).any (fun k => isNaNBits .f32 (recWord bs k))
    || (decide (r.d = { x := 0, y := 0, z := 0 }) && !(List.range 3).any (fun k => isInfBits .f32 (recWord bs (3 + k))))
    || r.tmax.lt r.tmin

/-- A component of the origin or the direction is infinite: the manual states no result (entry 8). -/
def rayOpen (bs : List Byte) : Bool := (List.range 6).any (fun k => isInfBits .f32 (recWord bs k))

/-- A hit found: t, u and v, the triangle and its place. -/
structure Hit where
  t : Quot
  u : Quot
  v : Quot
  prim : Nat
  /-- byte offset of the leaf from ASPTR, and of the triangle -/
  leaf : Nat
  at_ : Nat
deriving DecidableEq, Repr

/-- How a traversal ends before its result. -/
inductive RayEnd where
  /-- HIT 2 -/
  | invalid
  /-- the structure holds a number for which the manual states no result -/
  | open_
  | miss (va : Nat)
  | wait
deriving DecidableEq, Repr

/-- A traversal under way: the machine, whose ranges a read may fold, and the best hit. -/
abbrev RayR := Except RayEnd (State × Option Hit)

/-- Bytes of the structure (R361, R364). -/
def State.rayRead (s : State) (core va n : Nat) : Except RayEnd (State × List Byte) :=
  match s.jobRead core (lineParts va n) with
  | .ok x => .ok x
  | .error (.miss va) => .error (.miss va)
  | .error .wait => .error .wait
  | .error (.fault _ _ _) => .error .invalid

/-- The interval of one axis of a box: none when it contributes nothing (R363). -/
def axisSpan (lo hi o d : Int) : Option (Quot × Quot) :=
  if d = 0 then
    (if lo ≤ o ∧ o ≤ hi then some ({ n := -1, d := 0 }, { n := 1, d := 0 }) else none)
  else
    let a := quotOf (lo - o) d
    let b := quotOf (hi - o) d
    some (a.min b, a.max b)

/-- t_enter of a child's box, when the box is hit (R361, R363). -/
def boxEnter (r : Ray) (bs : List Byte) (i : Nat) : Option Quot :=
  let q (k : Nat) : Nat := (bs.getD (56 + 6 * i + k) 0#8).toNat
  let exp (k : Nat) : Nat := (bs.getD (12 + k) 0#8).toNat
  let org := vecOf bs 0
  let side (o : Int) (k v : Nat) : Int := o + (v * 2 ^ (exp k + 22) : Nat)
  if q 0 > q 3 ∨ q 1 > q 4 ∨ q 2 > q 5 then none
  else
    match axisSpan (side org.x 0 (q 0)) (side org.x 0 (q 3)) r.o.x r.d.x,
      axisSpan (side org.y 1 (q 1)) (side org.y 1 (q 4)) r.o.y r.d.y,
      axisSpan (side org.z 2 (q 2)) (side org.z 2 (q 5)) r.o.z r.d.z with
    | some x, some y, some z =>
      let enter := (x.1.max y.1).max z.1
      let exit_ := (x.2.min y.2).min z.2
      if enter.le exit_ && r.tmin.le exit_ && enter.le r.tmax then some enter else none
    | _, _, _ => none

/-- The offset of a child in bytes. -/
def childOff (bs : List Byte) (i : Nat) : Nat := 16 * leValue ((bs.drop (24 + 4 * i)).take 4)
/-- Child i is a leaf. -/
def childLeaf (bs : List Byte) (i : Nat) : Bool := bit (leValue ((bs.drop 16).take 1)) i
/-- Triangles of leaf child i. -/
def childCount (bs : List Byte) (i : Nat) : Nat := bits (leValue ((bs.drop 20).take 4)) (4 * i) 4
/-- Child i is present. -/
def childThere (bs : List Byte) (i : Nat) : Bool := bit (leValue ((bs.drop 15).take 1)) i

/-- A visited box node that R364 refuses. -/
def nodeBad (bs : List Byte) : Bool :=
  (List.range 3).any (fun k => bs.getD (12 + k) 0#8 == 255#8)
    || leValue ((bs.drop 17).take 3) != 0 || leValue ((bs.drop 104).take 24) != 0
    || (List.range 8).any (fun i =>
        childThere bs i && (if childLeaf bs i then childCount bs i == 0 else childOff bs i % 128 != 0))

/-- A child put among those hit by ascending t_enter, equals in ascending index. -/
def insertChild (e : Quot × Nat) (l : List (Quot × Nat)) : List (Quot × Nat) :=
  match l with
  | [] => [e]
  | x :: rest => if e.1.lt x.1 then e :: x :: rest else x :: insertChild e rest

/-- The children that are hit, in the order visited (R364). -/
def hitChildren (r : Ray) (bs : List Byte) : List Nat :=
  let hit := (List.range 8).filterMap (fun i => if childThere bs i then (boxEnter r bs i).map (fun t => (t, i)) else none)
  (hit.foldl (fun acc e => insertChild e acc) []).map (fun e => e.2)

/-- The better of two hits: the least t, then the lower triangle address (R364). -/
def betterHit (best : Option Hit) (h : Hit) : Option Hit :=
  match best with
  | none => some h
  | some b => if h.t.lt b.t || (!b.t.lt h.t && decide (h.at_ < b.at_)) then some h else some b

/-- A triangle tested (R310, R363): u is the weight of vertex 1 and v that of vertex 2. -/
def triangleHit (r : Ray) (bs : List Byte) (leaf at_ : Nat) : Option Hit :=
  let p0 := vecOf bs 0
  let e1 := (vecOf bs 3).sub p0
  let e2 := (vecOf bs 6).sub p0
  let nd := (e1.cross e2).dot r.d
  if nd = 0 ∨ (nd > 0 ∧ r.cullb = true) then none
  else
    let tv := r.o.sub p0
    let u := quotOf (tv.dot (r.d.cross e2)) (-nd)
    let v := quotOf (r.d.dot (tv.cross e1)) (-nd)
    let t := quotOf (e2.dot (tv.cross e1)) (-nd)
    if u.n < 0 ∨ v.n < 0 ∨ u.n + v.n > u.d then none
    else if r.tmin.le t && t.le r.tmax then some { t := t, u := u, v := v, prim := recWord bs 9, leaf := leaf, at_ := at_ }
    else none

/-- The triangles of a leaf, in ascending address; under ANY the first hit ends the search. -/
def State.rayLeaf (s : State) (core : Nat) (r : Ray) (leaf : Nat) (best : Option Hit) (ks : List Nat) : RayR :=
  match ks with
  | [] => .ok (s, best)
  | k :: rest =>
    if r.any && best.isSome then .ok (s, best)
    else
      let at_ := leaf + 48 * k
      match s.rayRead core (r.root + at_) 48 with
      | .error x => .error x
      | .ok (s', bs) =>
        if (List.range 9).any (fun k => notFinite (recWord bs k)) then .error .open_
        else
          match triangleHit r bs leaf at_ with
          | some h => s'.rayLeaf core r leaf (betterHit best h) rest
          | none => s'.rayLeaf core r leaf best rest

/-- Children visited in their order. -/
def visitAll (go : State → Option Hit → Nat → RayR) (any : Bool) (s : State) (best : Option Hit) (cs : List Nat) : RayR :=
  match cs with
  | [] => .ok (s, best)
  | i :: rest =>
    if any && best.isSome then .ok (s, best)
    else
      match go s best i with
      | .ok (s', best') => visitAll go any s' best' rest
      | .error x => .error x

/-- A BOX NODE VISITED (R364), with `room` box nodes of the stack of 64 left. -/
def rayBox (room core : Nat) (r : Ray) (off : Nat) (s : State) (best : Option Hit) : RayR :=
  match room with
  | 0 => .error .invalid
  | room + 1 =>
    match s.rayRead core (r.root + off) 128 with
    | .error x => .error x
    | .ok (s', bs) =>
      if nodeBad bs then .error .invalid
      else if (List.range 3).any (fun k => notFinite (recWord bs k)) then .error .open_
      else
        visitAll (fun s best i =>
          if childLeaf bs i then s.rayLeaf core r (childOff bs i) best (List.range (childCount bs i))
          else rayBox room core r (childOff bs i) s best) r.any s' best (hitChildren r bs)

/-- A hit record (R311). -/
def hitRecord (bs : List Byte) (hit : Nat) (h : Option Hit) : List Byte :=
  let num (x : Quot) : List Byte := leBytes (ratF32 x.n x.d) 4
  leBytes (recWord bs 10) 4 ++ leBytes hit 4
    ++ (match h with
        | some h => num h.t ++ num h.u ++ num h.v ++ leBytes h.prim 4 ++ leBytes h.leaf 8
        | none => leBytes 0 12 ++ leBytes 0xFFFFFFFF 4 ++ leBytes 0 8)

/-- A hit record of a ray or a structure for which the manual states no result: RAYID, and a free one of the three HIT codes
(entry 8); a hit has free words, any other record those of its code (R311). -/
def freeHit (bs : List Byte) (fresh : Nat) : List Byte :=
  let hit := (Config.freeWord fresh).toNat % 3
  if hit = 1 then
    leBytes (recWord bs 10) 4 ++ leBytes 1 4 ++ (List.range 6).flatMap (fun k => leBytes (Config.freeWord (fresh + 1 + k)).toNat 4)
  else hitRecord bs hit none

/-- The page that a ray node's traversal waits for with its record, or none (R364). -/
def State.rayWaits (s : State) (die node : Nat) (x : Option RayWait) : State :=
  s.modDie die (fun d =>
    let l := d.rayWait.filter (fun p => p.node != node)
    { d with rayWait := match x with | some p => l ++ [p] | none => l })

/-- A traversal of a record that its node has taken (R310, R311, R364), where a page that the host refuses ends in HIT 2; `none`
when a read of the structure must wait for its home. -/
def State.rayRun (s : State) (die node : Nat) (e : QEntry) (refused : Option Nat) : Option State :=
  let bs := e.bytes
  let edge := bits (recWord bs 12) 0 8
  let out (s : State) (rec : List Byte) : Option State :=
    some ((s.nodeOutput die node edge [rec]).rayWaits die node none).drainCheck
  let free (s : State) : Option State := out { s with fresh := s.fresh + 7 } (freeHit bs s.fresh)
  if rayBad bs then out s (hitRecord bs 2 none)
  else if rayOpen bs then free s
  else
    match rayBox 64 (96 * die) (rayOf bs) 0 s none with
    | .ok (s', some h) => out s' (hitRecord bs 1 (some h))
    | .ok (s', none) => out s' (hitRecord bs 0 none)
    | .error .invalid => out s (hitRecord bs 2 none)
    | .error .open_ => free s
    | .error (.miss va) =>
      if refused = some (va / 16384) then out s (hitRecord bs 2 none)
      else some ((s.rayWaits die node (some { node := node, took := e, page := va / 16384, answer := none })).reportMiss va 5 node (96 * die))
    | .error .wait => none

/-- RAY_TRAVERSE (R306, R310, R364): a traversal that waits for a page goes on once MAP_PAGES has reported it mapped, or the
host has refused it; otherwise the node takes its oldest record. -/
def rayTraverseStep (die node : Nat) (s : State) : State :=
  match s.node? node with
  | none => s
  | some n =>
    if n.kind ≠ kindRay then s
    else
      match (s.die die).rayWait.find? (fun x => x.node == node) with
      | some x =>
        (match x.answer with
         | none => s
         | some mapped => (s.rayRun die node x.took (if mapped then none else some x.page)).getD s)
      | none =>
        match s.takeRecord die node with
        | none => s
        | some (s', e) => (s'.rayRun die node e none).getD s

/-- RAY_TRAVERSE (R310). -/
def execRayTraverse (die : Nat) (node : Nat) (s : State) : Out := .next (rayTraverseStep die node s)

/-! ## Scanout (R315, R316) -/

/-- Limits of R315 that an image record keeps at a head. -/
def imageOk (h : Head) (bs : List Byte) : Bool :=
  decide (leValue ((bs.drop 1).take 1) ≤ 2 ∧ recHalf bs 1 ≤ h.mode.getD 0 0 ∧ recHalf bs 2 ≤ h.mode.getD 1 0)
    && leValue ((bs.drop 8).take 8) % 256 == 0 && recWord bs 4 % 256 == 0

/-- The image of a record presented. -/
def Head.present (h : Head) (bs : List Byte) : Head :=
  { h with
    fb := leValue ((bs.drop 8).take 8), pitch := recWord bs 4, fmt := leValue ((bs.drop 1).take 1), width := recHalf bs 1,
    height := recHalf bs 2, frame := recWord bs 5 }

/-- The image records of a head in the queue of a scanout node are taken: the last is presented, the others are skipped, and
those that break a limit are counted in OVERRUN; where the last breaks one, the head keeps its image (R316). -/
def State.headTakes (s : State) (die h node : Nat) : State :=
  let mine (e : QEntry) : Bool := e.open? && (e.bytes.headD 0#8).toNat % 4 == h
  let es := (s.entries die node).filter mine
  if es = [] then s
  else
    let head := s.heads.getD h { on := false, mode := [], fb := 0, pitch := 0, fmt := 0, width := 0, height := 0, frame := 0 }
    let good := es.filter (fun e => imageOk head e.bytes)
    let s := s.modQueue die node (fun q =>
      { q with qhead := (q.qhead + es.length) % 2 ^ 32, entries := q.entries.filter (fun e => !mine e) }.trim)
    let s := s.setStatus node (fun x =>
      { x with
        taken := (x.taken + es.length) % 2 ^ 64, overrun := sat16 (x.overrun + (es.length - good.length)),
        skip := sat16 (x.skip + (es.dropLast.filter (fun e => imageOk head e.bytes)).length) })
    match es.getLast? with
    | some e => if imageOk head e.bytes then { s with heads := modAt s.heads h (fun x => x.present e.bytes) } else s
    | none => s

/-- Every scanout node's queue of a head. -/
def State.headNodes (s : State) (die h : Nat) (ns : List Nat) : State :=
  match ns with
  | [] => s
  | n :: rest =>
    (match s.node? n with | some x => if x.kind = kindScanout then s.headTakes die h n else s | none => s).headNodes die h rest

/-- Bytes of a pixel of an image (R315). -/
def Head.pixelBytes (h : Head) : Nat := if h.fmt = 2 then 8 else 4

/-- A line at a virtual address holds bytes of the image that a head shows. -/
def Head.shows (h : Head) (va : Nat) : Bool :=
  let row := if h.pitch = 0 then 0 else (va - h.fb) / h.pitch
  decide (h.fb ≤ va ∧ row < h.height ∧ va - h.fb < row * h.pitch + h.width * h.pixelBytes)

/-- The virtual address that a range of its die gives a line in state C. -/
def CRange.vaOf (r : CRange) (line : Nat) : Nat :=
  match r.pages.findIdx? (fun p => p == line / 16384 * 16384) with
  | some k => (r.base / 16384 + k) * 16384 + line % 16384
  | none => 0

/-- The lines of an image in an open range that have something to fold: a head's read of one is a load at its home (10 R215,
R221). -/
def State.imageLines (s : State) (h : Head) : List Nat :=
  (s.dir.filter (fun p =>
    match s.rangeOfLine p.1 with
    | some r => h.shows (r.vaOf p.1) && !p.2.clean && p.2.fold.isNone && s.foldReady p.1
    | none => false)).map (fun p => p.1)

/-- Folds begun for an engine that reads some lines. -/
def State.foldEach (s : State) (ls : List Nat) : State :=
  match ls with
  | [] => s
  | l :: rest => (s.foldStart l []).foldEach rest

/-- THE FRAME BUFFER READ of a head: it keeps no copy, and a line in state C is folded (R316; 09 R209; 10 R215, R221). -/
def State.headReads (s : State) (head : Nat) : State :=
  match s.heads[head]? with
  | some h => s.foldEach (s.imageLines h)
  | none => s

/-- SCANOUT_VBLANK of a head: its vertical blank, or the next line for a record with NOW (R316); it then reads its image. -/
def execScanoutVblank (head : Nat) (s : State) : Out :=
  .next (match s.heads[head]? with
    | some h =>
      if h.on then ((s.headNodes (headDie head) head (List.range s.nodes.length)).drainCheck).headReads head else s
    | none => s)

end Sys2Proof.Machine
end

