-- ==== Sys2Proof/Machine/LaneInt.lean ====
section
/-! DEFINITION. The integer instructions of the lane stream, majors 0x00 to 0x02 (06 R137 to R139). -/
namespace Sys2Proof
open Machine

/-- The first source as an integer of the form's type. -/
def XaF.aInt (f : XaF) (w : Wave) (l : Nat) : Int := intOf f.ty (f.aT 6 w l)
/-- The second source as an integer of the form's type. -/
def XaF.bInt (f : XaF) (w : Wave) (l : Nat) : Int := intOf f.ty (f.bT 6 w l)
/-- The third source as an integer of the form's type. -/
def XaF.cInt (f : XaF) (w : Wave) (l : Nat) : Int := intOf f.ty (f.cT 6 w l)
/-- `sat` is 1. -/
def XaF.isSat (f : XaF) : Bool := f.sat == 1#1
/-- The predicate operand `c` of SEL (R132). -/
def XaF.predC (f : XaF) (w : Wave) (l : Nat) : Bool :=
  if f.imm8.getLsbD 6 then bit (w.getK (f.c9.toNat % 8)) l else f.cT 6 w l != 0

end Sys2Proof

namespace Sys2Proof.Machine


/-- IADD (R137). -/
def opIadd (f : XaF) (w : Wave) (l : Nat) : Nat := intRes f.ty f.isSat (f.aInt w l + f.bInt w l)
/-- ISUB (R137). -/
def opIsub (f : XaF) (w : Wave) (l : Nat) : Nat := intRes f.ty f.isSat (f.aInt w l - f.bInt w l)
/-- IMUL (R137). -/
def opImul (f : XaF) (w : Wave) (l : Nat) : Nat := intRes f.ty f.isSat (f.aInt w l * f.bInt w l)
/-- IMULHI: bits 63 to 32 of the product (R137). -/
def opImulhi (f : XaF) (w : Wave) (l : Nat) : Nat := wrapN ((f.aInt w l * f.bInt w l) / 4294967296) 32
/-- IMAD (R137). -/
def opImad (f : XaF) (w : Wave) (l : Nat) : Nat := intRes f.ty f.isSat (f.aInt w l * f.bInt w l + f.cInt w l)
/-- IMIN (R137). -/
def opImin (f : XaF) (w : Wave) (l : Nat) : Nat := wrapN (min (f.aInt w l) (f.bInt w l)) 32
/-- IMAX (R137). -/
def opImax (f : XaF) (w : Wave) (l : Nat) : Nat := wrapN (max (f.aInt w l) (f.bInt w l)) 32
/-- AND (R137). -/
def opAnd (f : XaF) (w : Wave) (l : Nat) : Nat := f.aT 6 w l &&& f.bT 6 w l
/-- OR (R137). -/
def opOr (f : XaF) (w : Wave) (l : Nat) : Nat := f.aT 6 w l ||| f.bT 6 w l
/-- XOR (R137). -/
def opXor (f : XaF) (w : Wave) (l : Nat) : Nat := f.aT 6 w l ^^^ f.bT 6 w l
/-- ANDN: a and not b (R137). -/
def opAndn (f : XaF) (w : Wave) (l : Nat) : Nat := f.aT 6 w l &&& (0xFFFFFFFF ^^^ f.bT 6 w l)
/-- SHL (R138). -/
def opShl (f : XaF) (w : Wave) (l : Nat) : Nat :=
  let n := f.bT 6 w l
  if n ≥ 32 then 0 else (f.aT 6 w l <<< n) % 2 ^ 32
/-- SHR (R138). -/
def opShr (f : XaF) (w : Wave) (l : Nat) : Nat :=
  let n := f.bT 6 w l
  if n ≥ 32 then 0 else f.aT 6 w l >>> n
/-- SAR (R138). -/
def opSar (f : XaF) (w : Wave) (l : Nat) : Nat :=
  let n := f.bT 6 w l
  let a := f.aT 6 w l
  if n ≥ 32 then (if bit a 31 then 0xFFFFFFFF else 0) else wrapN (sextN a 32 / 2 ^ n) 32
/-- ROT: to the left by n mod 32 (R138). -/
def opRot (f : XaF) (w : Wave) (l : Nat) : Nat :=
  let n := f.bT 6 w l % 32
  let a := f.aT 6 w l
  (a <<< n) % 2 ^ 32 + a >>> (32 - n)
/-- Offset and effective width of a bit field (R138). -/
def fieldOf (b : Nat) : Nat × Nat :=
  let off := bits b 0 5
  (off, min (bits b 8 6) (32 - off))
/-- BFX (R138). -/
def opBfx (f : XaF) (w : Wave) (l : Nat) : Nat :=
  let p := fieldOf (f.bT 6 w l)
  let x := if p.2 = 0 then 0 else zextN (f.aT 6 w l >>> p.1) p.2
  if f.variant = 1 ∧ p.2 > 0 then wrapN (sextN x p.2) 32 else x
/-- BFI: counts come from b (R138). -/
def opBfi (f : XaF) (w : Wave) (l : Nat) : Nat :=
  let p := fieldOf (f.bT 6 w l)
  let m := ((1 <<< p.2) - 1) <<< p.1
  (f.cT 6 w l &&& (0xFFFFFFFF ^^^ m)) ||| ((f.aT 6 w l <<< p.1) &&& m)
/-- POPC (R137). -/
def opPopc (f : XaF) (w : Wave) (l : Nat) : Nat := popcount (f.aT 6 w l) 32
/-- CLZ (R137). -/
def opClz (f : XaF) (w : Wave) (l : Nat) : Nat := clzN (f.aT 6 w l) 32
/-- CTZ (R137). -/
def opCtz (f : XaF) (w : Wave) (l : Nat) : Nat := ctzN (f.aT 6 w l) 32
/-- BREV (R137). -/
def opBrev (f : XaF) (w : Wave) (l : Nat) : Nat := brevN (f.aT 6 w l) 32
/-- ICMP (R139). -/
def opIcmp (f : XaF) (w : Wave) (l : Nat) : Bool := iCond (f.imm8.toNat % 8) (f.aInt w l) (f.bInt w l)
/-- SEL (R137). -/
def opSel (f : XaF) (w : Wave) (l : Nat) : Nat := if f.predC w l then f.aT 6 w l else f.bT 6 w l

/-- IADD, base form (R137). -/
def execIaddBA (f : BaF) (s : State) : Out := s.laneBA (.iaddBA f) 4 specArith 5 f (mapBody opIadd)
/-- IADD, extended form (R137). -/
def execIaddXA (f : XaF) (s : State) : Out := s.laneXA (.iaddXA f) 4 specArith f (mapBody opIadd)
/-- ISUB, base form (R137). -/
def execIsubBA (f : BaF) (s : State) : Out := s.laneBA (.isubBA f) 4 specArith 5 f (mapBody opIsub)
/-- ISUB, extended form (R137). -/
def execIsubXA (f : XaF) (s : State) : Out := s.laneXA (.isubXA f) 4 specArith f (mapBody opIsub)
/-- IMUL, base form (R137). -/
def execImulBA (f : BaF) (s : State) : Out := s.laneBA (.imulBA f) 4 specArith 5 f (mapBody opImul)
/-- IMUL, extended form (R137). -/
def execImulXA (f : XaF) (s : State) : Out := s.laneXA (.imulXA f) 4 specArith f (mapBody opImul)
/-- IMULHI, base form (R137). -/
def execImulhiBA (f : BaF) (s : State) : Out := s.laneBA (.imulhiBA f) 4 specMinMax 5 f (mapBody opImulhi)
/-- IMULHI, extended form (R137). -/
def execImulhiXA (f : XaF) (s : State) : Out := s.laneXA (.imulhiXA f) 4 specMinMax f (mapBody opImulhi)
/-- IMAD (R137). -/
def execImad (f : XaF) (s : State) : Out := s.laneXA (.imad f) 4 specImad f (mapBody opImad)
/-- IMIN, base form (R137). -/
def execIminBA (f : BaF) (s : State) : Out := s.laneBA (.iminBA f) 4 specMinMax 5 f (mapBody opImin)
/-- IMIN, extended form (R137). -/
def execIminXA (f : XaF) (s : State) : Out := s.laneXA (.iminXA f) 4 specMinMax f (mapBody opImin)
/-- IMAX, base form (R137). -/
def execImaxBA (f : BaF) (s : State) : Out := s.laneBA (.imaxBA f) 4 specMinMax 5 f (mapBody opImax)
/-- IMAX, extended form (R137). -/
def execImaxXA (f : XaF) (s : State) : Out := s.laneXA (.imaxXA f) 4 specMinMax f (mapBody opImax)
/-- AND, base form (R137). -/
def execAndBA (f : BaF) (s : State) : Out := s.laneBA (.andBA f) 4 specLogic 6 f (mapBody opAnd)
/-- AND, extended form (R137). -/
def execAndXA (f : XaF) (s : State) : Out := s.laneXA (.andXA f) 4 specLogic f (mapBody opAnd)
/-- OR, base form (R137). -/
def execOrBA (f : BaF) (s : State) : Out := s.laneBA (.orBA f) 4 specLogic 6 f (mapBody opOr)
/-- OR, extended form (R137). -/
def execOrXA (f : XaF) (s : State) : Out := s.laneXA (.orXA f) 4 specLogic f (mapBody opOr)
/-- XOR, base form (R137). -/
def execXorBA (f : BaF) (s : State) : Out := s.laneBA (.xorBA f) 4 specLogic 6 f (mapBody opXor)
/-- XOR, extended form (R137). -/
def execXorXA (f : XaF) (s : State) : Out := s.laneXA (.xorXA f) 4 specLogic f (mapBody opXor)
/-- ANDN, base form (R137). -/
def execAndnBA (f : BaF) (s : State) : Out := s.laneBA (.andnBA f) 4 specLogic 6 f (mapBody opAndn)
/-- ANDN, extended form (R137). -/
def execAndnXA (f : XaF) (s : State) : Out := s.laneXA (.andnXA f) 4 specLogic f (mapBody opAndn)
/-- SHL, base form (R138). -/
def execShlBA (f : BaF) (s : State) : Out := s.laneBA (.shlBA f) 4 specLogic 6 f (mapBody opShl)
/-- SHL, extended form (R138). -/
def execShlXA (f : XaF) (s : State) : Out := s.laneXA (.shlXA f) 4 specLogic f (mapBody opShl)
/-- SHR, base form (R138). -/
def execShrBA (f : BaF) (s : State) : Out := s.laneBA (.shrBA f) 4 specLogic 6 f (mapBody opShr)
/-- SHR, extended form (R138). -/
def execShrXA (f : XaF) (s : State) : Out := s.laneXA (.shrXA f) 4 specLogic f (mapBody opShr)
/-- SAR, base form (R138). -/
def execSarBA (f : BaF) (s : State) : Out := s.laneBA (.sarBA f) 4 specLogic 6 f (mapBody opSar)
/-- SAR, extended form (R138). -/
def execSarXA (f : XaF) (s : State) : Out := s.laneXA (.sarXA f) 4 specLogic f (mapBody opSar)
/-- ROT, base form (R138). -/
def execRotBA (f : BaF) (s : State) : Out := s.laneBA (.rotBA f) 4 specLogic 6 f (mapBody opRot)
/-- ROT, extended form (R138). -/
def execRotXA (f : XaF) (s : State) : Out := s.laneXA (.rotXA f) 4 specLogic f (mapBody opRot)
/-- BFX (R138). -/
def execBfx (f : XaF) (s : State) : Out := s.laneXA (.bfx f) 4 specBfx f (mapBody opBfx)
/-- BFI (R138). -/
def execBfi (f : XaF) (s : State) : Out := s.laneXA (.bfi f) 4 specBfi f (mapBody opBfi)
/-- POPC, base form (R137). -/
def execPopcBA (f : BaF) (s : State) : Out := s.laneBA (.popcBA f) 4 specBit 6 f (mapBody opPopc)
/-- POPC, extended form (R137). -/
def execPopcXA (f : XaF) (s : State) : Out := s.laneXA (.popcXA f) 4 specBit f (mapBody opPopc)
/-- CLZ, base form (R137). -/
def execClzBA (f : BaF) (s : State) : Out := s.laneBA (.clzBA f) 4 specBit 6 f (mapBody opClz)
/-- CLZ, extended form (R137). -/
def execClzXA (f : XaF) (s : State) : Out := s.laneXA (.clzXA f) 4 specBit f (mapBody opClz)
/-- CTZ, base form (R137). -/
def execCtzBA (f : BaF) (s : State) : Out := s.laneBA (.ctzBA f) 4 specBit 6 f (mapBody opCtz)
/-- CTZ, extended form (R137). -/
def execCtzXA (f : XaF) (s : State) : Out := s.laneXA (.ctzXA f) 4 specBit f (mapBody opCtz)
/-- BREV, base form (R137). -/
def execBrevBA (f : BaF) (s : State) : Out := s.laneBA (.brevBA f) 4 specBit 6 f (mapBody opBrev)
/-- BREV, extended form (R137). -/
def execBrevXA (f : XaF) (s : State) : Out := s.laneXA (.brevXA f) 4 specBit f (mapBody opBrev)
/-- ICMP (R139). -/
def execIcmp (f : XaF) (s : State) : Out := s.laneXA (.icmp f) 4 specIcmp f (predBody opIcmp)
/-- SEL (R137). -/
def execSel (f : XaF) (s : State) : Out := s.laneXA (.sel f) 4 specSel f (mapBody opSel)

end Sys2Proof.Machine
end

