-- ==== Sys2Proof/Machine/Trans.lean ====
section
/-! DEFINITION. The correctly rounded functions of 06 R144 and R145. A value that is not rational is computed in fixed
point to `fracBits` bits and given half a unit beyond its last bit, so that it is never taken for an exact value or a tie
(entry 12: DEDUCED). -/
namespace Sys2Proof.Machine

/-- Fraction bits of the fixed-point computations. -/
def fracBits : Nat := 352

/-- ⌊√x⌋ by bits, from bit `fuel` down. -/
def isqrtFrom (x fuel acc : Nat) : Nat :=
  match fuel with
  | 0 => acc
  | k + 1 =>
    let t := acc + 2 ^ k
    isqrtFrom x k (if t * t ≤ x then t else acc)

/-- ⌊√x⌋ -/
def isqrt (x : Nat) : Nat := isqrtFrom x (Nat.log2 x / 2 + 1) 0

/-- Σ z^(2k+1) / (2k+1) in fixed point: `zp` is the running power, z² the factor; the sign alternates when asked. -/
def oddSeries (alt : Bool) (z2 : Nat) (fuel k : Nat) (zp : Nat) : Int :=
  match fuel with
  | 0 => 0
  | f + 1 =>
    let term : Int := ((zp / (2 * k + 1) : Nat) : Int)
    let rest := oddSeries alt z2 f (k + 1) ((zp * z2) >>> fracBits)
    if alt && k % 2 == 1 then -term + rest else term + rest

/-- Twice the inverse hyperbolic tangent of a fixed-point number. -/
def atanh2 (z : Nat) : Nat := 2 * (oddSeries false ((z * z) >>> fracBits) 130 0 z).toNat

/-- The arc tangent of 1/n in fixed point. -/
def atanInv (n : Nat) : Int :=
  let z := 2 ^ fracBits / n
  oddSeries true ((z * z) >>> fracBits) 130 0 z

/-- ln 2 in fixed point. -/
def fixLn2 : Nat := atanh2 (2 ^ fracBits / 3)

/-- π in fixed point (Machin's formula). -/
def fixPi : Nat := (16 * atanInv 5 - 4 * atanInv 239).toNat

/-- Σ t^k / k! in fixed point. -/
def expSeries (t : Nat) (fuel k term : Nat) : Nat :=
  match fuel with
  | 0 => 0
  | f + 1 => term + expSeries t f (k + 1) (((term * t) >>> fracBits) / (k + 1))

/-- 2^f in fixed point, for f = fn/fd in [0, 1). -/
def fixExp2 (fn fd : Nat) : Nat :=
  expSeries (fixLn2 * fn / fd) 90 0 (2 ^ fracBits)

/-- sin t in fixed point for a small t: Σ (−1)^k t^(2k+1) / (2k+1)!. -/
def sinSeries (t2 : Nat) (fuel k term : Nat) : Int :=
  match fuel with
  | 0 => 0
  | f + 1 =>
    let rest := sinSeries t2 f (k + 1) (((term * t2) >>> fracBits) / ((2 * k + 2) * (2 * k + 3)))
    if k % 2 == 1 then -(term : Int) + rest else (term : Int) + rest

/-- A positive fixed-point value that is not exact: half a unit is added beyond its last bit. -/
def inexact (neg : Bool) (v : Nat) : XReal := .fin neg (2 * v + 1) (2 ^ (fracBits + 1))

/-- √(n/d) as a number: exact when it is rational, else marked inexact. -/
def xSqrt (n d : Nat) : XReal :=
  let q := isqrt (n * d * 4 ^ fracBits)
  if q * q = n * d * 4 ^ fracBits then .fin false q (d * 2 ^ fracBits)
  else .fin false (2 * q + 1) (d * 2 ^ (fracBits + 1))

/-- sin(πx) for x = n/d in [0, 1/2], as a number; exact at 0 and 1/2. -/
def xSinPiQ (neg : Bool) (n d : Nat) : XReal :=
  if n = 0 then .fin neg 0 1
  else if 2 * n = d then .fin neg 1 1
  else
    let t := fixPi * n / d
    inexact neg (sinSeries ((t * t) >>> fracBits) 90 0 t).toNat

/-- sin(πx) for x = n/d ≥ 0, with the sign to give it; the zero of a whole x keeps that sign (R145). -/
def xSinPi (neg : Bool) (n d : Nat) : XReal :=
  let r := n % (2 * d)
  if r % d = 0 then .fin neg 0 1
  else if 2 * r ≤ d then xSinPiQ neg r d
  else if r < d then xSinPiQ neg (d - r) d
  else if 2 * r ≤ 3 * d then xSinPiQ (!neg) (r - d) d
  else xSinPiQ (!neg) (2 * d - r) d

/-- cos(πx) for x = n/d ≥ 0; +0 at n + 1/2 (R145). -/
def xCosPi (n d : Nat) : XReal :=
  let s := xSinPi false (2 * n + d) (2 * d)
  match s with
  | .fin _ 0 _ => .fin false 0 1
  | _ => s

/-- The functions of major 0x11 (R144). -/
inductive SpecFn where
  | rcp | rsq | sqrt | exp2 | log2 | sinpi | cospi
deriving DecidableEq, Repr

/-- log2 (n/d) for positive n/d that is no power of two or is one (then exact). -/
def xLog2 (n d : Nat) : XReal :=
  let e := floorLog2 n d
  let mn := if e ≥ 0 then n else n <<< (-e).toNat
  let md := if e ≥ 0 then d <<< e.toNat else d
  if mn = md then xOfInt e
  else
    let z := ((mn - md) <<< fracBits) / (mn + md)
    let l := (atanh2 z <<< fracBits) / fixLn2
    let v : Int := e * ((2 ^ fracBits : Nat) : Int) + (l : Int)
    .fin (decide (v < 0)) (2 * v + 1).natAbs (2 ^ (fracBits + 1))

/-- 2^x for finite x: exact for whole x, else fixed point scaled by the whole part; a magnitude far outside FP32's range
is answered by a power of two beyond it on the same side. -/
def xExp2 (neg : Bool) (n d : Nat) : XReal :=
  if n ≥ 400 * d then (if neg then .fin false 1 (2 ^ 400) else .fin false (2 ^ 400) 1)
  else
    let i := n / d
    let f := n % d
    if f = 0 then (if neg then .fin false 1 (2 ^ i) else .fin false (2 ^ i) 1)
    else if neg then xScale (inexact false (fixExp2 (d - f) d)) (-((i : Int) + 1))
    else xScale (inexact false (fixExp2 f d)) (i : Int)

/-- The exact value of a function at a number, no number where it is invalid (R144, R145). -/
def specValue (fn : SpecFn) (x : XReal) : XReal :=
  match fn, x with
  | _, .nan => .nan
  | .rcp, .inf s => .fin s 0 1
  | .rcp, .fin s n d => if n = 0 then .inf s else .fin s d n
  | .rsq, .inf s => if s then .nan else .fin false 0 1
  | .rsq, .fin s n d => if n = 0 then .inf s else if s then .nan else xSqrt d n
  | .sqrt, .inf s => if s then .nan else .inf false
  | .sqrt, .fin s n d => if n = 0 then .fin s 0 1 else if s then .nan else xSqrt n d
  | .exp2, .inf s => if s then .fin false 0 1 else .inf false
  | .exp2, .fin s n d => xExp2 s n d
  | .log2, .inf s => if s then .nan else .inf false
  | .log2, .fin s n d => if n = 0 then .inf true else if s then .nan else xLog2 n d
  | .sinpi, .inf _ => .nan
  | .sinpi, .fin s n d => if n = 0 then .fin s 0 1 else xSinPi s n d
  | .cospi, .inf _ => .nan
  | .cospi, .fin _ n d => xCosPi n d

/-- The FP32 result of a function at a pattern (R144, R145). -/
def specResult (fn : SpecFn) (sat : Bool) (c : NanCtx) (x : Nat) : Nat :=
  fpResult .f32 .rne sat 0 c [x] (specValue fn (valueOfBits .f32 x))

end Sys2Proof.Machine
end

