-- ==== Sys2Proof/Machine/LaneFloat.lean ====
section
/-! DEFINITION. The floating-point instructions of the lane stream, majors 0x10 to 0x12 (06 R140 to R149). -/
namespace Sys2Proof
open Machine

/-- `mod` on a source pattern: absolute value, then negation (03 R70). -/
def XaF.modA (f : XaF) (fm : FFmt) (x : Nat) : Nat :=
  let x := if f.mod.getLsbD 1 then fAbsBits fm x else x
  if f.mod.getLsbD 0 then fNegBits fm x else x
/-- `mod` on b (03 R70). -/
def XaF.modB (f : XaF) (fm : FFmt) (x : Nat) : Nat := if f.mod.getLsbD 2 then fNegBits fm x else x
/-- `mod` on c (03 R70). -/
def XaF.modC (f : XaF) (fm : FFmt) (x : Nat) : Nat := if f.mod.getLsbD 3 then fNegBits fm x else x
/-- a as FP32 after `mod`. -/
def XaF.aF (f : XaF) (w : Wave) (l : Nat) : Nat := f.modA .f32 (f.aT 0 w l)
/-- b as FP32 after `mod`. -/
def XaF.bF (f : XaF) (w : Wave) (l : Nat) : Nat := f.modB .f32 (f.bT 0 w l)
/-- c as FP32 after `mod`. -/
def XaF.cF (f : XaF) (w : Wave) (l : Nat) : Nat := f.modC .f32 (f.cT 0 w l)
/-- The origin of a NaN generated in a lane (05 R119). -/
def XaF.nan (_ : XaF) (w : Wave) (l : Nat) : NanCtx := nanAt w.lanePc l

end Sys2Proof

namespace Sys2Proof.Machine

/-! ## FP32 (R140 to R143) -/

/-- FADD (R140). -/
def opFadd (f : XaF) (w : Wave) (l : Nat) : Nat :=
  fAdd .f32 (w.modeOf f.rnd) f.isSat (w.randBits .c f l) (f.nan w l) (f.aF w l) (f.bF w l)
/-- FSUB (R140). -/
def opFsub (f : XaF) (w : Wave) (l : Nat) : Nat :=
  fSub .f32 (w.modeOf f.rnd) f.isSat (w.randBits .c f l) (f.nan w l) (f.aF w l) (f.bF w l)
/-- FMUL (R140). -/
def opFmul (f : XaF) (w : Wave) (l : Nat) : Nat :=
  fMul .f32 (w.modeOf f.rnd) f.isSat (w.randBits .c f l) (f.nan w l) (f.aF w l) (f.bF w l)
/-- FFMA (R140). -/
def opFfma (f : XaF) (w : Wave) (l : Nat) : Nat :=
  fFma .f32 (w.modeOf f.rnd) f.isSat (w.randBits .cNext f l) (f.nan w l) (f.aF w l) (f.bF w l) (f.cF w l)
/-- FMIN (R141). -/
def opFmin (f : XaF) (w : Wave) (l : Nat) : Nat := fMinMax .f32 false (f.aF w l) (f.bF w l)
/-- FMAX (R141). -/
def opFmax (f : XaF) (w : Wave) (l : Nat) : Nat := fMinMax .f32 true (f.aF w l) (f.bF w l)
/-- FCMP (R142). -/
def opFcmp (f : XaF) (w : Wave) (l : Nat) : Bool := fCond (f.imm8.toNat % 8) (f.aF w l) (f.bF w l)
/-- FCLASS's class word (R143). -/
def opFclassWord (f : XaF) (w : Wave) (l : Nat) : Nat := fClass (f.aT 0 w l)
/-- FCLASS's test (R143). -/
def opFclassTest (f : XaF) (w : Wave) (l : Nat) : Bool := fClass (f.aT 0 w l) &&& f.imm8.toNat % 128 != 0
/-- FCLASS writes the class word, or a bit of a mask register under `imm8`[7] (R143). -/
def bodyFclass (s : State) (words : Nat) (sp : XaSpec) (f : XaF) : R State :=
  if f.imm8.getLsbD 7 then s.lanePred words sp f (opFclassTest f) else s.laneMap words sp f (opFclassWord f)

/-! ## Correctly rounded functions (R144, R145) -/

/-- A function of major 0x11. -/
def opFn (fn : SpecFn) (f : XaF) (w : Wave) (l : Nat) : Nat := specResult fn f.isSat (f.nan w l) (f.aF w l)

/-! ## Packed halves (R146, R147) -/

/-- The format of a packed-half type. -/
def halfFmt (ty : Nat) : FFmt := if ty = 2 then .bf16 else .f16
/-- Element i of a packed pattern. -/
def half (x i : Nat) : Nat := bits x (16 * i) 16
/-- Two elements packed. -/
def pack2 (g : Nat → Nat) : Nat := g 0 % 2 ^ 16 + (g 1 % 2 ^ 16) * 2 ^ 16

/-- HADD2 (R147). -/
def opHadd2 (f : XaF) (w : Wave) (l : Nat) : Nat :=
  let fm := halfFmt f.ty
  pack2 (fun i => fAdd fm (w.modeOf f.rnd) f.isSat (rfrac (w.randBits .c f l) i 2) (f.nan w l)
    (f.modA fm (half (f.aT f.ty w l) i)) (f.modB fm (half (f.bT f.ty w l) i)))
/-- HMUL2 (R147). -/
def opHmul2 (f : XaF) (w : Wave) (l : Nat) : Nat :=
  let fm := halfFmt f.ty
  pack2 (fun i => fMul fm (w.modeOf f.rnd) f.isSat (rfrac (w.randBits .c f l) i 2) (f.nan w l)
    (f.modA fm (half (f.aT f.ty w l) i)) (f.modB fm (half (f.bT f.ty w l) i)))
/-- HFMA2 (R147). -/
def opHfma2 (f : XaF) (w : Wave) (l : Nat) : Nat :=
  let fm := halfFmt f.ty
  pack2 (fun i => fFma fm (w.modeOf f.rnd) f.isSat (rfrac (w.randBits .cNext f l) i 2) (f.nan w l)
    (f.modA fm (half (f.aT f.ty w l) i)) (f.modB fm (half (f.bT f.ty w l) i)) (f.modC fm (half (f.cT f.ty w l) i)))

/-! ## Narrow dot products (R148, R149) -/

/-- Byte k of a pattern. -/
def byteOf (x k : Nat) : Nat := bits x (8 * k) 8
/-- The 8-bit elements of a pattern as numbers: D8 or I8 (R148). -/
def elem8 (ty x k : Nat) : XReal := if ty = 3 then d8Value (byteOf x k) else xOfInt (sextN (byteOf x k) 8)

/-- The exact product of two 8-bit elements: D8 values, or I8 integers, whose zero product is +0 (R107, R148). -/
def prod8 (ty x y k : Nat) : XReal :=
  if ty = 3 then xMul (elem8 ty x k) (elem8 ty y k) else xOfInt (sextN (byteOf x k) 8 * sextN (byteOf y k) 8)

/-- The FP32 result of c plus products: a NaN element or scale comes before a NaN c (R148). -/
def dotResult (mode : RMode) (sat : Bool) (r : Nat) (c : NanCtx) (nanElem : Bool) (cbits : Nat) (terms : List XReal) : Nat :=
  if nanElem then genNaN .f32 c
  else if isNaNBits .f32 cbits then quietNaN .f32 cbits
  else
    match xSum (zeroNeg mode) (valueOfBits .f32 cbits :: terms) with
    | .nan => genNaN .f32 c
    | x => roundTo .f32 mode sat r x

/-- The register of block scales that a scaled DOT4D8 names in `imm21` (R148). -/
def dotScaleReg (f : XaF) : List Nat := if f.variant = 1 then [f.imm21.toNat % 512] else []

/-- DOT4D8 (R148). -/
def opDot4d8 (f : XaF) (w : Wave) (l : Nat) : Nat :=
  let a := f.aT 6 w l
  let b := f.bT 6 w l
  let ps := (List.range 4).map (prod8 f.ty a b)
  let nanE := (List.range 4).any (fun k => elem8 f.ty a k == .nan || elem8 f.ty b k == .nan)
  let r := w.randBits .cNext f l
  if f.variant = 1 then
    let sv := w.getV (f.imm21.toNat % 512) l
    let ea := byteOf sv (f.imm8.toNat % 4)
    let eb := byteOf sv (f.imm8.toNat / 4 % 4)
    let k : Int := (ea : Int) + eb - 254
    dotResult (w.modeOf f.rnd) f.isSat r (f.nan w l) (nanE || ea == 255 || eb == 255) (f.cT 0 w l)
      (ps.map (fun x => xScale x k))
  else if f.ty = 3 then dotResult (w.modeOf f.rnd) f.isSat r (f.nan w l) nanE (f.cT 0 w l) ps
  else
    let p := (List.range 4).foldl (fun acc k => acc + sextN (byteOf a k) 8 * sextN (byteOf b k) 8) (sextN (f.cT 5 w l) 32)
    intRes 5 f.isSat p

/-- DOT4D8's body: a scaled form also reads its scale register. -/
def bodyDot4d8 (s : State) (words : Nat) (sp : XaSpec) (f : XaF) : R State :=
  s.laneForm words sp f (dotScaleReg f) (fun w act => w.writeDst f.d9.toNat act (opDot4d8 f w))

/-- DOT2H raises RETIRED_OP before any effect (R149); its use is counted in RETCNT1 (03 R82). -/
def bodyRetired (s : State) (_ : Nat) (_ : XaSpec) (f : XaF) : R State :=
  .error (.trap causeRetired (s.w.active f.kmask.toNat) 0 0)

/-- FADD, base form (R140). -/
def execFaddBA (f : BaF) (s : State) : Out := s.laneBA (.faddBA f) 8 specF2 0 f (mapBody opFadd)
/-- FADD, extended form (R140). -/
def execFaddXA (f : XaF) (s : State) : Out := s.laneXA (.faddXA f) 8 specF2 f (mapBody opFadd)
/-- FSUB, base form (R140). -/
def execFsubBA (f : BaF) (s : State) : Out := s.laneBA (.fsubBA f) 8 specF2 0 f (mapBody opFsub)
/-- FSUB, extended form (R140). -/
def execFsubXA (f : XaF) (s : State) : Out := s.laneXA (.fsubXA f) 8 specF2 f (mapBody opFsub)
/-- FMUL, base form (R140). -/
def execFmulBA (f : BaF) (s : State) : Out := s.laneBA (.fmulBA f) 8 specF2 0 f (mapBody opFmul)
/-- FMUL, extended form (R140). -/
def execFmulXA (f : XaF) (s : State) : Out := s.laneXA (.fmulXA f) 8 specF2 f (mapBody opFmul)
/-- FFMA (R140). -/
def execFfma (f : XaF) (s : State) : Out := s.laneXA (.ffma f) 8 specFfma f (mapBody opFfma)
/-- FMIN, base form (R141). -/
def execFminBA (f : BaF) (s : State) : Out := s.laneBA (.fminBA f) 8 specFminmax 0 f (mapBody opFmin)
/-- FMIN, extended form (R141). -/
def execFminXA (f : XaF) (s : State) : Out := s.laneXA (.fminXA f) 8 specFminmax f (mapBody opFmin)
/-- FMAX, base form (R141). -/
def execFmaxBA (f : BaF) (s : State) : Out := s.laneBA (.fmaxBA f) 8 specFminmax 0 f (mapBody opFmax)
/-- FMAX, extended form (R141). -/
def execFmaxXA (f : XaF) (s : State) : Out := s.laneXA (.fmaxXA f) 8 specFminmax f (mapBody opFmax)
/-- FCMP (R142). -/
def execFcmp (f : XaF) (s : State) : Out := s.laneXA (.fcmp f) 8 specFcmp f (predBody opFcmp)
/-- FCLASS (R143). -/
def execFclass (f : XaF) (s : State) : Out := s.laneXA (.fclass f) 8 specFclass f bodyFclass
/-- FRCP, base form (R144). -/
def execFrcpBA (f : BaF) (s : State) : Out := s.laneBA (.frcpBA f) 12 specFn 0 f (mapBody (opFn .rcp))
/-- FRCP, extended form (R144). -/
def execFrcpXA (f : XaF) (s : State) : Out := s.laneXA (.frcpXA f) 12 specFn f (mapBody (opFn .rcp))
/-- FRSQ, base form (R144). -/
def execFrsqBA (f : BaF) (s : State) : Out := s.laneBA (.frsqBA f) 12 specFn 0 f (mapBody (opFn .rsq))
/-- FRSQ, extended form (R144). -/
def execFrsqXA (f : XaF) (s : State) : Out := s.laneXA (.frsqXA f) 12 specFn f (mapBody (opFn .rsq))
/-- FSQRT, base form (R144). -/
def execFsqrtBA (f : BaF) (s : State) : Out := s.laneBA (.fsqrtBA f) 12 specFn 0 f (mapBody (opFn .sqrt))
/-- FSQRT, extended form (R144). -/
def execFsqrtXA (f : XaF) (s : State) : Out := s.laneXA (.fsqrtXA f) 12 specFn f (mapBody (opFn .sqrt))
/-- FEXP2, base form (R144). -/
def execFexp2BA (f : BaF) (s : State) : Out := s.laneBA (.fexp2BA f) 12 specFn 0 f (mapBody (opFn .exp2))
/-- FEXP2, extended form (R144). -/
def execFexp2XA (f : XaF) (s : State) : Out := s.laneXA (.fexp2XA f) 12 specFn f (mapBody (opFn .exp2))
/-- FLOG2, base form (R144). -/
def execFlog2BA (f : BaF) (s : State) : Out := s.laneBA (.flog2BA f) 12 specFn 0 f (mapBody (opFn .log2))
/-- FLOG2, extended form (R144). -/
def execFlog2XA (f : XaF) (s : State) : Out := s.laneXA (.flog2XA f) 12 specFn f (mapBody (opFn .log2))
/-- FSINPI, base form (R144). -/
def execFsinpiBA (f : BaF) (s : State) : Out := s.laneBA (.fsinpiBA f) 12 specFn 0 f (mapBody (opFn .sinpi))
/-- FSINPI, extended form (R144). -/
def execFsinpiXA (f : XaF) (s : State) : Out := s.laneXA (.fsinpiXA f) 12 specFn f (mapBody (opFn .sinpi))
/-- FCOSPI, base form (R144). -/
def execFcospiBA (f : BaF) (s : State) : Out := s.laneBA (.fcospiBA f) 12 specFn 0 f (mapBody (opFn .cospi))
/-- FCOSPI, extended form (R144). -/
def execFcospiXA (f : XaF) (s : State) : Out := s.laneXA (.fcospiXA f) 12 specFn f (mapBody (opFn .cospi))
/-- HFMA2 (R147). -/
def execHfma2 (f : XaF) (s : State) : Out := s.laneXA (.hfma2 f) 8 specHfma f (mapBody opHfma2)
/-- HADD2, base form (R147). -/
def execHadd2BA (f : BaF) (s : State) : Out := s.laneBA (.hadd2BA f) 8 specH2 1 f (mapBody opHadd2)
/-- HADD2, extended form (R147). -/
def execHadd2XA (f : XaF) (s : State) : Out := s.laneXA (.hadd2XA f) 8 specH2 f (mapBody opHadd2)
/-- HMUL2, base form (R147). -/
def execHmul2BA (f : BaF) (s : State) : Out := s.laneBA (.hmul2BA f) 8 specH2 1 f (mapBody opHmul2)
/-- HMUL2, extended form (R147). -/
def execHmul2XA (f : XaF) (s : State) : Out := s.laneXA (.hmul2XA f) 8 specH2 f (mapBody opHmul2)
/-- DOT4D8 (R148). -/
def execDot4d8 (f : XaF) (s : State) : Out := s.laneXA (.dot4d8 f) 8 specDot4 f bodyDot4d8
/-- DOT2H (R149): only an encoding with every field legal raises RETIRED_OP (03 R81). -/
def execDot2h (f : XaF) (s : State) : Out := s.laneXA (.dot2h f) 8 specDot2h f bodyRetired

end Sys2Proof.Machine
end

