-- ==== Sys2Proof/Machine/LaneMove.lean ====
section
/-! DEFINITION. Moves, masks, `exec` and handler lane access, majors 0x03 and 0x04 (06 R162 to R164). -/
namespace Sys2Proof.Machine

/-- MOV (R162). -/
def opMov (f : XaF) (w : Wave) (l : Nat) : Nat := f.aT 6 w l

/-- The active lanes at which a condition holds. -/
def lanesWhere (w : Wave) (act : Nat) (p : Nat → Bool) : List Nat := (lanesOf act w.lanes).filter p

/-- REG_ALLOC for the lanes whose register index is 8G or more (R136, R162). DETAIL has room for one index of 9 bits: it is
that of the lowest such lane, modulo 512, DESIGN CHOICE (entry 13). -/
def State.indexCheck (s : State) (act : Nat) (ix : Nat → Nat) : R Unit :=
  match lanesWhere s.w act (fun l => decide (ix l ≥ 8 * s.w.g)) with
  | [] => .ok ()
  | l :: rest => .error (.trap causeReg (maskOf (l :: rest)) 0 ((ix l % 512) <<< 11))

/-- MOVREL: v(A + b) of each lane (R162). -/
def bodyMovrel (s : State) (words : Nat) (sp : XaSpec) (f : XaF) : R State := do
  let act := s.w.active f.kmask.toNat
  let ix (l : Nat) : Nat := f.a9.toNat + f.bT 6 s.w l
  s.laneReady [f.b9.toNat] (xaDsts sp f)
  s.regCheck act (vRegs [f.d9.toNat, f.b9.toNat])
  s.indexCheck act ix
  s.laneReady ((lanesOf act s.w.lanes).map ix) []
  s.laneForm words { sp with a := .none } f [] (fun w act => w.writeDst f.d9.toNat act (fun l => w.getV (ix l) l))

/-- MOVRELW: v(D + b) of each lane := a; a is read before any write (R162). -/
def bodyMovrelw (s : State) (words : Nat) (sp : XaSpec) (f : XaF) : R State := do
  let act := s.w.active f.kmask.toNat
  let ix (l : Nat) : Nat := f.d9.toNat + f.bT 6 s.w l
  s.laneReady [f.a9.toNat, f.b9.toNat] []
  s.regCheck act (vRegs [f.a9.toNat, f.b9.toNat])
  s.indexCheck act ix
  s.laneReady [] ((lanesOf act s.w.lanes).map ix)
  s.laneForm words { sp with d := .none } f []
    (fun w act => (lanesOf act w.lanes).foldl (fun (acc : Wave) l => acc.setV (ix l) l (f.aT 6 w l)) w)

/-- GETEXEC's value in a lane (R163). -/
def opGetexec (_ : XaF) (w : Wave) (l : Nat) : Nat :=
  if w.width = 16 then bits w.exec (l / 16 * 16) 16 else w.exec % 2 ^ 32

/-- GETEXEC's effect (R163). -/
def getexecEff (f : XaF) (w : Wave) (act : Nat) : Wave :=
  if f.imm8.getLsbD 7 then w.setK (f.d9.toNat % 8) w.exec
  else
    let w' := w.writeDst f.d9.toNat act (opGetexec f w)
    if w.width = 64 then w'.setLanes (f.d9.toNat + 1) (lanesOf act w.lanes) (fun _ => w.exec >>> 32) else w'

/-- GETEXEC's body: at width 64 a lane destination is v0 to v318. -/
def bodyGetexec (s : State) (words : Nat) (sp : XaSpec) (f : XaF) : R State :=
  let act := s.w.active f.kmask.toNat
  if !f.imm8.getLsbD 7 && decide (s.w.width = 64 ∧ f.d9.toNat > 318) then .error (.trap causeOperand act 0 0)
  else s.laneForm words (if s.w.width = 64 ∧ sp.d ≠ .kreg then { sp with d := .vpair } else sp) f [] (getexecEff f)

/-- The source lane of a group: its lowest active lane, or its first lane (R163). -/
def groupSource (w : Wave) (g size : Nat) : Nat :=
  ((lanesOf w.exec w.lanes).find? (fun l => decide (g ≤ l ∧ l < g + size))).getD g

/-- The new `exec` of SETEXEC (R163). -/
def setexecVal (f : XaF) (w : Wave) : Nat :=
  if f.imm8.getLsbD 6 then w.getK (f.a9.toNat % 8)
  else if w.width = 64 then w.src64 f.lit f.a9.toNat (groupSource w 0 64)
  else if w.width = 16 then
    f.aT 6 w (groupSource w 0 16) % 2 ^ 16 + (f.aT 6 w (groupSource w 16 16) % 2 ^ 16) * 2 ^ 16
  else f.aT 6 w (groupSource w 0 32)

/-- SETEXEC's body: at width 64 a lane source is v0 to v318. -/
def bodySetexec (s : State) (words : Nat) (sp : XaSpec) (f : XaF) : R State :=
  if !f.imm8.getLsbD 6 && decide (s.w.width = 64 ∧ f.a9.toNat > 318) then
    .error (.trap causeOperand s.w.exec 0 (1 <<< 11))
  else
    s.laneForm words (if s.w.width = 64 ∧ sp.a = .any then { sp with a := .vpair } else sp) f []
      (fun w _ => { w with exec := setexecVal f w })

/-- VRDL, VWRL, RDLEAD and WRLEAD are legal only in a handler (R164; 17 R399). -/
def Wave.inHandler (w : Wave) : Option EncFault := faultIf (!w.inTrap) (.opcode 6)

/-- A lane number beyond the wave's lanes raises ILLEGAL_OPERAND for its lanes; `which` is the field (R164). -/
def State.laneNumCheck (s : State) (act which : Nat) (ln : Nat → Nat) : R Unit :=
  match lanesWhere s.w act (fun l => decide (ln l ≥ s.w.lanes)) with
  | [] => .ok ()
  | l :: rest => .error (.trap causeOperand (maskOf (l :: rest)) 0 (which <<< 11))

/-- VRDL: register v(a) of lane b (R164). -/
def bodyVrdl (s : State) (words : Nat) (sp : XaSpec) (f : XaF) : R State := do
  let act := s.w.active f.kmask.toNat
  s.laneReady (s.w.xaSrcs sp f) (xaDsts sp f)
  s.laneNumCheck act 2 (f.bT 6 s.w)
  s.regCheck act (vRegs (xaDsts sp f ++ s.w.xaSrcs sp f))
  s.indexCheck act (f.aT 6 s.w)
  s.laneReady ((lanesOf act s.w.lanes).map (f.aT 6 s.w)) []
  s.laneMap words sp f (fun w l => w.getV (f.aT 6 w l) (f.bT 6 w l))

/-- VWRL: register v(b) of lane c := a; the higher writer's value stands (R164). -/
def bodyVwrl (s : State) (words : Nat) (sp : XaSpec) (f : XaF) : R State := do
  let act := s.w.active f.kmask.toNat
  s.laneReady (s.w.xaSrcs sp f) []
  s.laneNumCheck act 3 (f.cT 6 s.w)
  s.regCheck act (vRegs (s.w.xaSrcs sp f))
  s.indexCheck act (f.bT 6 s.w)
  s.laneReady [] ((lanesOf act s.w.lanes).map (f.bT 6 s.w))
  s.laneForm words sp f [] (fun w act =>
    (lanesOf act w.lanes).foldl (fun (acc : Wave) l => acc.setV (f.bT 6 w l) (f.cT 6 w l) (f.aT 6 w l)) w)

/-! ## Mask registers (R162, 03 R64) -/

/-- A field that names a mask register holds 0 to 7. -/
def kField (i : BitVec 7) : Option EncFault := faultIf (decide (i.toNat ≥ 8)) (.opcode 2)

/-- The fault of a mask form: a literal has no place; KNOT and KMOV leave `b` zero. -/
def legalK (useB : Bool) (f : BaF) : Option EncFault :=
  opcodeFirst [faultIf f.lit.isSome (.opcode 4), kField f.d, kField f.a, if useB then kField f.b else zeroField (f.b != 0#7)]

/-- A mask form: every bit of the destination is written, whatever `exec` holds. -/
def State.maskForm (s : State) (i : Instr) (useB : Bool) (f : BaF) (op : Nat → Nat → Nat) : Out :=
  s.issue i (some .lane) 0 4 (legalK useB f) (fun s =>
    .ok ((s.modW (fun w => w.setK (f.d.toNat % 8) (op (w.getK (f.a.toNat % 8)) (w.getK (f.b.toNat % 8))))).advance
      (baWords f)))

/-- KAND (R162). -/
def execKand (f : BaF) (s : State) : Out := s.maskForm (.kand f) true f (fun a b => a &&& b)
/-- KOR (R162). -/
def execKor (f : BaF) (s : State) : Out := s.maskForm (.kor f) true f (fun a b => a ||| b)
/-- KXOR (R162). -/
def execKxor (f : BaF) (s : State) : Out := s.maskForm (.kxor f) true f (fun a b => a ^^^ b)
/-- KNOT (R162). -/
def execKnot (f : BaF) (s : State) : Out := s.maskForm (.knot f) false f (fun a _ => (2 ^ 64 - 1) ^^^ a)
/-- KMOV (R162). -/
def execKmov (f : BaF) (s : State) : Out := s.maskForm (.kmov f) false f (fun a _ => a)

/-- MOV, base form (R162). -/
def execMovBA (f : BaF) (s : State) : Out := s.laneBA (.movBA f) 4 specMov 6 f (mapBody opMov)
/-- MOV, extended form (R162). -/
def execMovXA (f : XaF) (s : State) : Out := s.laneXA (.movXA f) 4 specMov f (mapBody opMov)
/-- MOVREL (R162). -/
def execMovrel (f : XaF) (s : State) : Out := s.laneXA (.movrel f) 4 specMovrel f bodyMovrel
/-- MOVRELW (R162). -/
def execMovrelw (f : XaF) (s : State) : Out := s.laneXA (.movrelw f) 4 specMovrelw f bodyMovrelw
/-- GETEXEC, base form (R163). -/
def execGetexecBA (f : BaF) (s : State) : Out := s.laneBA (.getexecBA f) 4 specGetexec 6 f bodyGetexec
/-- GETEXEC, extended form (R163). -/
def execGetexecXA (f : XaF) (s : State) : Out := s.laneXA (.getexecXA f) 4 specGetexec f bodyGetexec
/-- SETEXEC, base form (R163). -/
def execSetexecBA (f : BaF) (s : State) : Out := s.laneBA (.setexecBA f) 4 specSetexec 6 f bodySetexec
/-- SETEXEC, extended form (R163). -/
def execSetexecXA (f : XaF) (s : State) : Out := s.laneXA (.setexecXA f) 4 specSetexec f bodySetexec
/-- VRDL (R164). -/
def execVrdl (f : XaF) (s : State) : Out := s.laneXAIf (.vrdl f) 4 specVrdl f s.w.inHandler bodyVrdl
/-- VWRL (R164). -/
def execVwrl (f : XaF) (s : State) : Out := s.laneXAIf (.vwrl f) 4 specVwrl f s.w.inHandler bodyVwrl

end Sys2Proof.Machine
end

