-- ==== Sys2Proof/Machine/System.lean ====
section
/-! DEFINITION. The instructions of major 0x3E and the special registers they reach (04 R99 to R102; 17 R399 to R405; 18
R408; 20 R439). -/
namespace Sys2Proof.Machine

/-! ## Special registers (04 R99 to R102) -/

/-- The special registers of 64 bits (17 R402). -/
def isWideSr (n : Nat) : Bool := [0x00A, 0x00B, 0x00C, 0x00D, 0x00F, 0x010, 0x011].contains n

/-- A special register that a wave reads; none for a number that no row allows (04 R99, R100). -/
def State.readSr (s : State) (n : Nat) : Option Nat :=
  let w := s.w
  match n with
  | 0x000 => some w.waveid
  | 0x001 => some w.key.blk
  | 0x002 => some w.key.node
  | 0x003 => some w.role
  | 0x004 => some w.pcls
  | 0x005 => some w.width
  | 0x006 => some w.poolpart
  | 0x007 => some w.rnd
  | 0x008 => some w.wstat
  | 0x009 => some w.tcause
  | 0x00A => some w.tpclead
  | 0x00B => some w.tpclane
  | 0x00C => some w.flanes
  | 0x00D => some w.taddr
  | 0x00E => some w.tinfo
  | 0x00F => some w.helper
  | 0x010 => some s.timen
  | 0x011 => some w.cyc
  | 0x012 => some (s.core w.core).mxnan
  | 0x013 => some (s.core w.core).mxovf
  | 0x020 => some (s.cluster (clusterOf w.core)).throttle
  | 0x021 => some s.bootstage
  | _ => if 0x018 ≤ n ∧ n ≤ 0x01F then some (s.retcnt.getD (n - 0x018) 0) else none

/-- A special register that the management core reads (04 R102; 18 R408). -/
def State.readMgmt (s : State) (n : Nat) : Option Nat :=
  let c := s.cluster s.csel
  match n with
  | 0x009 => some s.w.tcause
  | 0x00A => some s.w.tpclead
  | 0x00D => some s.w.taddr
  | 0x00E => some s.w.tinfo
  | 0x010 => some s.timen
  | 0x021 => some s.bootstage
  | 0x060 => some s.talert
  | 0x061 => some s.tlimit
  | 0x062 => some s.csel
  | 0x063 => some c.temp
  | 0x064 => some c.throttle
  | 0x065 => some c.cbias
  | 0x066 => some (wrapN c.bucket 32)
  | 0x067 => some c.step
  | 0x068 => some s.cbmax
  | 0x069 => some s.droopcnt
  | 0x06A => some ((s.die 0).cbrot + 256 * (s.die 1).cbrot)
  | _ =>
    if 0x018 ≤ n ∧ n ≤ 0x01F then some (s.retcnt.getD (n - 0x018) 0)
    else if 0x040 ≤ n ∧ n < 0x058 then some (s.cluster (n - 0x040)).throttle
    else if 0x080 ≤ n ∧ n < 0x140 then some (s.core (n - 0x080)).mxnan
    else if 0x140 ≤ n ∧ n < 0x200 then some (s.core (n - 0x140)).mxovf
    else none

/-- A write of a THROTTLE: 7 is held as 6, and it governs the next cycle on (04 R101; Cluster.refill). -/
def State.writeThrottle (s : State) (g v : Nat) : State := s.modCluster g (fun c => { c with throttle := min v 6 })
/-- A write of TALERT clears the bits written as 1, but those that a sample of the same cycle has set (18 R408, R417). -/
def State.writeTalert (s : State) (v : Nat) : State :=
  let new := maskOf ((s.clusters.zipIdx.filter (fun p => p.1.alerted)).map (fun p => p.2))
  { s with talert := s.talert &&& (((2 ^ 24 - 1) ^^^ v % 2 ^ 24) ||| new) }
/-- A write of a body bias idles the cluster from the next cycle until the generator settles (18 R407). -/
def State.writeCbias (s : State) (g v : Nat) : State := s.modCluster g (fun c => { c with cbias := v % 8, settling := true })
/-- A write of CBMAX: it lowers a higher step in the next cycle (18 R412; Cluster.refill). -/
def State.writeCbmax (s : State) (v : Nat) : State := { s with cbmax := v }

/-- The largest value plus one that a wave may write to a register (17 R402: a field's limits). -/
def srLimit (w : Wave) (n : Nat) : Nat :=
  match n with
  | 0x007 => 7
  | 0x009 => 2 ^ 10
  | 0x00C => 2 ^ w.lanes
  | 0x00E => 2 ^ 32
  | _ => 2 ^ 64

/-- The least value that the management core may write (18 R408). -/
def mgmtLow (n : Nat) : Nat := if n = 0x068 then 1 else 0

/-- The largest value plus one that the management core may write (04 R102; 18 R408). -/
def mgmtLimit (n : Nat) : Nat :=
  match n with
  | 0x009 => 2 ^ 10
  | 0x00A | 0x00D => 2 ^ 64
  | 0x021 => 4
  | 0x060 => 2 ^ 24
  | 0x061 => 2 ^ 12
  | 0x062 => 24
  | 0x064 | 0x065 => 8
  | 0x068 => 17
  | _ => if 0x040 ≤ n ∧ n < 0x058 then 8 else 2 ^ 32

/-- A wave may write the register now (04 R100). -/
def waveWrites (w : Wave) (st : Stream) (n : Nat) : Bool :=
  (n == 0x007 && decide (st = .lane)) || (decide (0x009 ≤ n ∧ n ≤ 0x00E) && w.inTrap)

/-- The management core may write the register (04 R102; 18 R408). -/
def mgmtWrites (n : Nat) : Bool :=
  [0x009, 0x00A, 0x00D, 0x00E, 0x021, 0x060, 0x061, 0x062, 0x064, 0x065, 0x068].contains n
  || decide ((0x018 ≤ n ∧ n ≤ 0x01F) ∨ (0x040 ≤ n ∧ n < 0x058) ∨ (0x080 ≤ n ∧ n < 0x200))

/-- A register of the issuing wave, or of the device, stored (04 R99 to R102). -/
def State.writeSr (s : State) (n v : Nat) : State :=
  match n with
  | 0x007 => s.modW (fun w => { w with rnd := v })
  | 0x009 => s.modW (fun w => { w with tcause := v })
  | 0x00A => s.modW (fun w => { w with tpclead := v })
  | 0x00B => s.modW (fun w => { w with tpclane := v })
  | 0x00C => s.modW (fun w => { w with flanes := v })
  | 0x00D => s.modW (fun w => { w with taddr := v })
  | 0x00E => s.modW (fun w => { w with tinfo := v })
  | 0x021 => { s with bootstage := v }
  | 0x060 => s.writeTalert v
  | 0x061 => { s with tlimit := v }
  | 0x062 => { s with csel := v }
  | 0x064 => s.writeThrottle s.csel v
  | 0x065 => s.writeCbias s.csel v
  | 0x068 => s.writeCbmax v
  | _ =>
    if 0x018 ≤ n ∧ n ≤ 0x01F then { s with retcnt := setAt s.retcnt (n - 0x018) v }
    else if 0x040 ≤ n ∧ n < 0x058 then s.writeThrottle (n - 0x040) v
    else if 0x080 ≤ n ∧ n < 0x140 then s.modCore (n - 0x080) (fun c => { c with mxnan := (v + c.nanNow) % 2 ^ 32 })
    else if 0x140 ≤ n ∧ n < 0x200 then s.modCore (n - 0x140) (fun c => { c with mxovf := (v + c.ovfNow) % 2 ^ 32 })
    else s

/-! ## Encodings (17 R399, R402, R403) -/

/-- Which of the fields that R399 gives a form it uses. -/
structure SysUse where
  sel : Bool
  imm : Bool
  d : Bool
  a : Bool
deriving DecidableEq, Repr

/-- Fields that must be zero in a form of major 0x3E. -/
def sysZero (u : SysUse) (st : Stream) (f : XsF) : List (Option EncFault) :=
  [ zeroField (f.xop != 0#5), zeroField (f.c9 != 0#9), zeroField (f.order != 0#4), zeroField (f.imm8 != 0#8),
    zeroField (f.rsvd1 != 0#4), zeroField (f.rsvd2 != 0#4), zeroField (f.b9 != 0#9),
    zeroField (decide (st = .lead) && f.kmask != 0#3), zeroField (!u.sel && f.sel9 != 0#9),
    zeroField (!u.imm && f.imm12 != 0#12), zeroField (!u.d && f.d9 != 0#9), zeroField (!u.a && f.a9 != 0#9) ]

/-- No literal. -/
def noLit (f : XsF) : Option EncFault := faultIf f.lit.isSome (.opcode 4)

/-- A lane destination of a special register: any lane destination (03 R59), or a pair v0 to v318 of a wide one (R402). -/
def srDstFault (wide : Bool) (i : BitVec 9) : Option EncFault :=
  match laneIx i.toNat with
  | .reserved => some (.opcode 1)
  | .v n => faultIf (wide && decide (n > 318)) (.operand 0)
  | .rq | .zero => faultIf wide (.operand 0)
  | _ => some (.operand 0)

/-- A lane source read under the 64-bit rule (R402). -/
def wideSrcFault (i : BitVec 9) : Option EncFault :=
  match laneIx i.toNat with
  | .reserved => some (.opcode 1)
  | .v n => faultIf (decide (n > 318)) (.operand 1)
  | .c n => faultIf (decide (n > 30)) (.operand 1)
  | .lit | .imm _ => none
  | _ => some (.operand 1)

/-- TRAP, YIELD. -/
def legalImm (st : Stream) (f : XsF) : Option EncFault :=
  opcodeFirst (noLit f :: sysZero { sel := false, imm := true, d := false, a := false } st f)
/-- ERET. -/
def legalEret (st : Stream) (f : XsF) : Option EncFault :=
  opcodeFirst (noLit f :: sysZero { sel := false, imm := false, d := false, a := false } st f)
/-- RDSR (R402). -/
def legalRdsr (st : Stream) (f : XsF) : Option EncFault :=
  opcodeFirst (noLit f :: litDst f.lit f.d9 :: (match st with
    | .lead => leadDstFault (leadIx9 f.d9.toNat)
    | .lane => srDstFault (isWideSr f.sel9.toNat) f.d9) ::
    sysZero { sel := true, imm := false, d := true, a := false } st f)
/-- WRSR (R402). -/
def legalWrsr (st : Stream) (f : XsF) : Option EncFault :=
  let wide := isWideSr f.sel9.toNat
  opcodeFirst ((match st with
    | .lead => leadSrcFault (leadIx9 f.a9.toNat)
    | .lane => if wide then wideSrcFault f.a9 else anySrcFault f.a9.toNat 1) ::
    litFault f.lit (isLitIx f.a9) (if wide || decide (st = .lead) then 64 else 32) ::
    sysZero { sel := true, imm := false, d := false, a := true } st f)
/-- RDLEAD (R403). -/
def legalRdlead (st : Stream) (f : XsF) : Option EncFault :=
  opcodeFirst (noLit f :: litDst f.lit f.d9 :: srDstFault true f.d9 :: badValue (decide (f.sel9.toNat > 63)) ::
    sysZero { sel := true, imm := false, d := true, a := false } st f)
/-- WRLEAD (R403). -/
def legalWrlead (st : Stream) (f : XsF) : Option EncFault :=
  opcodeFirst (wideSrcFault f.a9 :: badValue (decide (f.sel9.toNat > 63)) :: litFault f.lit (isLitIx f.a9) 64 ::
    sysZero { sel := true, imm := false, d := false, a := true } st f)
/-- SLEEP (R404). -/
def legalSleep (st : Stream) (f : XsF) : Option EncFault :=
  opcodeFirst (sourceFault st f.a9 1 :: litFault f.lit (isLitIx f.a9) (if st = .lead then 64 else 32) ::
    sysZero { sel := false, imm := false, d := false, a := true } st f)

/-! ## TRAP, ERET (R400, R401) -/

/-- TRAP raises TRAP_INSTR (R400). -/
def execTrap (f : XsF) (s : State) : Out :=
  s.issue (.trap f) none f.kmask.toNat 8 (legalImm s.st f) (fun s =>
    .error (.trap causeTrap (s.encLanes f.kmask.toNat) 0 (f.imm12.toNat <<< 11)))

/-- RETURNING FROM A HANDLER (R401): `exec` from the call entry on top, INTRAP down, both streams resumed from the trap
registers as they stand. A fault reports the active lanes (R405). -/
def State.leaveHandler (s : State) (flanes : Nat) : R State :=
  match s.refill flanes with
  | .error x => .error x
  | .ok s =>
    match s.w.stack with
    | [] => .error (.trap causeOperand flanes 0 0)
    | e :: rest =>
      if e.kind ≠ kindCall then .error (.trap causeOperand flanes 0 0)
      else
        .ok (s.modW (fun w =>
          { w with
            exec := e.mask, stack := rest, inTrap := false, laneDone := decide (w.tpclane = donePc), lanePc := w.tpclane,
            leadPc := if w.leadDone then w.leadPc else w.tpclead }))

/-- ERET of the management core (20 R439). -/
def State.mgmtReturn (s : State) : State := { s.modW (fun w => { w with leadPc := w.tpclead }) with mgmtIe := true }

/-- ERET: in the lane stream of a handler, or on the management core (R399, R401). -/
def eretBody (f : XsF) (s : State) : R State :=
  if s.w.mgmt then .ok s.mgmtReturn else s.leaveHandler (s.encLanes f.kmask.toNat)

/-- Where ERET is legal (R399). -/
def State.eretHere (s : State) : Option EncFault :=
  if s.w.mgmt then none else if s.st = .lead then some (.opcode 3) else s.w.inHandler

/-- ERET (R401). -/
def execEret (f : XsF) (s : State) : Out :=
  s.issue (.eret f) none f.kmask.toNat 8 (opcodeFirst [legalEret s.st f, s.eretHere]) (eretBody f)

/-! ## RDSR, WRSR (R402) -/

/-- The value that RDSR reads, or the fault of its number. -/
def State.srValue (s : State) (f : XsF) : R Nat :=
  match (if s.w.mgmt then s.readMgmt f.sel9.toNat else s.readSr f.sel9.toNat) with
  | some v => .ok v
  | none => .error (.trap causeOperand (s.encLanes f.kmask.toNat) 0 (3 <<< 11))

/-- RDSR (R402): the lane stream does nothing with no lane active (R399). -/
def rdsrBody (f : XsF) (s : State) : R State := do
  let v ← s.srValue f
  match s.st with
  | .lead =>
    let d := leadIx9 f.d9.toNat
    s.leadOk [] (leadDst d)
    .ok ((s.modW (fun w => w.writeLead d v)).advance 3)
  | .lane =>
    let d := f.d9.toNat
    let act := s.w.active f.kmask.toNat
    match lowestLane act s.w.lanes with
    | none => .ok (s.advance 3)
    | some _ =>
      let ls := lanesOf act s.w.lanes
      if isWideSr f.sel9.toNat then
        s.laneReady [] [d, d + 1]
        s.regCheck act [d, d + 1]
        .ok ((s.modW (fun w => (w.setLanes d ls (fun _ => v)).setLanes (d + 1) ls (fun _ => v / 2 ^ 32))).advance 3)
      else
        s.laneReady [] [d]
        s.regCheck act (vRegs [d])
        .ok ((s.modW (fun w => w.writeDst d act (fun _ => v))).advance 3)

/-- RDSR (R402). -/
def execRdsr (f : XsF) (s : State) : Out := s.issue (.rdsr f) none f.kmask.toNat 8 (legalRdsr s.st f) (rdsrBody f)

/-- The number and the value of a write lie within the limits of R100, R102 and R402. -/
def State.srCheck (s : State) (f : XsF) (v : Nat) : R Unit :=
  let n := f.sel9.toNat
  let flanes := s.encLanes f.kmask.toNat
  let may := if s.w.mgmt then mgmtWrites n else waveWrites s.w s.st n
  let lo := if s.w.mgmt then mgmtLow n else 0
  let hi := if s.w.mgmt then mgmtLimit n else srLimit s.w n
  if !may then .error (.trap causeOperand flanes 0 (3 <<< 11))
  else if v < lo ∨ v ≥ hi then .error (.trap causeOperand flanes 0 (1 <<< 11))
  else .ok ()

/-- WRSR (R402): the lane stream reads its lowest active lane, and does nothing with none. -/
def wrsrBody (f : XsF) (s : State) : R State := do
  let n := f.sel9.toNat
  let may := if s.w.mgmt then mgmtWrites n else waveWrites s.w s.st n
  if !may then .error (.trap causeOperand (s.encLanes f.kmask.toNat) 0 (3 <<< 11))
  match s.st with
  | .lead =>
    let a := leadIx9 f.a9.toNat
    s.leadOk [a] []
    let v := s.w.leadVal f.lit a
    s.srCheck f v
    .ok (((s.modW (fun w => w.popRq [a])).writeSr n v).advance (xsWords f))
  | .lane =>
    let act := s.w.active f.kmask.toNat
    match lowestLane act s.w.lanes with
    | none => .ok (s.advance (xsWords f))
    | some l =>
      let srcs := if isWideSr n then wideSrc f.a9.toNat 2 else [f.a9.toNat]
      s.laneReady srcs []
      s.regCheck act (vRegs srcs)
      let v := if isWideSr n then s.w.src64 f.lit f.a9.toNat l else s.w.src f.lit f.a9.toNat l
      s.srCheck f v
      .ok (((s.modW (fun w => w.popUsed srcs)).writeSr n v).advance (xsWords f))

/-- WRSR (R402). -/
def execWrsr (f : XsF) (s : State) : Out := s.issue (.wrsr f) none f.kmask.toNat 8 (legalWrsr s.st f) (wrsrBody f)

/-! ## RDLEAD, WRLEAD (R403) -/

/-- RDLEAD, in a handler; it does nothing with no lane active (R399, R403). -/
def rdleadBody (f : XsF) (s : State) : R State := do
  let n := f.sel9.toNat
  let d := f.d9.toNat
  let act := s.w.active f.kmask.toNat
  match lowestLane act s.w.lanes with
  | none => .ok (s.advance 3)
  | some _ =>
    s.leadReady [.s n] []
    s.laneReady [] [d, d + 1]
    s.regCheck act [d, d + 1]
    s.sregCheck [n]
    let v := s.w.getS n
    .ok ((s.modW (fun w =>
      (w.setLanes d (lanesOf act w.lanes) (fun _ => v)).setLanes (d + 1) (lanesOf act w.lanes) (fun _ => v / 2 ^ 32))).advance 3)

/-- RDLEAD (R403). -/
def execRdlead (f : XsF) (s : State) : Out :=
  s.issue (.rdlead f) (some .lane) f.kmask.toNat 8 (opcodeFirst [legalRdlead .lane f, s.w.inHandler]) (rdleadBody f)

/-- WRLEAD, in a handler (R399, R403). -/
def wrleadBody (f : XsF) (s : State) : R State := do
  let n := f.sel9.toNat
  let act := s.w.active f.kmask.toNat
  match lowestLane act s.w.lanes with
  | none => .ok (s.advance (xsWords f))
  | some l =>
    let srcs := wideSrc f.a9.toNat 2
    s.leadReady [] [n]
    s.laneReady srcs []
    s.regCheck act (vRegs srcs)
    s.sregCheck [n]
    let v := s.w.src64 f.lit f.a9.toNat l
    .ok ((s.modW (fun w => w.setS n v)).advance (xsWords f))

/-- WRLEAD (R403). -/
def execWrlead (f : XsF) (s : State) : Out :=
  s.issue (.wrlead f) (some .lane) f.kmask.toNat 8 (opcodeFirst [legalWrlead .lane f, s.w.inHandler]) (wrleadBody f)

/-! ## YIELD, SLEEP (R404) -/

/-- Cycles a YIELD keeps in its stream's count: one more than n, so that the stream is ready after n of them; none for 0. -/
def yieldCount (n : Nat) : Nat := if n = 0 then 0 else n + 1

/-- YIELD (R404). -/
def yieldBody (f : XsF) (s : State) : R State :=
  let n := yieldCount f.imm12.toNat
  let now := s.cycleOf s.w.core
  .ok ((s.modW (fun w =>
    match s.st with
    | .lead => { w with yieldLead := n, ageLead := now }
    | .lane => { w with yieldLane := n, ageLane := now })).advance 3)

/-- YIELD (R404). -/
def execYield (f : XsF) (s : State) : Out := s.issue (.yield f) none f.kmask.toNat 8 (legalImm s.st f) (yieldBody f)

/-- SLEEP: its stream is not ready until TIMEN reaches now plus the duration (R404). -/
def sleepBody (f : XsF) (s : State) : R State := do
  match s.st with
  | .lead =>
    let a := leadIx9 f.a9.toNat
    s.leadOk [a] []
    let t := s.w.leadVal f.lit a
    if t ≥ 2 ^ 32 then .error (.trap causeOperand 0 0 (1 <<< 11))
    let till := s.timen + t
    .ok ((s.modW (fun w => { (w.popRq [a]) with sleepLead := some till })).advance (xsWords f))
  | .lane =>
    let act := s.w.active f.kmask.toNat
    match lowestLane act s.w.lanes with
    | none => .ok (s.advance (xsWords f))
    | some l =>
      let srcs := [f.a9.toNat]
      s.laneReady srcs []
      s.regCheck act (vRegs srcs)
      let till := s.timen + s.w.src f.lit f.a9.toNat l
      .ok ((s.modW (fun w => { (w.popUsed srcs) with sleepLane := some till })).advance (xsWords f))

/-- SLEEP (R404). -/
def execSleep (f : XsF) (s : State) : Out := s.issue (.sleep f) none f.kmask.toNat 8 (legalSleep s.st f) (sleepBody f)

/-- SLEEP_EXPIRY: TIMEN has reached the end of a sleep (R404). -/
def sleepEnd (st : Stream) (timen : Nat) (w : Wave) : Wave :=
  let overB (t : Option Nat) : Bool := match t with | some x => decide (x ≤ timen) | none => false
  match st with
  | .lead => if overB w.sleepLead then { w with sleepLead := none } else w
  | .lane => if overB w.sleepLane then { w with sleepLane := none } else w

/-- SLEEP_EXPIRY (R404). -/
def execSleepExpiry (c : Nat) (slot : Nat) (st : Stream) (s : State) : Out := .next (s.modWave c slot (sleepEnd st s.timen))

/-- YIELD_EXPIRY: the count of a YIELD has run out; the stream's readiness age restarts (R404). -/
def yieldEnd (st : Stream) (cycle : Nat) (w : Wave) : Wave :=
  match st with
  | .lead => if w.yieldLead = 1 then { w with yieldLead := 0, ageLead := cycle } else w
  | .lane => if w.yieldLane = 1 then { w with yieldLane := 0, ageLane := cycle } else w

/-- YIELD_EXPIRY (R404). -/
def execYieldExpiry (c : Nat) (slot : Nat) (st : Stream) (s : State) : Out := .next (s.modWave c slot (yieldEnd st (s.cycleOf c)))

/-! ## Register writes as steps of their own (04 R101, R102; 18 R407, R408, R412) -/

/-- RNDMODE_WRITE (04 R101). -/
def execRndmodeWrite (v : BitVec 3) (s : State) : Out :=
  .next (if waveWrites s.w .lane 0x007 && decide (v.toNat < 7) then s.writeSr 0x007 v.toNat else s)
/-- THROTTLE_WRITE (04 R101). -/
def execThrottleWrite (g : Nat) (v : BitVec 3) (s : State) : Out := .next (s.writeThrottle g v.toNat)
/-- TALERT_WRITE (18 R408). -/
def execTalertWrite (v : BitVec 24) (s : State) : Out := .next (s.writeTalert v.toNat)
/-- CBIAS_WRITE (18 R407). -/
def execCbiasWrite (g : Nat) (v : BitVec 3) (s : State) : Out := .next (s.writeCbias g v.toNat)
/-- CBMAX_WRITE (18 R412). -/
def execCbmaxWrite (v : BitVec 5) (s : State) : Out :=
  .next (if 1 ≤ v.toNat ∧ v.toNat ≤ 16 then s.writeCbmax v.toNat else s)
/-- SPECIAL_REGISTER_WRITE (04 R102): of the wave or core that issues. -/
def execSpecialRegisterWrite (n : BitVec 9) (v : Dword) (s : State) : Out :=
  let may := if s.w.mgmt then mgmtWrites n.toNat else waveWrites s.w s.st n.toNat
  let lo := if s.w.mgmt then mgmtLow n.toNat else 0
  let hi := if s.w.mgmt then mgmtLimit n.toNat else srLimit s.w n.toNat
  .next (if may && decide (lo ≤ v.toNat ∧ v.toNat < hi) then s.writeSr n.toNat v.toNat else s)

end Sys2Proof.Machine
end

