-- ==== Sys2Proof/Machine/Host.lean ====
section
/-! DEFINITION. The host link: interrupts, error logs, the fault queue, BAR0 and BAR2, sensor streams, and the interrupts of
the management core; declaring an agent dead; DRAM errors and Saddle (10 R225, R228 to R231; 13 R314; 20 R430, R431, R437
to R439, R442 to R445). -/
namespace Sys2Proof.Machine

/-! ## Interrupts and logs (20 R439, R445) -/

/-- An MSI-X message of a vector raised. -/
def State.raiseMsix (s : State) (v : Nat) : State := { s with msix := modAt s.msix v (fun x => x + 1) }
/-- An interrupt source of the management core made pending. -/
def State.raiseInt (s : State) (src : Nat) : State := { s with mgmtPending := insertAsc src s.mgmtPending }

/-- An entry put into a ring of 256 that has counted n. -/
def logPut (l : List LogEntry) (n : Nat) (e : LogEntry) : List LogEntry := if l.length < 256 then l ++ [e] else setAt l (n % 256) e

/-- An array-log entry written (R445). -/
def State.logArray (s : State) (lo : Nat) : State :=
  (({ s with arrayLog := logPut s.arrayLog s.arrayCount { lo := lo, time := s.timen }, arrayCount := (s.arrayCount + 1) % 2 ^ 32 } : State).raiseInt
    3).raiseMsix 2

/-- A transfer-log entry written (R445). -/
def State.logXfer (s : State) (lo : Nat) : State :=
  (({ s with xferLog := logPut s.xferLog s.xferCount { lo := lo, time := s.timen }, xferCount := (s.xferCount + 1) % 2 ^ 32 } : State).raiseInt
    3).raiseMsix 2

/-- MGMT_INTERRUPT (R439): the lowest pending source is taken between instructions, while interrupts are enabled; it ends a
sleep (17 R404). -/
def execMgmtInterrupt (s : State) : Out :=
  .next (match s.mgmtPending with
    | src :: rest =>
      if s.mgmtIe && !s.mgmtHalted then
        ({ s with mgmtPending := rest, mgmtIe := false } : State).modWave 192 0 (fun w =>
          { w with tpclead := w.leadPc, tcause := 0x40 + src, leadPc := 0x100 + 0x40 * src, sleepLead := none })
      else s
    | [] => s)

/-! ## Stacked-DRAM integrity (R443, R444) and Saddle (R442) -/

/-- A line of a die's stacked DRAM. -/
def inStacked (line : Nat) : Bool := inRange line (stackedBase 0) stackedSize || inRange line (stackedBase 1) stackedSize
/-- The layer of an address (15 R339). -/
def layerOf (pa : Nat) : Nat := bits pa 10 3
/-- The PA of a burst of a line. -/
def burstPa (line burst : Nat) : Nat := lineOf line + 32 * (burst % 4)

/-- A line poisoned. -/
def State.poison (s : State) (line : Nat) : State := s.modDir line (fun d => { d with poison := true })

/-- An array-log word. -/
def arrayWord (pa sym kind : Nat) : Nat :=
  pa % 2 ^ 48 + sym % 128 * 2 ^ 48 + kind * 2 ^ 55 + resetHome pa * 2 ^ 56 + layerOf pa * 2 ^ 57

/-- HOME_MISS_FILL of a line (10 R214): the bytes come from the Basin cache or DRAM, which the model's memory is; array ECC
corrects a symbol, or poisons the line (R443). -/
def homeMissFillStep (line : Nat) (ecc : EccOutcome) (s : State) : State :=
  let l := lineOf line
  if !inStacked l then s
  else
    match ecc with
    | .clean => s
    | .corrected b sym => if sym < 68 then s.logArray (arrayWord (burstPa l b) sym 0) else s
    | .uncorrectable b sym => if sym < 68 then (s.poison l).logArray (arrayWord (burstPa l b) sym 1) else s

/-- HOME_MISS_FILL (10 R214). -/
def execHomeMissFill (line : Nat) (ecc : EccOutcome) (s : State) : Out := .next (homeMissFillStep line ecc s)

/-- A transfer-log word. -/
def xferWord (pa beat wire retries kind die : Nat) : Nat :=
  pa % 2 ^ 48 + beat % 4 * 2 ^ 48 + wire % 64 * 2 ^ 50 + retries % 8 * 2 ^ 56 + kind * 2 ^ 59 + die * 2 ^ 61

/-- The spare lanes of a layer's bus in use. -/
def State.sparesOf (s : State) (x : Nat) : Nat := mapGet 0 s.spares x

/-- BURST_PARITY_ERROR (R444): a retry that succeeds is logged; after the fourth that fails the wire is swapped to a spare,
or, with none left, the line is poisoned. -/
def burstParityStep (line : Nat) (e : BurstError) (s : State) : State :=
  let l := lineOf line
  let pa := burstPa l e.burst
  let die := resetHome pa
  let bus := 8 * die + layerOf pa
  if !inStacked l then s
  else if 1 ≤ e.retries ∧ e.retries ≤ 4 then s.logXfer (xferWord pa e.beat e.wire e.retries 0 die)
  else if s.sparesOf bus < 2 then
    ({ s with spares := mapSet 0 s.spares bus (s.sparesOf bus + 1) } : State).logXfer (xferWord pa e.beat e.wire 4 1 die)
  else (s.poison l).logXfer (xferWord pa e.beat e.wire 4 2 die)

/-- BURST_PARITY_ERROR (R444). -/
def execBurstParityError (line : Nat) (e : BurstError) (s : State) : Out := .next (burstParityStep line e s)

/-- Saddle sheds lanes to half width (R442): nothing in flight is lost or reordered. -/
def State.shed (s : State) (die : Nat) : State :=
  if s.saddleHalf then s else ({ s with saddleHalf := true } : State).logXfer (xferWord 0 0 0 0 3 die)

/-- SADDLE_LANE_FAULT found by a die (R442). -/
def execSaddleLaneFault (n : Nat) (s : State) : Out := .next (s.shed (n % 2))

/-! ## Dead agents (10 R228, R229) -/

/-- A line whose partial a dead core took with it: a fold of it, the one under way or one begun now, completes with POISON
set, which the memory keeps, and with the partials of the live holders. -/
def State.poisonPartial (s : State) (line : Nat) : State :=
  let s := if (s.dirOf line).fold.isSome then s else s.foldStart line []
  s.modDir line (fun d => { d with fold := d.fold.map (fun f => { f with poison := true }) })

/-- Lines poisoned, each by its fold. -/
def State.poisonPartials (s : State) (ls : List Nat) : State :=
  match ls with
  | [] => s
  | l :: rest => (s.poisonPartial l).poisonPartials rest

/-- The lines in state C that an L1 holds, and those whose evicted partial has not reached the home. -/
def State.partialLines (s : State) (c : Nat) : List Nat :=
  ((s.core c).l1.filter (fun x => decide (x.st = .c))).map (fun x => x.line)
    ++ s.net.filterMap (fun n => match n.msg with | .evicted x l _ _ => if x = c then some l else none | _ => none)

/-- Acknowledgements that waited for a core, brought up to date. -/
def State.stopWaiting (s : State) (c : Nat) (ids : List Nat) : State :=
  match ids with
  | [] => s
  | i :: rest => ((s.recorded i c).answered i c).stopWaiting c rest

/-- The folds that wait for no core end. -/
def State.finishFolds (s : State) (ls : List Nat) : State :=
  match ls with
  | [] => s
  | l :: rest => (foldCompleteStep l s).finishFolds rest

/-- A directory entry without a dead core (R228). -/
def DirEntry.without (d : DirEntry) (c : Nat) : DirEntry :=
  { d with
    sharers := d.sharers.filter (fun x => x != c), holders := d.holders.filter (fun x => x != c)
    fold := d.fold.map (fun f => { f with cores := f.cores.filter (fun x => x != c) }) }

/-- Directory entries without a dead core: those at the homes, and those on their way to a new one. -/
def dirWithout (l : List (Nat × DirEntry)) (c : Nat) : List (Nat × DirEntry) :=
  (l.map (fun p => (p.1, p.2.without c))).filter (fun p => p.2 != DirEntry.empty)

/-- A message without a dead core in the entries that it carries. -/
def Msg.without (m : Msg) (c : Nat) : Msg :=
  match m with
  | .migrate page die es => .migrate page die (dirWithout es c)
  | m => m

/-- Nodes that lost waves (13 R305). -/
def State.countLost (s : State) (ws : List Wave) : State :=
  match ws with
  | [] => s
  | w :: rest =>
    (s.setStatus w.key.node (fun x => { x with lost := sat16 (x.lost + 1), flags := putBit x.flags 2 true })).countLost rest

/-- Blocks that lose a wave end: nothing of them can complete (entry 28). -/
def State.dropBlocks (s : State) (ks : List BKey) : State :=
  match ks with
  | [] => s
  | k :: rest =>
    (match s.block? k with
     | some b =>
       let s := { s with cores := s.cores.map (fun (c : Core) => { c with fifo := c.fifo.filter (fun e => decide (e.key ≠ k)) }) }
       s.retireBlock b
     | none => s).dropBlocks rest

/-- What a message still on its way from a dead core, or to it, becomes: nothing. -/
def Msg.withCore (m : Msg) (c : Nat) : Bool :=
  (match m.request with | some p => p.1 == c | none => false) || (match m.reply with | some p => p.1 == c | none => false)
    || (match m.coreward with | some p => p.1 == c | none => false)

/-- A CORE DECLARED DEAD (10 R228, R229). -/
def State.declareDead (s : State) (c : Nat) : State :=
  let lines := s.partialLines c
  let gone : State :=
    { s with
      net := (s.net.filter (fun n => !n.msg.withCore c)).map (fun n => { n with msg := n.msg.without c })
      handoffs := s.handoffs.filter (fun h => h.core != c)
      dir := dirWithout s.dir c }
  let s := gone.modCore c (fun x => { x with l1 := [], pend := [], fifo := [], pair := none, dead := true })
  let s := s.stopWaiting c (s.acks.map (fun a => a.id))
  let s := s.poisonPartials lines
  let s := s.finishFolds (s.dir.map (fun p => p.1))
  let lost := s.allWaves.filter (fun w => w.core == c && !w.mgmt && decide (w.status ≠ .retired))
  let keys := (s.blocks.filter (fun b => b.onCores && decide (b.core0 ≤ c ∧ c < b.core0 + b.k))).map (fun b => b.key)
  ((s.countLost lost).dropBlocks keys).drainCheck

/-- A home waits for a reply of a core. -/
def State.awaited (s : State) (c : Nat) : Bool :=
  s.acks.any (fun a => a.wait.contains c || a.pushes.contains c)
    || s.dir.any (fun p => match p.2.fold with | some f => f.cores.contains c | none => false)
    || s.net.any (fun n => match n.msg with | .notice x _ | .push x _ _ _ => x == c | _ => false)

/-- A request of a core for a line of host memory has waited for the host for 1 ms. -/
def State.hostLate (s : State) : Bool :=
  s.net.any (fun n =>
    (match n.msg.request with | some (_, l) => isHostPa l | none => false) && decide (s.timen ≥ n.sent + 1000000))

/-- The oldest request to a core still on its way was sent this long ago, in nanoseconds. -/
def State.awaitedFor (s : State) (c : Nat) : Nat :=
  let sent := s.net.filterMap (fun n =>
    match n.msg with
    | .update x _ _ _ _ | .push x _ _ _ | .notice x _ | .probe x _ => if x = c then some n.sent else none
    | _ => none)
  match minBy id sent with
  | some t => s.timen - t
  | none => 0

/-- DEAD_AGENT_TIMEOUT of core a (10 R228): a request that needs its reply has waited 100 µs. Agent 192 is the host, which is
given 1 ms for a request of a core. -/
def deadAgentStep (a : Nat) (s : State) : State :=
  if a < 192 then
    (if !(s.core a).dead && s.awaited a && decide (s.awaitedFor a ≥ 100000) then s.declareDead a else s)
  else if a = 192 && s.hostLate then { s with hostDead := true }
  else s

/-- DEAD_AGENT_TIMEOUT (10 R228). -/
def execDeadAgentTimeout (a : Nat) (s : State) : Out := .next (deadAgentStep a s)

/-! ## BAR0 (R430, R431, R437) -/

/-- Bytes of a ring in BAR0 written. -/
def State.bar0Put (s : State) (off : Nat) (bs : List Byte) : State := { s with bar0 := memWrite s.bar0 off bs }

/-- FAULT_RECORD_WRITE (R437): the oldest waiting record, when the queue has room; one of a page that is still missing is then
outstanding. -/
def faultRecordWriteStep (s : State) : State :=
  match s.faultsWaiting with
  | [] => s
  | f :: rest =>
    if (s.flttail + 2 ^ 32 - s.flthead) % 2 ^ 32 ≥ 1024 then s
    else
      let f : FaultRec := { f with fseq := s.fseq }
      let bs := leBytes f.va 8 ++ leBytes f.kind 1 ++ leBytes f.node 2 ++ leBytes f.core 1 ++ leBytes f.fseq 4 ++ leBytes 0 16
      ((({ s with
          faultsWaiting := rest, faults := if f.cause.isSome || f.ended then s.faults else s.faults ++ [f], fseq := (s.fseq + 1) % 2 ^ 32,
          flttail := (s.flttail + 1) % 2 ^ 32 } : State).bar0Put (0x300000 + 32 * (s.flttail % 1024)) bs).raiseMsix 1).raiseInt 2

/-- FAULT_RECORD_WRITE (R437). -/
def execFaultRecordWrite (s : State) : Out := .next (faultRecordWriteStep s)

/-- CMDTAIL_WRITE (R431): the doorbell. -/
def execCmdtailWrite (v : Word) (s : State) : Out :=
  .next (({ s with cmdtail := v.toNat } : State).raiseInt 0)
/-- FLTHEAD_WRITE (R437). -/
def execFltheadWrite (v : Word) (s : State) : Out := .next { s with flthead := v.toNat }
/-- BAR2BASE_WRITE (R430). -/
def execBar2baseWrite (v : Word) (s : State) : Out := .next { s with bar2base := v.toNat % 2 ^ 20 }

/-- BAR0_WRITE_OTHER (R430, R431): the slots of the command ring hold what the host writes; any other write is discarded. -/
def execBar0WriteOther (off : Nat) (v : Word) (s : State) : Out :=
  .next (if 0x100000 ≤ off ∧ off + 4 ≤ 0x140000 then s.bar0Put off (leBytes v.toNat 4) else s)

/-- A sensor stream block (R438). -/
def Sensor.block (x : Sensor) : Nat :=
  x.waddr0 + x.waddr1 * 2 ^ 64 + x.wbytes * 2 ^ 128 + x.seq * 2 ^ 160 + x.drop * 2 ^ 192 + x.barh * 2 ^ 224 + x.herr * 2 ^ 288

/-- The word at an offset of a log: its ring, and its entry count at 0x1000 (R445). -/
def logWord (l : List LogEntry) (n off : Nat) : Nat :=
  if off = 0x1000 then n
  else if off < 0x1000 then (match l[off / 16]? with | some e => bits (e.lo + e.time * 2 ^ 64) (8 * (off % 16)) 32 | none => 0)
  else 0

/-- What a read of a word of BAR0 returns (R430); it changes nothing. -/
def State.bar0Word (s : State) (off : Nat) : Nat :=
  if off < 0x100 then [s.bootstage, s.devstat, s.bar2base].getD (off / 4) 0
  else if off < 0x114 then [s.cmdtail, s.cmdhead, s.rsptail, s.flttail, s.flthead].getD ((off - 0x100) / 4) 0
  else if inRange off 0x100000 0x40000 || inRange off 0x200000 0x40000 || inRange off 0x300000 0x8000 then memVal s.bar0 off 4
  else if inRange off 0x400000 0x400 then bits ((s.sensors.getD ((off - 0x400000) / 64) Sensor.reset).block) (8 * (off % 64)) 32
  else if inRange off 0x500000 0x10000 then logWord s.arrayLog s.arrayCount (off - 0x500000)
  else if inRange off 0x510000 0x10000 then logWord s.xferLog s.xferCount (off - 0x510000)
  else 0

/-! ## Writes and reads that hosts and peers make at the homes (R430; 10 R221, R225, R231) -/

/-- The partial of bytes written by the host to a line of an open range (10 R225): each word is formed over zero bytes. -/
def hostPartial (data : List (Nat × Byte)) : Partial :=
  let byte (o : Nat) : Nat := match data.find? (fun d => d.1 == o) with | some d => d.2.toNat | none => 0
  let word (k : Nat) : Word := BitVec.ofNat 32 ((List.range 4).foldl (fun acc i => acc + byte (4 * k + i) * 256 ^ i) 0)
  let touched (k : Nat) : Bool := data.any (fun d => d.1 / 4 == k)
  { agent := 192, words := (List.range 32).map (fun k => if touched k then word k else 0#32), touched := maskOf ((List.range 32).filter touched) }

/-- A write of bytes of a line at its home. -/
def State.hostLine (s : State) (die line : Nat) (data : List (Nat × Byte)) (tell : AckTo) : State :=
  if s.lineState line = .c then s.addPartial line (hostPartial data)
  else
    let s := match tell with
      | .sensor k => { s with sensors := modAt s.sensors k (fun x => { x with writes := x.writes + 1 }) }
      | _ => s
    s.homeWrite die line data tell none []

/-- Bytes written from a physical address, line by line. -/
def State.hostWrite (s : State) (die : Nat) (bs : List Byte) (tell : AckTo) (ps : List (Nat × Nat)) : State :=
  match ps with
  | [] => s
  | (pa, n) :: rest =>
    let line := lineOf pa
    let data := (bs.take n).zipIdx.map (fun p => (pa - line + p.2, p.1))
    (s.hostLine die line data tell).hostWrite die (bs.drop n) tell rest

/-- A line of a byte range is moving home: the write or read is taken when it has arrived, after the requests forwarded with
it. -/
def State.anyMoving (s : State) (ps : List (Nat × Nat)) : Bool := ps.any (fun p => s.heldBack (lineOf p.1))

/-- BAR2 reaches an address (R430, R440; 15 R339). -/
def State.bar2Reaches (s : State) (pa : Nat) : Bool :=
  isDevicePa pa && !firmwareReserved pa && (s.bootstage ≥ 1 || inRange pa (stackedBase 0) stackedSize)

/-- The PA of a BAR2 offset. -/
def State.bar2Pa (s : State) (off : Nat) : Nat := s.bar2base * 2 ^ 28 + off

/-- Parts of a BAR2 access that it reaches: a line is reached whole or not at all. -/
def State.bar2Parts (s : State) (off n : Nat) : List (Nat × Nat) := lineParts (s.bar2Pa off) n

/-- Parts written that are reached. -/
def State.bar2Put (s : State) (bs : List Byte) (ps : List (Nat × Nat)) : State :=
  match ps with
  | [] => s
  | (pa, n) :: rest =>
    (if s.bar2Reaches pa then s.hostWrite 0 (bs.take n) .host [(pa, n)] else s).bar2Put (bs.drop n) rest

/-- BAR2_WRITE of bytes at an offset of BAR2, at most 128 GiB (R430; 09 R212). -/
def bar2WriteStep (off : Nat) (bytes : List Byte) (s : State) : State :=
  let ps := s.bar2Parts off bytes.length
  if off + bytes.length > 2 ^ 37 ∨ s.anyMoving ps = true then s else s.bar2Put bytes ps

/-- BAR2_WRITE (09 R212). -/
def execBar2Write (off : Nat) (bytes : List Byte) (s : State) : Out := .next (bar2WriteStep off bytes s)

/-- The bytes of parts: a line in state C is folded first (10 R221); what is not reached reads 0; what a poisoned line
returns the manual does not say (entry 8). -/
def State.bar2Get (s : State) (ps : List (Nat × Nat)) : State × List Byte :=
  match ps with
  | [] => (s, [])
  | (pa, n) :: rest =>
    let line := lineOf pa
    let r : State × List Byte :=
      if !s.bar2Reaches pa then (s, List.replicate n 0#8)
      else
        let s := if s.lineState line = .c then s.foldNow line else s
        if s.poisoned line then
          ({ s with fresh := s.fresh + n }, (List.range n).map (fun k => (Config.freeWord (s.fresh + k)).setWidth 8))
        else (s, memBytes s.mem pa n)
    let q := r.1.bar2Get rest
    (q.1, r.2 ++ q.2)

/-- BAR2_READ of n bytes at an offset of BAR2 (R430; 09 R212). -/
def bar2ReadStep (off n : Nat) (s : State) : State :=
  let ps := s.bar2Parts off n
  if decide (off + n > 2 ^ 37) || s.anyMoving ps || ps.any (fun p => s.bar2Reaches p.1 && s.foldBusy (lineOf p.1)) then s
  else
    let r := s.bar2Get ps
    { r.1 with bar2Data := r.2 }

/-- BAR2_READ (09 R212). -/
def execBar2Read (off : Nat) (n : Nat) (s : State) : Out := .next (bar2ReadStep off n s)

/-! ## Sensor streams (R438; 13 R314) -/

/-- The die that ingests a stream (01 R9). -/
def streamDie (k : Nat) : Nat := if k < 8 then 0 else 1
/-- A stream. -/
def State.sensor (s : State) (k : Nat) : Sensor := s.sensors.getD k Sensor.reset
/-- A stream changed. -/
def State.modSensor (s : State) (k : Nat) (f : Sensor → Sensor) : State := { s with sensors := modAt s.sensors k f }
/-- A graph is started. -/
def State.graphStarted (s : State) : Bool := match s.graph with | some g => g.running | none => false
/-- The device address of a window. -/
def Sensor.waddr (x : Sensor) (w : Nat) : Nat := if w = 0 then x.waddr0 else x.waddr1
/-- One more write discarded. -/
def Sensor.dropped (x : Sensor) : Sensor := { x with drop := (x.drop + 1) % 2 ^ 32 }

/-- The offset of the DONE word of a window. -/
def doneOff : Nat := 0x7FFFFC

/-- SENSOR_WINDOW_WRITE (R438): bytes of a window, below DONE. -/
def sensorWindowWriteStep (k w off : Nat) (bytes : List Byte) (s : State) : State :=
  let x := s.sensor k
  if k ≥ 16 ∨ w > 1 ∨ off + bytes.length > doneOff then s
  else if x.wbytes = 0 || !s.graphStarted || decide (off + bytes.length > x.wbytes) then s.modSensor k Sensor.dropped
  else
    let ps := lineParts (x.waddr w + off) bytes.length
    if s.anyMoving ps then s else s.hostWrite (streamDie k) bytes (.sensor k) ps

/-- SENSOR_WINDOW_WRITE (R438). -/
def execSensorWindowWrite (k : Nat) (w : Nat) (off : Nat) (bytes : List Byte) (s : State) : Out :=
  .next (sensorWindowWriteStep k w off bytes s)

/-- The sensor node that claims a stream, with its number (15 R349). -/
def State.sensorNode (s : State) (k : Nat) : Option (Node × Nat) :=
  s.nodes.zipIdx.find? (fun p => p.1.kind == kindSensor && bit p.1.param k)

/-- The barrier that a handle names, as the engine of a stream checks it (R438; 16 R370). -/
def State.sensorBar (s : State) (k h : Nat) : Option ObjRef :=
  let num := bits h 0 6
  let j := bits h 6 5
  match s.blocks.find? (fun b => b.key.node == bits h 11 16 && b.key.blk == bits h 27 32 && b.die == streamDie k) with
  | none => none
  | some b =>
    let at_ := if num ≥ 32 then 0 else j
    if bits h 59 5 ≠ 0 ∨ (num < 32 ∧ j ≥ b.k) ∨ num ≥ 48 then none
    else if (s.bar? b.key at_ num).isSome then some (.bar b.key at_ num) else none

/-- A frame record (13 R314). -/
def frameRecord (k ovf seq waddr bytes timen : Nat) : List Byte :=
  leBytes (k + 256 * ovf) 4 ++ leBytes seq 4 ++ leBytes waddr 8 ++ leBytes bytes 4 ++ leBytes 0 4 ++ leBytes timen 8

/-- The frame record goes to the stream's node's successor, with credit; none without credit, and the number of its
message. -/
def State.frameOut (s : State) (k : Nat) (bs : List Byte) : Option (State × Nat) :=
  match s.sensorNode k with
  | none => some (s, 0)
  | some (n, i) =>
    match (if n.deadline then some s else s.takeCredits (streamDie k) 1 n.edges) with
    | some s' => some (s'.nodeOutput (streamDie k) i 0 [bs], s'.nextId)
    | none => none

/-- SENSOR_DONE (R438): the window is complete; its record is appended as a release of the window's bytes, so it waits until
they have performed, and for credit (13 R306). -/
def sensorDoneStep (k w n : Nat) (s : State) : State :=
  let x := s.sensor k
  if k ≥ 16 ∨ w > 1 then s
  else if x.wbytes = 0 || !s.graphStarted || decide (n > x.wbytes) then s.modSensor k Sensor.dropped
  else if x.writes ≠ 0 then s
  else
    let seq := (x.seq + 1) % 2 ^ 32
    let rec_ := frameRecord k (b2n (x.pending.any (fun p => p.1 == w))) seq (x.waddr w) n s.timen
    match s.frameOut k rec_ with
    | none => s
    | some (s', m) =>
      let ok := (s'.sensorBar k x.barh).isSome
      s'.modSensor k (fun x =>
        { x with
          seq := seq, pending := (x.pending.filter (fun p => p.1 != w)) ++ [(w, leValue rec_)]
          herr := if x.barh ≠ 0 ∧ ok = false then (x.herr + 1) % 2 ^ 32 else x.herr
          due := if x.barh ≠ 0 ∧ ok = true then x.due ++ [(m, x.barh)] else x.due })

/-- SENSOR_DONE (R438). -/
def execSensorDone (k : Nat) (w : Nat) (bytes : Word) (s : State) : Out := .next (sensorDoneStep k w bytes.toNat s)

/-- SENSOR_BARRIER_ARRIVAL of a stream (13 R314): once the record's APPEND has performed, at the barrier that the handle of its
completion names (R438). -/
def sensorArrivalStep (k : Nat) (s : State) : State :=
  let x := s.sensor k
  match x.due with
  | [] => s
  | (m, handle) :: rest =>
    if s.net.any (fun n => n.id == m) then s
    else
      let s := s.modSensor k (fun x => { x with due := rest })
      match s.sensorBar k handle with
      | some (.bar key j n) => s.modBar key j n (Bar.arrive 1)
      | _ => s

/-- SENSOR_BARRIER_ARRIVAL (13 R314). -/
def execSensorBarrierArrival (k : Nat) (s : State) : Out := .next (sensorArrivalStep k s)

end Sys2Proof.Machine
end

