-- ==== Sys2Proof/Machine/Commands.lean ====
section
/-! DEFINITION. The command ring as the ROM firmware serves it, one command at a time; the QUERY, SET_SCANOUT, DISPLAY_MODE,
SET_POWER and SENSOR_CONFIG commands, FIRMWARE_UPDATE and ATTEST (20 R429 to R435, R438, R446 to R449). A command is executed
by one of the steps named for it; the step does nothing when the record at the head of the ring is not its own. -/
namespace Sys2Proof.Machine

/-! ## Records (R431, R432) -/

/-- The address in BAR0 of a slot of the command ring. -/
def cmdSlot (n : Nat) : Nat := 0x100000 + 64 * (n % 4096)
/-- The address in BAR0 of a slot of the response ring. -/
def rspSlot (n : Nat) : Nat := 0x200000 + 64 * (n % 4096)

/-- The command record that goes next: one taken from a command node's queue, or that at the head of the ring. -/
def State.headRecord (s : State) : Nat :=
  match s.queueCmd with
  | some c => c.2.2
  | none => leValue (memBytes s.bar0 (cmdSlot s.cmdhead) 64)

/-- The device takes commands: it has power, and a record waits. -/
def State.ringReady (s : State) : Bool := s.powered && (s.queueCmd.isSome || s.cmdhead != s.cmdtail)

/-- A BAR2 write of the host, or a write of the firmware, has not been performed at `.sys` (09 R212). -/
def State.hostPending (s : State) : Bool := s.acks.any (fun a => decide (a.tell = .host))

/-- The command that the firmware takes next (R431, R439), after the host's BAR2 writes (09 R212). -/
def State.command (s : State) : Option Nat :=
  if s.ringReady && s.busy.isNone && !s.mgmtHalted && !s.hostPending then some s.headRecord else none

/-- OPCODE of a record. -/
def opcodeOf (c : Nat) : Nat := bits c 0 8

/-- A response record; `data` stands at its place in the record. -/
def responseOf (c status reason data : Nat) : List Byte :=
  leBytes (bits c 32 32 + opcodeOf c * 2 ^ 32 + status % 256 * 2 ^ 40 + reason % 65536 * 2 ^ 48 + data) 64

/-- THE RESPONSE (R431): written, RSPTAIL advanced, MSI-X vector 0 raised, and the next record may be taken. The response to a
record of a command node's queue goes to its successor (13 R317), while its graph is the current one. -/
def State.respondNow (s : State) (c status reason data : Nat) : State :=
  match s.queueCmd with
  | some q =>
    let s : State := { s with queueCmd := none, busy := none }
    if s.graphId = q.1 then (s.nodeOutput 0 q.2.1 0 [responseOf c status reason data]).drainCheck else s
  | none =>
  ({ s.bar0Put (rspSlot s.rsptail) (responseOf c status reason data) with
      rsptail := (s.rsptail + 1) % 2 ^ 32, cmdhead := (s.cmdhead + 1) % 2 ^ 32, busy := none } : State).raiseMsix 0

/-- A write of the command, or of the scheduler to the status area, has not been performed at `.sys`. -/
def State.writesPending (s : State) : Bool := s.acks.any (fun a => decide (a.tell = .host ∨ a.tell = .none))

/-- The response is a `.sys` release (R431): it waits for the command's writes to be performed. -/
def State.respond (s : State) (c status reason data : Nat) : State :=
  if s.writesPending then { s with busy := some (.respond status reason data) } else s.respondNow c status reason data

/-- Done. -/
def State.done (s : State) (c data : Nat) : State := s.respond c 0 0 data
/-- Refused, with a REASON. -/
def State.refuse (s : State) (c reason : Nat) : State := s.respond c 3 reason 0
/-- Refused for a cause to which the manual gives no REASON. -/
def State.refuseFor (s : State) (c cause : Nat) : State := s.refuse c (Config.refusalCode (opcodeOf c) cause).toNat

/-- A bit that the command's table does not name is set (R434); the fields are given by lowest bit and width. -/
def rsvdSet (c : Nat) (fields : List (Nat × Nat)) : Bool :=
  ((0, 8) :: (32, 32) :: fields).foldl (fun x p => putBits x p.1 p.2 0) c != 0

/-- A COMMAND CHECKED (R432, R434): STATUS 1 before its stage, 2 when it is malformed; else it is executed. -/
def State.gate (s : State) (c stage : Nat) (fields : List (Nat × Nat)) (bad : Bool) (k : State → State) : State :=
  if s.bootstage < stage then s.respond c 1 0 0
  else if rsvdSet c fields || bad then s.respond c 2 0 0
  else k s

/-- The step of a command: it acts when the record at the head of the ring is such a command. -/
def State.onCommand (s : State) (mine : Nat → Bool) (f : Nat → State → State) : State :=
  match s.command with
  | some c => if mine c then f c s else s
  | none => s

/-- The OPCODEs of R433. -/
def knownOpcodes : List Nat :=
  [1, 2, 3, 4, 5] ++ [0x10, 0x11, 0x12, 0x13, 0x14, 0x15, 0x16, 0x17] ++ [0x18, 0x19, 0x1A, 0x1B, 0x1C, 0x1D, 0x1E]

/-! ## QUERY (R435) -/

/-- SEL -/
def querySel (c : Nat) : Nat := bits c 64 8
/-- INDEX -/
def queryIndex (c : Nat) : Nat := bits c 96 32
/-- DIE -/
def queryDie (c : Nat) : Nat := bits c 72 1

/-- A QUERY with its selector's limits and item; selectors 1, 2 and 7 wait for BOOTSTAGE 3. -/
def queryStep (sel limit : Nat) (item : Nat → State → Nat) (s : State) : State :=
  s.onCommand (fun c => opcodeOf c == 1 && querySel c == sel) (fun c s =>
    s.gate c (if sel = 1 ∨ sel = 2 ∨ sel = 7 then 3 else 0) [(64, 8), (72, 1), (96, 32)]
      (decide (limit ≠ 0 ∧ queryIndex c ≥ limit)) (fun s => s.done c (item c s)))

/-- 32-bit numbers packed from bit 64 up. -/
def packWords (l : List Nat) : Nat := leValue (l.flatMap (fun x => leBytes x 4)) * 2 ^ 64

/-- QUERY_STARTUP (R435); it also answers a record whose OPCODE or selector is unknown (R432). -/
def execQueryStartup (s : State) : Out :=
  .next (match s.command with
    | none => s
    | some c =>
      if !knownOpcodes.contains (opcodeOf c) then s.respond c 4 0 0
      else if opcodeOf c = 1 ∧ querySel c > 7 then s.respond c 2 0 0
      else queryStep 0 0 (fun _ s => s.bootstage % 4 * 2 ^ 64 + s.devstat % 2 ^ 32 * 2 ^ 96) s)

/-- QUERY_CORE_COUNTERS (R435). -/
def execQueryCoreCounters (s : State) : Out :=
  .next (queryStep 1 192 (fun c s =>
    let x := s.core (queryIndex c)
    packWords [x.injcnt % 1024, x.refcnt, x.mxnan, x.mxovf]) s)

/-- QUERY_FOOTPRINT (R435). -/
def execQueryFootprint (s : State) : Out := .next (queryStep 2 0 (fun c s => (s.die (queryDie c)).jobs.length * 2 ^ 64) s)

/-- QUERY_DEAD_AGENTS (R435). -/
def execQueryDeadAgents (s : State) : Out :=
  .next (queryStep 3 0 (fun _ s =>
    maskOf ((s.cores.zipIdx.filter (fun p => p.1.dead)).map (fun p => 64 + p.2)) + b2n s.hostDead * 2 ^ 256) s)

/-- QUERY_LOG_COUNTS (R435). -/
def execQueryLogCounts (s : State) : Out :=
  .next (queryStep 4 0 (fun _ s => packWords [s.arrayCount, s.xferCount, s.droopcnt, s.flttail]) s)

/-- QUERY_MEASUREMENT (R435). -/
def execQueryMeasurement (s : State) : Out := .next (queryStep 5 8 (fun c s => s.mr.getD (queryIndex c) 0 * 2 ^ 64) s)

/-- QUERY_USE_COUNTERS (R435). -/
def execQueryUseCounters (s : State) : Out := .next (queryStep 6 0 (fun _ s => packWords s.retcnt) s)

/-- QUERY_JOIN_SLOT (R435). -/
def execQueryJoinSlot (s : State) : Out :=
  .next (queryStep 7 1048576 (fun c s =>
    let x := s.join (queryDie c) (queryIndex c)
    x.count % 65536 * 2 ^ 64 + b2n x.held.isSome * 2 ^ 80 + x.tag % 65536 * 2 ^ 96 + x.node % 65536 * 2 ^ 112) s)

/-! ## SET_SCANOUT (R433, R440) -/

/-- SET_SCANOUT (R434): the framebuffer of the stage-0 head. -/
def setScanoutStep (s : State) : State :=
  s.onCommand (fun c => opcodeOf c == 4) (fun c s =>
    let fb := bits c 64 48
    let pitch := bits c 128 32
    s.gate c 0 [(64, 48), (128, 32)]
      (decide (fb % 256 ≠ 0 ∨ pitch % 256 ≠ 0 ∨ pitch < 7680) || !inRange fb (stackedBase 0) stackedSize)
      (fun s => ({ s with scanFb := fb, scanPitch := pitch } : State).done c 0))

/-- SET_SCANOUT (R434). -/
def execSetScanout (s : State) : Out := .next (setScanoutStep s)

/-! ## DISPLAY_MODE (R429, R434, R440) -/

/-- The payload of a lane at a link rate, in units of 10 kb/s: 8b/10b below UHBR, 128b/132b from there (entry 29). -/
def linkPayload (rate : Nat) : Nat := [129600, 216000, 432000, 648000, 969696, 1309090, 1939393].getD rate 0

/-- The modes of R429 at a pixel depth. -/
def modeWithin (bpc pclk hact htot vact vtot : Nat) : Bool :=
  let rate (hz : Nat) : Bool := decide (1000 * pclk ≤ hz * htot * vtot)
  let size (w h : Nat) : Bool := decide (hact ≤ w ∧ vact ≤ h)
  if bpc = 16 then (size 7680 4320 && rate 30) || (size 5120 2880 && rate 60) else size 7680 4320 && rate 60

/-- Fields of DISPLAY_MODE. -/
def displayFields : List (Nat × Nat) :=
  [(64, 2), (66, 1), (72, 4), (76, 4), (80, 8), (96, 32), (128, 64), (192, 64), (256, 1), (257, 1)]

/-- The numbers of a mode: HACT, VACT, then the rest of the command's timing fields. -/
def modeOf (c : Nat) : List Nat :=
  [bits c 128 16, bits c 192 16, bits c 144 16, bits c 160 16, bits c 176 16, bits c 208 16, bits c 224 16, bits c 240 16] ++
  [bits c 256 1, bits c 257 1, bits c 96 32, bits c 72 4, bits c 76 4, bits c 80 8]

/-- RATE, LANES or BPC is outside its limits (R434). -/
def displayBad (c : Nat) : Bool :=
  decide (bits c 72 4 > 6) || !([1, 2, 4].contains (bits c 76 4)) || !([8, 10, 16].contains (bits c 80 8))

/-- DISPLAY_MODE of a head: whether the link trains is not the command's to decide (entry 8). -/
def displayModeStep (s : State) : State :=
  s.onCommand (fun c => opcodeOf c == 0x1B && !bit c 66) (fun c s =>
    let head := bits c 64 2
    let bpc := bits c 80 8
    let pclk := bits c 96 32
    let lanes := bits c 76 4
    s.gate c 3 displayFields (displayBad c)
      (fun s =>
        if 3 * bpc * pclk > 10 * lanes * linkPayload (bits c 72 4)
            ∨ modeWithin bpc pclk (bits c 128 16) (bits c 144 16) (bits c 192 16) (bits c 208 16) = false then s.refuseFor c 1
        else
          let link := (Config.freeWord s.fresh).toNat % 2
          ({ s with
              fresh := s.fresh + 1, stage0Head := s.stage0Head && head != 2
              heads := modAt s.heads head (fun h => { h with on := true, mode := modeOf c }) } : State).done c (link * 2 ^ 64)))

/-- DISPLAY_MODE (R434). -/
def execDisplayMode (s : State) : Out := .next (displayModeStep s)

/-- DISPLAY_OFF: DISPLAY_MODE with OFF set, its other fields within their limits too (R434). -/
def displayOffStep (s : State) : State :=
  s.onCommand (fun c => opcodeOf c == 0x1B && bit c 66) (fun c s =>
    let head := bits c 64 2
    s.gate c 3 displayFields (displayBad c) (fun s =>
      ({ s with
          stage0Head := s.stage0Head && head != 2
          heads := modAt s.heads head (fun h => { h with on := false }) } : State).done c 0))

/-- DISPLAY_OFF (R434). -/
def execDisplayOff (s : State) : Out := .next (displayOffStep s)

/-! ## SET_POWER (18 R407, R408; 20 R434, R442) -/

/-- The clusters that CL names. -/
def powerClusters (c : Nat) : List Nat := if bits c 64 8 = 255 then List.range 24 else [bits c 64 8]

/-- CBIAS written to some clusters. -/
def State.biasAll (s : State) (v : Nat) (gs : List Nat) : State :=
  match gs with
  | [] => s
  | g :: rest => (s.writeCbias g v).biasAll v rest

/-- SADDLE of SET_POWER: to full width, or a shed, which either die may log. -/
def State.setSaddle (s : State) (v : Nat) : State :=
  if v = 1 then { s with saddleHalf := false }
  else if v = 2 then ({ s with fresh := s.fresh + 1 } : State).shed ((Config.freeWord s.fresh).toNat % 2)
  else s

/-- The whole of a SET_POWER record: each field whose set bit is 1 takes effect. -/
def State.setPower (s : State) (c : Nat) : State :=
  let cl := bits c 64 8
  let cbmax := bits c 80 5
  s.gate c 3 [(64, 8), (72, 1), (73, 3), (76, 1), (80, 5), (85, 1), (96, 12), (112, 2)]
    ((decide (cl ≥ 24) && cl != 255) || (bit c 76 && decide (cbmax = 0 ∨ cbmax > 16)) || decide (bits c 112 2 = 3))
    (fun s =>
      let s := if bit c 72 then s.biasAll (bits c 73 3) (powerClusters c) else s
      let s := if bit c 76 then s.writeCbmax cbmax else s
      let s : State := if bit c 85 then { s with tlimit := bits c 96 12 } else s
      (s.setSaddle (bits c 112 2)).done c 0)

/-- The first part that a SET_POWER record sets: 0 CBIAS, 1 CBMAX, 2 TLIMIT, 3 Saddle; CBIAS's step executes one that sets
none. -/
def powerPart (c : Nat) : Nat :=
  if bit c 72 then 0 else if bit c 76 then 1 else if bit c 85 then 2 else if bits c 112 2 ≠ 0 then 3 else 0

/-- The step of the SET_POWER records of a first part. -/
def setPowerStep (part : Nat) (s : State) : State :=
  s.onCommand (fun c => opcodeOf c == 0x1C && powerPart c == part) (fun c s => s.setPower c)

/-- SET_POWER_BIAS (18 R407). -/
def execSetPowerBias (s : State) : Out := .next (setPowerStep 0 s)
/-- SET_POWER_CBMAX (20 R434). -/
def execSetPowerCbmax (s : State) : Out := .next (setPowerStep 1 s)
/-- SET_POWER_TLIMIT (20 R434). -/
def execSetPowerTlimit (s : State) : Out := .next (setPowerStep 2 s)
/-- SET_POWER_SADDLE (20 R442). -/
def execSetPowerSaddle (s : State) : Out := .next (setPowerStep 3 s)

/-! ## SENSOR_CONFIG (R434, R438) -/

/-- A range of device memory. -/
def deviceRange (pa n : Nat) : Bool := isDevicePa pa && isDevicePa (pa + n - 1)

/-- SENSOR_CONFIG (R438): SEQ and HERR become 0. -/
def sensorConfigStep (s : State) : State :=
  s.onCommand (fun c => opcodeOf c == 0x1A) (fun c s =>
    let w0 := bits c 128 64
    let w1 := bits c 192 64
    let n := bits c 256 32
    s.gate c 3 [(64, 4), (128, 64), (192, 64), (256, 32), (320, 64)]
      (decide (w0 % 256 ≠ 0 ∨ w1 % 256 ≠ 0 ∨ n < 256 ∨ n > 0x7FFF00) || !deviceRange w0 n || !deviceRange w1 n)
      (fun s => (s.modSensor (bits c 64 4) (fun x =>
        { x with waddr0 := w0, waddr1 := w1, wbytes := n, barh := bits c 320 64, seq := 0, herr := 0 })).done c 0))

/-- SENSOR_CONFIG (R438). -/
def execSensorConfig (s : State) : Out := .next (sensorConfigStep s)

/-! ## Measurements, FIRMWARE_UPDATE and ATTEST (R446 to R449) -/

/-- A measurement register extended with a digest of 32 octets (R447). -/
def State.extend (s : State) (r : Nat) (digest : List Byte) : State :=
  { s with mr := modAt s.mr r (fun x => leValue (sha256 (leBytes x 32 ++ digest))) }

/-- FIRMWARE_UPDATE (R449): an image in host memory is stored in the flash when it verifies. -/
def firmwareUpdateStep (s : State) : State :=
  s.onCommand (fun c => opcodeOf c == 2) (fun c s =>
    let pa := bits c 64 48
    let n := bits c 128 32
    s.gate c 0 [(64, 48), (128, 32)] (decide (pa % 64 ≠ 0 ∨ n = 0 ∨ n > 4194304) || !isHostPa pa) (fun s =>
      let image := memBytes s.mem pa n
      if Config.rootVerifies image then ({ s with flash := image } : State).done c 0 else s.refuseFor c 1))

/-- FIRMWARE_UPDATE (R449). -/
def execFirmwareUpdate (s : State) : Out := .next (firmwareUpdateStep s)

/-- The quote of ATTEST (R448): a nonce and a mask, signed under the device's identity key. -/
def State.quote (s : State) (nonce mask : Nat) : List Byte :=
  let rs := lanesOf mask 8
  let body := leBytes nonce 32 ++ leBytes mask 1 ++ leBytes s.bootstage 1 ++ leBytes rs.length 1 ++ List.replicate 29 0#8
    ++ rs.flatMap (fun r => leBytes (s.mr.getD r 0) 32)
  body ++ beBytes (Config.deviceSign (beValue (sha256 body))) 384

/-- ATTEST (R448): the quote is written to host memory, then the response gives its size. -/
def attestStep (s : State) : State :=
  s.onCommand (fun c => opcodeOf c == 3) (fun c s =>
    let pa := bits c 384 48
    s.gate c 0 [(64, 256), (320, 8), (384, 48)] (decide (pa % 64 ≠ 0) || !isHostPa pa) (fun s =>
      let q := s.quote (bits c 64 256) (bits c 320 8)
      (s.hostWrite 0 q .host (lineParts pa q.length)).done c (q.length * 2 ^ 64)))

/-- ATTEST (R448). -/
def execAttest (s : State) : Out := .next (attestStep s)

end Sys2Proof.Machine
end

