-- ==== Sys2Proof/Machine/LaneConv.lean ====
section
/-! DEFINITION. Conversion and quantisation, major 0x13 (06 R150 to R154). -/
namespace Sys2Proof.Machine

/-- Width of an element of a type (05 R106). -/
def elemWidth (ty : Nat) : Nat := if ty = 1 ∨ ty = 2 then 16 else if ty = 3 ∨ ty = 4 then 8 else 32
/-- The binary format of a type code 0, 1 or 2. -/
def fmtOf (ty : Nat) : FFmt := if ty = 0 then .f32 else if ty = 1 then .f16 else .bf16
/-- The exact value of an element of a type (R151). -/
def elemValue (ty x : Nat) : XReal :=
  match ty with
  | 3 => d8Value x
  | 4 => xOfInt (sextN x 8)
  | 5 => xOfInt (sextN x 32)
  | 6 => xOfInt ((x % 2 ^ 32 : Nat) : Int)
  | _ => valueOfBits (fmtOf ty) x
/-- The range of an integer type (05 R108). -/
def intRange (ty : Nat) : Int × Int :=
  if ty = 4 then (-128, 127) else if ty = 5 then (-2147483648, 2147483647) else (0, 4294967295)
/-- An element converted from a type to another, as a pattern of the destination's width (R151, 05 R121, R122). -/
def convElem (sty dty : Nat) (mode : RMode) (sat : Bool) (r : Nat) (c : NanCtx) (x : Nat) : Nat :=
  if dty = 3 then d8Encode (elemValue sty x) mode sat r
  else if dty ≤ 2 then
    match elemValue sty x with
    | .nan => if sty ≤ 2 then convNaN (fmtOf sty) (fmtOf dty) x else genNaN (fmtOf dty) c
    | v => roundTo (fmtOf dty) mode sat r v
  else
    let p := intRange dty
    wrapN (roundToInt p.1 p.2 mode r (elemValue sty x)) (elemWidth dty)

/-- CVT (R151). -/
def opCvt (f : XaF) (w : Wave) (l : Nat) : Nat :=
  let sty := f.imm8.toNat % 8
  let x := bits (f.aT sty w l) (elemWidth sty * (f.imm8.toNat / 32 % 4)) (elemWidth sty)
  let y := convElem sty f.ty (w.modeOf f.rnd) f.isSat (w.randBits .c f l) (f.nan w l) x
  putBits (f.oldD w l) (elemWidth f.ty * (f.imm8.toNat / 8 % 4)) (elemWidth f.ty) y

/-- PACK (R152). -/
def opPack (f : XaF) (w : Wave) (l : Nat) : Nat :=
  let r := w.randBits .c f l
  let cv (i x : Nat) : Nat := convElem (if f.ty = 4 then 5 else 0) f.ty (w.modeOf f.rnd) f.isSat (rfrac r i 2) (f.nan w l) x
  let st := if f.ty = 4 then 5 else 0
  let x0 := cv 0 (f.aT st w l)
  let x1 := cv 1 (f.bT st w l)
  if f.ty ≤ 2 then x0 + x1 * 2 ^ 16
  else
    let h := f.imm8.toNat % 2
    putBits (putBits (f.oldD w l) (16 * h) 8 x0) (16 * h + 8) 8 x1

/-- UNPACK (R152). -/
def opUnpack (f : XaF) (w : Wave) (l : Nat) : Nat :=
  let x := bits (f.aT f.ty w l) (elemWidth f.ty * (f.imm8.toNat % 4)) (elemWidth f.ty)
  if f.ty = 4 then wrapN (sextN x 8) 32
  else convElem f.ty 0 (w.modeOf f.rnd) false (w.randBits .c f l) (f.nan w l) x

/-- The scale byte that a form reads from b (R153). -/
def scaleB (f : XaF) (w : Wave) (l : Nat) : Nat := byteOf (f.bT 6 w l) (f.imm8.toNat % 4)
/-- The selector of the code byte (R150). -/
def codeSel (f : XaF) : Nat := f.imm8.toNat / 16 % 4
/-- The selector of the scale byte (R150). -/
def scaleSel (f : XaF) : Nat := f.imm8.toNat % 4

/-- QSCALE, quantise (R153). -/
def opQscale (f : XaF) (w : Wave) (l : Nat) : Nat :=
  let e := scaleB f w l
  let x := xScale (valueOfBits .f32 (f.aT 0 w l)) (127 - (e : Int))
  let code :=
    if e = 255 then (if f.ty = 3 then 0x80 else 0)
    else if f.ty = 3 then d8Encode x (w.modeOf f.rnd) f.isSat (w.randBits .c f l)
    else wrapN (roundToInt (-128) 127 (w.modeOf f.rnd) (w.randBits .c f l) x) 8
  putBits (f.oldD w l) (8 * codeSel f) 8 code

/-- The block scale of a block of 32 lanes: QSCALE `.amax` (R153). -/
def amaxScale (f : XaF) (w : Wave) (act base : Nat) : Nat :=
  let ls := (lanesOf (w.voters act) w.lanes).filter (fun l => l / 32 * 32 == base)
  let m := maxFinite (ls.map (fun l => valueOfBits .f32 (f.aT 0 w l)))
  leastScale m.1 m.2 (if f.ty = 3 then 100000 else 127)
/-- QSCALE `.amax`: the scale goes to every active lane of its block. -/
def opAmax (f : XaF) (w : Wave) (act l : Nat) : Nat :=
  putBits (f.oldD w l) (8 * scaleSel f) 8 (amaxScale f w act (l / 32 * 32))

/-- A form that a wave of width 16 must not issue raises ILLEGAL_OPCODE (R153, R154). -/
def Wave.notWidth16 (w : Wave) : Option EncFault := badValue (decide (w.width = 16))

/-- QSCALE's body. -/
def bodyQscale (s : State) (words : Nat) (sp : XaSpec) (f : XaF) : R State :=
  if f.variant = 1 then s.laneForm words sp f [] (fun w act => w.writeDst f.d9.toNat act (opAmax f w act))
  else s.laneMap words sp f (opQscale f)

/-- DQSCALE (R153). -/
def opDqscale (f : XaF) (w : Wave) (l : Nat) : Nat :=
  let e := scaleB f w l
  let x := elem8 f.ty (f.aT f.ty w l) (codeSel f)
  if e = 255 ∨ x = .nan then genNaN .f32 (f.nan w l)
  else roundTo .f32 (w.modeOf f.rnd) f.isSat (w.randBits .c f l) (xScale x ((e : Int) - 127))

/-- The sign word of a vector of HADQ: seed and block index read in the lowest active lane, the second vector of width 64
with the next index (R154). -/
def hadqSigns (f : XaF) (w : Wave) (act base : Nat) : Nat :=
  let e := (lowestLane act w.lanes).getD 0
  signWord (f.bT 6 w e) ((f.cT 6 w e + base / 32) % 2 ^ 32)

/-- HADQ forward on one vector of 32 lanes: the rotated elements (R154). -/
def hadqForward (f : XaF) (w : Wave) (act base : Nat) : List Nat :=
  let x := (List.range 32).map (fun i => if bit act (base + i) then f.aT 0 w (base + i) else 0)
  butterflies w.lanePc base (applySigns (hadqSigns f w act base) x)
/-- The block scale of rotated elements (05 R129). -/
def hadqScale (ys : List Nat) : Nat :=
  let m := maxFinite (ys.map (valueOfBits .f32))
  leastScale m.1 m.2 100000
/-- HADQ forward, what a lane's register becomes. -/
def opHadq (f : XaF) (w : Wave) (ys : List Nat) (e l : Nat) : Nat :=
  let code := d8Encode (xScale (valueOfBits .f32 (ys.getD (l % 32) 0)) (127 - (e : Int)))
    (w.modeOf f.rnd) f.isSat (w.randBits .cNext f l)
  putBits (putBits (f.oldD w l) (8 * codeSel f) 8 code) (8 * scaleSel f) 8 e

/-- HADQ inverse on one vector (R154). -/
def hadqInverse (f : XaF) (w : Wave) (act base : Nat) : List Nat :=
  let y := (List.range 32).map (fun i =>
    let l := base + i
    if bit act l then
      let v := f.aT 6 w l
      let sc := byteOf v (scaleSel f)
      let x := d8Value (byteOf v (codeSel f))
      if sc = 255 ∨ x = .nan then genNaN .f32 (f.nan w l) else roundTo .f32 .rne false 0 (xScale x ((sc : Int) - 127))
    else 0)
  applySigns (hadqSigns f w act base) (butterflies w.lanePc base y)

/-- HADQ's effect: each block of 32 lanes is one vector. -/
def hadqEff (f : XaF) (w : Wave) (act : Nat) : Wave :=
  let vecs := w.blocks32.map (fun base => if f.variant = 1 then hadqInverse f w act base else hadqForward f w act base)
  let vec (l : Nat) : List Nat := vecs.getD (l / 32) []
  if f.variant = 1 then w.writeDst f.d9.toNat act (fun l => (vec l).getD (l % 32) 0)
  else
    let es := vecs.map hadqScale
    w.writeDst f.d9.toNat act (fun l => opHadq f w (vec l) (es.getD (l / 32) 0) l)

/-- CVT (R151). -/
def execCvt (f : XaF) (s : State) : Out := s.laneXA (.cvt f) 8 specCvt f (mapBody opCvt)
/-- PACK (R152). -/
def execPack (f : XaF) (s : State) : Out := s.laneXA (.pack f) 8 specPack f (mapBody opPack)
/-- UNPACK (R152). -/
def execUnpack (f : XaF) (s : State) : Out := s.laneXA (.unpack f) 8 specUnpack f (mapBody opUnpack)
/-- QSCALE (R153). -/
def execQscale (f : XaF) (s : State) : Out := 
  s.laneXAIf (.qscale f) 8 specQscale f (if f.variant = 1 then s.w.notWidth16 else none) bodyQscale
/-- DQSCALE (R153). -/
def execDqscale (f : XaF) (s : State) : Out := s.laneXA (.dqscale f) 8 specDqscale f (mapBody opDqscale)
/-- HADQ (R154). -/
def execHadq (f : XaF) (s : State) : Out := 
  s.laneXAIf (.hadq f) 8 specHadq f s.w.notWidth16 (waveBody hadqEff)

end Sys2Proof.Machine
end

