-- ==== Sys2Proof/Machine/LaneCross.lean ====
section
/-! DEFINITION. The cross-lane instructions, majors 0x20 and 0x21 (06 R155 to R161). -/
namespace Sys2Proof.Machine

/-! ## Exchange (R156, R157) -/

/-- log2 of a group's size. -/
def groupLog (size : Nat) : Nat := if size = 64 then 6 else if size = 32 then 5 else 4

/-- SHFL (R156). -/
def opShfl (f : XaF) (w : Wave) (l : Nat) : Nat :=
  let g := (w.groupOf l).1
  let size := (w.groupOf l).2
  let n := f.bT 6 w l
  let r := l - g
  let j : Nat :=
    match f.variant with
    | 0 => n % size
    | 1 => if n ≤ r then r - n else size
    | 2 => r + n
    | _ => r ^^^ (n % size)
  if j < size then f.aT 6 w (g + j) else f.aT 6 w l

/-- BCAST (R156): b is read in the lowest active lane of the group. -/
def opBcast (f : XaF) (w : Wave) (act l : Nat) : Nat :=
  let g := (w.groupOf l).1
  let size := (w.groupOf l).2
  let e := ((lanesOf act w.lanes).find? (fun i => (w.groupOf i).1 == g)).getD g
  f.aT 6 w (g + f.bT 6 w e % size)

/-- QSWAP (R157). -/
def opQswap (f : XaF) (w : Wave) (l : Nat) : Nat := f.aT 6 w (l ^^^ (f.variant + 1))
/-- QBCAST (R157). -/
def opQbcast (f : XaF) (w : Wave) (l : Nat) : Nat := f.aT 6 w (4 * (l / 4) + f.imm8.toNat % 4)

/-- BCAST's body. -/
def bodyBcast (s : State) (words : Nat) (sp : XaSpec) (f : XaF) : R State :=
  s.laneForm words sp f [] (fun w act => w.writeDst f.d9.toNat act (opBcast f w act))

/-! ## VOTE (R158) -/

/-- The predicate operand `a` (R132). -/
def predA (f : XaF) (w : Wave) (l : Nat) : Bool :=
  if f.imm8.getLsbD 6 then bit (w.getK (f.a9.toNat % 8)) l else f.aT 6 w l != 0

/-- The result of VOTE in a group; a ballot stands from bit 0 of the group. -/
def voteGroup (f : XaF) (w : Wave) (act g size : Nat) : Nat :=
  let p := (lanesOf (w.voters act) w.lanes).filter (fun l => decide (g ≤ l ∧ l < g + size))
  match f.variant with
  | 0 => b2n (p.any (predA f w))
  | 1 => b2n (p.all (predA f w))
  | 2 => maskOf ((p.filter (predA f w)).map (fun l => l - g))
  | _ =>
    match p with
    | [] => 1
    | e :: rest =>
      if f.imm8.getLsbD 6 then b2n (rest.all (fun l => predA f w l == predA f w e))
      else b2n (rest.all (fun l => f.aT 6 w l == f.aT 6 w e))

/-- The mask VOTE writes to a k register: the ballots by group, or every bit of a group set to its result. -/
def voteMask (f : XaF) (w : Wave) (act : Nat) : Nat :=
  w.groups.foldl (fun m p =>
    let r := voteGroup f w act p.1 p.2
    m + (if f.variant = 2 then r else r * (2 ^ p.2 - 1)) <<< p.1) 0

/-- A uniform result per group pushed to RQ: at width 16 one half in each 32 bits (02 R26, R31). -/
def Wave.pushGroups (w : Wave) (res : Nat → Nat) : Wave :=
  if w.width = 16 then w.pushRq (res 0 % 2 ^ 32 + (res 16 % 2 ^ 32) * 2 ^ 32) else w.pushRq (res 0)

/-- VOTE's effect (R158). -/
def voteEff (f : XaF) (w : Wave) (act : Nat) : Wave :=
  let res (g : Nat) : Nat := voteGroup f w act g (w.groupOf g).2
  let p := w.voters act
  if f.imm8.getLsbD 7 then w.setK (f.d9.toNat % 8) (voteMask f w act)
  else
    match laneIx f.d9.toNat with
    | .rq => w.pushGroups res
    | .v n =>
      let w' := w.setLanes n (lanesOf p w.lanes) (fun l => res (w.groupOf l).1 % 2 ^ 32)
      if w.width = 64 ∧ f.variant = 2 then w'.setLanes (n + 1) (lanesOf p w.lanes) (fun l => res (w.groupOf l).1 >>> 32)
      else w'
    | _ => w

/-- A 64-bit ballot also writes the next register (04 R96). -/
def ballotNext (f : XaF) (w : Wave) : List Nat :=
  if w.width = 64 ∧ f.variant = 2 ∧ f.d9.toNat < 320 ∧ !f.imm8.getLsbD 7 then [f.d9.toNat + 1] else []

/-- VOTE's body: a 64-bit ballot writes a register pair. With d = v319 the pair's second register is v320, outside every
allocation, and REG_ALLOC names it: DESIGN CHOICE, R158 names no fault (entry 13). -/
def bodyVote (s : State) (words : Nat) (sp : XaSpec) (f : XaF) : R State :=
  match s.laneForm words (if ballotNext f s.w = [] then sp else { sp with d := .vpair }) f [] (voteEff f) with
  | .error x => .error x
  | .ok t =>
    match s.regCheck (s.w.active f.kmask.toNat) (ballotNext f s.w) with
    | .error x => .error x
    | .ok _ => .ok t

/-! ## REDUCE and SCAN (R159) -/

/-- The combination of two elements at a position's lane. -/
def combine (f : XaF) (w : Wave) (lane x y : Nat) : Nat :=
  let op := f.imm8.toNat % 8
  let mode : RMode := if w.rndCode f.rnd = 5 then .rne else w.modeOf f.rnd
  match op with
  | 0 => if f.ty = 0 then fAdd .f32 mode f.isSat 0 (f.nan w lane) x y else intRes f.ty false (intOf f.ty x + intOf f.ty y)
  | 1 => if f.ty = 0 then fMinMax .f32 false x y else wrapN (min (intOf f.ty x) (intOf f.ty y)) 32
  | 2 => if f.ty = 0 then fMinMax .f32 true x y else wrapN (max (intOf f.ty x) (intOf f.ty y)) 32
  | 3 => x &&& y
  | 4 => x ||| y
  | _ => x ^^^ y

/-- The identity of an operation (R159). -/
def identity (f : XaF) : Nat :=
  match f.imm8.toNat % 8 with
  | 1 => if f.ty = 0 then 0x7F800000 else wrapN (intMax f.ty) 32
  | 2 => if f.ty = 0 then 0xFF800000 else wrapN (intMin f.ty) 32
  | 3 => 0xFFFFFFFF
  | _ => 0

/-- The operation adds integers and saturates: the exact total is saturated once. -/
def exactAdd (f : XaF) : Bool := decide (f.imm8.toNat % 8 = 0 ∧ f.ty ≠ 0) && f.isSat

/-- One stage of REDUCE's tree over the elements of a group. -/
def reduceStage (f : XaF) (w : Wave) (g st : Nat) (x : List (Option Nat)) : List (Option Nat) :=
  (List.range x.length).map (fun j =>
    if bit j st then x.getD j none
    else
      match x.getD j none, x.getD (j + 2 ^ st) none with
      | some a, some b => some (combine f w (g + j) a b)
      | some a, none => some a
      | none, y => y)

/-- REDUCE's result in a group, over its contributing lanes. -/
def reduceGroup (f : XaF) (w : Wave) (act g size : Nat) : Nat :=
  let p := w.voters act
  if exactAdd f then
    let ls := (lanesOf p w.lanes).filter (fun l => decide (g ≤ l ∧ l < g + size))
    intRes f.ty true (ls.foldl (fun acc l => acc + intOf f.ty (f.aT f.ty w l)) 0)
  else
    let x := (List.range size).map (fun j => if bit p (g + j) then some (f.aT f.ty w (g + j)) else none)
    let y := (List.range (groupLog size)).foldl (fun x st => reduceStage f w g st x) x
    (y.getD 0 none).getD (identity f)

/-- REDUCE's effect. -/
def reduceEff (f : XaF) (w : Wave) (act : Nat) : Wave :=
  let res (g : Nat) : Nat := reduceGroup f w act g (w.groupOf g).2
  match laneIx f.d9.toNat with
  | .rq => w.pushGroups res
  | _ => w.writeDst f.d9.toNat (w.voters act) (fun l => res (w.groupOf l).1)

/-- SCAN over the contributing lanes of a group, ascending: each lane's result, given the running value (the exact total
where integers saturate). -/
def scanLanes (f : XaF) (w : Wave) (ls : List Nat) (acc : Option Nat) (tot : Int) : List (Nat × Nat) :=
  match ls with
  | [] => []
  | l :: rest =>
    let a := f.aT f.ty w l
    let tot' := tot + intOf f.ty a
    let nx : Nat := if exactAdd f then intRes f.ty true tot' else match acc with | some x => combine f w l x a | none => a
    let out : Nat := if f.variant = 1 then acc.getD (identity f) else nx
    (l, out) :: scanLanes f w rest (some nx) tot'

/-- SCAN's effect. -/
def scanEff (f : XaF) (w : Wave) (act : Nat) : Wave :=
  let p := w.voters act
  let outs := w.groups.flatMap (fun q =>
    scanLanes f w ((lanesOf p w.lanes).filter (fun l => decide (q.1 ≤ l ∧ l < q.1 + q.2))) none 0)
  w.writeDst f.d9.toNat p (fun l => ((outs.find? (fun o => o.1 == l)).map (fun o => o.2)).getD 0)

/-! ## HIST and HMERGE (R160) -/

/-- The voters of a lane's group. -/
def groupVoters (w : Wave) (act l : Nat) : List Nat :=
  (lanesOf (w.voters act) w.lanes).filter (fun i => (w.groupOf i).1 == (w.groupOf l).1)

/-- HIST. -/
def opHist (f : XaF) (w : Wave) (act l : Nat) : Nat :=
  let j := l - (w.groupOf l).1
  (f.bT 6 w l + ((groupVoters w act l).filter (fun i => f.aT 6 w i == j)).length) % 2 ^ 32
/-- HIST's effect. -/
def histEff (f : XaF) (w : Wave) (act : Nat) : Wave := w.writeDst f.d9.toNat (w.voters act) (opHist f w act)

/-- HMERGE. -/
def opHmerge (f : XaF) (w : Wave) (act l : Nat) : Nat :=
  let same := (groupVoters w act l).filter (fun i => f.aT 6 w i == f.aT 6 w l)
  if same.head? = some l then (same.foldl (fun acc i => acc + f.bT 6 w i) 0) % 2 ^ 32 else 0
/-- HMERGE's effect. -/
def hmergeEff (f : XaF) (w : Wave) (act : Nat) : Wave := w.writeDst f.d9.toNat (w.voters act) (opHmerge f w act)

/-! ## CXSTAGE (R161) -/

/-- x y ± z t, rounded once; the first NaN in the order of the operands named. -/
def cxSum (minus : Bool) (c : NanCtx) (x y z t : Nat) : Nat :=
  let p := xMul (valueOfBits .f32 x) (valueOfBits .f32 y)
  let q := xMul (valueOfBits .f32 z) (valueOfBits .f32 t)
  fpResult .f32 .rne false 0 c [x, y, z, t] (xAdd false p (if minus then xNeg q else q))

/-- The results of a lane: real and imaginary. -/
def cxLane (f : XaF) (w : Wave) (l : Nat) : Nat × Nat :=
  let st := f.imm8.toNat % 8
  let up := if bit l st then l else l + 2 ^ st
  let lo := up - 2 ^ st
  let a := f.a9.toNat
  let b := f.b9.toNat
  let br := w.getV b up
  let bi := w.getV (b + 1) up
  let ar := w.getV a up
  let ai := w.getV (a + 1) up
  let tr := cxSum true (f.nan w up) br ar bi ai
  let ti := cxSum false (f.nan w up) br ai bi ar
  if l = up then
    (fSub .f32 .rne false 0 (f.nan w l) (w.getV a lo) tr, fSub .f32 .rne false 0 (f.nan w l) (w.getV (a + 1) lo) ti)
  else
    (fAdd .f32 .rne false 0 (f.nan w l) (w.getV a lo) tr, fAdd .f32 .rne false 0 (f.nan w l) (w.getV (a + 1) lo) ti)

/-- CXSTAGE's effect. -/
def cxEff (f : XaF) (w : Wave) (act : Nat) : Wave :=
  let ls := lanesOf act w.lanes
  (w.setLanes f.d9.toNat ls (fun l => (cxLane f w l).1)).setLanes (f.d9.toNat + 1) ls (fun l => (cxLane f w l).2)

/-- The stage of CXSTAGE must lie below log2 W. -/
def Wave.cxStage (w : Wave) (f : XaF) : Option EncFault := badValue (decide (f.imm8.toNat % 8 ≥ groupLog (w.groupOf 0).2))

/-- CXSTAGE's body: each completion is counted in RETCNT0. -/
def bodyCx (s : State) (words : Nat) (sp : XaSpec) (f : XaF) : R State :=
  match s.laneForm words sp f [] (cxEff f) with
  | .error x => .error x
  | .ok s' => .ok (s'.countRet 0)

/-- SHFL, base form (R156). -/
def execShflBA (f : BaF) (s : State) : Out := s.laneBA (.shflBA f) 6 specShfl 6 f (mapBody opShfl)
/-- SHFL, extended form (R156). -/
def execShflXA (f : XaF) (s : State) : Out := s.laneXA (.shflXA f) 6 specShfl f (mapBody opShfl)
/-- BCAST, base form (R156). -/
def execBcastBA (f : BaF) (s : State) : Out := s.laneBA (.bcastBA f) 6 specBcast 6 f bodyBcast
/-- BCAST, extended form (R156). -/
def execBcastXA (f : XaF) (s : State) : Out := s.laneXA (.bcastXA f) 6 specBcast f bodyBcast
/-- QSWAP, base form (R157). -/
def execQswapBA (f : BaF) (s : State) : Out := s.laneBA (.qswapBA f) 6 specQswap 6 f (mapBody opQswap)
/-- QSWAP, extended form (R157). -/
def execQswapXA (f : XaF) (s : State) : Out := s.laneXA (.qswapXA f) 6 specQswap f (mapBody opQswap)
/-- QBCAST, base form (R157). -/
def execQbcastBA (f : BaF) (s : State) : Out := s.laneBA (.qbcastBA f) 6 specQbcast 6 f (mapBody opQbcast)
/-- QBCAST, extended form (R157). -/
def execQbcastXA (f : XaF) (s : State) : Out := s.laneXA (.qbcastXA f) 6 specQbcast f (mapBody opQbcast)
/-- VOTE, base form (R158). -/
def execVoteBA (f : BaF) (s : State) : Out := s.laneBA (.voteBA f) 6 specVote 6 f bodyVote
/-- VOTE, extended form (R158). -/
def execVoteXA (f : XaF) (s : State) : Out := s.laneXA (.voteXA f) 6 specVote f bodyVote
/-- REDUCE (R159). -/
def execReduce (f : XaF) (s : State) : Out := s.laneXA (.reduce f) 24 (specReduce [0]) f (waveBody reduceEff)
/-- SCAN (R159). -/
def execScan (f : XaF) (s : State) : Out := s.laneXA (.scan f) 24 (specReduce [0, 1]) f (waveBody scanEff)
/-- HIST (R160). -/
def execHist (f : XaF) (s : State) : Out := s.laneXA (.hist f) 24 specBcast f (waveBody histEff)
/-- HMERGE (R160). -/
def execHmerge (f : XaF) (s : State) : Out := s.laneXA (.hmerge f) 24 specBcast f (waveBody hmergeEff)
/-- CXSTAGE (R161). -/
def execCxstage (f : XaF) (s : State) : Out := s.laneXAIf (.cxstage f) 24 specCx f (s.w.cxStage f) bodyCx

end Sys2Proof.Machine
end

