-- ==== Sys2Proof/Machine/Static.lean ====
section
/-! DEFINITION. What the words of an instruction decide before it runs: the stream it belongs to, the fault of its
encoding, and the registers and objects that it names directly (03 R59 to R79, R86; the instruction pages). -/
namespace Sys2Proof.Machine

/-- The stream that a form belongs to, none for a form of both, and the fault of its encoding in a stream. A device step is
no encoding. -/
def formOf (st : Stream) (i : Instr) : Option Stream × Option EncFault :=
  match i with
  | .iaddBA f => ((some .lane), legalBa specArith 5 f)
  | .iaddXA f => ((some .lane), legalXa (specArith f) f)
  | .isubBA f => ((some .lane), legalBa specArith 5 f)
  | .isubXA f => ((some .lane), legalXa (specArith f) f)
  | .imulBA f => ((some .lane), legalBa specArith 5 f)
  | .imulXA f => ((some .lane), legalXa (specArith f) f)
  | .imulhiBA f => ((some .lane), legalBa specMinMax 5 f)
  | .imulhiXA f => ((some .lane), legalXa (specMinMax f) f)
  | .imad f => ((some .lane), legalXa (specImad f) f)
  | .iminBA f => ((some .lane), legalBa specMinMax 5 f)
  | .iminXA f => ((some .lane), legalXa (specMinMax f) f)
  | .imaxBA f => ((some .lane), legalBa specMinMax 5 f)
  | .imaxXA f => ((some .lane), legalXa (specMinMax f) f)
  | .andBA f => ((some .lane), legalBa specLogic 6 f)
  | .andXA f => ((some .lane), legalXa (specLogic f) f)
  | .orBA f => ((some .lane), legalBa specLogic 6 f)
  | .orXA f => ((some .lane), legalXa (specLogic f) f)
  | .xorBA f => ((some .lane), legalBa specLogic 6 f)
  | .xorXA f => ((some .lane), legalXa (specLogic f) f)
  | .andnBA f => ((some .lane), legalBa specLogic 6 f)
  | .andnXA f => ((some .lane), legalXa (specLogic f) f)
  | .shlBA f => ((some .lane), legalBa specLogic 6 f)
  | .shlXA f => ((some .lane), legalXa (specLogic f) f)
  | .shrBA f => ((some .lane), legalBa specLogic 6 f)
  | .shrXA f => ((some .lane), legalXa (specLogic f) f)
  | .sarBA f => ((some .lane), legalBa specLogic 6 f)
  | .sarXA f => ((some .lane), legalXa (specLogic f) f)
  | .rotBA f => ((some .lane), legalBa specLogic 6 f)
  | .rotXA f => ((some .lane), legalXa (specLogic f) f)
  | .bfx f => ((some .lane), legalXa (specBfx f) f)
  | .bfi f => ((some .lane), legalXa (specBfi f) f)
  | .popcBA f => ((some .lane), legalBa specBit 6 f)
  | .popcXA f => ((some .lane), legalXa (specBit f) f)
  | .clzBA f => ((some .lane), legalBa specBit 6 f)
  | .clzXA f => ((some .lane), legalXa (specBit f) f)
  | .ctzBA f => ((some .lane), legalBa specBit 6 f)
  | .ctzXA f => ((some .lane), legalXa (specBit f) f)
  | .brevBA f => ((some .lane), legalBa specBit 6 f)
  | .brevXA f => ((some .lane), legalXa (specBit f) f)
  | .icmp f => ((some .lane), legalXa (specIcmp f) f)
  | .sel f => ((some .lane), legalXa (specSel f) f)
  | .movBA f => ((some .lane), legalBa specMov 6 f)
  | .movXA f => ((some .lane), legalXa (specMov f) f)
  | .movrel f => ((some .lane), legalXa (specMovrel f) f)
  | .movrelw f => ((some .lane), legalXa (specMovrelw f) f)
  | .getexecBA f => ((some .lane), legalBa specGetexec 6 f)
  | .getexecXA f => ((some .lane), legalXa (specGetexec f) f)
  | .setexecBA f => ((some .lane), legalBa specSetexec 6 f)
  | .setexecXA f => ((some .lane), legalXa (specSetexec f) f)
  | .vrdl f => ((some .lane), legalXa (specVrdl f) f)
  | .vwrl f => ((some .lane), legalXa (specVwrl f) f)
  | .kand f => ((some .lane), legalK true f)
  | .kor f => ((some .lane), legalK true f)
  | .kxor f => ((some .lane), legalK true f)
  | .knot f => ((some .lane), legalK false f)
  | .kmov f => ((some .lane), legalK false f)
  | .faddBA f => ((some .lane), legalBa specF2 0 f)
  | .faddXA f => ((some .lane), legalXa (specF2 f) f)
  | .fsubBA f => ((some .lane), legalBa specF2 0 f)
  | .fsubXA f => ((some .lane), legalXa (specF2 f) f)
  | .fmulBA f => ((some .lane), legalBa specF2 0 f)
  | .fmulXA f => ((some .lane), legalXa (specF2 f) f)
  | .ffma f => ((some .lane), legalXa (specFfma f) f)
  | .fminBA f => ((some .lane), legalBa specFminmax 0 f)
  | .fminXA f => ((some .lane), legalXa (specFminmax f) f)
  | .fmaxBA f => ((some .lane), legalBa specFminmax 0 f)
  | .fmaxXA f => ((some .lane), legalXa (specFminmax f) f)
  | .fcmp f => ((some .lane), legalXa (specFcmp f) f)
  | .fclass f => ((some .lane), legalXa (specFclass f) f)
  | .frcpBA f => ((some .lane), legalBa specFn 0 f)
  | .frcpXA f => ((some .lane), legalXa (specFn f) f)
  | .frsqBA f => ((some .lane), legalBa specFn 0 f)
  | .frsqXA f => ((some .lane), legalXa (specFn f) f)
  | .fsqrtBA f => ((some .lane), legalBa specFn 0 f)
  | .fsqrtXA f => ((some .lane), legalXa (specFn f) f)
  | .fexp2BA f => ((some .lane), legalBa specFn 0 f)
  | .fexp2XA f => ((some .lane), legalXa (specFn f) f)
  | .flog2BA f => ((some .lane), legalBa specFn 0 f)
  | .flog2XA f => ((some .lane), legalXa (specFn f) f)
  | .fsinpiBA f => ((some .lane), legalBa specFn 0 f)
  | .fsinpiXA f => ((some .lane), legalXa (specFn f) f)
  | .fcospiBA f => ((some .lane), legalBa specFn 0 f)
  | .fcospiXA f => ((some .lane), legalXa (specFn f) f)
  | .hfma2 f => ((some .lane), legalXa (specHfma f) f)
  | .hadd2BA f => ((some .lane), legalBa specH2 1 f)
  | .hadd2XA f => ((some .lane), legalXa (specH2 f) f)
  | .hmul2BA f => ((some .lane), legalBa specH2 1 f)
  | .hmul2XA f => ((some .lane), legalXa (specH2 f) f)
  | .dot4d8 f => ((some .lane), legalXa (specDot4 f) f)
  | .dot2h f => ((some .lane), legalXa (specDot2h f) f)
  | .cvt f => ((some .lane), legalXa (specCvt f) f)
  | .pack f => ((some .lane), legalXa (specPack f) f)
  | .unpack f => ((some .lane), legalXa (specUnpack f) f)
  | .qscale f => ((some .lane), legalXa (specQscale f) f)
  | .dqscale f => ((some .lane), legalXa (specDqscale f) f)
  | .hadq f => ((some .lane), legalXa (specHadq f) f)
  | .shflBA f => ((some .lane), legalBa specShfl 6 f)
  | .shflXA f => ((some .lane), legalXa (specShfl f) f)
  | .bcastBA f => ((some .lane), legalBa specBcast 6 f)
  | .bcastXA f => ((some .lane), legalXa (specBcast f) f)
  | .qswapBA f => ((some .lane), legalBa specQswap 6 f)
  | .qswapXA f => ((some .lane), legalXa (specQswap f) f)
  | .qbcastBA f => ((some .lane), legalBa specQbcast 6 f)
  | .qbcastXA f => ((some .lane), legalXa (specQbcast f) f)
  | .voteBA f => ((some .lane), legalBa specVote 6 f)
  | .voteXA f => ((some .lane), legalXa (specVote f) f)
  | .reduce f => ((some .lane), legalXa ((specReduce [0]) f) f)
  | .scan f => ((some .lane), legalXa ((specReduce [0, 1]) f) f)
  | .hist f => ((some .lane), legalXa (specBcast f) f)
  | .hmerge f => ((some .lane), legalXa (specBcast f) f)
  | .cxstage f => ((some .lane), legalXa (specCx f) f)
  | .brdq _ => ((some .lane), none)
  | .calll _ => ((some .lane), none)
  | .bdiv f => ((some .lane), legalBdiv f)
  | .reconv f => ((some .lane), legalBare f)
  | .retl f => ((some .lane), legalBare f)
  | .exit f => ((some .lane), legalBare f)
  | .ldBM minor f => ((some .lane), legalLdBm minor.toNat f)
  | .ldXM minor f => ((some .lane), legalLdXm minor.toNat f)
  | .stBM minor f => ((some .lane), legalStBm minor.toNat f)
  | .stXM minor f => ((some .lane), legalStXm minor.toNat f)
  | .ldsp f => ((some .lane), legalLdsp f)
  | .stsp f => ((some .lane), legalStsp f)
  | .stt f => ((some .lane), legalStt f)
  | .pref f => ((some .lane), legalPref f)
  | .atom f => ((some .lane), legalAtom f)
  | .cadd f => ((some .lane), legalCadd f)
  | .append f => ((some .lane), legalAppend f)
  | .mma f => ((some .lane), legalXt (useMma false f) f)
  | .mzero f => ((some .lane), legalXt useMzero f)
  | .mrd f => ((some .lane), legalXt useMrd f)
  | .mwr f => ((some .lane), legalXt useMwr f)
  | .mldt f => ((some .lane), legalXt (useMove f) f)
  | .mstore f => ((some .lane), legalXt (useMove f) f)
  | .mfence f => ((some .lane), legalXt useMfence f)
  | .mwait f => ((some .lane), legalXt useMwait f)
  | .msig f => ((some .lane), legalXt useMsig f)
  | .mpair f => ((some .lane), legalXt (useMma true f) f)
  | .saddBS f => ((some .lead), legalLeadBs specSadd f)
  | .saddXA f => ((some .lead), legalLeadXa specSadd f)
  | .ssubBS f => ((some .lead), legalLeadBs specSadd f)
  | .ssubXA f => ((some .lead), legalLeadXa specSadd f)
  | .smulBS f => ((some .lead), legalLeadBs specSadd f)
  | .smulXA f => ((some .lead), legalLeadXa specSadd f)
  | .smulhiBS f => ((some .lead), legalLeadBs specSand f)
  | .smulhiXA f => ((some .lead), legalLeadXa specSand f)
  | .sandBS f => ((some .lead), legalLeadBs specSand f)
  | .sandXA f => ((some .lead), legalLeadXa specSand f)
  | .sorBS f => ((some .lead), legalLeadBs specSand f)
  | .sorXA f => ((some .lead), legalLeadXa specSand f)
  | .sxorBS f => ((some .lead), legalLeadBs specSand f)
  | .sxorXA f => ((some .lead), legalLeadXa specSand f)
  | .smovBS f => ((some .lead), legalLeadBs specSmov f)
  | .smovXA f => ((some .lead), legalLeadXa specSmov f)
  | .sshlBS f => ((some .lead), legalLeadBs specSand f)
  | .sshlXA f => ((some .lead), legalLeadXa specSand f)
  | .sshrBS f => ((some .lead), legalLeadBs specSand f)
  | .sshrXA f => ((some .lead), legalLeadXa specSand f)
  | .ssarBS f => ((some .lead), legalLeadBs specSand f)
  | .ssarXA f => ((some .lead), legalLeadXa specSand f)
  | .sminBS f => ((some .lead), legalLeadBs specSand f)
  | .sminXA f => ((some .lead), legalLeadXa specSand f)
  | .smaxBS f => ((some .lead), legalLeadBs specSand f)
  | .smaxXA f => ((some .lead), legalLeadXa specSand f)
  | .scmp f => ((some .lead), legalLeadXa specScmp f)
  | .ssel f => ((some .lead), legalLeadXa specSsel f)
  | .sbfx f => ((some .lead), legalLeadXa specSbfx f)
  | .sbr _ => ((some .lead), none)
  | .sbrc f => ((some .lead), legalSbrc f)
  | .scall _ => ((some .lead), none)
  | .sloop f => ((some .lead), legalSloop f)
  | .jmpl _ => ((some .lead), none)
  | .sret f => ((some .lead), legalSret f)
  | .sdone f => ((some .lead), legalBare f)
  | .dqpush f => ((some .lead), legalB 32 (fun _ => true) f)
  | .vgive f => ((some .lead), legalB 64 countIx f)
  | .vclaim f => ((some .lead), legalB 64 countIx f)
  | .abort f => ((some .lead), legalBare f)
  | .pollabt f => ((some .lead), legalBare f)
  | .ldsBM f => ((some .lead), legalLdsBm f)
  | .ldsXM f => ((some .lead), legalLdsXm f)
  | .stsBM f => ((some .lead), legalStsBm f)
  | .stsXM f => ((some .lead), legalStsXm f)
  | .ldlq f => ((some .lead), legalLdlq f)
  | .crangeOpen f => ((some .lead), legalCrange f)
  | .crangeClose f => ((some .lead), legalCrange f)
  | .phrelBS f => ((some .lead), legalPhBs f)
  | .phrelXM f => ((some .lead), legalPhXm f)
  | .phacqBS f => ((some .lead), legalPhBs f)
  | .phacqXM f => ((some .lead), legalPhXm f)
  | .phaseBS f => ((some .lead), legalPhBs f)
  | .phaseXM f => ((some .lead), legalPhXm f)
  | .consume f => ((some .lead), legalConsume f)
  | .rnext f => ((some .lead), legalRnext f)
  | .launch f => ((some .lead), legalLaunch f)
  | .cpy f => ((some .lead), legalJob false f)
  | .coll f => ((some .lead), legalJob true f)
  | .wait f => (none, legalWait st f)
  | .seminc f => (none, legalSync (specSem false) st f)
  | .semset f => (none, legalSync (specSem true) st f)
  | .semwait f => (none, legalSync (specSem true) st f)
  | .barinit f => (none, legalSync (specBar true) st f)
  | .bararr f => (none, legalSync (specBar false) st f)
  | .barexp f => (none, legalSync specBarexp st f)
  | .barwait f => (none, legalSync specBarwait st f)
  | .joinset f => (none, legalSync specJoin st f)
  | .joinadd f => (none, legalSync specJoin st f)
  | .joindec f => (none, legalSync specJoin st f)
  | .trap f => (none, legalImm st f)
  | .eret f => (none, legalEret st f)
  | .rdsr f => (none, legalRdsr st f)
  | .wrsr f => (none, legalWrsr st f)
  | .rdlead f => ((some .lane), legalRdlead .lane f)
  | .wrlead f => ((some .lane), legalWrlead .lane f)
  | .yield f => (none, legalImm st f)
  | .sleep f => (none, legalSleep st f)
  | _ => (none, some (.opcode 0))

/-- The encoding of an instruction in a stream: none where it is legal there. -/
def encFault (st : Stream) (i : Instr) : Option EncFault :=
  let f := formOf st i
  if decide (f.1.getD st ≠ st) then some (.opcode 3) else f.2

/-! ## What an instruction names (R86) -/

/-- The operand fields of the words of an instruction: 7-bit fields of a base word, or 9-bit fields of an extended one
(R58, R65 to R75). -/
def fieldsOf (ws : List Word) : List Nat × List Nat :=
  let word (k : Nat) : Nat := (ws.getD k 0#32).toNat
  let h := headOf (ws.getD 0 0#32)
  let m := h.major.toNat
  let hi := h.hi.toNat
  let bb := decide (m = 0x28 ∨ m = 0x36)
  let bm := decide (m = 0x2C ∨ m = 0x2D) || decide (m = 0x38 ∧ h.minor.toNat ≤ 1)
  if h.len = 1#2 ∨ h.len = 3#2 then
    ([], if bb then [bits (word 1) 0 9] else [bits (word 1) 0 9, bits (word 1) 9 9, bits (word 1) 18 9, bits (word 2) 0 9])
  else if bb then ([], [])
  else ([bits hi 0 7, bits hi 7 7] ++ (if bm || h.len == 2#2 then [] else [bits hi 14 7]), [])

/-- The lane registers that the words name, and the constants. -/
def laneNames (ws : List Word) : List Nat × List Nat :=
  let f := fieldsOf ws
  (f.1 ++ f.2.filter (fun x => decide (x < 320)), (f.2.filter (fun x => decide (328 ≤ x ∧ x < 360))).map (fun x => x - 328))

/-- The lead registers that the words name. -/
def leadNames (ws : List Word) : List Nat :=
  let f := fieldsOf ws
  (f.1 ++ f.2).filter (fun x => decide (x < 64))

/-- The scale register that a scaled DOT4D8 names in `imm21[8:0]` (06 R148). -/
def scaleNames (i : Instr) : List Nat :=
  match i with
  | .dot4d8 f => if f.variant = 1#5 then [f.imm21.toNat % 512] else []
  | _ => []

/-- The tiles that an instruction names in `tile` or `aux6`. -/
def tileNames (i : Instr) : List Nat :=
  match i with
  | .mma f | .mzero f | .mrd f | .mwr f | .mldt f | .mstore f => [f.tile.toNat]
  | .mpair f => [f.tile.toNat, f.aux6.toNat]
  | _ => []

/-- The core and span barriers that it names. -/
def barNames (i : Instr) : List Nat :=
  match i with
  | .barinit f | .bararr f | .barexp f | .barwait f => if isHandle f then [] else [f.sel9.toNat]
  | .msig f => [f.aux6.toNat]
  | .cpy f | .coll f => if jobComp f = 2 then [f.imm8.toNat] else []
  | _ => []

/-- The semaphores that it names. -/
def semNames (i : Instr) : List Nat :=
  match i with
  | .seminc f | .semset f | .semwait f => if isHandle f then [] else [f.sel9.toNat]
  | .cpy f | .coll f => if jobComp f = 1 then [f.imm8.toNat] else []
  | _ => []

/-- Lead registers that RDLEAD and WRLEAD name in `sel9`. -/
def selNames (i : Instr) : List Nat := match i with | .rdlead f | .wrlead f => [f.sel9.toNat] | _ => []

/-- A barrier outside a kernel's counts. -/
def barOutside (k : KInfo) (n : Nat) : Bool :=
  if n < 32 then decide (n ≥ k.barriers) else decide (n ≥ 48 ∨ n - 32 ≥ k.spanb)

/-- A directly encoded operand of a legal encoding exceeds its declared count (R86). -/
def exceeds (k : KInfo) (st : Stream) (i : Instr) (ws : List Word) : Bool :=
  let l := laneNames ws
  (match st with
   | .lane => (l.1 ++ scaleNames i).any (fun n => decide (n ≥ 8 * k.regs)) || l.2.any (fun n => decide (n ≥ k.consts))
   | .lead => (leadNames ws).any (fun n => decide (n ≥ k.sregs)))
  || (selNames i).any (fun n => decide (n ≥ k.sregs)) || (tileNames i).any (fun n => decide (n ≥ k.tiles))
  || (barNames i).any (barOutside k) || (semNames i).any (fun n => decide (n ≥ k.sems))

/-! ## Width-dependent forms (R33; 06 R134) -/

/-- A form that the instruction pages mark as width-dependent. -/
def widthDependent (i : Instr) : Bool :=
  match i with
  | .shflBA _ | .shflXA _ | .bcastBA _ | .bcastXA _ | .hist _ | .hmerge _ | .getexecBA _ | .getexecXA _ | .setexecBA _
  | .setexecXA _ | .hadq _ | .cxstage _ => true
  | .voteXA f => decide (f.variant = 2)
  | .qscale f => decide (f.variant = 1)
  | _ => false

/-! ## Branch targets (07 R171, R179) -/

/-- The targets of the branches of a stream at an address: those of its own section, and those of JMPL in the lane
section. -/
def targetsOf (i : Instr) (pc : Nat) : List (Stream × Nat) :=
  match i with
  | .sbr f | .scall f => [(.lead, target (pc + 4) f.off21)]
  | .jmpl f => [(.lane, target (pc + 4) f.off21)]
  | .sbrc f | .sloop f => [(.lead, target (pc + 12) f.off21)]
  | .brdq f | .calll f => [(.lane, target (pc + 4) f.off21)]
  | .bdiv f => [(.lane, target (pc + 12) f.off21)]
  | _ => []

/-- The reconvergence target of a BDIV that breaks the rules of R179: `off21b` with a uniform predicate, or a target in the
lane section, given by its base and words, that is no RECONV. The major and minor opcode alone say whether a word is one:
DESIGN CHOICE (entry 44). -/
def reconvBad (i : Instr) (pc base : Nat) (ws : List Word) : Bool :=
  match i with
  | .bdiv f =>
    let t := target (pc + 12) f.off21b
    let at_ := (ws.getD ((t - base) / 4) 0#32)
    let recon := decide (base ≤ t ∧ t < base + 4 * ws.length) && (headOf at_).major == 0x29#6 && (headOf at_).minor == 0#3
    if bdivUniform f then f.off21b != 0#21 else encFault .lane i == none && !recon
  | _ => false

end Sys2Proof.Machine
end

