-- ==== Sys2Proof/Machine/LoadCode.lean ====
section
/-! DEFINITION. Code objects: LOAD_CODE with the checks of the object, its signature and its kernels, UNLOAD_CODE, and the
check of a code page (03 R84 to R86; 02 R33, R34; 07 R171; 15 R344; 17 R392; 19 R418 to R422). -/
namespace Sys2Proof.Machine

/-! ## Reading through a table root (15 R342, R343) -/

/-- A leaf for an address under a table root. -/
def leafUnder (mem : List Host.Cell) (root va : Nat) : Option TlbEntry :=
  match walk mem root va with
  | .leaf e => some e
  | _ => none

/-- Bytes of lines read through a table root, none where one is not mapped. -/
def readLines (mem : List Host.Cell) (root : Nat) (ps : List (Nat × Nat)) : Option (List Byte) :=
  match ps with
  | [] => some []
  | (va, n) :: rest =>
    match leafUnder mem root va with
    | none => none
    | some e => (readLines mem root rest).map (fun bs => memBytes mem (e.phys va) n ++ bs)

/-- Bytes read through a table root. -/
def readUnder (mem : List Host.Cell) (root va n : Nat) : Option (List Byte) := readLines mem root (lineParts va n)

/-- A number read through a table root. -/
def valueUnder (mem : List Host.Cell) (root va n : Nat) : Option Nat := (readUnder mem root va n).map leValue

/-- A PA that may be the level-3 table of a context (15 R342). -/
def rootOk (pa : Nat) : Bool := decide (pa % 16384 = 0) && isDevicePa pa

/-! ## The object (19 R418 to R420) -/

/-- The parts of an object header that loading uses. -/
structure ObjHeader where
  nkern : Nat
  kdir : Nat
  code : Nat
  size : Nat
  man : Nat
  enr : Nat
  enrSize : Nat
  enril : Bool
  sig : Nat
  keyid : Nat
deriving DecidableEq, Repr

/-- The header of an object from its 512 bits. -/
def objHeader (x : Nat) : ObjHeader :=
  { nkern := bits x 64 16, kdir := bits x 96 32, code := bits x 128 32, size := bits x 160 32, man := bits x 192 32,
    enr := bits x 224 32, enrSize := bits x 256 32, enril := bit x 48, sig := bits x 288 32, keyid := bits x 320 64 }

/-- A header field is out of its limits, or a `rsvd` bit is set (reason 1). -/
def objHeaderBad (x : Nat) : Bool :=
  let h := objHeader x
  decide (bits x 0 32 ≠ 0x4F43534B ∨ bits x 32 16 ≠ 1 ∨ bits x 49 1 ≠ 1 ∨ bits x 50 14 ≠ 0 ∨ bits x 80 16 ≠ 0 ∨ bits x 416 96 ≠ 0)
  || decide (h.nkern = 0 ∨ h.nkern > 256 ∨ h.kdir % 8 ≠ 0 ∨ h.code % 16384 ≠ 0 ∨ h.size % 16384 ≠ 0 ∨ h.size < 16384
      ∨ h.size > 268435456 ∨ h.man % 32 ≠ 0 ∨ h.enr % 16 ≠ 0 ∨ h.sig % 8 ≠ 0)
  || (!h.enril && h.enr != 0) || decide (bits x 384 32 ≠ h.code + h.size)

/-- Two byte ranges share a byte. -/
def meet (a b : Nat × Nat) : Bool := decide (a.1 < b.1 + b.2 ∧ b.1 < a.1 + a.2 ∧ a.2 ≠ 0 ∧ b.2 ≠ 0)

/-- Some two of a list of byte ranges share a byte. -/
def anyMeet (l : List (Nat × Nat)) : Bool :=
  match l with
  | [] => false
  | a :: rest => rest.any (meet a) || anyMeet rest

/-- Length of a name with its zero byte, within a number of bytes. -/
def nameLen (bs : List Byte) : Option Nat := (bs.findIdx? (fun b => b == 0#8)).map (fun i => i + 1)

/-- The parts of an object below its signature, but its names. -/
def ObjHeader.parts (h : ObjHeader) : List (Nat × Nat) :=
  [(0, 64), (h.kdir, 8 * h.nkern), (h.man, 32 * (h.size / 16384))] ++ (if h.enril then [(h.enr, h.enrSize)] else [])

/-- NAMEOFF and HDROFF of the kernels, from the bytes below SIGOFF. -/
def ObjHeader.kernels (h : ObjHeader) (low : List Byte) : List (Nat × Nat) :=
  (List.range h.nkern).map (fun i =>
    let e := leValue ((low.drop (h.kdir + 8 * i)).take 8)
    (bits e 0 32, bits e 32 32))

/-- The parts overlap or break their order (reason 2): all but the code region and the signature lie below SIGOFF, and the
signature below the code region. -/
def ObjHeader.layoutBad (h : ObjHeader) : Bool :=
  !(h.parts.all (fun p => decide (p.1 + p.2 ≤ h.sig)) && decide (h.sig + 384 ≤ h.code)) || anyMeet h.parts

/-- The name of a kernel leaves the bytes below SIGOFF or shares a byte with another part (reason 2). -/
def ObjHeader.namesBad (h : ObjHeader) (low : List Byte) : Bool :=
  (h.kernels low).any (fun k =>
    match nameLen ((low.take h.sig).drop k.1) with
    | none => true
    | some n => h.parts.any (meet (k.1, n)))

/-! ## Kernels (03 R84 to R86) -/

/-- ROLECNT0 to ROLECNT7. -/
def roleCounts (x : Nat) : List Nat := (List.range 8).map (fun i => bits x (384 + 16 * i) 16)

/-- The fields of a kernel header in force, for a header at a virtual address. -/
def kernelInfo (x va : Nat) : KInfo :=
  { leadBase := va + bits x 64 32, leadSize := bits x 96 32, laneBase := va + bits x 128 32, laneSize := bits x 160 32,
    abortPc := if bit x 48 then va + bits x 192 32 else 0, regs := bits x 224 8, sregs := bits x 232 8, tiles := bits x 240 8,
    barriers := bits x 248 8, spanb := bits x 50 5, sems := bits x 256 8, scratch := bits x 288 32, divspill := bits x 320 32,
    record := bits x 352 16, consts := bits x 368 8 }

/-- A kernel of an object. -/
def kernelOf (x va : Nat) : Kernel :=
  { ptr := va, info := kernelInfo x va, roles := if bit x 49 then (roleCounts x).take (bits x 376 8) else [],
    cls := bits x 264 2, coop := bits x 272 8, width := bits x 280 8 }

/-- A kernel header breaks the limits of R84 or R34. -/
def kernelFieldsBad (x : Nat) : Bool :=
  let k := kernelInfo x 0
  let n := bits x 376 8
  let rs := roleCounts x
  decide (bits x 0 32 ≠ 0x4E52484B ∨ bits x 32 16 ≠ 2 ∨ bits x 55 9 ≠ 0 ∨ k.spanb > 16 ∨ bits x 266 6 ≠ 0 ∨ bits x 264 2 = 3)
  || decide (k.leadBase % 4 ≠ 0 ∨ k.leadSize % 4 ≠ 0 ∨ k.laneBase % 4 ≠ 0 ∨ k.laneSize % 4 ≠ 0 ∨ k.regs = 0 ∨ k.regs > 40
      ∨ k.sregs = 0 ∨ k.sregs > 64 ∨ k.tiles > 64 ∨ k.barriers > 32 ∨ k.sems > 64)
  || !(bits x 272 8 == 1 || decide (bits x 264 2 = 0 ∧ 2 ≤ bits x 272 8 ∧ bits x 272 8 ≤ 32))
  || !([0, 16, 32, 64].contains (bits x 280 8)) || !([0, 16, 32, 64, 128, 256].contains k.record)
  || decide (k.scratch > 1048576 ∨ k.divspill % 16 ≠ 0 ∨ k.divspill > 1048576 ∨ k.consts > 32 ∨ n = 0 ∨ n > 8)
  || (rs.take n).any (fun c => decide (c = 0 ∨ c > 2048)) || (rs.drop n).any (fun c => c != 0) || decide (rs.sum > 2048)
  || (!bit x 48 && bits x 192 32 != 0)

/-- The sections of a kernel, given where its code region begins and how long it is: they overlap, or leave it, or ABORTOFF
leaves the lead section (R85; 19 R418). -/
def sectionsBad (k : KInfo) (abort : Bool) (lo size : Nat) : Bool :=
  let inside (b n : Nat) : Bool := decide (lo ≤ b ∧ b + n ≤ lo + size)
  !inside k.leadBase k.leadSize || !inside k.laneBase k.laneSize || meet (k.leadBase, k.leadSize) (k.laneBase, k.laneSize)
    || (abort && !inRange k.abortPc k.leadBase k.leadSize)

/-- The instructions of a section from its first word, each with its address, and whether the last runs past the end (R86). -/
def linear (ws : List Word) (pc : Nat) (fuel : Nat) : List (Nat × List Word) × Bool :=
  match fuel, ws with
  | _, [] => ([], false)
  | 0, _ => ([], true)
  | fuel + 1, w :: rest =>
    let n := wordsOfLen (headOf w).len
    if n > rest.length + 1 then ([], true)
    else
      let r := linear ((w :: rest).drop n) (pc + 4 * n) fuel
      ((pc, (w :: rest).take n) :: r.1, r.2)

/-- The bytes of a section before the first word that is not mapped. -/
def mappedPart (gone : Nat → Nat → Bool) (base n : Nat) : Nat :=
  if gone base n then 4 * ((List.range (n / 4)).takeWhile (fun i => !gone (base + 4 * i) 4)).length else n

/-- What the loader finds in the mapped words of a section of `size` bytes: an operand beyond its count, a branch out of its
section, and a bad reconvergence target; an instruction or a target that the mapped words do not show gives no reason (R86;
07 R171). -/
def sectionBad (k : KInfo) (st : Stream) (base size : Nat) (ws : List Word) : Bool :=
  let cut := decide (4 * ws.length < size)
  let hidden (t : Nat) : Bool := cut && decide (base + 4 * ws.length ≤ t ∧ t < base + size)
  let inside (t : Stream × Nat) : Bool :=
    match t.1 with
    | .lead => inRange t.2 k.leadBase k.leadSize
    | .lane => inRange t.2 k.laneBase k.laneSize
  let l := linear ws base (ws.length + 1)
  (l.2 && !cut) || l.1.any (fun p =>
      match decodeWords p.2 with
      | .error _ => false
      | .ok (i, _) =>
        (encFault st i == none && (exceeds k st i p.2 || (targetsOf i p.1).any (fun t => !inside t)))
          || (decide (st = .lane) && reconvBad i p.1 base ws
                && !(match i with | .bdiv f => !bdivUniform f && hidden (target (p.1 + 12) f.off21b) | _ => false)))

/-- A lane section holds a width-dependent form (R33). -/
def widthForms (base : Nat) (ws : List Word) : Bool :=
  (linear ws base (ws.length + 1)).1.any (fun p => match decodeWords p.2 with | .ok (i, _) => widthDependent i && encFault .lane i == none | .error _ => false)

/-- What loading says of one kernel: sound, or one of the reasons 5 and 6. -/
inductive KernelCheck where
  | ok (k : Kernel)
  | header
  | code
  /-- part of it lies on a page that is not mapped, and what is mapped shows no reason -/
  | unread
deriving DecidableEq, Repr

/-- A KERNEL CHECKED, from the bytes of the code region, which begins at a virtual address (R85, R86); `gone` says that some
bytes from an address are not mapped. -/
def checkKernel (region : List Byte) (lo hdr : Nat) (gone : Nat → Nat → Bool) : KernelCheck :=
  if decide (hdr % 64 ≠ 0) || !decide (lo ≤ hdr ∧ hdr + 64 ≤ lo + region.length) then .header
  else if gone hdr 64 then .unread
  else
    let x := leValue ((region.drop (hdr - lo)).take 64)
    let k := kernelInfo x hdr
    if kernelFieldsBad x || sectionsBad k (bit x 48) lo region.length then .header
    else
      let words (b n : Nat) : List Word := wordsOfBytes ((region.drop (b - lo)).take (mappedPart gone b n))
      let lead := words k.leadBase k.leadSize
      let lane := words k.laneBase k.laneSize
      if bits x 280 8 = 0 ∧ widthForms k.laneBase lane = true then .header
      else if sectionBad k .lead k.leadBase k.leadSize lead || sectionBad k .lane k.laneBase k.laneSize lane then .code
      else if gone k.leadBase k.leadSize || gone k.laneBase k.laneSize then .unread
      else .ok (kernelOf x hdr)

/-- The first kernel with a result, and its index. -/
def firstKernel (l : List KernelCheck) (x : KernelCheck) : Option Nat := l.findIdx? (fun y => decide (y = x))

/-- The kernels of a list that are sound. -/
def soundKernels (l : List KernelCheck) : List Kernel := l.filterMap (fun c => match c with | .ok k => some k | _ => none)

/-! ## LOAD_CODE and UNLOAD_CODE (R420, R433) -/

/-- A page of the code region may be fetched from and not written (reason 7). -/
def codePageOk (mem : List Host.Cell) (root va : Nat) : Bool :=
  match leafUnder mem root va with
  | some e => bit e.perm 3 && !bit e.perm 1
  | none => false

/-- THE CHECKS OF AN OBJECT in the order of R420: the loaded object with the bytes that its signature covers, or the reason
of its refusal, none where the manual names none. -/
def checkObject (mem : List Host.Cell) (root base : Nat) (keys : List Nat) : Except (Option Nat) (CodeObj × List Byte) :=
  match valueUnder mem root base 64 with
  | none => .error none
  | some x =>
    if objHeaderBad x then .error (some 1)
    else
      let h := objHeader x
      match (if h.layoutBad then none else readUnder mem root base (h.sig + 384)) with
      | none => .error (if h.layoutBad then some 2 else none)
      | some low =>
        if h.namesBad low then .error (some 2)
        else
          match keys.find? (fun k => keyIdOf k == h.keyid) with
          | none => .error (some 3)
          | some key =>
            if !rsaVerify key ((low.drop h.sig).take 384) (low.take h.sig) then .error (some 4)
            else
              let lo := base + h.code
              let pages := (List.range (h.size / 16384)).map (fun p => lo + 16384 * p)
              let parts := pages.map (fun va => readUnder mem root va 16384)
              let region := parts.flatMap (fun p => p.getD (List.replicate 16384 0#8))
              let gone (a n : Nat) : Bool := (pages.zip parts).any (fun p => p.2.isNone && meet (p.1, 16384) (a, n))
              let ks := (h.kernels low).map (fun k => checkKernel region lo (base + k.2) gone)
              match firstKernel ks .header, firstKernel ks .code with
              | some i, _ => .error (some (5 + 256 * i))
              | none, some i => .error (some (6 + 256 * i))
              | none, none =>
                if !pages.all (codePageOk mem root) then .error (some 7)
                else
                  .ok ({ id := 0, base := lo, ptroot := root, size := h.size, kernels := soundKernels ks,
                         chk := pages.map (fun _ => 0),
                         digests := pages.zipIdx.map (fun p => leValue ((low.drop (h.man + 32 * p.2)).take 32)), rev := false },
                       low.take h.sig)

/-- LOAD_CODE (R420): the object is kept with every page unchecked, and MR3 is extended (20 R447). -/
def loadCodeStep (s : State) : State :=
  s.onCommand (fun c => opcodeOf c == 0x10) (fun c s =>
    let base := bits c 64 64
    let root := bits c 128 48
    s.gate c 3 [(64, 64), (128, 48)] (decide (base % 16384 ≠ 0 ∨ base ≥ 2 ^ 47) || !rootOk root) (fun s =>
      match checkObject s.mem root base s.keys with
      | .error (some r) => s.refuse c r
      | .error none => s.refuseFor c 1
      | .ok (o, low) =>
        ({ s.extend 3 (sha256 low) with
            codes := s.codes ++ [{ o with id := s.nextObj }], nextObj := s.nextObj + 1 } : State).done c (s.nextObj % 2 ^ 32 * 2 ^ 64)))

/-- LOAD_CODE (R420). -/
def execLoadCode (s : State) : Out := .next (loadCodeStep s)

/-- UNLOAD_CODE (20 R433): refused while a loaded graph names the object. -/
def unloadCodeStep (s : State) : State :=
  s.onCommand (fun c => opcodeOf c == 0x11) (fun c s =>
    let id := bits c 64 32
    s.gate c 3 [(64, 32)] false (fun s =>
      if !s.codes.any (fun o => o.id == id) then s.refuseFor c 1
      else if s.loadedGraphs.any (fun g => g.nodes.any (fun n => decide (n.kind ≤ kindDispatch) && n.obj == id)) then s.refuseFor c 2
      else ({ s with codes := s.codes.filter (fun o => o.id != id) } : State).done c 0))

/-- UNLOAD_CODE (20 R433). -/
def execUnloadCode (s : State) : Out := .next (unloadCodeStep s)

/-! ## CODE_PAGE_CHECK and CODE_REVOKE (R421, R422; 17 R392) -/

/-- REVOKED set for the nodes of the current graph whose kernels lie in an object. -/
def State.revokeNodes (s : State) (id : Nat) (ns : List (Node × Nat)) : State :=
  match ns with
  | [] => s
  | (n, i) :: rest =>
    (if n.kind ≤ kindDispatch ∧ n.obj = id then s.setStatus i (fun x => { x with flags := putBit x.flags 1 true }) else s).revokeNodes
      id rest

/-- REVOKED in the graph status of a graph that is not current. -/
def Graph.revoke (g : Graph) (id : Nat) : Graph :=
  { g with status := g.status.zipIdx.map (fun p =>
      match g.nodes[p.2]? with
      | some n => if n.kind ≤ kindDispatch ∧ n.obj = id then { p.1 with flags := putBit p.1.flags 1 true } else p.1
      | none => p.1) }

/-- The status of some nodes of a graph written to its status area. -/
def State.writeStatus (s : State) (g : Graph) (ns : List Nat) : State :=
  match ns with
  | [] => s
  | n :: rest => (s.putStatus g n (g.status.getD n NodeStatus.zero)).writeStatus g rest

/-- REVOKED written for the graphs that are not current (R392; 13 R305). -/
def State.revokeContexts (s : State) (id : Nat) (before : List Context) : State :=
  match before with
  | [] => s
  | c :: rest =>
    let g := c.graph.revoke id
    let ns := (List.range g.status.length).filter (fun n => g.status[n]? != c.graph.status[n]?)
    (s.writeStatus g ns).revokeContexts id rest

/-- The result of a page check recorded: a page that fails revokes its object, which is reported to the host (R421, R392;
entry 41). -/
def State.pageChecked (s : State) (o p : Nat) (ok : Bool) : State :=
  let set (x : CodeObj) : CodeObj := { x with chk := setAt x.chk p (if ok then 1 else 2), rev := x.rev || !ok }
  let s' : State := { s with codes := modAt s.codes o set }
  if ok then s'
  else
    let id := (s.codes[o]?.map (fun x => x.id)).getD 0
    let s'' : State := { s' with
      contexts := s'.contexts.map (fun c => { c with graph := c.graph.revoke id })
      reports := if s.codes[o]?.any (fun x => x.rev) then s'.reports else s'.reports ++ [id] }
    (s''.revokeContexts id s'.contexts).revokeNodes id s'.nodes.zipIdx

/-- The digest of a page of an object as it stands in memory, none where it is not mapped. -/
def State.pageDigest (s : State) (x : CodeObj) (p : Nat) : Option Nat :=
  (readUnder s.mem x.ptroot (x.base + 16384 * p) 16384).map (fun bs => leValue (sha256 bs))

/-- A page as a fetch would need it: an unchecked one is checked now; none where it is not mapped. -/
def State.checkPage (s : State) (o p : Nat) : Option (State × Bool) :=
  match s.codes[o]? with
  | none => none
  | some x =>
    match x.chk[p]? with
    | some 0 => (s.pageDigest x p).map (fun d => let ok := d == x.digests.getD p 0; (s.pageChecked o p ok, ok))
    | some k => if (readUnder s.mem x.ptroot (x.base + 16384 * p) 16384).isSome then some (s, k == 1) else none
    | none => none

/-- A stream that stands at an address fetches a word of page p of an object: its first word lies there, or it lies in the
page before, which has been checked, and its instruction runs on. -/
def State.fetchesPage (s : State) (x : CodeObj) (p pc : Nat) : Bool :=
  let lo := x.base + 16384 * p
  inRange pc lo 16384
    || (decide (0 < p ∧ pc < lo ∧ lo < pc + 20) && decide (x.chk[p - 1]? = some 1)
        && (match valueUnder s.mem x.ptroot pc 4 with
            | some v => decide (lo < pc + 4 * wordsOfLen (headOf (BitVec.ofNat 32 v)).len)
            | none => false))

/-- A stream waits for the check of a page (R422): its fetch has found the page mapped, with EX. -/
def State.pageWanted (s : State) (x : CodeObj) (p : Nat) : Bool :=
  (leafUnder s.mem x.ptroot (x.base + 16384 * p)).any (fun e => bit e.perm 3) && s.allWaves.any (fun w =>
    !w.mgmt && decide ((s.die (dieOf w.core)).ptroot = x.ptroot)
      && ((w.streamOpen .lead s.timen && s.fetchesPage x p w.leadPc) || (w.streamOpen .lane s.timen && s.fetchesPage x p w.lanePc)))

/-- CODE_PAGE_CHECK of page p of object o (R422), by the management core unless it has halted (20 R439). -/
def codePageCheckStep (o p : Nat) (s : State) : State :=
  match s.codes[o]? with
  | none => s
  | some x =>
    if x.chk[p]? = some 0 ∧ s.pageWanted x p = true ∧ s.mgmtHalted = false then
      match s.checkPage o p with
      | some r => r.1
      | none => s
    else s

/-- CODE_PAGE_CHECK (R422). -/
def execCodePageCheck (o : Nat) (p : Nat) (s : State) : Out := .next (codePageCheckStep o p s)

end Sys2Proof.Machine
end

