-- ==== Sys2Proof/Machine/LoadGraph.lean ====
section
/-! DEFINITION. LOAD_GRAPH: the graph image, the checks of its nodes, edges and trap vector tables, the deadline
reservations, the sizes of the queues and the places of the working areas (02 R16, R45, R52; 03 R86; 13 R285, R290, R294,
R297, R306; 15 R341, R348 to R353; 17 R395; 20 R433, R434, R447). -/
namespace Sys2Proof.Machine

/-! ## A node-table entry (15 R349 to R353) -/

/-- Bytes of a RECSZ code. -/
def recBytes (code : Nat) : Nat := if code = 0 then 0 else 8 * 2 ^ code
/-- The width of a WIDTH code. -/
def widthOf (code : Nat) : Nat := [0, 16, 32, 64].getD code 0
/-- A node of kind 0, 1 or 2, which runs a kernel. -/
def Node.runs (n : Node) : Bool := decide (n.kind ≤ kindDispatch)
/-- The input record size of a fixed node (13 R306 to R317). -/
def fixedInput (kind : Nat) : Nat := if kind = kindSensor then 0 else if kind = kindScanout then 32 else 64
/-- Its output record size; 0 for one that produces none. -/
def fixedOutput (kind : Nat) : Nat :=
  if kind = kindRaster ∨ kind = kindRay ∨ kind = kindSensor then 32
  else if kind = kindMatrix ∨ kind = kindCopy then 16 else if kind = kindCommand then 64 else 0

/-- The kernel that a CODEPTR names among the objects read through a root, with its object (19 R420). -/
def findKernel (codes : List CodeObj) (root ptr : Nat) : Option (Kernel × Nat) :=
  codes.findSome? (fun o =>
    if o.ptroot = root then (o.kernels.find? (fun k => k.ptr == ptr)).map (fun k => (k, o.id)) else none)

/-- An edge word (R350). -/
def edgeOf (x : Nat) : Edge := { target := bits x 0 16, fanout := bits x 16 16, depth := bits x 32 8 }

/-- What reading an entry gives: the node, with the 64-bit words of its edges and of its trap vector table. -/
structure RawNode where
  x : Nat
  edges : List Nat
  tv : List Nat
  kern : Option (Kernel × Nat)
deriving DecidableEq, Repr

/-- The words of an array of 8-byte entries. -/
def words64 (bs : List Byte) (n : Nat) : List Nat := (List.range n).map (fun i => leValue ((bs.drop (8 * i)).take 8))

/-- A node of a raw entry; SINKD is filled in later. -/
def RawNode.node (r : RawNode) : Node :=
  let x := r.x
  { kind := bits x 0 4, recsz := recBytes (bits x 4 3), cls := bits x 8 2, qclass := bits x 10 2, prio := bits x 12 4,
    width := widthOf (bits x 16 2), policy := bits x 18 1, waitf := bit x 19, tileord := bit x 20, coop := bits x 24 8,
    minfill := bits x 32 18, maxwait := bits x 64 32, codeptr := bits x 96 64, constptr := bits x 160 64,
    edges := r.edges.map edgeOf, cmask := bits x 304 24, dslots := if bits x 10 2 = 2 then bits x 328 4 + 1 else 0,
    dgran := bits x 332 7, param := bits x 352 32, tv := r.tv, sinkd := 0,
    hdr := match r.kern with | some k => k.1.info | none => KInfo.none,
    roles := match r.kern with | some k => k.1.roles | none => [], obj := match r.kern with | some k => k.2 | none => 0, raw := x }

/-- A `rsvd` bit is set, or a field holds a reserved code or breaks its limits (R349, R351). -/
def RawNode.fieldsBad (r : RawNode) : Bool :=
  let x := r.x
  let n := r.node
  let dl := n.deadline
  decide (bits x 7 1 ≠ 0 ∨ bits x 21 3 ≠ 0 ∨ bits x 50 14 ≠ 0 ∨ bits x 296 8 ≠ 0 ∨ bits x 339 13 ≠ 0 ∨ bits x 456 56 ≠ 0)
  || decide (n.kind > 9 ∨ bits x 4 3 > 5 ∨ n.cls = 3 ∨ n.qclass = 3 ∨ n.constptr % 128 ≠ 0 ∨ bits x 224 64 % 8 ≠ 0
      ∨ bits x 384 64 % 256 ≠ 0)
  || !(n.coop == 1 || decide (n.cls = 0 ∧ 2 ≤ n.coop ∧ n.coop ≤ 32))
  || (if dl then decide (n.cmask = 0 ∨ n.dgran = 0 ∨ n.dgran > 96 ∨ n.cls = 2) else decide (n.cmask ≠ 0 ∨ bits x 328 11 ≠ 0))
  || (if n.kind = kindSensor then decide (n.param ≥ 65536) else n.param != 0)

/-- The kernel and the entry disagree (R351; 03 R86), or a fixed node names a kernel or another record size (13 R306). -/
def RawNode.kernelBad (r : RawNode) : Bool :=
  let n := r.node
  if n.runs then
    match r.kern with
    | none => true
    | some (k, _) =>
      decide (k.width ≠ n.width ∨ k.coop ≠ n.coop ∨ k.info.record ≠ n.recsz ∨ k.cls ≠ n.cls)
        || decide (k.info.consts ≠ 0 ∧ n.constptr = 0)
  else n.codeptr != 0 || n.recsz != fixedInput n.kind

/-- An edge of the node breaks R350 or R351. -/
def RawNode.edgesBad (r : RawNode) (count : Nat) : Bool :=
  let dl := r.node.deadline
  r.edges.any (fun w =>
    let e := edgeOf w
    bits w 40 24 != 0 || decide (e.target ≥ count ∨ e.fanout = 0) || (dl && e.depth != 0))

/-- The trap vector table breaks R353. -/
def RawNode.vectorsBad (r : RawNode) : Bool :=
  let k := r.node.hdr
  r.tv.zipIdx.any (fun p =>
    let x := p.1
    bit x 1 || bits x 47 17 != 0 || (x != 0 && decide (p.2 = 0 ∨ p.2 = 9 ∨ p.2 ≥ 0x18))
      || (bit x 0 && !inRange (x / 4 % 2 ^ 45 * 4) k.laneBase k.laneSize))

/-- MINFILL, and the span a block needs (R351; 02 R16). -/
def RawNode.shapeBad (r : RawNode) : Bool :=
  let n := r.node
  decide (n.minfill = 0 ∨ n.minfill > n.batchMax) || (n.runs && decide (n.spanK > (if n.kind = kindRange then 8 else 32)))

/-- A node breaks a rule that it keeps by itself. -/
def RawNode.bad (r : RawNode) (count : Nat) : Bool :=
  r.fieldsBad || r.kernelBad || r.edgesBad count || r.vectorsBad || r.shapeBad

/-! ## The image (R348) -/

/-- An entry read with its edges, which lie inside the image, and its trap vector table. -/
def readNode (mem : List Host.Cell) (root img size off : Nat) (codes : List CodeObj) : Option RawNode :=
  match valueUnder mem root (img + off) 64 with
  | none => none
  | some x =>
    let ep := bits x 224 64
    let ne := bits x 288 8
    let tp := bits x 384 64
    if ne ≠ 0 ∧ ¬(img ≤ ep ∧ ep + 8 * ne ≤ img + size) then none
    else
      match readUnder mem root ep (8 * ne), (if tp = 0 then some [] else readUnder mem root tp 256) with
      | some es, some ts =>
        some { x := x, edges := words64 es ne, tv := if tp = 0 then [] else words64 ts 32,
               kern := findKernel codes root (bits x 96 64) }
      | _, _ => none

/-- The entries of an image read one by one, or the index of the first that cannot be read or breaks a rule by itself. -/
def readNodes (mem : List Host.Cell) (root img size count : Nat) (codes : List CodeObj) (offs : List (Nat × Nat)) :
    Except Nat (List Node) :=
  match offs with
  | [] => .ok []
  | (off, i) :: rest =>
    match readNode mem root img size off codes with
    | none => .error i
    | some r =>
      if r.bad count then .error i
      else
        match readNodes mem root img size count codes rest with
        | .error j => .error j
        | .ok ns => .ok (r.node :: ns)

/-! ## Rules over several nodes (R351; 13 R306) -/

/-- The nodes reached from a set over the edges that close no cycle, in a number of steps. -/
def reachPlain (ns : List Node) (from_ : List Nat) (steps : Nat) : List Nat :=
  match steps with
  | 0 => from_
  | k + 1 =>
    let next := from_.foldl (fun acc i =>
      ((ns[i]?.map (fun n => (n.edges.filter (fun e => e.depth == 0)).map (fun e => e.target))).getD []).foldl
        (fun acc t => insertAsc t acc) acc) from_
    if next = from_ then from_ else reachPlain ns next k

/-- A node on a cycle no edge of which has a DEPTH. -/
def onPlainCycle (ns : List Node) (i : Nat) : Bool :=
  let out := ((ns[i]?.map (fun n => (n.edges.filter (fun e => e.depth == 0)).map (fun e => e.target))).getD [])
  (reachPlain ns (out.foldl (fun acc t => insertAsc t acc) []) ns.length).contains i

/-- A node breaks a rule together with others: a plain cycle, a stream that an earlier node claims, a second command node, a
fixed node whose successor declares another record size. -/
def jointlyBad (ns : List Node) (i : Nat) (n : Node) : Bool :=
  let before := ns.take i
  onPlainCycle ns i
  || (n.kind == kindSensor && before.any (fun m => m.kind == kindSensor && m.param &&& n.param != 0))
  || (n.kind == kindCommand && before.any (fun m => m.kind == kindCommand))
  || (!n.runs && fixedOutput n.kind != 0
      && n.edges.any (fun e => match ns[e.target]? with | some t => t.recsz != fixedOutput n.kind | none => false))

/-- The first node that satisfies a test. -/
def firstNode (ns : List Node) (p : Nat → Node → Bool) : Option Nat :=
  (ns.zipIdx.find? (fun q => p q.2 q.1)).map (fun q => q.2)

/-- Sink distances, one step of their relaxation at a time; 255 where no node without successors is reached (13 R294). -/
def sinkSteps (ns : List Node) (d : List Nat) (k : Nat) : List Nat :=
  match k with
  | 0 => d
  | k + 1 =>
    sinkSteps ns (ns.map (fun n =>
      if n.edges = [] then 0
      else min 255 (1 + (n.edges.map (fun e => d.getD e.target 255)).foldl min 255))) k

/-- The nodes with their sink distances. -/
def withSinks (ns : List Node) : List Node :=
  let d := sinkSteps ns (ns.map (fun _ => 255)) ns.length
  ns.zipIdx.map (fun p => { p.1 with sinkd := d.getD p.2 255 })

/-! ## Deadline reservations (02 R52) -/

/-- What reservations hold on a core: slots, granules, semaphores and core barriers. -/
def resvHeld (ns : List Node) (resv : List Resv) (c : Nat) : Nat × Nat × Nat × Nat :=
  (resv.filter (fun r => r.core == c)).foldl (fun a r =>
    match ns[r.node]? with
    | some n => (a.1 + n.dslots, a.2.1 + n.dslots * n.dgran, a.2.2.1 + n.dslots * n.hdr.sems, a.2.2.2 + n.dslots * n.hdr.barriers)
    | none => a) (0, 0, 0, 0)

/-- The slots of a reservation out of some free ones, the highest first; those of a node of width 64 in pairs, but for the
last of an odd number (02 R32, R52; entry 39). -/
def pickSlots (n : Node) (free : List Nat) : List Nat :=
  let pairs := (((List.range 32).reverse.filter (fun k => free.contains (2 * k) && free.contains (2 * k + 1))).take (n.dslots / 2)).flatMap
    (fun k => [2 * k + 1, 2 * k])
  let two := if n.width = 64 then pairs else []
  two ++ ((sortBy (fun x => 64 - x) (free.filter (fun x => !two.contains x))).take (n.dslots - two.length))

/-- The slots that a core gives to the reservation of a node beside those made before it, where its free capacity allows it;
a width-64 node finds its pairs. -/
def State.reserveAt (s : State) (ns : List Node) (resv : List Resv) (n : Node) (c : Nat) : Option (Nat × List Nat) :=
  let h := s.held c
  let r := resvHeld ns resv c
  let gone := s.slotsTaken c ++ (s.resvOn c).flatMap (fun p => p.2.1.slots)
    ++ (resv.filter (fun p => p.core == c)).flatMap (fun p => p.slots)
  let l := pickSlots n ((List.range 64).filter (fun x => !gone.contains x))
  let whole := decide (n.width ≠ 64) || 
    decide ((l.filter (fun x => l.contains (x / 2 * 2) && l.contains (x / 2 * 2 + 1))).length ≥ n.dslots / 2 * 2)
  if !(s.core c).dead && whole
      && decide (l.length = n.dslots ∧ h.1 + r.2.1 + n.dslots * n.dgran ≤ 96
        ∧ h.2.1 + r.2.2.1 + n.dslots * n.hdr.sems ≤ 64 ∧ h.2.2 + r.2.2.2 + n.dslots * n.hdr.barriers ≤ 32)
  then some (c, sortBy id l) else none

/-- The reservations of a node, on the highest core of each masked cluster that has room. -/
def State.reserveClusters (s : State) (ns : List Node) (resv : List Resv) (i : Nat) (n : Node) (gs : List Nat) : Option (List Resv) :=
  match gs with
  | [] => some resv
  | g :: rest =>
    match ((List.range 8).map (fun k => 8 * g + 7 - k)).findSome? (s.reserveAt ns resv n) with
    | none => none
    | some p => s.reserveClusters ns (resv ++ [{ node := i, core := p.1, slots := p.2 }]) i n rest

/-- The reservations of a graph, or the first node that finds no room. -/
def State.reserveNodes (s : State) (ns : List Node) (resv : List Resv) (l : List (Node × Nat)) : Except Nat (List Resv) :=
  match l with
  | [] => .ok resv
  | (n, i) :: rest =>
    if !n.deadline then s.reserveNodes ns resv rest
    else
      match s.reserveClusters ns resv i n (lanesOf n.cmask 24) with
      | none => .error i
      | some r => s.reserveNodes ns r rest

/-! ## Co-operating groups (02 R45) -/

/-- What the blocks of a group leave free on each core of a die: slots, granules, semaphores and core barriers. -/
def freeCores (ns : List Node) (resv : List Resv) (die : Nat) : List (Nat × Nat × Nat × Nat) :=
  (List.range 96).map (fun c =>
    let h := resvHeld ns resv (96 * die + c)
    (64 - h.1, 96 - h.2.1, 64 - h.2.2.1, 32 - h.2.2.2))

/-- The share of a span core taken from what is free, if it can be. -/
def takeShare (n : Node) (cnt : Nat) (f : Nat × Nat × Nat × Nat) : Option (Nat × Nat × Nat × Nat) :=
  let w := cnt * n.slotsPer
  let g := n.granulesOn cnt
  if w ≤ f.1 ∧ g ≤ f.2.1 ∧ n.hdr.sems ≤ f.2.2.1 ∧ n.hdr.barriers ≤ f.2.2.2 then
    some (f.1 - w, f.2.1 - g, f.2.2.1 - n.hdr.sems, f.2.2.2 - n.hdr.barriers)
  else none

/-- One block taken from the cores from an index on, if it fits there. -/
def takeSpan (n : Node) (k c : Nat) (js : List Nat) (free : List (Nat × Nat × Nat × Nat)) : Option (List (Nat × Nat × Nat × Nat)) :=
  match js with
  | [] => some free
  | j :: rest =>
    match free[c + j]? with
    | none => none
    | some f =>
      match takeShare n (n.wavesOn k j) f with
      | none => none
      | some f' => takeSpan n k c rest (setAt free (c + j) f')

/-- Blocks placed from the lowest start on, as many as each start takes, until m are placed: the spans of one shape fit on
a die exactly when they fit in this way. -/
def packGroup (n : Node) (k : Nat) (starts : List Nat) (free : List (Nat × Nat × Nat × Nat)) (m fuel : Nat) : Bool :=
  match fuel, m, starts with
  | _, 0, _ => true
  | 0, _, _ => false
  | _, _, [] => false
  | fuel + 1, m + 1, c :: rest =>
    match takeSpan n k c (List.range k) free with
    | some free' => packGroup n k (c :: rest) free' m fuel
    | none => packGroup n k rest free (m + 1) fuel

/-- A co-operating group cannot be co-resident on either die (R45). -/
def groupBad (ns : List Node) (resv : List Resv) (n : Node) : Bool :=
  let k := n.spanK
  let starts := (spansOf 0 k none).map (fun sp => sp.headD 0)
  n.runs && decide (n.cls = 0 ∧ n.coop ≥ 2)
    && !List.any [0, 1] (fun die => packGroup n k starts (freeCores ns resv die) n.coop (starts.length + n.coop + 1))

/-! ## Queues (13 R285, R297; 02 R50) -/

/-- A node that has queues. -/
def Node.queued (n : Node) : Bool := n.recsz != 0 || n.kind == kindDispatch

/-- The dies in whose queues of a node a deadline node's output may arrive (R284, R297). -/
def outputDies (ns : List Node) (n : Node) (t : Nat) : List Nat :=
  let dies := [0, 1].filter (fun d => bits n.cmask (12 * d) 12 != 0)
  match ns[t]? with
  | none => []
  | some x =>
    if x.kind = kindScanout then [0, 1]
    else if x.kind = kindCommand then [0]
    else [0, 1].filter (fun d => dies.any (fun a => d == (if x.deadline && bits x.cmask (12 * a) 12 == 0 then 1 - a else a)))

/-- The permanent output reserve in the queue of a node on a die (R297). -/
def reserveOf (ns : List Node) (die t : Nat) : Nat :=
  (ns.map (fun n =>
    if n.deadline then
      (n.edges.map (fun e => if e.target = t ∧ (outputDies ns n t).contains die then n.dslots * n.lanes * e.fanout else 0)).sum
    else 0)).sum

/-- The producer-class tag of a queue: engine if every predecessor is a fixed node, else the least guaranteed class among
the others (02 R50). -/
def queueTag (ns : List Node) (t : Nat) : Nat :=
  let ps := ns.filter (fun n => n.runs && n.edges.any (fun e => e.target == t))
  if ps = [] then tagOf 3 false else tagOf ((ps.map (fun n => n.cls)).foldl max 0) false

/-- Bytes of the minimum ring of a node's queue on a die (R285). -/
def ringMin (ns : List Node) (die i : Nat) (n : Node) : Nat := (n.batchMax + reserveOf ns die i) * n.slotBytes

/-- The queues of a die that divide some bytes. -/
def makeQueues (ns : List Node) (die avail : Nat) : List Queue :=
  let l := ns.zipIdx.filter (fun p => p.1.queued)
  let total := (l.map (fun p => ringMin ns die p.2 p.1)).sum
  l.map (fun p =>
    let m := ringMin ns die p.2 p.1
    let cap := p.1.batchMax + reserveOf ns die p.2 + (avail - total) * m / total / p.1.slotBytes
    { node := p.2, qhead := 0, qtail := 0, qresv := reserveOf ns die p.2, qcap := cap,
      scap := if p.1.deadline then 0 else 2 * cap, qtag := queueTag ns p.2, entries := [] })

/-- The node of the largest queue of a die whose minimum rings do not fit (R285). -/
def queuesBad (ns : List Node) (die avail : Nat) : Option Nat :=
  let l := ns.zipIdx.filter (fun p => p.1.queued)
  if (l.map (fun p => ringMin ns die p.2 p.1)).sum ≤ avail then none
  else (minBy (fun p => 2 ^ 64 - ringMin ns die p.2 p.1) l).map (fun p => p.2)

/-- Bytes of the join table of a die (15 R358). -/
def joinBytes : Nat := 16777216

/-! ## The working areas (15 R341) -/

/-- A number rounded up to a multiple. -/
def roundUp (n m : Nat) : Nat := m * ceilDiv n m

/-- The largest image of a block of a node (17 R395). -/
def Node.imageBound (n : Node) : Nat :=
  if !n.runs then 0
  else
    let seg := 1024 + 256 * ceilDiv n.hdr.scratch 256 + 512 * n.hdr.tiles
    let wave := n.slotsPer * (0x1000 + 1024 * 40) + 2320 + 16 + 2 * windowPage
    roundUp (0x1000 + 1024 * ceilDiv (8 * n.waves) 1024 + n.spanK * seg + n.waves * roundUp wave 1024) 4096

/-- Where the items of a graph stand in the working area of a die (the firmware's choice, entry 30). -/
def layoutOf (ns : List Node) (qs : List Queue) (die base size : Nat) : Layout :=
  let node (q : Queue) : Option Node := ns[q.node]?
  let step := roundUp ((ns.map (fun n => n.hdr.divspill)).foldl max 0) 1024
  let win := base
  let spill := win + 2 * windowPage * 6144
  let pool := spill + 6144 * step
  let poolSize := (ns.map Node.imageBound).sum
  let ext := pool + poolSize
  let exts := (qs.map (fun q => match node q with | some n => q.scap * n.slotBytes | none => 0)).sum
  let parks := (qs.map (fun q => match node q with | some n => if n.deadline then q.qcap * n.entryBytes else 0 | none => 0)).sum
  let status := roundUp (ext + exts + parks) 32
  let top := status + if die = 0 then 32 * ns.length else 0
  { base := base, size := size, win := win, spill := spill, spillStep := step, pool := pool, poolSize := poolSize, status := status,
    tables := roundUp top 16384, need := ceilDiv (top - base) 16384 }

/-- A range of a die's device memory outside the firmware's region (R341). -/
def areaOk (die pa n : Nat) : Bool :=
  let inside (b len : Nat) : Bool := decide (b ≤ pa ∧ pa + n ≤ b + len)
  decide (pa % 16384 = 0) && (inside (stackedBase die) (stackedSize - 0x4000000) || inside (offBase die) (offSize die))

/-! ## LOAD_GRAPH (20 R433) -/

/-- The refusal of a graph: a node, or a cause of its own. -/
inductive GraphFault where
  | node (i : Nat)
  | image (cause : Nat)
deriving DecidableEq, Repr

/-- THE NODES OF AN IMAGE, checked in ascending number: each by itself, then with the others. -/
def State.graphNodes (s : State) (root img : Nat) : Except GraphFault (List Node × List Byte) :=
  match valueUnder s.mem root img 64 with
  | none => .error (.image 1)
  | some h =>
    let count := bits h 48 16
    let off := bits h 64 32
    let size := bits h 96 32
    if bits h 0 32 ≠ 0x4847524B ∨ bits h 32 16 ≠ 1 ∨ bits h 128 384 ≠ 0 ∨ count = 0 ∨ count > 4096 ∨ off % 64 ≠ 0
        ∨ off + 64 * count > size then .error (.image 2)
    else
      match readUnder s.mem root img size with
      | none => .error (.image 1)
      | some bs =>
        match readNodes s.mem root img size count s.codes ((List.range count).map (fun i => (off + 64 * i, i))) with
        | .error i => .error (.node i)
        | .ok ns =>
          match firstNode ns (jointlyBad ns) with
          | some i => .error (.node i)
          | none => .ok (withSinks ns, bs)

/-- The code pages of a deadline node's kernel: those that its header and sections lie in. -/
def kernelPages (o : CodeObj) (n : Node) : List Nat :=
  (List.range (o.size / 16384)).filter (fun p =>
    [(n.codeptr, 64), (n.hdr.leadBase, n.hdr.leadSize), (n.hdr.laneBase, n.hdr.laneSize)].any (meet (o.base + 16384 * p, 16384)))

/-- Pages of an object checked in order, until one fails or is not mapped. -/
def State.checkPages (s : State) (o : Nat) (ps : List Nat) : State × Bool :=
  match ps with
  | [] => (s, true)
  | p :: rest =>
    match s.checkPage o p with
    | some (s', true) => s'.checkPages o rest
    | some (s', false) => (s', false)
    | none => (s, false)

/-- The kernels of the deadline nodes checked (13 R297): the first node whose kernel has a page that is not mapped or fails. -/
def State.checkDeadline (s : State) (l : List (Node × Nat)) : State × Option Nat :=
  match l with
  | [] => (s, none)
  | (n, i) :: rest =>
    if !n.deadline || !n.runs then s.checkDeadline rest
    else
      match s.codes.findIdx? (fun o => o.id == n.obj), s.codes.find? (fun o => o.id == n.obj) with
      | some k, some o =>
        let r := s.checkPages k (kernelPages o n)
        if r.2 then r.1.checkDeadline rest else (r.1, some i)
      | _, _ => (s, some i)

/-- The status of a node at LOAD_GRAPH: REVOKED when its object is (17 R392). -/
def State.status0 (s : State) (n : Node) : NodeStatus :=
  if n.runs && s.codes.any (fun o => o.id == n.obj && o.rev) then { NodeStatus.zero with flags := 2 } else NodeStatus.zero

/-- What a die holds of a graph: the rest of a die stands in a context only as it is at reset. -/
def Die.ofGraph (qs : List Queue) (root : Nat) : Die := { Die.reset 0 with queues := qs, ptroot := root }

/-- A die with the tables of a graph in place of those of another (17 R397 step 8). -/
def Die.withGraph (d g : Die) : Die :=
  { d with
    queues := g.queues, batches := g.batches, grids := g.grids, launches := g.launches, joins := g.joins, jobs := g.jobs,
    ranges := g.ranges, ptroot := g.ptroot, sidebands := g.sidebands, pool := g.pool, tablePages := g.tablePages,
    excluded := g.excluded, rayWait := g.rayWait }

/-- The descriptors and abort lines of the clusters with no family live. -/
def blankClusters : List (List RDesc × List Nat) := List.replicate 24 (List.replicate 64 RDesc.empty, [])

/-- The tables and blocks of a context put in place of those on the device; of none, with no context current. -/
def State.setContext (s : State) (x : Option Context) : State :=
  let dies := match x with | some x => x.dies | none => []
  let clusters := match x with | some x => x.clusters | none => []
  { s with
    graph := x.map (fun x => x.graph), blocks := match x with | some x => x.blocks | none => []
    dies := s.dies.zipIdx.map (fun p => p.1.withGraph (dies.getD p.2 (Die.reset 0)))
    clusters := s.clusters.zipIdx.map (fun p =>
      let c := clusters.getD p.2 (List.replicate 64 RDesc.empty, [])
      { p.1 with descs := c.1, abortLines := c.2 }) }

/-- Every TLB invalidated (15 R347). -/
def State.clearTlbs (s : State) : State := { s with cores := s.cores.map (fun c => { c with tlb := [] }) }

/-- A context brought onto the device: its tables, its blocks and its root; every TLB is invalidated. -/
def State.bring (s : State) (x : Context) : State := (s.setContext (some x)).clearTlbs

/-- A GRAPH LOADED: the current context when there is none, else a context to switch to (entry 31). -/
def State.addGraph (s : State) (g : Graph) (qs : List (List Queue)) : State :=
  let x : Context :=
    { graph := g, dies := qs.map (fun q => Die.ofGraph q g.ptroot), blocks := [], clusters := blankClusters }
  match s.graph with
  | none => s.bring x
  | some _ => { s with contexts := s.contexts ++ [x] }

/-- LOAD_GRAPH once its image has been read: reservations, queues, working areas and deadline pages. -/
def State.loadNodes (s : State) (c root : Nat) (ns : List Node) (image : List Byte) : State :=
  let share := (if bits c 176 8 = 0 then 16 else bits c 176 8) * 16777216
  let avail := share - joinBytes
  let refuse (s : State) (i : Nat) : State := s.refuse c i
  match s.reserveNodes ns [] ns.zipIdx with
  | .error i => refuse s i
  | .ok resv =>
    match firstNode ns (fun _ n => groupBad ns resv n), queuesBad ns 0 avail, queuesBad ns 1 avail with
    | some i, _, _ | none, some i, _ | none, none, some i => refuse s i
    | none, none, none =>
      let qs := [makeQueues ns 0 avail, makeQueues ns 1 avail]
      let ls := [layoutOf ns (qs.getD 0 []) 0 (bits c 192 48) (bits c 288 32 * 16384),
                 layoutOf ns (qs.getD 1 []) 1 (bits c 240 48) (bits c 320 32 * 16384)]
      if ls.any (fun l => decide (16384 * l.need > l.size)) then
        s.respond c 3 (Config.refusalCode 0x12 3).toNat
          ((ls.map (fun l => l.need)).zipIdx.foldl (fun acc p => acc + p.1 % 2 ^ 32 * 2 ^ (320 + 32 * p.2)) 0)
      else
        let r := s.checkDeadline ns.zipIdx
        match r.2 with
        | some i => refuse r.1 i
        | none =>
          let s := r.1
          let st := ns.map s.status0
          let pa := match ls with | l :: _ => l.status | [] => 0
          let g : Graph :=
            { id := s.nextGraph, nodes := ns, ptroot := root, running := false, started := false, status := st,
              nextBlk := ns.map (fun _ => 0), layouts := ls, qshare := share, resv := resv }
          let bs := st.flatMap NodeStatus.bytes
          let s := ({ s with nextGraph := s.nextGraph + 1 } : State).addGraph g qs
          ((s.hostWrite 0 bs .host (lineParts pa bs.length)).extend 4 (sha256 image)).done c (g.id % 2 ^ 32 * 2 ^ 64 + pa * 2 ^ 128)

/-- LOAD_GRAPH (R351). -/
def loadGraphStep (s : State) : State :=
  s.onCommand (fun c => opcodeOf c == 0x12) (fun c s =>
    let img := bits c 64 64
    let root := bits c 128 48
    let q := bits c 176 8
    s.gate c 3 [(64, 64), (128, 48), (176, 8), (192, 48), (240, 48), (288, 32), (320, 32)]
      (decide (img % 64 ≠ 0 ∨ img ≥ 2 ^ 47 ∨ q = 1 ∨ q > 31) || !rootOk root
        || !areaOk 0 (bits c 192 48) (bits c 288 32 * 16384) || !areaOk 1 (bits c 240 48) (bits c 320 32 * 16384))
      (fun s =>
        match s.graphNodes root img with
        | .error (.node i) => s.refuse c i
        | .error (.image k) => s.refuseFor c k
        | .ok (ns, image) => s.loadNodes c root ns image))

/-- LOAD_GRAPH (R351). -/
def execLoadGraph (s : State) : Out := .next (loadGraphStep s)

end Sys2Proof.Machine
end

