-- ==== Sys2Proof/Machine/Firmware.lean ====
section
/-! DEFINITION. The commands that act on loaded graphs: START_GRAPH, STOP_GRAPH, UNLOAD_GRAPH, VACATE_CORES, SWITCH_CONTEXT,
MAP_PAGES, UNMAP_PAGES, FAULT_REPLY and BLOCK_CONTROL; device reset and start-up (15 R341 to R347, R360; 17 R389, R391,
R394 to R397; 20 R433 to R437, R440, R447, R449). -/
namespace Sys2Proof.Machine

/-! ## The graph that a command names (R433) -/

/-- What the device holds of the current graph. -/
def State.context (s : State) : Option Context :=
  s.graph.map (fun g =>
    { graph := g, dies := s.dies.map (fun d => (Die.reset 0).withGraph d), blocks := s.blocks,
      clusters := s.clusters.map (fun c => (c.descs, c.abortLines)) })

/-- A command's effect on a loaded graph, none where no such graph is loaded. For one that is not the current context its
tables stand on the device while the command acts, with no wave resident. -/
def State.onGraph (s : State) (id : Nat) (f : State → State) : Option State :=
  if s.graph.any (fun g => g.id == id) then some (f s)
  else
    match s.contexts.find? (fun x => x.graph.id == id) with
    | none => none
    | some x =>
      let t := f { ((s.focus 192 0 .lead).getD s).setContext (some x) with waves := [], net := [] }
      let back := match t.context with | some y => [y] | none => []
      some { t.setContext s.context with
        w := s.w, st := s.st, waves := s.waves, net := s.net ++ t.net
        contexts := t.contexts.flatMap (fun y => if y.graph.id = id then back else [y]) }

/-- GRAPHID of a command. -/
def graphIdOf (c : Nat) : Nat := bits c 64 32

/-- A command on a graph: STATUS 3 when it is not loaded (R432). -/
def State.forGraph (s : State) (c : Nat) (f : State → State) : State := (s.onGraph (graphIdOf c) f).getD (s.refuseFor c 1)

/-- The current graph changed. -/
def State.modGraph (s : State) (f : Graph → Graph) : State := { s with graph := s.graph.map f }

/-! ## START_GRAPH, STOP_GRAPH and UNLOAD_GRAPH (13 R290; 17 R391, R396) -/

/-- The one admission of each node without records, on die 0 (13 R290). -/
def State.firstBatches (s : State) (l : List (Node × Nat)) : State :=
  match l with
  | [] => s
  | (n, i) :: rest =>
    if !n.bare then s.firstBatches rest
    else
      let (s, keys) := s.newKeys i n.group
      let b : Batch :=
        { id := s.nextId, node := i, parts := keys.map (fun k => (k, 1)), r := n.group, depth := 0, admitted := false,
          since := s.cycle, seq := (s.die 0).seq }
      (({ s with nextId := s.nextId + 1 } : State).modDie 0 (fun d => { d with batches := d.batches ++ [b] })).firstBatches rest

/-- START_GRAPH (R433). -/
def startGraphStep (s : State) : State :=
  s.onCommand (fun c => opcodeOf c == 0x13) (fun c s =>
    s.gate c 3 [(64, 32)] false (fun s => s.forGraph c (fun s =>
      let first := !s.graph.any (fun g => g.started)
      let s := s.modGraph (fun g => { g with running := true, started := true })
      ((if first then s.firstBatches s.nodes.zipIdx else s).drainCheck).done c 0)))

/-- START_GRAPH (R433). -/
def execStartGraph (s : State) : Out := .next (startGraphStep s)

/-- A block with a fault: it waits for BLOCK_CONTROL (17 R391). -/
def Block.isFaulted (b : Block) : Bool := match b.status with | .saving f _ | .saved f _ => f | _ => false

/-- The unused credits of faulted blocks leave QRESV, and their allowances become what they used (17 R391). -/
def State.freeFaulted (s : State) (l : List Block) : State :=
  match l with
  | [] => s
  | b :: rest =>
    if !b.isFaulted || bit b.pcls 2 then s.freeFaulted rest
    else ((s.blockCredits b).modBlock b.key (fun b => { b with edges := b.edges.map (fun e => (e.1, e.1)) })).freeFaulted rest

/-- STOP_GRAPH (R433): admission ends, credits of faulted blocks are free, and exclusions are lifted. -/
def stopGraphStep (s : State) : State :=
  s.onCommand (fun c => opcodeOf c == 0x14) (fun c s =>
    s.gate c 3 [(64, 32)] false (fun s => s.forGraph c (fun s =>
      let s := (s.modGraph (fun g => { g with running := false })).freeFaulted s.blocks
      ({ s with dies := s.dies.map (fun d => { d with excluded := [] }) } : State).done c 0)))

/-- STOP_GRAPH (R433). -/
def execStopGraph (s : State) : Out := .next (stopGraphStep s)

/-- UNLOAD_GRAPH (R433). -/
def unloadGraphStep (s : State) : State :=
  s.onCommand (fun c => opcodeOf c == 0x1E) (fun c s =>
    s.gate c 3 [(64, 32)] false (fun s => s.forGraph c (fun s =>
      if s.graph.any (fun g => g.running) || s.blocks != [] then s.refuseFor c 2
      else
        let id := s.graphId
        ({ (s.setContext none).clearTlbs with
            faults := s.faults.filter (fun f => f.graph != id)
            faultsWaiting := s.faultsWaiting.map (fun f => { f with ended := f.ended || f.graph == id }) } : State).done c 0)))

/-- UNLOAD_GRAPH (R433). -/
def execUnloadGraph (s : State) : Out := .next (unloadGraphStep s)

/-! ## VACATE_CORES (17 R396) -/

/-- A block holds waves on a core. -/
def Block.onCore (b : Block) (c : Nat) : Bool := decide (b.core0 ≤ c ∧ c < b.core0 + b.k)

/-- A block that stands on its cores and is not stopping. -/
def Block.resident (b : Block) : Bool := match b.status with | .reserved | .running => true | _ => false

/-- Blocks stopped, to be saved to their dies' pools for VACATE_CORES. -/
def State.vacate (s : State) (l : List Block) : State :=
  match l with
  | [] => s
  | b :: rest => ((s.stopBlock b.key false none).modBlock b.key (fun b => { b with vacate := true })).vacate rest

/-- The co-operating group of a block of class C (02 R45), else itself. -/
def State.groupOf (s : State) (b : Block) : List BKey :=
  match s.node? b.key.node with
  | some n =>
    (s.blocks.filter (fun x =>
      decide (x.key.node = b.key.node ∧ x.key.grid = b.key.grid ∧ x.key.blk / n.group = b.key.blk / n.group))).map (fun x => x.key)
  | none => [b.key]

/-- A block keeps a span that R16 allows when some cores of its node are excluded. -/
def State.spanLeft (s : State) (n : Node) (gone : List Nat) (b : Block) : Bool :=
  (spansOf b.die n.spanK (b.desc.map (fun d => d.1))).any (fun sp => sp.all (fun c => !gone.contains c && !(s.core c).dead))

/-- The cores excluded for a node. -/
def State.excludedOf (s : State) (node : Nat) : List Nat :=
  s.dies.flatMap (fun d => (d.excluded.filter (fun p => p.1 == node)).map (fun p => p.2))

/-- EXCL of the response. -/
def State.exclOf (s : State) (node : Nat) : Nat := maskOf ((s.excludedOf node).map (fun c => 64 + c))

/-- VACATE_CORES begun on the current graph: the n highest cores with blocks of the node are excluded, and the blocks with
waves there are stopped, C blocks with their groups. -/
def State.vacateCores (s : State) (c node n : Nat) (x : Node) : State :=
  let mine := s.blocks.filter (fun b => b.key.node == node && b.onCores)
  let cores := ((((List.range 192).filter (fun c => mine.any (fun b => b.onCore c))).reverse).take n)
  let gone := cores ++ s.excludedOf node
  if x.deadline then s.refuseFor c 2
  else if !(s.blocks.filter (fun b => b.key.node == node)).all (s.spanLeft x gone) then s.refuseFor c 3
  else
    let hit := s.blocks.filter (fun b => b.resident && cores.any b.onCore)
    let keys := hit.flatMap s.groupOf
    let s := s.vacate (s.blocks.filter (fun b => b.resident && keys.contains b.key))
    let s : State := { s with dies := s.dies.zipIdx.map (fun p =>
      { p.1 with excluded := p.1.excluded ++ ((cores.filter (fun c => dieOf c == p.2)).map (fun c => (node, c))) }) }
    if hit = [] then s.done c (s.exclOf node) else { s with busy := some .vacate }

/-- The saves of VACATE_CORES that have not finished. -/
def State.vacating (s : State) : Bool :=
  s.blocks.any (fun b => b.vacate && (match b.status with | .saving _ _ => true | _ => false))

/-- VACATE_CORES (R396): the response is written when the last save has finished. -/
def vacateCoresStep (s : State) : State :=
  if s.busy = some .vacate then
    (if s.vacating || s.mgmtHalted then s else s.done s.headRecord (s.exclOf (bits s.headRecord 96 16)))
  else
    s.onCommand (fun c => opcodeOf c == 0x15) (fun c s =>
      let node := bits c 96 16
      let n := bits c 112 8
      s.gate c 3 [(64, 32), (96, 16), (112, 8)] (decide (n > 191)) (fun s => s.forGraph c (fun s =>
        match s.node? node with
        | none => s.refuseFor c 1
        | some x =>
          if x.deadline then s.refuseFor c 2
          else if n = 0 then
            ({ s with dies := s.dies.map (fun d => { d with excluded := d.excluded.filter (fun p => p.1 != node) }) } : State).done c 0
          else s.vacateCores c node n x)))

/-- VACATE_CORES (R396). -/
def execVacateCores (s : State) : Out := .next (vacateCoresStep s)

/-! ## SWITCH_CONTEXT (17 R397; 15 R360) -/

/-- Backed ranges: device memory and host memory. -/
def backedRange (pa n : Nat) : Bool :=
  [(stackedBase 0, stackedSize), (stackedBase 1, stackedSize), (offBase 0, offSize 0), (offBase 1, offSize 1),
    (0x800000000000, 0x800000000000)].any (fun r => decide (r.1 ≤ pa ∧ pa < r.1 + r.2 ∧ pa + n ≤ r.1 + r.2))

/-- Bytes that the queues, with the records their credits still let in, and the tables of the current graph take in a save
area (the firmware's choice, entry 30). -/
def State.tableSize (s : State) : Nat :=
  let ofDie (d : Die) : Nat :=
    (d.queues.map (fun q => match s.node? q.node with | some n => (q.entries.length + q.qresv) * n.slotBytes | none => 0)).sum
      + 16 * d.joins.length + 16 * d.launches.length
  64 * s.nodes.length + 2 * 64 * 16 + (s.dies.map ofDie).sum

/-- Bytes of the images of the resident blocks. -/
def State.imageSize (s : State) (l : List Block) : Nat :=
  (l.map (fun b => match s.node? b.key.node with | some n => n.imageBound | none => 0)).sum

/-- Resident blocks stopped, each to be saved to a place of its own from an address on. -/
def State.saveAll (s : State) (at_ : Nat) (l : List Block) : State :=
  match l with
  | [] => s
  | b :: rest => (s.stopBlock b.key false (some at_)).saveAll (at_ + s.imageSize [b]) rest

/-- SWITCH_CONTEXT begun: admission stops and every resident block is to be saved (steps 1 and 2). -/
def State.switchStart (s : State) (c : Nat) (g : Graph) : State :=
  let l := s.blocks.filter Block.resident
  let need := ceilDiv (s.imageSize l + s.tableSize) 16384
  if need > bits c 176 32 then s.respond c 3 (Config.refusalCode 0x16 3).toNat (need % 2 ^ 32 * 2 ^ 96)
  else
    { (s.modGraph (fun g => { g with running := false })).saveAll (bits c 128 48) l with busy := some (.switch g.running need) }

/-- Every block is saved, the footprint tables have drained, and nothing is on its way (steps 2 and 3). -/
def State.quiet (s : State) : Bool :=
  s.blocks.all (fun b => !b.onCores) && s.dies.all (fun d => d.jobs == []) && s.net == [] && s.acks == []

/-- The partials of lines folded, each as an engine's read folds it (step 4). -/
def State.foldAll (s : State) (ls : List Nat) : State :=
  match ls with
  | [] => s
  | l :: rest => (if s.lineState l = .c then s.foldNow l else s).foldAll rest

/-- Every L1 and every TLB emptied, with the deregistrations of the lines (steps 5 and 7). -/
def State.emptyL1s (s : State) : State :=
  { s with
    cores := s.cores.map (fun c => { c with l1 := [], pend := [], injcnt := 0, tlb := [] })
    dir := (s.dir.map (fun p => (p.1, { p.2 with sharers := [], holders := [] }))).filter (fun p => p.2 != DirEntry.empty) }

/-- A node-table entry, with the sink distance that LOAD_GRAPH derived (15 R349). -/
def Node.tableEntry (n : Node) : List Byte := leBytes (putBits n.raw 448 8 n.sinkd) 64

/-- The 64-bit tag of a queue entry (13 R286) with a sideband index: 0x7FF without a sideband. -/
def QEntry.tag (e : QEntry) (side : Nat) : Nat :=
  e.seq % 2 ^ 32 + e.depth % 256 * 2 ^ 32 + e.family % 64 * 2 ^ 40 + b2n e.cmark * 2 ^ 46 + e.cluster % 32 * 2 ^ 47
    + b2n e.void * 2 ^ 52 + side % 2048 * 2 ^ 53

/-- A queue entry as its ring holds it: the record, then the tag (13 R285, R286). The index that a sideband has is free
(entry 8). -/
def QEntry.ringBytes (e : QEntry) (size free : Nat) : List Byte :=
  (e.bytes ++ List.replicate size 0#8).take size ++ leBytes (e.tag (if e.sideb = [] then 0x7FF else free)) 8

/-- The entries of a queue as its ring holds them. -/
def State.ring (s : State) (die : Nat) (q : Queue) : List Byte :=
  match s.node? q.node with
  | some n => q.entries.flatMap (fun e => e.ringBytes n.entryBytes (Config.freeWord (s.fresh + 2 ^ 32 * die + e.seq)).toNat)
  | none => []

/-- A join slot (15 R358). -/
def JoinSlot.slotBytes (x : JoinSlot) : List Byte :=
  leBytes (x.count % 2 ^ 16 + b2n x.held.isSome * 2 ^ 16 + x.tag % 2 ^ 16 * 2 ^ 32 + x.node % 2 ^ 16 * 2 ^ 48) 8
    ++ leBytes (x.recidx % 2 ^ 32) 8

/-- A commutative-range entry (15 R359). -/
def CRange.tableBytes (r : CRange) : List Byte :=
  leBytes (b2n r.valid + r.fmt % 4 * 2 + r.op % 4 * 2 ^ 3 + b2n r.closing * 2 ^ 5 + r.len % 2 ^ 27 * 2 ^ 16) 8 ++ leBytes r.base 8

/-- What a context switch saves of a die: the rings of its queues, its join slots in use, its pending launches and its
commutative-range table (R397 step 6; 15 R360), in the order of entry 30. -/
def State.dieTables (s : State) (die : Nat) (d : Die) : List Byte :=
  d.queues.flatMap (s.ring die) ++ d.joins.flatMap (fun j => j.2.slotBytes)
    ++ d.launches.flatMap (fun l => leBytes l.param 8 ++ leBytes l.count 8) ++ d.ranges.flatMap CRange.tableBytes

/-- The rings and tables of the current graph, as its save area takes them (R397 step 6). -/
def State.savedTables (s : State) : List Byte := s.nodes.flatMap Node.tableEntry ++ s.dies.zipIdx.flatMap (fun d => s.dieTables d.2 d.1)

/-- The rings and tables written from an address. -/
def State.saveTables (s : State) (pa : Nat) : State :=
  let bs := s.savedTables
  ({ s with fresh := s.fresh + 2 ^ 33 } : State).hostWrite 0 bs .host (lineParts pa bs.length)

/-- The outgoing graph put away, its admission as it was before. -/
def State.putAway (s : State) (running : Bool) : State :=
  let x := s.context.map (fun (x : Context) => { x with graph := { x.graph with running := running } })
  { s.setContext none with contexts := s.contexts ++ x.toList }

/-- A context taken from the list and brought onto the device (step 8). -/
def State.takeIn (s : State) (x : Context) : State :=
  ({ s with contexts := s.contexts.filter (fun y => y.graph.id != x.graph.id) } : State).bring x

/-- SWITCH_CONTEXT completed (steps 4 to 8). -/
def State.switchEnd (s : State) (c used : Nat) (running : Bool) : State :=
  match s.contexts.find? (fun x => x.graph.id == bits c 96 32) with
  | none => s
  | some x =>
    let n := s.tableSize
    let s := (s.foldAll (s.dir.map (fun p => p.1))).emptyL1s
    let s := s.saveTables (bits c 128 48 + 16384 * used - n)
    ((s.putAway running).takeIn x).done c (used % 2 ^ 32 * 2 ^ 64)

/-- SWITCH_CONTEXT (R397): with no graph current the L1s are emptied too, once nothing is on its way to them (step 5). -/
def switchContextStep (s : State) : State :=
  match s.busy with
  | some (.switch running used) => if s.quiet && !s.mgmtHalted then s.switchEnd s.headRecord used running else s
  | _ =>
    s.onCommand (fun c => opcodeOf c == 0x16) (fun c s =>
      let pa := bits c 128 48
      s.gate c 3 [(64, 32), (96, 32), (128, 48), (176, 32)] (decide (pa % 16384 ≠ 0) || !backedRange pa (16384 * bits c 176 32))
        (fun s =>
          match s.graph, s.contexts.find? (fun x => x.graph.id == bits c 96 32) with
          | none, some x =>
            if graphIdOf c ≠ 0xFFFFFFFF then s.refuseFor c 1
            else if s.quiet then (s.emptyL1s.takeIn x).done c 0
            else s
          | some g, some _ => if g.id = graphIdOf c then s.switchStart c g else s.refuseFor c 1
          | _, none => s.refuseFor c 2))

/-- SWITCH_CONTEXT (R397). -/
def execSwitchContext (s : State) : Out := .next (switchContextStep s)

/-! ## MAP_PAGES and UNMAP_PAGES (R433, R434; 15 R341 to R347; 14 R323) -/

/-- The place of the entry that maps an address with a page or a block: its address, the address of an entry whose table is
missing, a block entry in the way of a page, or a malformed entry. -/
inductive PtPlace where
  | entry (at_ : Nat)
  | missing (at_ : Nat)
  | block
  | malformed
deriving DecidableEq, Repr

/-- Where an address is mapped (15 R343). -/
def ptPlace (mem : List Host.Cell) (root va : Nat) (blk : Bool) : PtPlace :=
  let a3 := root + 8 * bits va 36 11
  let e3 := memVal mem a3 8
  if !bit e3 0 then .missing a3
  else if pteBad e3 || bit e3 1 then .malformed
  else
    let a2 := pteAddr e3 + 8 * bits va 25 11
    let e2 := memVal mem a2 8
    if blk then .entry a2
    else if !bit e2 0 then .missing a2
    else if bit e2 1 then .block
    else if pteBad e2 then .malformed
    else .entry (pteAddr e2 + 8 * bits va 14 11)

/-- Bytes written by the firmware. -/
def State.firmwareWrite (s : State) (pa : Nat) (bs : List Byte) : State := s.hostWrite 0 bs .host (lineParts pa bs.length)

/-- A page for a table, from the working area of the first die that has one free, cleared (15 R341). -/
def State.takeTable (s : State) : Option (State × Nat) :=
  let room (d : Nat) : Option Nat :=
    let l := s.layout d
    let a := l.tables + 16384 * (s.die d).tablePages
    if a + 16384 ≤ l.base + l.size then some a else none
  let take (d a : Nat) : State × Nat :=
    ((s.modDie d (fun x => { x with tablePages := x.tablePages + 1 })).firmwareWrite a (List.replicate 16384 0#8), a)
  match room 0, room 1 with
  | some a, _ => some (take 0 a)
  | none, some a => some (take 1 a)
  | none, none => none

/-- One leaf entry written; missing tables are built first. -/
def State.mapOne (s : State) (root va leaf : Nat) (blk : Bool) (fuel : Nat) : Option State :=
  match fuel, ptPlace s.mem root va blk with
  | _, .entry a =>
    if blk && decide (memVal s.mem a 8 % 4 = 1) then none else some (s.firmwareWrite a (leBytes leaf 8))
  | fuel + 1, .missing a =>
    match s.takeTable with
    | some (s', t) => (s'.firmwareWrite a (leBytes (1 + t) 8)).mapOne root va leaf blk fuel
    | none => none
  | _, _ => none

/-- Bytes that an entry maps. -/
def leafStep (blk : Bool) : Nat := if blk then 2 ^ 25 else 2 ^ 14

/-- Leaf entries of n pages or blocks written, all or none. -/
def State.mapMany (s : State) (root va leaf : Nat) (blk : Bool) (n : Nat) : Option State :=
  match n with
  | 0 => some s
  | n + 1 =>
    match s.mapOne root va leaf blk 2 with
    | some s' => s'.mapMany root (va + leafStep blk) (leaf + leafStep blk) blk n
    | none => none

/-- The valid leaf entries of n pages or blocks cleared; none when the range from `lo` of `len` bytes covers part of a
block entry. -/
def State.unmapMany (s : State) (root lo len va : Nat) (blk : Bool) (n : Nat) : Option State :=
  match n with
  | 0 => some s
  | n + 1 =>
    let next (s : State) : Option State := s.unmapMany root lo len (va + leafStep blk) blk n
    match ptPlace s.mem root va blk with
    | .entry a => next (if memVal s.mem a 8 % 4 = 3 then s.firmwareWrite a (leBytes 0 8) else s)
    | .block => if lo ≤ va / 2 ^ 25 * 2 ^ 25 ∧ va / 2 ^ 25 * 2 ^ 25 + 2 ^ 25 ≤ lo + len then next s else none
    | _ => next s

/-- A range of virtual pages named by a command: out of its limits. -/
def mapRangeBad (c : Nat) : Bool :=
  let step := leafStep (bit c 244)
  decide (bits c 96 64 % step ≠ 0 ∨ bits c 96 64 ≥ 2 ^ 47 ∨ bits c 96 64 + step * bits c 208 32 > 2 ^ 47)

/-- A physical range meets a working area of a loaded graph (15 R341). -/
def State.meetsArea (s : State) (pa n : Nat) : Bool :=
  s.loadedGraphs.any (fun g => g.layouts.any (fun l => meet (l.base, l.size) (pa, n)))

/-- Every resident wave changed. -/
def State.mapWaves (s : State) (f : Wave → Wave) : State := { s with w := f s.w, waves := s.waves.map f }

/-- A wave parked on a missing page issues again from a cycle on, or takes PAGE_PROT if the host has refused the page (17
R389). -/
def Wave.pageOver (w : Wave) (hit : Nat → Bool) (now : Nat) (refused : Option Nat) : Wave :=
  match w.status with
  | .parked (.page _ va) => if hit va then { w with status := .running, ageLead := now, ageLane := now, refused := refused } else w
  | _ => w

/-- Waiters on pages that a MAP_PAGES has covered, waves, jobs and traversals, resume, and the pages' records are over (R437;
15 R364). -/
def State.pagesMapped (s : State) (va n : Nat) : State :=
  let id := s.graphId
  let hit (f : FaultRec) : Bool := f.cause.isNone && f.graph == id && inRange f.va va n
  let ray (x : RayWait) : RayWait := if inRange (16384 * x.page) va n ∧ x.answer = none then { x with answer := some true } else x
  let job (j : Job) : Job :=
    match j.page with
    | some a => if inRange a va n then { j with page := none } else j
    | none => j
  { s.mapWaves (fun w => w.pageOver (fun a => inRange a va n) (s.cycleOf w.core) none) with
    faults := s.faults.filter (fun f => !hit f), faultsWaiting := s.faultsWaiting.map (fun f => { f with ended := f.ended || hit f })
    dies := s.dies.map (fun d => { d with jobs := d.jobs.map job, rayWait := d.rayWait.map ray }) }

/-- The pages of a MAP_PAGES record that has been answered with STATUS 0 are reported mapped: its waiters resume once its
response is written (R437). -/
def State.reportMapped (s : State) (c : Nat) : State :=
  let blk := bit c 244
  if opcodeOf c = 0x17 then (s.onGraph (graphIdOf c) (fun s => s.pagesMapped (bits c 96 64) (leafStep blk * bits c 208 32))).getD s else s

/-- The command node goes on, unless the management core has halted (R439): a response that waited is written, or the oldest
record of its queue on die 0 is taken, while the ring holds none (13 R317; entry 42). -/
def State.commandTake (s : State) : State :=
  if s.mgmtHalted then s
  else
    match s.busy, s.nodes.findIdx? (fun n => n.kind == kindCommand) with
    | some (.respond status reason data), _ =>
      if s.writesPending then s
      else
        let c := s.headRecord
        let t := s.respondNow c status reason data
        if status = 0 then t.reportMapped c else t
    | some _, _ => s
    | none, none => s
    | none, some k =>
      if !s.powered || s.ringReady || s.revoked k then s
      else
        match s.takeRecord 0 k with
        | some (s', e) => { s' with queueCmd := some (s.graphId, k, leValue e.bytes) }
        | none => s

/-- MAP_PAGES (R434). -/
def mapPagesStep (s : State) : State :=
  s.onCommand (fun c => opcodeOf c == 0x17) (fun c s =>
    let va := bits c 96 64
    let pa := bits c 160 48
    let blk := bit c 244
    let n := leafStep blk * bits c 208 32
    s.gate c 3 [(64, 32), (96, 64), (160, 48), (208, 32), (240, 4), (244, 1)]
      (mapRangeBad c || decide (pa % leafStep blk ≠ 0) || !backedRange pa n)
      (fun s => s.forGraph c (fun s =>
        let root := match s.graph with | some g => g.ptroot | none => 0
        if meet (va, n) (win0, 0x8000) then s.refuseFor c 2
        else if s.meetsArea pa n then s.refuseFor c 3
        else
          match s.mapMany root va (3 + bits c 240 4 * 4 + pa) blk (bits c 208 32) with
          | none => s.refuseFor c 4
          | some s' =>
            let t := s'.clearTlbs.done c 0
            if t.busy.isSome then t else t.pagesMapped va n)))

/-- MAP_PAGES (R434). -/
def execMapPages (s : State) : Out := .next (mapPagesStep s)

/-- UNMAP_PAGES (R434). -/
def unmapPagesStep (s : State) : State :=
  s.onCommand (fun c => opcodeOf c == 0x18) (fun c s =>
    let va := bits c 96 64
    let blk := bit c 244
    s.gate c 3 [(64, 32), (96, 64), (208, 32), (244, 1)] (mapRangeBad c) (fun s => s.forGraph c (fun s =>
      let root := match s.graph with | some g => g.ptroot | none => 0
      match s.unmapMany root va (leafStep blk * bits c 208 32) va blk (bits c 208 32) with
      | none => s.refuseFor c 2
      | some s' => s'.clearTlbs.done c 0)))

/-- UNMAP_PAGES (R434). -/
def execUnmapPages (s : State) : Out := .next (unmapPagesStep s)

/-! ## FAULT_REPLY (R437; 14 R336; 13 R313) -/

/-- A job whose page the host refuses makes no more writes. -/
def Job.pageRefused (j : Job) (page : Nat) : Job :=
  match j.page with
  | some va =>
    if va / 16384 = page then
      { j with page := none, fault := some (causeProt, va, jobProt (j.buf != []) + 1 <<< 17), status := 1, buf := [] }
    else j
  | none => j

/-- The waiters on a page that the host refuses. -/
def State.pageRefused (s : State) (page : Nat) : State :=
  { s.mapWaves (fun w => w.pageOver (fun a => a / 16384 == page) (s.cycleOf w.core) (some page)) with
    dies := s.dies.map (fun d =>
      { d with
        jobs := d.jobs.map (fun j => j.pageRefused page)
        rayWait := d.rayWait.map (fun (r : RayWait) => if r.page = page ∧ r.answer = none then { r with answer := some false } else r) }) }

/-- FAULT_REPLY (R437). -/
def faultReplyStep (s : State) : State :=
  s.onCommand (fun c => opcodeOf c == 0x19) (fun c s =>
    s.gate c 3 [(64, 32)] false (fun s =>
      match s.faults.find? (fun f => f.fseq == bits c 64 32) with
      | none => s.refuseFor c 1
      | some f =>
        let s : State := { s with faults := s.faults.filter (fun x => x.fseq != f.fseq) }
        ((s.onGraph f.graph (fun s => s.pageRefused (f.va / 16384))).getD s).done c 0))

/-- FAULT_REPLY (R437). -/
def execFaultReply (s : State) : Out := .next (faultReplyStep s)

/-! ## BLOCK_CONTROL (R436) -/

/-- The faulted block that a command names, with the place of its image. -/
def State.faultedBlock (s : State) (c : Nat) : Option (Block × Nat) :=
  s.blocks.findSome? (fun b =>
    match b.status with
    | .saved true image => if b.key.node = bits c 96 16 ∧ b.key.blk = bits c 128 32 then some (b, image) else none
    | _ => none)

/-- The step of an ACTION of BLOCK_CONTROL; `f` acts on the block and gives DATA. -/
def blockControlStep (mine : Nat → Bool) (f : Block → Nat → State → State × Nat) (s : State) : State :=
  s.onCommand (fun c => opcodeOf c == 0x1D && mine (bits c 112 8)) (fun c s =>
    s.gate c 3 [(64, 32), (96, 16), (112, 8), (128, 32)] (decide (bits c 112 8 > 2)) (fun s => s.forGraph c (fun s =>
      match s.faultedBlock c with
      | none => s.refuseFor c 2
      | some (b, image) =>
        let r := f b image s
        r.1.done c r.2)))

/-- BLOCK_CONTROL_IMAGE (R436): it also answers an ACTION above 2. -/
def execBlockControlImage (s : State) : Out :=
  .next (blockControlStep (fun a => a == 0 || decide (a > 2))
    (fun b image s => (s, image % 2 ^ 48 * 2 ^ 64 + b.cause % 256 * 2 ^ 112)) s)

/-- BLOCK_CONTROL_RESUME (R436): FAULTED is cleared, and the block waits to be restored. -/
def execBlockControlResume (s : State) : Out :=
  .next (blockControlStep (fun a => a == 1)
    (fun b image s =>
      ((s.firmwareWrite image (leBytes (putBit (memVal s.mem image 8) 53 false) 8)).modBlock b.key
        (fun b => { b with status := .saved false image }), 0)) s)

/-- BLOCK_CONTROL_DISCARD (R436): its image is free, its unused credits leave QRESV, and it is over. -/
def execBlockControlDiscard (s : State) : Out :=
  .next (blockControlStep (fun a => a == 2) (fun b image s => (((s.freeImage b.die image).blockCredits b).removeBlock b, 0)) s)

/-! ## Device reset and start-up (R440, R446 to R449; 18 R407) -/

/-- The ROM's work after a reset: the measurements of itself, of the update image in the flash and of the key store that the
image brings (R446, R447). -/
def State.bootRom (s : State) : State :=
  let s := s.extend 0 (leBytes Config.romDigest 32)
  let s := if s.flash = [] then s else s.extend 1 (sha256 s.flash)
  let keys := if s.flash = [] then [] else (Config.keysOf s.flash).take 8
  ({ s with keys := keys } : State).extend 2 (sha256 (keys.flatMap (fun k => leBytes k 384)))

/-- POWER_GOOD (R440): TIMEN begins at 0. -/
def execPowerGood (s : State) : Out :=
  .next (if s.powered then s else ({ s with powered := true, timen := 0, bootstage := 0 } : State).bootRom)

/-- DEVICE RESET: every field at its reset value, but what a reset does not reach: the contents of memory with their poison,
the flash, and TIMEN (entry 33). -/
def State.deviceReset (s : State) : State :=
  let r := State.reset
  ({ r with
      powered := true, mem := s.mem, flash := s.flash, timen := s.timen, agenda := s.agenda, nextId := s.nextId, fresh := s.fresh
      dir := (s.dir.filter (fun p => p.2.poison)).map (fun p => (p.1, { DirEntry.empty with poison := true }))
      clusters := r.clusters.map (fun c => { c with stepAt := s.timen / 1000, sampleAt := s.timen / 100000 }) } : State).bootRom

/-- The records of the ring that wait, oldest first, behind one taken from a command node's queue. -/
def State.ringRecords (s : State) : List Nat :=
  (match s.queueCmd with | some c => [c.2.2] | none => [])
    ++ (List.range (min ((s.cmdtail + 2 ^ 32 - s.cmdhead) % 2 ^ 32) 4096)).map (fun k =>
        leValue (memBytes s.bar0 (cmdSlot (s.cmdhead + k)) 64))

/-- RESET_DEVICE (R433): no response. With the management core halted hardware takes it, and no other record: one that stands
before it in the ring does not keep it back (R439). -/
def resetDeviceStep (s : State) : State :=
  if s.mgmtHalted then
    (if s.powered && s.ringRecords.any (fun c => opcodeOf c == 5 && !rsvdSet c []) then s.deviceReset else s)
  else s.onCommand (fun c => opcodeOf c == 5) (fun c s => s.gate c 0 [] false State.deviceReset)

/-- RESET_DEVICE (R433). -/
def execResetDevice (s : State) : Out := .next (resetDeviceStep s)

/-- Clusters calibrated in ascending number: a setting each, or, for one that fails, its cores declared dead (R440). -/
def State.calibrate (s : State) (failed : Nat) (gs : List Nat) : State :=
  match gs with
  | [] => s
  | g :: rest =>
    (if bit failed g then ((List.range 8).foldl (fun s k => s.declareDead (8 * g + k)) s)
     else s.writeCbias g (Config.biasSetting g).toNat).calibrate failed rest

/-- BOOTSTAGE_ADVANCE (R440): training ends stage 0, or a failure of it holds it there with DEVSTAT[0]; then calibration, whose
failures set DEVSTAT[0] too (R430). -/
def bootstageStep (trained : Bool) (failed : Nat) (s : State) : State :=
  if !s.powered || s.mgmtHalted || s.bootstage ≥ 3 || (decide (s.bootstage = 0) && bit s.devstat 0) then s
  else if s.bootstage = 0 ∧ !trained then { s with devstat := putBit s.devstat 0 true }
  else
    let s : State := { s with bootstage := s.bootstage + 1 }
    if s.bootstage = 3 then
      { s.calibrate failed (List.range 24) with
        devstat := if failed % 2 ^ 24 = 0 then s.devstat else putBit s.devstat 0 true }
    else s

/-- BOOTSTAGE_ADVANCE (R440). -/
def execBootstageAdvance (trained : Bool) (failed : Nat) (s : State) : Out := .next (bootstageStep trained failed s)

end Sys2Proof.Machine
end

