-- ==== Sys2Proof/Machine/Power.lean ====
section
/-! DEFINITION. Droop trips, the refill step, body bias, thermal samples, and the end of a cycle: buckets, cycle counts and
the timers that count cycles (02 R28, R47; 04 R99; 07 R176; 16 R382; 17 R390, R404; 18 R406 to R417). -/
namespace Sys2Proof.Machine

/-! ## The steps of a cluster (R406, R407, R412, R416, R417) -/

/-- DROOP_TRIP of a cluster (R406). -/
def execDroopTrip (g : Nat) (s : State) : Out :=
  .next (if g < 24 then
      ({ s with droopcnt := (s.droopcnt + 1) % 2 ^ 32 } : State).modCluster g (fun c => { c with step := 1, tripped := true })
    else s)

/-- The refill step after a microsecond (R412); with a droop trip in the same cycle it is 1 (R417). -/
def Cluster.newStep (c : Cluster) (cbmax : Nat) : Nat :=
  if c.tripped || c.full then 1 else if c.step < cbmax then c.step + 1 else c.step

/-- A cluster at the end of a microsecond of TIMEN: its step changes, and a new microsecond begins (R412). -/
def Cluster.microsecond (c : Cluster) (cbmax us : Nat) : Cluster :=
  { c with step := c.newStep cbmax, full := decide (c.bucket = 1048576), stepAt := us }

/-- CB_STEP_UPDATE of a cluster, once per microsecond of TIMEN (R412). -/
def execCbStepUpdate (g : Nat) (s : State) : Out :=
  .next (if s.timen / 1000 > (s.cluster g).stepAt then s.modCluster g (fun c => c.microsecond s.cbmax (s.timen / 1000)) else s)

/-- BIAS_SETTLE of a cluster: the generator has settled, once a cycle has passed with the slots empty (R407). -/
def execBiasSettle (g : Nat) (s : State) : Out :=
  .next (s.modCluster g (fun c => if c.idle then { c with settling := false } else c))

/-- A sample sets the TALERT bit of its cluster (R416). -/
def Cluster.alerts (c : Cluster) (t tlimit : Nat) : Bool := decide (t ≥ tlimit ∨ (c.throttle ≠ 0 ∧ t + 40 ≤ tlimit))

/-- THERMAL_SAMPLE of a cluster, every 100 µs of TIMEN (R408, R416): a bit that it sets raises the thermal interrupt. -/
def thermalSampleStep (g t : Nat) (s : State) : State :=
  if g < 24 ∧ s.timen / 100000 > (s.cluster g).sampleAt then
    let hot := (s.cluster g).alerts t s.tlimit
    let now := s.timen / 100000
    let s := s.modCluster g (fun c => { c with temp := t, sampleAt := now, alerted := c.alerted || hot })
    if hot then ({ s with talert := putBit s.talert g true } : State).raiseInt 1 else s
  else s

/-- THERMAL_SAMPLE (R416). -/
def execThermalSample (g : Nat) (t : BitVec 12) (s : State) : Out := .next (thermalSampleStep g t.toNat s)

/-- What the thermal handler does for a cluster whose alert is pending (R416): one step up at TLIMIT, at most to 6; one down,
at least to 0, when it is cool and 10 ms have passed since the last change. -/
def Cluster.thermal (c : Cluster) (tlimit now : Nat) : Cluster :=
  if c.temp ≥ tlimit then { c with throttle := min (c.throttle + 1) 6, throttleAt := now }
  else if c.temp + 40 ≤ tlimit ∧ c.throttleAt + 10000000 ≤ now then { c with throttle := c.throttle - 1, throttleAt := now }
  else c

/-- THE FIRMWARE'S THERMAL HANDLER (R416), whose text the chapter prints, as one step while the core is in the interrupt: the
pending alerts are cleared, but those that a sample of the same cycle has set stand (R417), and their clusters handled in
ascending number; CSEL keeps the last (entry 43). -/
def State.thermalHandler (s : State) : State :=
  match s.wave? 192 0 with
  | none => s
  | some w =>
    if w.tcause ≠ 0x41 ∨ s.mgmtIe = true ∨ s.mgmtHalted = true ∨ s.talert = 0 then s
    else
      let hit := lanesOf s.talert 24
      { s with
        clusters := s.clusters.zipIdx.map (fun p => if hit.contains p.2 then p.1.thermal s.tlimit s.timen else p.1)
        talert := (s.writeTalert s.talert).talert, csel := hit.getLast?.getD s.csel }

/-! ## The end of a cycle -/

/-- A cluster at the end of a cycle (R412): its bucket is refilled; a lower CBMAX lowers the step from the next cycle on;
and THROTTLE and a body bias that settles decide whether the slots of the next cycle stay empty (R407, R415; 04 R101). -/
def Cluster.refill (c : Cluster) (cbmax : Nat) : Cluster :=
  { c with
    bucket := min 1048576 (c.bucket + 64 * c.step), step := min c.step cbmax, cycle := c.cycle + 1,
    idle := c.idles (c.cycle + 1), tripped := false, alerted := false }

/-- A stream of the wave stood in the cycle in one of some ways. -/
def Wave.stood (w : Wave) (l : List Attempt) : Bool := l.contains w.tryLead || l.contains w.tryLane

/-- The starvation timer after a cycle (R47, R382): held in a cycle that began or ends with the wave Parked, paused in a cycle
counted out (R53, R413), advanced when a stream was ready and issued nothing, paused when the charge alone held the wave
(R413), else 0. -/
def Wave.starved (w : Wave) (out : Bool) : Nat :=
  match w.status with
  | .running =>
    if out || w.stood [.out, .shut, .parked] then w.starve
    else if w.stood [.ready] then min (w.starve + 1) 65535
    else if w.stood [.issued] then 0
    else if w.stood [.unpaid] then w.starve
    else 0
  | _ => w.starve

/-- The readiness age of a stream after a cycle (02 R23): a stream that stays ready, held by its charge or by a cycle counted
out or not, keeps it, and any other can become ready in the next cycle at the earliest. Waves that wake together therefore have equal ages, and the lower slot goes first
(R414 step 3). -/
def ageStep (x : Attempt) (age next : Nat) : Nat := if x = .ready ∨ x = .unpaid ∨ x = .out then age else next

/-- A YIELD's count after a cycle (17 R404): YIELD_EXPIRY ends it at 1. -/
def yieldStep (n : Nat) : Nat := if n > 1 then n - 1 else n

/-- The parked cycles that count towards the wait limit (17 R390). -/
def Wave.parked (w : Wave) : Nat :=
  match w.status with
  | .parked p => if p.limited.isSome then min (w.parkCount + 1) (2 ^ 20) else 0
  | _ => 0

/-- A wave after a cycle, the cluster's cycle `next` following: CYC, the starvation timer and the place it gave, readiness
ages, its yields, the coupling-deadlock count and its parked cycles. -/
def Wave.endCycle (w : Wave) (out stuck : Bool) (next : Nat) : Wave :=
  let on := match w.status with | .running | .parked _ => true | _ => false
  { w with
    cyc := if on then (w.cyc + 1) % 2 ^ 64 else w.cyc
    starve := w.starved out, promoted := w.promoted && decide (w.starved out ≠ 0)
    ageLead := ageStep w.tryLead w.ageLead next, ageLane := ageStep w.tryLane w.ageLane next, yieldLead := yieldStep w.yieldLead, yieldLane := yieldStep w.yieldLane
    deadlock := if stuck then min (w.deadlock + 1) 16 else 0
    parkCount := w.parked, tryLead := .none, tryLane := .none }

/-- Waves of a list after a cycle: those of the cluster; those of the management core go with cluster 0. -/
def State.endWaves (s : State) (g : Nat) (l : List Wave) : State :=
  match l with
  | [] => s
  | w :: rest =>
    let mine := if w.mgmt then g == 0 else clusterOf w.core == g
    if !mine then s.endWaves g rest
    else
      let out := s.countedOut w
      let stuck := (s.deadlockOf w).isSome
      let next := (s.cluster g).cycle + 1
      (s.modWave w.core w.slot (fun w => w.endCycle out stuck next)).endWaves g rest

/-- The event counts of a cycle are over on a cluster's cores (04 R102). -/
def State.endCounts (s : State) (g : Nat) : State :=
  { s with cores := s.cores.zipIdx.map (fun p => if clusterOf p.2 = g then { p.1 with nanNow := 0, ovfNow := 0 } else p.1) }

/-- CHARGE_BUCKET_REFILL of a cluster: the end of a cycle (R412). Cluster 0 counts the cycles of the device (entry 10). -/
def chargeBucketRefillStep (g : Nat) (s : State) : State :=
  if g < 24 then
    let s := ((s.endWaves g s.allWaves).endCounts g).modCluster g (fun c => c.refill s.cbmax)
    if g = 0 then { s with cycle := s.cycle + 1 } else s
  else s

/-- CHARGE_BUCKET_REFILL (R412). -/
def execChargeBucketRefill (g : Nat) (s : State) : Out := .next (chargeBucketRefillStep g s)

end Sys2Proof.Machine
end

