-- ==== Sys2Proof/Machine/Agenda.lean ====
section
/-! DEFINITION. The turns of a round (entry 1): which agent acts next where nothing else is listed, and the step that an
agent takes by itself. What the outside world does (the host's writes and reads, sensor writes, lane faults, droops,
temperatures, bit errors, snoops) stands in no round: it comes from the agenda. -/
namespace Sys2Proof.Machine

/-- A step that an agent takes by itself: the meaning of the event step of the same name. -/
def State.agentStep (s : State) (x : AgentStep) (a b c : Nat) : Out :=
  match x with
  | .migrationForward => execMigrationForward a s
  | .homeLoad => execHomeLoad a s
  | .homeStore => execHomeStore a s
  | .homeAtom => execHomeAtom a s
  | .fillReceive => execFillReceive a s
  | .updateReceive => execUpdateReceive a s
  | .pushReceive => execPushReceive a s
  | .rangeOpenNotice => execRangeOpenNotice a s
  | .foldProbe => execFoldProbe a s
  | .loadReturn => execLoadReturn a s
  | .pushReply => execPushReply a s
  | .deregistration => execDeregistration a s
  | .rangeNoticeReply => execRangeNoticeReply a s
  | .holderRegister => execHolderRegister a s
  | .evictedPartial => execEvictedPartial a s
  | .storeAck => execStoreAck a s
  | .signalApply => execSignalApply a s
  | .joinRecordArrival => execJoinRecordArrival a s
  | .recordEnqueue => execRecordEnqueue a s
  | .migrationInstall => execMigrationInstall a s
  | .stealArrival => execStealArrival a s
  | .lqFill => execLqFill a b s
  | .trapEntry => execTrapEntry a b s
  | .faultWithoutHandler => execFaultWithoutHandler a b s
  | .waveRetire => execWaveRetire a b s
  | .consumeRetry => execConsumeRetry a b s
  | .couplingDeadlock => execCouplingDeadlock a b s
  | .waitLimit => execWaitLimit a b s
  | .sleepExpiryLead => execSleepExpiry a b .lead s
  | .sleepExpiryLane => execSleepExpiry a b .lane s
  | .yieldExpiryLead => execYieldExpiry a b .lead s
  | .yieldExpiryLane => execYieldExpiry a b .lane s
  | .starvationPromoteC => execStarvationPromoteC a b s
  | .starvationPromoteP => execStarvationPromoteP a b s
  | .matrixEntryTake => execMatrixEntryTake a s
  | .matrixEntryCommit => execMatrixEntryCommit a b s
  | .msigArrival => execMsigArrival a b s
  | .workRequest => execWorkRequest a s
  | .deadAgentTimeout => execDeadAgentTimeout a s
  | .blockStart => execBlockStart a s
  | .blockSave => execBlockSave a s
  | .blockRestore => execBlockRestore a s
  | .barrierCompletesAgain => execBarrierCompletesAgain a b c s
  | .queueSpillReturn => execQueueSpillReturn a b s
  | .batchClose => execBatchClose a b s
  | .batchMaxwaitExpiry => execBatchMaxwaitExpiry a b s
  | .rangeRecordBind => execRangeRecordBind a b s
  | .stealCheck => execStealCheck a b s
  | .rasteriseTriangle => execRasteriseTriangle a b s
  | .rayTraverse => execRayTraverse a b s
  | .matrixJobRun => execMatrixJobRun a b s
  | .copyJobRun => execCopyJobRun a b s
  | .jobStart => execJobStart a b s
  | .jobComplete => execJobComplete a b s
  | .remoteWriteCount => execRemoteWriteCount a b s
  | .migrationPointerRetire => execMigrationPointerRetire a s
  | .batchAdmit => execBatchAdmit a s
  | .blockReserve => execBlockReserve a s
  | .reservationWaitExpiry => execReservationWaitExpiry a s
  | .jobPageTimeout => execJobPageTimeout a s
  | .foldComplete => execFoldComplete a s
  | .bootstageAdvance => execBootstageAdvance true 0 s
  | .codePageCheck => execCodePageCheck a b s
  | .scanoutVblank => execScanoutVblank a s
  | .sensorBarrierArrival => execSensorBarrierArrival a s
  | .biasSettle => execBiasSettle a s
  | .cbStepUpdate => execCbStepUpdate a s
  | .chargeBucketRefill => execChargeBucketRefill a s
  | .commandTake => .next s.commandTake
  | .thermalHandler => .next s.thermalHandler
  | .endBarriers => .next s.endBarriers
  | .serveClaims => .next (s.coreClaims a)

/-- The step that takes a message: a request at the old home of a migrating page is forwarded (10 R227). -/
def State.agentOf (s : State) (n : NetMsg) : AgentStep :=
  if s.atOldHome n then .migrationForward
  else
    match n.msg with
    | .load _ _ _ _ => .homeLoad
    | .store _ _ _ => .homeStore
    | .atom _ _ => .homeAtom
    | .fill _ _ _ _ => .fillReceive
    | .update _ _ _ _ _ => .updateReceive
    | .push _ _ _ _ => .pushReceive
    | .notice _ _ => .rangeOpenNotice
    | .probe _ _ => .foldProbe
    | .ret _ _ _ _ _ _ _ => .loadReturn
    | .pushReply _ _ _ _ => .pushReply
    | .dereg _ _ => .deregistration
    | .noticeReply _ _ => .rangeNoticeReply
    | .holder _ _ => .holderRegister
    | .evicted _ _ _ _ => .evictedPartial
    | .ack _ _ => .storeAck
    | .signal _ _ _ => .signalApply
    | .record rs => if rs.any (fun r => r.join.isSome) then .joinRecordArrival else .recordEnqueue
    | .migrate _ _ _ => .migrationInstall
    | .steal _ _ _ => .stealArrival

/-- Turns of some steps with one operand. -/
def turns1 (l : List AgentStep) (a : Nat) : List Turn := l.map (fun x => .agent x a 0 0)
/-- Turns of some steps with two operands. -/
def turns2 (l : List AgentStep) (a b : Nat) : List Turn := l.map (fun x => .agent x a b 0)

/-! ## Ports (13 R289; 15 R358; 16 R379) -/

/-- The object of a signal to a semaphore or barrier. -/
def Signal.object (x : Signal) : Option ObjRef :=
  match x with
  | .seminc o _ | .semset o _ _ | .barinit o _ _ | .bararr o _ | .barexp o _ _ | .barpend o _ => some o
  | .joinset _ _ _ _ | .joinadd _ _ _ | .joindec _ _ _ => none

/-- An object that a core's own issue slots reach: one of the core itself, or a span barrier, whose arbiter takes the cores in
ascending number (16 R379). -/
def State.ownObject (s : State) (core : Nat) (o : ObjRef) : Bool :=
  let here (key : BKey) (j : Nat) : Bool :=
    match s.block? key with
    | some b => (b.segs[j]?).any (fun (g : CoreSeg) => g.core == core)
    | none => false
  match o with
  | .sem key j _ => here key j
  | .bar key j n => decide (n ≥ 32) || here key j

/-- The stream whose operation a message tells, of the wave that sent it. -/
def State.tellStream (s : State) (tell : AckTo) : Stream :=
  match tell with
  | .wave core slot op =>
    match s.wave? core slot with
    | some w => if w.ops.any (fun o => o.id == op && decide (o.cls.stream = .lead)) then .lead else .lane
    | none => .lane
  | _ => .lane

/-- The ports by which the turns of a cycle are ordered: the issue slots of a core and stream; the messages of the homes and
cores; the records of the clusters of their die, and of its fixed nodes; the join arbiter's changes; the signals of other cores; the Saddle ingress;
and the join arbiter's releases. -/
inductive Port where
  | slots (core : Nat) (st : Stream)
  | homes
  | queues
  | fixed
  | joins
  | others
  | saddle
  | releases
deriving DecidableEq, Repr

/-- The port of a record on its way: it may cross Saddle to its queue (13 R284, R289). -/
def State.recordPort (s : State) (n : NetMsg) (r : RecMsg) : Port :=
  if r.join.isSome then .joins
  else if (s.aim r).die ≠ r.die then .saddle
  else if n.core < 192 then .queues
  else if n.slot ≤ 2 then .releases else .fixed

/-- The port of a message. -/
def State.portOf (s : State) (n : NetMsg) : Port :=
  match n.msg with
  | .signal tell x _ =>
    (match x.object with
     | some o => if n.core < 192 && s.ownObject n.core o then .slots n.core (s.tellStream tell) else .others
     | none => .joins)
  | .record (r :: _) => s.recordPort n r
  | .steal _ _ _ => .saddle
  | _ => .homes

/-- The turns of the messages at a port: oldest first, or at a port that takes clusters or cores in ascending number, so. -/
def State.portTurns (s : State) (p : Port) : List Turn :=
  let l := s.net.filter (fun n => s.portOf n == p)
  let sorted := match p with
    | .queues | .joins => sortBy (fun (n : NetMsg) => clusterOf n.core) l
    | .others => sortBy (fun (n : NetMsg) => n.core) l
    | .fixed => sortBy (fun (n : NetMsg) => n.slot) l
    | _ => l
  sorted.map (fun n => Turn.msg n.id)

/-- The turns of a wave beside its issues. -/
def Wave.turns (w : Wave) : List Turn :=
  (if w.holding.isSome then [.hold w.core w.slot] else []) ++
  turns2 [.lqFill, .trapEntry, .faultWithoutHandler, .waveRetire, .consumeRetry, .couplingDeadlock, .waitLimit, .sleepExpiryLead,
    .sleepExpiryLane, .yieldExpiryLead, .yieldExpiryLane, .starvationPromoteC, .starvationPromoteP] w.core w.slot

/-- The turns of a core: its matrix engine, its requests for work, and the timer that declares it dead. -/
def Core.turns (x : Core) (c : Nat) : List Turn :=
  turns1 [.matrixEntryTake, .workRequest, .deadAgentTimeout] c
    ++ (List.range x.fifo.length).flatMap (turns2 [.matrixEntryCommit, .msigArrival] c)

/-- The turns of a block. -/
def Block.turns (i : Nat) : List Turn := turns1 [.blockStart, .blockSave, .blockRestore] i

/-- The turns of a node's fixed function or queue work on a die. -/
def nodeTurns (die nodes : Nat) (l : List AgentStep) : List Turn := (List.range nodes).flatMap (turns2 l die)

/-- The places of a die's jobs, those of matrix nodes first (13 R289). -/
def Die.jobOrder (d : Die) : List Nat :=
  let of (m : Bool) : List Nat :=
    (d.jobs.zipIdx.filter (fun p => (match p.1.kind with | .matrix _ => true | _ => false) == m)).map (fun p => p.2)
  of true ++ of false

/-- The turns of a die's fixed nodes and engines, in the port order of R289: raster, ray traversal, matrix, copy. -/
def Die.engineTurns (d : Die) (die nodes : Nat) : List Turn :=
  nodeTurns die nodes [.rasteriseTriangle] ++ nodeTurns die nodes [.rayTraverse] ++ nodeTurns die nodes [.matrixJobRun]
    ++ nodeTurns die nodes [.copyJobRun] ++ d.jobOrder.flatMap (turns2 [.jobStart, .jobComplete] die)

/-- The turns of a die's scheduler, whose port is the last of R289, and of its page table. -/
def Die.schedulerTurns (d : Die) (die nodes : Nat) : List Turn :=
  nodeTurns die nodes [.queueSpillReturn, .batchClose, .batchMaxwaitExpiry, .rangeRecordBind, .stealCheck]
    ++ d.rwPend.flatMap (turns2 [.remoteWriteCount] die) ++ d.migrating.flatMap (turns1 [.migrationPointerRetire])

/-- The commands. -/
def commandTurns : List Turn :=
  ([.queryStartup, .queryCoreCounters, .queryFootprint, .queryDeadAgents, .queryLogCounts, .queryMeasurement, .queryUseCounters,
    .queryJoinSlot, .firmwareUpdate, .attest, .setScanout, .resetDevice] ++
  [.loadCode, .unloadCode, .loadGraph, .startGraph, .stopGraph, .vacateCores, .switchContext, .mapPages, .unmapPages,
    .faultReply, .sensorConfig] ++
  [.displayMode, .displayOff, .setPowerBias, .setPowerCbmax, .setPowerTlimit, .setPowerSaddle, .blockControlImage,
    .blockControlResume, .blockControlDiscard, .unloadGraph] : List Instr).map Turn.event

/-- The turns of the management core, the firmware, the host link and the power logic. -/
def State.deviceTurns (s : State) : List Turn :=
  (if s.powered then (if s.bootstage < 3 then turns1 [.bootstageAdvance] 0 else []) else [.event .powerGood])
    ++ s.codes.zipIdx.flatMap (fun o => (o.1.chk.zipIdx.filter (fun p => p.1 == 0)).flatMap (fun p => turns2 [.codePageCheck] o.2 p.2))
    ++ turns1 [.commandTake, .thermalHandler] 0 ++ commandTurns ++ [.event .faultRecordWrite, .event .mgmtInterrupt, .event .massReleaseAdmit]
    ++ (List.range 4).flatMap (turns1 [.scanoutVblank])
    ++ turns1 [.deadAgentTimeout] 192
    ++ (List.range 24).flatMap (turns1 [.biasSettle, .cbStepUpdate])

/-- The turns of the other agents in a round, the end of the cycle last: barriers complete after every request of the cycle
(16 R377, R379). -/
def State.agentTurns (s : State) : List Turn :=
  let nodes := match s.graph with | some g => g.nodes.length | none => 0
  let batches := (s.dies.map (fun d => d.batches.length)).sum
  let jobs := (s.dies.map (fun d => d.jobs.length)).sum
  s.portTurns .homes ++ s.allWaves.flatMap Wave.turns
    ++ s.portTurns .queues ++ s.portTurns .fixed ++ s.portTurns .joins
    ++ s.cores.zipIdx.flatMap (fun p => p.1.turns p.2) ++ s.dies.zipIdx.flatMap (fun p => p.1.engineTurns p.2 nodes) ++ s.deviceTurns
    ++ (List.range 16).flatMap (turns1 [.sensorBarrierArrival]) ++ s.portTurns .others
    ++ s.portTurns .saddle ++ s.portTurns .releases
    ++ (List.range s.blocks.length).flatMap Block.turns ++ s.dies.zipIdx.flatMap (fun p => p.1.schedulerTurns p.2 nodes)
    ++ (List.range (batches + 2 * nodes)).flatMap (turns1 [.batchAdmit, .blockReserve, .reservationWaitExpiry])
    ++ (List.range jobs).flatMap (turns1 [.jobPageTimeout])
    ++ (s.dir.filter (fun p => p.2.fold.isSome)).flatMap (fun p => turns1 [.foldComplete] p.1)
    ++ turns1 [.endBarriers] 0 ++ (List.range 24).flatMap (turns1 [.chargeBucketRefill])

/-- The turns of a core's issue slots in a cycle (02 R21): its streams are judged; then come its four lane slots and its two
lead slots, each kind after the signals that its stream has sent and that reach their object now (16 R379); then the claims
of the cycle (07 R185). -/
def State.coreTurns (s : State) (c : Nat) : List Turn :=
  [.ready c] ++ s.portTurns (.slots c .lane) ++ List.replicate 4 (.slot c .lane)
    ++ s.portTurns (.slots c .lead) ++ List.replicate 2 (.slot c .lead) ++ turns1 [.serveClaims] c

/-- The cores that hold waves or have sent messages, in ascending number. -/
def State.busyCores (s : State) : List Nat :=
  let l := (s.allWaves.filter (fun w => !w.mgmt)).map (fun w => w.core) ++ (s.net.map (fun n => n.core)).filter (fun c => decide (c < 192))
  l.foldl (fun acc c => insertAsc c acc) []

/-- A round, which is a cycle: the issue slots of the cores, in ascending core number, and the management core; then the
other agents, then a nanosecond. -/
def State.round (s : State) : List Turn :=
  s.busyCores.flatMap s.coreTurns ++ [.issue 192 0 .lead] ++ s.agentTurns ++ [.time 1]

/-! ## The group scheduler (02 R21 to R23) -/

/-- The starvation timer of a wave has reached the limit of its class (R23, R47). -/
def Wave.raised (w : Wave) : Bool :=
  w.promoted || (w.pcls % 4 == 0 && decide (w.starve ≥ 3072)) || (w.pcls % 4 == 1 && decide (w.starve ≥ 61440))

/-- The level of a wave in R23: deadline, starved C, starved P, then node priority from 15 to 0. -/
def Wave.level (w : Wave) : Nat :=
  if w.deadline then 0 else if w.raised then (if w.pcls % 4 = 0 then 1 else 2) else 18 - w.prio

/-- The readiness age of a stream. -/
def Wave.age (w : Wave) (st : Stream) : Nat := match st with | .lead => w.ageLead | .lane => w.ageLane

/-- The other stream of a wave. -/
def partnerOf (st : Stream) : Stream := match st with | .lead => .lane | .lane => .lead

/-- The issue slots of a kind that a core has in a cycle (R21). -/
def slotsOf (st : Stream) : Nat := match st with | .lane => 4 | .lead => 2

/-- The ready streams of a core's waves in the order of R23: by level, then by readiness age, then by slot, and the lane
stream of a wave before its lead stream; a wave that has issued in the cycle is out (R21). -/
def State.readyStreams (s : State) (c : Nat) : List (Wave × Stream) :=
  let of (st : Stream) : List (Wave × Stream) :=
    (s.allWaves.filter (fun w => w.core == c && w.stands st == .ready && w.stands (partnerOf st) != .issued)).map (fun w => (w, st))
  sortBy (fun p => p.1.level) (sortBy (fun p => p.1.age p.2) (sortBy (fun p => p.1.slot) (of .lane ++ of .lead)))

/-- The issue slots that an instruction of a stream takes: a lane instruction of a pair takes one for each half (R32). -/
def Wave.slotsFor (w : Wave) (st : Stream) : Nat :=
  match st with
  | .lane => if w.width = 64 then 2 else 1
  | .lead => 1

/-- The streams that the slots left in the cycle go to, one for each wave (R21, R23, R32). -/
def pickStreams (lane lead : Nat) (taken : List Nat) (l : List (Wave × Stream)) : List (Nat × Stream) :=
  match l with
  | [] => []
  | (w, st) :: rest =>
    if taken.contains w.slot then pickStreams lane lead taken rest
    else
      match st with
      | .lane => if lane < w.slotsFor .lane then pickStreams lane lead taken rest
                 else (w.slot, st) :: pickStreams (lane - w.slotsFor .lane) lead (w.slot :: taken) rest
      | .lead => if lead = 0 then pickStreams lane lead taken rest
                 else (w.slot, st) :: pickStreams lane (lead - 1) (w.slot :: taken) rest

/-- The issue slots of a kind that are still free in the cycle. -/
def State.slotsLeft (s : State) (c : Nat) (st : Stream) : Nat :=
  slotsOf st - ((s.allWaves.filter (fun w => w.core == c && w.stands st == .issued)).map (fun w => w.slotsFor st)).sum

/-- The slots of the waves whose ready stream an issue slot may take, first choice first (R23). The six instructions of a
cycle come from six waves (R21): of a wave with both streams ready, a slot leaves the stream whose partner goes before it
(entry 38). A pair that finds one lane slot left is passed over in the cycle. -/
def State.candidates (s : State) (c : Nat) (st : Stream) : List Nat :=
  let l := s.readyStreams c
  let picks := pickStreams (s.slotsLeft c .lane) (s.slotsLeft c .lead) [] l
  (l.filter (fun p =>
      decide (p.2 = st) && decide (p.1.slotsFor st ≤ s.slotsLeft c st) && !picks.contains (p.1.slot, partnerOf st))).map
    (fun p => p.1.slot)

end Sys2Proof.Machine
end

