-- ==== Sys2Proof/Machine/Dispatch.lean ====
section
/-! DEFINITION. One arm per constructor of Instr: the dispatch of the machine. -/
namespace Sys2Proof.Machine

/-- One step of an instruction or event. -/
def exec (i : Instr) (s : State) : Host.Outcome State Fault Refusal :=
  match i with
  | .iaddBA f => Sys2Proof.Machine.execIaddBA f s
  | .iaddXA f => Sys2Proof.Machine.execIaddXA f s
  | .isubBA f => Sys2Proof.Machine.execIsubBA f s
  | .isubXA f => Sys2Proof.Machine.execIsubXA f s
  | .imulBA f => Sys2Proof.Machine.execImulBA f s
  | .imulXA f => Sys2Proof.Machine.execImulXA f s
  | .imulhiBA f => Sys2Proof.Machine.execImulhiBA f s
  | .imulhiXA f => Sys2Proof.Machine.execImulhiXA f s
  | .imad f => Sys2Proof.Machine.execImad f s
  | .iminBA f => Sys2Proof.Machine.execIminBA f s
  | .iminXA f => Sys2Proof.Machine.execIminXA f s
  | .imaxBA f => Sys2Proof.Machine.execImaxBA f s
  | .imaxXA f => Sys2Proof.Machine.execImaxXA f s
  | .andBA f => Sys2Proof.Machine.execAndBA f s
  | .andXA f => Sys2Proof.Machine.execAndXA f s
  | .orBA f => Sys2Proof.Machine.execOrBA f s
  | .orXA f => Sys2Proof.Machine.execOrXA f s
  | .xorBA f => Sys2Proof.Machine.execXorBA f s
  | .xorXA f => Sys2Proof.Machine.execXorXA f s
  | .andnBA f => Sys2Proof.Machine.execAndnBA f s
  | .andnXA f => Sys2Proof.Machine.execAndnXA f s
  | .shlBA f => Sys2Proof.Machine.execShlBA f s
  | .shlXA f => Sys2Proof.Machine.execShlXA f s
  | .shrBA f => Sys2Proof.Machine.execShrBA f s
  | .shrXA f => Sys2Proof.Machine.execShrXA f s
  | .sarBA f => Sys2Proof.Machine.execSarBA f s
  | .sarXA f => Sys2Proof.Machine.execSarXA f s
  | .rotBA f => Sys2Proof.Machine.execRotBA f s
  | .rotXA f => Sys2Proof.Machine.execRotXA f s
  | .bfx f => Sys2Proof.Machine.execBfx f s
  | .bfi f => Sys2Proof.Machine.execBfi f s
  | .popcBA f => Sys2Proof.Machine.execPopcBA f s
  | .popcXA f => Sys2Proof.Machine.execPopcXA f s
  | .clzBA f => Sys2Proof.Machine.execClzBA f s
  | .clzXA f => Sys2Proof.Machine.execClzXA f s
  | .ctzBA f => Sys2Proof.Machine.execCtzBA f s
  | .ctzXA f => Sys2Proof.Machine.execCtzXA f s
  | .brevBA f => Sys2Proof.Machine.execBrevBA f s
  | .brevXA f => Sys2Proof.Machine.execBrevXA f s
  | .icmp f => Sys2Proof.Machine.execIcmp f s
  | .sel f => Sys2Proof.Machine.execSel f s
  | .movBA f => Sys2Proof.Machine.execMovBA f s
  | .movXA f => Sys2Proof.Machine.execMovXA f s
  | .movrel f => Sys2Proof.Machine.execMovrel f s
  | .movrelw f => Sys2Proof.Machine.execMovrelw f s
  | .getexecBA f => Sys2Proof.Machine.execGetexecBA f s
  | .getexecXA f => Sys2Proof.Machine.execGetexecXA f s
  | .setexecBA f => Sys2Proof.Machine.execSetexecBA f s
  | .setexecXA f => Sys2Proof.Machine.execSetexecXA f s
  | .vrdl f => Sys2Proof.Machine.execVrdl f s
  | .vwrl f => Sys2Proof.Machine.execVwrl f s
  | .kand f => Sys2Proof.Machine.execKand f s
  | .kor f => Sys2Proof.Machine.execKor f s
  | .kxor f => Sys2Proof.Machine.execKxor f s
  | .knot f => Sys2Proof.Machine.execKnot f s
  | .kmov f => Sys2Proof.Machine.execKmov f s
  | .faddBA f => Sys2Proof.Machine.execFaddBA f s
  | .faddXA f => Sys2Proof.Machine.execFaddXA f s
  | .fsubBA f => Sys2Proof.Machine.execFsubBA f s
  | .fsubXA f => Sys2Proof.Machine.execFsubXA f s
  | .fmulBA f => Sys2Proof.Machine.execFmulBA f s
  | .fmulXA f => Sys2Proof.Machine.execFmulXA f s
  | .ffma f => Sys2Proof.Machine.execFfma f s
  | .fminBA f => Sys2Proof.Machine.execFminBA f s
  | .fminXA f => Sys2Proof.Machine.execFminXA f s
  | .fmaxBA f => Sys2Proof.Machine.execFmaxBA f s
  | .fmaxXA f => Sys2Proof.Machine.execFmaxXA f s
  | .fcmp f => Sys2Proof.Machine.execFcmp f s
  | .fclass f => Sys2Proof.Machine.execFclass f s
  | .frcpBA f => Sys2Proof.Machine.execFrcpBA f s
  | .frcpXA f => Sys2Proof.Machine.execFrcpXA f s
  | .frsqBA f => Sys2Proof.Machine.execFrsqBA f s
  | .frsqXA f => Sys2Proof.Machine.execFrsqXA f s
  | .fsqrtBA f => Sys2Proof.Machine.execFsqrtBA f s
  | .fsqrtXA f => Sys2Proof.Machine.execFsqrtXA f s
  | .fexp2BA f => Sys2Proof.Machine.execFexp2BA f s
  | .fexp2XA f => Sys2Proof.Machine.execFexp2XA f s
  | .flog2BA f => Sys2Proof.Machine.execFlog2BA f s
  | .flog2XA f => Sys2Proof.Machine.execFlog2XA f s
  | .fsinpiBA f => Sys2Proof.Machine.execFsinpiBA f s
  | .fsinpiXA f => Sys2Proof.Machine.execFsinpiXA f s
  | .fcospiBA f => Sys2Proof.Machine.execFcospiBA f s
  | .fcospiXA f => Sys2Proof.Machine.execFcospiXA f s
  | .hfma2 f => Sys2Proof.Machine.execHfma2 f s
  | .hadd2BA f => Sys2Proof.Machine.execHadd2BA f s
  | .hadd2XA f => Sys2Proof.Machine.execHadd2XA f s
  | .hmul2BA f => Sys2Proof.Machine.execHmul2BA f s
  | .hmul2XA f => Sys2Proof.Machine.execHmul2XA f s
  | .dot4d8 f => Sys2Proof.Machine.execDot4d8 f s
  | .dot2h f => Sys2Proof.Machine.execDot2h f s
  | .cvt f => Sys2Proof.Machine.execCvt f s
  | .pack f => Sys2Proof.Machine.execPack f s
  | .unpack f => Sys2Proof.Machine.execUnpack f s
  | .qscale f => Sys2Proof.Machine.execQscale f s
  | .dqscale f => Sys2Proof.Machine.execDqscale f s
  | .hadq f => Sys2Proof.Machine.execHadq f s
  | .shflBA f => Sys2Proof.Machine.execShflBA f s
  | .shflXA f => Sys2Proof.Machine.execShflXA f s
  | .bcastBA f => Sys2Proof.Machine.execBcastBA f s
  | .bcastXA f => Sys2Proof.Machine.execBcastXA f s
  | .qswapBA f => Sys2Proof.Machine.execQswapBA f s
  | .qswapXA f => Sys2Proof.Machine.execQswapXA f s
  | .qbcastBA f => Sys2Proof.Machine.execQbcastBA f s
  | .qbcastXA f => Sys2Proof.Machine.execQbcastXA f s
  | .voteBA f => Sys2Proof.Machine.execVoteBA f s
  | .voteXA f => Sys2Proof.Machine.execVoteXA f s
  | .reduce f => Sys2Proof.Machine.execReduce f s
  | .scan f => Sys2Proof.Machine.execScan f s
  | .hist f => Sys2Proof.Machine.execHist f s
  | .hmerge f => Sys2Proof.Machine.execHmerge f s
  | .cxstage f => Sys2Proof.Machine.execCxstage f s
  | .brdq f => Sys2Proof.Machine.execBrdq f s
  | .calll f => Sys2Proof.Machine.execCalll f s
  | .bdiv f => Sys2Proof.Machine.execBdiv f s
  | .reconv f => Sys2Proof.Machine.execReconv f s
  | .retl f => Sys2Proof.Machine.execRetl f s
  | .exit f => Sys2Proof.Machine.execExit f s
  | .ldBM minor f => Sys2Proof.Machine.execLdBM minor f s
  | .ldXM minor f => Sys2Proof.Machine.execLdXM minor f s
  | .stBM minor f => Sys2Proof.Machine.execStBM minor f s
  | .stXM minor f => Sys2Proof.Machine.execStXM minor f s
  | .ldsp f => Sys2Proof.Machine.execLdsp f s
  | .stsp f => Sys2Proof.Machine.execStsp f s
  | .stt f => Sys2Proof.Machine.execStt f s
  | .pref f => Sys2Proof.Machine.execPref f s
  | .atom f => Sys2Proof.Machine.execAtom f s
  | .cadd f => Sys2Proof.Machine.execCadd f s
  | .append f => Sys2Proof.Machine.execAppend f s
  | .mma f => Sys2Proof.Machine.execMma f s
  | .mzero f => Sys2Proof.Machine.execMzero f s
  | .mrd f => Sys2Proof.Machine.execMrd f s
  | .mwr f => Sys2Proof.Machine.execMwr f s
  | .mldt f => Sys2Proof.Machine.execMldt f s
  | .mstore f => Sys2Proof.Machine.execMstore f s
  | .mfence f => Sys2Proof.Machine.execMfence f s
  | .mwait f => Sys2Proof.Machine.execMwait f s
  | .msig f => Sys2Proof.Machine.execMsig f s
  | .mpair f => Sys2Proof.Machine.execMpair f s
  | .saddBS f => Sys2Proof.Machine.execSaddBS f s
  | .saddXA f => Sys2Proof.Machine.execSaddXA f s
  | .ssubBS f => Sys2Proof.Machine.execSsubBS f s
  | .ssubXA f => Sys2Proof.Machine.execSsubXA f s
  | .smulBS f => Sys2Proof.Machine.execSmulBS f s
  | .smulXA f => Sys2Proof.Machine.execSmulXA f s
  | .smulhiBS f => Sys2Proof.Machine.execSmulhiBS f s
  | .smulhiXA f => Sys2Proof.Machine.execSmulhiXA f s
  | .sandBS f => Sys2Proof.Machine.execSandBS f s
  | .sandXA f => Sys2Proof.Machine.execSandXA f s
  | .sorBS f => Sys2Proof.Machine.execSorBS f s
  | .sorXA f => Sys2Proof.Machine.execSorXA f s
  | .sxorBS f => Sys2Proof.Machine.execSxorBS f s
  | .sxorXA f => Sys2Proof.Machine.execSxorXA f s
  | .smovBS f => Sys2Proof.Machine.execSmovBS f s
  | .smovXA f => Sys2Proof.Machine.execSmovXA f s
  | .sshlBS f => Sys2Proof.Machine.execSshlBS f s
  | .sshlXA f => Sys2Proof.Machine.execSshlXA f s
  | .sshrBS f => Sys2Proof.Machine.execSshrBS f s
  | .sshrXA f => Sys2Proof.Machine.execSshrXA f s
  | .ssarBS f => Sys2Proof.Machine.execSsarBS f s
  | .ssarXA f => Sys2Proof.Machine.execSsarXA f s
  | .sminBS f => Sys2Proof.Machine.execSminBS f s
  | .sminXA f => Sys2Proof.Machine.execSminXA f s
  | .smaxBS f => Sys2Proof.Machine.execSmaxBS f s
  | .smaxXA f => Sys2Proof.Machine.execSmaxXA f s
  | .scmp f => Sys2Proof.Machine.execScmp f s
  | .ssel f => Sys2Proof.Machine.execSsel f s
  | .sbfx f => Sys2Proof.Machine.execSbfx f s
  | .sbr f => Sys2Proof.Machine.execSbr f s
  | .sbrc f => Sys2Proof.Machine.execSbrc f s
  | .scall f => Sys2Proof.Machine.execScall f s
  | .sloop f => Sys2Proof.Machine.execSloop f s
  | .jmpl f => Sys2Proof.Machine.execJmpl f s
  | .sret f => Sys2Proof.Machine.execSret f s
  | .sdone f => Sys2Proof.Machine.execSdone f s
  | .dqpush f => Sys2Proof.Machine.execDqpush f s
  | .vgive f => Sys2Proof.Machine.execVgive f s
  | .vclaim f => Sys2Proof.Machine.execVclaim f s
  | .abort f => Sys2Proof.Machine.execAbort f s
  | .pollabt f => Sys2Proof.Machine.execPollabt f s
  | .ldsBM f => Sys2Proof.Machine.execLdsBM f s
  | .ldsXM f => Sys2Proof.Machine.execLdsXM f s
  | .stsBM f => Sys2Proof.Machine.execStsBM f s
  | .stsXM f => Sys2Proof.Machine.execStsXM f s
  | .ldlq f => Sys2Proof.Machine.execLdlq f s
  | .crangeOpen f => Sys2Proof.Machine.execCrangeOpen f s
  | .crangeClose f => Sys2Proof.Machine.execCrangeClose f s
  | .phrelBS f => Sys2Proof.Machine.execPhrelBS f s
  | .phrelXM f => Sys2Proof.Machine.execPhrelXM f s
  | .phacqBS f => Sys2Proof.Machine.execPhacqBS f s
  | .phacqXM f => Sys2Proof.Machine.execPhacqXM f s
  | .phaseBS f => Sys2Proof.Machine.execPhaseBS f s
  | .phaseXM f => Sys2Proof.Machine.execPhaseXM f s
  | .consume f => Sys2Proof.Machine.execConsume f s
  | .rnext f => Sys2Proof.Machine.execRnext f s
  | .launch f => Sys2Proof.Machine.execLaunch f s
  | .cpy f => Sys2Proof.Machine.execCpy f s
  | .coll f => Sys2Proof.Machine.execColl f s
  | .wait f => Sys2Proof.Machine.execWait f s
  | .seminc f => Sys2Proof.Machine.execSeminc f s
  | .semset f => Sys2Proof.Machine.execSemset f s
  | .semwait f => Sys2Proof.Machine.execSemwait f s
  | .barinit f => Sys2Proof.Machine.execBarinit f s
  | .bararr f => Sys2Proof.Machine.execBararr f s
  | .barexp f => Sys2Proof.Machine.execBarexp f s
  | .barwait f => Sys2Proof.Machine.execBarwait f s
  | .joinset f => Sys2Proof.Machine.execJoinset f s
  | .joinadd f => Sys2Proof.Machine.execJoinadd f s
  | .joindec f => Sys2Proof.Machine.execJoindec f s
  | .trap f => Sys2Proof.Machine.execTrap f s
  | .eret f => Sys2Proof.Machine.execEret f s
  | .rdsr f => Sys2Proof.Machine.execRdsr f s
  | .wrsr f => Sys2Proof.Machine.execWrsr f s
  | .rdlead f => Sys2Proof.Machine.execRdlead f s
  | .wrlead f => Sys2Proof.Machine.execWrlead f s
  | .yield f => Sys2Proof.Machine.execYield f s
  | .sleep f => Sys2Proof.Machine.execSleep f s
  | .rndmodeWrite v => Sys2Proof.Machine.execRndmodeWrite v s
  | .throttleWrite g v => Sys2Proof.Machine.execThrottleWrite g v s
  | .talertWrite v => Sys2Proof.Machine.execTalertWrite v s
  | .cbiasWrite g v => Sys2Proof.Machine.execCbiasWrite g v s
  | .cbmaxWrite v => Sys2Proof.Machine.execCbmaxWrite v s
  | .specialRegisterWrite n v => Sys2Proof.Machine.execSpecialRegisterWrite n v s
  | .starvationPromoteC c slot => Sys2Proof.Machine.execStarvationPromoteC c slot s
  | .starvationPromoteP c slot => Sys2Proof.Machine.execStarvationPromoteP c slot s
  | .couplingDeadlock c slot => Sys2Proof.Machine.execCouplingDeadlock c slot s
  | .blockReserve n => Sys2Proof.Machine.execBlockReserve n s
  | .reservationWaitExpiry n => Sys2Proof.Machine.execReservationWaitExpiry n s
  | .blockStart n => Sys2Proof.Machine.execBlockStart n s
  | .waveRetire c slot => Sys2Proof.Machine.execWaveRetire c slot s
  | .workRequest c => Sys2Proof.Machine.execWorkRequest c s
  | .rangeRecordBind die node => Sys2Proof.Machine.execRangeRecordBind die node s
  | .recordEnqueue n => Sys2Proof.Machine.execRecordEnqueue n s
  | .queueSpillReturn die node => Sys2Proof.Machine.execQueueSpillReturn die node s
  | .batchClose die node => Sys2Proof.Machine.execBatchClose die node s
  | .batchMaxwaitExpiry die node => Sys2Proof.Machine.execBatchMaxwaitExpiry die node s
  | .batchAdmit n => Sys2Proof.Machine.execBatchAdmit n s
  | .stealCheck die node => Sys2Proof.Machine.execStealCheck die node s
  | .stealArrival n => Sys2Proof.Machine.execStealArrival n s
  | .consumeRetry c slot => Sys2Proof.Machine.execConsumeRetry c slot s
  | .joinRecordArrival n => Sys2Proof.Machine.execJoinRecordArrival n s
  | .signalApply n => Sys2Proof.Machine.execSignalApply n s
  | .massReleaseAdmit => Sys2Proof.Machine.execMassReleaseAdmit s
  | .homeLoad n => Sys2Proof.Machine.execHomeLoad n s
  | .homeMissFill line ecc => Sys2Proof.Machine.execHomeMissFill line ecc s
  | .burstParityError line e => Sys2Proof.Machine.execBurstParityError line e s
  | .fillReceive n => Sys2Proof.Machine.execFillReceive n s
  | .homeStore n => Sys2Proof.Machine.execHomeStore n s
  | .homeAtom n => Sys2Proof.Machine.execHomeAtom n s
  | .updateReceive n => Sys2Proof.Machine.execUpdateReceive n s
  | .storeAck n => Sys2Proof.Machine.execStoreAck n s
  | .loadReturn n => Sys2Proof.Machine.execLoadReturn n s
  | .lqFill c slot => Sys2Proof.Machine.execLqFill c slot s
  | .pushReceive n => Sys2Proof.Machine.execPushReceive n s
  | .pushReply n => Sys2Proof.Machine.execPushReply n s
  | .deregistration n => Sys2Proof.Machine.execDeregistration n s
  | .rangeOpenNotice n => Sys2Proof.Machine.execRangeOpenNotice n s
  | .rangeNoticeReply n => Sys2Proof.Machine.execRangeNoticeReply n s
  | .holderRegister n => Sys2Proof.Machine.execHolderRegister n s
  | .foldProbe n => Sys2Proof.Machine.execFoldProbe n s
  | .foldComplete line => Sys2Proof.Machine.execFoldComplete line s
  | .evictedPartial n => Sys2Proof.Machine.execEvictedPartial n s
  | .remoteWriteCount die page => Sys2Proof.Machine.execRemoteWriteCount die page s
  | .migrationForward n => Sys2Proof.Machine.execMigrationForward n s
  | .migrationInstall n => Sys2Proof.Machine.execMigrationInstall n s
  | .migrationPointerRetire n => Sys2Proof.Machine.execMigrationPointerRetire n s
  | .deadAgentTimeout a => Sys2Proof.Machine.execDeadAgentTimeout a s
  | .hostSnoopInvalidate line bytes => Sys2Proof.Machine.execHostSnoopInvalidate line bytes s
  | .pageWalk die va => Sys2Proof.Machine.execPageWalk die va s
  | .faultRecordWrite => Sys2Proof.Machine.execFaultRecordWrite s
  | .matrixEntryTake c => Sys2Proof.Machine.execMatrixEntryTake c s
  | .msigArrival c n => Sys2Proof.Machine.execMsigArrival c n s
  | .matrixEntryCommit c n => Sys2Proof.Machine.execMatrixEntryCommit c n s
  | .jobStart die n => Sys2Proof.Machine.execJobStart die n s
  | .jobComplete die n => Sys2Proof.Machine.execJobComplete die n s
  | .jobPageTimeout n => Sys2Proof.Machine.execJobPageTimeout n s
  | .rasteriseTriangle die node => Sys2Proof.Machine.execRasteriseTriangle die node s
  | .rayTraverse die node => Sys2Proof.Machine.execRayTraverse die node s
  | .matrixJobRun die node => Sys2Proof.Machine.execMatrixJobRun die node s
  | .copyJobRun die node => Sys2Proof.Machine.execCopyJobRun die node s
  | .scanoutVblank head => Sys2Proof.Machine.execScanoutVblank head s
  | .trapEntry c slot => Sys2Proof.Machine.execTrapEntry c slot s
  | .faultWithoutHandler c slot => Sys2Proof.Machine.execFaultWithoutHandler c slot s
  | .waitLimit c slot => Sys2Proof.Machine.execWaitLimit c slot s
  | .sleepExpiry c slot st => Sys2Proof.Machine.execSleepExpiry c slot st s
  | .yieldExpiry c slot st => Sys2Proof.Machine.execYieldExpiry c slot st s
  | .blockSave n => Sys2Proof.Machine.execBlockSave n s
  | .blockRestore n => Sys2Proof.Machine.execBlockRestore n s
  | .codePageCheck o p => Sys2Proof.Machine.execCodePageCheck o p s
  | .droopTrip g => Sys2Proof.Machine.execDroopTrip g s
  | .cbStepUpdate g => Sys2Proof.Machine.execCbStepUpdate g s
  | .biasSettle g => Sys2Proof.Machine.execBiasSettle g s
  | .thermalSample g t => Sys2Proof.Machine.execThermalSample g t s
  | .mgmtInterrupt => Sys2Proof.Machine.execMgmtInterrupt s
  | .cmdtailWrite v => Sys2Proof.Machine.execCmdtailWrite v s
  | .fltheadWrite v => Sys2Proof.Machine.execFltheadWrite v s
  | .bar2baseWrite v => Sys2Proof.Machine.execBar2baseWrite v s
  | .bar0WriteOther off v => Sys2Proof.Machine.execBar0WriteOther off v s
  | .bar2Write off bytes => Sys2Proof.Machine.execBar2Write off bytes s
  | .bar2Read off n => Sys2Proof.Machine.execBar2Read off n s
  | .sensorWindowWrite k w off bytes => Sys2Proof.Machine.execSensorWindowWrite k w off bytes s
  | .sensorDone k w bytes => Sys2Proof.Machine.execSensorDone k w bytes s
  | .sensorBarrierArrival k => Sys2Proof.Machine.execSensorBarrierArrival k s
  | .queryStartup => Sys2Proof.Machine.execQueryStartup s
  | .queryCoreCounters => Sys2Proof.Machine.execQueryCoreCounters s
  | .queryFootprint => Sys2Proof.Machine.execQueryFootprint s
  | .queryDeadAgents => Sys2Proof.Machine.execQueryDeadAgents s
  | .queryLogCounts => Sys2Proof.Machine.execQueryLogCounts s
  | .queryMeasurement => Sys2Proof.Machine.execQueryMeasurement s
  | .queryUseCounters => Sys2Proof.Machine.execQueryUseCounters s
  | .queryJoinSlot => Sys2Proof.Machine.execQueryJoinSlot s
  | .firmwareUpdate => Sys2Proof.Machine.execFirmwareUpdate s
  | .attest => Sys2Proof.Machine.execAttest s
  | .setScanout => Sys2Proof.Machine.execSetScanout s
  | .resetDevice => Sys2Proof.Machine.execResetDevice s
  | .loadCode => Sys2Proof.Machine.execLoadCode s
  | .unloadCode => Sys2Proof.Machine.execUnloadCode s
  | .loadGraph => Sys2Proof.Machine.execLoadGraph s
  | .startGraph => Sys2Proof.Machine.execStartGraph s
  | .stopGraph => Sys2Proof.Machine.execStopGraph s
  | .vacateCores => Sys2Proof.Machine.execVacateCores s
  | .switchContext => Sys2Proof.Machine.execSwitchContext s
  | .mapPages => Sys2Proof.Machine.execMapPages s
  | .unmapPages => Sys2Proof.Machine.execUnmapPages s
  | .faultReply => Sys2Proof.Machine.execFaultReply s
  | .sensorConfig => Sys2Proof.Machine.execSensorConfig s
  | .displayMode => Sys2Proof.Machine.execDisplayMode s
  | .displayOff => Sys2Proof.Machine.execDisplayOff s
  | .setPowerBias => Sys2Proof.Machine.execSetPowerBias s
  | .setPowerCbmax => Sys2Proof.Machine.execSetPowerCbmax s
  | .setPowerTlimit => Sys2Proof.Machine.execSetPowerTlimit s
  | .setPowerSaddle => Sys2Proof.Machine.execSetPowerSaddle s
  | .blockControlImage => Sys2Proof.Machine.execBlockControlImage s
  | .blockControlResume => Sys2Proof.Machine.execBlockControlResume s
  | .blockControlDiscard => Sys2Proof.Machine.execBlockControlDiscard s
  | .unloadGraph => Sys2Proof.Machine.execUnloadGraph s
  | .powerGood => Sys2Proof.Machine.execPowerGood s
  | .bootstageAdvance trained failed => Sys2Proof.Machine.execBootstageAdvance trained failed s
  | .saddleLaneFault n => Sys2Proof.Machine.execSaddleLaneFault n s
  | .chargeBucketRefill g => Sys2Proof.Machine.execChargeBucketRefill g s
  | .barrierCompletesAgain b j n => Sys2Proof.Machine.execBarrierCompletesAgain b j n s

end Sys2Proof.Machine
end

