-- ==== Sys2Proof/Machine/Step.lean ====
section
/-! DEFINITION. One step of the machine: the next turn of the agenda (entry 1). An issue turn fetches, decodes and executes
the next instruction of its stream; an event turn runs a step of another agent. -/
namespace Sys2Proof.Machine

/-- The focus stream issues its next instruction. -/
def State.runFocus (s : State) : Host.Outcome State Fault Refusal :=
  if !s.mayIssue then .next { s with stalled := true }
  else
    match s.fetch with
    | .error x => .next (s.stopFetch x)
    | .ok ws =>
      match decodeWords ws with
      | .error _ => .next (s.fetched.undecoded (ws.headD 0#32))
      | .ok (i, _) => exec i s.fetched

/-- The state as a stream meets it that is only judged: the cycle is counted out for no wave, since a stream is ready or not
whether or not it is (02 R22, R53). -/
def State.uncounted (s : State) : State :=
  { s.modCluster (clusterOf s.w.core) (fun c => { c with idle := false }) with
    waves := s.waves.map (fun w => { w with pcls := w.pcls % 4 }) }

/-- How a stream of a wave stands in the cycle that begins (02 R22, R53; 18 R411, R413), and what a fetch that its code page
holds asks of the management core. A cycle counted out holds a ready stream back and does not make it unready. -/
def State.judge (s : State) (c slot : Nat) (st : Stream) : State :=
  match s.focus c slot st with
  | none => s
  | some s' =>
    let set (s : State) (x : Attempt) : State := s.modWave c slot (fun w => w.attempt st x)
    let out := s.countedOut s'.w
    if s'.w.status ≠ .running then set s .parked
    else
      match (if out then s'.uncounted else s').runFocus with
      | .next t =>
        let ready := !t.stalled || t.w.stands st == .unpaid
        let how : Attempt :=
          if out then (if ready then .out else .shut)
          else if t.stalled then (if ready then .unpaid else .unready) else .ready
        { set s how with mgmtPending := if t.stalled then t.mgmtPending else s.mgmtPending }
      | _ => set s .unready

/-- Both streams of the waves in some slots of a core judged. -/
def State.judgeAll (s : State) (c : Nat) (slots : List Nat) : State :=
  match slots with
  | [] => s
  | x :: rest => ((s.judge c x .lead).judge c x .lane).judgeAll c rest

/-- An issue slot tries candidates in order, until one issues or takes a trap; what an earlier slot of the cycle has changed
may hold one that was ready. -/
def State.fillSlot (s : State) (c : Nat) (st : Stream) (slots : List Nat) : Host.Outcome State Fault Refusal :=
  match slots with
  | [] => .next s
  | x :: rest =>
    match s.focus c x st with
    | none => s.fillSlot c st rest
    | some s' =>
      match s'.runFocus with
      | .next t =>
        if t.stalled then { t with stalled := false }.fillSlot c st rest
        else .next (t.modWave c x (fun w => w.attempt st .issued))
      | o => o

/-- One turn. Only the steps of the other agents run without a fetch. -/
def State.turn (s : State) (t : Turn) : Host.Outcome State Fault Refusal :=
  match t with
  | .issue core slot st =>
    match s.focus core slot st with
    | some s' => s'.runFocus
    | none => .next s
  | .ready c => .next (s.judgeAll c ((s.allWaves.filter (fun w => w.core == c)).map (fun w => w.slot)))
  | .slot c st => s.fillSlot c st (s.candidates c st)
  | .hold c slot =>
    match s.focus c slot .lead with
    | some s' => .next s'.holdStep
    | none => .next s
  | .msg id =>
    match s.net.zipIdx.find? (fun p => p.1.id == id) with
    | some p => s.agentStep (s.agentOf p.1) p.2 0 0
    | none => .next s
  | .event i => if i.isEncoded then .next s else exec i s
  | .agent x a b c => s.agentStep x a b c
  | .time ns => .next (s.passTime ns)

/-- One step: the first turn of the agenda; with an empty agenda, of a new round (Machine/Agenda.lean). -/
def step (s : State) : Host.Outcome State Fault Refusal :=
  match s.agenda with
  | t :: rest => { s with agenda := rest, stalled := false }.turn t
  | [] =>
    match s.round with
    | t :: rest => { s with agenda := rest, stalled := false }.turn t
    | [] => .next s

/-- `s` with the instruction whose bits are `w` stored where the next step fetches: on the stream its major belongs to, in
a running wave, with the next turn an issue of that stream. It stands for the load of a program (entry 15). -/
def State.withFetchWord (s : State) (nbits w : Nat) : State :=
  let x := w % 2 ^ nbits
  let st := streamOfWord (BitVec.ofNat 32 x)
  let s := (s.placeWave st).placeCode (leBytes x 20)
  { s with agenda := [.issue s.w.core s.w.slot st] }

end Sys2Proof.Machine
end

