-- ==== Sys2Proof/WellFormed.lean ====
section
/-! DEFINITION. Well-formed instructions: those that the encoder writes and the decoder reads back. The fields of a format
hold every value their bits admit, so only what their types do not say is checked here; which values a page allows is
Machine/Legal.lean's. -/
namespace Sys2Proof

/-- CRANGE open and close share a major and a minor and differ in bit 4 of `xop` (11 R253): the constructor is the one its
`xop` names. -/
def Instr.formOk (i : Instr) : Bool :=
  match i with
  | .crangeOpen f => !f.xop.getLsbD 4
  | .crangeClose f => f.xop.getLsbD 4
  | _ => true

/-- A well-formed instruction: an encoded row of the table, in the form that its bits name. The steps of the device's agents
have no words (95_what_each_step_holds.md). -/
def Instr.wellFormed (i : Instr) : Bool := i.isEncoded && i.formOk

end Sys2Proof
end

