-- ==== Sys2Proof/Laws/Decode.lean ====
section
/-! SUPPORT. The formats of 03 R65 to R75: reading the fields of the words that a format's fields make gives the fields
back, the words made of the fields of words are those words, and the length code of a first word says how many words the
encoder writes. -/
namespace Sys2Proof

/-! ## Fields of concatenated bits -/

theorem ext_lo {p m lo n : Nat} {x : BitVec p} {y : BitVec m} {z : BitVec n} (h : lo + n ≤ m)
    (hz : y.extractLsb' lo n = z) : (x ++ y).extractLsb' lo n = z := by
  rw [← hz]; apply BitVec.eq_of_getLsbD_eq; intro i hi
  have : lo + i < m := by omega
  simp [BitVec.getLsbD_append, hi, this]

theorem ext_hi {p m lo n : Nat} {x : BitVec p} {y : BitVec m} {z : BitVec n} (h : m ≤ lo)
    (hz : x.extractLsb' (lo - m) n = z) : (x ++ y).extractLsb' lo n = z := by
  rw [← hz]; apply BitVec.eq_of_getLsbD_eq; intro i hi
  have h1 : ¬ lo + i < m := by omega
  have h2 : lo + i - m = lo - m + i := by omega
  simp [BitVec.getLsbD_append, hi, h1, h2]

theorem ext_all {n : Nat} (x : BitVec n) : x.extractLsb' 0 n = x := by simp

theorem cat_ext {k p m lo : Nat} {w : BitVec k} {x : BitVec p} (hx : x = w.extractLsb' (lo + m) p) :
    x ++ w.extractLsb' lo m = w.extractLsb' lo (p + m) := by
  subst hx; apply BitVec.eq_of_getLsbD_eq; intro i hi
  simp only [BitVec.getLsbD_append, BitVec.getLsbD_extractLsb', hi, decide_true, Bool.true_and]
  by_cases h : i < m
  · simp only [h, if_true, decide_true, Bool.true_and]
  · have h1 : i - m < p := by omega
    have h2 : lo + m + (i - m) = lo + i := by omega
    simp only [h, if_false, h1, h2, decide_true, Bool.true_and]

/-! ## The words of fields, read back -/

theorem headOf_headWord (h : Head) : headOf (headWord h) = h := by
  obtain ⟨a, b, c, d⟩ := h
  simp only [headOf, headWord, Head.mk.injEq]
  refine ⟨?_, ?_, ?_, ?_⟩ <;>
    (repeat first | exact ext_all _ | refine ext_lo (by decide) ?_ | refine ext_hi (by decide) ?_)

theorem literalOf_lits (l : Dword) : literalOf (litLo l) (litHi l) = l :=
  (cat_ext (w := l) (lo := 0) (m := 32) (p := 32) rfl).trans (ext_all l)

theorem litLo_literalOf (a b : Word) : litLo (literalOf a b) = a := ext_lo (by decide) (ext_all a)

theorem litHi_literalOf (a b : Word) : litHi (literalOf a b) = b := ext_hi (by decide) (ext_all b)

theorem BaF.ofHi_hi (f : BaF) : BaF.ofHi f.hi f.lit = f := by
  obtain ⟨l, a, b, c⟩ := f
  simp only [BaF.ofHi, BaF.hi, BaF.mk.injEq, true_and]
  refine ⟨?_, ?_, ?_⟩ <;>
    (repeat first | exact ext_all _ | refine ext_lo (by decide) ?_ | refine ext_hi (by decide) ?_)

theorem BmF.ofHi_hi (f : BmF) : BmF.ofHi f.hi = f := by
  obtain ⟨a, b, c⟩ := f
  simp only [BmF.ofHi, BmF.hi, BmF.mk.injEq]
  refine ⟨?_, ?_, ?_⟩ <;>
    (repeat first | exact ext_all _ | refine ext_lo (by decide) ?_ | refine ext_hi (by decide) ?_)

theorem BlF.ofWords_words (f : BlF) : BlF.ofWords f.off21 f.w1 f.w2 = f := by
  obtain ⟨a, b, c, d, e, g⟩ := f
  simp only [BlF.ofWords, BlF.w1, BlF.w2, BlF.mk.injEq, true_and]
  refine ⟨?_, ?_, ?_, ?_, ?_⟩ <;>
    (repeat first | exact ext_all _ | refine ext_lo (by decide) ?_ | refine ext_hi (by decide) ?_)

theorem XaF.ofWords_words (f : XaF) :
    XaF.ofWords f.imm21 (extWord1 f.d9 f.a9 f.b9 f.xop) f.w2 f.lit = f := by
  obtain ⟨l, a, b, c, d, e, g, h, i, j, k, m, n⟩ := f
  simp only [XaF.ofWords, extWord1, XaF.w2, XaF.mk.injEq, true_and]
  refine ⟨?_, ?_, ?_, ?_, ?_, ?_, ?_, ?_, ?_, ?_, ?_⟩ <;>
    (repeat first | exact ext_all _ | refine ext_lo (by decide) ?_ | refine ext_hi (by decide) ?_)

theorem XmF.ofWords_words (f : XmF) :
    XmF.ofWords f.off21 (extWord1 f.d9 f.a9 f.b9 f.xop) f.w2 f.lit = f := by
  obtain ⟨l, a, b, c, d, e, g, h, i, j, k, m⟩ := f
  simp only [XmF.ofWords, extWord1, XmF.w2, XmF.mk.injEq, true_and]
  refine ⟨?_, ?_, ?_, ?_, ?_, ?_, ?_, ?_, ?_, ?_⟩ <;>
    (repeat first | exact ext_all _ | refine ext_lo (by decide) ?_ | refine ext_hi (by decide) ?_)

theorem XqF.ofWords_words (f : XqF) :
    XqF.ofWords f.imm21 (extWord1 f.d9 f.a9 f.b9 f.xop) f.w2 f.lit = f := by
  obtain ⟨l, a, b, c, d, e, g, h, i, j, k, m, n⟩ := f
  simp only [XqF.ofWords, extWord1, XqF.w2, XqF.mk.injEq, true_and]
  refine ⟨?_, ?_, ?_, ?_, ?_, ?_, ?_, ?_, ?_, ?_, ?_⟩ <;>
    (repeat first | exact ext_all _ | refine ext_lo (by decide) ?_ | refine ext_hi (by decide) ?_)

theorem XtF.ofWords_words (f : XtF) :
    XtF.ofWords f.hi (extWord1 f.d9 f.a9 f.b9 f.xop) f.w2 f.lit = f := by
  obtain ⟨l, a, b, c, d, e, g, h, i, j, k, m, n, o, p⟩ := f
  simp only [XtF.ofWords, extWord1, XtF.w2, XtF.hi, XtF.mk.injEq, true_and]
  refine ⟨?_, ?_, ?_, ?_, ?_, ?_, ?_, ?_, ?_, ?_, ?_, ?_, ?_, ?_⟩ <;>
    (repeat first | exact ext_all _ | refine ext_lo (by decide) ?_ | refine ext_hi (by decide) ?_)

theorem XsF.ofWords_words (f : XsF) :
    XsF.ofWords f.hi (extWord1 f.d9 f.a9 f.b9 f.xop) f.w2 f.lit = f := by
  obtain ⟨l, a, b, c, d, e, g, h, i, j, k, m, n⟩ := f
  simp only [XsF.ofWords, extWord1, XsF.w2, XsF.hi, XsF.mk.injEq, true_and]
  refine ⟨?_, ?_, ?_, ?_, ?_, ?_, ?_, ?_, ?_, ?_, ?_, ?_⟩ <;>
    (repeat first | exact ext_all _ | refine ext_lo (by decide) ?_ | refine ext_hi (by decide) ?_)

/-! ## The fields of words, written back -/

theorem headWord_headOf (w : Word) : headWord (headOf w) = w :=
  ((cat_ext (lo := 0) (m := 2) (cat_ext (lo := 2) (m := 6) (cat_ext (lo := 8) (m := 3) rfl)))).trans (ext_all w)

theorem BaF.hi_ofHi (hi : BitVec 21) (lit : Option Dword) : (BaF.ofHi hi lit).hi = hi :=
  (cat_ext (lo := 0) (m := 7) (cat_ext (lo := 7) (m := 7) rfl)).trans (ext_all hi)

theorem BmF.hi_ofHi (hi : BitVec 21) : (BmF.ofHi hi).hi = hi :=
  (cat_ext (lo := 0) (m := 7) (cat_ext (lo := 7) (m := 7) rfl)).trans (ext_all hi)

theorem BlF.w1_ofWords (hi : BitVec 21) (w1 w2 : Word) : (BlF.ofWords hi w1 w2).w1 = w1 :=
  (cat_ext (lo := 0) (m := 9) (cat_ext (lo := 9) (m := 18) rfl)).trans (ext_all w1)

theorem BlF.w2_ofWords (hi : BitVec 21) (w1 w2 : Word) : (BlF.ofWords hi w1 w2).w2 = w2 :=
  (cat_ext (lo := 0) (m := 21) rfl).trans (ext_all w2)

/-- Word 1 of every extended format. -/
theorem extWord1_fields (w : Word) :
    extWord1 (w.extractLsb' 0 9) (w.extractLsb' 9 9) (w.extractLsb' 18 9) (w.extractLsb' 27 5) = w :=
  (cat_ext (lo := 0) (m := 9) (cat_ext (lo := 9) (m := 9) (cat_ext (lo := 18) (m := 9) rfl))).trans (ext_all w)

theorem XaF.w2_ofWords (hi : BitVec 21) (w1 w2 : Word) (l : Option Dword) : (XaF.ofWords hi w1 w2 l).w2 = w2 :=
  (cat_ext (lo := 0) (m := 9) (cat_ext (lo := 9) (m := 3) (cat_ext (lo := 12) (m := 1) (cat_ext (lo := 13) (m := 3)
    (cat_ext (lo := 16) (m := 4) (cat_ext (lo := 20) (m := 4) rfl)))))).trans (ext_all w2)

theorem XmF.w2_ofWords (hi : BitVec 21) (w1 w2 : Word) (l : Option Dword) : (XmF.ofWords hi w1 w2 l).w2 = w2 :=
  (cat_ext (lo := 0) (m := 9) (cat_ext (lo := 9) (m := 4) (cat_ext (lo := 13) (m := 3) (cat_ext (lo := 16) (m := 4)
    (cat_ext (lo := 20) (m := 4) rfl))))).trans (ext_all w2)

theorem XqF.w2_ofWords (hi : BitVec 21) (w1 w2 : Word) (l : Option Dword) : (XqF.ofWords hi w1 w2 l).w2 = w2 :=
  (cat_ext (lo := 0) (m := 9) (cat_ext (lo := 9) (m := 3) (cat_ext (lo := 12) (m := 1) (cat_ext (lo := 13) (m := 3)
    (cat_ext (lo := 16) (m := 4) (cat_ext (lo := 20) (m := 4) rfl)))))).trans (ext_all w2)

theorem XtF.w2_ofWords (hi : BitVec 21) (w1 w2 : Word) (l : Option Dword) : (XtF.ofWords hi w1 w2 l).w2 = w2 :=
  (cat_ext (lo := 0) (m := 9) (cat_ext (lo := 9) (m := 3) (cat_ext (lo := 12) (m := 1) (cat_ext (lo := 13) (m := 3)
    (cat_ext (lo := 16) (m := 1) (cat_ext (lo := 17) (m := 7) rfl)))))).trans (ext_all w2)

theorem XtF.hi_ofWords (hi : BitVec 21) (w1 w2 : Word) (l : Option Dword) : (XtF.ofWords hi w1 w2 l).hi = hi :=
  (cat_ext (lo := 0) (m := 6) (cat_ext (lo := 6) (m := 6) rfl)).trans (ext_all hi)

theorem XsF.w2_ofWords (hi : BitVec 21) (w1 w2 : Word) (l : Option Dword) : (XsF.ofWords hi w1 w2 l).w2 = w2 :=
  (cat_ext (lo := 0) (m := 9) (cat_ext (lo := 9) (m := 4) (cat_ext (lo := 13) (m := 3) (cat_ext (lo := 16) (m := 4)
    (cat_ext (lo := 20) (m := 4) rfl))))).trans (ext_all w2)

theorem XsF.hi_ofWords (hi : BitVec 21) (w1 w2 : Word) (l : Option Dword) : (XsF.ofWords hi w1 w2 l).hi = hi :=
  (cat_ext (lo := 0) (m := 9) rfl).trans (ext_all hi)

/-! ## How many words -/

/-- The first word of these words says how many there are. -/
def CountOk (ws : List Word) : Prop := wordsOfLen (headOf (ws.headD 0#32)).len = ws.length

theorem countOk_encBase (major : BitVec 6) (minor : BitVec 3) (f : BaF) : CountOk (encBase major minor f) := by
  unfold encBase CountOk; split <;> simp [headOf_headWord, wordsOfLen]

theorem countOk_encExt (major : BitVec 6) (minor : BitVec 3) (hi : BitVec 21) (w1 w2 : Word) (lit : Option Dword) :
    CountOk (encExt major minor hi w1 w2 lit) := by
  unfold encExt CountOk; split <;> simp [headOf_headWord, wordsOfLen]

theorem countOk_encBM (major : BitVec 6) (minor : BitVec 3) (f : BmF) : CountOk (encBM major minor f) := by
  simp [encBM, CountOk, headOf_headWord, wordsOfLen]

theorem countOk_encBB (major : BitVec 6) (minor : BitVec 3) (f : BbF) : CountOk (encBB major minor f) := by
  simp [encBB, CountOk, headOf_headWord, wordsOfLen]

theorem countOk_encBL (major : BitVec 6) (minor : BitVec 3) (f : BlF) : CountOk (encBL major minor f) := by
  simp [encBL, CountOk, headOf_headWord, wordsOfLen]

end Sys2Proof
end

