-- ==== Sys2Proof/Laws/PerInstr.lean ====
section
/-! SUPPORT. Facts about every instruction as syntax, one lemma per constructor. WordCount: the length code of the first
word of an encoded instruction says how many words the encoder writes (03 R56). -/
namespace Sys2Proof.Laws.WordCount

/-- The first word of an encoded instruction says how many words it has. -/
def Statement (i : Instr) : Prop := i.isEncoded = true → wordsOfLen (headOf i.word0).len = i.words

theorem iaddBA (f : BaF) : Statement (.iaddBA f) := fun _ => countOk_encBase _ _ f
theorem iaddXA (f : XaF) : Statement (.iaddXA f) := fun _ => countOk_encExt _ _ _ _ _ _
theorem isubBA (f : BaF) : Statement (.isubBA f) := fun _ => countOk_encBase _ _ f
theorem isubXA (f : XaF) : Statement (.isubXA f) := fun _ => countOk_encExt _ _ _ _ _ _
theorem imulBA (f : BaF) : Statement (.imulBA f) := fun _ => countOk_encBase _ _ f
theorem imulXA (f : XaF) : Statement (.imulXA f) := fun _ => countOk_encExt _ _ _ _ _ _
theorem imulhiBA (f : BaF) : Statement (.imulhiBA f) := fun _ => countOk_encBase _ _ f
theorem imulhiXA (f : XaF) : Statement (.imulhiXA f) := fun _ => countOk_encExt _ _ _ _ _ _
theorem imad (f : XaF) : Statement (.imad f) := fun _ => countOk_encExt _ _ _ _ _ _
theorem iminBA (f : BaF) : Statement (.iminBA f) := fun _ => countOk_encBase _ _ f
theorem iminXA (f : XaF) : Statement (.iminXA f) := fun _ => countOk_encExt _ _ _ _ _ _
theorem imaxBA (f : BaF) : Statement (.imaxBA f) := fun _ => countOk_encBase _ _ f
theorem imaxXA (f : XaF) : Statement (.imaxXA f) := fun _ => countOk_encExt _ _ _ _ _ _
theorem andBA (f : BaF) : Statement (.andBA f) := fun _ => countOk_encBase _ _ f
theorem andXA (f : XaF) : Statement (.andXA f) := fun _ => countOk_encExt _ _ _ _ _ _
theorem orBA (f : BaF) : Statement (.orBA f) := fun _ => countOk_encBase _ _ f
theorem orXA (f : XaF) : Statement (.orXA f) := fun _ => countOk_encExt _ _ _ _ _ _
theorem xorBA (f : BaF) : Statement (.xorBA f) := fun _ => countOk_encBase _ _ f
theorem xorXA (f : XaF) : Statement (.xorXA f) := fun _ => countOk_encExt _ _ _ _ _ _
theorem andnBA (f : BaF) : Statement (.andnBA f) := fun _ => countOk_encBase _ _ f
theorem andnXA (f : XaF) : Statement (.andnXA f) := fun _ => countOk_encExt _ _ _ _ _ _
theorem shlBA (f : BaF) : Statement (.shlBA f) := fun _ => countOk_encBase _ _ f
theorem shlXA (f : XaF) : Statement (.shlXA f) := fun _ => countOk_encExt _ _ _ _ _ _
theorem shrBA (f : BaF) : Statement (.shrBA f) := fun _ => countOk_encBase _ _ f
theorem shrXA (f : XaF) : Statement (.shrXA f) := fun _ => countOk_encExt _ _ _ _ _ _
theorem sarBA (f : BaF) : Statement (.sarBA f) := fun _ => countOk_encBase _ _ f
theorem sarXA (f : XaF) : Statement (.sarXA f) := fun _ => countOk_encExt _ _ _ _ _ _
theorem rotBA (f : BaF) : Statement (.rotBA f) := fun _ => countOk_encBase _ _ f
theorem rotXA (f : XaF) : Statement (.rotXA f) := fun _ => countOk_encExt _ _ _ _ _ _
theorem bfx (f : XaF) : Statement (.bfx f) := fun _ => countOk_encExt _ _ _ _ _ _
theorem bfi (f : XaF) : Statement (.bfi f) := fun _ => countOk_encExt _ _ _ _ _ _
theorem popcBA (f : BaF) : Statement (.popcBA f) := fun _ => countOk_encBase _ _ f
theorem popcXA (f : XaF) : Statement (.popcXA f) := fun _ => countOk_encExt _ _ _ _ _ _
theorem clzBA (f : BaF) : Statement (.clzBA f) := fun _ => countOk_encBase _ _ f
theorem clzXA (f : XaF) : Statement (.clzXA f) := fun _ => countOk_encExt _ _ _ _ _ _
theorem ctzBA (f : BaF) : Statement (.ctzBA f) := fun _ => countOk_encBase _ _ f
theorem ctzXA (f : XaF) : Statement (.ctzXA f) := fun _ => countOk_encExt _ _ _ _ _ _
theorem brevBA (f : BaF) : Statement (.brevBA f) := fun _ => countOk_encBase _ _ f
theorem brevXA (f : XaF) : Statement (.brevXA f) := fun _ => countOk_encExt _ _ _ _ _ _
theorem icmp (f : XaF) : Statement (.icmp f) := fun _ => countOk_encExt _ _ _ _ _ _
theorem sel (f : XaF) : Statement (.sel f) := fun _ => countOk_encExt _ _ _ _ _ _
theorem movBA (f : BaF) : Statement (.movBA f) := fun _ => countOk_encBase _ _ f
theorem movXA (f : XaF) : Statement (.movXA f) := fun _ => countOk_encExt _ _ _ _ _ _
theorem movrel (f : XaF) : Statement (.movrel f) := fun _ => countOk_encExt _ _ _ _ _ _
theorem movrelw (f : XaF) : Statement (.movrelw f) := fun _ => countOk_encExt _ _ _ _ _ _
theorem getexecBA (f : BaF) : Statement (.getexecBA f) := fun _ => countOk_encBase _ _ f
theorem getexecXA (f : XaF) : Statement (.getexecXA f) := fun _ => countOk_encExt _ _ _ _ _ _
theorem setexecBA (f : BaF) : Statement (.setexecBA f) := fun _ => countOk_encBase _ _ f
theorem setexecXA (f : XaF) : Statement (.setexecXA f) := fun _ => countOk_encExt _ _ _ _ _ _
theorem vrdl (f : XaF) : Statement (.vrdl f) := fun _ => countOk_encExt _ _ _ _ _ _
theorem vwrl (f : XaF) : Statement (.vwrl f) := fun _ => countOk_encExt _ _ _ _ _ _
theorem kand (f : BaF) : Statement (.kand f) := fun _ => countOk_encBase _ _ f
theorem kor (f : BaF) : Statement (.kor f) := fun _ => countOk_encBase _ _ f
theorem kxor (f : BaF) : Statement (.kxor f) := fun _ => countOk_encBase _ _ f
theorem knot (f : BaF) : Statement (.knot f) := fun _ => countOk_encBase _ _ f
theorem kmov (f : BaF) : Statement (.kmov f) := fun _ => countOk_encBase _ _ f
theorem faddBA (f : BaF) : Statement (.faddBA f) := fun _ => countOk_encBase _ _ f
theorem faddXA (f : XaF) : Statement (.faddXA f) := fun _ => countOk_encExt _ _ _ _ _ _
theorem fsubBA (f : BaF) : Statement (.fsubBA f) := fun _ => countOk_encBase _ _ f
theorem fsubXA (f : XaF) : Statement (.fsubXA f) := fun _ => countOk_encExt _ _ _ _ _ _
theorem fmulBA (f : BaF) : Statement (.fmulBA f) := fun _ => countOk_encBase _ _ f
theorem fmulXA (f : XaF) : Statement (.fmulXA f) := fun _ => countOk_encExt _ _ _ _ _ _
theorem ffma (f : XaF) : Statement (.ffma f) := fun _ => countOk_encExt _ _ _ _ _ _
theorem fminBA (f : BaF) : Statement (.fminBA f) := fun _ => countOk_encBase _ _ f
theorem fminXA (f : XaF) : Statement (.fminXA f) := fun _ => countOk_encExt _ _ _ _ _ _
theorem fmaxBA (f : BaF) : Statement (.fmaxBA f) := fun _ => countOk_encBase _ _ f
theorem fmaxXA (f : XaF) : Statement (.fmaxXA f) := fun _ => countOk_encExt _ _ _ _ _ _
theorem fcmp (f : XaF) : Statement (.fcmp f) := fun _ => countOk_encExt _ _ _ _ _ _
theorem fclass (f : XaF) : Statement (.fclass f) := fun _ => countOk_encExt _ _ _ _ _ _
theorem frcpBA (f : BaF) : Statement (.frcpBA f) := fun _ => countOk_encBase _ _ f
theorem frcpXA (f : XaF) : Statement (.frcpXA f) := fun _ => countOk_encExt _ _ _ _ _ _
theorem frsqBA (f : BaF) : Statement (.frsqBA f) := fun _ => countOk_encBase _ _ f
theorem frsqXA (f : XaF) : Statement (.frsqXA f) := fun _ => countOk_encExt _ _ _ _ _ _
theorem fsqrtBA (f : BaF) : Statement (.fsqrtBA f) := fun _ => countOk_encBase _ _ f
theorem fsqrtXA (f : XaF) : Statement (.fsqrtXA f) := fun _ => countOk_encExt _ _ _ _ _ _
theorem fexp2BA (f : BaF) : Statement (.fexp2BA f) := fun _ => countOk_encBase _ _ f
theorem fexp2XA (f : XaF) : Statement (.fexp2XA f) := fun _ => countOk_encExt _ _ _ _ _ _
theorem flog2BA (f : BaF) : Statement (.flog2BA f) := fun _ => countOk_encBase _ _ f
theorem flog2XA (f : XaF) : Statement (.flog2XA f) := fun _ => countOk_encExt _ _ _ _ _ _
theorem fsinpiBA (f : BaF) : Statement (.fsinpiBA f) := fun _ => countOk_encBase _ _ f
theorem fsinpiXA (f : XaF) : Statement (.fsinpiXA f) := fun _ => countOk_encExt _ _ _ _ _ _
theorem fcospiBA (f : BaF) : Statement (.fcospiBA f) := fun _ => countOk_encBase _ _ f
theorem fcospiXA (f : XaF) : Statement (.fcospiXA f) := fun _ => countOk_encExt _ _ _ _ _ _
theorem hfma2 (f : XaF) : Statement (.hfma2 f) := fun _ => countOk_encExt _ _ _ _ _ _
theorem hadd2BA (f : BaF) : Statement (.hadd2BA f) := fun _ => countOk_encBase _ _ f
theorem hadd2XA (f : XaF) : Statement (.hadd2XA f) := fun _ => countOk_encExt _ _ _ _ _ _
theorem hmul2BA (f : BaF) : Statement (.hmul2BA f) := fun _ => countOk_encBase _ _ f
theorem hmul2XA (f : XaF) : Statement (.hmul2XA f) := fun _ => countOk_encExt _ _ _ _ _ _
theorem dot4d8 (f : XaF) : Statement (.dot4d8 f) := fun _ => countOk_encExt _ _ _ _ _ _
theorem dot2h (f : XaF) : Statement (.dot2h f) := fun _ => countOk_encExt _ _ _ _ _ _
theorem cvt (f : XaF) : Statement (.cvt f) := fun _ => countOk_encExt _ _ _ _ _ _
theorem pack (f : XaF) : Statement (.pack f) := fun _ => countOk_encExt _ _ _ _ _ _
theorem unpack (f : XaF) : Statement (.unpack f) := fun _ => countOk_encExt _ _ _ _ _ _
theorem qscale (f : XaF) : Statement (.qscale f) := fun _ => countOk_encExt _ _ _ _ _ _
theorem dqscale (f : XaF) : Statement (.dqscale f) := fun _ => countOk_encExt _ _ _ _ _ _
theorem hadq (f : XaF) : Statement (.hadq f) := fun _ => countOk_encExt _ _ _ _ _ _
theorem shflBA (f : BaF) : Statement (.shflBA f) := fun _ => countOk_encBase _ _ f
theorem shflXA (f : XaF) : Statement (.shflXA f) := fun _ => countOk_encExt _ _ _ _ _ _
theorem bcastBA (f : BaF) : Statement (.bcastBA f) := fun _ => countOk_encBase _ _ f
theorem bcastXA (f : XaF) : Statement (.bcastXA f) := fun _ => countOk_encExt _ _ _ _ _ _
theorem qswapBA (f : BaF) : Statement (.qswapBA f) := fun _ => countOk_encBase _ _ f
theorem qswapXA (f : XaF) : Statement (.qswapXA f) := fun _ => countOk_encExt _ _ _ _ _ _
theorem qbcastBA (f : BaF) : Statement (.qbcastBA f) := fun _ => countOk_encBase _ _ f
theorem qbcastXA (f : XaF) : Statement (.qbcastXA f) := fun _ => countOk_encExt _ _ _ _ _ _
theorem voteBA (f : BaF) : Statement (.voteBA f) := fun _ => countOk_encBase _ _ f
theorem voteXA (f : XaF) : Statement (.voteXA f) := fun _ => countOk_encExt _ _ _ _ _ _
theorem reduce (f : XaF) : Statement (.reduce f) := fun _ => countOk_encExt _ _ _ _ _ _
theorem scan (f : XaF) : Statement (.scan f) := fun _ => countOk_encExt _ _ _ _ _ _
theorem hist (f : XaF) : Statement (.hist f) := fun _ => countOk_encExt _ _ _ _ _ _
theorem hmerge (f : XaF) : Statement (.hmerge f) := fun _ => countOk_encExt _ _ _ _ _ _
theorem cxstage (f : XaF) : Statement (.cxstage f) := fun _ => countOk_encExt _ _ _ _ _ _
theorem brdq (f : BbF) : Statement (.brdq f) := fun _ => countOk_encBB _ _ f
theorem calll (f : BbF) : Statement (.calll f) := fun _ => countOk_encBB _ _ f
theorem bdiv (f : BlF) : Statement (.bdiv f) := fun _ => countOk_encBL _ _ f
theorem reconv (f : BaF) : Statement (.reconv f) := fun _ => countOk_encBase _ _ f
theorem retl (f : BaF) : Statement (.retl f) := fun _ => countOk_encBase _ _ f
theorem exit (f : BaF) : Statement (.exit f) := fun _ => countOk_encBase _ _ f
theorem ldBM (minor : BitVec 3) (f : BmF) : Statement (.ldBM minor f) := fun _ => countOk_encBM _ _ f
theorem ldXM (minor : BitVec 3) (f : XmF) : Statement (.ldXM minor f) := fun _ => countOk_encExt _ _ _ _ _ _
theorem stBM (minor : BitVec 3) (f : BmF) : Statement (.stBM minor f) := fun _ => countOk_encBM _ _ f
theorem stXM (minor : BitVec 3) (f : XmF) : Statement (.stXM minor f) := fun _ => countOk_encExt _ _ _ _ _ _
theorem ldsp (f : XmF) : Statement (.ldsp f) := fun _ => countOk_encExt _ _ _ _ _ _
theorem stsp (f : XmF) : Statement (.stsp f) := fun _ => countOk_encExt _ _ _ _ _ _
theorem stt (f : XmF) : Statement (.stt f) := fun _ => countOk_encExt _ _ _ _ _ _
theorem pref (f : XmF) : Statement (.pref f) := fun _ => countOk_encExt _ _ _ _ _ _
theorem atom (f : XmF) : Statement (.atom f) := fun _ => countOk_encExt _ _ _ _ _ _
theorem cadd (f : XmF) : Statement (.cadd f) := fun _ => countOk_encExt _ _ _ _ _ _
theorem append (f : XqF) : Statement (.append f) := fun _ => countOk_encExt _ _ _ _ _ _
theorem mma (f : XtF) : Statement (.mma f) := fun _ => countOk_encExt _ _ _ _ _ _
theorem mzero (f : XtF) : Statement (.mzero f) := fun _ => countOk_encExt _ _ _ _ _ _
theorem mrd (f : XtF) : Statement (.mrd f) := fun _ => countOk_encExt _ _ _ _ _ _
theorem mwr (f : XtF) : Statement (.mwr f) := fun _ => countOk_encExt _ _ _ _ _ _
theorem mldt (f : XtF) : Statement (.mldt f) := fun _ => countOk_encExt _ _ _ _ _ _
theorem mstore (f : XtF) : Statement (.mstore f) := fun _ => countOk_encExt _ _ _ _ _ _
theorem mfence (f : XtF) : Statement (.mfence f) := fun _ => countOk_encExt _ _ _ _ _ _
theorem mwait (f : XtF) : Statement (.mwait f) := fun _ => countOk_encExt _ _ _ _ _ _
theorem msig (f : XtF) : Statement (.msig f) := fun _ => countOk_encExt _ _ _ _ _ _
theorem mpair (f : XtF) : Statement (.mpair f) := fun _ => countOk_encExt _ _ _ _ _ _
theorem saddBS (f : BaF) : Statement (.saddBS f) := fun _ => countOk_encBase _ _ f
theorem saddXA (f : XaF) : Statement (.saddXA f) := fun _ => countOk_encExt _ _ _ _ _ _
theorem ssubBS (f : BaF) : Statement (.ssubBS f) := fun _ => countOk_encBase _ _ f
theorem ssubXA (f : XaF) : Statement (.ssubXA f) := fun _ => countOk_encExt _ _ _ _ _ _
theorem smulBS (f : BaF) : Statement (.smulBS f) := fun _ => countOk_encBase _ _ f
theorem smulXA (f : XaF) : Statement (.smulXA f) := fun _ => countOk_encExt _ _ _ _ _ _
theorem smulhiBS (f : BaF) : Statement (.smulhiBS f) := fun _ => countOk_encBase _ _ f
theorem smulhiXA (f : XaF) : Statement (.smulhiXA f) := fun _ => countOk_encExt _ _ _ _ _ _
theorem sandBS (f : BaF) : Statement (.sandBS f) := fun _ => countOk_encBase _ _ f
theorem sandXA (f : XaF) : Statement (.sandXA f) := fun _ => countOk_encExt _ _ _ _ _ _
theorem sorBS (f : BaF) : Statement (.sorBS f) := fun _ => countOk_encBase _ _ f
theorem sorXA (f : XaF) : Statement (.sorXA f) := fun _ => countOk_encExt _ _ _ _ _ _
theorem sxorBS (f : BaF) : Statement (.sxorBS f) := fun _ => countOk_encBase _ _ f
theorem sxorXA (f : XaF) : Statement (.sxorXA f) := fun _ => countOk_encExt _ _ _ _ _ _
theorem smovBS (f : BaF) : Statement (.smovBS f) := fun _ => countOk_encBase _ _ f
theorem smovXA (f : XaF) : Statement (.smovXA f) := fun _ => countOk_encExt _ _ _ _ _ _
theorem sshlBS (f : BaF) : Statement (.sshlBS f) := fun _ => countOk_encBase _ _ f
theorem sshlXA (f : XaF) : Statement (.sshlXA f) := fun _ => countOk_encExt _ _ _ _ _ _
theorem sshrBS (f : BaF) : Statement (.sshrBS f) := fun _ => countOk_encBase _ _ f
theorem sshrXA (f : XaF) : Statement (.sshrXA f) := fun _ => countOk_encExt _ _ _ _ _ _
theorem ssarBS (f : BaF) : Statement (.ssarBS f) := fun _ => countOk_encBase _ _ f
theorem ssarXA (f : XaF) : Statement (.ssarXA f) := fun _ => countOk_encExt _ _ _ _ _ _
theorem sminBS (f : BaF) : Statement (.sminBS f) := fun _ => countOk_encBase _ _ f
theorem sminXA (f : XaF) : Statement (.sminXA f) := fun _ => countOk_encExt _ _ _ _ _ _
theorem smaxBS (f : BaF) : Statement (.smaxBS f) := fun _ => countOk_encBase _ _ f
theorem smaxXA (f : XaF) : Statement (.smaxXA f) := fun _ => countOk_encExt _ _ _ _ _ _
theorem scmp (f : XaF) : Statement (.scmp f) := fun _ => countOk_encExt _ _ _ _ _ _
theorem ssel (f : XaF) : Statement (.ssel f) := fun _ => countOk_encExt _ _ _ _ _ _
theorem sbfx (f : XaF) : Statement (.sbfx f) := fun _ => countOk_encExt _ _ _ _ _ _
theorem sbr (f : BbF) : Statement (.sbr f) := fun _ => countOk_encBB _ _ f
theorem sbrc (f : BlF) : Statement (.sbrc f) := fun _ => countOk_encBL _ _ f
theorem scall (f : BbF) : Statement (.scall f) := fun _ => countOk_encBB _ _ f
theorem sloop (f : BlF) : Statement (.sloop f) := fun _ => countOk_encBL _ _ f
theorem jmpl (f : BbF) : Statement (.jmpl f) := fun _ => countOk_encBB _ _ f
theorem sret (f : BaF) : Statement (.sret f) := fun _ => countOk_encBase _ _ f
theorem sdone (f : BaF) : Statement (.sdone f) := fun _ => countOk_encBase _ _ f
theorem dqpush (f : BaF) : Statement (.dqpush f) := fun _ => countOk_encBase _ _ f
theorem vgive (f : BaF) : Statement (.vgive f) := fun _ => countOk_encBase _ _ f
theorem vclaim (f : BaF) : Statement (.vclaim f) := fun _ => countOk_encBase _ _ f
theorem abort (f : BaF) : Statement (.abort f) := fun _ => countOk_encBase _ _ f
theorem pollabt (f : BaF) : Statement (.pollabt f) := fun _ => countOk_encBase _ _ f
theorem ldsBM (f : BmF) : Statement (.ldsBM f) := fun _ => countOk_encBM _ _ f
theorem ldsXM (f : XmF) : Statement (.ldsXM f) := fun _ => countOk_encExt _ _ _ _ _ _
theorem stsBM (f : BmF) : Statement (.stsBM f) := fun _ => countOk_encBM _ _ f
theorem stsXM (f : XmF) : Statement (.stsXM f) := fun _ => countOk_encExt _ _ _ _ _ _
theorem ldlq (f : XmF) : Statement (.ldlq f) := fun _ => countOk_encExt _ _ _ _ _ _
theorem crangeOpen (f : XmF) : Statement (.crangeOpen f) := fun _ => countOk_encExt _ _ _ _ _ _
theorem crangeClose (f : XmF) : Statement (.crangeClose f) := fun _ => countOk_encExt _ _ _ _ _ _
theorem phrelBS (f : BaF) : Statement (.phrelBS f) := fun _ => countOk_encBase _ _ f
theorem phrelXM (f : XmF) : Statement (.phrelXM f) := fun _ => countOk_encExt _ _ _ _ _ _
theorem phacqBS (f : BaF) : Statement (.phacqBS f) := fun _ => countOk_encBase _ _ f
theorem phacqXM (f : XmF) : Statement (.phacqXM f) := fun _ => countOk_encExt _ _ _ _ _ _
theorem phaseBS (f : BaF) : Statement (.phaseBS f) := fun _ => countOk_encBase _ _ f
theorem phaseXM (f : XmF) : Statement (.phaseXM f) := fun _ => countOk_encExt _ _ _ _ _ _
theorem consume (f : XqF) : Statement (.consume f) := fun _ => countOk_encExt _ _ _ _ _ _
theorem rnext (f : XqF) : Statement (.rnext f) := fun _ => countOk_encExt _ _ _ _ _ _
theorem launch (f : XqF) : Statement (.launch f) := fun _ => countOk_encExt _ _ _ _ _ _
theorem cpy (f : XqF) : Statement (.cpy f) := fun _ => countOk_encExt _ _ _ _ _ _
theorem coll (f : XqF) : Statement (.coll f) := fun _ => countOk_encExt _ _ _ _ _ _
theorem wait (f : XsF) : Statement (.wait f) := fun _ => countOk_encExt _ _ _ _ _ _
theorem seminc (f : XsF) : Statement (.seminc f) := fun _ => countOk_encExt _ _ _ _ _ _
theorem semset (f : XsF) : Statement (.semset f) := fun _ => countOk_encExt _ _ _ _ _ _
theorem semwait (f : XsF) : Statement (.semwait f) := fun _ => countOk_encExt _ _ _ _ _ _
theorem barinit (f : XsF) : Statement (.barinit f) := fun _ => countOk_encExt _ _ _ _ _ _
theorem bararr (f : XsF) : Statement (.bararr f) := fun _ => countOk_encExt _ _ _ _ _ _
theorem barexp (f : XsF) : Statement (.barexp f) := fun _ => countOk_encExt _ _ _ _ _ _
theorem barwait (f : XsF) : Statement (.barwait f) := fun _ => countOk_encExt _ _ _ _ _ _
theorem joinset (f : XsF) : Statement (.joinset f) := fun _ => countOk_encExt _ _ _ _ _ _
theorem joinadd (f : XsF) : Statement (.joinadd f) := fun _ => countOk_encExt _ _ _ _ _ _
theorem joindec (f : XsF) : Statement (.joindec f) := fun _ => countOk_encExt _ _ _ _ _ _
theorem trap (f : XsF) : Statement (.trap f) := fun _ => countOk_encExt _ _ _ _ _ _
theorem eret (f : XsF) : Statement (.eret f) := fun _ => countOk_encExt _ _ _ _ _ _
theorem rdsr (f : XsF) : Statement (.rdsr f) := fun _ => countOk_encExt _ _ _ _ _ _
theorem wrsr (f : XsF) : Statement (.wrsr f) := fun _ => countOk_encExt _ _ _ _ _ _
theorem rdlead (f : XsF) : Statement (.rdlead f) := fun _ => countOk_encExt _ _ _ _ _ _
theorem wrlead (f : XsF) : Statement (.wrlead f) := fun _ => countOk_encExt _ _ _ _ _ _
theorem yield (f : XsF) : Statement (.yield f) := fun _ => countOk_encExt _ _ _ _ _ _
theorem sleep (f : XsF) : Statement (.sleep f) := fun _ => countOk_encExt _ _ _ _ _ _
theorem rndmodeWrite (v : BitVec 3) : Statement (.rndmodeWrite v) := fun h => absurd h Bool.false_ne_true
theorem throttleWrite (g : Nat) (v : BitVec 3) : Statement (.throttleWrite g v) := fun h => absurd h Bool.false_ne_true
theorem talertWrite (v : BitVec 24) : Statement (.talertWrite v) := fun h => absurd h Bool.false_ne_true
theorem cbiasWrite (g : Nat) (v : BitVec 3) : Statement (.cbiasWrite g v) := fun h => absurd h Bool.false_ne_true
theorem cbmaxWrite (v : BitVec 5) : Statement (.cbmaxWrite v) := fun h => absurd h Bool.false_ne_true
theorem specialRegisterWrite (n : BitVec 9) (v : Dword) : Statement (.specialRegisterWrite n v) := fun h => absurd h Bool.false_ne_true
theorem starvationPromoteC (c : Nat) (slot : Nat) : Statement (.starvationPromoteC c slot) := fun h => absurd h Bool.false_ne_true
theorem starvationPromoteP (c : Nat) (slot : Nat) : Statement (.starvationPromoteP c slot) := fun h => absurd h Bool.false_ne_true
theorem couplingDeadlock (c : Nat) (slot : Nat) : Statement (.couplingDeadlock c slot) := fun h => absurd h Bool.false_ne_true
theorem blockReserve (i : Nat) : Statement (.blockReserve i) := fun h => absurd h Bool.false_ne_true
theorem reservationWaitExpiry (i : Nat) : Statement (.reservationWaitExpiry i) := fun h => absurd h Bool.false_ne_true
theorem blockStart (i : Nat) : Statement (.blockStart i) := fun h => absurd h Bool.false_ne_true
theorem waveRetire (c : Nat) (slot : Nat) : Statement (.waveRetire c slot) := fun h => absurd h Bool.false_ne_true
theorem workRequest (c : Nat) : Statement (.workRequest c) := fun h => absurd h Bool.false_ne_true
theorem rangeRecordBind (die : Nat) (node : Nat) : Statement (.rangeRecordBind die node) := fun h => absurd h Bool.false_ne_true
theorem recordEnqueue (i : Nat) : Statement (.recordEnqueue i) := fun h => absurd h Bool.false_ne_true
theorem queueSpillReturn (die : Nat) (node : Nat) : Statement (.queueSpillReturn die node) := fun h => absurd h Bool.false_ne_true
theorem batchClose (die : Nat) (node : Nat) : Statement (.batchClose die node) := fun h => absurd h Bool.false_ne_true
theorem batchMaxwaitExpiry (die : Nat) (node : Nat) : Statement (.batchMaxwaitExpiry die node) := fun h => absurd h Bool.false_ne_true
theorem batchAdmit (i : Nat) : Statement (.batchAdmit i) := fun h => absurd h Bool.false_ne_true
theorem stealCheck (die : Nat) (node : Nat) : Statement (.stealCheck die node) := fun h => absurd h Bool.false_ne_true
theorem stealArrival (i : Nat) : Statement (.stealArrival i) := fun h => absurd h Bool.false_ne_true
theorem consumeRetry (c : Nat) (slot : Nat) : Statement (.consumeRetry c slot) := fun h => absurd h Bool.false_ne_true
theorem joinRecordArrival (i : Nat) : Statement (.joinRecordArrival i) := fun h => absurd h Bool.false_ne_true
theorem signalApply (i : Nat) : Statement (.signalApply i) := fun h => absurd h Bool.false_ne_true
theorem massReleaseAdmit : Statement (.massReleaseAdmit) := fun h => absurd h Bool.false_ne_true
theorem homeLoad (i : Nat) : Statement (.homeLoad i) := fun h => absurd h Bool.false_ne_true
theorem homeMissFill (line : Nat) (ecc : EccOutcome) : Statement (.homeMissFill line ecc) := fun h => absurd h Bool.false_ne_true
theorem burstParityError (line : Nat) (e : BurstError) : Statement (.burstParityError line e) := fun h => absurd h Bool.false_ne_true
theorem fillReceive (i : Nat) : Statement (.fillReceive i) := fun h => absurd h Bool.false_ne_true
theorem homeStore (i : Nat) : Statement (.homeStore i) := fun h => absurd h Bool.false_ne_true
theorem homeAtom (i : Nat) : Statement (.homeAtom i) := fun h => absurd h Bool.false_ne_true
theorem updateReceive (i : Nat) : Statement (.updateReceive i) := fun h => absurd h Bool.false_ne_true
theorem storeAck (i : Nat) : Statement (.storeAck i) := fun h => absurd h Bool.false_ne_true
theorem loadReturn (i : Nat) : Statement (.loadReturn i) := fun h => absurd h Bool.false_ne_true
theorem lqFill (c : Nat) (slot : Nat) : Statement (.lqFill c slot) := fun h => absurd h Bool.false_ne_true
theorem pushReceive (i : Nat) : Statement (.pushReceive i) := fun h => absurd h Bool.false_ne_true
theorem pushReply (i : Nat) : Statement (.pushReply i) := fun h => absurd h Bool.false_ne_true
theorem deregistration (i : Nat) : Statement (.deregistration i) := fun h => absurd h Bool.false_ne_true
theorem rangeOpenNotice (i : Nat) : Statement (.rangeOpenNotice i) := fun h => absurd h Bool.false_ne_true
theorem rangeNoticeReply (i : Nat) : Statement (.rangeNoticeReply i) := fun h => absurd h Bool.false_ne_true
theorem holderRegister (i : Nat) : Statement (.holderRegister i) := fun h => absurd h Bool.false_ne_true
theorem foldProbe (i : Nat) : Statement (.foldProbe i) := fun h => absurd h Bool.false_ne_true
theorem foldComplete (line : Nat) : Statement (.foldComplete line) := fun h => absurd h Bool.false_ne_true
theorem evictedPartial (i : Nat) : Statement (.evictedPartial i) := fun h => absurd h Bool.false_ne_true
theorem remoteWriteCount (die : Nat) (page : Nat) : Statement (.remoteWriteCount die page) := fun h => absurd h Bool.false_ne_true
theorem migrationForward (i : Nat) : Statement (.migrationForward i) := fun h => absurd h Bool.false_ne_true
theorem migrationInstall (i : Nat) : Statement (.migrationInstall i) := fun h => absurd h Bool.false_ne_true
theorem migrationPointerRetire (i : Nat) : Statement (.migrationPointerRetire i) := fun h => absurd h Bool.false_ne_true
theorem deadAgentTimeout (a : Nat) : Statement (.deadAgentTimeout a) := fun h => absurd h Bool.false_ne_true
theorem hostSnoopInvalidate (line : Nat) (bytes : List (Nat × Byte)) : Statement (.hostSnoopInvalidate line bytes) := fun h => absurd h Bool.false_ne_true
theorem pageWalk (die : Nat) (va : Nat) : Statement (.pageWalk die va) := fun h => absurd h Bool.false_ne_true
theorem faultRecordWrite : Statement (.faultRecordWrite) := fun h => absurd h Bool.false_ne_true
theorem matrixEntryTake (c : Nat) : Statement (.matrixEntryTake c) := fun h => absurd h Bool.false_ne_true
theorem msigArrival (c : Nat) (i : Nat) : Statement (.msigArrival c i) := fun h => absurd h Bool.false_ne_true
theorem matrixEntryCommit (c : Nat) (i : Nat) : Statement (.matrixEntryCommit c i) := fun h => absurd h Bool.false_ne_true
theorem jobStart (die : Nat) (i : Nat) : Statement (.jobStart die i) := fun h => absurd h Bool.false_ne_true
theorem jobComplete (die : Nat) (i : Nat) : Statement (.jobComplete die i) := fun h => absurd h Bool.false_ne_true
theorem jobPageTimeout (i : Nat) : Statement (.jobPageTimeout i) := fun h => absurd h Bool.false_ne_true
theorem rasteriseTriangle (die : Nat) (node : Nat) : Statement (.rasteriseTriangle die node) := fun h => absurd h Bool.false_ne_true
theorem rayTraverse (die : Nat) (node : Nat) : Statement (.rayTraverse die node) := fun h => absurd h Bool.false_ne_true
theorem matrixJobRun (die : Nat) (node : Nat) : Statement (.matrixJobRun die node) := fun h => absurd h Bool.false_ne_true
theorem copyJobRun (die : Nat) (node : Nat) : Statement (.copyJobRun die node) := fun h => absurd h Bool.false_ne_true
theorem scanoutVblank (head : Nat) : Statement (.scanoutVblank head) := fun h => absurd h Bool.false_ne_true
theorem trapEntry (c : Nat) (slot : Nat) : Statement (.trapEntry c slot) := fun h => absurd h Bool.false_ne_true
theorem faultWithoutHandler (c : Nat) (slot : Nat) : Statement (.faultWithoutHandler c slot) := fun h => absurd h Bool.false_ne_true
theorem waitLimit (c : Nat) (slot : Nat) : Statement (.waitLimit c slot) := fun h => absurd h Bool.false_ne_true
theorem sleepExpiry (c : Nat) (slot : Nat) (st : Stream) : Statement (.sleepExpiry c slot st) := fun h => absurd h Bool.false_ne_true
theorem yieldExpiry (c : Nat) (slot : Nat) (st : Stream) : Statement (.yieldExpiry c slot st) := fun h => absurd h Bool.false_ne_true
theorem blockSave (i : Nat) : Statement (.blockSave i) := fun h => absurd h Bool.false_ne_true
theorem blockRestore (i : Nat) : Statement (.blockRestore i) := fun h => absurd h Bool.false_ne_true
theorem codePageCheck (o : Nat) (p : Nat) : Statement (.codePageCheck o p) := fun h => absurd h Bool.false_ne_true
theorem droopTrip (g : Nat) : Statement (.droopTrip g) := fun h => absurd h Bool.false_ne_true
theorem cbStepUpdate (g : Nat) : Statement (.cbStepUpdate g) := fun h => absurd h Bool.false_ne_true
theorem biasSettle (g : Nat) : Statement (.biasSettle g) := fun h => absurd h Bool.false_ne_true
theorem thermalSample (g : Nat) (t : BitVec 12) : Statement (.thermalSample g t) := fun h => absurd h Bool.false_ne_true
theorem mgmtInterrupt : Statement (.mgmtInterrupt) := fun h => absurd h Bool.false_ne_true
theorem cmdtailWrite (v : Word) : Statement (.cmdtailWrite v) := fun h => absurd h Bool.false_ne_true
theorem fltheadWrite (v : Word) : Statement (.fltheadWrite v) := fun h => absurd h Bool.false_ne_true
theorem bar2baseWrite (v : Word) : Statement (.bar2baseWrite v) := fun h => absurd h Bool.false_ne_true
theorem bar0WriteOther (off : Nat) (v : Word) : Statement (.bar0WriteOther off v) := fun h => absurd h Bool.false_ne_true
theorem bar2Write (off : Nat) (bytes : List Byte) : Statement (.bar2Write off bytes) := fun h => absurd h Bool.false_ne_true
theorem bar2Read (off : Nat) (n : Nat) : Statement (.bar2Read off n) := fun h => absurd h Bool.false_ne_true
theorem sensorWindowWrite (k : Nat) (w : Nat) (off : Nat) (bytes : List Byte) : Statement (.sensorWindowWrite k w off bytes) := fun h => absurd h Bool.false_ne_true
theorem sensorDone (k : Nat) (w : Nat) (bytes : Word) : Statement (.sensorDone k w bytes) := fun h => absurd h Bool.false_ne_true
theorem sensorBarrierArrival (k : Nat) : Statement (.sensorBarrierArrival k) := fun h => absurd h Bool.false_ne_true
theorem queryStartup : Statement (.queryStartup) := fun h => absurd h Bool.false_ne_true
theorem queryCoreCounters : Statement (.queryCoreCounters) := fun h => absurd h Bool.false_ne_true
theorem queryFootprint : Statement (.queryFootprint) := fun h => absurd h Bool.false_ne_true
theorem queryDeadAgents : Statement (.queryDeadAgents) := fun h => absurd h Bool.false_ne_true
theorem queryLogCounts : Statement (.queryLogCounts) := fun h => absurd h Bool.false_ne_true
theorem queryMeasurement : Statement (.queryMeasurement) := fun h => absurd h Bool.false_ne_true
theorem queryUseCounters : Statement (.queryUseCounters) := fun h => absurd h Bool.false_ne_true
theorem queryJoinSlot : Statement (.queryJoinSlot) := fun h => absurd h Bool.false_ne_true
theorem firmwareUpdate : Statement (.firmwareUpdate) := fun h => absurd h Bool.false_ne_true
theorem attest : Statement (.attest) := fun h => absurd h Bool.false_ne_true
theorem setScanout : Statement (.setScanout) := fun h => absurd h Bool.false_ne_true
theorem resetDevice : Statement (.resetDevice) := fun h => absurd h Bool.false_ne_true
theorem loadCode : Statement (.loadCode) := fun h => absurd h Bool.false_ne_true
theorem unloadCode : Statement (.unloadCode) := fun h => absurd h Bool.false_ne_true
theorem loadGraph : Statement (.loadGraph) := fun h => absurd h Bool.false_ne_true
theorem startGraph : Statement (.startGraph) := fun h => absurd h Bool.false_ne_true
theorem stopGraph : Statement (.stopGraph) := fun h => absurd h Bool.false_ne_true
theorem vacateCores : Statement (.vacateCores) := fun h => absurd h Bool.false_ne_true
theorem switchContext : Statement (.switchContext) := fun h => absurd h Bool.false_ne_true
theorem mapPages : Statement (.mapPages) := fun h => absurd h Bool.false_ne_true
theorem unmapPages : Statement (.unmapPages) := fun h => absurd h Bool.false_ne_true
theorem faultReply : Statement (.faultReply) := fun h => absurd h Bool.false_ne_true
theorem sensorConfig : Statement (.sensorConfig) := fun h => absurd h Bool.false_ne_true
theorem displayMode : Statement (.displayMode) := fun h => absurd h Bool.false_ne_true
theorem displayOff : Statement (.displayOff) := fun h => absurd h Bool.false_ne_true
theorem setPowerBias : Statement (.setPowerBias) := fun h => absurd h Bool.false_ne_true
theorem setPowerCbmax : Statement (.setPowerCbmax) := fun h => absurd h Bool.false_ne_true
theorem setPowerTlimit : Statement (.setPowerTlimit) := fun h => absurd h Bool.false_ne_true
theorem setPowerSaddle : Statement (.setPowerSaddle) := fun h => absurd h Bool.false_ne_true
theorem blockControlImage : Statement (.blockControlImage) := fun h => absurd h Bool.false_ne_true
theorem blockControlResume : Statement (.blockControlResume) := fun h => absurd h Bool.false_ne_true
theorem blockControlDiscard : Statement (.blockControlDiscard) := fun h => absurd h Bool.false_ne_true
theorem unloadGraph : Statement (.unloadGraph) := fun h => absurd h Bool.false_ne_true
theorem powerGood : Statement (.powerGood) := fun h => absurd h Bool.false_ne_true
theorem bootstageAdvance (trained : Bool) (failed : Nat) : Statement (.bootstageAdvance trained failed) := fun h => absurd h Bool.false_ne_true
theorem saddleLaneFault (n : Nat) : Statement (.saddleLaneFault n) := fun h => absurd h Bool.false_ne_true
theorem chargeBucketRefill (g : Nat) : Statement (.chargeBucketRefill g) := fun h => absurd h Bool.false_ne_true
theorem barrierCompletesAgain (b : Nat) (j : Nat) (n : Nat) : Statement (.barrierCompletesAgain b j n) := fun h => absurd h Bool.false_ne_true

end Sys2Proof.Laws.WordCount
end

