-- ==== Sys2Proof/Safety.lean ====
section
/-! DEFINITION. The terms of the claims: what a claim asks of a state before an instruction (`Issues`, `LaneOk`, …), what
the state after it is (`OnlyWave`, `LaneFrame`, `LaneWord`, …), and what counts as a safe run: no step of it faults or is
refused. -/
namespace Sys2Proof.Claims
open Machine

/-! ## A safe run -/

/-- A step answers a next state: no fault and no refusal. -/
def GoesOn (s : State) : Prop := ∃ t, step s = .next t

/-- n steps from a state, while each answers a next state. -/
def run (n : Nat) (s : State) : Option State :=
  match n with
  | 0 => some s
  | n + 1 =>
    match step s with
    | .next t => run n t
    | _ => none


/-! ## Before: when an instruction issues -/

/-- The stream may issue an instruction of this weight: the wave runs, its stream is open, nothing holds the core or the
cluster, and the charge bucket covers the weight (02 R19, R22, R54; 18 R411). -/
def Issues (s : State) (st : Stream) (weight : Nat) : Prop :=
  s.mayIssue = true ∧ s.st = st ∧ s.w.mgmt = false ∧ s.covered weight = true ∧ s.stalled = false

/-- The operands of a lane form can be used: the queue entries are there, no register waits for a result and every
register lies in the allocation (02 R22, R27; 03 R87). -/
def LaneOk (s : State) (sp : XaSpec) (f : XaF) (more : List Nat) : Prop :=
  s.w.dynRandFault sp f = false ∧ s.laneReady (s.w.xaSrcs sp f ++ more) (xaDsts sp f) = .ok ()
    ∧ s.regCheck (s.w.active f.kmask.toNat) (vRegs (xaDsts sp f ++ (s.w.xaSrcs sp f ++ more))) = .ok ()

/-! ## After: what an instruction changes -/

/-- Every byte of memory reads as before. -/
def MemKept (s t : State) : Prop := ∀ a, memByte t.mem a = memByte s.mem a

/-- The charge that an issue takes from the bucket of the wave's cluster (18 R411). -/
def Charged (s t : State) (weight : Nat) : Prop := t.clusters = (s.charge s.w.core weight).clusters

/-- Nothing of the machine but the issuing wave changes, beside the charge: no memory, no other wave, no device register. -/
def OnlyWave (s t : State) (weight : Nat) : Prop :=
  t = { s with w := t.w, clusters := t.clusters } ∧ Charged s t weight ∧ MemKept s t

/-- What every lane form leaves of its wave: only lane registers, with their sector validity bits, mask registers, `exec` and
RQ may change otherwise; the queue entries read are popped, and the lane PC moves past the instruction. -/
def LaneFrame (s t : State) (words : Nat) (srcs : List Nat) : Prop :=
  t.w = { s.w with
    v := t.w.v, sect := t.w.sect, kreg := t.w.kreg, exec := t.w.exec, rq := t.w.rq
    lq := if srcs.contains 320 then s.w.lq.tail else s.w.lq
    dq := if srcs.contains 321 then s.w.dq.tail else s.w.dq
    lanePc := s.w.lanePc + 4 * words, tryLane := .issued, deadlock := 0, refused := none }

/-- The sectors of the registers and lanes written become valid, and no others (08 R190). -/
def NewSectors (s t : State) (written : Nat → Nat → Prop) : Prop :=
  ∀ x, x ∈ t.w.sect ↔ x ∈ s.w.sect ∨ ∃ r l, written r l ∧ x = regSector r l

/-- A 32-bit result per lane of `m` goes to the destination: a lane register, whose other lanes and every other register
keep their words, and whose sectors become valid (08 R190); or one RQ entry with the value of the lowest lane (02 R26);
`zero` discards it. -/
def LaneWord (s t : State) (d m : Nat) (val : Nat → Nat) : Prop :=
  (∀ r l, l < 64 → t.w.getV r l =
      if laneIx d = .v r ∧ l < s.w.lanes ∧ bit m l = true then val l % 2 ^ 32 else s.w.getV r l)
    ∧ t.w.rq = (if laneIx d = .rq then s.w.rq ++ [BitVec.ofNat 64 (s.w.rqEntry m val)] else s.w.rq)
    ∧ t.w.kreg = s.w.kreg ∧ t.w.exec = s.w.exec
    ∧ NewSectors s t (fun r l => laneIx d = .v r ∧ l < s.w.lanes ∧ bit m l = true)

/-- A truth value per lane of `m` goes to the bits of mask register `k`; its other bits and the other mask registers stay
(06 R132). -/
def LaneMask (s t : State) (k m : Nat) (p : Nat → Bool) : Prop :=
  (∀ j l, l < s.w.lanes → bit (t.w.getK j) l = if j = k ∧ bit m l = true then p l else bit (s.w.getK j) l)
    ∧ t.w.v = s.w.v ∧ t.w.sect = s.w.sect ∧ t.w.rq = s.w.rq ∧ t.w.exec = s.w.exec

/-- A truth value per active lane: a mask bit under `imm8`[7], else all ones or zero (06 R139). -/
def LaneTruth (s t : State) (f : XaF) (p : Nat → Bool) : Prop :=
  if f.imm8.getLsbD 7 then LaneMask s t (f.d9.toNat % 8) (s.w.active f.kmask.toNat) p
  else LaneWord s t f.d9.toNat (s.w.active f.kmask.toNat) (fun l => if p l then 0xFFFFFFFF else 0)

/-- An extended lane form that is legal and whose operands can be used completes, with this effect on its wave. -/
def XaDoes (i : XaF → Instr) (weight : Nat) (sp : XaF → XaSpec) (eff : XaF → State → State → Prop) : Prop :=
  ∀ (f : XaF) (s : State), Issues s .lane weight → legalXa (sp f) f = none → LaneOk s (sp f) f [] →
    ∃ t, exec (i f) s = .next t ∧ OnlyWave s t weight ∧ LaneFrame s t (xaWords f) (s.w.xaSrcs (sp f) f) ∧ eff f s t

/-- A base lane form completes as the extended form of 03 R76, of the type its page gives it. -/
def BaDoes (i : BaF → Instr) (weight : Nat) (sp : XaF → XaSpec) (ty : Nat) (eff : XaF → State → State → Prop) : Prop :=
  ∀ (b : BaF) (s : State), let f := xaOfBa ty b
    Issues s .lane weight → legalBa sp ty b = none → LaneOk s (sp f) f [] →
    ∃ t, exec (i b) s = .next t ∧ OnlyWave s t weight ∧ LaneFrame s t (baWords b) (s.w.xaSrcs (sp f) f) ∧ eff f s t

/-- The effect of a form with one 32-bit result per active lane. -/
def ToLanes (val : XaF → Wave → Nat → Nat) (f : XaF) (s t : State) : Prop :=
  LaneWord s t f.d9.toNat (s.w.active f.kmask.toNat) (val f s.w)
/-- The effect of a form with one truth value per active lane. -/
def ToTruth (p : XaF → Wave → Nat → Bool) (f : XaF) (s t : State) : Prop := LaneTruth s t f (p f s.w)

/-- A form with both encodings and one 32-bit result per active lane. -/
def BothGive (ba : BaF → Instr) (xa : XaF → Instr) (weight : Nat) (sp : XaF → XaSpec) (ty : Nat)
    (val : XaF → Wave → Nat → Nat) : Prop :=
  BaDoes ba weight sp ty (ToLanes val) ∧ XaDoes xa weight sp (ToLanes val)

/-! ## Values -/

/-- A source pattern as an integer: two's complement for i32, plain for u32 (05 R108). -/
def int32 (ty x : Nat) : Int := if ty = 5 then (BitVec.ofNat 32 x).toInt else ((BitVec.ofNat 32 x).toNat : Int)

/-- An exact result as a pattern: modulo 2^32, or held to the range of its type under `sat` (05 R108). -/
def fit32 (ty : Nat) (sat : Bool) (v : Int) : Nat :=
  let x := if sat then (if ty = 5 then max (-2147483648) (min v 2147483647) else max 0 (min v 4294967295)) else v
  (BitVec.ofInt 32 x).toNat

/-- The sources of a lane as bits. -/
def aB (f : XaF) (w : Wave) (l : Nat) : BitVec 32 := BitVec.ofNat 32 (f.aT 6 w l)
/-- The second source as bits. -/
def bB (f : XaF) (w : Wave) (l : Nat) : BitVec 32 := BitVec.ofNat 32 (f.bT 6 w l)
/-- The third source as bits. -/
def cB (f : XaF) (w : Wave) (l : Nat) : BitVec 32 := BitVec.ofNat 32 (f.cT 6 w l)
/-- The sources of a lane as integers of the form's type. -/
def aZ (f : XaF) (w : Wave) (l : Nat) : Int := int32 f.ty (f.aT 6 w l)
/-- The second source as an integer. -/
def bZ (f : XaF) (w : Wave) (l : Nat) : Int := int32 f.ty (f.bT 6 w l)
/-- The third source as an integer. -/
def cZ (f : XaF) (w : Wave) (l : Nat) : Int := int32 f.ty (f.cT 6 w l)

/-- Two FP32 patterns, neither a NaN. -/
def Numbers (x y : Nat) : Prop := isNaNBits .f32 x = false ∧ isNaNBits .f32 y = false

/-- Bits [lo + n − 1 : lo], none when n is 0. -/
def cut (x : BitVec 32) (lo n : Nat) : Nat := (x.toNat / 2 ^ lo) % 2 ^ n

/-- The width of BFX and BFI: b[13:8], cut off at bit 31 (06 R138). -/
def fieldWidth (b : BitVec 32) : Nat := min (cut b 8 6) (32 - cut b 0 5)

end Sys2Proof.Claims
end

