-- ==== Sys2Proof/Certificates/Slice0/Obligations.lean ====
section
/-! DEFINITION. The statements for the provers. The terms they use stand in Sys2Proof/Safety.lean, those of one family
beside its statements. -/
open Sys2Proof Sys2Proof.Machine Sys2Proof.Claims

/-! ## The lane stream: integers (06 R137 to R139) -/

/-- IADD, ISUB, IMUL, IMULHI, IMAD, IMIN and IMAX complete with the exact integer result, wrapped or saturated (06 R137, 05
R108). -/
def Sys2Proof.Claims.LaneIntegerArithmetic : Prop :=
  BothGive .iaddBA .iaddXA 4 specArith 5 (fun f w l => fit32 f.ty f.isSat (aZ f w l + bZ f w l))
  ∧ BothGive .isubBA .isubXA 4 specArith 5 (fun f w l => fit32 f.ty f.isSat (aZ f w l - bZ f w l))
  ∧ BothGive .imulBA .imulXA 4 specArith 5 (fun f w l => fit32 f.ty f.isSat (aZ f w l * bZ f w l))
  ∧ BothGive .imulhiBA .imulhiXA 4 specMinMax 5 (fun f w l => fit32 f.ty false ((aZ f w l * bZ f w l) / 2 ^ 32))
  ∧ BothGive .iminBA .iminXA 4 specMinMax 5 (fun f w l => fit32 f.ty false (min (aZ f w l) (bZ f w l)))
  ∧ BothGive .imaxBA .imaxXA 4 specMinMax 5 (fun f w l => fit32 f.ty false (max (aZ f w l) (bZ f w l)))
  ∧ XaDoes .imad 4 specImad (ToLanes (fun f w l => fit32 f.ty f.isSat (aZ f w l * bZ f w l + cZ f w l)))

/-- AND, OR, XOR, ANDN, SHL, SHR, SAR and ROT complete with the bitwise result; a shift by 32 or more gives 0, or copies of
the sign, and a rotation takes its count modulo 32 (06 R137, R138). -/
def Sys2Proof.Claims.LaneLogicAndShifts : Prop :=
  BothGive .andBA .andXA 4 specLogic 6 (fun f w l => (aB f w l &&& bB f w l).toNat)
  ∧ BothGive .orBA .orXA 4 specLogic 6 (fun f w l => (aB f w l ||| bB f w l).toNat)
  ∧ BothGive .xorBA .xorXA 4 specLogic 6 (fun f w l => (aB f w l ^^^ bB f w l).toNat)
  ∧ BothGive .andnBA .andnXA 4 specLogic 6 (fun f w l => (aB f w l &&& ~~~(bB f w l)).toNat)
  ∧ BothGive .shlBA .shlXA 4 specLogic 6 (fun f w l => (aB f w l <<< (bB f w l).toNat).toNat)
  ∧ BothGive .shrBA .shrXA 4 specLogic 6 (fun f w l => (aB f w l >>> (bB f w l).toNat).toNat)
  ∧ BothGive .sarBA .sarXA 4 specLogic 6 (fun f w l => ((aB f w l).sshiftRight (bB f w l).toNat).toNat)
  ∧ BothGive .rotBA .rotXA 4 specLogic 6 (fun f w l => ((aB f w l).rotateLeft ((bB f w l).toNat % 32)).toNat)

/-- BFX and BFI cut out and put in a bit field of offset b[4:0] and width b[13:8], cut off at bit 31; an empty field is 0,
or inserts nothing (06 R138). -/
def Sys2Proof.Claims.LaneBitFields : Prop :=
  XaDoes .bfx 4 specBfx (ToLanes (fun f w l =>
    let n := fieldWidth (bB f w l)
    let x := cut (aB f w l) (cut (bB f w l) 0 5) n
    if f.variant = 1 ∧ n > 0 then (BitVec.ofInt 32 ((BitVec.ofNat n x).toInt)).toNat else x))
  ∧ XaDoes .bfi 4 specBfi (ToLanes (fun f w l =>
    let m : BitVec 32 := BitVec.ofNat 32 ((2 ^ fieldWidth (bB f w l) - 1) * 2 ^ cut (bB f w l) 0 5)
    ((cB f w l &&& ~~~m) ||| ((aB f w l <<< cut (bB f w l) 0 5) &&& m)).toNat))

/-- POPC, CLZ, CTZ and BREV complete; of 0, CLZ and CTZ give 32 (06 R137). -/
def Sys2Proof.Claims.LaneBitCounts : Prop :=
  BothGive .popcBA .popcXA 4 specBit 6 (fun f w l => ((List.range 32).filter (fun i => (aB f w l).getLsbD i)).length)
  ∧ BothGive .clzBA .clzXA 4 specBit 6 (fun f w l => if aB f w l = 0#32 then 32 else 31 - (aB f w l).toNat.log2)
  ∧ BothGive .ctzBA .ctzXA 4 specBit 6
      (fun f w l => ((List.range 32).find? (fun i => (aB f w l).getLsbD i)).getD 32)
  ∧ BothGive .brevBA .brevXA 4 specBit 6 (fun f w l => (aB f w l).reverse.toNat)

/-- ICMP writes the truth of its condition; SEL picks a where its predicate holds, else b (06 R137, R139, R132). -/
def Sys2Proof.Claims.LaneCompareAndSelect : Prop :=
  XaDoes .icmp 4 specIcmp (ToTruth (fun f w l =>
    let a := aZ f w l
    let b := bZ f w l
    [decide (a = b), decide (a ≠ b), decide (a < b), decide (a ≤ b), decide (a > b)].getD (f.imm8.toNat % 8)
      (decide (a ≥ b))))
  ∧ XaDoes .sel 4 specSel (ToLanes (fun f w l =>
    if (if f.imm8.getLsbD 6 then bit (w.getK (f.c9.toNat % 8)) l else cB f w l != 0#32) then (aB f w l).toNat
    else (bB f w l).toNat))

/-- The integer forms of the lane stream: arithmetic, logic and shifts, bit fields, bit counts, comparison and selection (06
R137 to R139). -/
def Obligations.LaneIntegerForms : Prop :=
  Claims.LaneIntegerArithmetic ∧ Claims.LaneLogicAndShifts ∧ Claims.LaneBitFields ∧ Claims.LaneBitCounts ∧
    Claims.LaneCompareAndSelect

/-! ## The lane stream: floating point (05, 06 R140 to R149) -/

/-- FADD, FSUB, FMUL and FFMA complete; on operands that are no NaN and whose exact result is a number, the result is the
exact one rounded once in the mode of the form (06 R140; 05 R107, R113). -/
def Obligations.LaneFloatArithmetic : Prop :=
  BothGive .faddBA .faddXA 8 specF2 0 opFadd ∧ BothGive .fsubBA .fsubXA 8 specF2 0 opFsub
  ∧ BothGive .fmulBA .fmulXA 8 specF2 0 opFmul ∧ XaDoes .ffma 8 specFfma (ToLanes opFfma)
  ∧ (∀ (f : XaF) (w : Wave) (l : Nat), Numbers (f.aF w l) (f.bF w l) →
      let m := w.modeOf f.rnd
      let a := valueOfBits .f32 (f.aF w l)
      let b := valueOfBits .f32 (f.bF w l)
      (xAdd (zeroNeg m) a b ≠ .nan → opFadd f w l = roundTo .f32 m f.isSat (w.randBits .c f l) (xAdd (zeroNeg m) a b))
      ∧ (xAdd (zeroNeg m) a (xNeg b) ≠ .nan →
          opFsub f w l = roundTo .f32 m f.isSat (w.randBits .c f l) (xAdd (zeroNeg m) a (xNeg b)))
      ∧ (xMul a b ≠ .nan → opFmul f w l = roundTo .f32 m f.isSat (w.randBits .c f l) (xMul a b))
      ∧ (isNaNBits .f32 (f.cF w l) = false → xMul a b ≠ .nan →
          xAdd (zeroNeg m) (xMul a b) (valueOfBits .f32 (f.cF w l)) ≠ .nan →
          opFfma f w l = roundTo .f32 m f.isSat (w.randBits .cNext f l)
            (xAdd (zeroNeg m) (xMul a b) (valueOfBits .f32 (f.cF w l)))))

/-- FMIN, FMAX, FCMP and FCLASS complete (06 R141 to R143). -/
def Sys2Proof.Claims.LaneFloatCompare : Prop :=
  BothGive .fminBA .fminXA 8 specFminmax 0 opFmin ∧ BothGive .fmaxBA .fmaxXA 8 specFminmax 0 opFmax
  ∧ XaDoes .fcmp 8 specFcmp (ToTruth opFcmp)
  ∧ XaDoes .fclass 8 specFclass (fun f s t =>
      if f.imm8.getLsbD 7 then LaneTruth s t f (opFclassTest f s.w) else ToLanes opFclassWord f s t)

/-- FRCP, FRSQ, FSQRT, FEXP2, FLOG2, FSINPI and FCOSPI complete with the value of `opFn` in each active lane (06 R144,
R145). -/
def Sys2Proof.Claims.LaneFloatFunctions : Prop :=
  BothGive .frcpBA .frcpXA 12 specFn 0 (opFn .rcp) ∧ BothGive .frsqBA .frsqXA 12 specFn 0 (opFn .rsq)
  ∧ BothGive .fsqrtBA .fsqrtXA 12 specFn 0 (opFn .sqrt) ∧ BothGive .fexp2BA .fexp2XA 12 specFn 0 (opFn .exp2)
  ∧ BothGive .flog2BA .flog2XA 12 specFn 0 (opFn .log2) ∧ BothGive .fsinpiBA .fsinpiXA 12 specFn 0 (opFn .sinpi)
  ∧ BothGive .fcospiBA .fcospiXA 12 specFn 0 (opFn .cospi)

/-- A 32-bit pattern is a NaN. -/
def Sys2Proof.Claims.IsNaN (x : Nat) : Prop := 0x7F800000 < x % 2 ^ 31

/-- The place of a pattern in the order −Inf < negative < −0 < +0 < positive < +Inf (06 R141). -/
def Sys2Proof.Claims.rank (x : Nat) : Int := if x % 2 ^ 32 < 2 ^ 31 then (x % 2 ^ 32 : Nat) else -1 - (x % 2 ^ 31 : Nat)

/-- The place of a pattern among the numbers, with −0 equal to +0 (06 R142). -/
def Sys2Proof.Claims.place (x : Nat) : Int := if x % 2 ^ 32 < 2 ^ 31 then (x % 2 ^ 32 : Nat) else -(x % 2 ^ 31 : Nat)

/-- What FMIN and FMAX choose, what FCMP finds and the class word of FCLASS: signed zeros, NaNs and unordered operands
included (06 R141 to R143). -/
def Sys2Proof.Claims.LaneFloatCompareValues : Prop := ∀ (f : XaF) (w : Wave) (l : Nat),
  let a := f.aF w l
  let b := f.bF w l
  (¬ Claims.IsNaN a → ¬ Claims.IsNaN b →
    opFmin f w l % 2 ^ 32 = (if Claims.rank b < Claims.rank a then b else a) % 2 ^ 32
    ∧ opFmax f w l % 2 ^ 32 = (if Claims.rank a < Claims.rank b then b else a) % 2 ^ 32)
  ∧ (∀ r, r = opFmin f w l ∨ r = opFmax f w l →
    (Claims.IsNaN a → ¬ Claims.IsNaN b → r % 2 ^ 32 = b % 2 ^ 32)
    ∧ (¬ Claims.IsNaN a → Claims.IsNaN b → r % 2 ^ 32 = a % 2 ^ 32)
    ∧ (Claims.IsNaN a → Claims.IsNaN b → r % 2 ^ 32 = a % 2 ^ 32 ||| 2 ^ 22))
  ∧ (let un := Claims.IsNaN a ∨ Claims.IsNaN b
     let x := Claims.place a
     let y := Claims.place b
     opFcmp f w l = true ↔
       [¬ un ∧ x = y, un ∨ x ≠ y, ¬ un ∧ x < y, ¬ un ∧ x ≤ y, ¬ un ∧ y < x, ¬ un ∧ y ≤ x, ¬ un].getD (f.imm8.toNat % 8) un)
  ∧ (let x := f.aT 0 w l
     let m := x % 2 ^ 31
     opFclassWord f w l = (if m = 0 then 1 else if m < 2 ^ 23 then 2 else if m < 0x7F800000 then 4
       else if m = 0x7F800000 then 8 else if m < 0x7FC00000 then 32 else 16) + (if x % 2 ^ 32 ≥ 2 ^ 31 then 64 else 0))
  ∧ (opFclassTest f w l = true ↔ ∃ i, i < 7 ∧ f.imm8.getLsbD i = true ∧ bit (opFclassWord f w l) i = true)

/-- The seven results of a pattern, in the order of R145's columns. -/
def Sys2Proof.Claims.Gives7 (f : XaF) (w : Wave) (l : Nat) (rs : List Nat) : Prop :=
  [opFn .rcp f w l, opFn .rsq f w l, opFn .sqrt f w l, opFn .exp2 f w l, opFn .log2 f w l, opFn .sinpi f w l,
    opFn .cospi f w l] = rs

/-- The special inputs of major 0x11: NaNs, zeros, infinities, 1.0, negative numbers, whole numbers and halves, powers of
two, and results too large for FP32 (06 R144, R145). -/
def Sys2Proof.Claims.LaneFloatSpecialValues : Prop := ∀ (f : XaF) (w : Wave) (l : Nat),
  let x := f.aF w l % 2 ^ 32
  let nan := genNaN .f32 (nanAt w.lanePc l)
  let big := if f.isSat = true then 0x7F7FFFFF else 0x7F800000
  (∀ fn, Claims.IsNaN x → opFn fn f w l = x ||| 2 ^ 22)
  ∧ (x = 0 → Claims.Gives7 f w l [0x7F800000, 0x7F800000, 0, 0x3F800000, 0xFF800000, 0, 0x3F800000])
  ∧ (x = 0x80000000 →
      Claims.Gives7 f w l [0xFF800000, 0xFF800000, 0x80000000, 0x3F800000, 0xFF800000, 0x80000000, 0x3F800000])
  ∧ (x = 0x7F800000 → Claims.Gives7 f w l [0, 0, 0x7F800000, 0x7F800000, 0x7F800000, nan, nan])
  ∧ (x = 0xFF800000 → Claims.Gives7 f w l [0x80000000, nan, nan, 0, nan, nan, nan])
  ∧ (x = 0x3F800000 → Claims.Gives7 f w l [0x3F800000, 0x3F800000, 0x3F800000, 0x40000000, 0, 0, 0xBF800000])
  ∧ (0x80000000 < x → x < 0xFF800000 → opFn .rsq f w l = nan ∧ opFn .sqrt f w l = nan ∧ opFn .log2 f w l = nan)
  ∧ (∀ e, 1 ≤ e → e ≤ 254 → x = e * 2 ^ 23 →
      opFn .log2 f w l = roundTo .f32 .rne false 0 (.fin (decide (e < 127)) ((e : Int) - 127).natAbs 1))
  ∧ (x = 1 → opFn .rcp f w l = big) ∧ (x = 0x40800000 → opFn .sqrt f w l = 0x40000000)
  ∧ (∀ neg n d, valueOfBits .f32 x = .fin neg n d → n ≠ 0 →
    opFn .rcp f w l = roundTo .f32 .rne f.isSat 0 (.fin neg d n)
    ∧ (neg = false → n ≥ 128 * d → opFn .exp2 f w l = big)
    ∧ (n % d = 0 → let k := n / d
      opFn .sinpi f w l = (if neg then 0x80000000 else 0)
      ∧ opFn .cospi f w l = (if k % 2 = 0 then 0x3F800000 else 0xBF800000)
      ∧ (neg = false → k < 128 → opFn .exp2 f w l = (127 + k) * 2 ^ 23)
      ∧ (neg = true → opFn .exp2 f w l =
          if k ≤ 126 then (127 - k) * 2 ^ 23 else if k ≤ 149 then 2 ^ (149 - k) else 0))
    ∧ (2 * n % d = 0 → let k := 2 * n / d
      k % 2 = 1 → opFn .cospi f w l = 0
        ∧ opFn .sinpi f w l = (if (k % 4 = 1) = (neg = false) then 0x3F800000 else 0xBF800000)))

/-- The floating-point comparison forms and the unary functions of the lane stream, with what they give for signed zeros,
NaNs, unordered operands and the special inputs (06 R141 to R145). -/
def Obligations.LaneFloatCompareAndFunctions : Prop :=
  Claims.LaneFloatCompare ∧ Claims.LaneFloatFunctions ∧ Claims.LaneFloatCompareValues ∧ Claims.LaneFloatSpecialValues

/-- HADD2, HMUL2 and HFMA2 complete with two halves per word, and DOT4D8 with the sum of four products rounded once (06
R147, R148). -/
def Sys2Proof.Claims.LanePackedFloat : Prop :=
  BothGive .hadd2BA .hadd2XA 8 specH2 1 opHadd2 ∧ BothGive .hmul2BA .hmul2XA 8 specH2 1 opHmul2
  ∧ XaDoes .hfma2 8 specHfma (ToLanes opHfma2)
  ∧ (∀ (f : XaF) (s : State), Issues s .lane 8 → legalXa (specDot4 f) f = none → LaneOk s (specDot4 f) f (dotScaleReg f) →
      ∃ t, exec (.dot4d8 f) s = .next t ∧ OnlyWave s t 8
        ∧ LaneFrame s t (xaWords f) (s.w.xaSrcs (specDot4 f) f ++ dotScaleReg f) ∧ ToLanes opDot4d8 f s t)

/-- DOT2H has no effect of its own: with every field legal it is charged 8, raises RETIRED_OP in its active lanes, which
enters the handler or stops the block, and counts RETCNT1 (06 R149; 03 R82; 17 R383; 18 R410). -/
def Sys2Proof.Claims.RetiredDotProductTraps : Prop :=
  ∀ (f : XaF) (s : State), Issues s .lane 8 → legalXa (specDot2h f) f = none → s.w.dynRandFault (specDot2h f) f = false →
    exec (.dot2h f) s = .next ((((s.charge s.w.core 8).countRet 1).modW (fun w => { w with refused := none })).takeTrap
      { cause := causeRetired, st := .lane, deferred := false, flanes := s.w.active f.kmask.toNat, taddr := 0,
        tinfo := tinfoHead (Instr.dot2h f).word0 })

/-- The packed forms of the lane stream, and the retired DOT2H (06 R147 to R149; 03 R82). -/
def Obligations.LanePackedAndRetiredForms : Prop :=
  Claims.LanePackedFloat ∧ Claims.RetiredDotProductTraps

/-! ## The lane stream: conversions (06 R150 to R154) -/

/-- CVT, PACK, UNPACK and DQSCALE complete with one word per lane (06 R151 to R153). -/
def Sys2Proof.Claims.LaneConversions : Prop :=
  XaDoes .cvt 8 specCvt (ToLanes opCvt) ∧ XaDoes .pack 8 specPack (ToLanes opPack)
  ∧ XaDoes .unpack 8 specUnpack (ToLanes opUnpack) ∧ XaDoes .dqscale 8 specDqscale (ToLanes opDqscale)

/-- QSCALE and HADQ complete outside width 16: QSCALE puts the code of its lane, or the scale of its block, into the byte
selected, and HADQ quantises or restores a rotated vector per block of 32 lanes (06 R153, R154). -/
def Sys2Proof.Claims.LaneBlockQuantise : Prop :=
  (∀ (f : XaF) (s : State), Issues s .lane 8 → legalXa (specQscale f) f = none → LaneOk s (specQscale f) f [] →
    (f.variant = 1 → s.w.width ≠ 16) →
    ∃ t, exec (.qscale f) s = .next t ∧ OnlyWave s t 8 ∧ LaneFrame s t (xaWords f) (s.w.xaSrcs (specQscale f) f)
      ∧ (if f.variant = 1 then
          LaneWord s t f.d9.toNat (s.w.active f.kmask.toNat) (opAmax f s.w (s.w.active f.kmask.toNat))
        else ToLanes opQscale f s t))
  ∧ (∀ (f : XaF) (s : State), Issues s .lane 8 → legalXa (specHadq f) f = none → LaneOk s (specHadq f) f [] →
    s.w.width ≠ 16 →
    ∃ t, exec (.hadq f) s = .next t ∧ OnlyWave s t 8 ∧ LaneFrame s t (xaWords f) (s.w.xaSrcs (specHadq f) f)
      ∧ (let act := s.w.active f.kmask.toNat
        LaneWord s t f.d9.toNat act (fun l =>
          if f.variant = 1 then (hadqInverse f s.w act (l / 32 * 32)).getD (l % 32) 0
          else
            let ys := hadqForward f s.w act (l / 32 * 32)
            opHadq f s.w ys (hadqScale ys) l)))

/-- The conversion forms of the lane stream (06 R151 to R154). -/
def Obligations.LaneConversionForms : Prop :=
  Claims.LaneConversions ∧ Claims.LaneBlockQuantise

/-! ## The lane stream: between lanes (06 R155 to R161) -/

/-- SHFL, BCAST, QSWAP and QBCAST complete: each active lane reads a in another lane of its group, or in its own where the
lane named lies outside the group (06 R156, R157). -/
def Sys2Proof.Claims.LaneExchange : Prop :=
  let group (w : Wave) (l : Nat) : Nat := l / w.width * w.width
  let shfl (f : XaF) (w : Wave) (l : Nat) : Nat :=
    let n := f.bT 6 w l
    let r := l % w.width
    let ok := [true, decide (n ≤ r), decide (r + n < w.width), true].getD f.variant false
    let j := [n % w.width, r - n, r + n, r ^^^ (n % w.width)].getD f.variant 0
    if ok then f.aT 6 w (group w l + j) else f.aT 6 w l
  let legalWidth (eff : XaF → State → State → Prop) (f : XaF) (s t : State) : Prop :=
    (s.w.width = 16 ∨ s.w.width = 32 ∨ s.w.width = 64) → eff f s t
  BaDoes .shflBA 6 specShfl 6 (legalWidth (ToLanes shfl)) ∧ XaDoes .shflXA 6 specShfl (legalWidth (ToLanes shfl))
  ∧ BaDoes .bcastBA 6 specBcast 6 (fun f s t => LaneWord s t f.d9.toNat (s.w.active f.kmask.toNat)
      (opBcast f s.w (s.w.active f.kmask.toNat)))
  ∧ XaDoes .bcastXA 6 specBcast (fun f s t => LaneWord s t f.d9.toNat (s.w.active f.kmask.toNat)
      (opBcast f s.w (s.w.active f.kmask.toNat)))
  ∧ BothGive .qswapBA .qswapXA 6 specQswap 6 (fun f w l => f.aT 6 w (l ^^^ (f.variant + 1)))
  ∧ BothGive .qbcastBA .qbcastXA 6 specQbcast 6 (fun f w l => f.aT 6 w (4 * (l / 4) + f.imm8.toNat % 4))

/-- A result per group of lanes goes to the lanes of `m`, or as one RQ entry: at width 16 one half per group (02 R26, R31). -/
def Sys2Proof.Claims.LaneGroups (s t : State) (d m : Nat) (res : Nat → Nat) : Prop :=
  (∀ r l, l < 64 → t.w.getV r l =
      if laneIx d = .v r ∧ l < s.w.lanes ∧ bit m l = true then res (s.w.groupOf l).1 % 2 ^ 32 else s.w.getV r l)
    ∧ t.w.rq = (if laneIx d = .rq then s.w.rq ++ [BitVec.ofNat 64
        (if s.w.width = 16 then res 0 % 2 ^ 32 + (res 16 % 2 ^ 32) * 2 ^ 32 else res 0)] else s.w.rq)
    ∧ t.w.kreg = s.w.kreg ∧ t.w.exec = s.w.exec
    ∧ NewSectors s t (fun r l => laneIx d = .v r ∧ l < s.w.lanes ∧ bit m l = true)

/-- REDUCE, SCAN, HIST and HMERGE complete over the active lanes that are no helper lanes; REDUCE gives each group one
result (06 R159, R160, R133). -/
def Sys2Proof.Claims.LaneReductions : Prop :=
  let voters (f : XaF) (s : State) : Nat := s.w.voters (s.w.active f.kmask.toNat)
  let act (f : XaF) (s : State) : Nat := s.w.active f.kmask.toNat
  XaDoes .reduce 24 (specReduce [0]) (fun f s t =>
    Claims.LaneGroups s t f.d9.toNat (voters f s) (fun g => reduceGroup f s.w (act f s) g (s.w.groupOf g).2))
  ∧ XaDoes .scan 24 (specReduce [0, 1]) (fun f s t => LaneWord s t f.d9.toNat (voters f s) (fun l =>
      let q := s.w.groupOf l
      let ls := (lanesOf (voters f s) s.w.lanes).filter (fun i => decide (q.1 ≤ i ∧ i < q.1 + q.2))
      (((scanLanes f s.w ls none 0).find? (fun o => o.1 == l)).map (fun o => o.2)).getD 0))
  ∧ XaDoes .hist 24 specBcast (fun f s t => LaneWord s t f.d9.toNat (voters f s) (opHist f s.w (act f s)))
  ∧ XaDoes .hmerge 24 specBcast (fun f s t => LaneWord s t f.d9.toNat (voters f s) (opHmerge f s.w (act f s)))

/-- What VOTE gives: a mask register, the voting lanes of a register (two registers for a ballot of 64 lanes), or one RQ
entry. -/
def Sys2Proof.Claims.VoteEffect (f : XaF) (s t : State) : Prop :=
  let act := s.w.active f.kmask.toNat
  let res (g : Nat) : Nat := voteGroup f s.w act g (s.w.groupOf g).2
  let p := s.w.voters act
  if f.imm8.getLsbD 7 then LaneMask s t (f.d9.toNat % 8) s.w.allLanes (bit (voteMask f s.w act))
  else if s.w.width = 64 ∧ f.variant = 2 ∧ f.d9.toNat < 320 then
    (∀ r l, l < 64 → t.w.getV r l =
      if bit p l = true ∧ r = f.d9.toNat then res 0 % 2 ^ 32
      else if bit p l = true ∧ r = f.d9.toNat + 1 then res 0 / 2 ^ 32 % 2 ^ 32 else s.w.getV r l)
    ∧ t.w.kreg = s.w.kreg ∧ t.w.exec = s.w.exec ∧ t.w.rq = s.w.rq
    ∧ NewSectors s t (fun r l => l < 64 ∧ bit p l = true ∧ (r = f.d9.toNat ∨ r = f.d9.toNat + 1))
  else Claims.LaneGroups s t f.d9.toNat p res

/-- VOTE's page for a wave: a ballot of 64 lanes to a register writes a pair. -/
def Sys2Proof.Claims.voteSpec (s : State) (f : XaF) : XaSpec :=
  if s.w.width = 64 ∧ f.variant = 2 ∧ f.d9.toNat < 320 ∧ f.imm8.getLsbD 7 = false then { specVote f with d := .vpair }
  else specVote f

/-- VOTE completes in both encodings (06 R158); a ballot of 64 lanes also needs the next register, so that d is not v319. -/
def Sys2Proof.Claims.LaneVotes : Prop :=
  let ok (f : XaF) (s : State) : Prop := LaneOk s (Claims.voteSpec s f) f []
    ∧ (s.w.width = 64 → f.variant = 2 → f.imm8.getLsbD 7 = false → f.d9.toNat = 319 → 40 < s.w.g)
  (∀ (f : XaF) (s : State), Issues s .lane 6 → legalXa (specVote f) f = none → ok f s →
    ∃ t, exec (.voteXA f) s = .next t ∧ OnlyWave s t 6 ∧ LaneFrame s t (xaWords f) (s.w.xaSrcs (specVote f) f)
      ∧ Claims.VoteEffect f s t)
  ∧ (∀ (b : BaF) (s : State), let f := xaOfBa 6 b
    Issues s .lane 6 → legalBa specVote 6 b = none → ok f s →
    ∃ t, exec (.voteBA b) s = .next t ∧ OnlyWave s t 6 ∧ LaneFrame s t (baWords b) (s.w.xaSrcs (specVote f) f)
      ∧ Claims.VoteEffect f s t)

/-- The reducing cross-lane forms and VOTE (06 R133, R158 to R160). -/
def Obligations.LaneReductionsAndVotes : Prop :=
  Claims.LaneReductions ∧ Claims.LaneVotes

/-- CXSTAGE completes at a stage below log2 of the group: both registers of its pair are written in the active lanes, and
RETCNT0 counts it (06 R161; 03 R82). -/
def Sys2Proof.Claims.ButterflyStageCompletes : Prop :=
  ∀ (f : XaF) (s : State), Issues s .lane 24 → legalXa (specCx f) f = none → LaneOk s (specCx f) f [] →
    f.imm8.toNat % 8 < groupLog (s.w.groupOf 0).2 →
    ∃ t, exec (.cxstage f) s = .next t ∧ OnlyWave (s.countRet 0) t 24
      ∧ LaneFrame s t (xaWords f) (s.w.xaSrcs (specCx f) f)
      ∧ (∀ r l, l < 64 → t.w.getV r l =
          if l < s.w.lanes ∧ bit (s.w.active f.kmask.toNat) l = true ∧ r = f.d9.toNat then (cxLane f s.w l).1 % 2 ^ 32
          else if l < s.w.lanes ∧ bit (s.w.active f.kmask.toNat) l = true ∧ r = f.d9.toNat + 1 then
            (cxLane f s.w l).2 % 2 ^ 32
          else s.w.getV r l)
      ∧ NewSectors s t (fun r l => l < s.w.lanes ∧ bit (s.w.active f.kmask.toNat) l = true
          ∧ (r = f.d9.toNat ∨ r = f.d9.toNat + 1))
      ∧ t.w.kreg = s.w.kreg ∧ t.w.exec = s.w.exec ∧ t.w.rq = s.w.rq
      ∧ t.retcnt = modAt s.retcnt 0 (fun x => (x + 1) % 2 ^ 32)

/-- The exchanges between lanes, single-cycle and microcoded (06 R156, R157, R161). -/
def Obligations.LaneExchangesAndButterflies : Prop :=
  Claims.LaneExchange ∧ Claims.ButterflyStageCompletes

/-! ## The lane stream: moves, masks, `exec` and handler access (06 R162 to R164) -/

/-- MOV copies a lane's source; MOVREL reads and MOVRELW writes the register whose number is a9, or d9, plus b; VRDL and
VWRL reach any register of any lane from a handler (06 R162, R164). -/
def Sys2Proof.Claims.LaneMoves : Prop :=
  BothGive .movBA .movXA 4 specMov 6 (fun f w l => (aB f w l).toNat)
  ∧ (∀ (f : XaF) (s : State), Issues s .lane 4 → legalXa (specMovrel f) f = none →
    let act := s.w.active f.kmask.toNat
    let ix (l : Nat) : Nat := f.a9.toNat + f.bT 6 s.w l
    s.laneReady [f.b9.toNat] [f.d9.toNat] = .ok () → s.regCheck act (vRegs [f.d9.toNat, f.b9.toNat]) = .ok () →
    (∀ l ∈ lanesOf act s.w.lanes, ix l < 8 * s.w.g) → s.laneReady ((lanesOf act s.w.lanes).map ix) [] = .ok () →
    ∃ t, exec (.movrel f) s = .next t ∧ OnlyWave s t 4 ∧ LaneFrame s t (xaWords f) [f.b9.toNat]
      ∧ LaneWord s t f.d9.toNat act (fun l => s.w.getV (ix l) l))
  ∧ (∀ (f : XaF) (s : State), Issues s .lane 4 → legalXa (specMovrelw f) f = none →
    let act := s.w.active f.kmask.toNat
    let ix (l : Nat) : Nat := f.d9.toNat + f.bT 6 s.w l
    s.laneReady [f.a9.toNat, f.b9.toNat] [] = .ok () → s.regCheck act (vRegs [f.a9.toNat, f.b9.toNat]) = .ok () →
    (∀ l ∈ lanesOf act s.w.lanes, ix l < 8 * s.w.g) → s.laneReady [] ((lanesOf act s.w.lanes).map ix) = .ok () →
    ∃ t, exec (.movrelw f) s = .next t ∧ OnlyWave s t 4 ∧ LaneFrame s t (xaWords f) [f.a9.toNat, f.b9.toNat]
      ∧ (∀ r l, l < 64 → t.w.getV r l =
          if l < s.w.lanes ∧ bit act l = true ∧ r = ix l then f.aT 6 s.w l % 2 ^ 32 else s.w.getV r l)
      ∧ NewSectors s t (fun r l => l < s.w.lanes ∧ bit act l = true ∧ r = ix l)
      ∧ t.w.kreg = s.w.kreg ∧ t.w.exec = s.w.exec ∧ t.w.rq = s.w.rq)

/-- VRDL reads, in each active lane, register v(a) of lane b; VWRL writes a to register v(b) of lane c, where the highest
writing lane stands. Both complete only in a handler (06 R164). -/
def Sys2Proof.Claims.HandlerLaneAccess : Prop :=
  (∀ (f : XaF) (s : State), Issues s .lane 4 → legalXa (specVrdl f) f = none → s.w.inTrap = true →
    LaneOk s (specVrdl f) f [] →
    let act := s.w.active f.kmask.toNat
    (∀ l ∈ lanesOf act s.w.lanes, f.bT 6 s.w l < s.w.lanes ∧ f.aT 6 s.w l < 8 * s.w.g) →
    s.laneReady ((lanesOf act s.w.lanes).map (f.aT 6 s.w)) [] = .ok () →
    ∃ t, exec (.vrdl f) s = .next t ∧ OnlyWave s t 4 ∧ LaneFrame s t (xaWords f) (s.w.xaSrcs (specVrdl f) f)
      ∧ LaneWord s t f.d9.toNat act (fun l => s.w.getV (f.aT 6 s.w l) (f.bT 6 s.w l)))
  ∧ (∀ (f : XaF) (s : State), Issues s .lane 4 → legalXa (specVwrl f) f = none → s.w.inTrap = true →
    LaneOk s (specVwrl f) f [] →
    let act := s.w.active f.kmask.toNat
    (∀ l ∈ lanesOf act s.w.lanes, f.cT 6 s.w l < s.w.lanes ∧ f.bT 6 s.w l < 8 * s.w.g) →
    s.laneReady [] ((lanesOf act s.w.lanes).map (f.bT 6 s.w)) = .ok () →
    ∃ t, exec (.vwrl f) s = .next t ∧ OnlyWave s t 4 ∧ LaneFrame s t (xaWords f) (s.w.xaSrcs (specVwrl f) f)
      ∧ (∀ r l, l < 64 → t.w.getV r l =
          match ((lanesOf act s.w.lanes).filter (fun i => f.bT 6 s.w i == r && f.cT 6 s.w i == l)).getLast? with
          | some i => f.aT 6 s.w i % 2 ^ 32
          | none => s.w.getV r l)
      ∧ NewSectors s t (fun r l => ∃ i ∈ lanesOf act s.w.lanes, f.bT 6 s.w i = r ∧ f.cT 6 s.w i = l)
      ∧ t.w.kreg = s.w.kreg ∧ t.w.exec = s.w.exec ∧ t.w.rq = s.w.rq)

/-- The moves of the lane stream and the register accesses of a handler (06 R162, R164). -/
def Obligations.LaneRegisterMoves : Prop :=
  Claims.LaneMoves ∧ Claims.HandlerLaneAccess

/-- KAND, KOR, KXOR, KNOT and KMOV write every bit of a mask register, whatever `exec` holds (06 R162). -/
def Sys2Proof.Claims.MaskRegisterLogic : Prop :=
  let does (i : BaF → Instr) (useB : Bool) (op : Bool → Bool → Bool) : Prop :=
    ∀ (f : BaF) (s : State), Issues s .lane 4 → legalK useB f = none →
      ∃ t, exec (i f) s = .next t ∧ OnlyWave s t 4 ∧ LaneFrame s t 1 []
        ∧ LaneMask s t f.d.toNat s.w.allLanes
            (fun l => op (bit (s.w.getK f.a.toNat) l) (bit (s.w.getK f.b.toNat) l))
  does .kand true (fun a b => a && b) ∧ does .kor true (fun a b => a || b) ∧ does .kxor true (fun a b => a != b)
  ∧ does .knot false (fun a _ => !a) ∧ does .kmov false (fun a _ => a)

/-- The destination pair of GETEXEC and the source pair of SETEXEC at width 64 (06 R163). -/
def Sys2Proof.Claims.wideSpec (s : State) (sp : XaSpec) : XaSpec :=
  if s.w.width = 64 ∧ sp.d ≠ .none ∧ sp.d ≠ .kreg then { sp with d := .vpair }
  else if s.w.width = 64 ∧ sp.d = .none ∧ sp.a = .any then { sp with a := .vpair } else sp

/-- What GETEXEC gives: `exec` as a mask register, as a word per lane (at width 16 the half of the lane's group), or at
width 64 as a pair of words. -/
def Sys2Proof.Claims.GetexecEffect (f : XaF) (s t : State) : Prop :=
  let act := s.w.active f.kmask.toNat
  if f.imm8.getLsbD 7 then LaneMask s t (f.d9.toNat % 8) s.w.allLanes (bit s.w.exec)
  else if s.w.width = 64 ∧ f.d9.toNat < 320 then
    (∀ r l, l < 64 → t.w.getV r l =
      if bit act l = true ∧ r = f.d9.toNat then s.w.exec % 2 ^ 32
      else if bit act l = true ∧ r = f.d9.toNat + 1 then s.w.exec / 2 ^ 32 % 2 ^ 32 else s.w.getV r l)
    ∧ t.w.kreg = s.w.kreg ∧ t.w.exec = s.w.exec ∧ t.w.rq = s.w.rq
    ∧ NewSectors s t (fun r l => l < 64 ∧ bit act l = true ∧ (r = f.d9.toNat ∨ r = f.d9.toNat + 1))
  else LaneWord s t f.d9.toNat act (fun l => if s.w.width = 16 then s.w.exec / 2 ^ (l / 16 * 16) % 2 ^ 16 else s.w.exec % 2 ^ 32)

/-- GETEXEC reads and SETEXEC writes `exec`, in both encodings (06 R163). -/
def Sys2Proof.Claims.ExecAccess : Prop :=
  let getOk (f : XaF) (s : State) : Prop :=
    LaneOk s (Claims.wideSpec s (specGetexec f)) f [] ∧ (f.imm8.getLsbD 7 = false → s.w.width = 64 → f.d9.toNat ≤ 318)
  let setOk (f : XaF) (s : State) : Prop :=
    LaneOk s (Claims.wideSpec s (specSetexec f)) f [] ∧ (f.imm8.getLsbD 6 = false → s.w.width = 64 → f.a9.toNat ≤ 318)
  let setEffect (f : XaF) (s t : State) : Prop :=
    t.w.exec = setexecVal f s.w ∧ t.w.v = s.w.v ∧ t.w.sect = s.w.sect ∧ t.w.kreg = s.w.kreg ∧ t.w.rq = s.w.rq
  (∀ (f : XaF) (s : State), Issues s .lane 4 → legalXa (specGetexec f) f = none → getOk f s →
    ∃ t, exec (.getexecXA f) s = .next t ∧ OnlyWave s t 4 ∧ LaneFrame s t (xaWords f) [] ∧ Claims.GetexecEffect f s t)
  ∧ (∀ (b : BaF) (s : State), let f := xaOfBa 6 b
    Issues s .lane 4 → legalBa specGetexec 6 b = none → getOk f s →
    ∃ t, exec (.getexecBA b) s = .next t ∧ OnlyWave s t 4 ∧ LaneFrame s t (baWords b) [] ∧ Claims.GetexecEffect f s t)
  ∧ (∀ (f : XaF) (s : State), Issues s .lane 4 → legalXa (specSetexec f) f = none → setOk f s →
    ∃ t, exec (.setexecXA f) s = .next t ∧ OnlyWave s t 4
      ∧ LaneFrame s t (xaWords f) (s.w.xaSrcs (Claims.wideSpec s (specSetexec f)) f) ∧ setEffect f s t)
  ∧ (∀ (b : BaF) (s : State), let f := xaOfBa 6 b
    Issues s .lane 4 → legalBa specSetexec 6 b = none → setOk f s →
    ∃ t, exec (.setexecBA b) s = .next t ∧ OnlyWave s t 4
      ∧ LaneFrame s t (baWords b) (s.w.xaSrcs (Claims.wideSpec s (specSetexec f)) f) ∧ setEffect f s t)

/-- The mask forms, and the reads and writes of exec (06 R162, R163). -/
def Obligations.MasksAndExec : Prop :=
  Claims.MaskRegisterLogic ∧ Claims.ExecAccess

/-! ## Lane control flow (07 R177 to R184) -/

/-- The state after an instruction's own effect has been issued: `issued` adds the charge and the per-issue counts only. -/
def Sys2Proof.Claims.Ends (i : Instr) (s t : State) (weight : Nat) : Prop := exec i s = .next (t.issued weight)

/-- A legal instruction of a wave issues and is stopped by a fault of its own: it is charged, and the fault is taken with
nothing else of it done (17 R383; 18 R410, R411). -/
def Sys2Proof.Claims.Stops (i : Instr) (s : State) (weight : Nat) (x : Stop) : Prop :=
  exec i s = .next ((s.charge s.w.core weight).stopWith i.word0 x)

/-- QUEUE_OVERRUN stops a legal instruction of a wave: it is charged, OVERRUN of its node counts it, and the fault is taken
(14 R328; 18 R410). -/
def Sys2Proof.Claims.Overruns (i : Instr) (s : State) (x : Stop) : Prop :=
  exec i s = .next ((((s.countOverrun s.w.key.node).stopWith i.word0 x)).charge s.w.core 8)

/-- The target of a branch with offset `off` words from the next instruction (03 R66). -/
def Sys2Proof.Claims.goes (next : Nat) (off : BitVec 21) : Nat := (BitVec.ofInt 64 ((next : Int) + 4 * off.toInt)).toNat

/-- BRDQ pops one DQ entry and branches when it is not 0; CALLL pushes a call entry of the next PC and `exec` and goes to
its target (07 R178, R181). -/
def Sys2Proof.Claims.LaneBranchAndCall : Prop :=
  (∀ (f : BbF) (s : State) (x : Word) (rest : List Word), Issues s .lane 4 → s.w.dq = x :: rest →
    Claims.Ends (.brdq f) s (s.modW (fun w => { w with
      dq := rest, lanePc := if x = 0#32 then w.lanePc + 4 else Claims.goes (w.lanePc + 4) f.off21 })) 4)
  ∧ (∀ (f : BbF) (s : State), Issues s .lane 4 → s.w.stack.length < 24 →
    Claims.Ends (.calll f) s (s.modW (fun w => { w with
      stack := { pc := w.lanePc + 4, rpc := kindCall, mask := w.exec } :: w.stack
      lanePc := Claims.goes (w.lanePc + 4) f.off21 })) 4)
  ∧ (∀ (f : BbF) (s : State), Issues s .lane 4 → s.w.stack.length ≥ 24 → 24 * (s.w.spill + 1) ≤ s.w.k.divspill →
    ∃ t, exec (.calll f) s = .next t ∧ t.w.lanePc = Claims.goes (s.w.lanePc + 4) f.off21
      ∧ t.w.stack = { pc := s.w.lanePc + 4, rpc := kindCall, mask := s.w.exec } :: s.w.stack.dropLast
      ∧ t.w.spill = s.w.spill + 1 ∧ t.w.exec = s.w.exec ∧ t.w.v = s.w.v ∧ t.w.s = s.w.s ∧ t.w.kreg = s.w.kreg
      ∧ ∀ a, (a < s.w.spillBase + 24 * s.w.spill ∨ s.w.spillBase + 24 * (s.w.spill + 1) ≤ a) →
          memByte t.mem a = memByte s.mem a)

/-- BDIV: with a uniform predicate all active lanes go one way; with lanes on both sides it pushes a pending entry for the
lanes that fall through and goes on with the others at the target (07 R179). -/
def Obligations.LaneDivergence : Prop :=
  ∀ (f : BlF) (s : State), Issues s .lane 4 → legalBdiv f = none →
    let srcs := if f.xop.getLsbD 0 then [] else [f.a9.toNat]
    s.laneReady srcs [] = .ok () → s.regCheck s.w.exec (vRegs srcs) = .ok () → s.w.stack.length < 24 →
    let next := s.w.lanePc + 12
    let tgt := Claims.goes next f.off21
    let lanesTrue := s.w.exec &&& bdivPred f s.w
    let popped (w : Wave) : Wave := { w with
      lq := if srcs.contains 320 then w.lq.tail else w.lq, dq := if srcs.contains 321 then w.dq.tail else w.dq }
    let goTo (pc : Nat) : State := s.modW (fun w => { popped w with lanePc := pc })
    (bdivUniform f = true → Claims.Ends (.bdiv f) s (goTo (if s.w.src none f.a9.toNat 0 ≠ 0 then tgt else next)) 4)
    ∧ (bdivUniform f = false → lanesTrue = 0 → Claims.Ends (.bdiv f) s (goTo next) 4)
    ∧ (bdivUniform f = false → lanesTrue ≠ 0 → lanesTrue = s.w.exec → Claims.Ends (.bdiv f) s (goTo tgt) 4)
    ∧ (bdivUniform f = false → lanesTrue ≠ 0 → lanesTrue ≠ s.w.exec →
        Claims.Ends (.bdiv f) s (s.modW (fun w => { popped w with
          stack := { pc := next, rpc := Claims.goes next f.off21b, mask := w.exec ^^^ lanesTrue } :: w.stack
          exec := lanesTrue, lanePc := tgt })) 4)

/-- RECONV at the top entry: another address or a call entry is left alone, a pending entry swaps the two sides, a join
entry merges them. RETL returns through a call entry, and EXIT clears `exec`; with an empty stack the lane stream has
finished (07 R180 to R182). -/
def Sys2Proof.Claims.LaneReconvergence : Prop :=
  (∀ (f : BaF) (s : State), Issues s .lane 4 → legalBare f = none → s.w.stack = [] → s.w.spill = 0 →
    Claims.Ends (.reconv f) s (s.modW (fun w => { w with lanePc := w.lanePc + 4 })) 4)
  ∧ (∀ (f : BaF) (s : State) (e : SEntry) (rest : List SEntry), Issues s .lane 4 → legalBare f = none →
      s.w.stack = e :: rest →
    ((e.kind = kindCall ∨ e.rpc / 4 ≠ s.w.lanePc / 4) →
      Claims.Ends (.reconv f) s (s.modW (fun w => { w with lanePc := w.lanePc + 4 })) 4)
    ∧ (e.kind = kindPending → e.rpc / 4 = s.w.lanePc / 4 →
      Claims.Ends (.reconv f) s (s.modW (fun w => { w with
        exec := e.mask, lanePc := e.pc
        stack := { pc := e.pc, mask := w.exec, rpc := e.rpc / 4 * 4 + kindJoin } :: rest })) 4)
    ∧ (e.kind = kindJoin → e.rpc / 4 = s.w.lanePc / 4 →
      Claims.Ends (.reconv f) s (s.modW (fun w => { w with exec := w.exec ||| e.mask, stack := rest })) 4)
    ∧ (e.kind = kindCall →
      Claims.Ends (.retl f) s (s.modW (fun w => { w with exec := w.exec &&& e.mask, stack := rest, lanePc := e.pc })) 4))
  ∧ (∀ (f : BaF) (s : State), Issues s .lane 4 → legalBare f = none →
    Claims.Ends (.exit f) s (s.modW (fun w => { w with
      exec := 0, laneDone := w.laneDone || (w.stack.isEmpty && w.spill == 0), lanePc := w.lanePc + 4 })) 4)

/-- The control flow of the lane stream (07 R178, R180 to R182). -/
def Obligations.LaneControlFlow : Prop :=
  Claims.LaneBranchAndCall ∧ Claims.LaneReconvergence

/-! ## The lead stream: scalars (07 R165 to R168) -/

/-- What a lead scalar form leaves: one lead register may change, RQ loses an entry when a source names it, and the lead PC
moves past the instruction. -/
def Sys2Proof.Claims.LeadFrame (s t : State) (words : Nat) (d : LeadIx) (x : Nat) (pops : Bool) : Prop :=
  t.w = { s.w with
    s := t.w.s, rq := if pops then s.w.rq.tail else s.w.rq, leadPc := s.w.leadPc + 4 * words, tryLead := .issued
    deadlock := 0, refused := none }
  ∧ ∀ i, t.w.getS i = if d = .s i then x % 2 ^ 64 else s.w.getS i

/-- The sources that a form reads. -/
def Sys2Proof.Claims.leadSrcs (sp : LeadSpec) (o : LeadOp) : List LeadIx :=
  [o.a] ++ (if sp.useB then [o.b] else []) ++ (if sp.useC then [o.c] else [])

/-- A legal lead scalar form whose operands are ready and allocated writes its value, in this encoding. -/
def Sys2Proof.Claims.ScalarXaGives (i : XaF → Instr) (sp : LeadSpec) (val : LeadOp → Nat → Nat → Nat → Nat) : Prop :=
  ∀ (f : XaF) (s : State), let o := leadOfXa f
    Issues s .lead 1 → legalLeadXa sp f = none → s.leadOk (Claims.leadSrcs sp o) (leadDst o.d) = .ok () →
    let v (x : LeadIx) : Nat := s.w.leadVal f.lit x
    ∃ t, exec (i f) s = .next t ∧ OnlyWave s t 1
      ∧ Claims.LeadFrame s t (xaWords f) o.d (val o (v o.a) (v o.b) (v o.c)) ((Claims.leadSrcs sp o).contains .rq)

/-- The same for the base encoding, of type i64. -/
def Sys2Proof.Claims.ScalarBsGives (i : BaF → Instr) (sp : LeadSpec) (val : LeadOp → Nat → Nat → Nat → Nat) : Prop :=
  ∀ (f : BaF) (s : State), let o := leadOfBs f
    Issues s .lead 1 → legalLeadBs sp f = none → s.leadOk (Claims.leadSrcs sp o) (leadDst o.d) = .ok () →
    let v (x : LeadIx) : Nat := s.w.leadVal f.lit x
    ∃ t, exec (i f) s = .next t ∧ OnlyWave s t 1
      ∧ Claims.LeadFrame s t (baWords f) o.d (val o (v o.a) (v o.b) (v o.c)) ((Claims.leadSrcs sp o).contains .rq)

/-- Both encodings. -/
def Sys2Proof.Claims.ScalarGives (bs : BaF → Instr) (xa : XaF → Instr) (sp : LeadSpec) (val : LeadOp → Nat → Nat → Nat → Nat) : Prop :=
  Claims.ScalarBsGives bs sp val ∧ Claims.ScalarXaGives xa sp val

/-- A lead operand as an integer of the form's type: i64, i32 or u32 of its low half (07 R166). -/
def Sys2Proof.Claims.leadZ (o : LeadOp) (x : Nat) : Int :=
  if o.ty = 7 then (BitVec.ofNat 64 x).toInt else if o.ty = 5 then (BitVec.ofNat 32 x).toInt else ((BitVec.ofNat 32 x).toNat : Int)

/-- An integer as a 64-bit register: wrapped to the type, a 32-bit result sign- or zero-extended (07 R166). -/
def Sys2Proof.Claims.leadFit (o : LeadOp) (v : Int) : Nat :=
  if o.ty = 7 then (BitVec.ofInt 64 v).toNat
  else if o.ty = 5 then ((BitVec.ofInt 32 v).signExtend 64).toNat else (BitVec.ofInt 32 v).toNat

/-- A result held to the range of its type under `sat` (07 R166). -/
def Sys2Proof.Claims.leadSat (o : LeadOp) (v : Int) : Int :=
  if o.sat then
    (if o.ty = 7 then max (-(2 ^ 63)) (min v (2 ^ 63 - 1))
     else if o.ty = 5 then max (-(2 ^ 31)) (min v (2 ^ 31 - 1)) else max 0 (min v (2 ^ 32 - 1)))
  else v

/-- The width of a type (07 R166). -/
def Sys2Proof.Claims.leadW (o : LeadOp) : Nat := if o.ty = 7 then 64 else 32

/-- SADD, SSUB, SMUL, SMULHI, SMIN and SMAX complete with the exact result, saturated or wrapped, and extended (07 R166). -/
def Sys2Proof.Claims.LeadIntegerArithmetic : Prop :=
  let z := Claims.leadZ
  let put (o : LeadOp) (v : Int) : Nat := Claims.leadFit o (Claims.leadSat o v)
  Claims.ScalarGives .saddBS .saddXA specSadd (fun o a b _ => put o (z o a + z o b))
  ∧ Claims.ScalarGives .ssubBS .ssubXA specSadd (fun o a b _ => put o (z o a - z o b))
  ∧ Claims.ScalarGives .smulBS .smulXA specSadd (fun o a b _ => put o (z o a * z o b))
  ∧ Claims.ScalarGives .smulhiBS .smulhiXA specSand (fun o a b _ => put o ((z o a * z o b) / 2 ^ Claims.leadW o))
  ∧ Claims.ScalarGives .sminBS .sminXA specSand (fun o a b _ => put o (min (z o a) (z o b)))
  ∧ Claims.ScalarGives .smaxBS .smaxXA specSand (fun o a b _ => put o (max (z o a) (z o b)))

/-- SAND, SOR, SXOR, SMOV, SSHL, SSHR and SSAR complete; a shift by the width or more leaves 0, or copies of the sign bit of
the width (07 R166, R167). -/
def Sys2Proof.Claims.LeadLogicAndShifts : Prop :=
  let put (o : LeadOp) (x : Nat) : Nat := Claims.leadFit o (x : Int)
  let low (o : LeadOp) (x : Nat) : Nat := x % 2 ^ Claims.leadW o
  Claims.ScalarGives .sandBS .sandXA specSand (fun o a b _ => put o (a &&& b))
  ∧ Claims.ScalarGives .sorBS .sorXA specSand (fun o a b _ => put o (a ||| b))
  ∧ Claims.ScalarGives .sxorBS .sxorXA specSand (fun o a b _ => put o (a ^^^ b))
  ∧ Claims.ScalarGives .smovBS .smovXA specSmov (fun o a _ _ => put o a)
  ∧ Claims.ScalarGives .sshlBS .sshlXA specSand (fun o a b _ => if b < Claims.leadW o then put o (a * 2 ^ b) else 0)
  ∧ Claims.ScalarGives .sshrBS .sshrXA specSand (fun o a b _ => if b < Claims.leadW o then put o (low o a / 2 ^ b) else 0)
  ∧ Claims.ScalarGives .ssarBS .ssarXA specSand (fun o a b _ =>
      Claims.leadFit o ((BitVec.ofNat (Claims.leadW o) a).toInt / 2 ^ (min b (Claims.leadW o))))

/-- SCMP writes 1 or 0, SSEL picks a where c is not 0, and SBFX cuts out a field of b's offset and width, cut off at the
width of the type (07 R166 to R168). -/
def Sys2Proof.Claims.LeadCompareSelectExtract : Prop :=
  Claims.ScalarXaGives .scmp specScmp (fun o a b _ =>
    let x := Claims.leadZ o a
    let y := Claims.leadZ o b
    if [decide (x = y), decide (x ≠ y), decide (x < y), decide (x ≤ y), decide (x > y)].getD o.cc (decide (x ≥ y)) then 1
    else 0)
  ∧ Claims.ScalarXaGives .ssel specSsel (fun o a b c => Claims.leadFit o ((if c ≠ 0 then a else b : Nat) : Int))
  ∧ Claims.ScalarXaGives .sbfx specSbfx (fun o a b _ =>
    let w := Claims.leadW o
    let off := if w = 64 then b % 64 else b % 32
    let wid := if w = 64 then b / 256 % 128 else b / 256 % 64
    let e := min wid (w - off)
    let x := (a % 2 ^ w) / 2 ^ off % 2 ^ e
    Claims.leadFit o (if o.variant = 1 ∧ e > 0 then (BitVec.ofNat e x).toInt else (x : Int)))

/-- The scalar forms of the lead stream (07 R166 to R168). -/
def Obligations.LeadScalarForms : Prop :=
  Claims.LeadIntegerArithmetic ∧ Claims.LeadLogicAndShifts ∧ Claims.LeadCompareSelectExtract

/-! ## The lead stream: control flow (07 R169 to R176, R185 to R187) -/

/-- SBR, SCALL, SRET, JMPL and SDONE (07 R170 to R173): the branches of the lead stream, the link in s(SREGS − 1), the
release of a held lane stream, and the end of the lead stream. -/
def Sys2Proof.Claims.LeadJumps : Prop :=
  (∀ (f : BbF) (s : State), Issues s .lead 1 →
    Claims.Ends (.sbr f) s (s.modW (fun w => { w with leadPc := Claims.goes (w.leadPc + 4) f.off21 })) 1)
  ∧ (∀ (f : BbF) (s : State), Issues s .lead 1 → s.leadOk [] [s.w.k.sregs - 1] = .ok () →
    Claims.Ends (.scall f) s (s.modW (fun w =>
      { w.setS (s.w.k.sregs - 1) (w.leadPc + 4) with leadPc := Claims.goes (w.leadPc + 4) f.off21 })) 1)
  ∧ (∀ (f : BaF) (s : State), Issues s .lead 1 → legalSret f = none → s.leadOk [.s f.b.toNat] [] = .ok () →
    s.w.getS f.b.toNat % 4 = 0 → Claims.Ends (.sret f) s (s.modW (fun w => { w with leadPc := w.getS f.b.toNat })) 1)
  ∧ (∀ (f : BbF) (s : State), Issues s .lead 1 → s.w.lanePc = heldPc → s.w.laneDone = false →
    Claims.Ends (.jmpl f) s (s.modW (fun w =>
      { w with lanePc := Claims.goes (w.leadPc + 4) f.off21, leadPc := w.leadPc + 4 })) 1)
  ∧ (∀ (f : BaF) (s : State), Issues s .lead 1 → legalBare f = none →
    Claims.Ends (.sdone f) s (s.modW (fun w => { w with
      leadDone := true, laneDone := w.laneDone || (w.lanePc == heldPc), leadPc := w.leadPc + 4 })) 1)

/-- SBRC compares a register or inline integer with 0 and branches; SLOOP counts its register down and branches while it is
not 0; with their push bit both put the decision into DQ, which must have room (07 R170). -/
def Sys2Proof.Claims.LeadConditionalBranches : Prop :=
  let branch (f : BlF) (s : State) (w : Wave) (t : Bool) : Wave := { w with
    dq := if f.xop.getLsbD 3 then w.dq ++ [if t then 1#32 else 0#32] else w.dq
    leadPc := if t then Claims.goes (s.w.leadPc + 12) f.off21 else s.w.leadPc + 12 }
  (∀ (f : BlF) (s : State), Issues s .lead 1 → legalSbrc f = none → (f.xop.getLsbD 3 = true → s.w.dq.length < 16) →
    s.leadOk [leadIx9 f.a9.toNat] [] = .ok () →
    let x := (BitVec.ofNat 64 (s.w.leadVal none (leadIx9 f.a9.toNat))).toInt
    Claims.Ends (.sbrc f) s (s.modW (fun w => branch f s w
      ([decide (x = 0), decide (x ≠ 0), decide (x < 0), decide (x ≤ 0), decide (x > 0)].getD (f.xop.toNat % 8)
        (decide (x ≥ 0))))) 1)
  ∧ (∀ (f : BlF) (s : State), Issues s .lead 1 → legalSloop f = none → (f.xop.getLsbD 3 = true → s.w.dq.length < 16) →
    s.leadOk [.s f.a9.toNat] [f.a9.toNat] = .ok () →
    let x := BitVec.ofNat 64 (s.w.getS f.a9.toNat) - 1#64
    Claims.Ends (.sloop f) s (s.modW (fun w => branch f s (w.setS f.a9.toNat x.toNat) (decide (x ≠ 0#64)))) 1)

/-- DQPUSH appends the low 32 bits of its operand to DQ (07 R174). -/
def Sys2Proof.Claims.QueuePushOrder : Prop :=
  ∀ (f : BaF) (s : State), let x := leadIx7 f.b.toNat f.lit.isSome
    Issues s .lead 1 → legalB 32 (fun _ => true) f = none → s.leadReady [x] [] = .ok () → s.w.dq.length < 16 →
    s.sregCheck (leadRegs [x]) = .ok () →
    Claims.Ends (.dqpush f) s (s.modW (fun w => { w with
      rq := if x = .rq then w.rq.tail else w.rq, dq := w.dq ++ [BitVec.ofNat 32 (s.w.leadVal f.lit x)]
      leadPc := w.leadPc + 4 * baWords f })) 1

/-- The control flow of the lead stream and the pushes of the decoupling queue (07 R170 to R174). -/
def Obligations.LeadControlFlow : Prop :=
  Claims.LeadJumps ∧ Claims.LeadConditionalBranches ∧ Claims.QueuePushOrder

/-- VGIVE hands the top n granules of a wave to its block's reserve: their content is lost and their sectors are no longer
valid. VCLAIM takes n granules from it, which read 0, or parks its wave while the reserve is short or behind a claim of an
earlier cycle or of a lower wave slot, made or still to come in the cycle; after the issue slots of a cycle the claims that
stand are served in their order. Granules move in pairs at width 64 (07 R185; 02 R36; 04 R97; 08 R190). -/
def Sys2Proof.Claims.RegisterRedivision : Prop :=
  (∀ (f : BaF) (s : State), let x := leadIx7 f.b.toNat f.lit.isSome
    let n := s.w.leadVal f.lit x
    Issues s .lead 1 → legalB 64 countIx f = none → s.leadOk [x] [] = .ok () → n < s.w.g → s.claims s.w.key s.w.core = [] →
    ∃ t, exec (.vgive f) s = .next t ∧ t.w.g = s.w.g - n ∧ t.w.leadPc = s.w.leadPc + 4 * baWords f
      ∧ (∀ r l, l < 64 → t.w.getV r l = if n ≠ 0 ∧ 8 * (s.w.g - n) ≤ r ∧ r < 8 * s.w.g then 0 else s.w.getV r l)
      ∧ (∀ x, x ∈ t.w.sect ↔ x ∈ s.w.sect ∧ (n = 0 ∨ x < 8 * (s.w.g - n)))
      ∧ t.w.s = s.w.s ∧ t.w.kreg = s.w.kreg ∧ t.w.exec = s.w.exec ∧ MemKept s t
      ∧ (∀ b ∈ s.blocks, b.key = s.w.key → (b.segs.any (fun g => g.core == s.w.core)) = true →
          (s.blocks.map (fun b => b.key)).Nodup →
          t.reserve s.w.key s.w.core = s.reserve s.w.key s.w.core + s.w.granules n))
  ∧ (∀ (f : BaF) (s : State), let x := leadIx7 f.b.toNat f.lit.isSome
    let n := s.w.leadVal f.lit x
    Issues s .lead 1 → legalB 64 countIx f = none → s.leadOk [x] [] = .ok () → s.w.g + n ≤ 40 →
    s.w.granules n ≤ s.reserve s.w.key s.w.core →
    (∀ p ∈ s.claims s.w.key s.w.core, 64 * s.cycleOf s.w.core + s.w.slot ≤ p.1) →
    (∀ w ∈ s.waves, w.key = s.w.key → w.core = s.w.core → w.slot < s.w.slot → w.tryLead ≠ .ready) →
    Claims.Ends (.vclaim f) s ((if n = 0 then s else s.modSeg s.w.key s.w.core
        (fun g => { g with reserve := g.reserve - s.w.granules n })).modW
      (fun w => { (if n = 0 then w else w.grow n) with leadPc := w.leadPc + 4 * baWords f })) 1
    ∧ (s.w.grow n).g = s.w.g + n
    ∧ ∀ r l, l < 64 → (s.w.grow n).getV r l = if 8 * s.w.g ≤ r ∧ r < 8 * (s.w.g + n) then 0 else s.w.getV r l)
  ∧ (∀ (f : BaF) (s : State), let x := leadIx7 f.b.toNat f.lit.isSome
    let n := s.w.leadVal f.lit x
    Issues s .lead 1 → legalB 64 countIx f = none → s.leadOk [x] [] = .ok () → n ≠ 0 → s.w.g + n ≤ 40 →
    s.w.granules n ≤ s.couldHold →
    let place := 64 * s.cycleOf s.w.core + s.w.slot
    (s.reserve s.w.key s.w.core < s.w.granules n ∨ (∃ p ∈ s.claims s.w.key s.w.core, p.1 < place)
      ∨ ∃ w ∈ s.waves, w.key = s.w.key ∧ w.core = s.w.core ∧ w.slot < s.w.slot ∧ w.tryLead = .ready) →
    Claims.Ends (.vclaim f) s (s.modW (fun w => { w with
      status := .parked (.vclaim (baWords f) n place), parkCount := 0 })) 1)
  ∧ (∀ (s : State) (c q slot len n : Nat) (b : Block) (w : Wave), s.blocks = [b] → s.claims b.key c = [(q, slot, len, n)] →
    s.wave? c slot = some w →
    (w.granules n ≤ s.reserve b.key c → s.turn (.agent .serveClaims c 0 0) =
      .next ((s.modSeg b.key c (fun g => { g with reserve := g.reserve - w.granules n })).modWave c slot (fun w => { w.grow n with
        status := .running, leadPc := w.leadPc + 4 * len, parkCount := 0 })))
    ∧ (s.reserve b.key c < w.granules n → s.turn (.agent .serveClaims c 0 0) = .next s))

/-- ABORT raises its family's line, once: ABT in the family's descriptors, and void for its unplaced records; outside range
nodes it only moves on. POLLABT with the line raised empties the queues and the stack and restarts the wave at its abort
label, and otherwise only moves on (02 R42 to R44; 07 R186). -/
def Sys2Proof.Claims.AbortLines : Prop :=
  (∀ (f : BaF) (s : State), Issues s .lead 1 → legalBare f = none →
    let s' := s.modW (fun w => { w with leadPc := w.leadPc + 4 })
    (s.family s.w.key = none → Claims.Ends (.abort f) s s' 1)
    ∧ (∀ g a, s.family s.w.key = some (g, a) → (s.cluster g).abortLines.contains a = true →
        Claims.Ends (.abort f) s s' 1)
    ∧ (∀ g a, s.family s.w.key = some (g, a) → (s.cluster g).abortLines.contains a = false →
        Claims.Ends (.abort f) s (s'.raiseAbort g a) 1))
  ∧ (∀ (f : BaF) (s : State), Issues s .lead 1 → legalBare f = none →
    (s.lineRaised s.w = false → Claims.Ends (.pollabt f) s (s.modW (fun w => { w with leadPc := w.leadPc + 4 })) 1)
    ∧ (s.lineRaised s.w = true → s.w.k.abortPc ≠ 0 →
      ∃ t, exec (.pollabt f) s = .next t ∧ OnlyWave s t 1 ∧ t.w.lq = [] ∧ t.w.dq = [] ∧ t.w.rq = [] ∧ t.w.stack = []
        ∧ t.w.spill = 0 ∧ t.w.exec = s.w.allLanes ∧ t.w.aborted = true ∧ t.w.leadPc = s.w.k.abortPc ∧ t.w.leadDone = false
        ∧ (s.w.laneDone = false → t.w.lanePc = heldPc) ∧ t.w.v = s.w.v ∧ t.w.s = s.w.s ∧ t.w.kreg = s.w.kreg))

/-- The forms that move registers between waves and the abort forms (07 R185, R186; 02 R42 to R44; 04 R97). -/
def Obligations.PoolAndAbortForms : Prop :=
  Claims.RegisterRedivision ∧ Claims.AbortLines

/-! ## Memory instructions (11) -/

/-- A memory instruction at issue changes its wave, its core (L1 and TLB) and what is on its way, and nothing else; memory
itself is written when a store arrives at its home. -/
def Sys2Proof.Claims.Posted (s t : State) : Prop :=
  t = { s with w := t.w, clusters := t.clusters, cores := t.cores, net := t.net, nextId := t.nextId } ∧ MemKept s t

/-- What a lane memory form leaves of its wave: its destination registers, its bookkeeping of operations, and the queue
entries that its operands pop. -/
def Sys2Proof.Claims.LaneMemFrame (s t : State) (words : Nat) (pops : List Nat) : Prop :=
  t.w = { s.w with
    v := t.w.v, sect := t.w.sect, ops := t.w.ops, deferred := t.w.deferred, dirty := t.w.dirty
    lq := if pops.contains 320 then s.w.lq.tail else s.w.lq
    dq := if pops.contains 321 then s.w.dq.tail else s.w.dq
    lanePc := s.w.lanePc + 4 * words, tryLane := .issued, deadlock := 0, refused := none }

/-- What a lead memory form leaves of its wave. -/
def Sys2Proof.Claims.LeadMemFrame (s t : State) (words : Nat) (srcs : List LeadIx) : Prop :=
  t.w = { s.w with
    s := t.w.s, lq := t.w.lq, ops := t.w.ops, deferred := t.w.deferred, dirty := t.w.dirty
    rq := if srcs.contains .rq then s.w.rq.tail else s.w.rq
    leadPc := s.w.leadPc + 4 * words, tryLead := .issued, deadlock := 0, refused := none }

/-- A request of the wave's new operation is on its way. -/
def Sys2Proof.Claims.Sent (s t : State) (m : Req → Msg) (va pa : Nat) : Prop :=
  ∃ n ∈ t.net, n.msg = m { core := s.w.core, slot := s.w.slot, op := s.nextId, va := va, pa := pa }

/-- What a lane load does with its checked addresses `l`: with every byte at hand the words go to the destination's lanes at
once; else each line that is not is asked for, and no register changes yet (10 R220; 11 R237, R240). -/
def Sys2Proof.Claims.LaneLoadEffect (s t : State) (act code d : Nat) (l : List Acc) : Prop :=
  let n := sizeBytes code
  (∀ r k, k < 64 → ¬(d ≤ r ∧ r < d + sizeRegs code ∧ k < s.w.lanes ∧ bit act k = true) → t.w.getV r k = s.w.getV r k)
  ∧ (l.all (fun a => (s.here n a).isSome) = true → d < 320 →
      (∀ a ∈ l, ∀ bs, s.here n a = some bs → ∀ k < sizeRegs code, t.w.getV (d + k) a.lane = loadWord code bs k % 2 ^ 32)
      ∧ NewSectors s t (fun r k => d ≤ r ∧ r < d + sizeRegs code ∧ k < s.w.lanes ∧ bit act k = true))
  ∧ (320 ≤ d → t.w.sect = s.w.sect)
  ∧ (l.all (fun a => (s.here n a).isSome) = false → t.w.v = s.w.v ∧ t.w.sect = s.w.sect
      ∧ ∀ a ∈ l, s.here n a = none → ∃ va parts fill, (a.lane, a.pa - lineOf a.pa, n) ∈ parts
          ∧ Claims.Sent s t (fun r => .load r parts fill false) va (lineOf a.pa))

/-- What a lane store does with its checked addresses: one write for each line is on its way home, with the bytes of every
lane at its offset, the highest lane last (11 R240; 10 R218). -/
def Sys2Proof.Claims.LaneStoreEffect (s t : State) (l : List Acc) (data : Nat → List Byte) (push : List Nat) : Prop :=
  t.w.v = s.w.v ∧ t.w.sect = s.w.sect ∧ ∀ va line parts, (va, line, parts) ∈ byLine l →
    Claims.Sent s t (fun r => .store r (lineData data parts) (if isHostPa line then [] else push)) va line

/-- LD and ST complete in both encodings, for every size: a load at its checked addresses writes or asks for its words, and
a store sends its bytes; no byte of memory and no other register changes at issue (11 R232 to R240). -/
def Sys2Proof.Claims.LaneLoadsAndStores : Prop :=
  let loadOk (s : State) (kmask code d : Nat) (srcs : List Nat) (ea : Wave → Nat → Int) (l : List Acc) : Prop :=
    s.laneReady srcs (wideRegs d (sizeRegs code)) = .ok () ∧ s.w.counter .laneLd < 63
    ∧ s.regCheck (s.w.active kmask) (wideRegs d (sizeRegs code) ++ vRegs srcs) = .ok ()
    ∧ s.checkAccess true 0 code (sizeBytes code) (lanesEa s.w (s.w.active kmask) ea) = .ok l
  let storeOk (s : State) (kmask code : Nat) (all : List Nat) (ea : Wave → Nat → Int) (l : List Acc) : Prop :=
    s.laneReady all [] = .ok () ∧ s.w.counter .laneSt < 63 ∧ s.regCheck (s.w.voters (s.w.active kmask)) (vRegs all) = .ok ()
    ∧ s.checkAccess true 1 code (sizeBytes code) (lanesEa s.w (s.w.voters (s.w.active kmask)) ea) = .ok l
    ∧ s.plainCheck true (sizeBytes code) l = .ok ()
  (∀ (m : BitVec 3) (f : BmF) (s : State) (l : List Acc), let code := m.toNat
    Issues s .lane 16 → legalLdBm code f = none →
    loadOk s 0 code f.d.toNat (wideRegs f.a.toNat 2) (eaBm f (sizeBytes code)) l →
    ∃ t, exec (.ldBM m f) s = .next t ∧ Claims.Posted s t ∧ Charged s t 16
      ∧ Claims.LaneMemFrame s t 1 (wideRegs f.a.toNat 2) ∧ Claims.LaneLoadEffect s t (s.w.active 0) code f.d.toNat l)
  ∧ (∀ (m : BitVec 3) (f : XmF) (s : State) (l : List Acc), let code := m.toNat
    Issues s .lane 16 → legalLdXm code f = none → loadOk s f.kmask.toNat code f.d9.toNat (xmAddrSrcs f) (eaXm f) l →
    ∃ t, exec (.ldXM m f) s = .next t ∧ Claims.Posted s t ∧ Charged s t 16
      ∧ Claims.LaneMemFrame s t (xmWords f) (xmAddrSrcs f)
      ∧ Claims.LaneLoadEffect s t (s.w.active f.kmask.toNat) code f.d9.toNat l)
  ∧ (∀ (m : BitVec 3) (f : BmF) (s : State) (l : List Acc), let code := m.toNat
    let all := wideRegs f.a.toNat 2 ++ wideSrc f.d.toNat (sizeRegs code)
    Issues s .lane 16 → legalStBm code f = none → storeOk s 0 code all (eaBm f (sizeBytes code)) l →
    ∃ t, exec (.stBM m f) s = .next t ∧ Claims.Posted s t ∧ Charged s t 16 ∧ Claims.LaneMemFrame s t 1 all
      ∧ Claims.LaneStoreEffect s t l (dataBytes s.w none f.d.toNat code) [])
  ∧ (∀ (m : BitVec 3) (f : XmF) (s : State) (l : List Acc), let code := m.toNat
    let all := xmAddrSrcs f ++ wideSrc f.d9.toNat (sizeRegs code)
    Issues s .lane 16 → legalStXm code f = none → storeOk s f.kmask.toNat code all (eaXm f) l →
    ∃ t, exec (.stXM m f) s = .next t ∧ Claims.Posted s t ∧ Charged s t 16 ∧ Claims.LaneMemFrame s t (xmWords f) all
      ∧ Claims.LaneStoreEffect s t l (dataBytes s.w f.lit f.d9.toNat code) [])

/-- An access whose lanes have the addresses `eas` traps at them (11 R235): outside 0 to 2^47 − 1 is PAGE_PROT with the kind
of the access in DETAIL, before a misaligned one, which is MISALIGNED with the size code in DETAIL; TADDR is the address of
the lowest such lane. -/
def Sys2Proof.Claims.AddressTraps (i : Instr) (s : State) (code kind : Nat) (eas : List (Nat × Int)) : Prop :=
  let odd := eas.filter (fun p => decide (p.2 % (sizeBytes code : Int) ≠ 0))
  let raises (cause detail : Nat) (l : List (Nat × Int)) (ea : Int) : Prop :=
    Claims.Stops i s 16 (.trap cause (maskOf (l.map (fun p => p.1))) (BitVec.ofInt 64 ea).toNat detail)
  (∀ p rest, eas.filter (fun p => !decide (0 ≤ p.2 ∧ p.2 < 2 ^ 47)) = p :: rest →
    raises 0x0A (if kind = 1 then 1 <<< 12 else 0) (p :: rest) p.2)
  ∧ (eas.all (fun p => decide (0 ≤ p.2 ∧ p.2 < 2 ^ 47)) = true → ∀ p rest, odd = p :: rest →
    raises 0x08 (code <<< 11) (p :: rest) p.2)

/-- Where LD and ST, in both encodings, trap at the address (11 R235, R236). -/
def Sys2Proof.Claims.LaneAddressTraps : Prop :=
  let loadReady (s : State) (kmask code d : Nat) (srcs : List Nat) : Prop :=
    s.laneReady srcs (wideRegs d (sizeRegs code)) = .ok () ∧ s.w.counter .laneLd < 63
    ∧ s.regCheck (s.w.active kmask) (wideRegs d (sizeRegs code) ++ vRegs srcs) = .ok ()
  let storeReady (s : State) (kmask : Nat) (all : List Nat) : Prop :=
    s.laneReady all [] = .ok () ∧ s.w.counter .laneSt < 63 ∧ s.regCheck (s.w.voters (s.w.active kmask)) (vRegs all) = .ok ()
  (∀ (m : BitVec 3) (f : BmF) (s : State), Issues s .lane 16 → legalLdBm m.toNat f = none →
    loadReady s 0 m.toNat f.d.toNat (wideRegs f.a.toNat 2) →
    Claims.AddressTraps (.ldBM m f) s m.toNat 0 (lanesEa s.w (s.w.active 0) (eaBm f (sizeBytes m.toNat))))
  ∧ (∀ (m : BitVec 3) (f : XmF) (s : State), Issues s .lane 16 → legalLdXm m.toNat f = none →
    loadReady s f.kmask.toNat m.toNat f.d9.toNat (xmAddrSrcs f) →
    Claims.AddressTraps (.ldXM m f) s m.toNat 0 (lanesEa s.w (s.w.active f.kmask.toNat) (eaXm f)))
  ∧ (∀ (m : BitVec 3) (f : BmF) (s : State), Issues s .lane 16 → legalStBm m.toNat f = none →
    storeReady s 0 (wideRegs f.a.toNat 2 ++ wideSrc f.d.toNat (sizeRegs m.toNat)) →
    Claims.AddressTraps (.stBM m f) s m.toNat 1 (lanesEa s.w (s.w.voters (s.w.active 0)) (eaBm f (sizeBytes m.toNat))))
  ∧ (∀ (m : BitVec 3) (f : XmF) (s : State), Issues s .lane 16 → legalStXm m.toNat f = none →
    storeReady s f.kmask.toNat (xmAddrSrcs f ++ wideSrc f.d9.toNat (sizeRegs m.toNat)) →
    Claims.AddressTraps (.stXM m f) s m.toNat 1 (lanesEa s.w (s.w.voters (s.w.active f.kmask.toNat)) (eaXm f)))

/-- LD and ST, and where they trap (11 R232 to R240). -/
def Obligations.LaneAddressedAccess : Prop :=
  Claims.LaneLoadsAndStores ∧ Claims.LaneAddressTraps

/-- STT sends each line's bytes with the cores to push the line to, and PREF asks for the lines that it may fetch; ATOM
sends one request for each lane with its operands, after the operations that a release covers (11 R243 to R248). -/
def Obligations.TargetedAndAtomicAccesses : Prop :=
  (∀ (f : XmF) (s : State) (l : List Acc) (cs : List Nat), let code := xmSize f
    let act := s.w.voters (s.w.active f.kmask.toNat)
    let all := (xmAddrSrcs f ++ [f.c9.toNat]) ++ wideSrc f.d9.toNat (sizeRegs code)
    Issues s .lane 16 → legalStt f = none → s.laneReady all [] = .ok () → s.w.counter .laneSt < 63 →
    s.regCheck act (vRegs all) = .ok () → s.sttTargets f act = .ok cs →
    s.checkAccess true 1 code (sizeBytes code) (lanesEa s.w act (eaXm f)) = .ok l →
    s.plainCheck true (sizeBytes code) l = .ok () →
    ∃ t, exec (.stt f) s = .next t ∧ Claims.Posted s t ∧ Charged s t 16 ∧ Claims.LaneMemFrame s t (xmWords f) all
      ∧ Claims.LaneStoreEffect s t l (dataBytes s.w f.lit f.d9.toNat code) cs)
  ∧ (∀ (f : XmF) (s : State), let act := s.w.active f.kmask.toNat
    let ls := s.prefLines (lanesEa s.w act (eaXm f))
    Issues s .lane 16 → legalPref f = none → s.laneReady (xmAddrSrcs f) [] = .ok () →
    s.regCheck act (vRegs (xmAddrSrcs f)) = .ok () →
    ∃ t, exec (.pref f) s = .next t ∧ Claims.Posted s t ∧ Charged s t 16 ∧ Claims.LaneMemFrame s t (xmWords f) (xmAddrSrcs f)
      ∧ t.w.v = s.w.v ∧ t.w.sect = s.w.sect ∧ t.w.ops = s.w.ops ∧ (f.imm8.getLsbD 6 = true → t.net = s.net)
      ∧ (f.imm8.getLsbD 6 = false → ∀ p ∈ ls, ∃ n ∈ t.net,
          n.msg = .load { core := s.w.core, slot := s.w.slot, op := 0, va := p.1, pa := p.2 } [] true true))
  ∧ (∀ (f : XmF) (s : State) (l : List Acc), let code := xmSize f
    let op := f.xop.toNat
    let act := s.w.voters (s.w.active f.kmask.toNat)
    let srcs := wideSrc f.a9.toNat 2 ++ wideSrc f.b9.toNat (sizeRegs code)
      ++ (if op = 9 then wideSrc f.c9.toNat (sizeRegs code) else [])
    let dsts := wideRegs f.d9.toNat (sizeRegs code)
    Issues s .lane 16 → legalAtom f = none → s.laneReady srcs dsts = .ok () →
    s.w.counter (if f.d9.toNat ≠ 323 then .laneLd else .laneSt) < 63 → s.regCheck act (dsts ++ vRegs srcs) = .ok () →
    s.checkAccess true 2 code (sizeBytes code) (lanesEa s.w act (eaBase f)) = .ok l →
    s.plainCheck true (sizeBytes code) l = .ok () →
    ∃ t, exec (.atom f) s = .next t ∧ Claims.Posted s t ∧ Charged s t 16 ∧ Claims.LaneMemFrame s t (xmWords f) srcs
      ∧ t.w.v = s.w.v ∧ t.w.sect = s.w.sect
      ∧ ∀ a ∈ l, ∃ n ∈ t.net, n.after = (if f.order.toNat % 3 = 2 then s.memOps else [])
          ∧ n.msg = .atom { core := s.w.core, slot := s.w.slot, op := s.nextId, va := a.va, pa := a.pa }
            { op := op, n := sizeBytes code, lane := a.lane, v := s.w.dataVal f.lit op f.b9.toNat code a.lane
              c := if op = 9 then s.w.dataVal f.lit op f.c9.toNat code a.lane else 0
              returns := decide (f.d9.toNat ≠ 323), pc := s.w.lanePc })

/-- LDSP and STSP read and write the scratchpad of the block on its core: a load's words go to its lanes, and a store
changes only the bytes at its lanes' offsets, lane by lane (11 R241, R242; 08 R191 to R195). -/
def Obligations.ScratchpadAccess : Prop :=
  let checked (s : State) (f : XmF) (act : Nat) (regs : List Nat) : Prop :=
    s.descCheck f (scratchLanes f s.w act) = .ok () ∧ s.regCheck act regs = .ok ()
    ∧ s.scratchCheck (f.imm8.getLsbD 3) (xmSize f) (sizeBytes (xmSize f)) (scratchLanes f s.w act) = .ok ()
  (∀ (f : XmF) (s : State), let code := xmSize f
    let act := s.w.active f.kmask.toNat
    let dsts := wideRegs f.d9.toNat (sizeRegs code)
    Issues s .lane 10 → legalLdsp f = none → s.laneReady [f.a9.toNat, f.b9.toNat] dsts = .ok () →
    s.w.counter .laneLd < 63 → checked s f act (dsts ++ vRegs [f.a9.toNat, f.b9.toNat]) →
    ∃ t, exec (.ldsp f) s = .next t ∧ t = { s with w := t.w, clusters := t.clusters, nextId := t.nextId } ∧ MemKept s t
      ∧ Claims.LaneMemFrame s t (xmWords f) [f.a9.toNat, f.b9.toNat]
      ∧ (∀ r k, k < 64 → t.w.getV r k =
          if f.d9.toNat < 320 ∧ f.d9.toNat ≤ r ∧ r < f.d9.toNat + sizeRegs code ∧ k < s.w.lanes ∧ bit act k = true then
            loadWord code ((List.range (sizeBytes code)).map (fun i =>
              mapGet 0#8 (s.scratchOf s.w.key s.w.core) ((scratchOff f s.w k).toNat + i))) (r - f.d9.toNat) % 2 ^ 32
          else s.w.getV r k)
      ∧ NewSectors s t (fun r k => f.d9.toNat < 320 ∧ f.d9.toNat ≤ r ∧ r < f.d9.toNat + sizeRegs code ∧ k < s.w.lanes
          ∧ bit act k = true))
  ∧ (∀ (f : XmF) (s : State), let code := xmSize f
    let act := s.w.voters (s.w.active f.kmask.toNat)
    let srcs := [f.a9.toNat, f.b9.toNat] ++ wideSrc f.d9.toNat (sizeRegs code)
    Issues s .lane 10 → legalStsp f = none → s.laneReady srcs [] = .ok () → s.w.counter .laneSt < 63 →
    checked s f act (vRegs srcs) →
    ∃ t, exec (.stsp f) s = .next t
      ∧ t = { s with w := t.w, clusters := t.clusters, nextId := t.nextId, blocks := t.blocks } ∧ MemKept s t
      ∧ Claims.LaneMemFrame s t (xmWords f) srcs ∧ t.w.v = s.w.v ∧ t.w.sect = s.w.sect
      ∧ t.blocks = (s.modSeg s.w.key s.w.core (fun g => g.putScratch ((lanesOf act s.w.lanes).map (fun k =>
          ((scratchOff f s.w k).toNat, dataBytes s.w f.lit f.d9.toNat code k))))).blocks
      ∧ (∀ o, (∀ k ∈ lanesOf act s.w.lanes, ¬((scratchOff f s.w k).toNat ≤ o
            ∧ o < (scratchOff f s.w k).toNat + (dataBytes s.w f.lit f.d9.toNat code k).length)) →
          mapGet 0#8 (t.scratchOf s.w.key s.w.core) o = mapGet 0#8 (s.scratchOf s.w.key s.w.core) o)
      ∧ ((s.block? s.w.key).any (fun b => b.segs.any (fun g => g.core == s.w.core)) = true →
          t.scratchOf s.w.key s.w.core = scratchStores (s.scratchOf s.w.key s.w.core)
            ((lanesOf act s.w.lanes).map (fun k =>
              ((scratchOff f s.w k).toNat, dataBytes s.w f.lit f.d9.toNat code k)))))

/-- LDS, STS and LDLQ complete: a load at hand writes its lead register, another is asked for; a store's bytes are on their
way; an LQ load takes a queue entry and asks for its lines (11 R249, R250). -/
def Obligations.LeadMemoryAccess : Prop :=
  let load (i : Instr) (words code : Nat) (d : LeadIx) (srcs : List LeadIx) (ea : Wave → Int) (legal : Option EncFault) : Prop :=
    ∀ (s : State) (a : Acc), Issues s .lead 12 → legal = none → s.leadReady srcs (leadDst d) = .ok () →
      s.w.counter .leadLd < 63 → s.sregCheck (leadRegs srcs ++ leadDst d) = .ok () →
      s.checkAccess false 0 code (sizeBytes code) [(0, ea s.w)] = .ok [a] →
      ∃ t, exec i s = .next t ∧ Claims.Posted s t ∧ Charged s t 12 ∧ Claims.LeadMemFrame s t words srcs ∧ t.w.lq = s.w.lq
        ∧ (∀ bs, s.here (sizeBytes code) a = some bs →
            ∀ r, t.w.getS r = if d = .s r then loadLead code bs % 2 ^ 64 else s.w.getS r)
        ∧ (s.here (sizeBytes code) a = none → t.w.s = s.w.s ∧ ∃ va fill, Claims.Sent s t
            (fun r => .load r [(a.lane, a.pa - lineOf a.pa, sizeBytes code)] fill false) va (lineOf a.pa))
  let store (i : Instr) (words code : Nat) (lit : Option Dword) (d : LeadIx) (addr : List LeadIx) (ea : Wave → Int)
      (legal : Option EncFault) : Prop :=
    ∀ (s : State) (l : List Acc), Issues s .lead 12 → legal = none → s.leadReady (d :: addr) [] = .ok () →
      s.w.counter .leadSt < 63 → s.sregCheck (leadRegs (d :: addr)) = .ok () →
      s.checkAccess false 1 code (sizeBytes code) [(0, ea s.w)] = .ok l → s.plainCheck false (sizeBytes code) l = .ok () →
      ∃ t, exec i s = .next t ∧ Claims.Posted s t ∧ Charged s t 12 ∧ Claims.LeadMemFrame s t words (d :: addr)
        ∧ t.w.lq = s.w.lq ∧ t.w.s = s.w.s
        ∧ ∀ va line parts, (va, line, parts) ∈ byLine l → Claims.Sent s t
            (fun r => .store r (lineData (fun _ => leBytes (s.w.leadVal lit d) (sizeBytes code)) parts) []) va line
  (∀ f : BmF, load (.ldsBM f) 1 5 (leadIx7 f.d.toNat false) [leadIx7 f.a.toNat false] (eaLeadBm f) (legalLdsBm f))
  ∧ (∀ f : XmF, load (.ldsXM f) (xmWords f) (xmSize f) (leadIx9 f.d9.toNat) (leadAddrSrcs f) (eaLead f) (legalLdsXm f))
  ∧ (∀ f : BmF, store (.stsBM f) 1 5 none (leadIx7 f.d.toNat false) [leadIx7 f.a.toNat false] (eaLeadBm f) (legalStsBm f))
  ∧ (∀ f : XmF, store (.stsXM f) (xmWords f) (xmSize f) f.lit (leadIx9 f.d9.toNat) (leadAddrSrcs f) (eaLead f) (legalStsXm f))
  ∧ (∀ (f : XmF) (s : State) (l : List Acc), let code := xmSize f
    let stride := (BitVec.ofNat 64 (s.w.leadVal f.lit (leadIx9 f.b9.toNat))).toInt
    let base := (s.w.leadVal f.lit (leadIx9 f.a9.toNat) : Int) + f.off21.toInt
    Issues s .lead 12 → legalLdlq f = none → s.leadReady (leadAddrSrcs f) [] = .ok () → s.w.counter .leadLd < 63 →
    s.w.lq.length < 16 → s.sregCheck (leadRegs (leadAddrSrcs f)) = .ok () → -(2 ^ 31) ≤ stride → stride < 2 ^ 31 →
    s.checkAccess true 0 code (sizeBytes code)
      ((List.range s.w.lanes).map (fun k => (k, base + (k : Int) * stride))) = .ok l →
    ∃ t, exec (.ldlq f) s = .next t ∧ Claims.Posted s t ∧ Charged s t 12
      ∧ Claims.LeadMemFrame s t (xmWords f) (leadAddrSrcs f) ∧ t.w.s = s.w.s
      ∧ t.w.lq = s.w.lq ++ [{ id := s.nextId, filled := false, data := [], addr := base.toNat, stride := stride
                              size := code, poison := 0 }]
      ∧ ∀ a ∈ l, s.here (sizeBytes code) a = none → ∃ va parts fill, (a.lane, a.pa - lineOf a.pa, sizeBytes code) ∈ parts
          ∧ Claims.Sent s t (fun r => .load r parts fill false) va (lineOf a.pa))

/-- CADD completes on words of open ranges: with one lane and the line held in state C, the word is combined into the core's
partial, or stands alone when it is the first; memory keeps its bytes until the range is folded (11 R247; 10 R220, R224). -/
def Sys2Proof.Claims.CommutativeAdds : Prop :=
  ∀ (f : XmF) (s s' : State) (l : List Acc), let act := s.w.voters (s.w.active f.kmask.toNat)
    let srcs := wideSrc f.a9.toNat 2 ++ [f.b9.toNat]
    Issues s .lane 16 → legalCadd f = none → s.laneReady srcs [] = .ok () → s.w.counter .laneSt < 63 →
    s.regCheck act (vRegs srcs) = .ok () → s.checkAccess true 2 4 4 (lanesEa s.w act (eaBase f)) = .ok l →
    (∀ a ∈ l, ∃ d i r, s.rangeAt a.va 4 = some (d, i, r) ∧ r.active = true) →
    (s.tlbFills l).caddLanes (fun k => s.w.src f.lit f.b9.toNat k) s.w.lanePc l = .ok s' →
    ∃ t, exec (.cadd f) s = .next t ∧ Claims.Posted s t ∧ Charged s t 16 ∧ Claims.LaneMemFrame s t (xmWords f) srcs
      ∧ t.w.v = s.w.v ∧ t.w.sect = s.w.sect ∧ t.cores = s'.cores
      ∧ ∀ a x d i r, l = [a] → (s.core s.w.core).line? (lineOf a.pa) = some x → x.st = .c → s.w.core < s.cores.length →
          s.rangeAt a.va 4 = some (d, i, r) → x.data.length = 128 → a.pa % 4 = 0 →
          ∃ y, (t.core s.w.core).line? (lineOf a.pa) = some y
            ∧ leValue (y.bytes (a.pa - lineOf a.pa) 4) =
              (if bit x.touched ((a.pa - lineOf a.pa) / 4) then
                combineWord r.fmt r.op (nanAt s.w.lanePc a.lane) (leValue (x.bytes (a.pa - lineOf a.pa) 4))
                  (s.w.src f.lit f.b9.toNat a.lane) % 2 ^ 32
              else s.w.src f.lit f.b9.toNat a.lane % 2 ^ 32)

/-- A commutative range opens in an entry that is free, or answers 1 or 2; while it holds its stream it waits for writes on
their way and for copies, and its lines enter state C when none is left. A close drops the bounds, and frees the entry when
every line is folded, with its format, operation and bounds left in it. That no free entry answers 1 also where the range
overlaps an open one is the model's order of the two answers (entry 34). PHREL, PHACQ and PHASE go on when their
predecessors have performed, PHACQ and PHASE with an acquire; till then they hold their stream (11 R252 to R254; 10 R221). -/
def Sys2Proof.Claims.RangesAndPhases : Prop :=
  (∀ (f : XmF) (s : State), Issues s .lead 12 → legalCrange f = none → s.crangeCheck f = .ok () →
    crangeBase f s.w + crangeLen f s.w > 2 ^ 47 →
    Claims.Stops (.crangeOpen f) s 12 (.trap causeProt 0 (crangeBase f s.w) (protDetail 2)))
  ∧ (∀ (f : XmF) (s : State) (pages : List Nat), Issues s .lead 12 → legalCrange f = none → s.crangeCheck f = .ok () →
    crangeBase f s.w + crangeLen f s.w ≤ 2 ^ 47 →
    s.crangeXl (crangePages (crangeBase f s.w) (crangeLen f s.w)) = .ok pages →
    let die := s.homeOf (dieOf s.w.core) (pages.getD 0 0)
    ((s.die die).ranges.findIdx? (fun r => !r.valid) = none →
      Claims.Ends (.crangeOpen f) s ((s.crangeIssued f none).crangeDone f.d9.toNat 1) 12)
    ∧ (∀ i, (s.die die).ranges.findIdx? (fun r => !r.valid) = some i →
      let clash := s.ranges.any (fun p => p.2.2.valid
        && decide (crangeBase f s.w < p.2.2.base + p.2.2.len ∧ p.2.2.base < crangeBase f s.w + crangeLen f s.w))
      (clash = true → Claims.Ends (.crangeOpen f) s ((s.crangeIssued f none).crangeDone f.d9.toNat 2) 12)
      ∧ (clash = false → Claims.Ends (.crangeOpen f) s ((s.modRange die i (fun _ =>
          { valid := true, fmt := crangeFmt f, op := crangeOp f, closing := false, len := crangeLen f s.w
            base := crangeBase f s.w, active := false, pages := pages })).crangeIssued f (some (.opening die i f.d9.toNat)))
          12)))
  ∧ (∀ (s s' : State) (c slot die i d : Nat), s.focus c slot .lead = some s' → s'.w.holding = some (.opening die i d) →
    let r := (s'.die die).ranges.getD i CRange.empty
    let moving := s'.dies.any (fun d => d.migrating.any (fun p => r.pages.contains (p * 16384)))
    ((s'.writesInFlight r = true ∨ moving = true) → s.turn (.hold c slot) = .next s')
    ∧ (s'.writesInFlight r = false → moving = false → (∀ p ∈ s'.dir, r.spansLine p.1 = true → p.2.sharers = []) →
      s.turn (.hold c slot) = .next ((s'.modRange die i (fun r => { r with active := true })).crangeDone d 0))
    ∧ (s'.writesInFlight r = false → moving = false → ∀ p ∈ s'.dir, r.spansLine p.1 = true → ∀ k ∈ p.2.sharers,
      ∃ t, s.turn (.hold c slot) = .next t ∧ t.w = s'.w ∧ t.dies = s'.dies ∧ MemKept s' t
        ∧ ∃ n ∈ t.net, n.msg = .notice k p.1 ∨ n.msg = .noticeReply k p.1))
  ∧ (∀ (f : XmF) (s : State), Issues s .lead 12 → legalCrange f = none → s.crangeCheck f = .ok () →
    let hit (r : CRange) : Bool := r.valid && !r.closing && decide (r.base = crangeBase f s.w ∧ r.len = crangeLen f s.w
      ∧ r.fmt = crangeFmt f ∧ r.op = crangeOp f)
    (s.ranges.find? (fun p => hit p.2.2) = none →
      Claims.Ends (.crangeClose f) s ((s.crangeIssued f none).crangeDone f.d9.toNat 2) 12)
    ∧ (∀ die i r, s.ranges.find? (fun p => hit p.2.2) = some (die, i, r) →
      (r.active = false → exec (.crangeClose f) s = .next (s.stall .unready))
      ∧ (r.active = true → Claims.Ends (.crangeClose f) s
          ((s.modRange die i (fun r => { r with closing := true })).crangeIssued f (some (.closing die i f.d9.toNat))) 12)))
  ∧ (∀ (s s' : State) (c slot die i d : Nat), s.focus c slot .lead = some s' → s'.w.holding = some (.closing die i d) →
    let r := (s'.die die).ranges.getD i CRange.empty
    (∀ p ∈ s'.dir, r.holdsLine p.1 = true → p.2.clean = true) →
    s'.net.any (fun n => match n.msg with | .holder _ l | .evicted _ l _ _ => r.holdsLine l | _ => false) = false →
    s.turn (.hold c slot) = .next ((s'.modRange die i (fun r => { r with
      valid := false, closing := false, active := false, pages := [] })).crangeDone d 0))
  ∧ (let goesOn (i : Instr) (words scope : Nat) (acq : Bool) (s : State) : Prop :=
      (s.releaseDone s.w.core s.w.slot s.memOps scope = true →
        let s' := s.modW (fun w => { w with holding := none, leadPc := w.leadPc + 4 * words })
        Claims.Ends i s (if acq then s'.acquire s.w.core else s') 12)
      ∧ (s.releaseDone s.w.core s.w.slot s.memOps scope = false → Claims.Ends i s (s.modW (fun w =>
          { w with holding := some (.phase scope s.memOps acq), leadPc := w.leadPc + 4 * words })) 12)
    (∀ (f : BaF) (s : State), Issues s .lead 12 → legalPhBs f = none →
      goesOn (.phrelBS f) (baWords f) 3 false s ∧ goesOn (.phacqBS f) (baWords f) 3 true s
      ∧ goesOn (.phaseBS f) (baWords f) 3 true s)
    ∧ (∀ (f : XmF) (s : State), Issues s .lead 12 → legalPhXm f = none →
      goesOn (.phrelXM f) (xmWords f) (phaseScope f.order.toNat) false s
      ∧ goesOn (.phacqXM f) (xmWords f) (phaseScope f.order.toNat) true s
      ∧ goesOn (.phaseXM f) (xmWords f) (phaseScope f.order.toNat) true s))
  ∧ (∀ (s s' : State) (c slot scope : Nat) (after : List Nat) (acq : Bool), s.focus c slot .lead = some s' →
    s'.w.holding = some (.phase scope after acq) →
    (s'.releaseDone s'.w.core s'.w.slot after scope = false → s.turn (.hold c slot) = .next s')
    ∧ (s'.releaseDone s'.w.core s'.w.slot after scope = true →
      let u := s'.modW (fun w => { w with holding := none })
      s.turn (.hold c slot) = .next (if acq then u.acquire s'.w.core else u)))

/-- CADD, the range forms and the phase forms (10 R220, R224; 11 R247, R252 to R254). -/
def Obligations.CommutativeAndPhaseForms : Prop :=
  Claims.CommutativeAdds ∧ Claims.RangesAndPhases

/-! ## The matrix engine's instructions (12) -/

/-- A matrix entry is posted (12 R259, R261): it joins the FIFO of its core with the operand values that the lanes hold now,
counts as an operation of class `mx` and as a pending entry of the open batch, and no register changes. -/
def Sys2Proof.Claims.EntryPosted (s t : State) (i : Instr) (words mask mode : Nat) (regs : List (List Word)) (dst : Dst) : Prop :=
  t = { s with w := t.w, clusters := t.clusters, cores := t.cores, nextId := t.nextId } ∧ MemKept s t
  ∧ t.cores = modAt s.cores s.w.core (fun c => { c with fifo := c.fifo ++ [
      { id := s.nextId, key := s.w.key, core := s.w.core, slot := s.w.slot, far := false, deadline := s.w.deadline
        st := .waiting, instr := i, mask := mask, batch := s.w.bseq, pc := s.w.lanePc, mode := mode, regs := regs
        latch := [], halfDone := false }] })
  ∧ t.w = { s.w with
      ops := t.w.ops, deferred := t.w.deferred
      open_ := { s.w.open_ with pending := s.w.open_.pending + 1 }
      lanePc := s.w.lanePc + 4 * words, tryLane := .issued, deadlock := 0, refused := none }
  ∧ ∃ o, t.w.ops = s.w.ops ++ [o] ∧ o.id = s.nextId ∧ o.cls = .laneMx ∧ o.dst = dst ∧ o.done = false

/-- The engine and the counter have room (12 R261). -/
def Sys2Proof.Claims.EngineRoom (s : State) : Prop := (s.core s.w.core).fifo.length < 64 ∧ s.w.counter .laneMx < 63

/-- MMA posts its octets with the lanes of a, b, the scales and the random bits; MPAIR does so where the partner core
belongs to its block's span; a mask that cuts an octet is PARTIAL_OCTET instead (12 R260, R265, R272). -/
def Sys2Proof.Claims.MatrixMultiplyPosts : Prop :=
  let srcs (f : XtF) (w : Wave) : List Nat := [f.a9.toNat, f.b9.toNat] ++ (if xtScaled f then [f.c9.toNat] else [])
    ++ (if xtScaled f && mmaMode f w == 5 then [f.c9.toNat + 1] else [])
  let ready (pair : Bool) (f : XtF) (s : State) : Prop :=
    let act := s.w.active f.kmask.toNat
    let os := octetsOf act
    let b := s.w.lanesVal f.lit f.b9.toNat
    Issues s .lane (mmaWeight pair f s) ∧ legalXt (useMma pair f) f = none
    ∧ (xtScaled f = true → mmaMode f s.w = 5 → f.c9.toNat ≤ 318) ∧ s.laneReady (srcs f s.w) [] = .ok ()
    ∧ Claims.EngineRoom s
    ∧ descCheck (f.skew = 1#1) 2 (os.map (fun o => (laneVal b (8 * o), 1 <<< (8 * o)))) = .ok ()
    ∧ s.regCheck act (vRegs (srcs f s.w)) = .ok ()
    ∧ (∀ o ∈ os, f.tile.toNat + o < s.w.k.tiles ∧ (pair = true → f.aux6.toNat + o < s.w.k.tiles))
    ∧ (pair = true → (s.block? s.w.key).any (fun b => b.segs.any (fun g => g.core == partner s.w.core)) = true)
  let addrs (f : XtF) (s : State) : R Unit :=
    matrixAddrs ((octetsOf (s.w.active f.kmask.toNat)).flatMap (fun o =>
      aAddrs s.w.k.scratch o (s.w.lanesVal f.lit f.a9.toNat)
        ++ [bAddr f s.w.k.scratch o (laneVal (s.w.lanesVal f.lit f.b9.toNat) (8 * o))]))
  let posts (i : XtF → Instr) (pair : Bool) : Prop := ∀ (f : XtF) (s : State), ready pair f s →
    let act := s.w.active f.kmask.toNat
    (partialOctets act = [] → addrs f s = .ok () →
      ∃ t, exec (i f) s = .next t ∧ Claims.EntryPosted s t (i f) (xtWords f) act (mmaMode f s.w)
        [s.w.lanesVal f.lit f.a9.toNat, s.w.lanesVal f.lit f.b9.toNat,
         (if xtScaled f then s.w.lanesVal f.lit f.c9.toNat else []),
         (if xtScaled f && mmaMode f s.w == 5 then s.w.lanesVal f.lit (f.c9.toNat + 1) else [])] .none)
    ∧ (partialOctets act ≠ [] →
      Claims.Stops (i f) s (mmaWeight pair f s)
        (.trap 0x10 (act &&& octetLanes (partialOctets act)) 0 (maskOf (partialOctets act) <<< 11)))
  posts .mma false ∧ posts .mpair true

/-- MZERO, MRD, MWR, MLDT, MSTORE and MSIG post their entry when a lane is active; the tile-wide ones only move on when none
is (12 R260, R273 to R275, R278). -/
def Sys2Proof.Claims.MatrixMovesPost : Prop :=
  let skips (i : Instr) (f : XtF) (legal : Option EncFault) : Prop := ∀ s : State, Issues s .lane 16 → legal = none →
    lowestLane s.w.exec s.w.lanes = none →
    Claims.Ends i s (s.modW (fun w => { w with lanePc := w.lanePc + 4 * xtWords f })) 16
  let move (i : Instr) (f : XtF) : Prop := ∀ (s : State) (l : Nat), Issues s .lane 16 → legalXt (useMove f) f = none →
    lowestLane s.w.exec s.w.lanes = some l → Claims.EngineRoom s →
    let skew := decide (f.skew = 1#1)
    let rs := f.a9.toNat :: (if skew then [f.b9.toNat] else [])
    let a := s.w.lanesVal f.lit f.a9.toNat
    let b := if skew then s.w.lanesVal f.lit f.b9.toNat else []
    let ws := moveWords skew (laneVal a l) (laneVal b l)
    s.laneReady rs [] = .ok () → s.regCheck s.w.exec (vRegs rs) = .ok () → f.tile.toNat < s.w.k.tiles →
    (skew = true → bits (laneVal a l) 21 11 = 0 ∧ bits (laneVal a l) 0 8 = 0 ∧ laneVal b l % 32 ≤ 16 ∧ laneVal b l + 239 < 1024) →
    (skew = false → laneVal a l % 4 = 0) → (∀ x ∈ ws, x + 4 ≤ s.w.k.scratch) →
    ∃ t, exec i s = .next t ∧ Claims.EntryPosted s t i (xtWords f) s.w.exec 0 [a, b] .none
  (∀ f : XtF, skips (.mzero f) f (legalXt useMzero f) ∧ skips (.mldt f) f (legalXt (useMove f) f)
    ∧ skips (.mstore f) f (legalXt (useMove f) f) ∧ skips (.msig f) f (legalXt useMsig f)
    ∧ move (.mldt f) f ∧ move (.mstore f) f)
  ∧ (∀ (f : XtF) (s : State) (l : Nat), Issues s .lane 16 → legalXt useMzero f = none →
    lowestLane s.w.exec s.w.lanes = some l → Claims.EngineRoom s → f.tile.toNat + f.imm9.toNat % 64 < s.w.k.tiles →
    ∃ t, exec (.mzero f) s = .next t ∧ Claims.EntryPosted s t (.mzero f) (xtWords f) s.w.exec 0 [] .none)
  ∧ (∀ (f : XtF) (s : State), let act := s.w.active f.kmask.toNat
    let rs := (List.range 4).map (fun q => f.d9.toNat + q)
    Issues s .lane 16 → legalXt useMrd f = none → s.laneReady [] rs = .ok () → Claims.EngineRoom s →
    s.regCheck act rs = .ok () → f.tile.toNat + (if s.w.width = 64 then 1 else 0) < s.w.k.tiles →
    ∃ t, exec (.mrd f) s = .next t
      ∧ Claims.EntryPosted s t (.mrd f) (xtWords f) act 0 [] (.lanes f.d9.toNat 4 act 4))
  ∧ (∀ (f : XtF) (s : State), let act := s.w.active f.kmask.toNat
    let rs := (List.range 4).map (fun q => f.a9.toNat + q)
    Issues s .lane 16 → legalXt useMwr f = none → s.laneReady rs [] = .ok () → Claims.EngineRoom s →
    s.regCheck act rs = .ok () → f.tile.toNat + (if s.w.width = 64 then 1 else 0) < s.w.k.tiles →
    ∃ t, exec (.mwr f) s = .next t
      ∧ Claims.EntryPosted s t (.mwr f) (xtWords f) act 0 (rs.map (fun r => s.w.lanesVal none r)) .none)
  ∧ (∀ (f : XtF) (s : State) (l : Nat) (x : Bar), Issues s .lane 16 → legalXt useMsig f = none →
    lowestLane s.w.exec s.w.lanes = some l → Claims.EngineRoom s → s.laneReady [f.a9.toNat, f.b9.toNat] [] = .ok () →
    s.regCheck s.w.exec (vRegs [f.a9.toNat, f.b9.toNat]) = .ok () → f.aux6.toNat < 48 →
    s.bar? s.w.key s.w.j f.aux6.toNat = some x →
    let a := s.w.lanesVal f.lit f.a9.toNat
    let b := s.w.lanesVal f.lit f.b9.toNat
    laneVal a l + laneVal b l ≤ s.w.k.scratch →
    ∃ t, exec (.msig f) s = .next t ∧ Claims.EntryPosted s t (.msig f) (xtWords f) s.w.exec 0 [a, b] .none)

/-- The matrix forms that post entries (12 R260, R265, R272 to R275, R278). -/
def Obligations.MatrixPosts : Prop :=
  Claims.MatrixMultiplyPosts ∧ Claims.MatrixMovesPost

/-- MFENCE closes the open batch under the wave's batch number, which it writes, and opens the next; MWAIT parks on a batch
that is outstanding and otherwise moves on (12 R276, R277, R279). -/
def Obligations.MatrixBatches : Prop :=
  (∀ (f : XtF) (s : State) (l : Nat), Issues s .lane 16 → legalXt useMfence f = none →
    lowestLane s.w.exec s.w.lanes = some l → s.laneReady [] [f.d9.toNat] = .ok () → s.w.batches.length < 16 →
    s.regCheck s.w.exec (vRegs [f.d9.toNat]) = .ok () →
    ∃ t, exec (.mfence f) s = .next t ∧ MemKept s t ∧ t.w.lanePc = s.w.lanePc + 4 * xtWords f
      ∧ LaneWord s t f.d9.toNat s.w.exec (fun _ => s.w.bseq)
      ∧ t.w.bseq = (s.w.bseq + 1) % 65536 ∧ t.w.open_ = MBatch.open0
      ∧ t.w.batches = (s.w.batches ++ [{ s.w.open_ with num := s.w.bseq }]).filter (fun b => b.pending != 0)
      ∧ t.w.s = s.w.s ∧ t.w.status = s.w.status)
  ∧ (∀ (f : XtF) (s : State) (l : Nat), Issues s .lane 16 → legalXt useMwait f = none →
    lowestLane s.w.exec s.w.lanes = some l → s.laneReady [f.a9.toNat] [] = .ok () →
    s.regCheck s.w.exec (vRegs [f.a9.toNat]) = .ok () →
    let n := s.w.src f.lit f.a9.toNat l % 65536
    ((∀ b ∈ s.w.batches, b.num ≠ n) →
      Claims.Ends (.mwait f) s (s.modW (fun w => { w with lanePc := w.lanePc + 4 * xtWords f })) 16)
    ∧ ((∃ b ∈ s.w.batches, b.num = n) →
      Claims.Ends (.mwait f) s (s.modW (fun w => { w with status := .parked (.mwait (xtWords f) n), parkCount := 0 })) 16))

/-! ## Synchronisation (16) -/

/-- WAIT holds its stream while a class counter stands above its field, takes the deferred fault of an operation it
requires, and otherwise moves on (16 R367, R368). -/
def Obligations.WaitForCounters : Prop :=
  ∀ (f : XsF) (s : State) (st : Stream), Issues s st 8 → legalWait st f = none →
    let above := (classesOf st).any (fun c => match waitField f c with | some n => decide (s.w.counter c > n) | none => false)
    (above = true → exec (.wait f) s = .next { s.modW (fun w => w.attempt st .unready) with stalled := true })
    ∧ (above = false → waitSelects f s.w st = false →
      Claims.Ends (.wait f) s (s.modW (fun w => w.setPc st (w.pcOf st + 4 * xsWords f))) 8)
    ∧ (above = false → waitSelects f s.w st = true → ∀ d, s.w.takable = some d →
      exec (.wait f) s = .next (s.takeTrap
        { cause := d.cause, st := st, deferred := true, flanes := d.flanes, taddr := d.taddr, tinfo := d.tinfo }))

/-- A signal is on its way to its object, behind the operations that its release covers; nothing else happens yet (09 R203;
16 R374). -/
def Sys2Proof.Claims.SignalSent (i : Instr) (sp : SyncSpec) (f : XsF) (s : State) (st : Stream) (x : Signal) : Prop :=
  ∃ t, exec i s = .next t ∧ t = { s with w := t.w, clusters := t.clusters, net := t.net, nextId := t.nextId } ∧ MemKept s t
    ∧ t.w = { ((s.syncPop sp f).w.setPc st (s.w.pcOf st + 4 * xsWords f)).attempt st .issued with
        ops := t.w.ops, deferred := t.w.deferred, deadlock := 0, refused := none }
    ∧ ∃ n, t.net = s.net ++ [n] ∧ n.core = s.w.core ∧ n.slot = s.w.slot ∧ n.after = s.memOps
      ∧ n.scope = (if f.order.toNat / 3 = 0 then (if sp.join then 3 else 1) else f.order.toNat / 3)
      ∧ n.msg = .signal (.wave s.w.core s.w.slot s.nextId) x (dieOf s.w.core)

/-- SEMINC, SEMSET, BARINIT, BARARR, BAREXP, JOINSET, JOINADD and JOINDEC send their signal to the object that they name;
with no lane active they only move on (16 R370 to R378). -/
def Obligations.SignalsAreSent : Prop :=
  let operands (sp : SyncSpec) (f : XsF) (s : State) (st : Stream) (a b : Nat) : Prop :=
    Issues s st 8 ∧ legalSync sp st f = none ∧ s.syncVals sp f = .ok (some (a, b)) ∧ sp.lo ≤ b ∧ b ≤ sp.hi
    ∧ s.w.counter (qoClass st) < 31
  let open3 (tag : Nat) : Prop := tag % 4 ≠ 3
  let slot (f : XsF) (a : Nat) : Nat := f.sel9.toNat + a % 2 ^ 32
  (∀ (f : XsF) (s : State) (st : Stream) (a b : Nat) (k : BKey) (j n : Nat) (x : Sem), s.semOf f a = .ok (k, j, n, x) →
    (operands (specSem false) f s st a b → open3 x.tag →
      Claims.SignalSent (.seminc f) (specSem false) f s st (.seminc (.sem k j n) b))
    ∧ (operands (specSem true) f s st a b → (xopFlag f = false → open3 x.tag) →
      Claims.SignalSent (.semset f) (specSem true) f s st
        (.semset (.sem k j n) b (if xopFlag f then 3 else s.w.pcls % 4 + (if k = s.w.key then 4 else 0)))))
  ∧ (∀ (f : XsF) (s : State) (st : Stream) (a b : Nat) (k : BKey) (j n : Nat) (x : Bar), s.barOf f a = .ok (k, j, n, x) →
    (operands (specBar true) f s st a b → x.waiters = [] →
      Claims.SignalSent (.barinit f) (specBar true) f s st
        (.barinit (.bar k j n) b (if xopFlag f then 3 else s.w.pcls % 4 + (if k = s.w.key then 4 else 0))))
    ∧ (operands (specBar false) f s st a b → open3 x.tag →
      Claims.SignalSent (.bararr f) (specBar false) f s st (.bararr (.bar k j n) b))
    ∧ (operands specBarexp f s st a b → (xopFlag f = false → open3 x.tag) →
      Claims.SignalSent (.barexp f) specBarexp f s st (.barexp (.bar k j n) b (!xopFlag f))))
  ∧ (∀ (f : XsF) (s : State) (st : Stream) (a b : Nat), operands specJoin f s st a b → slot f a < 1048576 →
    let die := dieOf s.w.core
    Claims.SignalSent (.joinset f) specJoin f s st (.joinset die (slot f a) b (s.w.pcls % 4))
    ∧ (open3 (s.join die (slot f a)).tag →
      Claims.SignalSent (.joinadd f) specJoin f s st (.joinadd die (slot f a) b)
      ∧ Claims.SignalSent (.joindec f) specJoin f s st (.joindec die (slot f a) b)))
  ∧ (∀ (f : XsF) (s : State) (sp : SyncSpec) (i : Instr), lowestLane (s.w.active f.kmask.toNat) s.w.lanes = none →
    Issues s .lane 8 → legalSync sp .lane f = none →
    (i, sp) ∈ [(Instr.seminc f, specSem false), (.semset f, specSem true), (.barinit f, specBar true),
      (.bararr f, specBar false), (.barexp f, specBarexp), (.joinset f, specJoin), (.joinadd f, specJoin),
      (.joindec f, specJoin), (.semwait f, specSem true), (.barwait f, specBarwait)] →
    Claims.Ends i s (s.modW (fun w => { w with lanePc := w.lanePc + 4 * xsWords f })) 8)

/-- SEMWAIT goes on with an acquire where the count reaches its threshold, which `.take` subtracts, and BARWAIT where the
phase has moved on; else the wave parks, in the take queue or among the waiters of its object. A BARWAIT of a wave that sees
its abort line raised samples it. A wait that its object's tag forbids is ILLEGAL_WAIT (16 R371, R372, R375, R377; 02 R43). -/
def Obligations.SemaphoreAndBarrierWaits : Prop :=
  (∀ (f : XsF) (s : State) (st : Stream) (a b : Nat) (k : BKey) (j n : Nat) (x : Sem), s.semOf f a = .ok (k, j, n, x) →
    Issues s st 8 → legalSync (specSem true) st f = none → s.syncVals (specSem true) f = .ok (some (a, b)) → b < 2 ^ 32 →
    let s' := s.syncPop (specSem true) f
    let legal := decide (x.tag % 4 = 0 ∨ x.tag % 4 = 3) || (bit x.tag 2 && decide (k = s.w.key))
    let now := decide (x.count ≥ b) && !s.isSaved k && (!xopFlag f || decide (x.takes = []))
    (legal = false → Claims.Stops (.semwait f) s 8
      (.trap 0x0D (s.syncLanes f) 0 ((x.tag % 4 <<< 13) + ((if bit x.tag 2 then 1 else 0) <<< 15))))
    ∧ (legal = true → now = true → Claims.Ends (.semwait f) s
        (((if xopFlag f then s'.modSem k j n (fun x => { x with count := x.count - b }) else s').acquire s.w.core).modW
          (fun w => w.setPc st (w.pcOf st + 4 * xsWords f))) 8)
    ∧ (legal = true → now = false → ∃ t, exec (.semwait f) s = .next t ∧ MemKept s t
        ∧ t.w = { (s'.w.attempt st .issued) with
            status := .parked (.semwait st (xsWords f) (.sem k j n) b (xopFlag f)), parkCount := 0, deadlock := 0, refused := none }
        ∧ (xopFlag f = true → ∃ y, t.sem? k j n = some y ∧ y.count = x.count ∧ (s.w.core, s.w.slot) ∈ y.takes)))
  ∧ (∀ (f : XsF) (s : State) (st : Stream) (a b : Nat) (k : BKey) (j n : Nat) (x : Bar), s.barOf f a = .ok (k, j, n, x) →
    Issues s st 8 → legalSync specBarwait st f = none → s.syncVals specBarwait f = .ok (some (a, b)) → b ≤ 1 →
    let s' := s.syncPop specBarwait f
    (waitLegal x.tag k s.w.key = false → Claims.Stops (.barwait f) s 8
      (.trap 0x0D (s.syncLanes f) 0 ((1 <<< 11) + (x.tag % 4 <<< 13) + ((if bit x.tag 2 then 1 else 0) <<< 15))))
    ∧ (waitLegal x.tag k s.w.key = true → s.lineRaised s.w = true →
      Claims.Ends (.barwait f) s (s'.modW Wave.sampleAbort) 8)
    ∧ (waitLegal x.tag k s.w.key = true → s.lineRaised s.w = false → x.phase ≠ b → s.isSaved k = false → Claims.Ends (.barwait f) s ((s'.acquire s.w.core).modW
      (fun w => w.setPc st (w.pcOf st + 4 * xsWords f))) 8)
    ∧ (waitLegal x.tag k s.w.key = true → s.lineRaised s.w = false → (x.phase = b ∨ s.isSaved k = true) →
        ∃ t, exec (.barwait f) s = .next t ∧ MemKept s t
        ∧ t.w = { (s'.w.attempt st .issued) with
            status := .parked (.barwait st (xsWords f) (.bar k j n) b), parkCount := 0, deadlock := 0, refused := none }
        ∧ ∃ y, t.bar? k j n = some y ∧ y.phase = x.phase ∧ y.waiters = x.waiters ++ [(s.w.core, s.w.slot)]))

/-! ## Queues and jobs (14) -/

/-- Two results in a lead register pair, or in none; the lead PC moves past the instruction and the wave is otherwise `w`. -/
def Sys2Proof.Claims.PairGiven (w : Wave) (t : State) (d : LeadIx) (a b words : Nat) : Prop :=
  t.w = { w with s := t.w.s, leadPc := w.leadPc + 4 * words, tryLead := .issued, deadlock := 0, refused := none }
  ∧ ∀ i, t.w.getS i = (match d with
      | .s n => if i = n then a % 2 ^ 64 else if i = n + 1 then b % 2 ^ 64 else w.getS i
      | _ => w.getS i)

/-- CONSUME, with its registers ready and a count within the wave's lanes: it samples a raised abort line; in a grid's block
it gives the block's number and parameter address, in a node without records 0; the first one of a wave gives the records
placed with it in window page 0 without waiting; a later one takes the records it can into the other page, and with none it
parks where the node waits and still has producers, else gives 0 and turns to the other page, which is cleared (14 R322 to
R324; 02 R43, R44). -/
def Obligations.QueueConsume : Prop :=
  ∀ (f : XqF) (s : State),
    let b := leadIx9 f.b9.toNat
    let d := leadIx9 f.d9.toNat
    let ds := match d with | .s n => [n, n + 1] | _ => []
    let m := if s.w.leadVal f.lit b = 0 then s.w.lanes else s.w.leadVal f.lit b
    let n := s.myNode
    let records := n.kind = kindShader ∧ n.recsz ≠ 0
    let es := s.consumable n
    let k := (s.takeSome n es (min m es.length)).2
    let page := s.w.winNext
    let gives (a b : Nat) : Prop :=
      ∃ t, exec (.consume f) s = .next t ∧ OnlyWave s t 8 ∧ Claims.PairGiven s.w t d a b (xqWords f)
    Issues s .lead 8 → legalConsume f = none → s.leadReady [b] ds = .ok () → m ≤ s.w.lanes →
    s.sregCheck (ds ++ leadRegs [b]) = .ok () →
    (s.lineRaised s.w = true → Claims.Ends (.consume f) s (s.modW Wave.sampleAbort) 8)
    ∧ (s.lineRaised s.w = false →
      (∀ bl l p, n.kind = kindDispatch → s.block? s.w.key = some bl → bl.grid = some (l, p) → gives l p)
      ∧ (n.kind ≠ kindDispatch → ¬ records → gives 0 0)
      ∧ (records → s.w.winFirst = false → ∃ t, exec (.consume f) s = .next t ∧ MemKept s t ∧ t.blocks = s.blocks
          ∧ t.dies = s.dies ∧ t.waves = s.waves
          ∧ Claims.PairGiven { s.w with winFirst := true, winNext := 1, winRecs0 := s.w.nrec } t d s.w.nrec
              0x7FFFFFFF8000 (xqWords f))
      ∧ (records → s.w.winFirst = true →
          (n.waitf = true → ∀ q, s.queue? s.myDie s.w.key.node = some q → waitLegal q.qtag s.w.key s.w.key = true) →
          (k = 0 → n.waitf = true → s.noProducers s.w.key.node = false →
            Claims.Ends (.consume f) s
              (s.modW (fun w => { w with status := .parked (.consume (xqWords f)), parkCount := 0 })) 8)
          ∧ (k = 0 → (n.waitf = false ∨ s.noProducers s.w.key.node = true) →
              let lo := s.w.winBase + 16384 * page
              ∃ t, exec (.consume f) s = .next t
                ∧ Claims.PairGiven { s.w with
                    winNext := 1 - page, winRecs0 := if page = 0 then 0 else s.w.winRecs0
                    winRecs1 := if page = 1 then 0 else s.w.winRecs1 } t d 0 (0x7FFFFFFF8000 + 16384 * page) (xqWords f)
                ∧ ∀ a, memByte t.mem a = if lo ≤ a ∧ a < lo + 16384 then 0#8 else memByte s.mem a)
          ∧ (k > 0 →
              let bs := (es.take k).flatMap (fun e => e.bytes)
              let lo := s.w.winBase + 16384 * page
              bs.length ≤ 16384 →
              ∃ t, exec (.consume f) s = .next t
                ∧ Claims.PairGiven { s.w with
                    winNext := 1 - page, winRecs0 := if page = 0 then k else s.w.winRecs0
                    winRecs1 := if page = 1 then k else s.w.winRecs1 } t d k (0x7FFFFFFF8000 + 16384 * page) (xqWords f)
                ∧ (∀ a, a < 16384 → memByte t.mem (lo + a) = bs.getD a 0#8)
                ∧ (∀ a, (a < lo ∨ lo + 16384 ≤ a) → (∀ g l, s.graph = some g → g.layouts[0]? = some l →
                    (a < l.status + 32 * s.w.key.node ∨ l.status + 32 * s.w.key.node + 32 ≤ a)) →
                    s.graph ≠ none → (∀ g, s.graph = some g → g.layouts ≠ []) → memByte t.mem a = memByte s.mem a))))

/-- RNEXT takes the next chunk of its block's range descriptor: min(GRAIN, what is left) from NEXT on, which moves past it,
or (0, 0) when the range is used up, and is an operation of class `qo` that has finished. It samples a raised abort line
instead, and in a block without a descriptor it is ILLEGAL_OPERAND (14 R329; 02 R38, R44). -/
def Sys2Proof.Claims.RangeChunks : Prop :=
  ∀ (f : XqF) (s : State), let d := f.d9.toNat
    Issues s .lead 8 → legalRnext f = none → s.leadReady [] [d, d + 1] = .ok () → s.w.counter .leadQo < 31 →
    ((s.block? s.w.key).bind (fun b => b.desc) = none →
      Claims.Stops (.rnext f) s 8 (.trap 0x03 0 0 0))
    ∧ ∀ g i, (s.block? s.w.key).bind (fun b => b.desc) = some (g, i) → s.sregCheck [d, d + 1] = .ok () →
      (s.lineRaised s.w = true → Claims.Ends (.rnext f) s (s.modW Wave.sampleAbort) 8)
      ∧ (s.lineRaised s.w = false → g < s.clusters.length → i < (s.cluster g).descs.length →
        let x := (s.cluster g).descs.getD i RDesc.empty
        let out := decide (x.next ≥ x.hi)
        let e := min (x.next + x.grain) x.hi
        ∃ t, exec (.rnext f) s = .next t ∧ t = { s with w := t.w, clusters := t.clusters, nextId := s.nextId + 1 } ∧ MemKept s t
          ∧ Claims.PairGiven { s.w with ops := t.w.ops, deferred := t.w.deferred } t (.s d) (if out then 0 else x.next) (if out then 0 else e) (xqWords f)
          ∧ (t.cluster g).descs.getD i RDesc.empty = (if out then x else { x with next := e })
          ∧ ∀ h j, (h ≠ g ∨ j ≠ i) → (t.cluster h).descs.getD j RDesc.empty = (s.cluster h).descs.getD j RDesc.empty)

/-- LAUNCH raises LAUNCH_INVALID on a target that is no dispatch node and on a bad count or parameter address. To a declared
successor it sends its entry on the first edge, within the edge's allowance, else QUEUE_OVERRUN; to another node it sends it
to the die's store, or answers 1 where the store is full (14 R330; 13 R302). -/
def Sys2Proof.Claims.GridLaunch : Prop :=
  ∀ (f : XqF) (s : State), let a := leadIx9 f.a9.toNat
    let b := leadIx9 f.b9.toNat
    let d := leadIx9 f.d9.toNat
    let t := f.imm21.toNat
    let g := s.w.leadVal f.lit b
    let param := s.w.leadVal f.lit a
    let popped := if a = .rq ∨ b = .rq then s.w.rq.tail else s.w.rq
    let valid := (∃ n, s.node? t = some n ∧ n.kind = kindDispatch) ∧ 1 ≤ g ∧ g ≤ 65536 ∧ param < 2 ^ 47 ∧ param % 16 = 0
    let sent (die e : Nat) (credit : Bool) : Prop :=
      ∃ u, exec (.launch f) s = .next u ∧ MemKept s u
        ∧ u = { s with w := u.w, clusters := u.clusters, net := u.net, nextId := u.nextId, blocks := u.blocks }
        ∧ u.blocks = (if credit then
            s.blocks.map (fun x => if x.key = s.w.key then { x with edges := modAt x.edges e (fun p => (p.1 + 1, p.2)) } else x)
          else s.blocks)
        ∧ u.w = { s.w with ops := u.w.ops, deferred := u.w.deferred, rq := popped, leadPc := s.w.leadPc + 4 * xqWords f
                           tryLead := .issued, deadlock := 0, refused := none }
        ∧ ∃ n r, u.net = s.net ++ [n] ∧ n.core = s.w.core ∧ n.slot = s.w.slot ∧ n.after = s.memOps ∧ n.msg = .record [r]
          ∧ r.node = t ∧ r.die = die ∧ r.bytes = leBytes param 8 ++ leBytes g 8 ∧ r.depth = 0 ∧ r.launch = true
          ∧ r.credit = credit ∧ r.tell = .wave s.w.core s.w.slot s.nextId
    Issues s .lead 8 → legalLaunch f = none → s.leadOk [a, b] (leadDst d) = .ok () → s.w.counter .leadQo < 31 →
    (¬ valid → Claims.Stops (.launch f) s 8 (.trap 0x15 0 0
      ((if (s.node? t).any (fun n => n.kind == kindDispatch) then (if 1 ≤ g ∧ g ≤ 65536 then 2 else 1) else 0) * 2048)))
    ∧ (valid →
      (∀ e, s.myNode.edges.findIdx? (fun x => x.target == t) = some e →
        ((s.edgeUse s.w.key e).1 < (s.edgeUse s.w.key e).2 → sent (s.targetDie s.myDie t []) e true)
        ∧ ((s.edgeUse s.w.key e).2 ≤ (s.edgeUse s.w.key e).1 →
            Claims.Overruns (.launch f) s (.trap 0x12 0 0 (e * 2048))))
      ∧ (s.myNode.edges.findIdx? (fun x => x.target == t) = none →
        (s.launchesHeld s.myDie < 4096 → sent s.myDie 0 false)
        ∧ (s.launchesHeld s.myDie ≥ 4096 → ∃ u, exec (.launch f) s = .next u ∧ MemKept s u ∧ Charged s u 8
            ∧ u = { s with w := u.w, clusters := u.clusters, nextId := s.nextId + 1 }
            ∧ u.w = { s.w with s := u.w.s, ops := u.w.ops, deferred := u.w.deferred, rq := popped
                               leadPc := s.w.leadPc + 4 * xqWords f, tryLead := .issued, deadlock := 0, refused := none }
            ∧ ∀ i, u.w.getS i = if d = .s i then 1 else s.w.getS i)))

/-- RNEXT and LAUNCH (14 R329, R330; 02 R38, R44; 13 R302). -/
def Obligations.WorkLaunches : Prop :=
  Claims.RangeChunks ∧ Claims.GridLaunch

/-- APPEND to an edge that the node does not have is ILLEGAL_OPERAND; else it sends the record of every lane that takes
part, in lane order, each lane's registers from a up; the edge's allowance pays for them, and the first lane beyond it makes
the whole APPEND a QUEUE_OVERRUN, as does a DEPTH beyond the edge's limit. With no lane taking part it only moves on (14
R325 to R328; 13 R293). -/
def Obligations.RecordAppend : Prop :=
  ∀ (f : XqF) (s : State), let act := s.w.active f.kmask.toNat
    let lanes := lanesOf (s.w.voters act) s.w.lanes
    let ei := f.imm21.toNat
    Issues s .lane 8 → legalAppend f = none →
    (s.myNode.edges[ei]? = none → (lanes ≠ [] → s.w.counter .laneQo < 31) →
      Claims.Stops (.append f) s 8 (.trap 0x03 act 0 (3 * 2048)))
    ∧ ∀ (e : Edge) (n : Node), s.myNode.edges[ei]? = some e → s.node? e.target = some n → n.recsz ≠ 0 →
      n.kind ≠ kindDispatch → f.a9.toNat + n.recsz / 4 ≤ 320 → appendTile f = s.tileOrdered n e.target →
      (lanes = [] → Claims.Ends (.append f) s (s.modW (fun w => { w with lanePc := w.lanePc + 4 * xqWords f })) 8)
      ∧ (lanes ≠ [] →
      let srcs := (List.range (n.recsz / 4)).map (fun k => f.a9.toNat + k) ++ (if appendJoin f then [f.b9.toNat] else [])
      s.laneReady srcs [] = .ok () → s.w.counter .laneQo < 31 → s.regCheck act srcs = .ok () →
      (appendJoin f = true → ∀ l ∈ lanes, s.w.getV f.b9.toNat l < 1048576) →
      let u := s.edgeUse s.w.key ei
      let depth := s.newDepth e
      (u.1 + lanes.length > u.2 →
        Claims.Overruns (.append f) s (.trap 0x12 (maskOf (lanes.drop (u.2 - u.1))) 0 (ei * 2048)))
      ∧ (u.1 + lanes.length ≤ u.2 → e.depth ≠ 0 → depth > e.depth →
        Claims.Overruns (.append f) s (.trap 0x12 act 0 (ei * 2048 + 2 ^ 19)))
      ∧ (u.1 + lanes.length ≤ u.2 → (e.depth = 0 ∨ depth ≤ e.depth) → ∃ t, exec (.append f) s = .next t ∧ MemKept s t
        ∧ t = { s with w := t.w, clusters := t.clusters, net := t.net, nextId := t.nextId, blocks := t.blocks, dies := t.dies }
        ∧ t.blocks = s.blocks.map (fun x => if x.key = s.w.key then
            { x with edges := modAt x.edges ei (fun p => (p.1 + lanes.length, p.2)) } else x)
        ∧ t.w = { s.w with ops := t.w.ops, deferred := t.w.deferred, dirty := if f.push = 1#1 then [] else s.w.dirty
                           lanePc := s.w.lanePc + 4 * xqWords f, tryLane := .issued, deadlock := 0, refused := none }
        ∧ ∃ ms : List NetMsg, t.net = s.net ++ ms ∧ (∀ m ∈ ms, m.core = s.w.core ∧ m.slot = s.w.slot ∧ m.after = s.memOps)
          ∧ (ms.flatMap (fun m => match m.msg with | .record rs => rs | _ => [])).map
              (fun r => (r.node, r.bytes, r.join, r.depth, r.credit)) =
            lanes.map (fun l => (e.target, s.w.record f.a9.toNat n.recsz l,
              (if appendJoin f then some (s.w.getV f.b9.toNat l) else none), depth, true))))

/-- CPY and COLL, with a card that breaks no rule, enter their job in the die's footprint table, with the card's regions and
with every entry that conflicts with one of them as a predecessor; a card that breaks a rule, or a region outside its
bounds, is a fault without effect (14 R331 to R335; 15 R354 to R356; 09 R210). -/
def Obligations.JobsAreEntered : Prop :=
  let does (i : XqF → Instr) (isColl : Bool) : Prop := ∀ (f : XqF) (s : State), let n := f.a9.toNat
    let rs := (List.range 8).map (fun k => n + k)
    let coll := if isColl then some (collOp f) else none
    let x := s.w.cardBits n
    let c := cardOf x
    let span := match s.block? s.w.key with | some b => (b.core0, b.k) | none => (s.w.core, 1)
    let bad := cardBad x c || !kindsOk coll c
      || (decide (jobComp f = 2) && decide (c.bytes coll span.2 ≥ 2 ^ 24))
    let regions := c.regions coll s.w.core span.1 span.2
    let check := regionsFault s.w.k.scratch (cardOdd c (decide (coll = some 1))) regions
    Issues s .lead 8 → legalJob isColl f = none → s.leadReady (rs.map LeadIx.s) [] = .ok () → s.w.counter .leadCp < 15 →
    (s.die s.myDie).jobs.length < 1024 → s.sregCheck rs = .ok () →
    (bad = true → Claims.Stops (i f) s 8 (.trap 0x03 0 0 (3 * 2048)))
    ∧ (bad = false → ∀ x, check = some x → Claims.Stops (i f) s 8 x)
    ∧ (bad = false → check = none → ∃ t, exec (i f) s = .next t ∧ MemKept s t
      ∧ t = { s with w := t.w, clusters := t.clusters, dies := t.dies, nextId := t.nextId }
      ∧ t.w = { s.w with ops := t.w.ops, deferred := t.w.deferred, leadPc := s.w.leadPc + 4 * xqWords f
                         tryLead := .issued, deadlock := 0, refused := none }
      ∧ ∃ j, t.dies = modAt s.dies s.myDie (fun d => { d with jobs := d.jobs ++ [j] }) ∧ j.state = 1 ∧ j.op = s.nextId
        ∧ j.kind = (if isColl then .coll (collOp f) c else .copy c) ∧ j.regions = regions ∧ j.jobid = c.jobid
        ∧ j.comp = jobComp f ∧ j.compNum = f.imm8.toNat ∧ j.after = s.memOps ∧ j.core = s.w.core ∧ j.row = 0
        ∧ ∀ p, p ∈ j.preds ↔ ∃ y ∈ (s.die s.myDie).jobs, y.id = p ∧ ∃ a ∈ y.regions, ∃ b ∈ regions, a.conflicts b = true)
  does .cpy false ∧ does .coll true

/-! ## Traps, special registers and time (17, 04) -/

/-- TAKING A TRAP of the issuing wave (17 R385, R387, R391). With a handler whose push finds room on chip, the trap
registers are written, a call entry of the stopped lane PC and `exec` is pushed, `exec` becomes the lowest faulting lane and
the lane stream goes to the handler. Without one, the trap registers are written unless the wave was in a handler, its
block's waves stop, the block is to be saved as faulted, and a fault record waits for the host. A push with 24 entries on
chip spills the bottom one. The fields of the record, and that the block keeps the cause, are the model's (entry 41). -/
def Obligations.TrapEntry : Prop :=
  ∀ (s : State) (t : Trap), s.w.mgmt = false →
    let lane := if s.w.laneDone then donePc else s.w.lanePc
    let regs (w : Wave) : Wave := { w with
      tcause := t.cause % 256 + (if t.st = .lead then 256 else 0) + (if t.deferred then 512 else 0), tpclead := w.leadPc
      tpclane := lane, flanes := t.flanes, taddr := t.taddr, tinfo := t.tinfo }
    let after (w : Wave) : Wave := { w with deferred := if t.deferred then none else w.deferred, pendTrap := none }
    (s.hasHandler s.w t.cause = true → s.w.stack.length < 24 →
      s.takeTrap t = s.modW (fun w => { after (regs w) with
        stack := { pc := lane, rpc := kindCall, mask := w.exec } :: w.stack
        exec := 2 ^ (lowestLane t.flanes w.lanes).getD 0, laneDone := false, inTrap := true, trapOp := s.nextId
        trapLane := (lowestLane t.flanes w.lanes).getD 0
        lanePc := (s.vector s.w t.cause / 4) % 2 ^ 45 * 4 }))
    ∧ (s.hasHandler s.w t.cause = true → s.w.stack.length ≥ 24 →
      ∃ u, s.takeTrap t = u ∧ u.w = { after (regs s.w) with
          stack := { pc := lane, rpc := kindCall, mask := s.w.exec } :: s.w.stack.dropLast, spill := s.w.spill + 1
          exec := 2 ^ (lowestLane t.flanes s.w.lanes).getD 0, laneDone := false, inTrap := true, trapOp := s.nextId
          trapLane := (lowestLane t.flanes s.w.lanes).getD 0
          lanePc := (s.vector s.w t.cause / 4) % 2 ^ 45 * 4 }
        ∧ ∀ a, (a < s.w.spillBase + 24 * s.w.spill ∨ s.w.spillBase + 24 * (s.w.spill + 1) ≤ a) →
            memByte u.mem a = memByte s.mem a)
    ∧ (s.hasHandler s.w t.cause = false →
      (s.takeTrap t).w = { after (if s.w.inTrap then s.w else regs s.w) with stopped := true }
      ∧ MemKept s (s.takeTrap t)
      ∧ (s.takeTrap t).waves = s.waves.map (fun w => if w.key = s.w.key ∧ w.mgmt = false then { w with stopped := true } else w)
      ∧ (s.takeTrap t).blocks = s.blocks.map (fun b => if b.key = s.w.key then
          { b with status := .saving true none, cause := t.cause } else b)
      ∧ (s.takeTrap t).faultsWaiting = s.faultsWaiting ++ [{
          va := t.taddr, kind := t.cause, node := s.w.key.node, core := s.w.core, fseq := 0, cause := some t.cause
          graph := s.graphId }])

/-- TRAP is charged and raises TRAP_INSTR with its immediate as DETAIL; ERET, in a handler's lane stream with a call entry
on top, restores `exec` and resumes both streams from TPCLEAD and TPCLANE; outside a handler, and in the lead stream, ERET
is ILLEGAL_OPCODE (17 R399 to R401, R405; 18 R410). -/
def Sys2Proof.Claims.TrapAndReturn : Prop :=
  (∀ (f : XsF) (s : State) (st : Stream), Issues s st 8 → legalImm st f = none →
    exec (.trap f) s = .next (((s.charge s.w.core 8).modW (fun w => { w with refused := none })).takeTrap
      { cause := 0x17, st := st, deferred := false, flanes := (if st = .lane then s.w.active f.kmask.toNat else 0), taddr := 0
        tinfo := (Instr.trap f).word0.toNat % 2048 + f.imm12.toNat * 2048 }))
  ∧ (∀ (f : XsF) (s : State) (e : SEntry) (rest : List SEntry), Issues s .lane 8 → legalEret .lane f = none →
    s.w.inTrap = true → s.w.stack = e :: rest → e.kind = kindCall →
    Claims.Ends (.eret f) s (s.modW (fun w => { w with
      exec := e.mask, stack := rest, inTrap := false, laneDone := decide (w.tpclane = donePc), lanePc := w.tpclane
      leadPc := if w.leadDone then w.leadPc else w.tpclead })) 8)
  ∧ (∀ (f : XsF) (s : State), Issues s .lane 8 → legalEret .lane f = none → s.w.inTrap = false →
    exec (.eret f) s = .next (s.stopWith (Instr.eret f).word0 (.trap 0x01 (s.w.active f.kmask.toNat) 0 (6 * 2048))))
  ∧ (∀ (f : XsF) (s : State), Issues s .lead 8 → legalEret .lead f = none →
    exec (.eret f) s = .next (s.stopWith (Instr.eret f).word0 (.trap 0x01 0 0 (3 * 2048))))

/-- Registers d and d + 1 of the lanes of `m` take the halves of a value. -/
def Sys2Proof.Claims.LanePair (s t : State) (d m x : Nat) : Prop :=
  (∀ r l, l < 64 → t.w.getV r l =
      if l < s.w.lanes ∧ bit m l = true ∧ r = d then x % 2 ^ 32
      else if l < s.w.lanes ∧ bit m l = true ∧ r = d + 1 then x / 2 ^ 32 % 2 ^ 32 else s.w.getV r l)
    ∧ t.w.kreg = s.w.kreg ∧ t.w.exec = s.w.exec ∧ t.w.rq = s.w.rq
    ∧ NewSectors s t (fun r l => l < s.w.lanes ∧ bit m l = true ∧ (r = d ∨ r = d + 1))

/-- RDSR gives the register of its number, whole in the lead stream and to a lane destination, or a pair for the 64-bit
registers, in the lane stream, which with no lane active only moves on; a number of no register is ILLEGAL_OPERAND. The
numbers of a wave's registers are those of 04 R99 (17 R402). -/
def Sys2Proof.Claims.SpecialRegisterReads : Prop :=
  (∀ (f : XsF) (s : State) (v : Nat), Issues s .lead 8 → legalRdsr .lead f = none → s.readSr f.sel9.toNat = some v →
    s.leadOk [] (leadDst (leadIx9 f.d9.toNat)) = .ok () →
    ∃ t, exec (.rdsr f) s = .next t ∧ OnlyWave s t 8 ∧ Claims.LeadFrame s t 3 (leadIx9 f.d9.toNat) v false)
  ∧ (∀ (f : XsF) (s : State) (v : Nat), let d := f.d9.toNat
    let act := s.w.active f.kmask.toNat
    Issues s .lane 8 → legalRdsr .lane f = none → s.readSr f.sel9.toNat = some v →
    (lowestLane act s.w.lanes = none → Claims.Ends (.rdsr f) s (s.modW (fun w => { w with lanePc := w.lanePc + 12 })) 8)
    ∧ (isWideSr f.sel9.toNat = false → lowestLane act s.w.lanes ≠ none → s.laneReady [] [d] = .ok () →
      s.regCheck act (vRegs [d]) = .ok () →
      ∃ t, exec (.rdsr f) s = .next t ∧ OnlyWave s t 8 ∧ LaneFrame s t 3 [] ∧ LaneWord s t d act (fun _ => v))
    ∧ (isWideSr f.sel9.toNat = true → s.laneReady [] [d, d + 1] = .ok () → s.regCheck act [d, d + 1] = .ok () →
      ∃ t, exec (.rdsr f) s = .next t ∧ OnlyWave s t 8 ∧ LaneFrame s t 3 [] ∧ Claims.LanePair s t d act v))
  ∧ (∀ (f : XsF) (s : State) (st : Stream), Issues s st 8 → legalRdsr st f = none → s.readSr f.sel9.toNat = none →
    Claims.Stops (.rdsr f) s 8 (.trap 0x03 (if st = .lane then s.w.active f.kmask.toNat else 0) 0 (3 * 2048)))
  ∧ (∀ s : State, (List.range 0x12).map s.readSr = [some s.w.waveid, some s.w.key.blk, some s.w.key.node, some s.w.role,
      some s.w.pcls, some s.w.width, some s.w.poolpart, some s.w.rnd, some s.w.wstat, some s.w.tcause, some s.w.tpclead,
      some s.w.tpclane, some s.w.flanes, some s.w.taddr, some s.w.tinfo, some s.w.helper, some s.timen, some s.w.cyc])

/-- The wave after WRSR stores a value in register n of 04 R99. -/
def Sys2Proof.Claims.srStored (n v : Nat) (w : Wave) : Wave :=
  match n with
  | 0x007 => { w with rnd := v }
  | 0x009 => { w with tcause := v }
  | 0x00A => { w with tpclead := v }
  | 0x00B => { w with tpclane := v }
  | 0x00C => { w with flanes := v }
  | 0x00D => { w with taddr := v }
  | _ => { w with tinfo := v }

/-- WRSR stores a value that the register's field holds, from the lead operand or the lowest active lane: RNDMODE in the
lane stream, the trap registers in a handler; any other register, or a value beyond the field, is ILLEGAL_OPERAND. With no
lane active it only moves on (04 R100; 17 R402). -/
def Sys2Proof.Claims.SpecialRegisterWrites : Prop :=
  ∀ (f : XsF) (s : State) (st : Stream), let n := f.sel9.toNat
    let act := s.w.active f.kmask.toNat
    let wide := isWideSr n
    let srcs := if wide then wideSrc f.a9.toNat 2 else [f.a9.toNat]
    let may := (n = 0x007 ∧ st = .lane) ∨ (0x009 ≤ n ∧ n ≤ 0x00E ∧ s.w.inTrap = true)
    let flanes := if st = .lane then act else 0
    let stores (v : Nat) (popped : Wave → Wave) : Prop :=
      (v < srLimit s.w n → Claims.Ends (.wrsr f) s (s.modW (fun w =>
        let w' := Claims.srStored n v (popped w)
        w'.setPc st (w.pcOf st + 4 * xsWords f))) 8)
      ∧ (v ≥ srLimit s.w n → Claims.Stops (.wrsr f) s 8 (.trap 0x03 flanes 0 2048))
    Issues s st 8 → legalWrsr st f = none →
    (¬ may → Claims.Stops (.wrsr f) s 8 (.trap 0x03 flanes 0 (3 * 2048)))
    ∧ (may → st = .lead → s.leadOk [leadIx9 f.a9.toNat] [] = .ok () →
      stores (s.w.leadVal f.lit (leadIx9 f.a9.toNat)) (fun w => w.popRq [leadIx9 f.a9.toNat]))
    ∧ (may → st = .lane → lowestLane act s.w.lanes = none →
      Claims.Ends (.wrsr f) s (s.modW (fun w => { w with lanePc := w.lanePc + 4 * xsWords f })) 8)
    ∧ (∀ l, may → st = .lane → lowestLane act s.w.lanes = some l → s.laneReady srcs [] = .ok () →
      s.regCheck act (vRegs srcs) = .ok () →
      stores (if wide then s.w.src64 f.lit f.a9.toNat l else s.w.src f.lit f.a9.toNat l) (fun w => w.popUsed srcs))

/-- RDSR and WRSR (17 R402; 04 R99, R100). -/
def Obligations.SpecialRegisterAccess : Prop :=
  Claims.SpecialRegisterReads ∧ Claims.SpecialRegisterWrites

/-- RDLEAD and WRLEAD reach the lead registers from a handler's lane stream, and with no lane active only move on; outside a
handler both are ILLEGAL_OPCODE (17 R403). -/
def Sys2Proof.Claims.HandlerLeadAccess : Prop :=
  (∀ (f : XsF) (s : State), let n := f.sel9.toNat
    let d := f.d9.toNat
    let act := s.w.active f.kmask.toNat
    Issues s .lane 8 → legalRdlead .lane f = none →
    (s.w.inTrap = false → exec (.rdlead f) s = .next (s.stopWith (Instr.rdlead f).word0 (.trap 0x01 act 0 (6 * 2048))))
    ∧ (s.w.inTrap = true → lowestLane act s.w.lanes = none →
      Claims.Ends (.rdlead f) s (s.modW (fun w => { w with lanePc := w.lanePc + 12 })) 8)
    ∧ (s.w.inTrap = true → s.leadReady [.s n] [] = .ok () → s.laneReady [] [d, d + 1] = .ok () →
      s.regCheck act [d, d + 1] = .ok () → s.sregCheck [n] = .ok () →
      ∃ t, exec (.rdlead f) s = .next t ∧ OnlyWave s t 8 ∧ LaneFrame s t 3 [] ∧ Claims.LanePair s t d act (s.w.getS n)))
  ∧ (∀ (f : XsF) (s : State), let n := f.sel9.toNat
    let act := s.w.active f.kmask.toNat
    let srcs := wideSrc f.a9.toNat 2
    Issues s .lane 8 → legalWrlead .lane f = none →
    (s.w.inTrap = false → exec (.wrlead f) s = .next (s.stopWith (Instr.wrlead f).word0 (.trap 0x01 act 0 (6 * 2048))))
    ∧ (s.w.inTrap = true → lowestLane act s.w.lanes = none →
      Claims.Ends (.wrlead f) s (s.modW (fun w => { w with lanePc := w.lanePc + 4 * xsWords f })) 8)
    ∧ (∀ l, s.w.inTrap = true → lowestLane act s.w.lanes = some l → s.leadReady [] [n] = .ok () →
      s.laneReady srcs [] = .ok () → s.regCheck act (vRegs srcs) = .ok () → s.sregCheck [n] = .ok () →
      ∃ t, exec (.wrlead f) s = .next t ∧ OnlyWave s t 8
        ∧ t.w = { s.w with s := t.w.s, lanePc := s.w.lanePc + 4 * xsWords f, tryLane := .issued, deadlock := 0, refused := none }
        ∧ ∀ i, t.w.getS i = if i = n then s.w.src64 f.lit f.a9.toNat l % 2 ^ 64 else s.w.getS i))

/-- TRAP, ERET, and the accesses of a handler to the lead registers (17 R400, R401, R403). -/
def Obligations.HandlersTrapsAndReturns : Prop :=
  Claims.HandlerLeadAccess ∧ Claims.TrapAndReturn

/-- YIELD holds its stream for n cycles and restarts its readiness age; SLEEP holds it until TIMEN reaches now plus the
operand, which the lead stream limits to 32 bits (17 R404). -/
def Obligations.YieldAndSleep : Prop :=
  (∀ (f : XsF) (s : State) (st : Stream), Issues s st 8 → legalImm st f = none →
    let n := if f.imm12 = 0#12 then 0 else f.imm12.toNat + 1
    Claims.Ends (.yield f) s (s.modW (fun w => match st with
      | .lead => { w with yieldLead := n, ageLead := s.cycleOf s.w.core, leadPc := w.leadPc + 12 }
      | .lane => { w with yieldLane := n, ageLane := s.cycleOf s.w.core, lanePc := w.lanePc + 12 })) 8)
  ∧ (∀ (f : XsF) (s : State), Issues s .lead 8 → legalSleep .lead f = none → let a := leadIx9 f.a9.toNat
    s.leadOk [a] [] = .ok () →
    let x := s.w.leadVal f.lit a
    (x < 2 ^ 32 → Claims.Ends (.sleep f) s (s.modW (fun w => { w with
      rq := if a = .rq then w.rq.tail else w.rq, sleepLead := some (s.timen + x), leadPc := w.leadPc + 4 * xsWords f })) 8)
    ∧ (x ≥ 2 ^ 32 → Claims.Stops (.sleep f) s 8 (.trap 0x03 0 0 2048)))
  ∧ (∀ (f : XsF) (s : State), let act := s.w.active f.kmask.toNat
    let srcs := [f.a9.toNat]
    Issues s .lane 8 → legalSleep .lane f = none →
    (lowestLane act s.w.lanes = none →
      Claims.Ends (.sleep f) s (s.modW (fun w => { w with lanePc := w.lanePc + 4 * xsWords f })) 8)
    ∧ (∀ l, lowestLane act s.w.lanes = some l → s.laneReady srcs [] = .ok () → s.regCheck act (vRegs srcs) = .ok () →
      Claims.Ends (.sleep f) s (s.modW (fun w => { w.popUsed srcs with
        sleepLane := some (s.timen + s.w.src f.lit f.a9.toNat l), lanePc := w.lanePc + 4 * xsWords f })) 8))

/-- THE MANAGEMENT CORE: an instruction outside its set is ILLEGAL_OPCODE; a fault with interrupts enabled writes TCAUSE,
TPCLEAD, TADDR and TINFO and goes to address 0, with them disabled halts the core and sets DEVSTAT[1]; ERET goes back to
TPCLEAD with interrupts enabled (03 R80; 04 R102; 20 R439). The model's: that the fault writes TPCLEAD and keeps the
interrupt enable, and that a fault that halts writes no trap register (entry 14). -/
def Obligations.ManagementCore : Prop :=
  (∀ (i : Instr) (s : State), i.isEncoded = true → s.w.mgmt = true → s.st = .lead → s.stalled = false →
    s.mayIssue = true → mgmtAllowed i = false →
    exec i s = .next (s.stopWith i.word0 (.trap 0x01 0 0 (3 * 2048))))
  ∧ (∀ (s : State) (t : Trap), s.w.mgmt = true → s.mgmtIe = true →
    s.takeTrap t = s.modW (fun w => { w with
      tcause := t.cause % 256 + 256 + (if t.deferred then 512 else 0), taddr := t.taddr, tinfo := t.tinfo, tpclead := w.leadPc
      leadPc := 0, deferred := if t.deferred then none else w.deferred }))
  ∧ (∀ (s : State) (t : Trap), s.w.mgmt = true → s.mgmtIe = false →
    (s.takeTrap t).mgmtHalted = true ∧ bit (s.takeTrap t).devstat 1 = true ∧ (s.takeTrap t).w = s.w
    ∧ MemKept s (s.takeTrap t))
  ∧ (∀ (f : XsF) (s : State), s.w.mgmt = true → s.st = .lead → s.stalled = false → s.mayIssue = true →
    legalEret .lead f = none → ∃ t, exec (.eret f) s = .next t ∧ t.w.leadPc = s.w.tpclead ∧ t.mgmtIe = true ∧ t.mem = s.mem
      ∧ t.w.s = s.w.s ∧ t.waves = s.waves)

/-! ## Steps of the device's agents: registers, power and timers (02, 04, 07, 16, 17, 18) -/

/-- A step of an agent ends in this state. -/
def Sys2Proof.Claims.Steps (i : Instr) (s t : State) : Prop := exec i s = .next t

/-- The register writes that stand as steps of their own: RNDMODE keeps its codes 0 to 6, a THROTTLE of 7 is held as 6, a
bit of TALERT written as 1 falls unless a sample of the cycle set it, a body bias makes its cluster settle, CBMAX takes 1 to
16, a count of a core's events is written under the events of the cycle, and a numbered write stores what WRSR could store
(04 R100 to R102; 18 R407, R408, R412, R417). What THROTTLE, a body bias and CBMAX do begins with the next cycle
(PowerSteps). -/
def Obligations.RegisterWriteSteps : Prop :=
  (∀ (v : BitVec 3) (s : State),
    Claims.Steps (.rndmodeWrite v) s (if v.toNat < 7 then s.modW (fun w => { w with rnd := v.toNat }) else s))
  ∧ (∀ (g : Nat) (v : BitVec 3) (s : State),
    Claims.Steps (.throttleWrite g v) s (s.modCluster g (fun c => { c with throttle := if v.toNat = 7 then 6 else v.toNat })))
  ∧ (∀ (v : BitVec 24) (s : State), ∃ x, Claims.Steps (.talertWrite v) s { s with talert := x }
    ∧ ∀ i, i < 24 → bit x i = (bit s.talert i && (!v.getLsbD i || (s.cluster i).alerted)))
  ∧ (∀ (g : Nat) (v : BitVec 3) (s : State),
    Claims.Steps (.cbiasWrite g v) s (s.modCluster g (fun c => { c with cbias := v.toNat, settling := true })))
  ∧ (∀ (v : BitVec 5) (s : State), Claims.Steps (.cbmaxWrite v) s (if 1 ≤ v.toNat ∧ v.toNat ≤ 16 then
      { s with cbmax := v.toNat } else s))
  ∧ (∀ (n : BitVec 9) (v : Dword) (s : State), s.w.mgmt = false →
    Claims.Steps (.specialRegisterWrite n v) s (if ((n.toNat = 0x007 ∧ s.st = .lane) ∨
        (0x009 ≤ n.toNat ∧ n.toNat ≤ 0x00E ∧ s.w.inTrap = true)) ∧ v.toNat < srLimit s.w n.toNat then
      s.modW (Claims.srStored n.toNat v.toNat) else s))
  ∧ (∀ (v : Dword) (s : State), s.w.mgmt = true →
    (v.toNat < 24 → Claims.Steps (.specialRegisterWrite 0x062 v) s { s with csel := v.toNat })
    ∧ (v.toNat < 4096 → Claims.Steps (.specialRegisterWrite 0x061 v) s { s with tlimit := v.toNat })
    ∧ (v.toNat < 2 ^ 32 → Claims.Steps (.specialRegisterWrite 0x018 v) s { s with retcnt := setAt s.retcnt 0 v.toNat })
    ∧ (v.toNat < 2 ^ 32 → Claims.Steps (.specialRegisterWrite 0x080 v) s
        (s.modCore 0 (fun c => { c with mxnan := (v.toNat + c.nanNow) % 2 ^ 32 }))))

/-- The timers of a wave: a SLEEP ends at its time and a YIELD's count runs out; a C wave starved for 3,072 cycles and a P
wave for 61,440 are promoted; a wave stuck on its coupling queues for 16 cycles, or parked on a limited wait for 2^20 with
the vector entry valid, has the fault posted at its instruction, and the register claims behind a wait that ends so are
served (02 R28, R35, R47; 07 R176; 17 R390, R404). -/
def Obligations.WaveTimers : Prop :=
  let overB (t : Option Nat) (s : State) : Option Nat :=
    match t with | some x => if x ≤ s.timen then none else some x | none => none
  let posted (s : State) (c slot : Nat) (st : Stream) (cause detail : Nat) (i : Instr) (flanes : Nat) : State :=
    let t : Trap :=
      { cause := cause, st := st, deferred := false, flanes := flanes, taddr := 0, tinfo := i.word0.toNat % 2048 + detail }
    s.modWave c slot (fun w => { w with pendTrap := some t })
  (∀ (c slot : Nat) (s : State),
    Claims.Steps (.sleepExpiry c slot .lead) s (s.modWave c slot (fun w => { w with sleepLead := overB w.sleepLead s }))
    ∧ Claims.Steps (.sleepExpiry c slot .lane) s (s.modWave c slot (fun w => { w with sleepLane := overB w.sleepLane s }))
    ∧ Claims.Steps (.yieldExpiry c slot .lead) s (s.modWave c slot (fun w => { w with
        yieldLead := if w.yieldLead = 1 then 0 else w.yieldLead, ageLead := if w.yieldLead = 1 then s.cycleOf c else w.ageLead }))
    ∧ Claims.Steps (.yieldExpiry c slot .lane) s (s.modWave c slot (fun w => { w with
        yieldLane := if w.yieldLane = 1 then 0 else w.yieldLane, ageLane := if w.yieldLane = 1 then s.cycleOf c else w.ageLane })))
  ∧ (∀ (c slot : Nat) (s : State),
    let starved (cls limit : Nat) (w : Wave) : Wave :=
      if w.mgmt = false ∧ w.pcls % 4 = cls ∧ w.starve ≥ limit then { w with promoted := true } else w
    Claims.Steps (.starvationPromoteC c slot) s (s.modWave c slot (starved 0 3072))
    ∧ Claims.Steps (.starvationPromoteP c slot) s (s.modWave c slot (starved 1 61440)))
  ∧ (∀ (c slot : Nat) (s s' : State) (w : Wave) (st : Stream) (d : Nat) (i : Instr) (ws : List Word),
    s.wave? c slot = some w → s.deadlockOf w = some (st, d) →
    let s0 := s.modWave c slot (fun w => { w with deadlock := 0 })
    s0.peek c slot st = some (s', i, ws) →
    Claims.Steps (.couplingDeadlock c slot) s
      (if w.deadlock ≥ 16 then posted s0 c slot st 0x0E d i (s'.peekLanes i ws) else s))
  ∧ (∀ (c slot : Nat) (s s' : State) (w : Wave) (p : Park) (st : Stream) (d : Nat) (i : Instr) (ws : List Word),
    s.wave? c slot = some w → w.status = .parked p → p.limited = some (st, d) →
    let s0 := (s.unwait c slot).modWave c slot (fun w => { w with status := .running, parkCount := 0 })
    s0.peek c slot st = some (s', i, ws) →
    Claims.Steps (.waitLimit c slot) s
      (if bit (s.vector w 0x16) 0 = true ∧ w.parkCount ≥ 2 ^ 20 ∧ w.stopped = false then
        let u := posted s0 c slot st 0x16 (d * 2048) i (s'.peekLanes i ws)
        u.serveClaims w.key c (u.claims w.key c) else s))

/-- A posted trap is taken by its wave, with its handler or without one; a wave whose streams have finished with nothing
outstanding retires, and the last one takes its block off the die (02 R20; 17 R387, R391). -/
def Obligations.TrapsTakenAndWavesRetire : Prop :=
  (∀ (c slot : Nat) (s s' : State) (w : Wave) (t : Trap), s.wave? c slot = some w → w.pendTrap = some t →
    s.focus c slot t.st = some s' → s'.w.mgmt = false → s'.w.stopped = false →
    Claims.Steps (.trapEntry c slot) s (if s'.hasHandler s'.w t.cause = true then s'.takeTrap t else s)
    ∧ Claims.Steps (.faultWithoutHandler c slot) s (if s'.hasHandler s'.w t.cause = true then s else s'.takeTrap t))
  ∧ (∀ (c slot : Nat) (s : State) (w : Wave) (b : Block), s.wave? c slot = some w → w.core = c → w.slot = slot →
    w.mayRetire = true → w.takable = none → s.block? w.key = some b →
    (b.live ≥ 2 → ∃ t, Claims.Steps (.waveRetire c slot) s t
      ∧ t.waves.length = s.waves.length ∧ t.wave? c slot = some { w with status := .retired, open_ := MBatch.open0 }
      ∧ t.blocks = s.blocks.map (fun x => if x.key = w.key then { x with live := x.live - 1 } else x) ∧ MemKept s t)
    ∧ (b.live = 1 → ∃ t, Claims.Steps (.waveRetire c slot) s t ∧ t.blocks = s.blocks.filter (fun x => x.key != w.key)
      ∧ ∀ x ∈ t.waves, x.mgmt = false → x.key ≠ w.key))

/-- Power and the cycle's end: a droop trip puts the step to 1, a microsecond moves it by R412, a bias that settles after a
cycle of empty slots, a sample that raises the thermal alert and the firmware's handler of it, a refilled bucket that
saturates at 1,048,576 with the step lowered to CBMAX and the empty slots of the next cycle decided, a satisfied mass
release admitted cluster by cluster, the lowest pending interrupt taken by the management core, and the boot stages, held at
0 by a training failure and with the cores of a cluster that fails calibration declared dead (18 R406 to R417; 20 R430,
R439, R440). The model's: the handler as one step of the firmware, and its table of last changes beginning at 0 (entry 43);
that a bias settles only after a cycle of empty slots, and that the refills of cluster 0 count the device's cycles (entry
10). -/
def Obligations.PowerSteps : Prop :=
  (∀ (g : Nat) (s : State), g < 24 →
    Claims.Steps (.droopTrip g) s (({ s with droopcnt := (s.droopcnt + 1) % 2 ^ 32 } : State).modCluster g (fun c =>
      { c with step := 1, tripped := true })))
  ∧ (∀ (g : Nat) (s : State), Claims.Steps (.cbStepUpdate g) s
      (if s.timen / 1000 > (s.cluster g).stepAt then s.modCluster g (fun c => { c with
          step := if c.tripped || c.full then 1 else min (max s.cbmax c.step) (c.step + 1)
          full := decide (c.bucket = 1048576), stepAt := s.timen / 1000 }) else s))
  ∧ (∀ (g : Nat) (s : State), Claims.Steps (.biasSettle g) s
      (s.modCluster g (fun c => if c.idle then { c with settling := false } else c)))
  ∧ (∀ (g : Nat) (t : BitVec 12) (s : State), g < 24 → g < s.clusters.length →
      s.timen / 100000 > (s.cluster g).sampleAt → ∃ u, Claims.Steps (.thermalSample g t) s u ∧ (u.cluster g).temp = t.toNat
        ∧ (t.toNat ≥ s.tlimit → bit u.talert g = true ∧ 1 ∈ u.mgmtPending)
        ∧ ((s.cluster g).throttle ≠ 0 → t.toNat + 40 ≤ s.tlimit → bit u.talert g = true ∧ 1 ∈ u.mgmtPending)
        ∧ (t.toNat < s.tlimit → ((s.cluster g).throttle = 0 ∨ t.toNat + 40 > s.tlimit) →
            u.talert = s.talert ∧ u.mgmtPending = s.mgmtPending))
  ∧ (∀ (s : State) (w : Wave), s.wave? 192 0 = some w → w.tcause = 0x41 → s.mgmtIe = false → s.mgmtHalted = false →
      s.talert ≠ 0 → ∃ u, s.turn (.agent .thermalHandler 0 0 0) = .next u ∧ MemKept s u
        ∧ (∀ i, i < 24 → bit u.talert i = (bit s.talert i && (s.cluster i).alerted))
        ∧ ∀ g, g < 24 → g < s.clusters.length → (u.cluster g).throttle =
            (if bit s.talert g = false then (s.cluster g).throttle
             else if (s.cluster g).temp ≥ s.tlimit then min ((s.cluster g).throttle + 1) 6
             else if (s.cluster g).temp + 40 ≤ s.tlimit ∧ (s.cluster g).throttleAt + 10000000 ≤ s.timen
               then (s.cluster g).throttle - 1
             else (s.cluster g).throttle))
  ∧ (∀ (g : Nat) (s : State), g < 24 → ∃ u, Claims.Steps (.chargeBucketRefill g) s u
      ∧ u.clusters = modAt s.clusters g (fun c => { c with
          bucket := min 1048576 (c.bucket + 64 * c.step), step := min c.step s.cbmax, cycle := c.cycle + 1
          idle := c.settling
            || decide (c.throttle ≠ 0 ∧ ((c.cycle + 1) % 8 * c.throttle) % 8 < c.throttle)
          tripped := false, alerted := false })
      ∧ u.cycle = (if g = 0 then s.cycle + 1 else s.cycle) ∧ MemKept s u)
  ∧ (∀ (s : State) (m : MassRelease) (c : Nat), s.mass = [m] → m.since < s.cycle →
      let mine (c : Nat) : List (Nat × Nat) := m.waves.filter (fun p => clusterOf p.1 == c)
      (rotation m.die (s.die m.die).cbrot).find? (fun c =>
        mine c != [] && decide (((64 * (mine c).length : Nat) : Int) ≤ (s.cluster c).bucket)) = some c →
      ∃ u, Claims.Steps .massReleaseAdmit s u
        ∧ u.clusters = (s.charge (8 * c) (64 * (mine c).length)).clusters
        ∧ u.waves = (s.modWaves (mine c) Wave.wake).waves ∧ u.w = (s.modWaves (mine c) Wave.wake).w
        ∧ (∀ x ∈ u.mass, x.waves = m.waves.filter (fun p => clusterOf p.1 != c) ∧ x.since = s.cycle)
        ∧ (m.rotated = false → m.die < s.dies.length → (u.die m.die).cbrot = c))
  ∧ (∀ (s : State) (src : Nat) (rest : List Nat), s.mgmtPending = src :: rest → s.mgmtIe = true → s.mgmtHalted = false →
      Claims.Steps .mgmtInterrupt s (({ s with mgmtPending := rest, mgmtIe := false } : State).modWave 192 0 (fun w => { w with
        tpclead := w.leadPc, tcause := 0x40 + src, leadPc := 0x100 + 0x40 * src, sleepLead := none })))
  ∧ (∀ s : State, ∃ u, Claims.Steps .powerGood s u ∧ u.powered = true
      ∧ (s.powered = true → u = s)
      ∧ (s.powered = false → u.timen = 0 ∧ u.bootstage = 0 ∧ u.mem = s.mem ∧ u.w = s.w ∧ u.flash = s.flash))
  ∧ (∀ (trained : Bool) (failed : Nat) (s : State), s.powered = true →
      (s.mgmtHalted = true ∨ s.bootstage ≥ 3 ∨ (s.bootstage = 0 ∧ bit s.devstat 0 = true) →
        Claims.Steps (.bootstageAdvance trained failed) s s)
      ∧ (s.mgmtHalted = false → (s.bootstage = 0 → bit s.devstat 0 = false) →
        (s.bootstage = 0 → trained = false →
          Claims.Steps (.bootstageAdvance trained failed) s { s with devstat := putBit s.devstat 0 true })
        ∧ (s.bootstage ≤ 1 → (s.bootstage = 0 → trained = true) →
          Claims.Steps (.bootstageAdvance trained failed) s { s with bootstage := s.bootstage + 1 })
        ∧ (s.bootstage = 2 → s.clusters.length = 24 → s.cores.length = 192 →
          ∃ u, Claims.Steps (.bootstageAdvance trained failed) s u ∧ u.bootstage = 3
            ∧ u.devstat = (if failed % 2 ^ 24 = 0 then s.devstat else putBit s.devstat 0 true)
            ∧ (∀ g, g < 24 → bit failed g = false →
                (u.cluster g).cbias = (Config.biasSetting g).toNat ∧ (u.cluster g).settling = true)
            ∧ (∀ g k, g < 24 → k < 8 → bit failed g = true → (u.core (8 * g + k)).dead = true))))

/-! ## Steps of the memory system (10, 11, 15, 20) -/

/-- What a message of the net is when its turn has come. -/
def Sys2Proof.Claims.Due (s : State) (i : Nat) (n : NetMsg) : Prop := s.arrives i = some n

/-- The byte at an address after bytes of a line, by their offsets, have been written: the last one written there. -/
def Sys2Proof.Claims.written (s : State) (line : Nat) (data : List (Nat × Byte)) (a : Nat) : Byte :=
  match data.reverse.find? (fun d => line + d.1 == a) with
  | some d => d.2
  | none => memByte s.mem a

/-- AT THE HOME of a line (10 R214 to R222, R225, R226): a load is answered with the line's bytes and makes its reader a
sharer when it asks for a copy, and of a poisoned line nothing but POISON; a line in state C is folded first, for a load
that registers no sharer, holds stores and ATOMs back and drops a prefetch; a store and an ATOM change exactly their bytes
and every sharer is sent the update; a store of all 128 bytes clears poison, and an ATOM of a poisoned line does not
perform; a deregistration, a notice's reply and a refused push clear the sharer, and the refusal ends a handoff; a holder is
registered, an evicted partial kept. -/
def Obligations.MessagesAtTheHome : Prop :=
  (∀ (i : Nat) (s : State) (n : NetMsg) (r : Req) (parts : List (Nat × Nat × Nat)) (fill pref : Bool), Claims.Due s i n →
    n.msg = .load r parts fill pref → s.atHome n r.core (lineOf r.pa) = true → s.lineState (lineOf r.pa) ≠ .c →
    s.poisoned (lineOf r.pa) = false → ∃ t, Claims.Steps (.homeLoad i) s t ∧ MemKept s t ∧ t.w = s.w ∧ t.waves = s.waves
      ∧ t.net.map (fun m => m.msg) = (dropAt s.net i).map (fun m => m.msg)
          ++ (if fill then [.fill r.core (lineOf r.pa) (memBytes s.mem (lineOf r.pa) 128) false] else [])
          ++ (if parts = [] then [] else [.ret r.core r.slot r.op (lineOf r.pa)
              (parts.map (fun p => (p.1, ((memBytes s.mem (lineOf r.pa) 128).drop p.2.1).take p.2.2))) parts none])
      ∧ (t.dirOf (lineOf r.pa)).sharers =
          (if fill then insertAsc r.core (s.dirOf (lineOf r.pa)).sharers else (s.dirOf (lineOf r.pa)).sharers))
  ∧ (∀ (i : Nat) (s : State) (n : NetMsg) (r : Req) (parts : List (Nat × Nat × Nat)) (fill pref : Bool), Claims.Due s i n →
    n.msg = .load r parts fill pref → s.atHome n r.core (lineOf r.pa) = true → parts ≠ [] →
    let line := lineOf r.pa
    let bytes := memBytes s.mem line 128
    let answers (m : Msg) : Prop := Claims.Steps (.homeLoad i) s
      { s with net := dropAt s.net i ++ [{ id := s.nextId, sent := s.timen, core := 192, slot := 0, after := [], scope := 0, fwd := false, msg := m }]
               nextId := s.nextId + 1 }
    (s.lineState line ≠ .c → s.poisoned line = true →
      answers (.ret r.core r.slot r.op line (parts.map (fun p => (p.1, []))) [] (some r.va)))
    ∧ (s.lineState line = .c →
      (pref = true → Claims.Steps (.homeLoad i) s { s with net := dropAt s.net i })
      ∧ (pref = false →
        ((s.dirOf line).fold.isSome = true ∨ s.foldReady line = false → Claims.Steps (.homeLoad i) s s)
        ∧ ((s.dirOf line).fold = none → s.foldReady line = true →
          ((s.dirOf line).holders = [] → (s.dirOf line).parts = [] → s.poisoned line = false → answers
            (.ret r.core r.slot r.op line (parts.map (fun p => (p.1, (bytes.drop p.2.1).take p.2.2))) parts none))
          ∧ ((s.dirOf line).holders ≠ [] ∨ (s.dirOf line).parts ≠ [] → ∃ t, Claims.Steps (.homeLoad i) s t ∧ MemKept s t
            ∧ (t.dirOf line).holders = [] ∧ (t.dirOf line).parts = (s.dirOf line).parts
            ∧ (t.dirOf line).fold = some { cores := (s.dirOf line).holders.filter (fun c => c != 192), loads := [n.id], poison := false }
            ∧ t.net.map (fun m => m.msg) = s.net.map (fun m => m.msg)
                ++ ((s.dirOf line).holders.filter (fun c => c != 192)).map (fun c => .probe c line))))))
  ∧ (∀ (i : Nat) (s : State) (n : NetMsg) (r : Req), Claims.Due s i n → s.lineState (lineOf r.pa) = .c →
    (∀ data push, n.msg = .store r data push → Claims.Steps (.homeStore i) s s)
    ∧ (∀ a, n.msg = .atom r a → Claims.Steps (.homeAtom i) s s))
  ∧ (∀ (i : Nat) (s : State) (n : NetMsg) (r : Req) (a : AtomOp), Claims.Due s i n → n.msg = .atom r a →
    s.atHome n r.core (lineOf r.pa) = true → s.lineState (lineOf r.pa) ≠ .c → s.poisoned (lineOf r.pa) = true →
    let acks : List Msg := [.ack (.wave r.core r.slot r.op) false, .ack (.wave r.core r.slot r.op) true]
    ∃ t, Claims.Steps (.homeAtom i) s t ∧ MemKept s t ∧ t.dir = s.dir
      ∧ t.net.map (fun m => m.msg) = (dropAt s.net i).map (fun m => m.msg)
          ++ (if a.returns then [.ret r.core r.slot r.op (lineOf r.pa) [(a.lane, [])] [] (some (lineOf r.va))] else []) ++ acks
      ∧ (a.returns = true → t.w = s.w ∧ t.waves = s.waves))
  ∧ (∀ (i : Nat) (s : State) (n : NetMsg) (r : Req) (data : List (Nat × Byte)) (push : List Nat), Claims.Due s i n →
    n.msg = .store r data push → s.atHome n r.core (lineOf r.pa) = true → s.lineState (lineOf r.pa) ≠ .c →
    ∃ t, Claims.Steps (.homeStore i) s t ∧ t.w = s.w ∧ t.waves = s.waves
      ∧ (∀ a, memByte t.mem a = Claims.written s (lineOf r.pa) data a)
      ∧ t.poisoned (lineOf r.pa) =
          (s.poisoned (lineOf r.pa) && !(List.range 128).all (fun o => data.any (fun d => d.1 == o)))
      ∧ (∀ c ∈ (s.dirOf (lineOf r.pa)).sharers, ∃ m ∈ t.net, ∃ id, m.msg = .update c (lineOf r.pa) data id false))
  ∧ (∀ (i : Nat) (s : State) (n : NetMsg) (r : Req) (a : AtomOp), Claims.Due s i n → n.msg = .atom r a →
    s.atHome n r.core (lineOf r.pa) = true → s.lineState (lineOf r.pa) ≠ .c → s.poisoned (lineOf r.pa) = false →
    ∃ t, Claims.Steps (.homeAtom i) s t ∧ t.w = s.w ∧ t.waves = s.waves
      ∧ (∀ x, memByte t.mem x = (match atomResult a (memVal s.mem r.pa a.n) with
          | some v => if r.pa ≤ x ∧ x < r.pa + a.n then (leBytes v a.n).getD (x - r.pa) 0#8 else memByte s.mem x
          | none => memByte s.mem x))
      ∧ (a.returns = true → ∃ m ∈ t.net, m.msg = .ret r.core r.slot r.op (lineOf r.pa)
          [(a.lane, leBytes (memVal s.mem r.pa a.n) a.n)] [] none))
  ∧ (∀ (i : Nat) (s : State) (n : NetMsg) (core line : Nat), Claims.Due s i n → s.entryHere line = true →
    let gone : State := { s with net := dropAt s.net i }
    let held := gone.net.any (fun m => match m.msg with | .fill c l _ _ | .push c l _ _ => c == core && l == line | _ => false)
      || (s.core core).l1.any (fun x => x.line == line && decide (x.st ≠ .c))
    let cleared := gone.modDir line (fun d => { d with sharers := d.sharers.filter (fun c => c != core) })
    (n.msg = .dereg core line → Claims.Steps (.deregistration i) s (if held then gone else cleared))
    ∧ (n.msg = .noticeReply core line → Claims.Steps (.rangeNoticeReply i) s cleared)
    ∧ (n.msg = .holder core line → Claims.Steps (.holderRegister i) s
        (gone.modDir line (fun d => { d with holders := insertAsc core d.holders })))
    ∧ (∀ ok ack, n.msg = .pushReply core line ok ack → ∃ t, Claims.Steps (.pushReply i) s t ∧ MemKept s t
        ∧ (∀ a ∈ t.acks, a.id = ack → core ∉ a.pushes)
        ∧ (ok = false → ∀ h ∈ t.handoffs, h.id ≠ ack)
        ∧ ((ok = true → ∀ h ∈ s.handoffs, h.id ≠ ack) →
            t.dir = (if ok = true ∨ held = true then s.dir else cleared.dir))))
  ∧ (∀ (i : Nat) (s : State) (n : NetMsg) (core line touched : Nat) (words : List Word) (r : CRange), Claims.Due s i n →
    n.msg = .evicted core line words touched → s.entryHere line = true → s.rangeOfLine line = some r →
    (∀ f, (s.dirOf line).fold = some f → core ∈ f.cores) →
    Claims.Steps (.evictedPartial i) s (({ s with net := dropAt s.net i } : State).modDir line (fun d =>
      { d with parts := keepPartial r.fmt r.op { agent := core, words := words, touched := touched } d.parts })))

/-- AT A CORE (10 R216, R218, R220, R222, R225; 11 R238, R250): a fill is installed in state S and a push in state P,
refused when the injected lines are full or the line is held in state C; in a full L1 a line that gives way makes room, or
the message waits (which one does is the model's, entry 19); an update is recorded in the pending-update array, or the copy
is marked when that is full; a notice marks a copy; a probe takes the partial, behind any that the core evicted; an
acknowledgement is counted off, and the last one ends its store; loaded bytes reach their operation, and the last ones its
registers, or POISON is posted. -/
def Obligations.MessagesAtTheCore : Prop :=
  (∀ (i : Nat) (s : State) (n : NetMsg) (core line : Nat) (data : List Byte), Claims.Due s i n → core < s.cores.length →
    (s.core core).dead = false → (s.core core).line? line = none → (s.core core).l1.length < 2048 →
    (∀ drop, n.msg = .fill core line data drop → ∃ t, Claims.Steps (.fillReceive i) s t ∧ MemKept s t ∧ t.w = s.w
      ∧ t.waves = s.waves ∧ ∃ x, (t.core core).line? line = some x ∧ x.st = .s ∧ x.drop = drop)
    ∧ (∀ ack, n.msg = .push core line data ack → (s.core core).injcnt < 512 → ∃ t, Claims.Steps (.pushReceive i) s t
      ∧ MemKept s t ∧ (t.core core).injcnt = (s.core core).injcnt + 1
      ∧ (∃ x, (t.core core).line? line = some x ∧ x.st = .p ∧ x.data = data)
      ∧ (t.net.map (fun m => m.msg)) = (dropAt s.net i).map (fun m => m.msg) ++ [.pushReply core line true ack])
    ∧ (∀ ack, n.msg = .push core line data ack → (s.core core).injcnt ≥ 512 → ∃ t, Claims.Steps (.pushReceive i) s t
      ∧ MemKept s t ∧ (t.core core).l1 = (s.core core).l1 ∧ (t.core core).refcnt = ((s.core core).refcnt + 1) % 2 ^ 32
      ∧ (t.net.map (fun m => m.msg)) = (dropAt s.net i).map (fun m => m.msg) ++ [.pushReply core line false ack]))
  ∧ (∀ (i : Nat) (s : State) (n : NetMsg) (core line : Nat) (data : List Byte), Claims.Due s i n → core < s.cores.length →
    (s.core core).dead = false → (s.core core).line? line = none → (s.core core).l1.length ≥ 2048 →
    let gone : State := { s with net := dropAt s.net i }
    let left (x : L1Line) : Msg := if x.st = .c then .evicted core x.line (lineWords x.data) x.touched else .dereg core x.line
    (∀ drop, n.msg = .fill core line data drop →
      (gone.victim core = none → Claims.Steps (.fillReceive i) s s)
      ∧ (∀ x, gone.victim core = some x → ∃ t, Claims.Steps (.fillReceive i) s t ∧ MemKept s t
          ∧ (∃ y, (t.core core).line? line = some y ∧ y.st = .s ∧ y.drop = drop) ∧ (t.core core).line? x.line = none
          ∧ t.net.map (fun m => m.msg) = (dropAt s.net i).map (fun m => m.msg) ++ [left x]))
    ∧ (∀ ack, n.msg = .push core line data ack → (s.core core).injcnt < 512 →
      (gone.victim core = none → Claims.Steps (.pushReceive i) s s)
      ∧ (∀ x, gone.victim core = some x → ∃ t, Claims.Steps (.pushReceive i) s t ∧ MemKept s t
          ∧ (∃ y, (t.core core).line? line = some y ∧ y.st = .p ∧ y.data = data) ∧ (t.core core).line? x.line = none
          ∧ t.net.map (fun m => m.msg) = (dropAt s.net i).map (fun m => m.msg) ++ [left x, .pushReply core line true ack])))
  ∧ (∀ (i : Nat) (s : State) (n : NetMsg) (core line ack : Nat) (data : List Byte) (x : L1Line), Claims.Due s i n →
    core < s.cores.length → (s.core core).line? line = some x → n.msg = .push core line data ack →
    ∃ t, Claims.Steps (.pushReceive i) s t ∧ MemKept s t ∧ (t.core core).l1 = (s.core core).l1
      ∧ (t.core core).refcnt = (if x.st = .c then ((s.core core).refcnt + 1) % 2 ^ 32 else (s.core core).refcnt)
      ∧ t.net.map (fun m => m.msg) = (dropAt s.net i).map (fun m => m.msg) ++ [.pushReply core line (decide (x.st ≠ .c)) ack])
  ∧ (∀ (i : Nat) (s : State) (n : NetMsg) (core line : Nat) (x : L1Line), Claims.Due s i n → core < s.cores.length →
    (s.core core).line? line = some x → x.st ≠ .c →
    (∀ data ack, n.msg = .update core line data ack false → ∃ t, Claims.Steps (.updateReceive i) s t ∧ MemKept s t
      ∧ (∀ a ∈ t.acks, a.id = ack → core ∉ a.wait)
      ∧ ((s.core core).pend.length + (sectorsOf line data).length ≤ 512 →
          (t.core core).pend = (s.core core).pend ++ sectorsOf line data ∧ (t.core core).l1 = (s.core core).l1)
      ∧ ((s.core core).pend.length + (sectorsOf line data).length > 512 →
          (t.core core).pend = (s.core core).pend ∧ (t.core core).line? line = some { x with drop := true }))
    ∧ (n.msg = .notice core line → ∃ t, Claims.Steps (.rangeOpenNotice i) s t ∧ MemKept s t
      ∧ (t.core core).line? line = some { x with drop := true }
      ∧ (t.net.map (fun m => m.msg)) = (dropAt s.net i).map (fun m => m.msg) ++ [.noticeReply core line]))
  ∧ (∀ (i : Nat) (s : State) (n : NetMsg) (core line : Nat) (x : L1Line), Claims.Due s i n → n.msg = .probe core line →
    core < s.cores.length → (s.core core).line? line = some x → x.st = .c →
    (∀ m ∈ s.net, ∀ ws tm, m.msg ≠ .evicted core line ws tm) →
    ∃ t, Claims.Steps (.foldProbe i) s t ∧ MemKept s t ∧ (t.core core).line? line = none
      ∧ (t.dirOf line).parts = (s.dirOf line).parts ++ [{ agent := core, words := lineWords x.data, touched := x.touched }]
      ∧ (t.dirOf line).fold = (s.dirOf line).fold.map (fun f => { f with cores := f.cores.filter (fun c => c != core) }))
  ∧ (∀ (i : Nat) (s : State) (n : NetMsg) (core line : Nat), Claims.Due s i n → n.msg = .probe core line →
    ((∃ m ∈ s.net, ∃ ws tm, m.msg = .evicted core line ws tm) → Claims.Steps (.foldProbe i) s s)
    ∧ ((∀ m ∈ s.net, ∀ ws tm, m.msg ≠ .evicted core line ws tm) → (∀ x, (s.core core).line? line = some x → x.st ≠ .c) →
      Claims.Steps (.foldProbe i) s (({ s with net := dropAt s.net i } : State).modDir line (fun d => { d with
        fold := d.fold.map (fun f => { f with cores := f.cores.filter (fun c => c != core) }) }))))
  ∧ (∀ (i : Nat) (s : State) (n : NetMsg) (tell : AckTo) (all : Bool), Claims.Due s i n → n.msg = .ack tell all →
    let gone : State := { s with net := dropAt s.net i }
    (∀ k, tell = .sensor k → Claims.Steps (.storeAck i) s
      (if all then { gone with sensors := modAt s.sensors k (fun x => { x with writes := x.writes - 1 }) } else gone))
    ∧ (∀ die id, tell = .job die id → Claims.Steps (.storeAck i) s (gone.modDie die (fun d => { d with
        jobs := d.jobs.map (fun (j : Job) => if j.id = id ∧ all = decide (j.scope ≠ 2) then { j with acks := j.acks - 1 } else j) })))
    ∧ (∀ core slot id w o, tell = .wave core slot id → s.wave? core slot = some w → w.core = core → w.slot = slot →
        w.ops.find? (fun o => o.id == id) = some o →
        (o.leftAll ≥ 2 → all = true → Claims.Steps (.storeAck i) s (gone.modWave core slot (fun w => { w with
          ops := w.ops.map (fun (o : Op) => if o.id = id then { o with leftAll := o.leftAll - 1 } else o) })))
        ∧ (o.leftAll ≥ 1 → all = false → Claims.Steps (.storeAck i) s (gone.modWave core slot (fun w => { w with
          ops := w.ops.map (fun (o : Op) => if o.id = id then { o with leftDie := o.leftDie - 1 } else o) })))
        ∧ (o.leftAll = 1 → all = true → o.bad = [] → (o.cls = .laneSt ∨ o.cls = .leadSt) →
          let u := gone.modWave core slot (fun w => Wave.prune { w with
            ops := w.ops.map (fun (o : Op) => if o.id = id then { o with leftAll := o.leftAll - 1, done := true } else o) })
          Claims.Steps (.storeAck i) s (if o.acq then u.acquire core else u)
          ∧ (w.ops = [o] → ∃ x, u.wave? core slot = some x ∧ x.ops = [] ∧ x.counter o.cls = 0))))
  ∧ (∀ (i : Nat) (s : State) (n : NetMsg) (core slot op line : Nat) (data : List (Nat × List Byte)) (w : Wave) (o : Op),
    Claims.Due s i n → n.msg = .ret core slot op line data [] none → s.wave? core slot = some w → w.core = core →
    w.slot = slot → w.ops.find? (fun o => o.id == op) = some o → o.left ≥ 2 →
    Claims.Steps (.loadReturn i) s (({ s with net := dropAt s.net i } : State).modWave core slot (fun w => { w with
      ops := w.ops.map (fun (o : Op) => if o.id = op then { o with left := o.left - 1, got := o.got ++ data } else o) })))
  ∧ (∀ (i : Nat) (s : State) (n : NetMsg) (core slot op line : Nat) (data : List (Nat × List Byte)) (w : Wave) (o : Op)
      (d k act code : Nat),
    Claims.Due s i n → s.wave? core slot = some w → w.core = core → w.slot = slot →
    w.ops.find? (fun o => o.id == op) = some o → o.left = 1 → o.bad = [] → o.dst = .lanes d k act code →
    (n.msg = .ret core slot op line data [] none → ((o.got ++ data).map (fun p => p.1)).Nodup →
      (∀ p ∈ o.got ++ data, p.1 < 64) → ∃ t x, Claims.Steps (.loadReturn i) s t ∧ MemKept s t ∧ t.wave? core slot = some x
        ∧ (∀ p ∈ o.got ++ data, ∀ j < k, x.getV (d + j) p.1 = loadWord code p.2 j % 2 ^ 32)
        ∧ (∀ r l, l < 64 → (¬ (d ≤ r ∧ r < d + k) ∨ ∀ p ∈ o.got ++ data, p.1 ≠ l) → x.getV r l = w.getV r l)
        ∧ x.deferred = w.deferred ∧ (w.ops = [o] → o.leftAll = 0 → x.ops = [] ∧ x.counter o.cls = 0))
    ∧ (∀ va, n.msg = .ret core slot op line data [] (some va) → data ≠ [] → w.deferred = none → o.cls = .laneLd →
      ∃ t x f, Claims.Steps (.loadReturn i) s t ∧ MemKept s t ∧ t.wave? core slot = some x ∧ x.v = w.v
        ∧ x.deferred = some f ∧ f.cause = 0x0B ∧ f.taddr = va ∧ f.flanes = maskOf (data.map (fun p => p.1)) ∧ f.op = op))
  ∧ (∀ (c slot : Nat) (s : State) (w : Wave) (o : Op) (id code : Nat), s.wave? c slot = some w → w.core = c → w.slot = slot →
    w.ops.find? (fun o => !o.done && (match o.dst with | .lq _ _ => true | _ => false)) = some o → o.dst = .lq id code →
    o.left = 0 → o.bad = [] →
    ∃ t, Claims.Steps (.lqFill c slot) s t ∧ MemKept s t ∧ ∀ w', t.wave? c slot = some w' →
      w'.lq = w.lq.map (fun e => if e.id = o.id then
        { e with filled := true, data := lqData o code w.lanes s.fresh, poison := 0 } else e)
      ∧ w'.v = w.v ∧ w'.s = w.s ∧ w'.lq.length = w.lq.length)

/-- HOMES MOVE AND FAIL (10 R214, R225 to R230; 15 R346, R347; 19 R421, R422; 20 R442 to R445): the migration of a page from
its count to its retired pointers, a completed fold, whose one write combines the partials in ascending agent order and
clears them, the host's snoop, a page walk, the corrected and the uncorrectable error of a DRAM burst and of a transfer, a
Saddle lane's fault, a dead agent, a fault record (that of a missing page is outstanding until its reply), and a code page's
check. The model's: the bus of a spare lane (entry 28), and that the record of a fault without a handler, or of a page
mapped meanwhile, is never outstanding (entry 41). -/
def Obligations.HomesMoveAndFail : Prop :=
  (∀ (die page : Nat) (s : State), (page ∉ (s.die die).rwPend ∨ (s.leaving page).isSome = true) →
    Claims.Steps (.remoteWriteCount die page) s s)
  ∧ (∀ (die page : Nat) (s : State) (c : RwCounter), die < s.dies.length → page ∈ (s.die die).rwPend →
    s.leaving page = none → s.homeOf die (page * 16384) = die → (s.die die).rw = [c] → c.page = page →
    s.cycle - c.start < 2 ^ 20 → c.count + 1 < 4096 → ∃ t, Claims.Steps (.remoteWriteCount die page) s t ∧ MemKept s t
      ∧ (t.die die).rw = [{ c with count := c.count + 1, used := s.cycle }] ∧ t.net = s.net)
  ∧ (∀ (i : Nat) (s : State) (n : NetMsg) (core line d : Nat), Claims.Due s i n → n.msg.request = some (core, line) →
    s.leaving (line / 16384) = some d → n.fwd = false → s.homeOf (dieOf core) line = d →
    Claims.Steps (.migrationForward i) s
      { s with
        nextId := s.nextId + 1
        net := s.net.map (fun m => if m.id = n.id then { m with fwd := true, id := s.nextId } else m) })
  ∧ (∀ (i : Nat) (s : State) (n : NetMsg) (page die : Nat), Claims.Due s i n → n.msg = .migrate page die [] →
    Claims.Steps (.migrationInstall i) s (({ s with net := dropAt s.net i } : State).modDie die (fun d => { d with
      homes := if d.homes.contains page then d.homes.filter (fun p => p != page) else insertAsc page d.homes })))
  ∧ (∀ (page d : Nat) (s : State), s.leaving page = some d → s.moving page = false → s.dies.length = 2 →
    ∃ t, Claims.Steps (.migrationPointerRetire page) s t ∧ MemKept s t
      ∧ (t.die d).homes = (if s.homeOf d (page * 16384) = d then flipHome (s.die d).homes page else (s.die d).homes)
      ∧ (t.die (1 - d)).homes = (s.die (1 - d)).homes
      ∧ ((∀ n ∈ s.net, n.fwd = true → ∀ c l, n.msg.request = some (c, l) → l / 16384 ≠ page) → page ∉ (t.die d).migrating)
      ∧ (∀ n ∈ s.net, ∀ c l, n.fwd = true → n.msg.request = some (c, l) → l / 16384 = page → page ∈ (t.die d).migrating))
  ∧ (∀ (line : Nat) (s : State) (f : Fold) (r : CRange), (s.dirOf line).fold = some f → f.cores = [] → f.loads = [] →
    s.rangeOfLine line = some r → (s.dirOf line).parts = [] → Claims.Steps (.foldComplete line) s
      ((s.modDir line (fun d => { d with parts := [], fold := none })).modDir line (fun d => { d with poison := d.poison || f.poison })))
  ∧ (∀ (line : Nat) (s : State) (f : Fold) (r : CRange) (ps : List Partial), (s.dirOf line).fold = some f → f.cores = [] →
    f.loads = [] → s.rangeOfLine line = some r → ps.Perm (s.dirOf line).parts → ps.Pairwise (fun p q => p.agent < q.agent) →
    (∃ p ∈ ps, ∃ k, k < 32 ∧ bit p.touched k = true) →
    ∃ t, Claims.Steps (.foldComplete line) s t
      ∧ (∀ k < 32, memVal t.mem (line + 4 * k) 4 = ps.foldl (fun x p => if bit p.touched k = true
          then combineWord r.fmt r.op nanOutside x (p.words.getD k 0#32).toNat % 2 ^ 32 else x) (memVal s.mem (line + 4 * k) 4))
      ∧ (∀ a, a < line ∨ line + 128 ≤ a → memByte t.mem a = memByte s.mem a)
      ∧ (t.dirOf line).parts = [] ∧ (t.dirOf line).fold = none ∧ t.poisoned line = (s.poisoned line || f.poison)
      ∧ ∃ id data, t.net.map (fun m => m.msg) = s.net.map (fun m => m.msg)
          ++ (s.dirOf line).sharers.map (fun c => .update c line data id false))
  ∧ (∀ (line : Nat) (bytes : List (Nat × Byte)) (s : State), isHostPa line = true → line % 128 = 0 →
    (∀ b ∈ bytes, b.1 < 128) → ∃ t, Claims.Steps (.hostSnoopInvalidate line bytes) s t
      ∧ (∀ a, memByte t.mem a = Claims.written s line bytes a)
      ∧ t.cores = s.cores.map (fun c => { c with l1 := c.l1.map (fun x => if x.line = line then { x with drop := true } else x) })
      ∧ t.w = s.w ∧ t.net = s.net.map (fun n => match n.msg with
          | .fill c l d _ => if l = line then { n with msg := .fill c l d true } else n
          | _ => n))
  ∧ (∀ (die va : Nat) (s : State) (e : TlbEntry), walk s.mem (s.die die).ptroot va = .leaf e → inWindow va = false →
    ∃ t, Claims.Steps (.pageWalk die va) s t ∧ t = { s with cores := t.cores } ∧ t.cores.length = s.cores.length
      ∧ ∀ c, c < s.cores.length → (t.core c).tlb = (s.core c).tlb ++
          (if dieOf c = die ∧ (∃ w ∈ s.allWaves, w.core = c ∧ w.status = .running) ∧ (∀ x ∈ (s.core c).tlb, x.covers va = false)
            then [e] else []))
  ∧ (∀ (line : Nat) (ecc : EccOutcome) (s : State), inStacked (lineOf line) = true →
    (ecc = .clean → Claims.Steps (.homeMissFill line ecc) s s)
    ∧ (∀ b sym, sym < 68 → s.arrayLog.length < 256 →
      (ecc = .corrected b sym → ∃ t e, Claims.Steps (.homeMissFill line ecc) s t ∧ t.arrayLog = s.arrayLog ++ [e]
        ∧ t.arrayCount = (s.arrayCount + 1) % 2 ^ 32 ∧ t.dir = s.dir ∧ MemKept s t)
      ∧ (ecc = .uncorrectable b sym → ∃ t e, Claims.Steps (.homeMissFill line ecc) s t ∧ t.arrayLog = s.arrayLog ++ [e]
        ∧ t.poisoned (lineOf line) = true ∧ MemKept s t)))
  ∧ (∀ (line : Nat) (e : BurstError) (s : State), inStacked (lineOf line) = true → s.xferLog.length < 256 →
    let pa := lineOf line + 32 * (e.burst % 4)
    let bus := 8 * resetHome pa + layerOf pa
    ∃ t x, Claims.Steps (.burstParityError line e) s t ∧ t.xferLog = s.xferLog ++ [x] ∧ MemKept s t
      ∧ (1 ≤ e.retries ∧ e.retries ≤ 4 → t.spares = s.spares ∧ t.dir = s.dir)
      ∧ (¬ (1 ≤ e.retries ∧ e.retries ≤ 4) → s.sparesOf bus < 2 → t.sparesOf bus = s.sparesOf bus + 1 ∧ t.dir = s.dir)
      ∧ (¬ (1 ≤ e.retries ∧ e.retries ≤ 4) → s.sparesOf bus ≥ 2 → t.poisoned (lineOf line) = true))
  ∧ (∀ (n : Nat) (s : State), ∃ t, Claims.Steps (.saddleLaneFault n) s t ∧ t.saddleHalf = true ∧ t.net = s.net
      ∧ (s.saddleHalf = true → t = s))
  ∧ (∀ s : State, Claims.Steps (.deadAgentTimeout 192) s (if s.hostLate = true then { s with hostDead := true } else s))
  ∧ (∀ (a : Nat) (s : State), a < 192 → a < s.cores.length → (s.core a).dead = false → s.awaited a = true →
    s.awaitedFor a ≥ 100000 → Claims.Steps (.deadAgentTimeout a) s (s.declareDead a))
  ∧ (∀ (s : State) (f : FaultRec) (rest : List FaultRec), s.faultsWaiting = f :: rest →
    (s.flttail + 2 ^ 32 - s.flthead) % 2 ^ 32 < 1024 → ∃ t, Claims.Steps .faultRecordWrite s t
      ∧ t.flttail = (s.flttail + 1) % 2 ^ 32 ∧ t.faultsWaiting = rest
      ∧ t.faults = (if f.cause.isSome = true ∨ f.ended = true then s.faults else s.faults ++ [{ f with fseq := s.fseq }])
      ∧ memBytes t.bar0 (0x300000 + 32 * (s.flttail % 1024)) 32 = leBytes f.va 8 ++ leBytes f.kind 1 ++ leBytes f.node 2
          ++ leBytes f.core 1 ++ leBytes s.fseq 4 ++ leBytes 0 16
      ∧ t.msix = modAt s.msix 1 (fun x => x + 1) ∧ 2 ∈ t.mgmtPending ∧ MemKept s t)
  ∧ (∀ (o p : Nat) (s : State), s.mgmtHalted = true → Claims.Steps (.codePageCheck o p) s s)
  ∧ (∀ (o p d : Nat) (s : State) (x : CodeObj), s.codes[o]? = some x → x.chk[p]? = some 0 → s.pageWanted x p = true →
    s.mgmtHalted = false → s.pageDigest x p = some d → ∃ t, Claims.Steps (.codePageCheck o p) s t
      ∧ (t.codes[o]?).map (fun y => (y.chk, y.rev)) =
          some (setAt x.chk p (if d = x.digests.getD p 0 then 1 else 2), x.rev || decide (d ≠ x.digests.getD p 0)))

/-! ## Steps of queues and of the scheduler (13; 14 R326; 02 R37 to R48) -/

/-- RECORDS REACH QUEUES. A record becomes the newest entry of its queue, numbered by the die's SEQ and with the tag of its
record, and uses the credit reserved for it; a record for a join slot is held there, or released at once where the slot's
count is 0, or discarded by an occupied slot; the first spilled entry comes back when the ring has room; an idle die steals
the youngest half of a long queue of the other die, which join its own queue in their order; a parked CONSUME that could
take a record, or that no producer can serve, runs again (13 R284 to R287, R299, R300, R303; 14 R322, R324, R326). The
model's: the top bit of RECIDX as the flag of a deadline node (entry 8), and a stolen batch waiting until its queue has room
(entry 36). -/
def Obligations.RecordsReachQueues : Prop :=
  (∀ (i : Nat) (s : State) (n : NetMsg) (r : RecMsg) (x : Node) (q : Queue), Claims.Due s i n → n.msg = .record [r] →
    r.join = none → r.launch = false → s.node? r.node = some x →
    let d := s.targetDie r.die r.node r.bytes
    d < s.dies.length → s.queue? d r.node = some q →
    ∃ t q', Claims.Steps (.recordEnqueue i) s t ∧ t.queue? d r.node = some q'
      ∧ q'.entries = q.entries ++ [{
          seq := (s.die d).seq, depth := r.depth, family := r.family, cmark := r.cmark || decide (x.kind = kindRange)
          cluster := if x.kind = kindRange then noCluster else r.cluster, void := badRange x r.bytes, sideb := r.sideb
          bytes := r.bytes, since := s.cycle, batch := none, spilled := q.ringFull }]
      ∧ q'.qtail = (q.qtail + 1) % 2 ^ 32 ∧ (t.die d).seq = ((s.die d).seq + 1) % 2 ^ 32
      ∧ (x.kind ≠ kindScanout → q'.qresv = if r.credit then q.qresv - 1 else q.qresv))
  ∧ (∀ (i : Nat) (s : State) (n : NetMsg) (r : RecMsg) (slot : Nat), Claims.Due s i n → n.msg = .record [r] →
    r.join = some slot → r.die < s.dies.length →
    let x := s.join r.die slot
    (x.held = none → x.count ≠ 0 → ∃ t, Claims.Steps (.joinRecordArrival i) s t ∧ MemKept s t
      ∧ ∃ p, t.join r.die slot = { x with held := some { r with tell := .none }, node := r.node, recidx := p }
        ∧ ∀ m, s.node? r.node = some m → p / 2 ^ 31 = if m.deadline then 1 else 0)
    ∧ (x.held = none → x.count = 0 → ∃ t, Claims.Steps (.joinRecordArrival i) s t ∧ MemKept s t
      ∧ (t.join r.die slot).held = none ∧ (t.join r.die slot).count = 0 ∧ (t.join r.die slot).tag = x.tag
      ∧ (t.join r.die slot).node = r.node ∧ ∃ m ∈ t.net, m.msg = .record [{ r with tell := .none, join := none }])
    ∧ (x.held ≠ none → ∃ t, Claims.Steps (.joinRecordArrival i) s t ∧ t.join r.die slot = x))
  ∧ (∀ (die node : Nat) (s : State) (q : Queue) (l r : List QEntry) (e : QEntry), die < s.dies.length →
    s.queue? die node = some q → q.entries = l ++ e :: r → (∀ x ∈ l, x.spilled = false) → e.spilled = true →
    (q.entries.filter (fun x => !x.spilled)).length < q.qcap →
    ∃ t, Claims.Steps (.queueSpillReturn die node) s t ∧ MemKept s t
      ∧ t.queue? die node = some { q with entries := l ++ { e with spilled := false } :: r })
  ∧ (∀ (die node : Nat) (s : State) (n : Node) (mine other : Queue), die ≤ 1 → s.dies.length = 2 → s.node? node = some n →
    s.queue? die node = some mine → s.queue? (1 - die) node = some other → s.unstealable n node = false →
    mine.avail = [] → (∃ c, c < 96 ∧ s.asksWork (96 * die + c) = true) → s.stealing die node = false →
    let es := other.entries.filter (fun e => e.open? && !e.cmark)
    let k := min (min (es.length / 2) 1024) mine.free.toNat
    es.length > 256 → k > 0 → ∃ t q', Claims.Steps (.stealCheck die node) s t ∧ MemKept s t
      ∧ t.net.map (fun m => m.msg) = s.net.map (fun m => m.msg) ++ [.steal die node (es.drop (es.length - k))]
      ∧ t.queue? (1 - die) node = some q' ∧ q'.entries.length = other.entries.length - k
      ∧ q'.entries.filter (fun e => e.open? && !e.cmark) = es.take (es.length - k))
  ∧ (∀ (i : Nat) (s : State) (n : NetMsg) (die node : Nat) (es : List QEntry) (q : Queue), Claims.Due s i n →
    n.msg = .steal die node es → die < s.dies.length → s.queue? die node = some q →
    ((es.length : Int) ≤ q.free → ∃ t q', Claims.Steps (.stealArrival i) s t ∧ MemKept s t ∧ t.queue? die node = some q'
      ∧ q'.entries.map (fun e => (e.bytes, e.depth)) = (q.entries ++ es).map (fun e => (e.bytes, e.depth))
      ∧ q'.entries.take q.entries.length = q.entries)
    ∧ ((es.length : Int) > q.free → Claims.Steps (.stealArrival i) s s))
  ∧ (∀ (c slot : Nat) (s : State) (w : Wave) (len : Nat), s.wave? c slot = some w → w.status = .parked (.consume len) →
    Claims.Steps (.consumeRetry c slot) s
      (if s.consumeWakes w then s.modWave c slot (fun w => { w with status := .running, parkCount := 0 }) else s))

/-- BATCHES CLOSE AND ARE ADMITTED. A shader queue that holds a full batch or its minimum fill, or whose producers are over,
or of the deadline class, closes its oldest records as one batch of at most the largest size, and so does one whose oldest
record has waited out; a co-operating node of class C closes the batches of a group at once, and a queue fed by rasterisers
takes whole quads; a batch is admitted with credits for its records on every edge, which for one edge are what the target's
free capacity covers, and a deadline batch without; a core without work that no admitted batch serves splits the longest
range of its cluster in two (13 R288, R290 to R292, R296, R297; 02 R39, R45). The model's: how a group deals its records out
(entry 21), and that a batch is not admitted while a wave may yet take its records (entry 25). -/
def Obligations.BatchesCloseAndAreAdmitted : Prop :=
  let group (n : Node) : Nat := if n.cls = 0 then max 1 n.coop else 1
  let quad (s : State) (node : Nat) : Nat := if s.rasterFed node then 4 else 1
  let taken (s : State) (node : Nat) (n : Node) (q : Queue) : Nat :=
    min q.avail.length (n.batchMax * group n) / quad s node * quad s node
  let closes (s : State) (i : Instr) (die node : Nat) (n : Node) (q : Queue) : Prop :=
    if taken s node n q = 0 then Claims.Steps i s s else
    ∃ t b, Claims.Steps i s t ∧ MemKept s t ∧ (t.die die).batches = (s.die die).batches ++ [b] ∧ b.node = node
      ∧ b.r = taken s node n q ∧ b.admitted = false ∧ b.since = s.cycle
      ∧ b.parts.map (fun p => p.2) = (List.range (group n)).map (fun i =>
          quad s node * (b.r / quad s node * (i + 1) / group n - b.r / quad s node * i / group n))
      ∧ b.depth = maxDepth (q.avail.take b.r)
      ∧ t.batchRecs die b = (q.avail.take b.r).map (fun e => { e with batch := some b.id })
      ∧ ((∀ e ∈ q.entries, e.open? = true) →
          ∃ q', t.queue? die node = some q' ∧ q'.qhead = (q.qhead + b.r) % 2 ^ 32 ∧ q'.qtail = q.qtail)
  (∀ (die node : Nat) (s : State) (n : Node) (q : Queue), die < s.dies.length → s.node? node = some n → n.kind = kindShader →
    n.recsz ≠ 0 → s.storeOf die node = [] → s.queue? die node = some q →
    q.avail ≠ [] → 0 < n.batchMax → (∀ e ∈ q.entries, e.batch ≠ some s.nextId) →
    (n.deadline = true ∨ q.avail.length ≥ n.minfill * group n ∨ q.avail.length ≥ n.batchMax * group n
        ∨ s.noProducers node = true →
      closes s (.batchClose die node) die node n q)
    ∧ (∀ t0, s.oldestSince die node = some t0 →
      s.cycle ≥ t0 + (if n.qclass = 1 then min n.maxwait 4096 else n.maxwait) →
      closes s (.batchMaxwaitExpiry die node) die node n q))
  ∧ (∀ (i die : Nat) (s : State) (b : Batch) (g : Graph) (n : Node), s.allBatches[i]? = some (die, b) → s.graph = some g →
    s.node? b.node = some n → b.admitted = false → g.running = true → s.revoked b.node = false → s.yieldsTo die b = false →
    (s.tileOrdered n b.node = true → s.tileHeld die b = false) →
    let goes (u : State) : State := u.modBatch die b.id (fun b => { b with admitted := true, since := s.cycle })
    (n.deadline = true → Claims.Steps (.batchAdmit i) s (goes s))
    ∧ (n.deadline = false → s.takerStands die n b.node = false → Claims.Steps (.batchAdmit i) s
        (match s.takeCredits die b.r n.edges with | some u => goes u | none => s))
    ∧ (n.deadline = false → s.takerStands die n b.node = true → Claims.Steps (.batchAdmit i) s s))
  ∧ (∀ (s : State) (die r d : Nat) (e : Edge) (q : Queue), s.reserveDies die e.target = [d] → s.queue? d e.target = some q →
    s.takeCredits die r [e] = (if ((r * e.fanout : Nat) : Int) ≤ q.free then
      some (s.modQueue d e.target (fun x => { x with qresv := x.qresv + r * e.fanout })) else none))
  ∧ (∀ (c : Nat) (s : State) (x : RDesc) (i : Nat) (q : Queue), let g := clusterOf c
    let mid := x.next + x.grain * ((x.hi - x.next) / (2 * x.grain))
    c < 192 → s.asksWork c = true → s.servesCore c = false → s.boundWaits g = false → (s.cluster g).longest = some (x, i) →
    g < s.clusters.length → g / 12 < s.dies.length → s.queue? (g / 12) x.node = some q → mid ≠ x.next →
    ∃ t q' e, Claims.Steps (.workRequest c) s t ∧ (t.cluster g).descs.getD i RDesc.empty = { x with hi := mid }
      ∧ t.queue? (g / 12) x.node = some q' ∧ q'.entries = q.entries.takeWhile (fun x => x.batch.isSome)
        ++ e :: q.entries.dropWhile (fun x => x.batch.isSome) ∧ q'.qhead = (q.qhead + 2 ^ 32 - 1) % 2 ^ 32
      ∧ e.bytes = leBytes mid 8 ++ leBytes x.hi 8 ++ leBytes x.grain 4 ++ leBytes 0 12 ∧ e.cluster = g ∧ e.family = x.family
      ∧ e.depth = x.depth ∧ e.cmark = true ∧ e.void = false ∧ e.batch = none)

/-- BLOCKS ARE PLACED, SAVED AND RESTORED. The batch that goes next is placed, its range record bound to a cluster; a batch
of class C that has waited 65,536 cycles makes the weakest W block stop; a reserved block starts with its constants, one of
a grid or of a node without records after an acquire on its cores (09 R206; for a node without records the model's, entry
36); a stopping block with nothing outstanding leaves its cores for its image; a saved block whose span is free is restored,
one of class W only while no such wait is due (02 R37, R48; 04 R95; 15 R352; 17 R394 to R396). -/
def Obligations.BlocksArePlacedAndSaved : Prop :=
  (∀ (i die : Nat) (s u : State) (b : Batch) (n : Node), s.allBatches[i]? = some (die, b) → s.node? b.node = some n →
    s.nextBatch die = some b → s.placeBatch die b = some u →
    (n.kind ≠ kindRange → Claims.Steps (.blockReserve i) s u.drainCheck)
    ∧ (n.kind = kindRange → Claims.Steps (.rangeRecordBind die b.node) s u.drainCheck))
  ∧ (∀ (s : State) (key : BKey) (n : Node) (span : List Nat) (recs : List QEntry) (r : Nat) (grid desc : Option (Nat × Nat)),
    let u := s.placeBlock key n span recs r grid desc
    u.waves.length = s.waves.length + n.waves
    ∧ ∃ b, u.blocks = s.blocks ++ [b] ∧ b.key = key ∧ b.status = .reserved ∧ b.live = n.waves ∧ b.core0 = span.headD 0
      ∧ b.k = span.length ∧ b.r = r ∧ b.grid = grid ∧ b.desc = desc ∧ b.edges = n.edges.map (fun e => (0, r * e.fanout))
      ∧ b.segs.map (fun g => g.core) = span)
  ∧ (∀ (i die : Nat) (s : State) (b : Batch) (n : Node) (x : Block), s.allBatches[i]? = some (die, b) →
    s.node? b.node = some n → n.cls = 0 → b.admitted = true → s.cycle ≥ b.since + 65536 → s.placeBatch die b = none →
    (∀ y ∈ s.blocks, y.die = die → ∀ f p, y.status ≠ .saving f p) → s.weakBlock die = some x →
    let stop (w : Wave) : Wave := if w.key = x.key ∧ w.mgmt = false then { w with stopped := true } else w
    Claims.Steps (.reservationWaitExpiry i) s (({ s with w := stop s.w, waves := s.waves.map stop } : State).modBlock x.key
      (fun y => { y with status := .saving false none })))
  ∧ (∀ (i : Nat) (s u : State) (b : Block) (n : Node) (cs : List (Nat × Word)), s.blocks[i]? = some b →
    b.status = .reserved → s.node? b.key.node = some n → s.constants b.core0 n = .ok (u, cs) →
    let v := if b.grid.isSome = true ∨ n.recsz = 0 then u.acquireSpan (b.segs.map (fun g => g.core)) else u
    v.w.mgmt = true →
    Claims.Steps (.blockStart i) s (({ v with waves := v.waves.map (fun w =>
        if w.key = b.key ∧ w.status = .reserved then
          { w with status := .running, c := cs, ageLead := v.cycleOf w.core, ageLane := v.cycleOf w.core } else w) } : State).modBlock b.key
      (fun y => { y with status := .running })))
  ∧ (∀ (i : Nat) (s : State) (b b1 : Block) (n : Node) (f : Bool) (place : Option Nat), s.blocks[i]? = some b →
    b.status = .saving f place → s.node? b.key.node = some n →
    let s1 := (s.leaveWaits (s.wavesOf b.key)).abandon b.key (b.segs.map (fun g => g.core))
    let bs := { b1 with saved := (s1.wavesOf b.key).map (s1.savedWave n) }.image n.hdr.scratch n.hdr.tiles (s1.descBytes b1)
    s1.block? b.key = some b1 → (∀ c ∈ s1.cores, ∀ e ∈ c.fifo, e.key ≠ b.key) →
    (∀ w ∈ s1.wavesOf b.key, w.savable b1.abandoned = true) →
    ∀ a, (place = some a ∨ (place = none
        ∧ poolPlace (s1.layout b1.die) (s1.die b1.die).pool (4096 * ceilDiv bs.length 4096) = some a)) →
    ∃ t, Claims.Steps (.blockSave i) s t ∧ (∀ w ∈ t.waves, w.mgmt = false → w.key ≠ b.key)
      ∧ ∃ y, t.block? b.key = some y ∧ y.status = .saved f a ∧ y.saved.map (fun x => x.wave) =
        (s1.wavesOf b.key).map (fun w => { w with dirty := [], starve := 0, stopped := true }))
  ∧ (∀ (i : Nat) (s : State) (b : Block) (n : Node), s.blocks[i]? = some b → s.node? b.key.node = some n → b.waits = true →
    s.behindSaved b = false → (b.weak = true → s.reservationDue b.die = false) →
    (∀ u, s.restoreAll n (s.restoreGroup b n) = .ok u → Claims.Steps (.blockRestore i) s u)
    ∧ (∀ u image span, b.status = .saved false image → s.restoreSpan b = some span → s.restoreGroup b n = [b] →
      s.restoreOn b n image span = .ok u → Claims.Steps (.blockRestore i) s u ∧ ∃ y, u.block? b.key = some y
        ∧ y.status = (if b.saved.any (fun w => decide (w.wave.status = .reserved)) then .reserved else .running)
        ∧ y.core0 = span.headD 0 ∧ y.saved = [] ∧ y.vacate = false))

/-! ## Signals at their objects (16 R374 to R378; 13 R303, R314) -/

/-- SIGNALS ARRIVE. SEMINC, SEMSET, BARINIT, BARARR and BAREXP change their object, counts saturating; the waves of a
satisfied semaphore wait go on after their instruction; JOINSET, JOINADD and JOINDEC change their slot, and the one that
brings a count to 0 releases the held record; a barrier whose arrivals and bytes are there at the end of a cycle completes a
phase, once in that cycle, and its waves go on; a sensor's arrival comes once its record is in its queue (16 R374 to R378;
13 R303, R314). -/
def Obligations.SignalsArrive : Prop :=
  let onBar (i : Instr) (s gone : State) (k : BKey) (j n : Nat) (f : Bar → Bar) : Prop :=
    ∀ x, s.bar? k j n = some x → ∃ t, Claims.Steps i s t ∧ t = { gone with blocks := t.blocks }
      ∧ t.bar? k j n = some (f x)
  (∀ (i : Nat) (s : State) (m : NetMsg) (x : Signal) (die : Nat), Claims.Due s i m → m.msg = .signal .none x die →
    let gone : State := { s with net := dropAt s.net i }
    (∀ k j n c, x = .seminc (.sem k j n) c → c ≠ 0 → ∀ y, s.sem? k j n = some y → y.takes = [] →
      (∀ w ∈ s.allWaves, ∀ st len th, w.status ≠ .parked (.semwait st len (.sem k j n) th false)) →
      ∃ t, Claims.Steps (.signalApply i) s t ∧ t = { gone with blocks := t.blocks }
        ∧ t.sem? k j n = some { y with count := min (y.count + c) 0xFFFFFFFF })
    ∧ (∀ k j n c tag, x = .semset (.sem k j n) c tag → ∀ y, s.sem? k j n = some y → y.takes = [] →
      (∀ w ∈ s.allWaves, ∀ st len th, w.status ≠ .parked (.semwait st len (.sem k j n) th false)) →
      ∃ t, Claims.Steps (.signalApply i) s t ∧ t = { gone with blocks := t.blocks }
        ∧ t.sem? k j n = some { y with count := c, tag := tag })
    ∧ (∀ k j n c, x = .seminc (.sem k j n) c → c ≠ 0 → s.isSaved k = false → ∀ y w st len th, s.sem? k j n = some y →
      y.takes = [] → s.semReady (.sem k j n) (min (y.count + c) 0xFFFFFFFF) = [(w.core, w.slot)] →
      s.wave? w.core w.slot = some w → w.status = .parked (.semwait st len (.sem k j n) th false) →
      ∃ t, Claims.Steps (.signalApply i) s t ∧ MemKept s t
        ∧ t.wave? w.core w.slot = some { w.setPc st (w.pcOf st + 4 * len) with status := .running, parkCount := 0 })
    ∧ (∀ k j n c tag, x = .barinit (.bar k j n) c tag → onBar (.signalApply i) s gone k j n (fun y =>
        { y with exp := c, arr := 0, pend := 0, phase := 0, tag := tag }))
    ∧ (∀ k j n c, x = .bararr (.bar k j n) c → onBar (.signalApply i) s gone k j n (fun y =>
        { y with arr := min (y.arr + c) 65535 }))
    ∧ (∀ k j n c arr, x = .barexp (.bar k j n) c arr → onBar (.signalApply i) s gone k j n (fun y =>
        { y with pend := (y.pend + c) % 2 ^ 24, arr := if arr then min (y.arr + 1) 65535 else y.arr }))
    ∧ (∀ d slot c tag, x = .joinset d slot c tag → c ≠ 0 → d < s.dies.length → ∃ t, Claims.Steps (.signalApply i) s t
      ∧ MemKept s t ∧ t.net = gone.net ∧ t.join d slot = { s.join d slot with count := c, tag := tag })
    ∧ (∀ d slot c, x = .joinadd d slot c → d < s.dies.length → (s.join d slot).count + c ≤ 65535 → ∃ t,
      Claims.Steps (.signalApply i) s t ∧ MemKept s t ∧ t.net = gone.net
      ∧ t.join d slot = { s.join d slot with count := (s.join d slot).count + c })
    ∧ (∀ d slot c, x = .joindec d slot c → d < s.dies.length → 0 < c →
      (c < (s.join d slot).count → ∃ t, Claims.Steps (.signalApply i) s t ∧ MemKept s t ∧ t.net = gone.net
        ∧ t.join d slot = { s.join d slot with count := (s.join d slot).count - c })
      ∧ (∀ r, c = (s.join d slot).count → (s.join d slot).held = some r → ∃ t, Claims.Steps (.signalApply i) s t
        ∧ MemKept s t ∧ t.join d slot = { s.join d slot with count := 0, held := none }
        ∧ ∃ m ∈ t.net, m.msg = .record [{ r with join := none }])))
  ∧ (∀ (b j n : Nat) (s : State) (x : Block) (y : Bar), s.blocks[b]? = some x → s.bar? x.key j n = some y →
    (y.arr < y.exp ∨ y.pend ≠ 0 ∨ s.isSaved x.key = true ∨ s.barCycle x.key j < y.next → Claims.Steps (.barrierCompletesAgain b j n) s s)
    ∧ (y.arr ≥ y.exp → y.pend = 0 → s.isSaved x.key = false → y.next ≤ s.barCycle x.key j →
        ∃ t, Claims.Steps (.barrierCompletesAgain b j n) s t ∧ MemKept s t
          ∧ t.bar? x.key j n = some { y with
              arr := y.arr - y.exp, phase := 1 - y.phase, waiters := [], next := s.barCycle x.key j + 1 }
          ∧ (y.waiters = [] → t = { s with blocks := t.blocks })
          ∧ (∀ w st len p, y.waiters = [(w.core, w.slot)] → s.wave? w.core w.slot = some w →
              w.status = .parked (.barwait st len (.bar x.key j n) p) →
              t.wave? w.core w.slot = some { w.setPc st (w.pcOf st + 4 * len) with status := .running, parkCount := 0 })))
  ∧ (∀ (k : Nat) (s : State) (m h : Nat) (rest : List (Nat × Nat)), (s.sensor k).due = (m, h) :: rest →
    let gone := s.modSensor k (fun x => { x with due := rest })
    ((∃ n ∈ s.net, n.id = m) → Claims.Steps (.sensorBarrierArrival k) s s)
    ∧ ((∀ n ∈ s.net, n.id ≠ m) → s.sensorBar k h = none → Claims.Steps (.sensorBarrierArrival k) s gone)
    ∧ (∀ key j n, (∀ n ∈ s.net, n.id ≠ m) → s.sensorBar k h = some (.bar key j n) →
        onBar (.sensorBarrierArrival k) s gone key j n (fun y => { y with arr := min (y.arr + 1) 65535 })))

/-! ## Steps of the engines (12 R261 to R280; 14 R333 to R336; 13 R306 to R316) -/

/-- The segment of a block on a core. -/
def Sys2Proof.Claims.segOf (s : State) (k : BKey) (c : Nat) : Option CoreSeg :=
  (s.block? k).bind (fun b => b.segs.find? (fun g => g.core == c))

/-- THE MATRIX ENGINE. The next entry reads its operands into its latch; the near half of an MPAIR makes the pair handshake
instead, and the far half starts both. An entry whose reads are done and that is first on its tiles commits: MMA and MZERO,
MWR and MLDT write their tiles, MSTORE the scratchpad, MRD the registers of its wave; it leaves its FIFO and its batch. An
MSIG whose stage is free arrives at its barrier (12 R261 to R264, R267, R270, R272 to R279). -/
def Obligations.MatrixEngine : Prop :=
  (∀ (c i : Nat) (s : State) (e : MEntry), s.nextEntry c = some (i, e) →
    let reads (x : MEntry) : MEntry := { x with st := .reading, latch := s.latchOf x }
    ((∀ f, e.instr ≠ .mpair f) → Claims.Steps (.matrixEntryTake c) s (s.modEntry c e.id reads))
    ∧ (∀ f, e.instr = .mpair f → e.far = true →
        Claims.Steps (.matrixEntryTake c) s ((s.modEntry c e.id reads).modEntry (partner c) e.id reads))
    ∧ (∀ f, e.instr = .mpair f → e.far = false → partner c ≠ c → partner c < s.cores.length →
        ∃ t, Claims.Steps (.matrixEntryTake c) s t ∧ MemKept s t ∧ (t.core (partner c)).pair = some e.id
          ∧ ∃ x ∈ (t.core (partner c)).fifo, x.id = e.id ∧ x.far = true))
  ∧ (∀ (c i : Nat) (s : State) (e : MEntry) (g : CoreSeg), (s.core c).fifo[i]? = some e → e.st = .reading →
    (∀ x ∈ (s.core c).fifo.take i, x.sharesTile e = false) → Claims.segOf s e.key c = some g → c < s.cores.length →
    (∀ f, e.instr = .mzero f → ∃ t g', Claims.Steps (.matrixEntryCommit c i) s t ∧ MemKept s t
      ∧ (t.core c).fifo = dropAt (s.core c).fifo i ∧ Claims.segOf t e.key c = some g' ∧ g'.scratch = g.scratch
      ∧ ∀ a n, n < 128 → g'.tileAt a n =
          if f.tile.toNat ≤ a ∧ a ≤ f.tile.toNat + f.imm9.toNat % 64 then 0 else g.tileAt a n)
    ∧ (∀ f, e.instr = .mldt f → ∃ t g', Claims.Steps (.matrixEntryCommit c i) s t ∧ MemKept s t
      ∧ (t.core c).fifo = dropAt (s.core c).fifo i ∧ Claims.segOf t e.key c = some g' ∧ g'.scratch = g.scratch
      ∧ ∀ a n, n < 128 → g'.tileAt a n =
          if a = f.tile.toNat then leValue ((e.latch.drop (4 * n)).take 4) else g.tileAt a n)
    ∧ (∀ f, e.instr = .mwr f → ∃ t g', Claims.Steps (.matrixEntryCommit c i) s t ∧ MemKept s t
      ∧ (t.core c).fifo = dropAt (s.core c).fifo i ∧ Claims.segOf t e.key c = some g' ∧ g'.scratch = g.scratch
      ∧ ∀ l q, l < 64 → q < 4 → bit e.mask l = true →
          g'.tileAt (f.tile.toNat + l / 32) (16 * (2 * q + l % 32 / 16) + l % 16) = laneVal (e.regs.getD q []) l)
    ∧ (∀ f, e.instr = .mstore f → ∃ t g', Claims.Steps (.matrixEntryCommit c i) s t ∧ MemKept s t
      ∧ (t.core c).fifo = dropAt (s.core c).fifo i ∧ Claims.segOf t e.key c = some g' ∧ g'.tiles = g.tiles
      ∧ g'.scratch = scratchStores g.scratch ((moveWords (f.skew = 1#1) (e.low 0) (e.low 1)).zipIdx.map (fun p =>
          (p.1, leBytes (g.tileAt f.tile.toNat p.2) 4))))
    ∧ (∀ f, e.instr = .mma f → ∃ t g', Claims.Steps (.matrixEntryCommit c i) s t ∧ MemKept s t
      ∧ (t.core c).fifo = dropAt (s.core c).fifo i ∧ Claims.segOf t e.key c = some g' ∧ g'.scratch = g.scratch
      ∧ g' = (mmaCommit e f f.tile.toNat g (octetsOf e.mask).zipIdx).1)
    ∧ (∀ f w, e.instr = .mrd f → s.wave? e.core e.slot = some w → w.core = e.core → w.slot = e.slot →
        ∃ t w', Claims.Steps (.matrixEntryCommit c i) s t ∧ MemKept s t ∧ (t.core c).fifo = dropAt (s.core c).fifo i
          ∧ t.wave? e.core e.slot = some w'
          ∧ ∀ o a m x y, w.ops.find? (fun o => o.id == e.id) = some o → o.dst = .lanes a m x y →
            ∀ l q, l < 64 → q < 4 → q < m → l < w.lanes → bit e.mask l = true →
              w'.getV (f.d9.toNat + q) l = g.tileAt (f.tile.toNat + l / 32) (16 * (2 * q + l % 32 / 16) + l % 16))
    ∧ (∀ f, e.instr = .mpair f → e.halfDone = false → partner c ≠ c → ∃ t g', Claims.Steps (.matrixEntryCommit c i) s t
      ∧ MemKept s t ∧ (t.core c).fifo = dropAt (s.core c).fifo i ∧ Claims.segOf t e.key c = some g'
      ∧ g' = (mmaCommit e f (if e.far then f.aux6.toNat else f.tile.toNat) g (octetsOf e.mask).zipIdx).1
      ∧ ∀ x ∈ (t.core (partner c)).fifo, x.id = e.id → x.halfDone = true))
  ∧ (∀ (c i : Nat) (s : State) (e : MEntry) (f : XtF) (w : Wave), (s.core c).fifo[i]? = some e → e.instr = .msig f →
    s.stageFree c i e = true → s.isSaving e.key = false → s.wave? e.core e.slot = some w →
    Claims.Steps (.msigArrival c i) s (((s.modCore c (fun x => { x with fifo := dropAt x.fifo i })).modBar e.key
      (if f.aux6.toNat ≥ 32 then 0 else w.j) f.aux6.toNat (Bar.arrive 1)).entryDone e 0 0))

/-- JOBS RUN AND END. A waiting job whose predecessors are over and whose release is done starts; a running copy job whose
next bytes go to one scratchpad writes at most 256 of them, under a charge of 32 for each 256 bytes written; a job that is
over leaves the table and its successors, and its operation finishes, after its barrier or semaphore has its completion; a
node job sends its completion record; a node job whose page is not served within 1 ms stops with STATUS 1. The matrix and
copy nodes enter a job for the oldest record. The model's: that a fixed node's job acts as the first core of its die, and
that a copy node's card naming a scratchpad ends with STATUS 3 (entry 36), as does one with a reserved bit set (entry 44)
(14 R333 to R336; 15 R355 to R357; 13 R306, R312, R313). -/
def Obligations.JobsRunAndEnd : Prop :=
  (∀ (die i : Nat) (s : State) (j : Job), (s.die die).jobs[i]? = some j →
    let set (f : Job → Job) (u : State) : State :=
      u.modDie die (fun d => { d with jobs := d.jobs.map (fun x => if x.id = j.id then f x else x) })
    (j.state = 1 → j.preds = [] → s.releaseDone j.core j.slot j.after j.scope = true →
      Claims.Steps (.jobStart die i) s (set (fun x => { x with state := 2 }) s))
    ∧ (j.state = 2 → j.page = none → j.fault = none → j.row < j.rowCount → j.buf ≠ [] →
      (∀ bs, j.kind ≠ .matrix bs) → j.dest.scratch = true → j.dest.scnt = 1 → let bs := j.buf.take 256
      let a := (j.dest.rowAt j.row).toNat + j.col
      let next (paid : Nat) (x : Job) : Job :=
        if x.buf.drop 256 = [] then { x with paid := paid, buf := [], col := 0, row := x.row + 1 }
        else { x with paid := paid, buf := x.buf.drop 256, col := x.col + 256 }
      let put := s.modSeg j.key j.dest.score (fun g => g.putScratch [(a, bs)])
      (j.paid = 0 → ((32 : Nat) : Int) ≤ (s.cluster (clusterOf j.core)).bucket →
        Claims.Steps (.jobStart die i) s (set (fun x => next (x.paid + 256 - bs.length) x) (put.charge j.core 32)))
      ∧ (j.paid = 0 → (s.cluster (clusterOf j.core)).bucket < ((32 : Nat) : Int) → Claims.Steps (.jobStart die i) s s)
      ∧ (j.paid ≥ bs.length → Claims.Steps (.jobStart die i) s (set (fun x => next (x.paid - bs.length) x) put)))
    ∧ (j.overB = true →
      let gone := s.modDie die (fun d => { d with jobs := (d.jobs.filter (fun x => x.id != j.id)).map (fun x =>
        { x with preds := x.preds.filter (fun p => p != j.id) }) })
      (j.node = 65536 → j.fault = none → Claims.Steps (.jobComplete die i) s
        ((gone.applyComp j).modOp j.core j.slot j.op (fun o => { o with done := true })))
      ∧ (∀ n e rest, j.node ≠ 65536 → s.node? j.node = some n → n.edges = e :: rest → e.target ≠ 65536 →
        ∃ t m r, Claims.Steps (.jobComplete die i) s t ∧ m ∈ t.net ∧ m.msg = .record [r] ∧ r.node = e.target
          ∧ r.bytes = leBytes j.jobid 4 ++ leBytes j.status 1 ++ leBytes 0 3 ++ leBytes j.nnan 4 ++ leBytes j.novf 4
          ∧ ∀ x ∈ (t.die die).jobs, x.id ≠ j.id)))
  ∧ (∀ (i die : Nat) (s : State) (j : Job) (va : Nat), s.allJobs[i]? = some (die, j) → j.page = some va → j.node ≠ 65536 →
    Claims.Steps (.jobPageTimeout i) s (if s.timen ≥ j.pageSince + 1000000 then
      s.modDie die (fun d => { d with jobs := d.jobs.map (fun x => if x.id = j.id then
        { x with page := none, fault := some (0x0A, 0, 0), status := 1, buf := [] } else x) }) else s))
  ∧ (∀ (die node : Nat) (s u : State) (n : Node) (e : QEntry), s.node? node = some n → s.tableFull die = false →
    die < s.dies.length → s.takeRecord die node = some (u, e) →
    (n.kind = kindMatrix → let x := matJobOf e.bytes
      let bad := x.bad || farRegions x.regions
      ∃ t j, Claims.Steps (.matrixJobRun die node) s t ∧ (t.die die).jobs = (u.die die).jobs ++ [j] ∧ j.node = node
        ∧ j.kind = .matrix e.bytes ∧ j.jobid = x.jobid ∧ j.state = (if bad then 2 else 1)
        ∧ j.status = (if bad then 3 else 0) ∧ j.row = 0)
    ∧ (n.kind = kindCopy → let c := cardOf (leValue e.bytes)
      let rs := c.regions none (96 * die) (96 * die) 1
      let bad := cardBad (leValue e.bytes) c || decide (c.skind ≠ 0 ∨ c.dkind ≠ 0) || (cardOdd c false).isSome
        || farRegions rs
      ∃ t j, Claims.Steps (.copyJobRun die node) s t ∧ (t.die die).jobs = (u.die die).jobs ++ [j] ∧ j.node = node
        ∧ j.kind = .copy c ∧ j.jobid = c.jobid ∧ j.state = (if bad then 2 else 1) ∧ j.status = (if bad then 3 else 0)
        ∧ j.row = 0))

/-- A record of a fixed node goes to the target of its edge. -/
def Sys2Proof.Claims.Emits (t : State) (n : Node) (edge : Nat) (recs : List (List Byte)) : Prop :=
  ∀ e, n.edges[edge]? = some e → e.target ≠ 65536 → recs ≠ [] →
    ∃ m ∈ t.net, ∃ rs, m.msg = .record rs ∧ rs.map (fun r => (r.node, r.bytes)) = recs.map (fun b => (e.target, b))

/-- RASTERISER, RAY TRAVERSAL AND SCANOUT. A triangle record whose coordinates are finite gives its covered quads, as far as
the fan-out of its edge goes, whole quads only; a ray record gives a hit record with HIT 0, 1 or 2; at its vertical blank a
head takes the last image record of its queue, where that keeps the limits, and its read of the image folds a line that is
in an open range (13 R306, R308 to R311, R315, R316; 15 R361 to R364; 10 R215, R221). A traversal that needs a page that is
not present keeps its record and waits until the host has mapped the page, and then starts over, or has refused it. The
model's: cutting the output to whole quads within the fan-out and the read at the vertical blank (entry 26), the free hit
record of a record or structure outside the number format, and HIT 2 for a refused page (entry 8). -/
def Obligations.FixedNodes : Prop :=
  (∀ (die node : Nat) (s u : State) (n : Node) (e : QEntry), s.node? node = some n → s.takeRecord die node = some (u, e) →
    u.node? node = some n →
    (n.kind = kindRaster → let edge := bits (recWord e.bytes 12) 8 8
      let tri := triOf e.bytes
      let all := if tri.culled then [] else tri.pixels
      let room := match n.edges[edge]? with | some e => e.fanout | none => 0
      ((∀ k < 9, notFinite (recWord e.bytes k) = false) → ∃ t, Claims.Steps (.rasteriseTriangle die node) s t
        ∧ Claims.Emits t n edge (all.take (min all.length room / 4 * 4)))
      ∧ ((∃ k, k < 9 ∧ notFinite (recWord e.bytes k) = true) → 
        Claims.Steps (.rasteriseTriangle die node) s (((u.countOverrun node).nodeOutput die node edge []).drainCheck)))
    ∧ (n.kind = kindRay → (s.die die).rayWait.find? (fun x => x.node == node) = none → let bs := e.bytes
      let edge := bits (recWord bs 12) 0 8
      let gives (rec : List Byte) : Prop := ∃ t, Claims.Steps (.rayTraverse die node) s t ∧ Claims.Emits t n edge [rec]
      (rayBad bs = true → gives (hitRecord bs 2 none))
      ∧ (rayBad bs = false → rayOpen bs = true → gives (freeHit bs u.fresh))
      ∧ (∀ u' h, rayBad bs = false → rayOpen bs = false → rayBox 64 (96 * die) (rayOf bs) 0 u none = .ok (u', h) →
          u'.node? node = some n → gives (hitRecord bs (if h.isSome then 1 else 0) h))
      ∧ (rayBad bs = false → rayOpen bs = false → rayBox 64 (96 * die) (rayOf bs) 0 u none = .error .invalid →
          gives (hitRecord bs 2 none))
      ∧ (∀ va, rayBad bs = false → rayOpen bs = false → rayBox 64 (96 * die) (rayOf bs) 0 u none = .error (.miss va) →
          Claims.Steps (.rayTraverse die node) s ((u.rayWaits die node (some {
            node := node, took := e, page := va / 16384, answer := none })).reportMiss va 5 node (96 * die)))))
  ∧ (∀ (die node : Nat) (s : State) (n : Node) (x : RayWait), s.node? node = some n → n.kind = kindRay →
    (s.die die).rayWait.find? (fun x => x.node == node) = some x → let bs := x.took.bytes
    (x.answer = none → Claims.Steps (.rayTraverse die node) s s)
    ∧ (rayBad bs = false → rayOpen bs = false →
      (∀ va, x.answer = some false → va / 16384 = x.page → rayBox 64 (96 * die) (rayOf bs) 0 s none = .error (.miss va) →
        ∃ t, Claims.Steps (.rayTraverse die node) s t ∧ Claims.Emits t n (bits (recWord bs 12) 0 8) [hitRecord bs 2 none]
          ∧ ∀ g, s.graph = some g → g.started = false → (t.die die).rayWait.find? (fun x => x.node == node) = none)
      ∧ (∀ va, x.answer = some true → rayBox 64 (96 * die) (rayOf bs) 0 s none = .error (.miss va) →
        Claims.Steps (.rayTraverse die node) s ((s.rayWaits die node (some {
          x with node := node, page := va / 16384, answer := none })).reportMiss va 5 node (96 * die)))))
  ∧ (∀ (head : Nat) (s : State) (h : Machine.Head) (n : Node) (q : Queue) (e : QEntry), s.heads[head]? = some h →
    (h.on = false → Claims.Steps (.scanoutVblank head) s s)
    ∧ (∀ line x r, h.on = true → s.nodes = [] → s.dir = [(line, x)] → s.rangeOfLine line = some r →
      h.shows (r.vaOf line) = true → x.clean = false → x.fold = none → s.foldReady line = true →
      let cs := x.holders.filter (fun c => c != 192)
      ∃ t, Claims.Steps (.scanoutVblank head) s t ∧ t.heads = s.heads ∧ MemKept s t
        ∧ t.dir = [(line, { x with holders := [], fold := some { cores := cs, loads := [], poison := false } })]
        ∧ t.net.map (fun m => m.msg) = s.net.map (fun m => m.msg) ++ cs.map (fun c => .probe c line))
    ∧ (h.on = true → s.nodes = [n] → n.kind = kindScanout → headDie head < s.dies.length →
      s.queue? (headDie head) 0 = some q → q.entries = [e] → e.open? = true → (e.bytes.headD 0#8).toNat % 4 = head →
      ∃ t, Claims.Steps (.scanoutVblank head) s t ∧ s.entries (headDie head) 0 = [e] ∧ t.entries (headDie head) 0 = []
        ∧ t.heads = (if imageOk h e.bytes then modAt s.heads head (fun x => { x with
            fb := leValue ((e.bytes.drop 8).take 8), pitch := recWord e.bytes 4, fmt := leValue ((e.bytes.drop 1).take 1)
            width := recHalf e.bytes 1, height := recHalf e.bytes 2, frame := recWord e.bytes 5 }) else s.heads)))

/-! ## The host's accesses and the sensors (20 R430, R431, R437, R438; 13 R314) -/

/-- The lines that n bytes from an address lie in are of no open range, and neither on their way to a new home nor behind
requests that are. -/
def Sys2Proof.Claims.PlainLines (s : State) (pa n : Nat) : Prop :=
  ∀ p ∈ lineParts pa n, s.lineState (lineOf p.1) ≠ .c ∧ s.heldBack (lineOf p.1) = false

/-- The bytes written from an address on, and every other byte as before. -/
def Sys2Proof.Claims.BytesPut (s t : State) (pa : Nat) (bs : List Byte) : Prop :=
  ∀ a, memByte t.mem a = if pa ≤ a ∧ a < pa + bs.length then bs.getD (a - pa) 0#8 else memByte s.mem a

/-- THE HOST AND THE SENSORS. A write of CMDTAIL rings the doorbell, FLTHEAD and BAR2BASE hold what is written, the slots of
the command ring hold what the host writes and every other BAR0 write is discarded; BAR2 writes and reads the bytes at
BAR2BASE × 256 MiB plus the offset, where BAR2 reaches them; a sensor's window write stores its bytes, and its DONE word
sends the frame record once they have performed, while a write with the stream off, no graph started or beyond WBYTES is
discarded and counted (20 R430, R431, R437, R438; 13 R314). -/
def Obligations.HostAndSensorAccess : Prop :=
  (∀ (v : Word) (s : State),
    Claims.Steps (.cmdtailWrite v) s { s with cmdtail := v.toNat, mgmtPending := insertAsc 0 s.mgmtPending }
    ∧ Claims.Steps (.fltheadWrite v) s { s with flthead := v.toNat }
    ∧ Claims.Steps (.bar2baseWrite v) s { s with bar2base := v.toNat % 2 ^ 20 })
  ∧ (∀ (off : Nat) (v : Word) (s : State), Claims.Steps (.bar0WriteOther off v) s
      (if 0x100000 ≤ off ∧ off + 4 ≤ 0x140000 then { s with bar0 := memWrite s.bar0 off (leBytes v.toNat 4) } else s))
  ∧ (∀ (off : Nat) (bytes : List Byte) (s : State), let pa := s.bar2base * 2 ^ 28 + off
    off + bytes.length ≤ 2 ^ 37 → Claims.PlainLines s pa bytes.length →
    ((∀ p ∈ lineParts pa bytes.length, s.bar2Reaches p.1 = true) →
      ∃ t, Claims.Steps (.bar2Write off bytes) s t ∧ t.w = s.w ∧ t.waves = s.waves ∧ Claims.BytesPut s t pa bytes)
    ∧ ((∀ p ∈ lineParts pa bytes.length, s.bar2Reaches p.1 = false) → Claims.Steps (.bar2Write off bytes) s s))
  ∧ (∀ (off n : Nat) (s : State), let pa := s.bar2base * 2 ^ 28 + off
    off + n ≤ 2 ^ 37 → Claims.PlainLines s pa n →
    (∀ p ∈ lineParts pa n, s.bar2Reaches p.1 = true ∧ s.poisoned (lineOf p.1) = false) →
    Claims.Steps (.bar2Read off n) s { s with bar2Data := memBytes s.mem pa n })
  ∧ (∀ (k w off : Nat) (bytes : List Byte) (s : State), let x := s.sensor k
    let pa := (if w = 0 then x.waddr0 else x.waddr1) + off
    k < 16 → k < s.sensors.length → w ≤ 1 → off + bytes.length ≤ 0x7FFFFC →
    (x.wbytes = 0 ∨ s.graphStarted = false ∨ off + bytes.length > x.wbytes →
      Claims.Steps (.sensorWindowWrite k w off bytes) s (s.modSensor k (fun x => { x with drop := (x.drop + 1) % 2 ^ 32 })))
    ∧ (x.wbytes ≠ 0 → s.graphStarted = true → off + bytes.length ≤ x.wbytes → Claims.PlainLines s pa bytes.length →
      ∃ t, Claims.Steps (.sensorWindowWrite k w off bytes) s t ∧ t.w = s.w ∧ t.waves = s.waves ∧ Claims.BytesPut s t pa bytes
        ∧ t.sensor k = { x with writes := x.writes + (lineParts pa bytes.length).length }))
  ∧ (∀ (k w : Nat) (n : Word) (s : State), let x := s.sensor k
    let seq := (x.seq + 1) % 2 ^ 32
    let on := x.wbytes ≠ 0 ∧ s.graphStarted = true ∧ n.toNat ≤ x.wbytes
    let record := leBytes (k + 256 * (if ∃ p ∈ x.pending, p.1 = w then 1 else 0)) 4 ++ leBytes seq 4
      ++ leBytes (if w = 0 then x.waddr0 else x.waddr1) 8 ++ leBytes n.toNat 4 ++ leBytes 0 4 ++ leBytes s.timen 8
    let pending := x.pending.filter (fun p => p.1 != w) ++ [(w, leValue record)]
    k < 16 → k < s.sensors.length → w ≤ 1 →
    (¬ on → Claims.Steps (.sensorDone k w n) s (s.modSensor k (fun x => { x with drop := (x.drop + 1) % 2 ^ 32 })))
    ∧ (on → x.writes ≠ 0 → Claims.Steps (.sensorDone k w n) s s)
    ∧ (on → x.writes = 0 → x.barh = 0 → s.sensorNode k = none → ∃ t, Claims.Steps (.sensorDone k w n) s t
      ∧ t = { s with sensors := t.sensors } ∧ t.sensor k = { x with seq := seq, pending := pending })
    ∧ (∀ d i e rest, on → x.writes = 0 → x.barh = 0 → s.sensorNode k = some (d, i) → s.node? i = some d →
      d.edges = e :: rest → e.target ≠ 65536 →
      let credit := if d.deadline = true then some s else s.takeCredits (if k < 8 then 0 else 1) 1 d.edges
      (credit = none → Claims.Steps (.sensorDone k w n) s s)
      ∧ (∀ u, credit = some u → ∃ t m r, Claims.Steps (.sensorDone k w n) s t
        ∧ t.sensor k = { x with seq := seq, pending := pending } ∧ MemKept s t ∧ m ∈ t.net
        ∧ m.msg = .record [r] ∧ r.node = e.target
        ∧ r.bytes = record)))

/-! ## The commands of the host (20 R431 to R438, R446 to R449) -/

/-- A record of the command ring with this OPCODE is the next to be taken, its stage is reached and its reserved bits are 0. -/
def Sys2Proof.Claims.Command (s : State) (c op stage : Nat) (fields : List (Nat × Nat)) : Prop :=
  s.command = some c ∧ s.queueCmd = none ∧ bits c 0 8 = op ∧ s.bootstage ≥ stage ∧ rsvdSet c fields = false

/-- THE RESPONSE (20 R431): 64 bytes at the response ring's tail with TAG, OPCODE, STATUS, REASON and data; both counters
move on, and MSI-X vector 0 is raised. While a write of the command, or one made for the host, has not been performed, it
waits. -/
def Sys2Proof.Claims.answer (s : State) (c status reason data : Nat) : State :=
  if ∃ a ∈ s.acks, a.tell = .host ∨ a.tell = .none then { s with busy := some (.respond status reason data) }
  else { s with
    bar0 := memWrite s.bar0 (0x200000 + 64 * (s.rsptail % 4096))
      (leBytes (bits c 32 32 + bits c 0 8 * 2 ^ 32 + status % 256 * 2 ^ 40 + reason % 65536 * 2 ^ 48 + data) 64)
    rsptail := (s.rsptail + 1) % 2 ^ 32, cmdhead := (s.cmdhead + 1) % 2 ^ 32, busy := none
    msix := modAt s.msix 0 (fun x => x + 1) }

/-- A command answered with STATUS 0: its response is written, or waits for its writes. -/
def Sys2Proof.Claims.Answered (s t : State) : Prop :=
  t.busy = none ∧ t.rsptail = (s.rsptail + 1) % 2 ^ 32 ∧ t.cmdhead = (s.cmdhead + 1) % 2 ^ 32
    ∨ ∃ data, t.busy = some (.respond 0 0 data) ∧ t.rsptail = s.rsptail ∧ t.cmdhead = s.cmdhead

/-- The steps that serve one OPCODE each, with it, the stage it waits for and the fields of its record. -/
def Sys2Proof.Claims.commandTable : List (Instr × Nat × Nat × List (Nat × Nat)) :=
  [(.firmwareUpdate, 2, 0, [(64, 48), (128, 32)]), (.attest, 3, 0, [(64, 256), (320, 8), (384, 48)]),
   (.setScanout, 4, 0, [(64, 48), (128, 32)]), (.loadCode, 0x10, 3, [(64, 64), (128, 48)]),
   (.unloadCode, 0x11, 3, [(64, 32)]),
   (.loadGraph, 0x12, 3, [(64, 64), (128, 48), (176, 8), (192, 48), (240, 48), (288, 32), (320, 32)]),
   (.startGraph, 0x13, 3, [(64, 32)]), (.stopGraph, 0x14, 3, [(64, 32)])] ++
  [(.vacateCores, 0x15, 3, [(64, 32), (96, 16), (112, 8)]), (.switchContext, 0x16, 3, [(64, 32), (96, 32), (128, 48), (176, 32)]),
   (.mapPages, 0x17, 3, [(64, 32), (96, 64), (160, 48), (208, 32), (240, 4), (244, 1)]),
   (.unmapPages, 0x18, 3, [(64, 32), (96, 64), (208, 32), (244, 1)]), (.faultReply, 0x19, 3, [(64, 32)]),
   (.sensorConfig, 0x1A, 3, [(64, 4), (128, 64), (192, 64), (256, 32), (320, 64)]), (.unloadGraph, 0x1E, 3, [(64, 32)])]

/-- WHERE A COMMAND IS TURNED AWAY: before its stage with STATUS 1, with a bit set that its record does not name with STATUS
2, and an unknown OPCODE with STATUS 4; a step leaves another OPCODE alone. The response to a record of a command node's
queue goes to the node's successor, and a response that waits for the command's own writes follows them, unless the
management core has halted; what waits for a page that a MAP_PAGES has mapped goes on once its response is written (20 R431,
R432, R434, R437, R439; 13 R317). -/
def Obligations.CommandsTurnedAway : Prop :=
  (∀ x ∈ Claims.commandTable, ∀ (s : State) (c : Nat), s.command = some c → s.queueCmd = none →
    (bits c 0 8 ≠ x.2.1 → Claims.Steps x.1 s s)
    ∧ (bits c 0 8 = x.2.1 → s.bootstage < x.2.2.1 → Claims.Steps x.1 s (Claims.answer s c 1 0 0))
    ∧ (bits c 0 8 = x.2.1 → s.bootstage ≥ x.2.2.1 → rsvdSet c x.2.2.2 = true →
        Claims.Steps x.1 s (Claims.answer s c 2 0 0)))
  ∧ (∀ (s : State) (c : Nat), s.command = some c →
    ¬ (1 ≤ bits c 0 8 ∧ bits c 0 8 ≤ 5 ∨ 0x10 ≤ bits c 0 8 ∧ bits c 0 8 ≤ 0x1E) →
    (s.queueCmd = none → Claims.Steps .queryStartup s (Claims.answer s c 4 0 0))
    ∧ (∀ k n e rest, s.writesPending = false → s.queueCmd = some (s.graphId, k, c) → s.node? k = some n → n.edges = e :: rest → e.target ≠ 65536 →
      ∃ t m r, Claims.Steps .queryStartup s t ∧ t.queueCmd = none ∧ t.cmdhead = s.cmdhead ∧ t.bar0 = s.bar0 ∧ m ∈ t.net
        ∧ m.msg = .record [r] ∧ r.node = e.target ∧ r.bytes = leBytes (bits c 32 32 + bits c 0 8 * 2 ^ 32 + 4 * 2 ^ 40) 64))
  ∧ (∀ (s : State) (status reason data : Nat), s.busy = some (.respond status reason data) → s.queueCmd = none →
    let c := s.headRecord
    let t := Claims.answer s c status reason data
    (s.mgmtHalted = true ∨ s.writesPending = true → s.turn (.agent .commandTake 0 0 0) = .next s)
    ∧ (s.mgmtHalted = false → s.writesPending = false →
      (status ≠ 0 ∨ bits c 0 8 ≠ 0x17 → s.turn (.agent .commandTake 0 0 0) = .next t)
      ∧ (status = 0 → bits c 0 8 = 0x17 → ∀ g, s.graph = some g → g.id = bits c 64 32 →
        s.turn (.agent .commandTake 0 0 0) =
          .next (t.pagesMapped (bits c 96 64) ((if bit c 244 then 2 ^ 25 else 2 ^ 14) * bits c 208 32)))))
  ∧ (∀ (s : State), s.command = none → s.busy = none → ∀ x ∈ Claims.commandTable, Claims.Steps x.1 s s)

/-- THE COMMANDS ON THE DEVICE: the eight selectors of QUERY answer with their items; SET_SCANOUT, DISPLAY_MODE, display
off, SET_POWER and SENSOR_CONFIG write what their records name; FIRMWARE_UPDATE stores an image that verifies; ATTEST writes
its quote to host memory and answers when the quote has been performed; RESET_DEVICE resets the device, with the management
core halted from any place in the ring (20 R433 to R440, R446 to R449; 18 R407, R408). The model's: that a reset keeps
memory, the flash and TIMEN (entry 33), the payload of a link's lane in the test of DISPLAY_MODE (entry 29), and the link
word and the REASON codes that have no number in the manual (entry 8). -/
def Obligations.DeviceCommands : Prop :=
  let query (i : Instr) (sel stage : Nat) (ok : Nat → Prop) (data : Nat → State → Nat) : Prop := ∀ (s : State) (c : Nat),
    Claims.Command s c 1 stage [(64, 8), (72, 1), (96, 32)] → bits c 64 8 = sel → ok (bits c 96 32) →
    Claims.Steps i s (Claims.answer s c 0 0 (data c s))
  let words (l : List Nat) : Nat := leValue (l.flatMap (fun x => leBytes x 4)) * 2 ^ 64
  (query .queryStartup 0 0 (fun _ => True) (fun _ s => s.bootstage % 4 * 2 ^ 64 + s.devstat % 2 ^ 32 * 2 ^ 96)
  ∧ query .queryCoreCounters 1 3 (fun n => n < 192) (fun c s => let x := s.core (bits c 96 32)
      words [x.injcnt % 1024, x.refcnt, x.mxnan, x.mxovf])
  ∧ query .queryFootprint 2 3 (fun _ => True) (fun c s => (s.die (bits c 72 1)).jobs.length * 2 ^ 64)
  ∧ query .queryDeadAgents 3 0 (fun _ => True) (fun _ s =>
      maskOf ((s.cores.zipIdx.filter (fun p => p.1.dead)).map (fun p => 64 + p.2)) + (if s.hostDead then 2 ^ 256 else 0))
  ∧ query .queryLogCounts 4 0 (fun _ => True) (fun _ s => words [s.arrayCount, s.xferCount, s.droopcnt, s.flttail])
  ∧ query .queryMeasurement 5 0 (fun n => n < 8) (fun c s => s.mr.getD (bits c 96 32) 0 * 2 ^ 64)
  ∧ query .queryUseCounters 6 0 (fun _ => True) (fun _ s => words s.retcnt)
  ∧ query .queryJoinSlot 7 3 (fun n => n < 2 ^ 20) (fun c s => let x := s.join (bits c 72 1) (bits c 96 32)
      x.count % 65536 * 2 ^ 64 + (if x.held.isSome then 2 ^ 80 else 0) + x.tag % 65536 * 2 ^ 96
        + x.node % 65536 * 2 ^ 112))
  ∧ (∀ (s : State) (c : Nat), Claims.Command s c 4 0 [(64, 48), (128, 32)] → bits c 64 48 % 256 = 0 → bits c 128 32 % 256 = 0 →
    bits c 128 32 ≥ 7680 → inRange (bits c 64 48) (stackedBase 0) stackedSize = true →
    Claims.Steps .setScanout s (Claims.answer { s with scanFb := bits c 64 48, scanPitch := bits c 128 32 } c 0 0 0))
  ∧ (∀ (s : State) (c : Nat), Claims.Command s c 0x1B 3 displayFields → let head := bits c 64 2
    let within := bits c 72 4 ≤ 6 ∧ (bits c 76 4 = 1 ∨ bits c 76 4 = 2 ∨ bits c 76 4 = 4)
      ∧ (bits c 80 8 = 8 ∨ bits c 80 8 = 10 ∨ bits c 80 8 = 16)
    (¬ within → (bit c 66 = true → Claims.Steps .displayOff s (Claims.answer s c 2 0 0))
      ∧ (bit c 66 = false → Claims.Steps .displayMode s (Claims.answer s c 2 0 0)))
    ∧ (bit c 66 = true → within → Claims.Steps .displayOff s (Claims.answer { s with
        stage0Head := s.stage0Head && head != 2, heads := modAt s.heads head (fun h => { h with on := false }) } c 0 0 0))
    ∧ (bit c 66 = false → within →
      let fits := 3 * bits c 80 8 * bits c 96 32 ≤ 10 * bits c 76 4 * linkPayload (bits c 72 4)
        ∧ modeWithin (bits c 80 8) (bits c 96 32) (bits c 128 16) (bits c 144 16) (bits c 192 16) (bits c 208 16) = true
      (fits → Claims.Steps .displayMode s (Claims.answer { s with
          fresh := s.fresh + 1, stage0Head := s.stage0Head && head != 2
          heads := modAt s.heads head (fun h => { h with on := true, mode := modeOf c }) }
        c 0 0 ((Config.freeWord s.fresh).toNat % 2 * 2 ^ 64)))
      ∧ (¬ fits → Claims.Steps .displayMode s (Claims.answer s c 3 (Config.refusalCode 0x1B 1).toNat 0))))
  ∧ (∀ (s : State) (c : Nat),
    Claims.Command s c 0x1C 3 [(64, 8), (72, 1), (73, 3), (76, 1), (80, 5), (85, 1), (96, 12), (112, 2)] →
    (bits c 64 8 < 24 ∨ bits c 64 8 = 255) →
    (bit c 72 = true → bit c 76 = false → bit c 85 = false → bits c 112 2 = 0 →
      ∃ u, Claims.Steps .setPowerBias s (Claims.answer u c 0 0 0) ∧ u = { s with clusters := u.clusters }
        ∧ ∀ g, g < s.clusters.length → u.cluster g = if g < 24 ∧ (bits c 64 8 = 255 ∨ bits c 64 8 = g) then
            { s.cluster g with cbias := bits c 73 3, settling := true } else s.cluster g)
    ∧ (bit c 72 = false → bit c 76 = true → bit c 85 = false → bits c 112 2 = 0 → 1 ≤ bits c 80 5 → bits c 80 5 ≤ 16 →
      Claims.Steps .setPowerCbmax s (Claims.answer { s with cbmax := bits c 80 5 } c 0 0 0))
    ∧ (bit c 72 = false → bit c 76 = false → bit c 85 = true → bits c 112 2 = 0 →
      Claims.Steps .setPowerTlimit s (Claims.answer { s with tlimit := bits c 96 12 } c 0 0 0))
    ∧ (bit c 72 = false → bit c 76 = false → bit c 85 = false →
      (bits c 112 2 = 1 → Claims.Steps .setPowerSaddle s (Claims.answer { s with saddleHalf := false } c 0 0 0))
      ∧ (bits c 112 2 = 2 → ∃ u, Claims.Steps .setPowerSaddle s (Claims.answer u c 0 0 0) ∧ u.saddleHalf = true
          ∧ MemKept s u)))
  ∧ (∀ (s : State) (c : Nat), Claims.Command s c 0x1A 3 [(64, 4), (128, 64), (192, 64), (256, 32), (320, 64)] →
    bits c 128 64 % 256 = 0 → bits c 192 64 % 256 = 0 → 256 ≤ bits c 256 32 → bits c 256 32 ≤ 0x7FFF00 →
    deviceRange (bits c 128 64) (bits c 256 32) = true → deviceRange (bits c 192 64) (bits c 256 32) = true →
    Claims.Steps .sensorConfig s (Claims.answer (s.modSensor (bits c 64 4) (fun x => { x with
      waddr0 := bits c 128 64, waddr1 := bits c 192 64, wbytes := bits c 256 32, barh := bits c 320 64
      seq := 0, herr := 0 })) c 0 0 0))
  ∧ (∀ (s : State) (c : Nat), Claims.Command s c 2 0 [(64, 48), (128, 32)] → bits c 64 48 % 64 = 0 → bits c 128 32 ≠ 0 →
    bits c 128 32 ≤ 4194304 → isHostPa (bits c 64 48) = true → let image := memBytes s.mem (bits c 64 48) (bits c 128 32)
    Claims.Steps .firmwareUpdate s (if Config.rootVerifies image = true then Claims.answer { s with flash := image } c 0 0 0
      else Claims.answer s c 3 (Config.refusalCode 2 1).toNat 0))
  ∧ (∀ (s : State) (c : Nat), Claims.Command s c 3 0 [(64, 256), (320, 8), (384, 48)] → bits c 384 48 % 64 = 0 →
    isHostPa (bits c 384 48) = true → let q := s.quote (bits c 64 256) (bits c 320 8)
    q.take 64 = leBytes (bits c 64 256) 32 ++ leBytes (bits c 320 8) 1 ++ leBytes s.bootstage 1
      ++ leBytes (lanesOf (bits c 320 8) 8).length 1 ++ List.replicate 29 0#8
    ∧ (Claims.PlainLines s (bits c 384 48) q.length →
      ∃ u, Claims.Steps .attest s (Claims.answer u c 0 0 (q.length * 2 ^ 64)) ∧ Claims.BytesPut s u (bits c 384 48) q
        ∧ u.w = s.w ∧ u.waves = s.waves ∧ u.mr = s.mr))
  ∧ (∀ (s : State) (c : Nat), Claims.Command s c 5 0 [] ∨ (s.mgmtHalted = true ∧ s.powered = true ∧ bits c 0 8 = 5
      ∧ rsvdSet c [] = false ∧ ∃ k, k < 4096 ∧ k < (s.cmdtail + 2 ^ 32 - s.cmdhead) % 2 ^ 32
        ∧ leValue (memBytes s.bar0 (0x100000 + 64 * ((s.cmdhead + k) % 4096)) 64) = c) →
    ∃ t, Claims.Steps .resetDevice s t ∧ t.mem = s.mem
    ∧ t.flash = s.flash ∧ t.timen = s.timen ∧ t.w = Wave.mgmtReset ∧ t.waves = [] ∧ t.blocks = [] ∧ t.graph = none
    ∧ t.bootstage = 0 ∧ t.cmdhead = 0 ∧ t.rsptail = 0 ∧ t.net = [] ∧ t.tlimit = 0x2F8 ∧ t.cbmax = 12)

/-- THE COMMANDS ON CODE AND GRAPHS. LOAD_CODE keeps an object that passes its checks and extends MR3, and refuses another
with the reason; UNLOAD_CODE, LOAD_GRAPH, START_GRAPH, STOP_GRAPH and UNLOAD_GRAPH do what their names say to the graph they
name (20 R433, R434; 19 R418 to R420; 15 R351; 13 R290; 17 R391). The model's: the REASON codes that have no number in the
manual (entry 8), the layout of the queues and tables (entry 30), a graph loaded while none is current becoming the current
one and UNLOAD_GRAPH leaving none (entry 31), and the order in which reasons are looked for (entry 37). -/
def Obligations.GraphCommands : Prop :=
  (∀ (s : State) (c : Nat), Claims.Command s c 0x10 3 [(64, 64), (128, 48)] → bits c 64 64 % 16384 = 0 →
    bits c 64 64 < 2 ^ 47 → rootOk (bits c 128 48) = true →
    (∀ r, checkObject s.mem (bits c 128 48) (bits c 64 64) s.keys = .error (some r) →
      Claims.Steps .loadCode s (Claims.answer s c 3 r 0))
    ∧ (∀ o low, checkObject s.mem (bits c 128 48) (bits c 64 64) s.keys = .ok (o, low) →
      ∃ u, Claims.Steps .loadCode s (Claims.answer u c 0 0 (s.nextObj % 2 ^ 32 * 2 ^ 64))
        ∧ u = { s with codes := s.codes ++ [{ o with id := s.nextObj }], nextObj := s.nextObj + 1, mr := u.mr }
        ∧ u.mr = modAt s.mr 3 (fun x => leValue (sha256 (leBytes x 32 ++ sha256 low)))))
  ∧ (∀ (s : State) (c : Nat), Claims.Command s c 0x11 3 [(64, 32)] → let id := bits c 64 32
    let used := s.loadedGraphs.any (fun g => g.nodes.any (fun n => decide (n.kind ≤ 2) && n.obj == id))
    ((∀ o ∈ s.codes, o.id ≠ id) → Claims.Steps .unloadCode s (Claims.answer s c 3 (Config.refusalCode 0x11 1).toNat 0))
    ∧ ((∃ o ∈ s.codes, o.id = id) → used = true →
        Claims.Steps .unloadCode s (Claims.answer s c 3 (Config.refusalCode 0x11 2).toNat 0))
    ∧ ((∃ o ∈ s.codes, o.id = id) → used = false →
        Claims.Steps .unloadCode s (Claims.answer { s with codes := s.codes.filter (fun o => o.id != id) } c 0 0 0)))
  ∧ (∀ (s : State) (c : Nat),
    Claims.Command s c 0x12 3 [(64, 64), (128, 48), (176, 8), (192, 48), (240, 48), (288, 32), (320, 32)] →
    bits c 64 64 % 64 = 0 → bits c 64 64 < 2 ^ 47 → bits c 176 8 ≠ 1 → bits c 176 8 ≤ 31 → rootOk (bits c 128 48) = true →
    areaOk 0 (bits c 192 48) (bits c 288 32 * 16384) = true → areaOk 1 (bits c 240 48) (bits c 320 32 * 16384) = true →
    (∀ i, s.graphNodes (bits c 128 48) (bits c 64 64) = .error (.node i) →
      Claims.Steps .loadGraph s (Claims.answer s c 3 i 0))
    ∧ (∀ ns image resv, s.graphNodes (bits c 128 48) (bits c 64 64) = .ok (ns, image) →
      s.reserveNodes ns [] ns.zipIdx = .ok resv → firstNode ns (fun _ n => groupBad ns resv n) = none →
      let share := (if bits c 176 8 = 0 then 16 else bits c 176 8) * 16777216
      queuesBad ns 0 (share - joinBytes) = none → queuesBad ns 1 (share - joinBytes) = none →
      let ls := [layoutOf ns (makeQueues ns 0 (share - joinBytes)) 0 (bits c 192 48) (bits c 288 32 * 16384),
        layoutOf ns (makeQueues ns 1 (share - joinBytes)) 1 (bits c 240 48) (bits c 320 32 * 16384)]
      (∀ l ∈ ls, 16384 * l.need ≤ l.size) → s.checkDeadline ns.zipIdx = (s, none) → s.graph = none →
      ∃ t g, Claims.Steps .loadGraph s t ∧ t.graph = some g ∧ g.id = s.nextGraph ∧ g.nodes = ns ∧ g.running = false
        ∧ g.started = false ∧ g.layouts = ls ∧ g.ptroot = bits c 128 48 ∧ g.resv = resv ∧ t.nextGraph = s.nextGraph + 1
        ∧ t.blocks = [] ∧ Claims.Answered s t))
  ∧ (∀ (s : State) (c : Nat) (g : Graph), s.graph = some g → g.id = bits c 64 32 →
    (Claims.Command s c 0x13 3 [(64, 32)] → ∃ u, Claims.Steps .startGraph s (Claims.answer u c 0 0 0)
      ∧ (∃ h, u.graph = some h ∧ h.id = g.id ∧ h.running = true ∧ h.started = true)
      ∧ (g.started = false → s.dies ≠ [] → ∀ i n, g.nodes[i]? = some n → n.bare = true →
          ∃ b ∈ (u.die 0).batches, b.node = i ∧ b.r = n.group ∧ b.admitted = false)
      ∧ (g.started = true → ∀ d, (u.die d).batches = (s.die d).batches))
    ∧ (Claims.Command s c 0x14 3 [(64, 32)] → ∃ u, Claims.Steps .stopGraph s (Claims.answer u c 0 0 0)
      ∧ u.graph = some { g with running := false } ∧ (∀ d ∈ u.dies, d.excluded = []) ∧ MemKept s u)
    ∧ (Claims.Command s c 0x1E 3 [(64, 32)] →
      (g.running = true ∨ s.blocks ≠ [] →
        Claims.Steps .unloadGraph s (Claims.answer s c 3 (Config.refusalCode 0x1E 2).toNat 0))
      ∧ (g.running = false → s.blocks = [] → ∃ u, Claims.Steps .unloadGraph s (Claims.answer u c 0 0 0) ∧ u.graph = none
        ∧ (∀ x ∈ u.cores, x.tlb = []) ∧ (∀ f ∈ u.faults, f.graph ≠ g.id) ∧ u.contexts = s.contexts ∧ MemKept s u)))
  ∧ (∀ (s : State) (c : Nat), (∀ g, s.graph = some g → g.id ≠ bits c 64 32) → (∀ x ∈ s.contexts, x.graph.id ≠ bits c 64 32) →
    ∀ x ∈ [((Instr.startGraph), 0x13), (.stopGraph, 0x14), (.unloadGraph, 0x1E)], Claims.Command s c x.2 3 [(64, 32)] →
      Claims.Steps x.1 s (Claims.answer s c 3 (Config.refusalCode x.2 1).toNat 0))

/-- THE COMMANDS ON A GRAPH'S CORES, PAGES AND BLOCKS. VACATE_CORES lifts a node's exclusions or excludes its highest cores
and stops their blocks, and answers when their saves are over; SWITCH_CONTEXT stops the current graph and, all quiet, brings
the other one onto the device; MAP_PAGES and UNMAP_PAGES write and clear leaf entries and empty the TLBs; FAULT_REPLY
refuses a page to its waiters; BLOCK_CONTROL gives a faulted block's image, resumes it or discards it (17 R391, R396, R397;
15 R341 to R347; 20 R433, R434, R436, R437). With no current graph a switch empties the L1s too, once nothing is under way.
The model's: the REASON codes that have no number in the manual (entry 8), and the pages that SWITCH_CONTEXT needs, by the
sizes of images and tables (entry 30). -/
def Obligations.ContextAndPageCommands : Prop :=
  (∀ (s : State) (c : Nat) (g : Graph) (n : Node), s.graph = some g → g.id = bits c 64 32 →
    Claims.Command s c 0x15 3 [(64, 32), (96, 16), (112, 8)] → bits c 112 8 ≤ 191 → let node := bits c 96 16
    s.node? node = some n →
    (n.deadline = true → Claims.Steps .vacateCores s (Claims.answer s c 3 (Config.refusalCode 0x15 2).toNat 0))
    ∧ (n.deadline = false → bits c 112 8 = 0 → Claims.Steps .vacateCores s (Claims.answer { s with
        dies := s.dies.map (fun d => { d with excluded := d.excluded.filter (fun p => p.1 != node) }) } c 0 0 0))
    ∧ (n.deadline = false → bits c 112 8 ≠ 0 →
      let mine := s.blocks.filter (fun b => b.key.node == node && b.onCores)
      let cores := ((((List.range 192).filter (fun c => mine.any (fun b => b.onCore c))).reverse).take (bits c 112 8))
      ((∃ b ∈ s.blocks, b.key.node = node ∧ s.spanLeft n (cores ++ s.excludedOf node) b = false) →
        Claims.Steps .vacateCores s (Claims.answer s c 3 (Config.refusalCode 0x15 3).toNat 0))
      ∧ ((∀ b ∈ s.blocks, b.key.node = node → s.spanLeft n (cores ++ s.excludedOf node) b = true) →
        (∃ b ∈ s.blocks, b.resident = true ∧ cores.any b.onCore = true) →
        ∃ t, Claims.Steps .vacateCores s t ∧ t.busy = some .vacate ∧ MemKept s t
          ∧ ∀ b ∈ s.blocks, b.resident = true → cores.any b.onCore = true → b.key ∈ s.groupOf b →
              ∀ x ∈ t.blocks, x.key = b.key → x.status = .saving false none ∧ x.vacate = true)))
  ∧ (∀ s : State, s.busy = some .vacate → s.queueCmd = none → Claims.Steps .vacateCores s
      (if s.vacating = true ∨ s.mgmtHalted = true then s else
        Claims.answer s s.headRecord 0 0 (s.exclOf (bits s.headRecord 96 16))))
  ∧ (∀ (s : State) (c : Nat), Claims.Command s c 0x16 3 [(64, 32), (96, 32), (128, 48), (176, 32)] → bits c 128 48 % 16384 = 0 →
    backedRange (bits c 128 48) (16384 * bits c 176 32) = true →
    (∀ x, s.graph = none → s.contexts.find? (fun x => x.graph.id == bits c 96 32) = some x → bits c 64 32 = 0xFFFFFFFF →
      (s.quiet = false → Claims.Steps .switchContext s s)
      ∧ (s.quiet = true → ∃ u, Claims.Steps .switchContext s (Claims.answer u c 0 0 0) ∧ u.graph = some x.graph
        ∧ u.blocks = x.blocks ∧ (∀ y ∈ u.contexts, y.graph.id ≠ x.graph.id) ∧ (∀ y ∈ u.cores, y.l1 = [] ∧ y.tlb = [])
        ∧ MemKept s u))
    ∧ (∀ g x, s.graph = some g → s.contexts.find? (fun x => x.graph.id == bits c 96 32) = some x → g.id = bits c 64 32 →
      let need := ceilDiv (s.imageSize (s.blocks.filter Block.resident) + s.tableSize) 16384
      (need > bits c 176 32 → Claims.Steps .switchContext s
        (Claims.answer s c 3 (Config.refusalCode 0x16 3).toNat (need % 2 ^ 32 * 2 ^ 96)))
      ∧ (need ≤ bits c 176 32 → ∃ t, Claims.Steps .switchContext s t ∧ t.busy = some (.switch g.running need) ∧ MemKept s t
        ∧ (∀ h, t.graph = some h → h.running = false)
        ∧ ∀ b ∈ s.blocks, b.resident = true → ∀ y ∈ t.blocks, y.key = b.key → ∃ a, y.status = .saving false (some a)))
    ∧ (s.contexts.find? (fun x => x.graph.id == bits c 96 32) = none →
        Claims.Steps .switchContext s (Claims.answer s c 3 (Config.refusalCode 0x16 2).toNat 0)))
  ∧ (∀ (s : State) (running : Bool) (used : Nat), s.busy = some (.switch running used) → s.queueCmd = none →
    (s.quiet = false ∨ s.mgmtHalted = true → Claims.Steps .switchContext s s)
    ∧ (∀ x, s.quiet = true → s.mgmtHalted = false → s.contexts.find? (fun x => x.graph.id == bits s.headRecord 96 32) = some x →
      ∃ t, Claims.Steps .switchContext s t ∧ t.graph = some x.graph ∧ t.blocks = x.blocks ∧ Claims.Answered s t
        ∧ (∀ y ∈ t.contexts, y.graph.id ≠ x.graph.id) ∧ ∀ y ∈ t.cores, y.l1 = [] ∧ y.tlb = []))
  ∧ (∀ (s : State) (c : Nat) (g : Graph) (a : Nat), s.graph = some g → g.id = bits c 64 32 → let va := bits c 96 64
    let step := if bit c 244 then 2 ^ 25 else 2 ^ 14
    va % step = 0 → va + step ≤ 2 ^ 47 → bits c 208 32 = 1 → ptPlace s.mem g.ptroot va (bit c 244) = .entry a → a % 8 = 0 →
    Claims.PlainLines s a 8 → (bit c 244 = true → memVal s.mem a 8 % 4 ≠ 1) →
    (Claims.Command s c 0x17 3 [(64, 32), (96, 64), (160, 48), (208, 32), (240, 4), (244, 1)] → bits c 160 48 % step = 0 →
      backedRange (bits c 160 48) step = true → meet (va, step) (win0, 0x8000) = false →
      s.meetsArea (bits c 160 48) step = false → ∃ t, Claims.Steps .mapPages s t
        ∧ Claims.BytesPut s t a (leBytes (3 + bits c 240 4 * 4 + bits c 160 48) 8) ∧ (∀ x ∈ t.cores, x.tlb = [])
        ∧ Claims.Answered s t
        ∧ (t.busy = none → ∀ f ∈ t.faults, f.graph = g.id → f.cause = none → inRange f.va va step = false))
    ∧ (Claims.Command s c 0x18 3 [(64, 32), (96, 64), (208, 32), (244, 1)] → memVal s.mem a 8 % 4 = 3 →
      ∃ t, Claims.Steps .unmapPages s t ∧ Claims.BytesPut s t a (leBytes 0 8) ∧ (∀ x ∈ t.cores, x.tlb = [])
        ∧ Claims.Answered s t))
  ∧ (∀ (s : State) (c : Nat), Claims.Command s c 0x19 3 [(64, 32)] →
    ((∀ f ∈ s.faults, f.fseq ≠ bits c 64 32) →
      Claims.Steps .faultReply s (Claims.answer s c 3 (Config.refusalCode 0x19 1).toNat 0))
    ∧ (∀ f, s.faults.find? (fun f => f.fseq == bits c 64 32) = some f → s.graphId = f.graph → s.graph ≠ none →
      Claims.Steps .faultReply s (Claims.answer (State.pageRefused
        { s with faults := s.faults.filter (fun x => x.fseq != f.fseq) } (f.va / 16384)) c 0 0 0)))
  ∧ (∀ (s : State) (c image : Nat) (g : Graph) (b : Block), s.graph = some g → g.id = bits c 64 32 →
    Claims.Command s c 0x1D 3 [(64, 32), (96, 16), (112, 8), (128, 32)] → s.faultedBlock c = some (b, image) →
    (bits c 112 8 = 0 → Claims.Steps .blockControlImage s
      (Claims.answer s c 0 0 (image % 2 ^ 48 * 2 ^ 64 + b.cause % 256 * 2 ^ 112)))
    ∧ (bits c 112 8 = 1 → ∃ t, Claims.Steps .blockControlResume s t ∧ Claims.Answered s t
      ∧ t.blocks = s.blocks.map (fun x => if x.key = b.key then { x with status := .saved false image } else x))
    ∧ (bits c 112 8 = 2 → ∃ t, Claims.Steps .blockControlDiscard s t ∧ Claims.Answered s t
      ∧ t.blocks = s.blocks.filter (fun x => x.key != b.key)
      ∧ ∀ u ∈ (t.die b.die).pool, u.1 ≠ image))

/-! ## Encodings, steps and the whole machine -/

/-- DECODE AND ENCODE AGREE: a well-formed instruction decodes from its words with every field, whatever follows them; what
decodes is well formed and encodes to the words read; bits [1:0] of the first word give 1, 3, 3 or 5 words (03 R56 to R58,
R65 to R75). -/
def Obligations.EncodingRoundTrip : Prop :=
  (∀ (i : Instr) (rest : List Word), i.wellFormed = true → decodeWords (encode i ++ rest) = .ok (i, i.words))
  ∧ (∀ (ws : List Word) (i : Instr) (n : Nat), decodeWords ws = .ok (i, n) → i.wellFormed = true ∧ encode i = ws.take n)
  ∧ (∀ (w0 : Word) (rest : List Word) (i : Instr) (n : Nat), decodeWords (w0 :: rest) = .ok (i, n) →
      n = [1, 3, 3, 5].getD (w0.toNat % 4) 0 ∧ n ≤ rest.length + 1)

/-- Words written out from the encodings of the spec decode to the instructions they stand for (03 R58 to R77). -/
def Obligations.SampleWordsDecode : Prop :=
  decodeWords [0x0A101800#32] = .ok (.iaddBA { lit := none, d := 3#7, a := 4#7, b := 5#7 }, 1)
  ∧ decodeWords [0x341#32, 0x000C0401#32, 0x204#32] = .ok (.ffma {
      lit := none, imm21 := 0#21, d9 := 1#9, a9 := 2#9, b9 := 3#9, xop := 0#5, c9 := 4#9, rnd := 1#3, sat := 0#1, kmask := 0#3, mod := 0#4, order := 0#4, imm8 := 0#8 }, 3)
  ∧ decodeWords [0xFFFFF0D8#32] = .ok (.sbr { off21 := 0x1FFFFE#21 }, 1)
  ∧ decodeWords [0xFE080CB0#32] = .ok (.ldBM 4#3 { d := 1#7, a := 2#7, off7 := 0x7F#7 }, 1)
  ∧ decodeWords [0x22A1#32, 0x08000001#32, 8#32] = .ok (.bdiv {
      off21 := 4#21, a9 := 1#9, rsvd1 := 0#18, xop := 1#5, off21b := 8#21, rsvd2 := 0#11 }, 3)
  ∧ decodeWords [0xFE0808D2#32, 0x89ABCDEF#32, 0x01234567#32]
      = .ok (.saddBS { lit := some 0x0123456789ABCDEF#64, d := 1#7, a := 2#7, b := 0x7F#7 }, 3)
  ∧ decodeWords [0xFC#32] = .error (.reservedMajor 0x3F#6)

/-- Every register whose value at reset the spec gives holds it (18 R408, 20 R439, R440, R447, 04 R99), no command, fault
record or job is outstanding, nothing is loaded, and memory is canonical with nothing listed. -/
def Obligations.ResetState : Prop :=
  let s := State.reset
  Memory.wf s.mem = true ∧ s.mem = []
  ∧ s.talert = 0 ∧ s.tlimit = 0x2F8 ∧ s.csel = 0 ∧ s.cbmax = 12 ∧ s.droopcnt = 0 ∧ s.bootstage = 0
  ∧ (∀ g < 24, (s.cluster g).throttle = 0 ∧ (s.cluster g).cbias = 3 ∧ (s.cluster g).bucket = 2 ^ 20 ∧ (s.cluster g).step = 1)
  ∧ (s.die 0).cbrot = 0 ∧ (s.die 1).cbrot = 12
  ∧ s.mr = [0, 0, 0, 0, 0, 0, 0, 0] ∧ s.retcnt = [0, 0, 0, 0, 0, 0, 0, 0]
  ∧ s.faults = [] ∧ s.faultsWaiting = [] ∧ s.busy = none ∧ s.queueCmd = none ∧ s.graph = none ∧ s.codes = [] ∧ s.blocks = [] ∧ (∀ d < 2, (s.die d).jobs = [])

/-- A STEP RUNS THE DECODED INSTRUCTION. An issue turn brings its stream into focus; where the stream may issue and the
words at its PC decode, the step is exec of that instruction, the PC not yet moved; words that decode to nothing raise
ILLEGAL_OPCODE; a stream that may not issue leaves all but the flag of the turn. An issue slot of a core does the same with
the first of its candidates, which it marks as having issued, where that one issues; the turn before, that judges the
streams, changes only how they stand and what it asks of the management core. The words are what memory holds at the
translated addresses of the PC and of what follows, as many as the first one's length code says (03 R56, R57, R78; 15 R345;
19 R422; the order of the turns is entry 1). -/
def Obligations.StepRunsDecodedInstruction : Prop :=
  (∀ (s : State) (core slot : Nat) (st : Stream) (rest : List Turn) (s' : State),
    s.agenda = .issue core slot st :: rest → ({ s with agenda := rest, stalled := false } : State).focus core slot st = some s' →
    (s'.mayIssue = false → step s = .next { s' with stalled := true })
    ∧ (∀ ws i n, s'.mayIssue = true → s'.fetch = .ok ws → decodeWords ws = .ok (i, n) → step s = exec i s'.fetched)
    ∧ (∀ w0 ws e, s'.mayIssue = true → s'.fetch = .ok (w0 :: ws) → decodeWords (w0 :: ws) = .error e →
        step s = .next (s'.fetched.stopWith w0 (.trap 0x01 (if st = .lane then s'.w.exec else 0) 0 0))))
  ∧ (∀ (s s' t : State) (core x : Nat) (st : Stream) (rest : List Turn) (l : List Nat) (ws : List Word) (i : Instr) (n : Nat),
    s.agenda = .slot core st :: rest → let s0 : State := { s with agenda := rest, stalled := false }
    (s0.candidates core st = [] → step s = .next s0)
    ∧ (s0.candidates core st = x :: l → s0.focus core x st = some s' → s'.mayIssue = true → s'.fetch = .ok ws →
      decodeWords ws = .ok (i, n) → exec i s'.fetched = .next t → t.stalled = false →
      step s = .next (t.modWave core x (fun w => w.attempt st .issued))))
  ∧ (∀ (s : State) (core : Nat) (rest : List Turn), s.agenda = .ready core :: rest →
    ∃ t, step s = .next t
      ∧ t = { s with agenda := rest, stalled := false, w := t.w, waves := t.waves, mgmtPending := t.mgmtPending })
  ∧ (∀ (s s' : State) (core slot : Nat) (st : Stream), s.focus core slot st = some s' →
      s' = { s with w := s'.w, waves := s'.waves, st := st } ∧ s'.w.core = core ∧ s'.w.slot = slot
      ∧ ∀ w ∈ s'.allWaves, w ∈ s.allWaves)
  ∧ (∀ (s : State) (ws : List Word) (pa : Nat → Nat), s.w.mgmt = false → ws ≠ [] →
      ws.length = [1, 3, 3, 5].getD ((ws.headD 0#32).toNat % 4) 0 →
      (∀ k < ws.length, let va := s.w.pcOf s.st + 4 * k
        s.w.inSection s.st va = true ∧ s.pageChk va = 1 ∧ s.xlate s.w.core va permEX = .ok (pa k)
          ∧ memVal s.mem (pa k) 4 = (ws.getD k 0#32).toNat) → s.fetch = .ok ws)
  ∧ (∀ (s : State), s.fetched = { s with cores := s.fetched.cores }
      ∧ ∀ c, s.fetched.core c = { s.core c with tlb := (s.fetched.core c).tlb })
  ∧ (∀ (s : State), s.agenda = [] → s.round ≠ [] → step s = step { s with agenda := s.round })
  ∧ (∀ (s : State) (i : Instr) (rest : List Turn), s.agenda = .event i :: rest → i.isEncoded = false →
      step s = exec i { s with agenda := rest, stalled := false })

/-- THE MEMORY KEEPS ITS CANONICAL FORM over every step, from every state: addresses strictly rising and no listed byte
equal to what an unlisted one reads as (the form is the model's, entry 2). -/
def Obligations.MemoryCanonicalKept : Prop :=
  ∀ (s t : State), Memory.wf s.mem = true → step s = .next t → Memory.wf t.mem = true

/-- BEFORE ANY EFFECT. For every encoded instruction: a stream that may not issue leaves all but the flag of the turn; an
encoding that its stream or its page does not allow raises ILLEGAL_OPCODE or ILLEGAL_OPERAND, with the reason as DETAIL and
TADDR 0 (an ILLEGAL_OPCODE that the wave's state decides stands above an ILLEGAL_OPERAND of the encoding); what the
management core does not execute raises ILLEGAL_OPCODE there; and below an empty bucket every instruction of a wave without
a deadline waits (02 R22; 03 R63, R78 to R81; 17 R384; 18 R411). -/
def Obligations.NothingBeforeIssue : Prop :=
  ∀ (i : Instr) (s : State), i.isEncoded = true →
    (s.mayIssue = false → exec i s = .next { s with stalled := true })
    ∧ (∀ e0, s.stalled = false → s.mayIssue = true → s.w.mgmt = false → encFault s.st i = some e0 →
        ∃ e fl, (e = e0 ∨ ∃ m n, e0 = .operand m ∧ e = .opcode n) ∧ (s.st = .lead → fl = 0) ∧ exec i s = .next ((s.modW (fun w => { w with refused := none })).takeTrap
          { cause := (match e with | .opcode _ => 0x01 | .operand _ => 0x03), st := s.st, deferred := false, flanes := fl
            taddr := 0
            tinfo := i.word0.toNat % 2 ^ 11 + (match e with | .opcode n => n | .operand n => n) * 2048 }))
    ∧ (s.stalled = false → s.mayIssue = true → s.w.mgmt = true → mgmtAllowed i = false →
        ∃ fl, exec i s = .next (s.stopWith i.word0 (.trap 0x01 fl 0 (3 * 2048))))
    ∧ (s.stalled = false → s.mayIssue = true → s.w.mgmt = false → s.w.deadline = false → encFault s.st i = none →
        (s.cluster (clusterOf s.w.core)).bucket < 0 → (∃ x, exec i s = .next (s.stall x))
          ∨ ∃ fl n, (s.st = .lead → fl = 0) ∧ exec i s = .next (s.stopWith i.word0 (.trap 0x01 fl 0 (n * 2048))))

/-- THROTTLE (18 R415; 04 R101). With THROTTLE = n as a cycle begins, in a cycle k of a window of 8 with (k × n) mod 8 < n,
no wave of the cluster issues but deadline waves, whose issue does not depend on the throttle; and the bucket refills as in
any cycle. -/
def Obligations.ThrottledCyclesLeaveSlotsEmpty : Prop :=
  ∀ (s : State) (g : Nat), let c := s.cluster g
    g < 24 → ((c.cycle + 1) % 8 * c.throttle) % 8 < c.throttle →
    (∃ t, Claims.Steps (.chargeBucketRefill g) s t ∧ (t.cluster g).bucket = min (2 ^ 20) (c.bucket + 64 * c.step)
      ∧ (g < s.clusters.length → (t.cluster g).idle = true ∧ (t.cluster g).cycle = c.cycle + 1))
    ∧ (∀ (i : Instr) (u : State), (u.cluster g).idle = true → i.isEncoded = true → u.w.mgmt = false →
      clusterOf u.w.core = g → u.w.deadline = false → exec i u = .next { u with stalled := true })
    ∧ (∀ (x : Bool), s.w.mgmt = false → s.w.deadline = true →
      (s.modCluster g (fun c => { c with idle := x })).mayIssue = s.mayIssue
      ∧ (s.w.streamOpen s.st s.timen = true → s.mayIssue = true))

/-- `mix32` of 00 R7 on 32-bit words. -/
def Sys2Proof.Claims.mix (x : BitVec 32) : BitVec 32 :=
  let x := x ^^^ (x >>> 15)
  let x := x * 0x2C1B3C6D#32
  let x := x ^^^ (x >>> 12)
  let x := x * 0x297A2D39#32
  x ^^^ (x >>> 15)

/-- THE SIGN WORD of a block is mix32(SEED ^ (block × 0x9E3779B1)), and element l of the 32 is negated exactly when its bit
l is 1; these are the signs that HADQ applies (05 R127). -/
def Obligations.BlockSignsFlipElements : Prop :=
  (∀ (seed block : BitVec 32),
    signWord seed.toNat block.toNat = (Claims.mix (seed ^^^ (block * 0x9E3779B1#32))).toNat)
  ∧ (∀ (h : Nat) (y : List Nat) (l : Nat), l < 32 → y.getD l 0 < 2 ^ 32 →
    (applySigns h y).getD l 0 = if bit h l then y.getD l 0 ^^^ 2 ^ 31 else y.getD l 0)
  ∧ (∀ (f : XaF) (w : Wave) (act base : Nat), hadqForward f w act base = butterflies w.lanePc base (applySigns
      (signWord (f.bT 6 w ((lowestLane act w.lanes).getD 0)) ((f.cT 6 w ((lowestLane act w.lanes).getD 0) + base / 32) % 2 ^ 32))
      ((List.range 32).map (fun l => if bit act (base + l) then f.aT 0 w (base + l) else 0))))
end

