-- ==== Sys2Proof/Laws/Memory.lean ====
section
/-! SUPPORT. The laws of sparse tables and of memory: a read after a write, what a write leaves alone, and that every
operation keeps the canonical form. -/
namespace Sys2Proof.Machine

/-! ## Tables -/

variable {β : Type}

theorem mapGet_mapDel (d : β) (m : List (Nat × β)) (k j : Nat) :
    mapGet d (mapDel m k) j = if j = k then d else mapGet d m j := by
  induction m with
  | nil => simp [mapDel, mapGet]
  | cons x xs ih =>
    obtain ⟨a, v⟩ := x
    by_cases h : a = k <;> by_cases hj : a = j <;> simp_all [mapDel, mapGet]

theorem mapGet_mapIns (d : β) (m : List (Nat × β)) (k j : Nat) (v : β) (h : ∀ x ∈ m, x.1 ≠ k) :
    mapGet d (mapIns m k v) j = if j = k then v else mapGet d m j := by
  induction m with
  | nil => simp only [mapIns, mapGet]; by_cases h : k = j <;> simp [h, eq_comm]
  | cons x xs ih =>
    obtain ⟨a, b⟩ := x
    have ha : a ≠ k := h (a, b) (by simp)
    have hx : ∀ x ∈ xs, x.1 ≠ k := fun x hx => h x (by simp [hx])
    simp only [mapIns]
    split
    · by_cases hj : k = j <;> simp [mapGet, hj, eq_comm]
    · by_cases hj : a = j
      · subst hj; simp [mapGet, ha]
      · simp [mapGet, hj, ih hx]

theorem mapDel_ne (m : List (Nat × β)) (k : Nat) : ∀ x ∈ mapDel m k, x.1 ≠ k := by
  induction m with
  | nil => simp [mapDel]
  | cons x xs ih =>
    obtain ⟨a, v⟩ := x
    by_cases h : a = k
    · simpa [mapDel, h] using ih
    · intro y hy
      simp only [mapDel, h, if_false, List.mem_cons] at hy
      rcases hy with rfl | hy
      · exact h
      · exact ih y hy

/-- A read after a write of a table, at the key written and at every other. -/
@[simp] theorem mapGet_mapSet [DecidableEq β] (d : β) (m : List (Nat × β)) (k j : Nat) (v : β) :
    mapGet d (mapSet d m k v) j = if j = k then v else mapGet d m j := by
  unfold mapSet
  split
  · next h => rw [mapGet_mapDel, h]
  · rw [mapGet_mapIns _ _ _ _ _ (mapDel_ne m k), mapGet_mapDel]
    split <;> simp_all

theorem mapWfFrom_mono [DecidableEq β] (d : β) (m : List (Nat × β)) {lo lo' : Nat} (h : lo' ≤ lo)
    (hm : mapWfFrom d lo m = true) : mapWfFrom d lo' m = true := by
  cases m with
  | nil => rfl
  | cons x xs =>
    simp only [mapWfFrom, Bool.and_eq_true, decide_eq_true_eq] at hm ⊢
    exact ⟨⟨by omega, hm.1.2⟩, hm.2⟩

theorem mapWfFrom_mapDel [DecidableEq β] (d : β) (m : List (Nat × β)) (k : Nat) :
    ∀ lo, mapWfFrom d lo m = true → mapWfFrom d lo (mapDel m k) = true := by
  induction m with
  | nil => intro lo h; exact h
  | cons x xs ih =>
    intro lo h
    simp only [mapWfFrom, Bool.and_eq_true, decide_eq_true_eq] at h
    simp only [mapDel]
    split
    · exact mapWfFrom_mono d _ (by omega) (ih _ h.2)
    · simp only [mapWfFrom, Bool.and_eq_true, decide_eq_true_eq]
      exact ⟨h.1, ih _ h.2⟩

theorem mapWfFrom_mapIns [DecidableEq β] (d : β) (m : List (Nat × β)) (k : Nat) (v : β) (hv : v ≠ d)
    (hk : ∀ x ∈ m, x.1 ≠ k) :
    ∀ lo, lo ≤ k → mapWfFrom d lo m = true → mapWfFrom d lo (mapIns m k v) = true := by
  induction m with
  | nil => intro lo h _; simp [mapIns, mapWfFrom, h, hv]
  | cons x xs ih =>
    intro lo hlo h
    have hx : x.1 ≠ k := hk x (by simp)
    simp only [mapWfFrom, Bool.and_eq_true, decide_eq_true_eq] at h
    simp only [mapIns]
    split
    · simp only [mapWfFrom, Bool.and_eq_true, decide_eq_true_eq]
      exact ⟨⟨hlo, hv⟩, ⟨by omega, h.1.2⟩, h.2⟩
    · simp only [mapWfFrom, Bool.and_eq_true, decide_eq_true_eq]
      exact ⟨h.1, ih (fun y hy => hk y (by simp [hy])) _ (by omega) h.2⟩

/-- Writing a table keeps its canonical form. -/
theorem mapWf_mapSet [DecidableEq β] (d : β) (m : List (Nat × β)) (k : Nat) (v : β) (h : mapWf d m = true) :
    mapWf d (mapSet d m k v) = true := by
  unfold mapSet
  split
  · exact mapWfFrom_mapDel d m k 0 h
  · next hv => exact mapWfFrom_mapIns d _ k v hv (mapDel_ne m k) 0 (Nat.zero_le _) (mapWfFrom_mapDel d m k 0 h)

/-! ## Memory -/

/-- Writing bytes keeps the canonical form of memory. -/
theorem memory_wf_memWrite (m : List Host.Cell) (a : Nat) (bs : List Byte) (h : Memory.wf m = true) :
    Memory.wf (memWrite m a bs) = true := by
  induction bs generalizing m a with
  | nil => exact h
  | cons b rest ih => exact ih _ _ (mapWf_mapSet _ _ _ _ h)

/-- The memory after a poke is canonical when the memory before it is. -/
theorem memory_wf_poke (s : State) (a n v : Nat) (h : Memory.wf s.mem = true) : Memory.wf (s.poke a n v).mem = true :=
  memory_wf_memWrite _ _ _ h

/-- Reset memory is canonical. -/
theorem memory_wf_reset : Memory.wf State.reset.mem = true := rfl

/-- One byte written. -/
@[simp] theorem memByte_mapSet (m : List Host.Cell) (a : Nat) (b : Byte) (x : Nat) :
    memByte (mapSet memDefault m a b) x = if x = a then b else memByte m x := by
  simp [memByte]

/-- A byte after a write of bytes: the one written there, or the old one. -/
theorem memByte_memWrite (m : List Host.Cell) (a : Nat) (bs : List Byte) (x : Nat) :
    memByte (memWrite m a bs) x = if a ≤ x ∧ x < a + bs.length then bs.getD (x - a) 0#8 else memByte m x := by
  induction bs generalizing m a with
  | nil => simp [memWrite]
  | cons b rest ih =>
    rw [memWrite, ih]
    by_cases h1 : x = a
    · subst h1
      rw [if_neg (by omega), if_pos (by simp)]; simp
    · by_cases h2 : a + 1 ≤ x ∧ x < a + 1 + rest.length
      · have h3 : a ≤ x ∧ x < a + (b :: rest).length := by simp; omega
        have h4 : x - a = (x - (a + 1)) + 1 := by omega
        rw [if_pos h2, if_pos h3, h4]; simp
      · have h3 : ¬(a ≤ x ∧ x < a + (b :: rest).length) := by simp; omega
        rw [if_neg h2, if_neg h3]; simp [h1]

@[simp] theorem leBytes_length (v n : Nat) : (leBytes v n).length = n := by
  induction n generalizing v with
  | zero => rfl
  | succ n ih => simp [leBytes, ih]

/-- A poke leaves every byte outside the ones it writes. -/
theorem memByte_poke_outside (s : State) (a n v x : Nat) (h : ¬(a ≤ x ∧ x < a + n)) :
    memByte (s.poke a n v).mem x = memByte s.mem x := by
  simp [State.poke, memByte_memWrite, h]

/-! ## Registers of a wave -/

@[simp] theorem Wave.getV_setV (w : Wave) (r l x r' l' : Nat) (hl : l < 64) (hl' : l' < 64) :
    (w.setV r l x).getV r' l' = if r' = r ∧ l' = l then x % 2 ^ 32 else w.getV r' l' := by
  have h : (64 * r' + l' = 64 * r + l) ↔ (r' = r ∧ l' = l) := by omega
  simp only [Wave.getV, Wave.setV, mapGet_mapSet, h]
  split <;> simp

@[simp] theorem Wave.getS_setS (w : Wave) (i x j : Nat) :
    (w.setS i x).getS j = if j = i then x % 2 ^ 64 else w.getS j := by
  simp only [Wave.getS, Wave.setS, mapGet_mapSet]
  split <;> simp

@[simp] theorem Wave.getK_setK (w : Wave) (i x j : Nat) :
    (w.setK i x).getK j = if j = i then x % 2 ^ w.lanes else w.getK j := by
  simp only [Wave.getK, Wave.setK, mapGet_mapSet]

end Sys2Proof.Machine
end

