-- ==== Sys2Proof/Laws/State.lean ====
section
/-! SUPPORT. One lemma per field per update of a state and of a wave, true by rfl: no later proof unfolds an update. -/
namespace Sys2Proof.Machine

/-! ## Updates of a state -/

@[simp] theorem State.modW_w (s : State) (f : Wave → Wave) : (s.modW f).w = f s.w := rfl
@[simp] theorem State.modW_st (s : State) (f : Wave → Wave) : (s.modW f).st = s.st := rfl
@[simp] theorem State.modW_waves (s : State) (f : Wave → Wave) : (s.modW f).waves = s.waves := rfl
@[simp] theorem State.modW_agenda (s : State) (f : Wave → Wave) : (s.modW f).agenda = s.agenda := rfl
@[simp] theorem State.modW_stalled (s : State) (f : Wave → Wave) : (s.modW f).stalled = s.stalled := rfl
@[simp] theorem State.modW_nextId (s : State) (f : Wave → Wave) : (s.modW f).nextId = s.nextId := rfl
@[simp] theorem State.modW_fresh (s : State) (f : Wave → Wave) : (s.modW f).fresh = s.fresh := rfl
@[simp] theorem State.modW_cycle (s : State) (f : Wave → Wave) : (s.modW f).cycle = s.cycle := rfl
@[simp] theorem State.modW_mem (s : State) (f : Wave → Wave) : (s.modW f).mem = s.mem := rfl
@[simp] theorem State.modW_dir (s : State) (f : Wave → Wave) : (s.modW f).dir = s.dir := rfl
@[simp] theorem State.modW_net (s : State) (f : Wave → Wave) : (s.modW f).net = s.net := rfl
@[simp] theorem State.modW_acks (s : State) (f : Wave → Wave) : (s.modW f).acks = s.acks := rfl
@[simp] theorem State.modW_handoffs (s : State) (f : Wave → Wave) : (s.modW f).handoffs = s.handoffs := rfl
@[simp] theorem State.modW_cores (s : State) (f : Wave → Wave) : (s.modW f).cores = s.cores := rfl
@[simp] theorem State.modW_clusters (s : State) (f : Wave → Wave) : (s.modW f).clusters = s.clusters := rfl
@[simp] theorem State.modW_dies (s : State) (f : Wave → Wave) : (s.modW f).dies = s.dies := rfl
@[simp] theorem State.modW_blocks (s : State) (f : Wave → Wave) : (s.modW f).blocks = s.blocks := rfl
@[simp] theorem State.modW_graph (s : State) (f : Wave → Wave) : (s.modW f).graph = s.graph := rfl
@[simp] theorem State.modW_contexts (s : State) (f : Wave → Wave) : (s.modW f).contexts = s.contexts := rfl
@[simp] theorem State.modW_codes (s : State) (f : Wave → Wave) : (s.modW f).codes = s.codes := rfl
@[simp] theorem State.modW_mass (s : State) (f : Wave → Wave) : (s.modW f).mass = s.mass := rfl
@[simp] theorem State.modW_timen (s : State) (f : Wave → Wave) : (s.modW f).timen = s.timen := rfl
@[simp] theorem State.modW_retcnt (s : State) (f : Wave → Wave) : (s.modW f).retcnt = s.retcnt := rfl
@[simp] theorem State.modW_bootstage (s : State) (f : Wave → Wave) : (s.modW f).bootstage = s.bootstage := rfl
@[simp] theorem State.modW_talert (s : State) (f : Wave → Wave) : (s.modW f).talert = s.talert := rfl
@[simp] theorem State.modW_tlimit (s : State) (f : Wave → Wave) : (s.modW f).tlimit = s.tlimit := rfl
@[simp] theorem State.modW_csel (s : State) (f : Wave → Wave) : (s.modW f).csel = s.csel := rfl
@[simp] theorem State.modW_cbmax (s : State) (f : Wave → Wave) : (s.modW f).cbmax = s.cbmax := rfl
@[simp] theorem State.modW_droopcnt (s : State) (f : Wave → Wave) : (s.modW f).droopcnt = s.droopcnt := rfl
@[simp] theorem State.modW_mgmtIe (s : State) (f : Wave → Wave) : (s.modW f).mgmtIe = s.mgmtIe := rfl
@[simp] theorem State.modW_mgmtPending (s : State) (f : Wave → Wave) : (s.modW f).mgmtPending = s.mgmtPending := rfl
@[simp] theorem State.modW_mgmtHalted (s : State) (f : Wave → Wave) : (s.modW f).mgmtHalted = s.mgmtHalted := rfl
@[simp] theorem State.modW_mgmtMem (s : State) (f : Wave → Wave) : (s.modW f).mgmtMem = s.mgmtMem := rfl
@[simp] theorem State.modW_devstat (s : State) (f : Wave → Wave) : (s.modW f).devstat = s.devstat := rfl
@[simp] theorem State.modW_bar2base (s : State) (f : Wave → Wave) : (s.modW f).bar2base = s.bar2base := rfl
@[simp] theorem State.modW_cmdtail (s : State) (f : Wave → Wave) : (s.modW f).cmdtail = s.cmdtail := rfl
@[simp] theorem State.modW_cmdhead (s : State) (f : Wave → Wave) : (s.modW f).cmdhead = s.cmdhead := rfl
@[simp] theorem State.modW_rsptail (s : State) (f : Wave → Wave) : (s.modW f).rsptail = s.rsptail := rfl
@[simp] theorem State.modW_flttail (s : State) (f : Wave → Wave) : (s.modW f).flttail = s.flttail := rfl
@[simp] theorem State.modW_flthead (s : State) (f : Wave → Wave) : (s.modW f).flthead = s.flthead := rfl
@[simp] theorem State.modW_bar0 (s : State) (f : Wave → Wave) : (s.modW f).bar0 = s.bar0 := rfl
@[simp] theorem State.modW_msix (s : State) (f : Wave → Wave) : (s.modW f).msix = s.msix := rfl
@[simp] theorem State.modW_fseq (s : State) (f : Wave → Wave) : (s.modW f).fseq = s.fseq := rfl
@[simp] theorem State.modW_faults (s : State) (f : Wave → Wave) : (s.modW f).faults = s.faults := rfl
@[simp] theorem State.modW_faultsWaiting (s : State) (f : Wave → Wave) : (s.modW f).faultsWaiting = s.faultsWaiting := rfl
@[simp] theorem State.modW_busy (s : State) (f : Wave → Wave) : (s.modW f).busy = s.busy := rfl
@[simp] theorem State.modW_queueCmd (s : State) (f : Wave → Wave) : (s.modW f).queueCmd = s.queueCmd := rfl
@[simp] theorem State.modW_reports (s : State) (f : Wave → Wave) : (s.modW f).reports = s.reports := rfl
@[simp] theorem State.modW_sensors (s : State) (f : Wave → Wave) : (s.modW f).sensors = s.sensors := rfl
@[simp] theorem State.modW_heads (s : State) (f : Wave → Wave) : (s.modW f).heads = s.heads := rfl
@[simp] theorem State.modW_scanFb (s : State) (f : Wave → Wave) : (s.modW f).scanFb = s.scanFb := rfl
@[simp] theorem State.modW_scanPitch (s : State) (f : Wave → Wave) : (s.modW f).scanPitch = s.scanPitch := rfl
@[simp] theorem State.modW_arrayLog (s : State) (f : Wave → Wave) : (s.modW f).arrayLog = s.arrayLog := rfl
@[simp] theorem State.modW_arrayCount (s : State) (f : Wave → Wave) : (s.modW f).arrayCount = s.arrayCount := rfl
@[simp] theorem State.modW_xferLog (s : State) (f : Wave → Wave) : (s.modW f).xferLog = s.xferLog := rfl
@[simp] theorem State.modW_xferCount (s : State) (f : Wave → Wave) : (s.modW f).xferCount = s.xferCount := rfl
@[simp] theorem State.modW_saddleHalf (s : State) (f : Wave → Wave) : (s.modW f).saddleHalf = s.saddleHalf := rfl
@[simp] theorem State.modW_spares (s : State) (f : Wave → Wave) : (s.modW f).spares = s.spares := rfl
@[simp] theorem State.modW_bar2Data (s : State) (f : Wave → Wave) : (s.modW f).bar2Data = s.bar2Data := rfl
@[simp] theorem State.modW_hostDead (s : State) (f : Wave → Wave) : (s.modW f).hostDead = s.hostDead := rfl
@[simp] theorem State.modW_mr (s : State) (f : Wave → Wave) : (s.modW f).mr = s.mr := rfl
@[simp] theorem State.modW_flash (s : State) (f : Wave → Wave) : (s.modW f).flash = s.flash := rfl
@[simp] theorem State.modW_keys (s : State) (f : Wave → Wave) : (s.modW f).keys = s.keys := rfl
@[simp] theorem State.modW_nextObj (s : State) (f : Wave → Wave) : (s.modW f).nextObj = s.nextObj := rfl
@[simp] theorem State.modW_nextGraph (s : State) (f : Wave → Wave) : (s.modW f).nextGraph = s.nextGraph := rfl
@[simp] theorem State.modW_powered (s : State) (f : Wave → Wave) : (s.modW f).powered = s.powered := rfl
@[simp] theorem State.modW_stage0Head (s : State) (f : Wave → Wave) : (s.modW f).stage0Head = s.stage0Head := rfl

@[simp] theorem State.poke_w (s : State) (a n v : Nat) : (s.poke a n v).w = s.w := rfl
@[simp] theorem State.poke_st (s : State) (a n v : Nat) : (s.poke a n v).st = s.st := rfl
@[simp] theorem State.poke_waves (s : State) (a n v : Nat) : (s.poke a n v).waves = s.waves := rfl
@[simp] theorem State.poke_agenda (s : State) (a n v : Nat) : (s.poke a n v).agenda = s.agenda := rfl
@[simp] theorem State.poke_stalled (s : State) (a n v : Nat) : (s.poke a n v).stalled = s.stalled := rfl
@[simp] theorem State.poke_nextId (s : State) (a n v : Nat) : (s.poke a n v).nextId = s.nextId := rfl
@[simp] theorem State.poke_fresh (s : State) (a n v : Nat) : (s.poke a n v).fresh = s.fresh := rfl
@[simp] theorem State.poke_cycle (s : State) (a n v : Nat) : (s.poke a n v).cycle = s.cycle := rfl
@[simp] theorem State.poke_mem (s : State) (a n v : Nat) : (s.poke a n v).mem = memWrite s.mem a (leBytes v n) := rfl
@[simp] theorem State.poke_dir (s : State) (a n v : Nat) : (s.poke a n v).dir = s.dir := rfl
@[simp] theorem State.poke_net (s : State) (a n v : Nat) : (s.poke a n v).net = s.net := rfl
@[simp] theorem State.poke_acks (s : State) (a n v : Nat) : (s.poke a n v).acks = s.acks := rfl
@[simp] theorem State.poke_handoffs (s : State) (a n v : Nat) : (s.poke a n v).handoffs = s.handoffs := rfl
@[simp] theorem State.poke_cores (s : State) (a n v : Nat) : (s.poke a n v).cores = s.cores := rfl
@[simp] theorem State.poke_clusters (s : State) (a n v : Nat) : (s.poke a n v).clusters = s.clusters := rfl
@[simp] theorem State.poke_dies (s : State) (a n v : Nat) : (s.poke a n v).dies = s.dies := rfl
@[simp] theorem State.poke_blocks (s : State) (a n v : Nat) : (s.poke a n v).blocks = s.blocks := rfl
@[simp] theorem State.poke_graph (s : State) (a n v : Nat) : (s.poke a n v).graph = s.graph := rfl
@[simp] theorem State.poke_contexts (s : State) (a n v : Nat) : (s.poke a n v).contexts = s.contexts := rfl
@[simp] theorem State.poke_codes (s : State) (a n v : Nat) : (s.poke a n v).codes = s.codes := rfl
@[simp] theorem State.poke_mass (s : State) (a n v : Nat) : (s.poke a n v).mass = s.mass := rfl
@[simp] theorem State.poke_timen (s : State) (a n v : Nat) : (s.poke a n v).timen = s.timen := rfl
@[simp] theorem State.poke_retcnt (s : State) (a n v : Nat) : (s.poke a n v).retcnt = s.retcnt := rfl
@[simp] theorem State.poke_bootstage (s : State) (a n v : Nat) : (s.poke a n v).bootstage = s.bootstage := rfl
@[simp] theorem State.poke_talert (s : State) (a n v : Nat) : (s.poke a n v).talert = s.talert := rfl
@[simp] theorem State.poke_tlimit (s : State) (a n v : Nat) : (s.poke a n v).tlimit = s.tlimit := rfl
@[simp] theorem State.poke_csel (s : State) (a n v : Nat) : (s.poke a n v).csel = s.csel := rfl
@[simp] theorem State.poke_cbmax (s : State) (a n v : Nat) : (s.poke a n v).cbmax = s.cbmax := rfl
@[simp] theorem State.poke_droopcnt (s : State) (a n v : Nat) : (s.poke a n v).droopcnt = s.droopcnt := rfl
@[simp] theorem State.poke_mgmtIe (s : State) (a n v : Nat) : (s.poke a n v).mgmtIe = s.mgmtIe := rfl
@[simp] theorem State.poke_mgmtPending (s : State) (a n v : Nat) : (s.poke a n v).mgmtPending = s.mgmtPending := rfl
@[simp] theorem State.poke_mgmtHalted (s : State) (a n v : Nat) : (s.poke a n v).mgmtHalted = s.mgmtHalted := rfl
@[simp] theorem State.poke_mgmtMem (s : State) (a n v : Nat) : (s.poke a n v).mgmtMem = s.mgmtMem := rfl
@[simp] theorem State.poke_devstat (s : State) (a n v : Nat) : (s.poke a n v).devstat = s.devstat := rfl
@[simp] theorem State.poke_bar2base (s : State) (a n v : Nat) : (s.poke a n v).bar2base = s.bar2base := rfl
@[simp] theorem State.poke_cmdtail (s : State) (a n v : Nat) : (s.poke a n v).cmdtail = s.cmdtail := rfl
@[simp] theorem State.poke_cmdhead (s : State) (a n v : Nat) : (s.poke a n v).cmdhead = s.cmdhead := rfl
@[simp] theorem State.poke_rsptail (s : State) (a n v : Nat) : (s.poke a n v).rsptail = s.rsptail := rfl
@[simp] theorem State.poke_flttail (s : State) (a n v : Nat) : (s.poke a n v).flttail = s.flttail := rfl
@[simp] theorem State.poke_flthead (s : State) (a n v : Nat) : (s.poke a n v).flthead = s.flthead := rfl
@[simp] theorem State.poke_bar0 (s : State) (a n v : Nat) : (s.poke a n v).bar0 = s.bar0 := rfl
@[simp] theorem State.poke_msix (s : State) (a n v : Nat) : (s.poke a n v).msix = s.msix := rfl
@[simp] theorem State.poke_fseq (s : State) (a n v : Nat) : (s.poke a n v).fseq = s.fseq := rfl
@[simp] theorem State.poke_faults (s : State) (a n v : Nat) : (s.poke a n v).faults = s.faults := rfl
@[simp] theorem State.poke_faultsWaiting (s : State) (a n v : Nat) : (s.poke a n v).faultsWaiting = s.faultsWaiting := rfl
@[simp] theorem State.poke_busy (s : State) (a n v : Nat) : (s.poke a n v).busy = s.busy := rfl
@[simp] theorem State.poke_queueCmd (s : State) (a n v : Nat) : (s.poke a n v).queueCmd = s.queueCmd := rfl
@[simp] theorem State.poke_reports (s : State) (a n v : Nat) : (s.poke a n v).reports = s.reports := rfl
@[simp] theorem State.poke_sensors (s : State) (a n v : Nat) : (s.poke a n v).sensors = s.sensors := rfl
@[simp] theorem State.poke_heads (s : State) (a n v : Nat) : (s.poke a n v).heads = s.heads := rfl
@[simp] theorem State.poke_scanFb (s : State) (a n v : Nat) : (s.poke a n v).scanFb = s.scanFb := rfl
@[simp] theorem State.poke_scanPitch (s : State) (a n v : Nat) : (s.poke a n v).scanPitch = s.scanPitch := rfl
@[simp] theorem State.poke_arrayLog (s : State) (a n v : Nat) : (s.poke a n v).arrayLog = s.arrayLog := rfl
@[simp] theorem State.poke_arrayCount (s : State) (a n v : Nat) : (s.poke a n v).arrayCount = s.arrayCount := rfl
@[simp] theorem State.poke_xferLog (s : State) (a n v : Nat) : (s.poke a n v).xferLog = s.xferLog := rfl
@[simp] theorem State.poke_xferCount (s : State) (a n v : Nat) : (s.poke a n v).xferCount = s.xferCount := rfl
@[simp] theorem State.poke_saddleHalf (s : State) (a n v : Nat) : (s.poke a n v).saddleHalf = s.saddleHalf := rfl
@[simp] theorem State.poke_spares (s : State) (a n v : Nat) : (s.poke a n v).spares = s.spares := rfl
@[simp] theorem State.poke_bar2Data (s : State) (a n v : Nat) : (s.poke a n v).bar2Data = s.bar2Data := rfl
@[simp] theorem State.poke_hostDead (s : State) (a n v : Nat) : (s.poke a n v).hostDead = s.hostDead := rfl
@[simp] theorem State.poke_mr (s : State) (a n v : Nat) : (s.poke a n v).mr = s.mr := rfl
@[simp] theorem State.poke_flash (s : State) (a n v : Nat) : (s.poke a n v).flash = s.flash := rfl
@[simp] theorem State.poke_keys (s : State) (a n v : Nat) : (s.poke a n v).keys = s.keys := rfl
@[simp] theorem State.poke_nextObj (s : State) (a n v : Nat) : (s.poke a n v).nextObj = s.nextObj := rfl
@[simp] theorem State.poke_nextGraph (s : State) (a n v : Nat) : (s.poke a n v).nextGraph = s.nextGraph := rfl
@[simp] theorem State.poke_powered (s : State) (a n v : Nat) : (s.poke a n v).powered = s.powered := rfl
@[simp] theorem State.poke_stage0Head (s : State) (a n v : Nat) : (s.poke a n v).stage0Head = s.stage0Head := rfl

@[simp] theorem State.modCore_w (s : State) (c : Nat) (f : Core → Core) : (s.modCore c f).w = s.w := rfl
@[simp] theorem State.modCore_st (s : State) (c : Nat) (f : Core → Core) : (s.modCore c f).st = s.st := rfl
@[simp] theorem State.modCore_waves (s : State) (c : Nat) (f : Core → Core) : (s.modCore c f).waves = s.waves := rfl
@[simp] theorem State.modCore_agenda (s : State) (c : Nat) (f : Core → Core) : (s.modCore c f).agenda = s.agenda := rfl
@[simp] theorem State.modCore_stalled (s : State) (c : Nat) (f : Core → Core) : (s.modCore c f).stalled = s.stalled := rfl
@[simp] theorem State.modCore_nextId (s : State) (c : Nat) (f : Core → Core) : (s.modCore c f).nextId = s.nextId := rfl
@[simp] theorem State.modCore_fresh (s : State) (c : Nat) (f : Core → Core) : (s.modCore c f).fresh = s.fresh := rfl
@[simp] theorem State.modCore_cycle (s : State) (c : Nat) (f : Core → Core) : (s.modCore c f).cycle = s.cycle := rfl
@[simp] theorem State.modCore_mem (s : State) (c : Nat) (f : Core → Core) : (s.modCore c f).mem = s.mem := rfl
@[simp] theorem State.modCore_dir (s : State) (c : Nat) (f : Core → Core) : (s.modCore c f).dir = s.dir := rfl
@[simp] theorem State.modCore_net (s : State) (c : Nat) (f : Core → Core) : (s.modCore c f).net = s.net := rfl
@[simp] theorem State.modCore_acks (s : State) (c : Nat) (f : Core → Core) : (s.modCore c f).acks = s.acks := rfl
@[simp] theorem State.modCore_handoffs (s : State) (c : Nat) (f : Core → Core) : (s.modCore c f).handoffs = s.handoffs := rfl
@[simp] theorem State.modCore_cores (s : State) (c : Nat) (f : Core → Core) : (s.modCore c f).cores = modAt s.cores c f := rfl
@[simp] theorem State.modCore_clusters (s : State) (c : Nat) (f : Core → Core) : (s.modCore c f).clusters = s.clusters := rfl
@[simp] theorem State.modCore_dies (s : State) (c : Nat) (f : Core → Core) : (s.modCore c f).dies = s.dies := rfl
@[simp] theorem State.modCore_blocks (s : State) (c : Nat) (f : Core → Core) : (s.modCore c f).blocks = s.blocks := rfl
@[simp] theorem State.modCore_graph (s : State) (c : Nat) (f : Core → Core) : (s.modCore c f).graph = s.graph := rfl
@[simp] theorem State.modCore_contexts (s : State) (c : Nat) (f : Core → Core) : (s.modCore c f).contexts = s.contexts := rfl
@[simp] theorem State.modCore_codes (s : State) (c : Nat) (f : Core → Core) : (s.modCore c f).codes = s.codes := rfl
@[simp] theorem State.modCore_mass (s : State) (c : Nat) (f : Core → Core) : (s.modCore c f).mass = s.mass := rfl
@[simp] theorem State.modCore_timen (s : State) (c : Nat) (f : Core → Core) : (s.modCore c f).timen = s.timen := rfl
@[simp] theorem State.modCore_retcnt (s : State) (c : Nat) (f : Core → Core) : (s.modCore c f).retcnt = s.retcnt := rfl
@[simp] theorem State.modCore_bootstage (s : State) (c : Nat) (f : Core → Core) : (s.modCore c f).bootstage = s.bootstage := rfl
@[simp] theorem State.modCore_talert (s : State) (c : Nat) (f : Core → Core) : (s.modCore c f).talert = s.talert := rfl
@[simp] theorem State.modCore_tlimit (s : State) (c : Nat) (f : Core → Core) : (s.modCore c f).tlimit = s.tlimit := rfl
@[simp] theorem State.modCore_csel (s : State) (c : Nat) (f : Core → Core) : (s.modCore c f).csel = s.csel := rfl
@[simp] theorem State.modCore_cbmax (s : State) (c : Nat) (f : Core → Core) : (s.modCore c f).cbmax = s.cbmax := rfl
@[simp] theorem State.modCore_droopcnt (s : State) (c : Nat) (f : Core → Core) : (s.modCore c f).droopcnt = s.droopcnt := rfl
@[simp] theorem State.modCore_mgmtIe (s : State) (c : Nat) (f : Core → Core) : (s.modCore c f).mgmtIe = s.mgmtIe := rfl
@[simp] theorem State.modCore_mgmtPending (s : State) (c : Nat) (f : Core → Core) : (s.modCore c f).mgmtPending = s.mgmtPending := rfl
@[simp] theorem State.modCore_mgmtHalted (s : State) (c : Nat) (f : Core → Core) : (s.modCore c f).mgmtHalted = s.mgmtHalted := rfl
@[simp] theorem State.modCore_mgmtMem (s : State) (c : Nat) (f : Core → Core) : (s.modCore c f).mgmtMem = s.mgmtMem := rfl
@[simp] theorem State.modCore_devstat (s : State) (c : Nat) (f : Core → Core) : (s.modCore c f).devstat = s.devstat := rfl
@[simp] theorem State.modCore_bar2base (s : State) (c : Nat) (f : Core → Core) : (s.modCore c f).bar2base = s.bar2base := rfl
@[simp] theorem State.modCore_cmdtail (s : State) (c : Nat) (f : Core → Core) : (s.modCore c f).cmdtail = s.cmdtail := rfl
@[simp] theorem State.modCore_cmdhead (s : State) (c : Nat) (f : Core → Core) : (s.modCore c f).cmdhead = s.cmdhead := rfl
@[simp] theorem State.modCore_rsptail (s : State) (c : Nat) (f : Core → Core) : (s.modCore c f).rsptail = s.rsptail := rfl
@[simp] theorem State.modCore_flttail (s : State) (c : Nat) (f : Core → Core) : (s.modCore c f).flttail = s.flttail := rfl
@[simp] theorem State.modCore_flthead (s : State) (c : Nat) (f : Core → Core) : (s.modCore c f).flthead = s.flthead := rfl
@[simp] theorem State.modCore_bar0 (s : State) (c : Nat) (f : Core → Core) : (s.modCore c f).bar0 = s.bar0 := rfl
@[simp] theorem State.modCore_msix (s : State) (c : Nat) (f : Core → Core) : (s.modCore c f).msix = s.msix := rfl
@[simp] theorem State.modCore_fseq (s : State) (c : Nat) (f : Core → Core) : (s.modCore c f).fseq = s.fseq := rfl
@[simp] theorem State.modCore_faults (s : State) (c : Nat) (f : Core → Core) : (s.modCore c f).faults = s.faults := rfl
@[simp] theorem State.modCore_faultsWaiting (s : State) (c : Nat) (f : Core → Core) : (s.modCore c f).faultsWaiting = s.faultsWaiting := rfl
@[simp] theorem State.modCore_busy (s : State) (c : Nat) (f : Core → Core) : (s.modCore c f).busy = s.busy := rfl
@[simp] theorem State.modCore_queueCmd (s : State) (c : Nat) (f : Core → Core) : (s.modCore c f).queueCmd = s.queueCmd := rfl
@[simp] theorem State.modCore_reports (s : State) (c : Nat) (f : Core → Core) : (s.modCore c f).reports = s.reports := rfl
@[simp] theorem State.modCore_sensors (s : State) (c : Nat) (f : Core → Core) : (s.modCore c f).sensors = s.sensors := rfl
@[simp] theorem State.modCore_heads (s : State) (c : Nat) (f : Core → Core) : (s.modCore c f).heads = s.heads := rfl
@[simp] theorem State.modCore_scanFb (s : State) (c : Nat) (f : Core → Core) : (s.modCore c f).scanFb = s.scanFb := rfl
@[simp] theorem State.modCore_scanPitch (s : State) (c : Nat) (f : Core → Core) : (s.modCore c f).scanPitch = s.scanPitch := rfl
@[simp] theorem State.modCore_arrayLog (s : State) (c : Nat) (f : Core → Core) : (s.modCore c f).arrayLog = s.arrayLog := rfl
@[simp] theorem State.modCore_arrayCount (s : State) (c : Nat) (f : Core → Core) : (s.modCore c f).arrayCount = s.arrayCount := rfl
@[simp] theorem State.modCore_xferLog (s : State) (c : Nat) (f : Core → Core) : (s.modCore c f).xferLog = s.xferLog := rfl
@[simp] theorem State.modCore_xferCount (s : State) (c : Nat) (f : Core → Core) : (s.modCore c f).xferCount = s.xferCount := rfl
@[simp] theorem State.modCore_saddleHalf (s : State) (c : Nat) (f : Core → Core) : (s.modCore c f).saddleHalf = s.saddleHalf := rfl
@[simp] theorem State.modCore_spares (s : State) (c : Nat) (f : Core → Core) : (s.modCore c f).spares = s.spares := rfl
@[simp] theorem State.modCore_bar2Data (s : State) (c : Nat) (f : Core → Core) : (s.modCore c f).bar2Data = s.bar2Data := rfl
@[simp] theorem State.modCore_hostDead (s : State) (c : Nat) (f : Core → Core) : (s.modCore c f).hostDead = s.hostDead := rfl
@[simp] theorem State.modCore_mr (s : State) (c : Nat) (f : Core → Core) : (s.modCore c f).mr = s.mr := rfl
@[simp] theorem State.modCore_flash (s : State) (c : Nat) (f : Core → Core) : (s.modCore c f).flash = s.flash := rfl
@[simp] theorem State.modCore_keys (s : State) (c : Nat) (f : Core → Core) : (s.modCore c f).keys = s.keys := rfl
@[simp] theorem State.modCore_nextObj (s : State) (c : Nat) (f : Core → Core) : (s.modCore c f).nextObj = s.nextObj := rfl
@[simp] theorem State.modCore_nextGraph (s : State) (c : Nat) (f : Core → Core) : (s.modCore c f).nextGraph = s.nextGraph := rfl
@[simp] theorem State.modCore_powered (s : State) (c : Nat) (f : Core → Core) : (s.modCore c f).powered = s.powered := rfl
@[simp] theorem State.modCore_stage0Head (s : State) (c : Nat) (f : Core → Core) : (s.modCore c f).stage0Head = s.stage0Head := rfl

@[simp] theorem State.modCluster_w (s : State) (g : Nat) (f : Cluster → Cluster) : (s.modCluster g f).w = s.w := rfl
@[simp] theorem State.modCluster_st (s : State) (g : Nat) (f : Cluster → Cluster) : (s.modCluster g f).st = s.st := rfl
@[simp] theorem State.modCluster_waves (s : State) (g : Nat) (f : Cluster → Cluster) : (s.modCluster g f).waves = s.waves := rfl
@[simp] theorem State.modCluster_agenda (s : State) (g : Nat) (f : Cluster → Cluster) : (s.modCluster g f).agenda = s.agenda := rfl
@[simp] theorem State.modCluster_stalled (s : State) (g : Nat) (f : Cluster → Cluster) : (s.modCluster g f).stalled = s.stalled := rfl
@[simp] theorem State.modCluster_nextId (s : State) (g : Nat) (f : Cluster → Cluster) : (s.modCluster g f).nextId = s.nextId := rfl
@[simp] theorem State.modCluster_fresh (s : State) (g : Nat) (f : Cluster → Cluster) : (s.modCluster g f).fresh = s.fresh := rfl
@[simp] theorem State.modCluster_cycle (s : State) (g : Nat) (f : Cluster → Cluster) : (s.modCluster g f).cycle = s.cycle := rfl
@[simp] theorem State.modCluster_mem (s : State) (g : Nat) (f : Cluster → Cluster) : (s.modCluster g f).mem = s.mem := rfl
@[simp] theorem State.modCluster_dir (s : State) (g : Nat) (f : Cluster → Cluster) : (s.modCluster g f).dir = s.dir := rfl
@[simp] theorem State.modCluster_net (s : State) (g : Nat) (f : Cluster → Cluster) : (s.modCluster g f).net = s.net := rfl
@[simp] theorem State.modCluster_acks (s : State) (g : Nat) (f : Cluster → Cluster) : (s.modCluster g f).acks = s.acks := rfl
@[simp] theorem State.modCluster_handoffs (s : State) (g : Nat) (f : Cluster → Cluster) : (s.modCluster g f).handoffs = s.handoffs := rfl
@[simp] theorem State.modCluster_cores (s : State) (g : Nat) (f : Cluster → Cluster) : (s.modCluster g f).cores = s.cores := rfl
@[simp] theorem State.modCluster_clusters (s : State) (g : Nat) (f : Cluster → Cluster) : (s.modCluster g f).clusters = modAt s.clusters g f := rfl
@[simp] theorem State.modCluster_dies (s : State) (g : Nat) (f : Cluster → Cluster) : (s.modCluster g f).dies = s.dies := rfl
@[simp] theorem State.modCluster_blocks (s : State) (g : Nat) (f : Cluster → Cluster) : (s.modCluster g f).blocks = s.blocks := rfl
@[simp] theorem State.modCluster_graph (s : State) (g : Nat) (f : Cluster → Cluster) : (s.modCluster g f).graph = s.graph := rfl
@[simp] theorem State.modCluster_contexts (s : State) (g : Nat) (f : Cluster → Cluster) : (s.modCluster g f).contexts = s.contexts := rfl
@[simp] theorem State.modCluster_codes (s : State) (g : Nat) (f : Cluster → Cluster) : (s.modCluster g f).codes = s.codes := rfl
@[simp] theorem State.modCluster_mass (s : State) (g : Nat) (f : Cluster → Cluster) : (s.modCluster g f).mass = s.mass := rfl
@[simp] theorem State.modCluster_timen (s : State) (g : Nat) (f : Cluster → Cluster) : (s.modCluster g f).timen = s.timen := rfl
@[simp] theorem State.modCluster_retcnt (s : State) (g : Nat) (f : Cluster → Cluster) : (s.modCluster g f).retcnt = s.retcnt := rfl
@[simp] theorem State.modCluster_bootstage (s : State) (g : Nat) (f : Cluster → Cluster) : (s.modCluster g f).bootstage = s.bootstage := rfl
@[simp] theorem State.modCluster_talert (s : State) (g : Nat) (f : Cluster → Cluster) : (s.modCluster g f).talert = s.talert := rfl
@[simp] theorem State.modCluster_tlimit (s : State) (g : Nat) (f : Cluster → Cluster) : (s.modCluster g f).tlimit = s.tlimit := rfl
@[simp] theorem State.modCluster_csel (s : State) (g : Nat) (f : Cluster → Cluster) : (s.modCluster g f).csel = s.csel := rfl
@[simp] theorem State.modCluster_cbmax (s : State) (g : Nat) (f : Cluster → Cluster) : (s.modCluster g f).cbmax = s.cbmax := rfl
@[simp] theorem State.modCluster_droopcnt (s : State) (g : Nat) (f : Cluster → Cluster) : (s.modCluster g f).droopcnt = s.droopcnt := rfl
@[simp] theorem State.modCluster_mgmtIe (s : State) (g : Nat) (f : Cluster → Cluster) : (s.modCluster g f).mgmtIe = s.mgmtIe := rfl
@[simp] theorem State.modCluster_mgmtPending (s : State) (g : Nat) (f : Cluster → Cluster) : (s.modCluster g f).mgmtPending = s.mgmtPending := rfl
@[simp] theorem State.modCluster_mgmtHalted (s : State) (g : Nat) (f : Cluster → Cluster) : (s.modCluster g f).mgmtHalted = s.mgmtHalted := rfl
@[simp] theorem State.modCluster_mgmtMem (s : State) (g : Nat) (f : Cluster → Cluster) : (s.modCluster g f).mgmtMem = s.mgmtMem := rfl
@[simp] theorem State.modCluster_devstat (s : State) (g : Nat) (f : Cluster → Cluster) : (s.modCluster g f).devstat = s.devstat := rfl
@[simp] theorem State.modCluster_bar2base (s : State) (g : Nat) (f : Cluster → Cluster) : (s.modCluster g f).bar2base = s.bar2base := rfl
@[simp] theorem State.modCluster_cmdtail (s : State) (g : Nat) (f : Cluster → Cluster) : (s.modCluster g f).cmdtail = s.cmdtail := rfl
@[simp] theorem State.modCluster_cmdhead (s : State) (g : Nat) (f : Cluster → Cluster) : (s.modCluster g f).cmdhead = s.cmdhead := rfl
@[simp] theorem State.modCluster_rsptail (s : State) (g : Nat) (f : Cluster → Cluster) : (s.modCluster g f).rsptail = s.rsptail := rfl
@[simp] theorem State.modCluster_flttail (s : State) (g : Nat) (f : Cluster → Cluster) : (s.modCluster g f).flttail = s.flttail := rfl
@[simp] theorem State.modCluster_flthead (s : State) (g : Nat) (f : Cluster → Cluster) : (s.modCluster g f).flthead = s.flthead := rfl
@[simp] theorem State.modCluster_bar0 (s : State) (g : Nat) (f : Cluster → Cluster) : (s.modCluster g f).bar0 = s.bar0 := rfl
@[simp] theorem State.modCluster_msix (s : State) (g : Nat) (f : Cluster → Cluster) : (s.modCluster g f).msix = s.msix := rfl
@[simp] theorem State.modCluster_fseq (s : State) (g : Nat) (f : Cluster → Cluster) : (s.modCluster g f).fseq = s.fseq := rfl
@[simp] theorem State.modCluster_faults (s : State) (g : Nat) (f : Cluster → Cluster) : (s.modCluster g f).faults = s.faults := rfl
@[simp] theorem State.modCluster_faultsWaiting (s : State) (g : Nat) (f : Cluster → Cluster) : (s.modCluster g f).faultsWaiting = s.faultsWaiting := rfl
@[simp] theorem State.modCluster_busy (s : State) (g : Nat) (f : Cluster → Cluster) : (s.modCluster g f).busy = s.busy := rfl
@[simp] theorem State.modCluster_queueCmd (s : State) (g : Nat) (f : Cluster → Cluster) : (s.modCluster g f).queueCmd = s.queueCmd := rfl
@[simp] theorem State.modCluster_reports (s : State) (g : Nat) (f : Cluster → Cluster) : (s.modCluster g f).reports = s.reports := rfl
@[simp] theorem State.modCluster_sensors (s : State) (g : Nat) (f : Cluster → Cluster) : (s.modCluster g f).sensors = s.sensors := rfl
@[simp] theorem State.modCluster_heads (s : State) (g : Nat) (f : Cluster → Cluster) : (s.modCluster g f).heads = s.heads := rfl
@[simp] theorem State.modCluster_scanFb (s : State) (g : Nat) (f : Cluster → Cluster) : (s.modCluster g f).scanFb = s.scanFb := rfl
@[simp] theorem State.modCluster_scanPitch (s : State) (g : Nat) (f : Cluster → Cluster) : (s.modCluster g f).scanPitch = s.scanPitch := rfl
@[simp] theorem State.modCluster_arrayLog (s : State) (g : Nat) (f : Cluster → Cluster) : (s.modCluster g f).arrayLog = s.arrayLog := rfl
@[simp] theorem State.modCluster_arrayCount (s : State) (g : Nat) (f : Cluster → Cluster) : (s.modCluster g f).arrayCount = s.arrayCount := rfl
@[simp] theorem State.modCluster_xferLog (s : State) (g : Nat) (f : Cluster → Cluster) : (s.modCluster g f).xferLog = s.xferLog := rfl
@[simp] theorem State.modCluster_xferCount (s : State) (g : Nat) (f : Cluster → Cluster) : (s.modCluster g f).xferCount = s.xferCount := rfl
@[simp] theorem State.modCluster_saddleHalf (s : State) (g : Nat) (f : Cluster → Cluster) : (s.modCluster g f).saddleHalf = s.saddleHalf := rfl
@[simp] theorem State.modCluster_spares (s : State) (g : Nat) (f : Cluster → Cluster) : (s.modCluster g f).spares = s.spares := rfl
@[simp] theorem State.modCluster_bar2Data (s : State) (g : Nat) (f : Cluster → Cluster) : (s.modCluster g f).bar2Data = s.bar2Data := rfl
@[simp] theorem State.modCluster_hostDead (s : State) (g : Nat) (f : Cluster → Cluster) : (s.modCluster g f).hostDead = s.hostDead := rfl
@[simp] theorem State.modCluster_mr (s : State) (g : Nat) (f : Cluster → Cluster) : (s.modCluster g f).mr = s.mr := rfl
@[simp] theorem State.modCluster_flash (s : State) (g : Nat) (f : Cluster → Cluster) : (s.modCluster g f).flash = s.flash := rfl
@[simp] theorem State.modCluster_keys (s : State) (g : Nat) (f : Cluster → Cluster) : (s.modCluster g f).keys = s.keys := rfl
@[simp] theorem State.modCluster_nextObj (s : State) (g : Nat) (f : Cluster → Cluster) : (s.modCluster g f).nextObj = s.nextObj := rfl
@[simp] theorem State.modCluster_nextGraph (s : State) (g : Nat) (f : Cluster → Cluster) : (s.modCluster g f).nextGraph = s.nextGraph := rfl
@[simp] theorem State.modCluster_powered (s : State) (g : Nat) (f : Cluster → Cluster) : (s.modCluster g f).powered = s.powered := rfl
@[simp] theorem State.modCluster_stage0Head (s : State) (g : Nat) (f : Cluster → Cluster) : (s.modCluster g f).stage0Head = s.stage0Head := rfl

@[simp] theorem State.modDie_w (s : State) (d : Nat) (f : Die → Die) : (s.modDie d f).w = s.w := rfl
@[simp] theorem State.modDie_st (s : State) (d : Nat) (f : Die → Die) : (s.modDie d f).st = s.st := rfl
@[simp] theorem State.modDie_waves (s : State) (d : Nat) (f : Die → Die) : (s.modDie d f).waves = s.waves := rfl
@[simp] theorem State.modDie_agenda (s : State) (d : Nat) (f : Die → Die) : (s.modDie d f).agenda = s.agenda := rfl
@[simp] theorem State.modDie_stalled (s : State) (d : Nat) (f : Die → Die) : (s.modDie d f).stalled = s.stalled := rfl
@[simp] theorem State.modDie_nextId (s : State) (d : Nat) (f : Die → Die) : (s.modDie d f).nextId = s.nextId := rfl
@[simp] theorem State.modDie_fresh (s : State) (d : Nat) (f : Die → Die) : (s.modDie d f).fresh = s.fresh := rfl
@[simp] theorem State.modDie_cycle (s : State) (d : Nat) (f : Die → Die) : (s.modDie d f).cycle = s.cycle := rfl
@[simp] theorem State.modDie_mem (s : State) (d : Nat) (f : Die → Die) : (s.modDie d f).mem = s.mem := rfl
@[simp] theorem State.modDie_dir (s : State) (d : Nat) (f : Die → Die) : (s.modDie d f).dir = s.dir := rfl
@[simp] theorem State.modDie_net (s : State) (d : Nat) (f : Die → Die) : (s.modDie d f).net = s.net := rfl
@[simp] theorem State.modDie_acks (s : State) (d : Nat) (f : Die → Die) : (s.modDie d f).acks = s.acks := rfl
@[simp] theorem State.modDie_handoffs (s : State) (d : Nat) (f : Die → Die) : (s.modDie d f).handoffs = s.handoffs := rfl
@[simp] theorem State.modDie_cores (s : State) (d : Nat) (f : Die → Die) : (s.modDie d f).cores = s.cores := rfl
@[simp] theorem State.modDie_clusters (s : State) (d : Nat) (f : Die → Die) : (s.modDie d f).clusters = s.clusters := rfl
@[simp] theorem State.modDie_dies (s : State) (d : Nat) (f : Die → Die) : (s.modDie d f).dies = modAt s.dies d f := rfl
@[simp] theorem State.modDie_blocks (s : State) (d : Nat) (f : Die → Die) : (s.modDie d f).blocks = s.blocks := rfl
@[simp] theorem State.modDie_graph (s : State) (d : Nat) (f : Die → Die) : (s.modDie d f).graph = s.graph := rfl
@[simp] theorem State.modDie_contexts (s : State) (d : Nat) (f : Die → Die) : (s.modDie d f).contexts = s.contexts := rfl
@[simp] theorem State.modDie_codes (s : State) (d : Nat) (f : Die → Die) : (s.modDie d f).codes = s.codes := rfl
@[simp] theorem State.modDie_mass (s : State) (d : Nat) (f : Die → Die) : (s.modDie d f).mass = s.mass := rfl
@[simp] theorem State.modDie_timen (s : State) (d : Nat) (f : Die → Die) : (s.modDie d f).timen = s.timen := rfl
@[simp] theorem State.modDie_retcnt (s : State) (d : Nat) (f : Die → Die) : (s.modDie d f).retcnt = s.retcnt := rfl
@[simp] theorem State.modDie_bootstage (s : State) (d : Nat) (f : Die → Die) : (s.modDie d f).bootstage = s.bootstage := rfl
@[simp] theorem State.modDie_talert (s : State) (d : Nat) (f : Die → Die) : (s.modDie d f).talert = s.talert := rfl
@[simp] theorem State.modDie_tlimit (s : State) (d : Nat) (f : Die → Die) : (s.modDie d f).tlimit = s.tlimit := rfl
@[simp] theorem State.modDie_csel (s : State) (d : Nat) (f : Die → Die) : (s.modDie d f).csel = s.csel := rfl
@[simp] theorem State.modDie_cbmax (s : State) (d : Nat) (f : Die → Die) : (s.modDie d f).cbmax = s.cbmax := rfl
@[simp] theorem State.modDie_droopcnt (s : State) (d : Nat) (f : Die → Die) : (s.modDie d f).droopcnt = s.droopcnt := rfl
@[simp] theorem State.modDie_mgmtIe (s : State) (d : Nat) (f : Die → Die) : (s.modDie d f).mgmtIe = s.mgmtIe := rfl
@[simp] theorem State.modDie_mgmtPending (s : State) (d : Nat) (f : Die → Die) : (s.modDie d f).mgmtPending = s.mgmtPending := rfl
@[simp] theorem State.modDie_mgmtHalted (s : State) (d : Nat) (f : Die → Die) : (s.modDie d f).mgmtHalted = s.mgmtHalted := rfl
@[simp] theorem State.modDie_mgmtMem (s : State) (d : Nat) (f : Die → Die) : (s.modDie d f).mgmtMem = s.mgmtMem := rfl
@[simp] theorem State.modDie_devstat (s : State) (d : Nat) (f : Die → Die) : (s.modDie d f).devstat = s.devstat := rfl
@[simp] theorem State.modDie_bar2base (s : State) (d : Nat) (f : Die → Die) : (s.modDie d f).bar2base = s.bar2base := rfl
@[simp] theorem State.modDie_cmdtail (s : State) (d : Nat) (f : Die → Die) : (s.modDie d f).cmdtail = s.cmdtail := rfl
@[simp] theorem State.modDie_cmdhead (s : State) (d : Nat) (f : Die → Die) : (s.modDie d f).cmdhead = s.cmdhead := rfl
@[simp] theorem State.modDie_rsptail (s : State) (d : Nat) (f : Die → Die) : (s.modDie d f).rsptail = s.rsptail := rfl
@[simp] theorem State.modDie_flttail (s : State) (d : Nat) (f : Die → Die) : (s.modDie d f).flttail = s.flttail := rfl
@[simp] theorem State.modDie_flthead (s : State) (d : Nat) (f : Die → Die) : (s.modDie d f).flthead = s.flthead := rfl
@[simp] theorem State.modDie_bar0 (s : State) (d : Nat) (f : Die → Die) : (s.modDie d f).bar0 = s.bar0 := rfl
@[simp] theorem State.modDie_msix (s : State) (d : Nat) (f : Die → Die) : (s.modDie d f).msix = s.msix := rfl
@[simp] theorem State.modDie_fseq (s : State) (d : Nat) (f : Die → Die) : (s.modDie d f).fseq = s.fseq := rfl
@[simp] theorem State.modDie_faults (s : State) (d : Nat) (f : Die → Die) : (s.modDie d f).faults = s.faults := rfl
@[simp] theorem State.modDie_faultsWaiting (s : State) (d : Nat) (f : Die → Die) : (s.modDie d f).faultsWaiting = s.faultsWaiting := rfl
@[simp] theorem State.modDie_busy (s : State) (d : Nat) (f : Die → Die) : (s.modDie d f).busy = s.busy := rfl
@[simp] theorem State.modDie_queueCmd (s : State) (d : Nat) (f : Die → Die) : (s.modDie d f).queueCmd = s.queueCmd := rfl
@[simp] theorem State.modDie_reports (s : State) (d : Nat) (f : Die → Die) : (s.modDie d f).reports = s.reports := rfl
@[simp] theorem State.modDie_sensors (s : State) (d : Nat) (f : Die → Die) : (s.modDie d f).sensors = s.sensors := rfl
@[simp] theorem State.modDie_heads (s : State) (d : Nat) (f : Die → Die) : (s.modDie d f).heads = s.heads := rfl
@[simp] theorem State.modDie_scanFb (s : State) (d : Nat) (f : Die → Die) : (s.modDie d f).scanFb = s.scanFb := rfl
@[simp] theorem State.modDie_scanPitch (s : State) (d : Nat) (f : Die → Die) : (s.modDie d f).scanPitch = s.scanPitch := rfl
@[simp] theorem State.modDie_arrayLog (s : State) (d : Nat) (f : Die → Die) : (s.modDie d f).arrayLog = s.arrayLog := rfl
@[simp] theorem State.modDie_arrayCount (s : State) (d : Nat) (f : Die → Die) : (s.modDie d f).arrayCount = s.arrayCount := rfl
@[simp] theorem State.modDie_xferLog (s : State) (d : Nat) (f : Die → Die) : (s.modDie d f).xferLog = s.xferLog := rfl
@[simp] theorem State.modDie_xferCount (s : State) (d : Nat) (f : Die → Die) : (s.modDie d f).xferCount = s.xferCount := rfl
@[simp] theorem State.modDie_saddleHalf (s : State) (d : Nat) (f : Die → Die) : (s.modDie d f).saddleHalf = s.saddleHalf := rfl
@[simp] theorem State.modDie_spares (s : State) (d : Nat) (f : Die → Die) : (s.modDie d f).spares = s.spares := rfl
@[simp] theorem State.modDie_bar2Data (s : State) (d : Nat) (f : Die → Die) : (s.modDie d f).bar2Data = s.bar2Data := rfl
@[simp] theorem State.modDie_hostDead (s : State) (d : Nat) (f : Die → Die) : (s.modDie d f).hostDead = s.hostDead := rfl
@[simp] theorem State.modDie_mr (s : State) (d : Nat) (f : Die → Die) : (s.modDie d f).mr = s.mr := rfl
@[simp] theorem State.modDie_flash (s : State) (d : Nat) (f : Die → Die) : (s.modDie d f).flash = s.flash := rfl
@[simp] theorem State.modDie_keys (s : State) (d : Nat) (f : Die → Die) : (s.modDie d f).keys = s.keys := rfl
@[simp] theorem State.modDie_nextObj (s : State) (d : Nat) (f : Die → Die) : (s.modDie d f).nextObj = s.nextObj := rfl
@[simp] theorem State.modDie_nextGraph (s : State) (d : Nat) (f : Die → Die) : (s.modDie d f).nextGraph = s.nextGraph := rfl
@[simp] theorem State.modDie_powered (s : State) (d : Nat) (f : Die → Die) : (s.modDie d f).powered = s.powered := rfl
@[simp] theorem State.modDie_stage0Head (s : State) (d : Nat) (f : Die → Die) : (s.modDie d f).stage0Head = s.stage0Head := rfl

@[simp] theorem State.modDir_w (s : State) (l : Nat) (f : DirEntry → DirEntry) : (s.modDir l f).w = s.w := rfl
@[simp] theorem State.modDir_st (s : State) (l : Nat) (f : DirEntry → DirEntry) : (s.modDir l f).st = s.st := rfl
@[simp] theorem State.modDir_waves (s : State) (l : Nat) (f : DirEntry → DirEntry) : (s.modDir l f).waves = s.waves := rfl
@[simp] theorem State.modDir_agenda (s : State) (l : Nat) (f : DirEntry → DirEntry) : (s.modDir l f).agenda = s.agenda := rfl
@[simp] theorem State.modDir_stalled (s : State) (l : Nat) (f : DirEntry → DirEntry) : (s.modDir l f).stalled = s.stalled := rfl
@[simp] theorem State.modDir_nextId (s : State) (l : Nat) (f : DirEntry → DirEntry) : (s.modDir l f).nextId = s.nextId := rfl
@[simp] theorem State.modDir_fresh (s : State) (l : Nat) (f : DirEntry → DirEntry) : (s.modDir l f).fresh = s.fresh := rfl
@[simp] theorem State.modDir_cycle (s : State) (l : Nat) (f : DirEntry → DirEntry) : (s.modDir l f).cycle = s.cycle := rfl
@[simp] theorem State.modDir_mem (s : State) (l : Nat) (f : DirEntry → DirEntry) : (s.modDir l f).mem = s.mem := rfl
@[simp] theorem State.modDir_dir (s : State) (l : Nat) (f : DirEntry → DirEntry) : (s.modDir l f).dir = mapSet DirEntry.empty s.dir l (f (s.dirOf l)) := rfl
@[simp] theorem State.modDir_net (s : State) (l : Nat) (f : DirEntry → DirEntry) : (s.modDir l f).net = s.net := rfl
@[simp] theorem State.modDir_acks (s : State) (l : Nat) (f : DirEntry → DirEntry) : (s.modDir l f).acks = s.acks := rfl
@[simp] theorem State.modDir_handoffs (s : State) (l : Nat) (f : DirEntry → DirEntry) : (s.modDir l f).handoffs = s.handoffs := rfl
@[simp] theorem State.modDir_cores (s : State) (l : Nat) (f : DirEntry → DirEntry) : (s.modDir l f).cores = s.cores := rfl
@[simp] theorem State.modDir_clusters (s : State) (l : Nat) (f : DirEntry → DirEntry) : (s.modDir l f).clusters = s.clusters := rfl
@[simp] theorem State.modDir_dies (s : State) (l : Nat) (f : DirEntry → DirEntry) : (s.modDir l f).dies = s.dies := rfl
@[simp] theorem State.modDir_blocks (s : State) (l : Nat) (f : DirEntry → DirEntry) : (s.modDir l f).blocks = s.blocks := rfl
@[simp] theorem State.modDir_graph (s : State) (l : Nat) (f : DirEntry → DirEntry) : (s.modDir l f).graph = s.graph := rfl
@[simp] theorem State.modDir_contexts (s : State) (l : Nat) (f : DirEntry → DirEntry) : (s.modDir l f).contexts = s.contexts := rfl
@[simp] theorem State.modDir_codes (s : State) (l : Nat) (f : DirEntry → DirEntry) : (s.modDir l f).codes = s.codes := rfl
@[simp] theorem State.modDir_mass (s : State) (l : Nat) (f : DirEntry → DirEntry) : (s.modDir l f).mass = s.mass := rfl
@[simp] theorem State.modDir_timen (s : State) (l : Nat) (f : DirEntry → DirEntry) : (s.modDir l f).timen = s.timen := rfl
@[simp] theorem State.modDir_retcnt (s : State) (l : Nat) (f : DirEntry → DirEntry) : (s.modDir l f).retcnt = s.retcnt := rfl
@[simp] theorem State.modDir_bootstage (s : State) (l : Nat) (f : DirEntry → DirEntry) : (s.modDir l f).bootstage = s.bootstage := rfl
@[simp] theorem State.modDir_talert (s : State) (l : Nat) (f : DirEntry → DirEntry) : (s.modDir l f).talert = s.talert := rfl
@[simp] theorem State.modDir_tlimit (s : State) (l : Nat) (f : DirEntry → DirEntry) : (s.modDir l f).tlimit = s.tlimit := rfl
@[simp] theorem State.modDir_csel (s : State) (l : Nat) (f : DirEntry → DirEntry) : (s.modDir l f).csel = s.csel := rfl
@[simp] theorem State.modDir_cbmax (s : State) (l : Nat) (f : DirEntry → DirEntry) : (s.modDir l f).cbmax = s.cbmax := rfl
@[simp] theorem State.modDir_droopcnt (s : State) (l : Nat) (f : DirEntry → DirEntry) : (s.modDir l f).droopcnt = s.droopcnt := rfl
@[simp] theorem State.modDir_mgmtIe (s : State) (l : Nat) (f : DirEntry → DirEntry) : (s.modDir l f).mgmtIe = s.mgmtIe := rfl
@[simp] theorem State.modDir_mgmtPending (s : State) (l : Nat) (f : DirEntry → DirEntry) : (s.modDir l f).mgmtPending = s.mgmtPending := rfl
@[simp] theorem State.modDir_mgmtHalted (s : State) (l : Nat) (f : DirEntry → DirEntry) : (s.modDir l f).mgmtHalted = s.mgmtHalted := rfl
@[simp] theorem State.modDir_mgmtMem (s : State) (l : Nat) (f : DirEntry → DirEntry) : (s.modDir l f).mgmtMem = s.mgmtMem := rfl
@[simp] theorem State.modDir_devstat (s : State) (l : Nat) (f : DirEntry → DirEntry) : (s.modDir l f).devstat = s.devstat := rfl
@[simp] theorem State.modDir_bar2base (s : State) (l : Nat) (f : DirEntry → DirEntry) : (s.modDir l f).bar2base = s.bar2base := rfl
@[simp] theorem State.modDir_cmdtail (s : State) (l : Nat) (f : DirEntry → DirEntry) : (s.modDir l f).cmdtail = s.cmdtail := rfl
@[simp] theorem State.modDir_cmdhead (s : State) (l : Nat) (f : DirEntry → DirEntry) : (s.modDir l f).cmdhead = s.cmdhead := rfl
@[simp] theorem State.modDir_rsptail (s : State) (l : Nat) (f : DirEntry → DirEntry) : (s.modDir l f).rsptail = s.rsptail := rfl
@[simp] theorem State.modDir_flttail (s : State) (l : Nat) (f : DirEntry → DirEntry) : (s.modDir l f).flttail = s.flttail := rfl
@[simp] theorem State.modDir_flthead (s : State) (l : Nat) (f : DirEntry → DirEntry) : (s.modDir l f).flthead = s.flthead := rfl
@[simp] theorem State.modDir_bar0 (s : State) (l : Nat) (f : DirEntry → DirEntry) : (s.modDir l f).bar0 = s.bar0 := rfl
@[simp] theorem State.modDir_msix (s : State) (l : Nat) (f : DirEntry → DirEntry) : (s.modDir l f).msix = s.msix := rfl
@[simp] theorem State.modDir_fseq (s : State) (l : Nat) (f : DirEntry → DirEntry) : (s.modDir l f).fseq = s.fseq := rfl
@[simp] theorem State.modDir_faults (s : State) (l : Nat) (f : DirEntry → DirEntry) : (s.modDir l f).faults = s.faults := rfl
@[simp] theorem State.modDir_faultsWaiting (s : State) (l : Nat) (f : DirEntry → DirEntry) : (s.modDir l f).faultsWaiting = s.faultsWaiting := rfl
@[simp] theorem State.modDir_busy (s : State) (l : Nat) (f : DirEntry → DirEntry) : (s.modDir l f).busy = s.busy := rfl
@[simp] theorem State.modDir_queueCmd (s : State) (l : Nat) (f : DirEntry → DirEntry) : (s.modDir l f).queueCmd = s.queueCmd := rfl
@[simp] theorem State.modDir_reports (s : State) (l : Nat) (f : DirEntry → DirEntry) : (s.modDir l f).reports = s.reports := rfl
@[simp] theorem State.modDir_sensors (s : State) (l : Nat) (f : DirEntry → DirEntry) : (s.modDir l f).sensors = s.sensors := rfl
@[simp] theorem State.modDir_heads (s : State) (l : Nat) (f : DirEntry → DirEntry) : (s.modDir l f).heads = s.heads := rfl
@[simp] theorem State.modDir_scanFb (s : State) (l : Nat) (f : DirEntry → DirEntry) : (s.modDir l f).scanFb = s.scanFb := rfl
@[simp] theorem State.modDir_scanPitch (s : State) (l : Nat) (f : DirEntry → DirEntry) : (s.modDir l f).scanPitch = s.scanPitch := rfl
@[simp] theorem State.modDir_arrayLog (s : State) (l : Nat) (f : DirEntry → DirEntry) : (s.modDir l f).arrayLog = s.arrayLog := rfl
@[simp] theorem State.modDir_arrayCount (s : State) (l : Nat) (f : DirEntry → DirEntry) : (s.modDir l f).arrayCount = s.arrayCount := rfl
@[simp] theorem State.modDir_xferLog (s : State) (l : Nat) (f : DirEntry → DirEntry) : (s.modDir l f).xferLog = s.xferLog := rfl
@[simp] theorem State.modDir_xferCount (s : State) (l : Nat) (f : DirEntry → DirEntry) : (s.modDir l f).xferCount = s.xferCount := rfl
@[simp] theorem State.modDir_saddleHalf (s : State) (l : Nat) (f : DirEntry → DirEntry) : (s.modDir l f).saddleHalf = s.saddleHalf := rfl
@[simp] theorem State.modDir_spares (s : State) (l : Nat) (f : DirEntry → DirEntry) : (s.modDir l f).spares = s.spares := rfl
@[simp] theorem State.modDir_bar2Data (s : State) (l : Nat) (f : DirEntry → DirEntry) : (s.modDir l f).bar2Data = s.bar2Data := rfl
@[simp] theorem State.modDir_hostDead (s : State) (l : Nat) (f : DirEntry → DirEntry) : (s.modDir l f).hostDead = s.hostDead := rfl
@[simp] theorem State.modDir_mr (s : State) (l : Nat) (f : DirEntry → DirEntry) : (s.modDir l f).mr = s.mr := rfl
@[simp] theorem State.modDir_flash (s : State) (l : Nat) (f : DirEntry → DirEntry) : (s.modDir l f).flash = s.flash := rfl
@[simp] theorem State.modDir_keys (s : State) (l : Nat) (f : DirEntry → DirEntry) : (s.modDir l f).keys = s.keys := rfl
@[simp] theorem State.modDir_nextObj (s : State) (l : Nat) (f : DirEntry → DirEntry) : (s.modDir l f).nextObj = s.nextObj := rfl
@[simp] theorem State.modDir_nextGraph (s : State) (l : Nat) (f : DirEntry → DirEntry) : (s.modDir l f).nextGraph = s.nextGraph := rfl
@[simp] theorem State.modDir_powered (s : State) (l : Nat) (f : DirEntry → DirEntry) : (s.modDir l f).powered = s.powered := rfl
@[simp] theorem State.modDir_stage0Head (s : State) (l : Nat) (f : DirEntry → DirEntry) : (s.modDir l f).stage0Head = s.stage0Head := rfl

@[simp] theorem State.modBlock_w (s : State) (k : BKey) (f : Block → Block) : (s.modBlock k f).w = s.w := rfl
@[simp] theorem State.modBlock_st (s : State) (k : BKey) (f : Block → Block) : (s.modBlock k f).st = s.st := rfl
@[simp] theorem State.modBlock_waves (s : State) (k : BKey) (f : Block → Block) : (s.modBlock k f).waves = s.waves := rfl
@[simp] theorem State.modBlock_agenda (s : State) (k : BKey) (f : Block → Block) : (s.modBlock k f).agenda = s.agenda := rfl
@[simp] theorem State.modBlock_stalled (s : State) (k : BKey) (f : Block → Block) : (s.modBlock k f).stalled = s.stalled := rfl
@[simp] theorem State.modBlock_nextId (s : State) (k : BKey) (f : Block → Block) : (s.modBlock k f).nextId = s.nextId := rfl
@[simp] theorem State.modBlock_fresh (s : State) (k : BKey) (f : Block → Block) : (s.modBlock k f).fresh = s.fresh := rfl
@[simp] theorem State.modBlock_cycle (s : State) (k : BKey) (f : Block → Block) : (s.modBlock k f).cycle = s.cycle := rfl
@[simp] theorem State.modBlock_mem (s : State) (k : BKey) (f : Block → Block) : (s.modBlock k f).mem = s.mem := rfl
@[simp] theorem State.modBlock_dir (s : State) (k : BKey) (f : Block → Block) : (s.modBlock k f).dir = s.dir := rfl
@[simp] theorem State.modBlock_net (s : State) (k : BKey) (f : Block → Block) : (s.modBlock k f).net = s.net := rfl
@[simp] theorem State.modBlock_acks (s : State) (k : BKey) (f : Block → Block) : (s.modBlock k f).acks = s.acks := rfl
@[simp] theorem State.modBlock_handoffs (s : State) (k : BKey) (f : Block → Block) : (s.modBlock k f).handoffs = s.handoffs := rfl
@[simp] theorem State.modBlock_cores (s : State) (k : BKey) (f : Block → Block) : (s.modBlock k f).cores = s.cores := rfl
@[simp] theorem State.modBlock_clusters (s : State) (k : BKey) (f : Block → Block) : (s.modBlock k f).clusters = s.clusters := rfl
@[simp] theorem State.modBlock_dies (s : State) (k : BKey) (f : Block → Block) : (s.modBlock k f).dies = s.dies := rfl
@[simp] theorem State.modBlock_blocks (s : State) (k : BKey) (f : Block → Block) : (s.modBlock k f).blocks = s.blocks.map (fun b => if b.key = k then f b else b) := rfl
@[simp] theorem State.modBlock_graph (s : State) (k : BKey) (f : Block → Block) : (s.modBlock k f).graph = s.graph := rfl
@[simp] theorem State.modBlock_contexts (s : State) (k : BKey) (f : Block → Block) : (s.modBlock k f).contexts = s.contexts := rfl
@[simp] theorem State.modBlock_codes (s : State) (k : BKey) (f : Block → Block) : (s.modBlock k f).codes = s.codes := rfl
@[simp] theorem State.modBlock_mass (s : State) (k : BKey) (f : Block → Block) : (s.modBlock k f).mass = s.mass := rfl
@[simp] theorem State.modBlock_timen (s : State) (k : BKey) (f : Block → Block) : (s.modBlock k f).timen = s.timen := rfl
@[simp] theorem State.modBlock_retcnt (s : State) (k : BKey) (f : Block → Block) : (s.modBlock k f).retcnt = s.retcnt := rfl
@[simp] theorem State.modBlock_bootstage (s : State) (k : BKey) (f : Block → Block) : (s.modBlock k f).bootstage = s.bootstage := rfl
@[simp] theorem State.modBlock_talert (s : State) (k : BKey) (f : Block → Block) : (s.modBlock k f).talert = s.talert := rfl
@[simp] theorem State.modBlock_tlimit (s : State) (k : BKey) (f : Block → Block) : (s.modBlock k f).tlimit = s.tlimit := rfl
@[simp] theorem State.modBlock_csel (s : State) (k : BKey) (f : Block → Block) : (s.modBlock k f).csel = s.csel := rfl
@[simp] theorem State.modBlock_cbmax (s : State) (k : BKey) (f : Block → Block) : (s.modBlock k f).cbmax = s.cbmax := rfl
@[simp] theorem State.modBlock_droopcnt (s : State) (k : BKey) (f : Block → Block) : (s.modBlock k f).droopcnt = s.droopcnt := rfl
@[simp] theorem State.modBlock_mgmtIe (s : State) (k : BKey) (f : Block → Block) : (s.modBlock k f).mgmtIe = s.mgmtIe := rfl
@[simp] theorem State.modBlock_mgmtPending (s : State) (k : BKey) (f : Block → Block) : (s.modBlock k f).mgmtPending = s.mgmtPending := rfl
@[simp] theorem State.modBlock_mgmtHalted (s : State) (k : BKey) (f : Block → Block) : (s.modBlock k f).mgmtHalted = s.mgmtHalted := rfl
@[simp] theorem State.modBlock_mgmtMem (s : State) (k : BKey) (f : Block → Block) : (s.modBlock k f).mgmtMem = s.mgmtMem := rfl
@[simp] theorem State.modBlock_devstat (s : State) (k : BKey) (f : Block → Block) : (s.modBlock k f).devstat = s.devstat := rfl
@[simp] theorem State.modBlock_bar2base (s : State) (k : BKey) (f : Block → Block) : (s.modBlock k f).bar2base = s.bar2base := rfl
@[simp] theorem State.modBlock_cmdtail (s : State) (k : BKey) (f : Block → Block) : (s.modBlock k f).cmdtail = s.cmdtail := rfl
@[simp] theorem State.modBlock_cmdhead (s : State) (k : BKey) (f : Block → Block) : (s.modBlock k f).cmdhead = s.cmdhead := rfl
@[simp] theorem State.modBlock_rsptail (s : State) (k : BKey) (f : Block → Block) : (s.modBlock k f).rsptail = s.rsptail := rfl
@[simp] theorem State.modBlock_flttail (s : State) (k : BKey) (f : Block → Block) : (s.modBlock k f).flttail = s.flttail := rfl
@[simp] theorem State.modBlock_flthead (s : State) (k : BKey) (f : Block → Block) : (s.modBlock k f).flthead = s.flthead := rfl
@[simp] theorem State.modBlock_bar0 (s : State) (k : BKey) (f : Block → Block) : (s.modBlock k f).bar0 = s.bar0 := rfl
@[simp] theorem State.modBlock_msix (s : State) (k : BKey) (f : Block → Block) : (s.modBlock k f).msix = s.msix := rfl
@[simp] theorem State.modBlock_fseq (s : State) (k : BKey) (f : Block → Block) : (s.modBlock k f).fseq = s.fseq := rfl
@[simp] theorem State.modBlock_faults (s : State) (k : BKey) (f : Block → Block) : (s.modBlock k f).faults = s.faults := rfl
@[simp] theorem State.modBlock_faultsWaiting (s : State) (k : BKey) (f : Block → Block) : (s.modBlock k f).faultsWaiting = s.faultsWaiting := rfl
@[simp] theorem State.modBlock_busy (s : State) (k : BKey) (f : Block → Block) : (s.modBlock k f).busy = s.busy := rfl
@[simp] theorem State.modBlock_queueCmd (s : State) (k : BKey) (f : Block → Block) : (s.modBlock k f).queueCmd = s.queueCmd := rfl
@[simp] theorem State.modBlock_reports (s : State) (k : BKey) (f : Block → Block) : (s.modBlock k f).reports = s.reports := rfl
@[simp] theorem State.modBlock_sensors (s : State) (k : BKey) (f : Block → Block) : (s.modBlock k f).sensors = s.sensors := rfl
@[simp] theorem State.modBlock_heads (s : State) (k : BKey) (f : Block → Block) : (s.modBlock k f).heads = s.heads := rfl
@[simp] theorem State.modBlock_scanFb (s : State) (k : BKey) (f : Block → Block) : (s.modBlock k f).scanFb = s.scanFb := rfl
@[simp] theorem State.modBlock_scanPitch (s : State) (k : BKey) (f : Block → Block) : (s.modBlock k f).scanPitch = s.scanPitch := rfl
@[simp] theorem State.modBlock_arrayLog (s : State) (k : BKey) (f : Block → Block) : (s.modBlock k f).arrayLog = s.arrayLog := rfl
@[simp] theorem State.modBlock_arrayCount (s : State) (k : BKey) (f : Block → Block) : (s.modBlock k f).arrayCount = s.arrayCount := rfl
@[simp] theorem State.modBlock_xferLog (s : State) (k : BKey) (f : Block → Block) : (s.modBlock k f).xferLog = s.xferLog := rfl
@[simp] theorem State.modBlock_xferCount (s : State) (k : BKey) (f : Block → Block) : (s.modBlock k f).xferCount = s.xferCount := rfl
@[simp] theorem State.modBlock_saddleHalf (s : State) (k : BKey) (f : Block → Block) : (s.modBlock k f).saddleHalf = s.saddleHalf := rfl
@[simp] theorem State.modBlock_spares (s : State) (k : BKey) (f : Block → Block) : (s.modBlock k f).spares = s.spares := rfl
@[simp] theorem State.modBlock_bar2Data (s : State) (k : BKey) (f : Block → Block) : (s.modBlock k f).bar2Data = s.bar2Data := rfl
@[simp] theorem State.modBlock_hostDead (s : State) (k : BKey) (f : Block → Block) : (s.modBlock k f).hostDead = s.hostDead := rfl
@[simp] theorem State.modBlock_mr (s : State) (k : BKey) (f : Block → Block) : (s.modBlock k f).mr = s.mr := rfl
@[simp] theorem State.modBlock_flash (s : State) (k : BKey) (f : Block → Block) : (s.modBlock k f).flash = s.flash := rfl
@[simp] theorem State.modBlock_keys (s : State) (k : BKey) (f : Block → Block) : (s.modBlock k f).keys = s.keys := rfl
@[simp] theorem State.modBlock_nextObj (s : State) (k : BKey) (f : Block → Block) : (s.modBlock k f).nextObj = s.nextObj := rfl
@[simp] theorem State.modBlock_nextGraph (s : State) (k : BKey) (f : Block → Block) : (s.modBlock k f).nextGraph = s.nextGraph := rfl
@[simp] theorem State.modBlock_powered (s : State) (k : BKey) (f : Block → Block) : (s.modBlock k f).powered = s.powered := rfl
@[simp] theorem State.modBlock_stage0Head (s : State) (k : BKey) (f : Block → Block) : (s.modBlock k f).stage0Head = s.stage0Head := rfl

/-! ## Updates of a wave -/

@[simp] theorem Wave.setV_core (w : Wave) (r l x : Nat) : (w.setV r l x).core = w.core := rfl
@[simp] theorem Wave.setV_slot (w : Wave) (r l x : Nat) : (w.setV r l x).slot = w.slot := rfl
@[simp] theorem Wave.setV_mgmt (w : Wave) (r l x : Nat) : (w.setV r l x).mgmt = w.mgmt := rfl
@[simp] theorem Wave.setV_status (w : Wave) (r l x : Nat) : (w.setV r l x).status = w.status := rfl
@[simp] theorem Wave.setV_key (w : Wave) (r l x : Nat) : (w.setV r l x).key = w.key := rfl
@[simp] theorem Wave.setV_waveid (w : Wave) (r l x : Nat) : (w.setV r l x).waveid = w.waveid := rfl
@[simp] theorem Wave.setV_role (w : Wave) (r l x : Nat) : (w.setV r l x).role = w.role := rfl
@[simp] theorem Wave.setV_pcls (w : Wave) (r l x : Nat) : (w.setV r l x).pcls = w.pcls := rfl
@[simp] theorem Wave.setV_width (w : Wave) (r l x : Nat) : (w.setV r l x).width = w.width := rfl
@[simp] theorem Wave.setV_poolpart (w : Wave) (r l x : Nat) : (w.setV r l x).poolpart = w.poolpart := rfl
@[simp] theorem Wave.setV_j (w : Wave) (r l x : Nat) : (w.setV r l x).j = w.j := rfl
@[simp] theorem Wave.setV_k (w : Wave) (r l x : Nat) : (w.setV r l x).k = w.k := rfl
@[simp] theorem Wave.setV_prio (w : Wave) (r l x : Nat) : (w.setV r l x).prio = w.prio := rfl
@[simp] theorem Wave.setV_leadPc (w : Wave) (r l x : Nat) : (w.setV r l x).leadPc = w.leadPc := rfl
@[simp] theorem Wave.setV_lanePc (w : Wave) (r l x : Nat) : (w.setV r l x).lanePc = w.lanePc := rfl
@[simp] theorem Wave.setV_leadDone (w : Wave) (r l x : Nat) : (w.setV r l x).leadDone = w.leadDone := rfl
@[simp] theorem Wave.setV_laneDone (w : Wave) (r l x : Nat) : (w.setV r l x).laneDone = w.laneDone := rfl
@[simp] theorem Wave.setV_inTrap (w : Wave) (r l x : Nat) : (w.setV r l x).inTrap = w.inTrap := rfl
@[simp] theorem Wave.setV_aborted (w : Wave) (r l x : Nat) : (w.setV r l x).aborted = w.aborted := rfl
@[simp] theorem Wave.setV_exec (w : Wave) (r l x : Nat) : (w.setV r l x).exec = w.exec := rfl
@[simp] theorem Wave.setV_helper (w : Wave) (r l x : Nat) : (w.setV r l x).helper = w.helper := rfl
@[simp] theorem Wave.setV_kreg (w : Wave) (r l x : Nat) : (w.setV r l x).kreg = w.kreg := rfl
@[simp] theorem Wave.setV_v (w : Wave) (r l x : Nat) : (w.setV r l x).v = mapSet 0#32 w.v (64 * r + l) (BitVec.ofNat 32 x) := rfl
@[simp] theorem Wave.setV_sect (w : Wave) (r l x : Nat) : (w.setV r l x).sect = insertAsc (regSector r l) w.sect := rfl
@[simp] theorem Wave.setV_s (w : Wave) (r l x : Nat) : (w.setV r l x).s = w.s := rfl
@[simp] theorem Wave.setV_c (w : Wave) (r l x : Nat) : (w.setV r l x).c = w.c := rfl
@[simp] theorem Wave.setV_g (w : Wave) (r l x : Nat) : (w.setV r l x).g = w.g := rfl
@[simp] theorem Wave.setV_rnd (w : Wave) (r l x : Nat) : (w.setV r l x).rnd = w.rnd := rfl
@[simp] theorem Wave.setV_tcause (w : Wave) (r l x : Nat) : (w.setV r l x).tcause = w.tcause := rfl
@[simp] theorem Wave.setV_tpclead (w : Wave) (r l x : Nat) : (w.setV r l x).tpclead = w.tpclead := rfl
@[simp] theorem Wave.setV_tpclane (w : Wave) (r l x : Nat) : (w.setV r l x).tpclane = w.tpclane := rfl
@[simp] theorem Wave.setV_flanes (w : Wave) (r l x : Nat) : (w.setV r l x).flanes = w.flanes := rfl
@[simp] theorem Wave.setV_taddr (w : Wave) (r l x : Nat) : (w.setV r l x).taddr = w.taddr := rfl
@[simp] theorem Wave.setV_tinfo (w : Wave) (r l x : Nat) : (w.setV r l x).tinfo = w.tinfo := rfl
@[simp] theorem Wave.setV_cyc (w : Wave) (r l x : Nat) : (w.setV r l x).cyc = w.cyc := rfl
@[simp] theorem Wave.setV_lq (w : Wave) (r l x : Nat) : (w.setV r l x).lq = w.lq := rfl
@[simp] theorem Wave.setV_dq (w : Wave) (r l x : Nat) : (w.setV r l x).dq = w.dq := rfl
@[simp] theorem Wave.setV_rq (w : Wave) (r l x : Nat) : (w.setV r l x).rq = w.rq := rfl
@[simp] theorem Wave.setV_stack (w : Wave) (r l x : Nat) : (w.setV r l x).stack = w.stack := rfl
@[simp] theorem Wave.setV_spill (w : Wave) (r l x : Nat) : (w.setV r l x).spill = w.spill := rfl
@[simp] theorem Wave.setV_spillBase (w : Wave) (r l x : Nat) : (w.setV r l x).spillBase = w.spillBase := rfl
@[simp] theorem Wave.setV_ops (w : Wave) (r l x : Nat) : (w.setV r l x).ops = w.ops := rfl
@[simp] theorem Wave.setV_deferred (w : Wave) (r l x : Nat) : (w.setV r l x).deferred = w.deferred := rfl
@[simp] theorem Wave.setV_starve (w : Wave) (r l x : Nat) : (w.setV r l x).starve = w.starve := rfl
@[simp] theorem Wave.setV_deadlock (w : Wave) (r l x : Nat) : (w.setV r l x).deadlock = w.deadlock := rfl
@[simp] theorem Wave.setV_parkCount (w : Wave) (r l x : Nat) : (w.setV r l x).parkCount = w.parkCount := rfl
@[simp] theorem Wave.setV_ageLead (w : Wave) (r l x : Nat) : (w.setV r l x).ageLead = w.ageLead := rfl
@[simp] theorem Wave.setV_ageLane (w : Wave) (r l x : Nat) : (w.setV r l x).ageLane = w.ageLane := rfl
@[simp] theorem Wave.setV_yieldLead (w : Wave) (r l x : Nat) : (w.setV r l x).yieldLead = w.yieldLead := rfl
@[simp] theorem Wave.setV_yieldLane (w : Wave) (r l x : Nat) : (w.setV r l x).yieldLane = w.yieldLane := rfl
@[simp] theorem Wave.setV_sleepLead (w : Wave) (r l x : Nat) : (w.setV r l x).sleepLead = w.sleepLead := rfl
@[simp] theorem Wave.setV_sleepLane (w : Wave) (r l x : Nat) : (w.setV r l x).sleepLane = w.sleepLane := rfl
@[simp] theorem Wave.setV_tryLead (w : Wave) (r l x : Nat) : (w.setV r l x).tryLead = w.tryLead := rfl
@[simp] theorem Wave.setV_tryLane (w : Wave) (r l x : Nat) : (w.setV r l x).tryLane = w.tryLane := rfl
@[simp] theorem Wave.setV_promoted (w : Wave) (r l x : Nat) : (w.setV r l x).promoted = w.promoted := rfl
@[simp] theorem Wave.setV_dirty (w : Wave) (r l x : Nat) : (w.setV r l x).dirty = w.dirty := rfl
@[simp] theorem Wave.setV_winBase (w : Wave) (r l x : Nat) : (w.setV r l x).winBase = w.winBase := rfl
@[simp] theorem Wave.setV_winNext (w : Wave) (r l x : Nat) : (w.setV r l x).winNext = w.winNext := rfl
@[simp] theorem Wave.setV_winFirst (w : Wave) (r l x : Nat) : (w.setV r l x).winFirst = w.winFirst := rfl
@[simp] theorem Wave.setV_winRecs0 (w : Wave) (r l x : Nat) : (w.setV r l x).winRecs0 = w.winRecs0 := rfl
@[simp] theorem Wave.setV_winRecs1 (w : Wave) (r l x : Nat) : (w.setV r l x).winRecs1 = w.winRecs1 := rfl
@[simp] theorem Wave.setV_bseq (w : Wave) (r l x : Nat) : (w.setV r l x).bseq = w.bseq := rfl
@[simp] theorem Wave.setV_batches (w : Wave) (r l x : Nat) : (w.setV r l x).batches = w.batches := rfl
@[simp] theorem Wave.setV_open_ (w : Wave) (r l x : Nat) : (w.setV r l x).open_ = w.open_ := rfl
@[simp] theorem Wave.setV_pendTrap (w : Wave) (r l x : Nat) : (w.setV r l x).pendTrap = w.pendTrap := rfl
@[simp] theorem Wave.setV_trapOp (w : Wave) (r l x : Nat) : (w.setV r l x).trapOp = w.trapOp := rfl
@[simp] theorem Wave.setV_trapLane (w : Wave) (r l x : Nat) : (w.setV r l x).trapLane = w.trapLane := rfl
@[simp] theorem Wave.setV_stopped (w : Wave) (r l x : Nat) : (w.setV r l x).stopped = w.stopped := rfl
@[simp] theorem Wave.setV_refused (w : Wave) (r l x : Nat) : (w.setV r l x).refused = w.refused := rfl
@[simp] theorem Wave.setV_nrec (w : Wave) (r l x : Nat) : (w.setV r l x).nrec = w.nrec := rfl
@[simp] theorem Wave.setV_holding (w : Wave) (r l x : Nat) : (w.setV r l x).holding = w.holding := rfl

@[simp] theorem Wave.setS_core (w : Wave) (i x : Nat) : (w.setS i x).core = w.core := rfl
@[simp] theorem Wave.setS_slot (w : Wave) (i x : Nat) : (w.setS i x).slot = w.slot := rfl
@[simp] theorem Wave.setS_mgmt (w : Wave) (i x : Nat) : (w.setS i x).mgmt = w.mgmt := rfl
@[simp] theorem Wave.setS_status (w : Wave) (i x : Nat) : (w.setS i x).status = w.status := rfl
@[simp] theorem Wave.setS_key (w : Wave) (i x : Nat) : (w.setS i x).key = w.key := rfl
@[simp] theorem Wave.setS_waveid (w : Wave) (i x : Nat) : (w.setS i x).waveid = w.waveid := rfl
@[simp] theorem Wave.setS_role (w : Wave) (i x : Nat) : (w.setS i x).role = w.role := rfl
@[simp] theorem Wave.setS_pcls (w : Wave) (i x : Nat) : (w.setS i x).pcls = w.pcls := rfl
@[simp] theorem Wave.setS_width (w : Wave) (i x : Nat) : (w.setS i x).width = w.width := rfl
@[simp] theorem Wave.setS_poolpart (w : Wave) (i x : Nat) : (w.setS i x).poolpart = w.poolpart := rfl
@[simp] theorem Wave.setS_j (w : Wave) (i x : Nat) : (w.setS i x).j = w.j := rfl
@[simp] theorem Wave.setS_k (w : Wave) (i x : Nat) : (w.setS i x).k = w.k := rfl
@[simp] theorem Wave.setS_prio (w : Wave) (i x : Nat) : (w.setS i x).prio = w.prio := rfl
@[simp] theorem Wave.setS_leadPc (w : Wave) (i x : Nat) : (w.setS i x).leadPc = w.leadPc := rfl
@[simp] theorem Wave.setS_lanePc (w : Wave) (i x : Nat) : (w.setS i x).lanePc = w.lanePc := rfl
@[simp] theorem Wave.setS_leadDone (w : Wave) (i x : Nat) : (w.setS i x).leadDone = w.leadDone := rfl
@[simp] theorem Wave.setS_laneDone (w : Wave) (i x : Nat) : (w.setS i x).laneDone = w.laneDone := rfl
@[simp] theorem Wave.setS_inTrap (w : Wave) (i x : Nat) : (w.setS i x).inTrap = w.inTrap := rfl
@[simp] theorem Wave.setS_aborted (w : Wave) (i x : Nat) : (w.setS i x).aborted = w.aborted := rfl
@[simp] theorem Wave.setS_exec (w : Wave) (i x : Nat) : (w.setS i x).exec = w.exec := rfl
@[simp] theorem Wave.setS_helper (w : Wave) (i x : Nat) : (w.setS i x).helper = w.helper := rfl
@[simp] theorem Wave.setS_kreg (w : Wave) (i x : Nat) : (w.setS i x).kreg = w.kreg := rfl
@[simp] theorem Wave.setS_v (w : Wave) (i x : Nat) : (w.setS i x).v = w.v := rfl
@[simp] theorem Wave.setS_sect (w : Wave) (i x : Nat) : (w.setS i x).sect = w.sect := rfl
@[simp] theorem Wave.setS_s (w : Wave) (i x : Nat) : (w.setS i x).s = mapSet 0#64 w.s i (BitVec.ofNat 64 x) := rfl
@[simp] theorem Wave.setS_c (w : Wave) (i x : Nat) : (w.setS i x).c = w.c := rfl
@[simp] theorem Wave.setS_g (w : Wave) (i x : Nat) : (w.setS i x).g = w.g := rfl
@[simp] theorem Wave.setS_rnd (w : Wave) (i x : Nat) : (w.setS i x).rnd = w.rnd := rfl
@[simp] theorem Wave.setS_tcause (w : Wave) (i x : Nat) : (w.setS i x).tcause = w.tcause := rfl
@[simp] theorem Wave.setS_tpclead (w : Wave) (i x : Nat) : (w.setS i x).tpclead = w.tpclead := rfl
@[simp] theorem Wave.setS_tpclane (w : Wave) (i x : Nat) : (w.setS i x).tpclane = w.tpclane := rfl
@[simp] theorem Wave.setS_flanes (w : Wave) (i x : Nat) : (w.setS i x).flanes = w.flanes := rfl
@[simp] theorem Wave.setS_taddr (w : Wave) (i x : Nat) : (w.setS i x).taddr = w.taddr := rfl
@[simp] theorem Wave.setS_tinfo (w : Wave) (i x : Nat) : (w.setS i x).tinfo = w.tinfo := rfl
@[simp] theorem Wave.setS_cyc (w : Wave) (i x : Nat) : (w.setS i x).cyc = w.cyc := rfl
@[simp] theorem Wave.setS_lq (w : Wave) (i x : Nat) : (w.setS i x).lq = w.lq := rfl
@[simp] theorem Wave.setS_dq (w : Wave) (i x : Nat) : (w.setS i x).dq = w.dq := rfl
@[simp] theorem Wave.setS_rq (w : Wave) (i x : Nat) : (w.setS i x).rq = w.rq := rfl
@[simp] theorem Wave.setS_stack (w : Wave) (i x : Nat) : (w.setS i x).stack = w.stack := rfl
@[simp] theorem Wave.setS_spill (w : Wave) (i x : Nat) : (w.setS i x).spill = w.spill := rfl
@[simp] theorem Wave.setS_spillBase (w : Wave) (i x : Nat) : (w.setS i x).spillBase = w.spillBase := rfl
@[simp] theorem Wave.setS_ops (w : Wave) (i x : Nat) : (w.setS i x).ops = w.ops := rfl
@[simp] theorem Wave.setS_deferred (w : Wave) (i x : Nat) : (w.setS i x).deferred = w.deferred := rfl
@[simp] theorem Wave.setS_starve (w : Wave) (i x : Nat) : (w.setS i x).starve = w.starve := rfl
@[simp] theorem Wave.setS_deadlock (w : Wave) (i x : Nat) : (w.setS i x).deadlock = w.deadlock := rfl
@[simp] theorem Wave.setS_parkCount (w : Wave) (i x : Nat) : (w.setS i x).parkCount = w.parkCount := rfl
@[simp] theorem Wave.setS_ageLead (w : Wave) (i x : Nat) : (w.setS i x).ageLead = w.ageLead := rfl
@[simp] theorem Wave.setS_ageLane (w : Wave) (i x : Nat) : (w.setS i x).ageLane = w.ageLane := rfl
@[simp] theorem Wave.setS_yieldLead (w : Wave) (i x : Nat) : (w.setS i x).yieldLead = w.yieldLead := rfl
@[simp] theorem Wave.setS_yieldLane (w : Wave) (i x : Nat) : (w.setS i x).yieldLane = w.yieldLane := rfl
@[simp] theorem Wave.setS_sleepLead (w : Wave) (i x : Nat) : (w.setS i x).sleepLead = w.sleepLead := rfl
@[simp] theorem Wave.setS_sleepLane (w : Wave) (i x : Nat) : (w.setS i x).sleepLane = w.sleepLane := rfl
@[simp] theorem Wave.setS_tryLead (w : Wave) (i x : Nat) : (w.setS i x).tryLead = w.tryLead := rfl
@[simp] theorem Wave.setS_tryLane (w : Wave) (i x : Nat) : (w.setS i x).tryLane = w.tryLane := rfl
@[simp] theorem Wave.setS_promoted (w : Wave) (i x : Nat) : (w.setS i x).promoted = w.promoted := rfl
@[simp] theorem Wave.setS_dirty (w : Wave) (i x : Nat) : (w.setS i x).dirty = w.dirty := rfl
@[simp] theorem Wave.setS_winBase (w : Wave) (i x : Nat) : (w.setS i x).winBase = w.winBase := rfl
@[simp] theorem Wave.setS_winNext (w : Wave) (i x : Nat) : (w.setS i x).winNext = w.winNext := rfl
@[simp] theorem Wave.setS_winFirst (w : Wave) (i x : Nat) : (w.setS i x).winFirst = w.winFirst := rfl
@[simp] theorem Wave.setS_winRecs0 (w : Wave) (i x : Nat) : (w.setS i x).winRecs0 = w.winRecs0 := rfl
@[simp] theorem Wave.setS_winRecs1 (w : Wave) (i x : Nat) : (w.setS i x).winRecs1 = w.winRecs1 := rfl
@[simp] theorem Wave.setS_bseq (w : Wave) (i x : Nat) : (w.setS i x).bseq = w.bseq := rfl
@[simp] theorem Wave.setS_batches (w : Wave) (i x : Nat) : (w.setS i x).batches = w.batches := rfl
@[simp] theorem Wave.setS_open_ (w : Wave) (i x : Nat) : (w.setS i x).open_ = w.open_ := rfl
@[simp] theorem Wave.setS_pendTrap (w : Wave) (i x : Nat) : (w.setS i x).pendTrap = w.pendTrap := rfl
@[simp] theorem Wave.setS_trapOp (w : Wave) (i x : Nat) : (w.setS i x).trapOp = w.trapOp := rfl
@[simp] theorem Wave.setS_trapLane (w : Wave) (i x : Nat) : (w.setS i x).trapLane = w.trapLane := rfl
@[simp] theorem Wave.setS_stopped (w : Wave) (i x : Nat) : (w.setS i x).stopped = w.stopped := rfl
@[simp] theorem Wave.setS_refused (w : Wave) (i x : Nat) : (w.setS i x).refused = w.refused := rfl
@[simp] theorem Wave.setS_nrec (w : Wave) (i x : Nat) : (w.setS i x).nrec = w.nrec := rfl
@[simp] theorem Wave.setS_holding (w : Wave) (i x : Nat) : (w.setS i x).holding = w.holding := rfl

@[simp] theorem Wave.setK_core (w : Wave) (i x : Nat) : (w.setK i x).core = w.core := rfl
@[simp] theorem Wave.setK_slot (w : Wave) (i x : Nat) : (w.setK i x).slot = w.slot := rfl
@[simp] theorem Wave.setK_mgmt (w : Wave) (i x : Nat) : (w.setK i x).mgmt = w.mgmt := rfl
@[simp] theorem Wave.setK_status (w : Wave) (i x : Nat) : (w.setK i x).status = w.status := rfl
@[simp] theorem Wave.setK_key (w : Wave) (i x : Nat) : (w.setK i x).key = w.key := rfl
@[simp] theorem Wave.setK_waveid (w : Wave) (i x : Nat) : (w.setK i x).waveid = w.waveid := rfl
@[simp] theorem Wave.setK_role (w : Wave) (i x : Nat) : (w.setK i x).role = w.role := rfl
@[simp] theorem Wave.setK_pcls (w : Wave) (i x : Nat) : (w.setK i x).pcls = w.pcls := rfl
@[simp] theorem Wave.setK_width (w : Wave) (i x : Nat) : (w.setK i x).width = w.width := rfl
@[simp] theorem Wave.setK_poolpart (w : Wave) (i x : Nat) : (w.setK i x).poolpart = w.poolpart := rfl
@[simp] theorem Wave.setK_j (w : Wave) (i x : Nat) : (w.setK i x).j = w.j := rfl
@[simp] theorem Wave.setK_k (w : Wave) (i x : Nat) : (w.setK i x).k = w.k := rfl
@[simp] theorem Wave.setK_prio (w : Wave) (i x : Nat) : (w.setK i x).prio = w.prio := rfl
@[simp] theorem Wave.setK_leadPc (w : Wave) (i x : Nat) : (w.setK i x).leadPc = w.leadPc := rfl
@[simp] theorem Wave.setK_lanePc (w : Wave) (i x : Nat) : (w.setK i x).lanePc = w.lanePc := rfl
@[simp] theorem Wave.setK_leadDone (w : Wave) (i x : Nat) : (w.setK i x).leadDone = w.leadDone := rfl
@[simp] theorem Wave.setK_laneDone (w : Wave) (i x : Nat) : (w.setK i x).laneDone = w.laneDone := rfl
@[simp] theorem Wave.setK_inTrap (w : Wave) (i x : Nat) : (w.setK i x).inTrap = w.inTrap := rfl
@[simp] theorem Wave.setK_aborted (w : Wave) (i x : Nat) : (w.setK i x).aborted = w.aborted := rfl
@[simp] theorem Wave.setK_exec (w : Wave) (i x : Nat) : (w.setK i x).exec = w.exec := rfl
@[simp] theorem Wave.setK_helper (w : Wave) (i x : Nat) : (w.setK i x).helper = w.helper := rfl
@[simp] theorem Wave.setK_kreg (w : Wave) (i x : Nat) : (w.setK i x).kreg = mapSet 0 w.kreg i (x % 2 ^ w.lanes) := rfl
@[simp] theorem Wave.setK_v (w : Wave) (i x : Nat) : (w.setK i x).v = w.v := rfl
@[simp] theorem Wave.setK_sect (w : Wave) (i x : Nat) : (w.setK i x).sect = w.sect := rfl
@[simp] theorem Wave.setK_s (w : Wave) (i x : Nat) : (w.setK i x).s = w.s := rfl
@[simp] theorem Wave.setK_c (w : Wave) (i x : Nat) : (w.setK i x).c = w.c := rfl
@[simp] theorem Wave.setK_g (w : Wave) (i x : Nat) : (w.setK i x).g = w.g := rfl
@[simp] theorem Wave.setK_rnd (w : Wave) (i x : Nat) : (w.setK i x).rnd = w.rnd := rfl
@[simp] theorem Wave.setK_tcause (w : Wave) (i x : Nat) : (w.setK i x).tcause = w.tcause := rfl
@[simp] theorem Wave.setK_tpclead (w : Wave) (i x : Nat) : (w.setK i x).tpclead = w.tpclead := rfl
@[simp] theorem Wave.setK_tpclane (w : Wave) (i x : Nat) : (w.setK i x).tpclane = w.tpclane := rfl
@[simp] theorem Wave.setK_flanes (w : Wave) (i x : Nat) : (w.setK i x).flanes = w.flanes := rfl
@[simp] theorem Wave.setK_taddr (w : Wave) (i x : Nat) : (w.setK i x).taddr = w.taddr := rfl
@[simp] theorem Wave.setK_tinfo (w : Wave) (i x : Nat) : (w.setK i x).tinfo = w.tinfo := rfl
@[simp] theorem Wave.setK_cyc (w : Wave) (i x : Nat) : (w.setK i x).cyc = w.cyc := rfl
@[simp] theorem Wave.setK_lq (w : Wave) (i x : Nat) : (w.setK i x).lq = w.lq := rfl
@[simp] theorem Wave.setK_dq (w : Wave) (i x : Nat) : (w.setK i x).dq = w.dq := rfl
@[simp] theorem Wave.setK_rq (w : Wave) (i x : Nat) : (w.setK i x).rq = w.rq := rfl
@[simp] theorem Wave.setK_stack (w : Wave) (i x : Nat) : (w.setK i x).stack = w.stack := rfl
@[simp] theorem Wave.setK_spill (w : Wave) (i x : Nat) : (w.setK i x).spill = w.spill := rfl
@[simp] theorem Wave.setK_spillBase (w : Wave) (i x : Nat) : (w.setK i x).spillBase = w.spillBase := rfl
@[simp] theorem Wave.setK_ops (w : Wave) (i x : Nat) : (w.setK i x).ops = w.ops := rfl
@[simp] theorem Wave.setK_deferred (w : Wave) (i x : Nat) : (w.setK i x).deferred = w.deferred := rfl
@[simp] theorem Wave.setK_starve (w : Wave) (i x : Nat) : (w.setK i x).starve = w.starve := rfl
@[simp] theorem Wave.setK_deadlock (w : Wave) (i x : Nat) : (w.setK i x).deadlock = w.deadlock := rfl
@[simp] theorem Wave.setK_parkCount (w : Wave) (i x : Nat) : (w.setK i x).parkCount = w.parkCount := rfl
@[simp] theorem Wave.setK_ageLead (w : Wave) (i x : Nat) : (w.setK i x).ageLead = w.ageLead := rfl
@[simp] theorem Wave.setK_ageLane (w : Wave) (i x : Nat) : (w.setK i x).ageLane = w.ageLane := rfl
@[simp] theorem Wave.setK_yieldLead (w : Wave) (i x : Nat) : (w.setK i x).yieldLead = w.yieldLead := rfl
@[simp] theorem Wave.setK_yieldLane (w : Wave) (i x : Nat) : (w.setK i x).yieldLane = w.yieldLane := rfl
@[simp] theorem Wave.setK_sleepLead (w : Wave) (i x : Nat) : (w.setK i x).sleepLead = w.sleepLead := rfl
@[simp] theorem Wave.setK_sleepLane (w : Wave) (i x : Nat) : (w.setK i x).sleepLane = w.sleepLane := rfl
@[simp] theorem Wave.setK_tryLead (w : Wave) (i x : Nat) : (w.setK i x).tryLead = w.tryLead := rfl
@[simp] theorem Wave.setK_tryLane (w : Wave) (i x : Nat) : (w.setK i x).tryLane = w.tryLane := rfl
@[simp] theorem Wave.setK_promoted (w : Wave) (i x : Nat) : (w.setK i x).promoted = w.promoted := rfl
@[simp] theorem Wave.setK_dirty (w : Wave) (i x : Nat) : (w.setK i x).dirty = w.dirty := rfl
@[simp] theorem Wave.setK_winBase (w : Wave) (i x : Nat) : (w.setK i x).winBase = w.winBase := rfl
@[simp] theorem Wave.setK_winNext (w : Wave) (i x : Nat) : (w.setK i x).winNext = w.winNext := rfl
@[simp] theorem Wave.setK_winFirst (w : Wave) (i x : Nat) : (w.setK i x).winFirst = w.winFirst := rfl
@[simp] theorem Wave.setK_winRecs0 (w : Wave) (i x : Nat) : (w.setK i x).winRecs0 = w.winRecs0 := rfl
@[simp] theorem Wave.setK_winRecs1 (w : Wave) (i x : Nat) : (w.setK i x).winRecs1 = w.winRecs1 := rfl
@[simp] theorem Wave.setK_bseq (w : Wave) (i x : Nat) : (w.setK i x).bseq = w.bseq := rfl
@[simp] theorem Wave.setK_batches (w : Wave) (i x : Nat) : (w.setK i x).batches = w.batches := rfl
@[simp] theorem Wave.setK_open_ (w : Wave) (i x : Nat) : (w.setK i x).open_ = w.open_ := rfl
@[simp] theorem Wave.setK_pendTrap (w : Wave) (i x : Nat) : (w.setK i x).pendTrap = w.pendTrap := rfl
@[simp] theorem Wave.setK_trapOp (w : Wave) (i x : Nat) : (w.setK i x).trapOp = w.trapOp := rfl
@[simp] theorem Wave.setK_trapLane (w : Wave) (i x : Nat) : (w.setK i x).trapLane = w.trapLane := rfl
@[simp] theorem Wave.setK_stopped (w : Wave) (i x : Nat) : (w.setK i x).stopped = w.stopped := rfl
@[simp] theorem Wave.setK_refused (w : Wave) (i x : Nat) : (w.setK i x).refused = w.refused := rfl
@[simp] theorem Wave.setK_nrec (w : Wave) (i x : Nat) : (w.setK i x).nrec = w.nrec := rfl
@[simp] theorem Wave.setK_holding (w : Wave) (i x : Nat) : (w.setK i x).holding = w.holding := rfl

@[simp] theorem Wave.pushRq_core (w : Wave) (x : Nat) : (w.pushRq x).core = w.core := rfl
@[simp] theorem Wave.pushRq_slot (w : Wave) (x : Nat) : (w.pushRq x).slot = w.slot := rfl
@[simp] theorem Wave.pushRq_mgmt (w : Wave) (x : Nat) : (w.pushRq x).mgmt = w.mgmt := rfl
@[simp] theorem Wave.pushRq_status (w : Wave) (x : Nat) : (w.pushRq x).status = w.status := rfl
@[simp] theorem Wave.pushRq_key (w : Wave) (x : Nat) : (w.pushRq x).key = w.key := rfl
@[simp] theorem Wave.pushRq_waveid (w : Wave) (x : Nat) : (w.pushRq x).waveid = w.waveid := rfl
@[simp] theorem Wave.pushRq_role (w : Wave) (x : Nat) : (w.pushRq x).role = w.role := rfl
@[simp] theorem Wave.pushRq_pcls (w : Wave) (x : Nat) : (w.pushRq x).pcls = w.pcls := rfl
@[simp] theorem Wave.pushRq_width (w : Wave) (x : Nat) : (w.pushRq x).width = w.width := rfl
@[simp] theorem Wave.pushRq_poolpart (w : Wave) (x : Nat) : (w.pushRq x).poolpart = w.poolpart := rfl
@[simp] theorem Wave.pushRq_j (w : Wave) (x : Nat) : (w.pushRq x).j = w.j := rfl
@[simp] theorem Wave.pushRq_k (w : Wave) (x : Nat) : (w.pushRq x).k = w.k := rfl
@[simp] theorem Wave.pushRq_prio (w : Wave) (x : Nat) : (w.pushRq x).prio = w.prio := rfl
@[simp] theorem Wave.pushRq_leadPc (w : Wave) (x : Nat) : (w.pushRq x).leadPc = w.leadPc := rfl
@[simp] theorem Wave.pushRq_lanePc (w : Wave) (x : Nat) : (w.pushRq x).lanePc = w.lanePc := rfl
@[simp] theorem Wave.pushRq_leadDone (w : Wave) (x : Nat) : (w.pushRq x).leadDone = w.leadDone := rfl
@[simp] theorem Wave.pushRq_laneDone (w : Wave) (x : Nat) : (w.pushRq x).laneDone = w.laneDone := rfl
@[simp] theorem Wave.pushRq_inTrap (w : Wave) (x : Nat) : (w.pushRq x).inTrap = w.inTrap := rfl
@[simp] theorem Wave.pushRq_aborted (w : Wave) (x : Nat) : (w.pushRq x).aborted = w.aborted := rfl
@[simp] theorem Wave.pushRq_exec (w : Wave) (x : Nat) : (w.pushRq x).exec = w.exec := rfl
@[simp] theorem Wave.pushRq_helper (w : Wave) (x : Nat) : (w.pushRq x).helper = w.helper := rfl
@[simp] theorem Wave.pushRq_kreg (w : Wave) (x : Nat) : (w.pushRq x).kreg = w.kreg := rfl
@[simp] theorem Wave.pushRq_v (w : Wave) (x : Nat) : (w.pushRq x).v = w.v := rfl
@[simp] theorem Wave.pushRq_sect (w : Wave) (x : Nat) : (w.pushRq x).sect = w.sect := rfl
@[simp] theorem Wave.pushRq_s (w : Wave) (x : Nat) : (w.pushRq x).s = w.s := rfl
@[simp] theorem Wave.pushRq_c (w : Wave) (x : Nat) : (w.pushRq x).c = w.c := rfl
@[simp] theorem Wave.pushRq_g (w : Wave) (x : Nat) : (w.pushRq x).g = w.g := rfl
@[simp] theorem Wave.pushRq_rnd (w : Wave) (x : Nat) : (w.pushRq x).rnd = w.rnd := rfl
@[simp] theorem Wave.pushRq_tcause (w : Wave) (x : Nat) : (w.pushRq x).tcause = w.tcause := rfl
@[simp] theorem Wave.pushRq_tpclead (w : Wave) (x : Nat) : (w.pushRq x).tpclead = w.tpclead := rfl
@[simp] theorem Wave.pushRq_tpclane (w : Wave) (x : Nat) : (w.pushRq x).tpclane = w.tpclane := rfl
@[simp] theorem Wave.pushRq_flanes (w : Wave) (x : Nat) : (w.pushRq x).flanes = w.flanes := rfl
@[simp] theorem Wave.pushRq_taddr (w : Wave) (x : Nat) : (w.pushRq x).taddr = w.taddr := rfl
@[simp] theorem Wave.pushRq_tinfo (w : Wave) (x : Nat) : (w.pushRq x).tinfo = w.tinfo := rfl
@[simp] theorem Wave.pushRq_cyc (w : Wave) (x : Nat) : (w.pushRq x).cyc = w.cyc := rfl
@[simp] theorem Wave.pushRq_lq (w : Wave) (x : Nat) : (w.pushRq x).lq = w.lq := rfl
@[simp] theorem Wave.pushRq_dq (w : Wave) (x : Nat) : (w.pushRq x).dq = w.dq := rfl
@[simp] theorem Wave.pushRq_rq (w : Wave) (x : Nat) : (w.pushRq x).rq = w.rq ++ [BitVec.ofNat 64 x] := rfl
@[simp] theorem Wave.pushRq_stack (w : Wave) (x : Nat) : (w.pushRq x).stack = w.stack := rfl
@[simp] theorem Wave.pushRq_spill (w : Wave) (x : Nat) : (w.pushRq x).spill = w.spill := rfl
@[simp] theorem Wave.pushRq_spillBase (w : Wave) (x : Nat) : (w.pushRq x).spillBase = w.spillBase := rfl
@[simp] theorem Wave.pushRq_ops (w : Wave) (x : Nat) : (w.pushRq x).ops = w.ops := rfl
@[simp] theorem Wave.pushRq_deferred (w : Wave) (x : Nat) : (w.pushRq x).deferred = w.deferred := rfl
@[simp] theorem Wave.pushRq_starve (w : Wave) (x : Nat) : (w.pushRq x).starve = w.starve := rfl
@[simp] theorem Wave.pushRq_deadlock (w : Wave) (x : Nat) : (w.pushRq x).deadlock = w.deadlock := rfl
@[simp] theorem Wave.pushRq_parkCount (w : Wave) (x : Nat) : (w.pushRq x).parkCount = w.parkCount := rfl
@[simp] theorem Wave.pushRq_ageLead (w : Wave) (x : Nat) : (w.pushRq x).ageLead = w.ageLead := rfl
@[simp] theorem Wave.pushRq_ageLane (w : Wave) (x : Nat) : (w.pushRq x).ageLane = w.ageLane := rfl
@[simp] theorem Wave.pushRq_yieldLead (w : Wave) (x : Nat) : (w.pushRq x).yieldLead = w.yieldLead := rfl
@[simp] theorem Wave.pushRq_yieldLane (w : Wave) (x : Nat) : (w.pushRq x).yieldLane = w.yieldLane := rfl
@[simp] theorem Wave.pushRq_sleepLead (w : Wave) (x : Nat) : (w.pushRq x).sleepLead = w.sleepLead := rfl
@[simp] theorem Wave.pushRq_sleepLane (w : Wave) (x : Nat) : (w.pushRq x).sleepLane = w.sleepLane := rfl
@[simp] theorem Wave.pushRq_tryLead (w : Wave) (x : Nat) : (w.pushRq x).tryLead = w.tryLead := rfl
@[simp] theorem Wave.pushRq_tryLane (w : Wave) (x : Nat) : (w.pushRq x).tryLane = w.tryLane := rfl
@[simp] theorem Wave.pushRq_promoted (w : Wave) (x : Nat) : (w.pushRq x).promoted = w.promoted := rfl
@[simp] theorem Wave.pushRq_dirty (w : Wave) (x : Nat) : (w.pushRq x).dirty = w.dirty := rfl
@[simp] theorem Wave.pushRq_winBase (w : Wave) (x : Nat) : (w.pushRq x).winBase = w.winBase := rfl
@[simp] theorem Wave.pushRq_winNext (w : Wave) (x : Nat) : (w.pushRq x).winNext = w.winNext := rfl
@[simp] theorem Wave.pushRq_winFirst (w : Wave) (x : Nat) : (w.pushRq x).winFirst = w.winFirst := rfl
@[simp] theorem Wave.pushRq_winRecs0 (w : Wave) (x : Nat) : (w.pushRq x).winRecs0 = w.winRecs0 := rfl
@[simp] theorem Wave.pushRq_winRecs1 (w : Wave) (x : Nat) : (w.pushRq x).winRecs1 = w.winRecs1 := rfl
@[simp] theorem Wave.pushRq_bseq (w : Wave) (x : Nat) : (w.pushRq x).bseq = w.bseq := rfl
@[simp] theorem Wave.pushRq_batches (w : Wave) (x : Nat) : (w.pushRq x).batches = w.batches := rfl
@[simp] theorem Wave.pushRq_open_ (w : Wave) (x : Nat) : (w.pushRq x).open_ = w.open_ := rfl
@[simp] theorem Wave.pushRq_pendTrap (w : Wave) (x : Nat) : (w.pushRq x).pendTrap = w.pendTrap := rfl
@[simp] theorem Wave.pushRq_trapOp (w : Wave) (x : Nat) : (w.pushRq x).trapOp = w.trapOp := rfl
@[simp] theorem Wave.pushRq_trapLane (w : Wave) (x : Nat) : (w.pushRq x).trapLane = w.trapLane := rfl
@[simp] theorem Wave.pushRq_stopped (w : Wave) (x : Nat) : (w.pushRq x).stopped = w.stopped := rfl
@[simp] theorem Wave.pushRq_refused (w : Wave) (x : Nat) : (w.pushRq x).refused = w.refused := rfl
@[simp] theorem Wave.pushRq_nrec (w : Wave) (x : Nat) : (w.pushRq x).nrec = w.nrec := rfl
@[simp] theorem Wave.pushRq_holding (w : Wave) (x : Nat) : (w.pushRq x).holding = w.holding := rfl

@[simp] theorem Wave.setPc_core (w : Wave) (st : Stream) (pc : Nat) : (w.setPc st pc).core = w.core := by cases st <;> rfl
@[simp] theorem Wave.setPc_slot (w : Wave) (st : Stream) (pc : Nat) : (w.setPc st pc).slot = w.slot := by cases st <;> rfl
@[simp] theorem Wave.setPc_mgmt (w : Wave) (st : Stream) (pc : Nat) : (w.setPc st pc).mgmt = w.mgmt := by cases st <;> rfl
@[simp] theorem Wave.setPc_status (w : Wave) (st : Stream) (pc : Nat) : (w.setPc st pc).status = w.status := by cases st <;> rfl
@[simp] theorem Wave.setPc_key (w : Wave) (st : Stream) (pc : Nat) : (w.setPc st pc).key = w.key := by cases st <;> rfl
@[simp] theorem Wave.setPc_waveid (w : Wave) (st : Stream) (pc : Nat) : (w.setPc st pc).waveid = w.waveid := by cases st <;> rfl
@[simp] theorem Wave.setPc_role (w : Wave) (st : Stream) (pc : Nat) : (w.setPc st pc).role = w.role := by cases st <;> rfl
@[simp] theorem Wave.setPc_pcls (w : Wave) (st : Stream) (pc : Nat) : (w.setPc st pc).pcls = w.pcls := by cases st <;> rfl
@[simp] theorem Wave.setPc_width (w : Wave) (st : Stream) (pc : Nat) : (w.setPc st pc).width = w.width := by cases st <;> rfl
@[simp] theorem Wave.setPc_poolpart (w : Wave) (st : Stream) (pc : Nat) : (w.setPc st pc).poolpart = w.poolpart := by cases st <;> rfl
@[simp] theorem Wave.setPc_j (w : Wave) (st : Stream) (pc : Nat) : (w.setPc st pc).j = w.j := by cases st <;> rfl
@[simp] theorem Wave.setPc_k (w : Wave) (st : Stream) (pc : Nat) : (w.setPc st pc).k = w.k := by cases st <;> rfl
@[simp] theorem Wave.setPc_prio (w : Wave) (st : Stream) (pc : Nat) : (w.setPc st pc).prio = w.prio := by cases st <;> rfl
@[simp] theorem Wave.setPc_leadDone (w : Wave) (st : Stream) (pc : Nat) : (w.setPc st pc).leadDone = w.leadDone := by cases st <;> rfl
@[simp] theorem Wave.setPc_laneDone (w : Wave) (st : Stream) (pc : Nat) : (w.setPc st pc).laneDone = w.laneDone := by cases st <;> rfl
@[simp] theorem Wave.setPc_inTrap (w : Wave) (st : Stream) (pc : Nat) : (w.setPc st pc).inTrap = w.inTrap := by cases st <;> rfl
@[simp] theorem Wave.setPc_aborted (w : Wave) (st : Stream) (pc : Nat) : (w.setPc st pc).aborted = w.aborted := by cases st <;> rfl
@[simp] theorem Wave.setPc_exec (w : Wave) (st : Stream) (pc : Nat) : (w.setPc st pc).exec = w.exec := by cases st <;> rfl
@[simp] theorem Wave.setPc_helper (w : Wave) (st : Stream) (pc : Nat) : (w.setPc st pc).helper = w.helper := by cases st <;> rfl
@[simp] theorem Wave.setPc_kreg (w : Wave) (st : Stream) (pc : Nat) : (w.setPc st pc).kreg = w.kreg := by cases st <;> rfl
@[simp] theorem Wave.setPc_v (w : Wave) (st : Stream) (pc : Nat) : (w.setPc st pc).v = w.v := by cases st <;> rfl
@[simp] theorem Wave.setPc_sect (w : Wave) (st : Stream) (pc : Nat) : (w.setPc st pc).sect = w.sect := by cases st <;> rfl
@[simp] theorem Wave.setPc_s (w : Wave) (st : Stream) (pc : Nat) : (w.setPc st pc).s = w.s := by cases st <;> rfl
@[simp] theorem Wave.setPc_c (w : Wave) (st : Stream) (pc : Nat) : (w.setPc st pc).c = w.c := by cases st <;> rfl
@[simp] theorem Wave.setPc_g (w : Wave) (st : Stream) (pc : Nat) : (w.setPc st pc).g = w.g := by cases st <;> rfl
@[simp] theorem Wave.setPc_rnd (w : Wave) (st : Stream) (pc : Nat) : (w.setPc st pc).rnd = w.rnd := by cases st <;> rfl
@[simp] theorem Wave.setPc_tcause (w : Wave) (st : Stream) (pc : Nat) : (w.setPc st pc).tcause = w.tcause := by cases st <;> rfl
@[simp] theorem Wave.setPc_tpclead (w : Wave) (st : Stream) (pc : Nat) : (w.setPc st pc).tpclead = w.tpclead := by cases st <;> rfl
@[simp] theorem Wave.setPc_tpclane (w : Wave) (st : Stream) (pc : Nat) : (w.setPc st pc).tpclane = w.tpclane := by cases st <;> rfl
@[simp] theorem Wave.setPc_flanes (w : Wave) (st : Stream) (pc : Nat) : (w.setPc st pc).flanes = w.flanes := by cases st <;> rfl
@[simp] theorem Wave.setPc_taddr (w : Wave) (st : Stream) (pc : Nat) : (w.setPc st pc).taddr = w.taddr := by cases st <;> rfl
@[simp] theorem Wave.setPc_tinfo (w : Wave) (st : Stream) (pc : Nat) : (w.setPc st pc).tinfo = w.tinfo := by cases st <;> rfl
@[simp] theorem Wave.setPc_cyc (w : Wave) (st : Stream) (pc : Nat) : (w.setPc st pc).cyc = w.cyc := by cases st <;> rfl
@[simp] theorem Wave.setPc_lq (w : Wave) (st : Stream) (pc : Nat) : (w.setPc st pc).lq = w.lq := by cases st <;> rfl
@[simp] theorem Wave.setPc_dq (w : Wave) (st : Stream) (pc : Nat) : (w.setPc st pc).dq = w.dq := by cases st <;> rfl
@[simp] theorem Wave.setPc_rq (w : Wave) (st : Stream) (pc : Nat) : (w.setPc st pc).rq = w.rq := by cases st <;> rfl
@[simp] theorem Wave.setPc_stack (w : Wave) (st : Stream) (pc : Nat) : (w.setPc st pc).stack = w.stack := by cases st <;> rfl
@[simp] theorem Wave.setPc_spill (w : Wave) (st : Stream) (pc : Nat) : (w.setPc st pc).spill = w.spill := by cases st <;> rfl
@[simp] theorem Wave.setPc_spillBase (w : Wave) (st : Stream) (pc : Nat) : (w.setPc st pc).spillBase = w.spillBase := by cases st <;> rfl
@[simp] theorem Wave.setPc_ops (w : Wave) (st : Stream) (pc : Nat) : (w.setPc st pc).ops = w.ops := by cases st <;> rfl
@[simp] theorem Wave.setPc_deferred (w : Wave) (st : Stream) (pc : Nat) : (w.setPc st pc).deferred = w.deferred := by cases st <;> rfl
@[simp] theorem Wave.setPc_starve (w : Wave) (st : Stream) (pc : Nat) : (w.setPc st pc).starve = w.starve := by cases st <;> rfl
@[simp] theorem Wave.setPc_deadlock (w : Wave) (st : Stream) (pc : Nat) : (w.setPc st pc).deadlock = w.deadlock := by cases st <;> rfl
@[simp] theorem Wave.setPc_parkCount (w : Wave) (st : Stream) (pc : Nat) : (w.setPc st pc).parkCount = w.parkCount := by cases st <;> rfl
@[simp] theorem Wave.setPc_ageLead (w : Wave) (st : Stream) (pc : Nat) : (w.setPc st pc).ageLead = w.ageLead := by cases st <;> rfl
@[simp] theorem Wave.setPc_ageLane (w : Wave) (st : Stream) (pc : Nat) : (w.setPc st pc).ageLane = w.ageLane := by cases st <;> rfl
@[simp] theorem Wave.setPc_yieldLead (w : Wave) (st : Stream) (pc : Nat) : (w.setPc st pc).yieldLead = w.yieldLead := by cases st <;> rfl
@[simp] theorem Wave.setPc_yieldLane (w : Wave) (st : Stream) (pc : Nat) : (w.setPc st pc).yieldLane = w.yieldLane := by cases st <;> rfl
@[simp] theorem Wave.setPc_sleepLead (w : Wave) (st : Stream) (pc : Nat) : (w.setPc st pc).sleepLead = w.sleepLead := by cases st <;> rfl
@[simp] theorem Wave.setPc_sleepLane (w : Wave) (st : Stream) (pc : Nat) : (w.setPc st pc).sleepLane = w.sleepLane := by cases st <;> rfl
@[simp] theorem Wave.setPc_tryLead (w : Wave) (st : Stream) (pc : Nat) : (w.setPc st pc).tryLead = w.tryLead := by cases st <;> rfl
@[simp] theorem Wave.setPc_tryLane (w : Wave) (st : Stream) (pc : Nat) : (w.setPc st pc).tryLane = w.tryLane := by cases st <;> rfl
@[simp] theorem Wave.setPc_promoted (w : Wave) (st : Stream) (pc : Nat) : (w.setPc st pc).promoted = w.promoted := by cases st <;> rfl
@[simp] theorem Wave.setPc_dirty (w : Wave) (st : Stream) (pc : Nat) : (w.setPc st pc).dirty = w.dirty := by cases st <;> rfl
@[simp] theorem Wave.setPc_winBase (w : Wave) (st : Stream) (pc : Nat) : (w.setPc st pc).winBase = w.winBase := by cases st <;> rfl
@[simp] theorem Wave.setPc_winNext (w : Wave) (st : Stream) (pc : Nat) : (w.setPc st pc).winNext = w.winNext := by cases st <;> rfl
@[simp] theorem Wave.setPc_winFirst (w : Wave) (st : Stream) (pc : Nat) : (w.setPc st pc).winFirst = w.winFirst := by cases st <;> rfl
@[simp] theorem Wave.setPc_winRecs0 (w : Wave) (st : Stream) (pc : Nat) : (w.setPc st pc).winRecs0 = w.winRecs0 := by cases st <;> rfl
@[simp] theorem Wave.setPc_winRecs1 (w : Wave) (st : Stream) (pc : Nat) : (w.setPc st pc).winRecs1 = w.winRecs1 := by cases st <;> rfl
@[simp] theorem Wave.setPc_bseq (w : Wave) (st : Stream) (pc : Nat) : (w.setPc st pc).bseq = w.bseq := by cases st <;> rfl
@[simp] theorem Wave.setPc_batches (w : Wave) (st : Stream) (pc : Nat) : (w.setPc st pc).batches = w.batches := by cases st <;> rfl
@[simp] theorem Wave.setPc_open_ (w : Wave) (st : Stream) (pc : Nat) : (w.setPc st pc).open_ = w.open_ := by cases st <;> rfl
@[simp] theorem Wave.setPc_pendTrap (w : Wave) (st : Stream) (pc : Nat) : (w.setPc st pc).pendTrap = w.pendTrap := by cases st <;> rfl
@[simp] theorem Wave.setPc_trapOp (w : Wave) (st : Stream) (pc : Nat) : (w.setPc st pc).trapOp = w.trapOp := by cases st <;> rfl
@[simp] theorem Wave.setPc_trapLane (w : Wave) (st : Stream) (pc : Nat) : (w.setPc st pc).trapLane = w.trapLane := by cases st <;> rfl
@[simp] theorem Wave.setPc_stopped (w : Wave) (st : Stream) (pc : Nat) : (w.setPc st pc).stopped = w.stopped := by cases st <;> rfl
@[simp] theorem Wave.setPc_refused (w : Wave) (st : Stream) (pc : Nat) : (w.setPc st pc).refused = w.refused := by cases st <;> rfl
@[simp] theorem Wave.setPc_nrec (w : Wave) (st : Stream) (pc : Nat) : (w.setPc st pc).nrec = w.nrec := by cases st <;> rfl
@[simp] theorem Wave.setPc_holding (w : Wave) (st : Stream) (pc : Nat) : (w.setPc st pc).holding = w.holding := by cases st <;> rfl
@[simp] theorem Wave.setPc_lead (w : Wave) (pc : Nat) : w.setPc .lead pc = { w with leadPc := pc } := rfl
@[simp] theorem Wave.setPc_lane (w : Wave) (pc : Nat) : w.setPc .lane pc = { w with lanePc := pc } := rfl
@[simp] theorem Wave.pcOf_lead (w : Wave) : w.pcOf .lead = w.leadPc := rfl
@[simp] theorem Wave.pcOf_lane (w : Wave) : w.pcOf .lane = w.lanePc := rfl

@[simp] theorem Wave.attempt_core (w : Wave) (st : Stream) (x : Attempt) : (w.attempt st x).core = w.core := by cases st <;> rfl
@[simp] theorem Wave.attempt_slot (w : Wave) (st : Stream) (x : Attempt) : (w.attempt st x).slot = w.slot := by cases st <;> rfl
@[simp] theorem Wave.attempt_mgmt (w : Wave) (st : Stream) (x : Attempt) : (w.attempt st x).mgmt = w.mgmt := by cases st <;> rfl
@[simp] theorem Wave.attempt_status (w : Wave) (st : Stream) (x : Attempt) : (w.attempt st x).status = w.status := by cases st <;> rfl
@[simp] theorem Wave.attempt_key (w : Wave) (st : Stream) (x : Attempt) : (w.attempt st x).key = w.key := by cases st <;> rfl
@[simp] theorem Wave.attempt_waveid (w : Wave) (st : Stream) (x : Attempt) : (w.attempt st x).waveid = w.waveid := by cases st <;> rfl
@[simp] theorem Wave.attempt_role (w : Wave) (st : Stream) (x : Attempt) : (w.attempt st x).role = w.role := by cases st <;> rfl
@[simp] theorem Wave.attempt_pcls (w : Wave) (st : Stream) (x : Attempt) : (w.attempt st x).pcls = w.pcls := by cases st <;> rfl
@[simp] theorem Wave.attempt_width (w : Wave) (st : Stream) (x : Attempt) : (w.attempt st x).width = w.width := by cases st <;> rfl
@[simp] theorem Wave.attempt_poolpart (w : Wave) (st : Stream) (x : Attempt) : (w.attempt st x).poolpart = w.poolpart := by cases st <;> rfl
@[simp] theorem Wave.attempt_j (w : Wave) (st : Stream) (x : Attempt) : (w.attempt st x).j = w.j := by cases st <;> rfl
@[simp] theorem Wave.attempt_k (w : Wave) (st : Stream) (x : Attempt) : (w.attempt st x).k = w.k := by cases st <;> rfl
@[simp] theorem Wave.attempt_prio (w : Wave) (st : Stream) (x : Attempt) : (w.attempt st x).prio = w.prio := by cases st <;> rfl
@[simp] theorem Wave.attempt_leadPc (w : Wave) (st : Stream) (x : Attempt) : (w.attempt st x).leadPc = w.leadPc := by cases st <;> rfl
@[simp] theorem Wave.attempt_lanePc (w : Wave) (st : Stream) (x : Attempt) : (w.attempt st x).lanePc = w.lanePc := by cases st <;> rfl
@[simp] theorem Wave.attempt_leadDone (w : Wave) (st : Stream) (x : Attempt) : (w.attempt st x).leadDone = w.leadDone := by cases st <;> rfl
@[simp] theorem Wave.attempt_laneDone (w : Wave) (st : Stream) (x : Attempt) : (w.attempt st x).laneDone = w.laneDone := by cases st <;> rfl
@[simp] theorem Wave.attempt_inTrap (w : Wave) (st : Stream) (x : Attempt) : (w.attempt st x).inTrap = w.inTrap := by cases st <;> rfl
@[simp] theorem Wave.attempt_aborted (w : Wave) (st : Stream) (x : Attempt) : (w.attempt st x).aborted = w.aborted := by cases st <;> rfl
@[simp] theorem Wave.attempt_exec (w : Wave) (st : Stream) (x : Attempt) : (w.attempt st x).exec = w.exec := by cases st <;> rfl
@[simp] theorem Wave.attempt_helper (w : Wave) (st : Stream) (x : Attempt) : (w.attempt st x).helper = w.helper := by cases st <;> rfl
@[simp] theorem Wave.attempt_kreg (w : Wave) (st : Stream) (x : Attempt) : (w.attempt st x).kreg = w.kreg := by cases st <;> rfl
@[simp] theorem Wave.attempt_v (w : Wave) (st : Stream) (x : Attempt) : (w.attempt st x).v = w.v := by cases st <;> rfl
@[simp] theorem Wave.attempt_sect (w : Wave) (st : Stream) (x : Attempt) : (w.attempt st x).sect = w.sect := by cases st <;> rfl
@[simp] theorem Wave.attempt_s (w : Wave) (st : Stream) (x : Attempt) : (w.attempt st x).s = w.s := by cases st <;> rfl
@[simp] theorem Wave.attempt_c (w : Wave) (st : Stream) (x : Attempt) : (w.attempt st x).c = w.c := by cases st <;> rfl
@[simp] theorem Wave.attempt_g (w : Wave) (st : Stream) (x : Attempt) : (w.attempt st x).g = w.g := by cases st <;> rfl
@[simp] theorem Wave.attempt_rnd (w : Wave) (st : Stream) (x : Attempt) : (w.attempt st x).rnd = w.rnd := by cases st <;> rfl
@[simp] theorem Wave.attempt_tcause (w : Wave) (st : Stream) (x : Attempt) : (w.attempt st x).tcause = w.tcause := by cases st <;> rfl
@[simp] theorem Wave.attempt_tpclead (w : Wave) (st : Stream) (x : Attempt) : (w.attempt st x).tpclead = w.tpclead := by cases st <;> rfl
@[simp] theorem Wave.attempt_tpclane (w : Wave) (st : Stream) (x : Attempt) : (w.attempt st x).tpclane = w.tpclane := by cases st <;> rfl
@[simp] theorem Wave.attempt_flanes (w : Wave) (st : Stream) (x : Attempt) : (w.attempt st x).flanes = w.flanes := by cases st <;> rfl
@[simp] theorem Wave.attempt_taddr (w : Wave) (st : Stream) (x : Attempt) : (w.attempt st x).taddr = w.taddr := by cases st <;> rfl
@[simp] theorem Wave.attempt_tinfo (w : Wave) (st : Stream) (x : Attempt) : (w.attempt st x).tinfo = w.tinfo := by cases st <;> rfl
@[simp] theorem Wave.attempt_cyc (w : Wave) (st : Stream) (x : Attempt) : (w.attempt st x).cyc = w.cyc := by cases st <;> rfl
@[simp] theorem Wave.attempt_lq (w : Wave) (st : Stream) (x : Attempt) : (w.attempt st x).lq = w.lq := by cases st <;> rfl
@[simp] theorem Wave.attempt_dq (w : Wave) (st : Stream) (x : Attempt) : (w.attempt st x).dq = w.dq := by cases st <;> rfl
@[simp] theorem Wave.attempt_rq (w : Wave) (st : Stream) (x : Attempt) : (w.attempt st x).rq = w.rq := by cases st <;> rfl
@[simp] theorem Wave.attempt_stack (w : Wave) (st : Stream) (x : Attempt) : (w.attempt st x).stack = w.stack := by cases st <;> rfl
@[simp] theorem Wave.attempt_spill (w : Wave) (st : Stream) (x : Attempt) : (w.attempt st x).spill = w.spill := by cases st <;> rfl
@[simp] theorem Wave.attempt_spillBase (w : Wave) (st : Stream) (x : Attempt) : (w.attempt st x).spillBase = w.spillBase := by cases st <;> rfl
@[simp] theorem Wave.attempt_ops (w : Wave) (st : Stream) (x : Attempt) : (w.attempt st x).ops = w.ops := by cases st <;> rfl
@[simp] theorem Wave.attempt_deferred (w : Wave) (st : Stream) (x : Attempt) : (w.attempt st x).deferred = w.deferred := by cases st <;> rfl
@[simp] theorem Wave.attempt_starve (w : Wave) (st : Stream) (x : Attempt) : (w.attempt st x).starve = w.starve := by cases st <;> rfl
@[simp] theorem Wave.attempt_deadlock (w : Wave) (st : Stream) (x : Attempt) : (w.attempt st x).deadlock = w.deadlock := by cases st <;> rfl
@[simp] theorem Wave.attempt_parkCount (w : Wave) (st : Stream) (x : Attempt) : (w.attempt st x).parkCount = w.parkCount := by cases st <;> rfl
@[simp] theorem Wave.attempt_ageLead (w : Wave) (st : Stream) (x : Attempt) : (w.attempt st x).ageLead = w.ageLead := by cases st <;> rfl
@[simp] theorem Wave.attempt_ageLane (w : Wave) (st : Stream) (x : Attempt) : (w.attempt st x).ageLane = w.ageLane := by cases st <;> rfl
@[simp] theorem Wave.attempt_yieldLead (w : Wave) (st : Stream) (x : Attempt) : (w.attempt st x).yieldLead = w.yieldLead := by cases st <;> rfl
@[simp] theorem Wave.attempt_yieldLane (w : Wave) (st : Stream) (x : Attempt) : (w.attempt st x).yieldLane = w.yieldLane := by cases st <;> rfl
@[simp] theorem Wave.attempt_sleepLead (w : Wave) (st : Stream) (x : Attempt) : (w.attempt st x).sleepLead = w.sleepLead := by cases st <;> rfl
@[simp] theorem Wave.attempt_sleepLane (w : Wave) (st : Stream) (x : Attempt) : (w.attempt st x).sleepLane = w.sleepLane := by cases st <;> rfl
@[simp] theorem Wave.attempt_promoted (w : Wave) (st : Stream) (x : Attempt) : (w.attempt st x).promoted = w.promoted := by cases st <;> rfl
@[simp] theorem Wave.attempt_dirty (w : Wave) (st : Stream) (x : Attempt) : (w.attempt st x).dirty = w.dirty := by cases st <;> rfl
@[simp] theorem Wave.attempt_winBase (w : Wave) (st : Stream) (x : Attempt) : (w.attempt st x).winBase = w.winBase := by cases st <;> rfl
@[simp] theorem Wave.attempt_winNext (w : Wave) (st : Stream) (x : Attempt) : (w.attempt st x).winNext = w.winNext := by cases st <;> rfl
@[simp] theorem Wave.attempt_winFirst (w : Wave) (st : Stream) (x : Attempt) : (w.attempt st x).winFirst = w.winFirst := by cases st <;> rfl
@[simp] theorem Wave.attempt_winRecs0 (w : Wave) (st : Stream) (x : Attempt) : (w.attempt st x).winRecs0 = w.winRecs0 := by cases st <;> rfl
@[simp] theorem Wave.attempt_winRecs1 (w : Wave) (st : Stream) (x : Attempt) : (w.attempt st x).winRecs1 = w.winRecs1 := by cases st <;> rfl
@[simp] theorem Wave.attempt_bseq (w : Wave) (st : Stream) (x : Attempt) : (w.attempt st x).bseq = w.bseq := by cases st <;> rfl
@[simp] theorem Wave.attempt_batches (w : Wave) (st : Stream) (x : Attempt) : (w.attempt st x).batches = w.batches := by cases st <;> rfl
@[simp] theorem Wave.attempt_open_ (w : Wave) (st : Stream) (x : Attempt) : (w.attempt st x).open_ = w.open_ := by cases st <;> rfl
@[simp] theorem Wave.attempt_pendTrap (w : Wave) (st : Stream) (x : Attempt) : (w.attempt st x).pendTrap = w.pendTrap := by cases st <;> rfl
@[simp] theorem Wave.attempt_trapOp (w : Wave) (st : Stream) (x : Attempt) : (w.attempt st x).trapOp = w.trapOp := by cases st <;> rfl
@[simp] theorem Wave.attempt_trapLane (w : Wave) (st : Stream) (x : Attempt) : (w.attempt st x).trapLane = w.trapLane := by cases st <;> rfl
@[simp] theorem Wave.attempt_stopped (w : Wave) (st : Stream) (x : Attempt) : (w.attempt st x).stopped = w.stopped := by cases st <;> rfl
@[simp] theorem Wave.attempt_refused (w : Wave) (st : Stream) (x : Attempt) : (w.attempt st x).refused = w.refused := by cases st <;> rfl
@[simp] theorem Wave.attempt_nrec (w : Wave) (st : Stream) (x : Attempt) : (w.attempt st x).nrec = w.nrec := by cases st <;> rfl
@[simp] theorem Wave.attempt_holding (w : Wave) (st : Stream) (x : Attempt) : (w.attempt st x).holding = w.holding := by cases st <;> rfl

end Sys2Proof.Machine
end

