-- ==== Sys2Proof/Laws/Issue.lean ====
section
/-! SUPPORT. What issuing an instruction does, once: the lemmas that a proof about one instruction cites. -/
namespace Sys2Proof.Machine
open Sys2Proof.Claims

/-! ## Issuing -/

/-- What a stop is charged: a fault or miss of a legal instruction has issued, any other stop has not. -/
@[simp] theorem State.stopCharge_trap (s : State) (weight c a b d : Nat) :
    s.stopCharge weight (.trap c a b d) = if c = causeOpcode then s else s.billed weight := rfl
@[simp] theorem State.stopCharge_miss (s : State) (weight a b c : Nat) : s.stopCharge weight (.miss a b c) = s.billed weight := rfl
@[simp] theorem State.stopCharge_stall (s : State) (weight : Nat) : s.stopCharge weight .stall = s := rfl
@[simp] theorem State.stopCharge_unpaid (s : State) (weight : Nat) : s.stopCharge weight .unpaid = s := rfl
@[simp] theorem State.stopCharge_deferred (s : State) (weight : Nat) : s.stopCharge weight .deferred = s := rfl

/-- An encoding that a wave's stream may issue has no fault of its own. -/
theorem encStop_none {s : State} {i : Instr} {st : Option Stream} {st' : Stream} {kmask weight : Nat}
    (h : Issues s st' weight) (hst : st.getD st' = st') : s.encStop i st kmask none = none := by
  obtain ⟨_, h2, h3, _, _⟩ := h
  subst h2
  simp [State.encStop, h3, hst]

/-- Issuing, where the flag of the turn is down: the checks in their order, then the body. -/
theorem issue_eq {s : State} (h : s.stalled = false) (i : Instr) (st : Option Stream) (kmask weight : Nat)
    (legal : Option EncFault) (body : State → R State) :
    s.issue i st kmask weight legal body =
      if s.mayIssue = false then .next { s with stalled := true }
      else match s.encStop i st kmask legal with
        | some x => .next (s.stopWith i.word0 x)
        | none =>
          match body s with
          | .ok s' =>
            if s.covered weight then .next (if s'.stalled then { s'.billed weight with stalled := false } else s'.issued weight)
            else .next (s.stopWith i.word0 .unpaid)
          | .error x =>
            if s.covered weight ∨ x = .stall then .next ((s.stopCharge weight x).stopWith i.word0 x)
            else .next (s.stopWith i.word0 .unpaid) := by
  have hs : { s with stalled := false } = s := by rw [← h]
  unfold State.issue
  rw [hs]
  by_cases hm : s.mayIssue = false
  · simp [hm]
  · simp only [Bool.not_eq_false] at hm
    rw [if_neg (by simp [hm]), if_neg (by simp [hm])] <;> rfl

/-- A legal instruction whose stream may issue and whose body acts ends in the body's state, charged. -/
theorem issue_of_body {s t : State} {i : Instr} {st : Option Stream} {st' : Stream} {kmask weight : Nat}
    {body : State → R State} (h : Issues s st' weight) (hst : st.getD st' = st') (hb : body s = .ok t)
    (ht : t.stalled = false) :
    s.issue i st kmask weight none body = .next (t.issued weight) := by
  have he := encStop_none (i := i) (kmask := kmask) h hst
  obtain ⟨h1, _, _, h4, h5⟩ := h
  simp [issue_eq h5, h1, he, h4, hb, ht]

/-- A legal instruction whose stream may issue and whose body stops it. -/
theorem issue_of_error {s : State} {x : Stop} {i : Instr} {st : Option Stream} {st' : Stream} {kmask weight : Nat}
    {body : State → R State} (h : Issues s st' weight) (hst : st.getD st' = st') (hb : body s = .error x) :
    s.issue i st kmask weight none body = .next ((s.stopCharge weight x).stopWith i.word0 x) := by
  have he := encStop_none (i := i) (kmask := kmask) h hst
  obtain ⟨h1, _, _, h4, h5⟩ := h
  simp [issue_eq h5, h1, he, h4, hb]

/-- An instruction that the management core does not execute. -/
theorem issue_of_mgmt {s : State} {i : Instr} {st : Option Stream} {kmask weight : Nat} {legal : Option EncFault}
    {body : State → R State} (hm : s.w.mgmt = true) (h5 : s.stalled = false) (h1 : s.mayIssue = true)
    (ha : mgmtAllowed i = false) :
    s.issue i st kmask weight legal body = .next (s.stopWith i.word0 (.trap causeOpcode (s.encLanes kmask) 0 (3 <<< 11))) := by
  simp [issue_eq h5, h1, State.encStop, hm, ha]

/-- The issue of a form whose encoding breaks its page. -/
theorem issue_of_illegal {s : State} {i : Instr} {st : Option Stream} {kmask weight : Nat} {e : EncFault}
    {body : State → R State} (h1 : s.mayIssue = true) (h2 : st.getD s.st = s.st) (h3 : s.w.mgmt = false)
    (h5 : s.stalled = false) :
    s.issue i st kmask weight (some e) body = .next (s.stopWith i.word0 (match e with
      | .opcode n => .trap causeOpcode (s.encLanes kmask) 0 (n <<< 11)
      | .operand n => .trap causeOperand (s.encLanes kmask) 0 (n <<< 11))) := by
  cases e <;> simp [issue_eq h5, State.encStop, h1, h2, h3]

/-- The issue of a form whose stream may not issue. -/
theorem issue_not_ready {s : State} {i : Instr} {st : Option Stream} {kmask weight : Nat} {legal : Option EncFault}
    {body : State → R State} (h : s.mayIssue = false) :
    s.issue i st kmask weight legal body = .next { s with stalled := true } := by
  have hs : State.mayIssue { s with stalled := false } = s.mayIssue := rfl
  simp [State.issue, hs, h]

/-- The body of a lane form whose operands can be used. -/
theorem laneForm_ok {s : State} {sp : XaSpec} {f : XaF} {more : List Nat} (words : Nat) (eff : Wave → Nat → Wave)
    (h : LaneOk s sp f more) : s.laneForm words sp f more eff = .ok ((s.modW (fun w =>
      (eff w (s.w.active f.kmask.toNat)).popUsed (s.w.xaSrcs sp f ++ more))).advance words) := by
  obtain ⟨h1, h2, h3⟩ := h
  simp [State.laneForm, h2, h3]
  rfl

/-! ## What writing a destination changes of a wave -/

theorem setLanes_frame (w : Wave) (r : Nat) (ls : List Nat) (f : Nat → Nat) :
    w.setLanes r ls f = { w with v := (w.setLanes r ls f).v, sect := (w.setLanes r ls f).sect } := by
  induction ls generalizing w with
  | nil => rfl
  | cons l rest ih => simp only [Wave.setLanes]; rw [ih]; rfl

theorem writeDst_frame (w : Wave) (ix act : Nat) (f : Nat → Nat) :
    w.writeDst ix act f = { w with v := (w.writeDst ix act f).v, sect := (w.writeDst ix act f).sect, rq := (w.writeDst ix act f).rq } := by
  unfold Wave.writeDst
  split
  · rw [setLanes_frame]
  · rfl
  · rfl

theorem writeKBits_frame (w : Wave) (k act : Nat) (p : Nat → Bool) :
    w.writeKBits k act p = { w with kreg := (w.writeKBits k act p).kreg } := rfl

theorem popUsed_eq (w : Wave) (srcs : List Nat) : w.popUsed srcs = { w with
    lq := if srcs.contains 320 then w.lq.tail else w.lq
    dq := if srcs.contains 321 then w.dq.tail else w.dq } := by
  unfold Wave.popUsed
  cases h1 : srcs.contains 320 <;> cases h2 : srcs.contains 321 <;> rfl

theorem getV_setLanes (w : Wave) (r : Nat) (ls : List Nat) (f : Nat → Nat) (hls : ∀ l ∈ ls, l < 64) (r' l' : Nat)
    (hl' : l' < 64) :
    (w.setLanes r ls f).getV r' l' = if r' = r ∧ l' ∈ ls then f l' % 2 ^ 32 else w.getV r' l' := by
  induction ls generalizing w with
  | nil => simp [Wave.setLanes]
  | cons l rest ih =>
    have hl : l < 64 := hls l (by simp)
    simp only [Wave.setLanes]
    rw [ih _ (fun x hx => hls x (by simp [hx])), Wave.getV_setV w r l (f l) r' l' hl hl']
    by_cases h : r' = r ∧ l' ∈ rest
    · simp [h]
    · by_cases h2 : l' = l
      · subst h2; by_cases h3 : r' = r <;> simp_all
      · by_cases h3 : r' = r <;> simp_all

/-- An insertion adds its element and nothing else. -/
@[simp] theorem mem_insertAsc (x y : Nat) (l : List Nat) : y ∈ insertAsc x l ↔ y = x ∨ y ∈ l := by
  induction l with
  | nil => simp [insertAsc]
  | cons a rest ih =>
    simp only [insertAsc]
    split
    · next h => subst h; simp
    · split
      · simp
      · simp only [List.mem_cons, ih]; tauto

/-- The sectors valid after some lanes of a register are written. -/
theorem mem_sect_setLanes (w : Wave) (r : Nat) (ls : List Nat) (f : Nat → Nat) (x : Nat) :
    x ∈ (w.setLanes r ls f).sect ↔ x ∈ w.sect ∨ ∃ l ∈ ls, x = regSector r l := by
  induction ls generalizing w with
  | nil => simp [Wave.setLanes]
  | cons l rest ih => simp only [Wave.setLanes, ih, Wave.setV_sect, mem_insertAsc, List.mem_cons, exists_eq_or_imp]; tauto

theorem mem_lanesOf (m n l : Nat) : l ∈ lanesOf m n ↔ l < n ∧ bit m l = true := by simp [lanesOf]

theorem lanes_le (w : Wave) : w.lanes ≤ 64 := by unfold Wave.lanes; split <;> omega

/-- The lane register words after a result per lane is written. -/
theorem getV_writeDst (w : Wave) (ix act : Nat) (f : Nat → Nat) (r l : Nat) (hl : l < 64) :
    (w.writeDst ix act f).getV r l =
      if laneIx ix = .v r ∧ l < w.lanes ∧ bit act l = true then f l % 2 ^ 32 else w.getV r l := by
  unfold Wave.writeDst
  have h64 := lanes_le w
  split
  · next n h =>
    rw [getV_setLanes _ _ _ _ (fun x hx => by rw [mem_lanesOf] at hx; omega) _ _ hl]
    simp only [mem_lanesOf, h, LaneIx.v.injEq]
    congr 1
    simp only [eq_comm]
  · next h => simp [h]; rfl
  · next h1 h2 => rw [if_neg]; intro h; exact h1 _ h.1

/-- The sectors valid after a result per lane is written. -/
theorem mem_sect_writeDst (w : Wave) (ix act : Nat) (f : Nat → Nat) (x : Nat) :
    x ∈ (w.writeDst ix act f).sect ↔
      x ∈ w.sect ∨ ∃ r l, laneIx ix = .v r ∧ l < w.lanes ∧ bit act l = true ∧ x = regSector r l := by
  unfold Wave.writeDst
  split
  · next n h =>
    rw [mem_sect_setLanes]
    simp only [mem_lanesOf, h, LaneIx.v.injEq]
    constructor
    · rintro (h | ⟨l, ⟨h1, h2⟩, h3⟩)
      · exact .inl h
      · exact .inr ⟨n, l, rfl, h1, h2, h3⟩
    · rintro (h | ⟨r, l, rfl, h1, h2, h3⟩)
      · exact .inl h
      · exact .inr ⟨l, ⟨h1, h2⟩, h3⟩
  · next h => simp [h]
  · next h1 h2 =>
    constructor
    · exact .inl
    · rintro (h | ⟨r, l, h, -⟩)
      · exact h
      · exact absurd h (h1 r)

theorem rq_writeDst (w : Wave) (ix act : Nat) (f : Nat → Nat) :
    (w.writeDst ix act f).rq =
      if laneIx ix = .rq then w.rq ++ [BitVec.ofNat 64 (w.rqEntry act f)] else w.rq := by
  unfold Wave.writeDst
  split
  · next n h => rw [setLanes_frame]; simp [h]
  · next h => simp [h, Wave.pushRq]
  · next h1 h2 => rw [if_neg h2]

/-! ## Lane forms -/

theorem onlyWave_of_modW (s : State) (f : Wave → Wave) (words weight : Nat)
    (hf : (f s.w).mgmt = false) (hc : (f s.w).core = s.w.core) :
    OnlyWave s (((s.modW f).advance words).issued weight) weight := by
  have h1 : (((s.modW f).advance words).w).mgmt = false := by
    simpa [State.advance] using hf
  have h2 : (((s.modW f).advance words).w).core = s.w.core := by
    simpa [State.advance] using hc
  have h3 : ((s.modW f).advance words).issued weight =
      (((s.modW f).advance words).charge s.w.core weight).modW
        (fun w => { w.attempt s.st .issued with deadlock := 0, refused := none }) := by
    simp only [State.issued, State.billed, h1, h2]; rfl
  refine ⟨?_, ?_, ?_⟩
  · rw [h3]; rfl
  · rw [Charged, h3]; rfl
  · intro a; rw [h3]; rfl

/-- Nothing but lane registers with their sectors, mask registers, `exec` and RQ differs. -/
def RegsOnly (w w' : Wave) : Prop := w' = { w with v := w'.v, sect := w'.sect, kreg := w'.kreg, exec := w'.exec, rq := w'.rq }

theorem regsOnly_writeDst (w : Wave) (ix act : Nat) (f : Nat → Nat) : RegsOnly w (w.writeDst ix act f) := by
  rw [writeDst_frame]; rfl

theorem regsOnly_writeKBits (w : Wave) (k act : Nat) (p : Nat → Bool) : RegsOnly w (w.writeKBits k act p) := rfl

theorem regsOnly_setLanes (w : Wave) (r : Nat) (ls : List Nat) (f : Nat → Nat) : RegsOnly w (w.setLanes r ls f) := by
  rw [setLanes_frame]; rfl

theorem RegsOnly.trans {w w' w'' : Wave} (h : RegsOnly w w') (h' : RegsOnly w' w'') : RegsOnly w w'' := by
  unfold RegsOnly at *; rw [h', h]

/-- What a lane form whose effect stays in its registers, masks, `exec` and RQ leaves. -/
theorem laneFrame_of (s : State) (eff : Wave → Wave) (srcs : List Nat) (words weight : Nat) (hst : s.st = .lane)
    (heff : RegsOnly s.w (eff s.w)) :
    let t := ((s.modW (fun w => (eff w).popUsed srcs)).advance words).issued weight
    LaneFrame s t words srcs ∧ t.w.v = (eff s.w).v ∧ t.w.sect = (eff s.w).sect ∧ t.w.kreg = (eff s.w).kreg ∧ t.w.exec = (eff s.w).exec
      ∧ t.w.rq = (eff s.w).rq := by
  intro t
  have ht : t.w = { ((eff s.w).popUsed srcs).setPc .lane (((eff s.w).popUsed srcs).lanePc + 4 * words) with
      tryLane := .issued, deadlock := 0, refused := none } := by
    simp only [t, State.issued, State.billed, State.advance, State.modW, hst, Wave.pcOf]
    split <;> rfl
  rw [popUsed_eq] at ht
  rw [heff] at ht
  refine ⟨?_, ?_, ?_, ?_, ?_, ?_⟩
  · rw [LaneFrame, ht]; rfl
  all_goals rw [ht]; rfl

end Sys2Proof.Machine
end

