-- ==== Sys2Proof/Laws/Exec.lean ====
section
/-! SUPPORT. Every encoded instruction is issued by State.issue with the stream and the legality that Machine/Static.lean
gives its encoding: what stands before an instruction's own effect is proved once, for all of them. -/
namespace Sys2Proof.Machine

/-- The meaning of an encoded instruction is an issue of that instruction, with its own stream and the legality of its
encoding, beside what the wave's state decides of it (17 R383). -/
def FormIssue (i : Instr) (s : State) : Prop :=
  ∃ kmask weight more body,
    exec i s = s.issue i (formOf s.st i).1 kmask weight (opcodeFirst ((formOf s.st i).2 :: more)) body

theorem opcodeFirst_one (e : Option EncFault) : opcodeFirst [e] = e := by
  rcases e with _ | e
  · rfl
  · cases e <;> rfl

/-- The meaning of an encoded instruction is an issue of that instruction. -/
def IsIssue (i : Instr) (s : State) : Prop :=
  ∃ st kmask weight legal body, exec i s = s.issue i st kmask weight legal body

theorem formIssue_of {i : Instr} {s : State} {o : Out} {kmask weight : Nat} {body : State → R State} (h : exec i s = o)
    (h' : o = s.issue i (formOf s.st i).1 kmask weight (formOf s.st i).2 body) : FormIssue i s :=
  ⟨kmask, weight, [], body, by rw [opcodeFirst_one]; exact h.trans h'⟩

theorem formIssue_more {i : Instr} {s : State} {o : Out} {kmask weight : Nat} {more : List (Option EncFault)}
    {body : State → R State} (h : exec i s = o)
    (h' : o = s.issue i (formOf s.st i).1 kmask weight (opcodeFirst ((formOf s.st i).2 :: more)) body) : FormIssue i s :=
  ⟨kmask, weight, more, body, h.trans h'⟩

theorem formIssue_encoded (i : Instr) (s : State) (h : i.isEncoded = true) : FormIssue i s := by
  cases i with
  | iaddBA f => exact formIssue_of (o := execIaddBA f s) rfl (by delta execIaddBA State.laneBA; rfl)
  | iaddXA f => exact formIssue_more (o := execIaddXA f s) rfl (by delta execIaddXA State.laneXA State.laneXAIf; rfl)
  | isubBA f => exact formIssue_of (o := execIsubBA f s) rfl (by delta execIsubBA State.laneBA; rfl)
  | isubXA f => exact formIssue_more (o := execIsubXA f s) rfl (by delta execIsubXA State.laneXA State.laneXAIf; rfl)
  | imulBA f => exact formIssue_of (o := execImulBA f s) rfl (by delta execImulBA State.laneBA; rfl)
  | imulXA f => exact formIssue_more (o := execImulXA f s) rfl (by delta execImulXA State.laneXA State.laneXAIf; rfl)
  | imulhiBA f => exact formIssue_of (o := execImulhiBA f s) rfl (by delta execImulhiBA State.laneBA; rfl)
  | imulhiXA f => exact formIssue_more (o := execImulhiXA f s) rfl (by delta execImulhiXA State.laneXA State.laneXAIf; rfl)
  | imad f => exact formIssue_more (o := execImad f s) rfl (by delta execImad State.laneXA State.laneXAIf; rfl)
  | iminBA f => exact formIssue_of (o := execIminBA f s) rfl (by delta execIminBA State.laneBA; rfl)
  | iminXA f => exact formIssue_more (o := execIminXA f s) rfl (by delta execIminXA State.laneXA State.laneXAIf; rfl)
  | imaxBA f => exact formIssue_of (o := execImaxBA f s) rfl (by delta execImaxBA State.laneBA; rfl)
  | imaxXA f => exact formIssue_more (o := execImaxXA f s) rfl (by delta execImaxXA State.laneXA State.laneXAIf; rfl)
  | andBA f => exact formIssue_of (o := execAndBA f s) rfl (by delta execAndBA State.laneBA; rfl)
  | andXA f => exact formIssue_more (o := execAndXA f s) rfl (by delta execAndXA State.laneXA State.laneXAIf; rfl)
  | orBA f => exact formIssue_of (o := execOrBA f s) rfl (by delta execOrBA State.laneBA; rfl)
  | orXA f => exact formIssue_more (o := execOrXA f s) rfl (by delta execOrXA State.laneXA State.laneXAIf; rfl)
  | xorBA f => exact formIssue_of (o := execXorBA f s) rfl (by delta execXorBA State.laneBA; rfl)
  | xorXA f => exact formIssue_more (o := execXorXA f s) rfl (by delta execXorXA State.laneXA State.laneXAIf; rfl)
  | andnBA f => exact formIssue_of (o := execAndnBA f s) rfl (by delta execAndnBA State.laneBA; rfl)
  | andnXA f => exact formIssue_more (o := execAndnXA f s) rfl (by delta execAndnXA State.laneXA State.laneXAIf; rfl)
  | shlBA f => exact formIssue_of (o := execShlBA f s) rfl (by delta execShlBA State.laneBA; rfl)
  | shlXA f => exact formIssue_more (o := execShlXA f s) rfl (by delta execShlXA State.laneXA State.laneXAIf; rfl)
  | shrBA f => exact formIssue_of (o := execShrBA f s) rfl (by delta execShrBA State.laneBA; rfl)
  | shrXA f => exact formIssue_more (o := execShrXA f s) rfl (by delta execShrXA State.laneXA State.laneXAIf; rfl)
  | sarBA f => exact formIssue_of (o := execSarBA f s) rfl (by delta execSarBA State.laneBA; rfl)
  | sarXA f => exact formIssue_more (o := execSarXA f s) rfl (by delta execSarXA State.laneXA State.laneXAIf; rfl)
  | rotBA f => exact formIssue_of (o := execRotBA f s) rfl (by delta execRotBA State.laneBA; rfl)
  | rotXA f => exact formIssue_more (o := execRotXA f s) rfl (by delta execRotXA State.laneXA State.laneXAIf; rfl)
  | bfx f => exact formIssue_more (o := execBfx f s) rfl (by delta execBfx State.laneXA State.laneXAIf; rfl)
  | bfi f => exact formIssue_more (o := execBfi f s) rfl (by delta execBfi State.laneXA State.laneXAIf; rfl)
  | popcBA f => exact formIssue_of (o := execPopcBA f s) rfl (by delta execPopcBA State.laneBA; rfl)
  | popcXA f => exact formIssue_more (o := execPopcXA f s) rfl (by delta execPopcXA State.laneXA State.laneXAIf; rfl)
  | clzBA f => exact formIssue_of (o := execClzBA f s) rfl (by delta execClzBA State.laneBA; rfl)
  | clzXA f => exact formIssue_more (o := execClzXA f s) rfl (by delta execClzXA State.laneXA State.laneXAIf; rfl)
  | ctzBA f => exact formIssue_of (o := execCtzBA f s) rfl (by delta execCtzBA State.laneBA; rfl)
  | ctzXA f => exact formIssue_more (o := execCtzXA f s) rfl (by delta execCtzXA State.laneXA State.laneXAIf; rfl)
  | brevBA f => exact formIssue_of (o := execBrevBA f s) rfl (by delta execBrevBA State.laneBA; rfl)
  | brevXA f => exact formIssue_more (o := execBrevXA f s) rfl (by delta execBrevXA State.laneXA State.laneXAIf; rfl)
  | icmp f => exact formIssue_more (o := execIcmp f s) rfl (by delta execIcmp State.laneXA State.laneXAIf; rfl)
  | sel f => exact formIssue_more (o := execSel f s) rfl (by delta execSel State.laneXA State.laneXAIf; rfl)
  | movBA f => exact formIssue_of (o := execMovBA f s) rfl (by delta execMovBA State.laneBA; rfl)
  | movXA f => exact formIssue_more (o := execMovXA f s) rfl (by delta execMovXA State.laneXA State.laneXAIf; rfl)
  | movrel f => exact formIssue_more (o := execMovrel f s) rfl (by delta execMovrel State.laneXA State.laneXAIf; rfl)
  | movrelw f => exact formIssue_more (o := execMovrelw f s) rfl (by delta execMovrelw State.laneXA State.laneXAIf; rfl)
  | getexecBA f => exact formIssue_of (o := execGetexecBA f s) rfl (by delta execGetexecBA State.laneBA; rfl)
  | getexecXA f => exact formIssue_more (o := execGetexecXA f s) rfl (by delta execGetexecXA State.laneXA State.laneXAIf; rfl)
  | setexecBA f => exact formIssue_of (o := execSetexecBA f s) rfl (by delta execSetexecBA State.laneBA; rfl)
  | setexecXA f => exact formIssue_more (o := execSetexecXA f s) rfl (by delta execSetexecXA State.laneXA State.laneXAIf; rfl)
  | vrdl f => exact formIssue_more (o := execVrdl f s) rfl (by delta execVrdl State.laneXA State.laneXAIf; rfl)
  | vwrl f => exact formIssue_more (o := execVwrl f s) rfl (by delta execVwrl State.laneXA State.laneXAIf; rfl)
  | kand f => exact formIssue_of (o := execKand f s) rfl (by delta execKand State.maskForm; rfl)
  | kor f => exact formIssue_of (o := execKor f s) rfl (by delta execKor State.maskForm; rfl)
  | kxor f => exact formIssue_of (o := execKxor f s) rfl (by delta execKxor State.maskForm; rfl)
  | knot f => exact formIssue_of (o := execKnot f s) rfl (by delta execKnot State.maskForm; rfl)
  | kmov f => exact formIssue_of (o := execKmov f s) rfl (by delta execKmov State.maskForm; rfl)
  | faddBA f => exact formIssue_of (o := execFaddBA f s) rfl (by delta execFaddBA State.laneBA; rfl)
  | faddXA f => exact formIssue_more (o := execFaddXA f s) rfl (by delta execFaddXA State.laneXA State.laneXAIf; rfl)
  | fsubBA f => exact formIssue_of (o := execFsubBA f s) rfl (by delta execFsubBA State.laneBA; rfl)
  | fsubXA f => exact formIssue_more (o := execFsubXA f s) rfl (by delta execFsubXA State.laneXA State.laneXAIf; rfl)
  | fmulBA f => exact formIssue_of (o := execFmulBA f s) rfl (by delta execFmulBA State.laneBA; rfl)
  | fmulXA f => exact formIssue_more (o := execFmulXA f s) rfl (by delta execFmulXA State.laneXA State.laneXAIf; rfl)
  | ffma f => exact formIssue_more (o := execFfma f s) rfl (by delta execFfma State.laneXA State.laneXAIf; rfl)
  | fminBA f => exact formIssue_of (o := execFminBA f s) rfl (by delta execFminBA State.laneBA; rfl)
  | fminXA f => exact formIssue_more (o := execFminXA f s) rfl (by delta execFminXA State.laneXA State.laneXAIf; rfl)
  | fmaxBA f => exact formIssue_of (o := execFmaxBA f s) rfl (by delta execFmaxBA State.laneBA; rfl)
  | fmaxXA f => exact formIssue_more (o := execFmaxXA f s) rfl (by delta execFmaxXA State.laneXA State.laneXAIf; rfl)
  | fcmp f => exact formIssue_more (o := execFcmp f s) rfl (by delta execFcmp State.laneXA State.laneXAIf; rfl)
  | fclass f => exact formIssue_more (o := execFclass f s) rfl (by delta execFclass State.laneXA State.laneXAIf; rfl)
  | frcpBA f => exact formIssue_of (o := execFrcpBA f s) rfl (by delta execFrcpBA State.laneBA; rfl)
  | frcpXA f => exact formIssue_more (o := execFrcpXA f s) rfl (by delta execFrcpXA State.laneXA State.laneXAIf; rfl)
  | frsqBA f => exact formIssue_of (o := execFrsqBA f s) rfl (by delta execFrsqBA State.laneBA; rfl)
  | frsqXA f => exact formIssue_more (o := execFrsqXA f s) rfl (by delta execFrsqXA State.laneXA State.laneXAIf; rfl)
  | fsqrtBA f => exact formIssue_of (o := execFsqrtBA f s) rfl (by delta execFsqrtBA State.laneBA; rfl)
  | fsqrtXA f => exact formIssue_more (o := execFsqrtXA f s) rfl (by delta execFsqrtXA State.laneXA State.laneXAIf; rfl)
  | fexp2BA f => exact formIssue_of (o := execFexp2BA f s) rfl (by delta execFexp2BA State.laneBA; rfl)
  | fexp2XA f => exact formIssue_more (o := execFexp2XA f s) rfl (by delta execFexp2XA State.laneXA State.laneXAIf; rfl)
  | flog2BA f => exact formIssue_of (o := execFlog2BA f s) rfl (by delta execFlog2BA State.laneBA; rfl)
  | flog2XA f => exact formIssue_more (o := execFlog2XA f s) rfl (by delta execFlog2XA State.laneXA State.laneXAIf; rfl)
  | fsinpiBA f => exact formIssue_of (o := execFsinpiBA f s) rfl (by delta execFsinpiBA State.laneBA; rfl)
  | fsinpiXA f => exact formIssue_more (o := execFsinpiXA f s) rfl (by delta execFsinpiXA State.laneXA State.laneXAIf; rfl)
  | fcospiBA f => exact formIssue_of (o := execFcospiBA f s) rfl (by delta execFcospiBA State.laneBA; rfl)
  | fcospiXA f => exact formIssue_more (o := execFcospiXA f s) rfl (by delta execFcospiXA State.laneXA State.laneXAIf; rfl)
  | hfma2 f => exact formIssue_more (o := execHfma2 f s) rfl (by delta execHfma2 State.laneXA State.laneXAIf; rfl)
  | hadd2BA f => exact formIssue_of (o := execHadd2BA f s) rfl (by delta execHadd2BA State.laneBA; rfl)
  | hadd2XA f => exact formIssue_more (o := execHadd2XA f s) rfl (by delta execHadd2XA State.laneXA State.laneXAIf; rfl)
  | hmul2BA f => exact formIssue_of (o := execHmul2BA f s) rfl (by delta execHmul2BA State.laneBA; rfl)
  | hmul2XA f => exact formIssue_more (o := execHmul2XA f s) rfl (by delta execHmul2XA State.laneXA State.laneXAIf; rfl)
  | dot4d8 f => exact formIssue_more (o := execDot4d8 f s) rfl (by delta execDot4d8 State.laneXA State.laneXAIf; rfl)
  | dot2h f => exact formIssue_more (o := execDot2h f s) rfl (by delta execDot2h State.laneXA State.laneXAIf; rfl)
  | cvt f => exact formIssue_more (o := execCvt f s) rfl (by delta execCvt State.laneXA State.laneXAIf; rfl)
  | pack f => exact formIssue_more (o := execPack f s) rfl (by delta execPack State.laneXA State.laneXAIf; rfl)
  | unpack f => exact formIssue_more (o := execUnpack f s) rfl (by delta execUnpack State.laneXA State.laneXAIf; rfl)
  | qscale f => exact formIssue_more (o := execQscale f s) rfl (by delta execQscale State.laneXA State.laneXAIf; rfl)
  | dqscale f => exact formIssue_more (o := execDqscale f s) rfl (by delta execDqscale State.laneXA State.laneXAIf; rfl)
  | hadq f => exact formIssue_more (o := execHadq f s) rfl (by delta execHadq State.laneXA State.laneXAIf; rfl)
  | shflBA f => exact formIssue_of (o := execShflBA f s) rfl (by delta execShflBA State.laneBA; rfl)
  | shflXA f => exact formIssue_more (o := execShflXA f s) rfl (by delta execShflXA State.laneXA State.laneXAIf; rfl)
  | bcastBA f => exact formIssue_of (o := execBcastBA f s) rfl (by delta execBcastBA State.laneBA; rfl)
  | bcastXA f => exact formIssue_more (o := execBcastXA f s) rfl (by delta execBcastXA State.laneXA State.laneXAIf; rfl)
  | qswapBA f => exact formIssue_of (o := execQswapBA f s) rfl (by delta execQswapBA State.laneBA; rfl)
  | qswapXA f => exact formIssue_more (o := execQswapXA f s) rfl (by delta execQswapXA State.laneXA State.laneXAIf; rfl)
  | qbcastBA f => exact formIssue_of (o := execQbcastBA f s) rfl (by delta execQbcastBA State.laneBA; rfl)
  | qbcastXA f => exact formIssue_more (o := execQbcastXA f s) rfl (by delta execQbcastXA State.laneXA State.laneXAIf; rfl)
  | voteBA f => exact formIssue_of (o := execVoteBA f s) rfl (by delta execVoteBA State.laneBA; rfl)
  | voteXA f => exact formIssue_more (o := execVoteXA f s) rfl (by delta execVoteXA State.laneXA State.laneXAIf; rfl)
  | reduce f => exact formIssue_more (o := execReduce f s) rfl (by delta execReduce State.laneXA State.laneXAIf; rfl)
  | scan f => exact formIssue_more (o := execScan f s) rfl (by delta execScan State.laneXA State.laneXAIf; rfl)
  | hist f => exact formIssue_more (o := execHist f s) rfl (by delta execHist State.laneXA State.laneXAIf; rfl)
  | hmerge f => exact formIssue_more (o := execHmerge f s) rfl (by delta execHmerge State.laneXA State.laneXAIf; rfl)
  | cxstage f => exact formIssue_more (o := execCxstage f s) rfl (by delta execCxstage State.laneXA State.laneXAIf; rfl)
  | brdq f => exact formIssue_of (o := execBrdq f s) rfl (by delta execBrdq; rfl)
  | calll f => exact formIssue_of (o := execCalll f s) rfl (by delta execCalll; rfl)
  | bdiv f => exact formIssue_of (o := execBdiv f s) rfl (by delta execBdiv; rfl)
  | reconv f => exact formIssue_of (o := execReconv f s) rfl (by delta execReconv; rfl)
  | retl f => exact formIssue_of (o := execRetl f s) rfl (by delta execRetl; rfl)
  | exit f => exact formIssue_of (o := execExit f s) rfl (by delta execExit; rfl)
  | ldsp f => exact formIssue_of (o := execLdsp f s) rfl (by delta execLdsp; rfl)
  | stsp f => exact formIssue_of (o := execStsp f s) rfl (by delta execStsp; rfl)
  | stt f => exact formIssue_of (o := execStt f s) rfl (by delta execStt; rfl)
  | pref f => exact formIssue_of (o := execPref f s) rfl (by delta execPref; rfl)
  | atom f => exact formIssue_of (o := execAtom f s) rfl (by delta execAtom; rfl)
  | cadd f => exact formIssue_of (o := execCadd f s) rfl (by delta execCadd; rfl)
  | append f => exact formIssue_of (o := execAppend f s) rfl (by delta execAppend; rfl)
  | mma f => exact formIssue_more (o := execMma f s) rfl (by delta execMma; rfl)
  | mzero f => exact formIssue_of (o := execMzero f s) rfl (by delta execMzero; rfl)
  | mrd f => exact formIssue_of (o := execMrd f s) rfl (by delta execMrd; rfl)
  | mwr f => exact formIssue_of (o := execMwr f s) rfl (by delta execMwr; rfl)
  | mldt f => exact formIssue_of (o := execMldt f s) rfl (by delta execMldt; rfl)
  | mstore f => exact formIssue_of (o := execMstore f s) rfl (by delta execMstore; rfl)
  | mfence f => exact formIssue_of (o := execMfence f s) rfl (by delta execMfence; rfl)
  | mwait f => exact formIssue_of (o := execMwait f s) rfl (by delta execMwait; rfl)
  | msig f => exact formIssue_of (o := execMsig f s) rfl (by delta execMsig; rfl)
  | mpair f => exact formIssue_more (o := execMpair f s) rfl (by delta execMpair; rfl)
  | saddBS f => exact formIssue_of (o := execSaddBS f s) rfl (by delta execSaddBS State.scalarBS; rfl)
  | saddXA f => exact formIssue_of (o := execSaddXA f s) rfl (by delta execSaddXA State.scalarXA; rfl)
  | ssubBS f => exact formIssue_of (o := execSsubBS f s) rfl (by delta execSsubBS State.scalarBS; rfl)
  | ssubXA f => exact formIssue_of (o := execSsubXA f s) rfl (by delta execSsubXA State.scalarXA; rfl)
  | smulBS f => exact formIssue_of (o := execSmulBS f s) rfl (by delta execSmulBS State.scalarBS; rfl)
  | smulXA f => exact formIssue_of (o := execSmulXA f s) rfl (by delta execSmulXA State.scalarXA; rfl)
  | smulhiBS f => exact formIssue_of (o := execSmulhiBS f s) rfl (by delta execSmulhiBS State.scalarBS; rfl)
  | smulhiXA f => exact formIssue_of (o := execSmulhiXA f s) rfl (by delta execSmulhiXA State.scalarXA; rfl)
  | sandBS f => exact formIssue_of (o := execSandBS f s) rfl (by delta execSandBS State.scalarBS; rfl)
  | sandXA f => exact formIssue_of (o := execSandXA f s) rfl (by delta execSandXA State.scalarXA; rfl)
  | sorBS f => exact formIssue_of (o := execSorBS f s) rfl (by delta execSorBS State.scalarBS; rfl)
  | sorXA f => exact formIssue_of (o := execSorXA f s) rfl (by delta execSorXA State.scalarXA; rfl)
  | sxorBS f => exact formIssue_of (o := execSxorBS f s) rfl (by delta execSxorBS State.scalarBS; rfl)
  | sxorXA f => exact formIssue_of (o := execSxorXA f s) rfl (by delta execSxorXA State.scalarXA; rfl)
  | smovBS f => exact formIssue_of (o := execSmovBS f s) rfl (by delta execSmovBS State.scalarBS; rfl)
  | smovXA f => exact formIssue_of (o := execSmovXA f s) rfl (by delta execSmovXA State.scalarXA; rfl)
  | sshlBS f => exact formIssue_of (o := execSshlBS f s) rfl (by delta execSshlBS State.scalarBS; rfl)
  | sshlXA f => exact formIssue_of (o := execSshlXA f s) rfl (by delta execSshlXA State.scalarXA; rfl)
  | sshrBS f => exact formIssue_of (o := execSshrBS f s) rfl (by delta execSshrBS State.scalarBS; rfl)
  | sshrXA f => exact formIssue_of (o := execSshrXA f s) rfl (by delta execSshrXA State.scalarXA; rfl)
  | ssarBS f => exact formIssue_of (o := execSsarBS f s) rfl (by delta execSsarBS State.scalarBS; rfl)
  | ssarXA f => exact formIssue_of (o := execSsarXA f s) rfl (by delta execSsarXA State.scalarXA; rfl)
  | sminBS f => exact formIssue_of (o := execSminBS f s) rfl (by delta execSminBS State.scalarBS; rfl)
  | sminXA f => exact formIssue_of (o := execSminXA f s) rfl (by delta execSminXA State.scalarXA; rfl)
  | smaxBS f => exact formIssue_of (o := execSmaxBS f s) rfl (by delta execSmaxBS State.scalarBS; rfl)
  | smaxXA f => exact formIssue_of (o := execSmaxXA f s) rfl (by delta execSmaxXA State.scalarXA; rfl)
  | scmp f => exact formIssue_of (o := execScmp f s) rfl (by delta execScmp State.scalarXA; rfl)
  | ssel f => exact formIssue_of (o := execSsel f s) rfl (by delta execSsel State.scalarXA; rfl)
  | sbfx f => exact formIssue_of (o := execSbfx f s) rfl (by delta execSbfx State.scalarXA; rfl)
  | sbr f => exact formIssue_of (o := execSbr f s) rfl (by delta execSbr; rfl)
  | sbrc f => exact formIssue_more (o := execSbrc f s) rfl (by delta execSbrc; rfl)
  | scall f => exact formIssue_of (o := execScall f s) rfl (by delta execScall; rfl)
  | sloop f => exact formIssue_more (o := execSloop f s) rfl (by delta execSloop; rfl)
  | jmpl f => exact formIssue_of (o := execJmpl f s) rfl (by delta execJmpl; rfl)
  | sret f => exact formIssue_of (o := execSret f s) rfl (by delta execSret; rfl)
  | sdone f => exact formIssue_of (o := execSdone f s) rfl (by delta execSdone; rfl)
  | dqpush f => exact formIssue_of (o := execDqpush f s) rfl (by delta execDqpush; rfl)
  | vgive f => exact formIssue_of (o := execVgive f s) rfl (by delta execVgive; rfl)
  | vclaim f => exact formIssue_of (o := execVclaim f s) rfl (by delta execVclaim; rfl)
  | abort f => exact formIssue_of (o := execAbort f s) rfl (by delta execAbort; rfl)
  | pollabt f => exact formIssue_of (o := execPollabt f s) rfl (by delta execPollabt; rfl)
  | ldsBM f => exact formIssue_of (o := execLdsBM f s) rfl (by delta execLdsBM; rfl)
  | ldsXM f => exact formIssue_of (o := execLdsXM f s) rfl (by delta execLdsXM; rfl)
  | stsBM f => exact formIssue_of (o := execStsBM f s) rfl (by delta execStsBM; rfl)
  | stsXM f => exact formIssue_of (o := execStsXM f s) rfl (by delta execStsXM; rfl)
  | ldlq f => exact formIssue_of (o := execLdlq f s) rfl (by delta execLdlq; rfl)
  | crangeOpen f => exact formIssue_of (o := execCrangeOpen f s) rfl (by delta execCrangeOpen; rfl)
  | crangeClose f => exact formIssue_of (o := execCrangeClose f s) rfl (by delta execCrangeClose; rfl)
  | phrelBS f => exact formIssue_of (o := execPhrelBS f s) rfl (by delta execPhrelBS; rfl)
  | phrelXM f => exact formIssue_of (o := execPhrelXM f s) rfl (by delta execPhrelXM; rfl)
  | phacqBS f => exact formIssue_of (o := execPhacqBS f s) rfl (by delta execPhacqBS; rfl)
  | phacqXM f => exact formIssue_of (o := execPhacqXM f s) rfl (by delta execPhacqXM; rfl)
  | phaseBS f => exact formIssue_of (o := execPhaseBS f s) rfl (by delta execPhaseBS; rfl)
  | phaseXM f => exact formIssue_of (o := execPhaseXM f s) rfl (by delta execPhaseXM; rfl)
  | consume f => exact formIssue_of (o := execConsume f s) rfl (by delta execConsume; rfl)
  | rnext f => exact formIssue_of (o := execRnext f s) rfl (by delta execRnext; rfl)
  | launch f => exact formIssue_of (o := execLaunch f s) rfl (by delta execLaunch; rfl)
  | cpy f => exact formIssue_of (o := execCpy f s) rfl (by delta execCpy; rfl)
  | coll f => exact formIssue_of (o := execColl f s) rfl (by delta execColl; rfl)
  | wait f => exact formIssue_of (o := execWait f s) rfl (by delta execWait; rfl)
  | seminc f => exact formIssue_of (o := execSeminc f s) rfl (by delta execSeminc; rfl)
  | semset f => exact formIssue_of (o := execSemset f s) rfl (by delta execSemset; rfl)
  | semwait f => exact formIssue_of (o := execSemwait f s) rfl (by delta execSemwait; rfl)
  | barinit f => exact formIssue_of (o := execBarinit f s) rfl (by delta execBarinit; rfl)
  | bararr f => exact formIssue_of (o := execBararr f s) rfl (by delta execBararr; rfl)
  | barexp f => exact formIssue_of (o := execBarexp f s) rfl (by delta execBarexp; rfl)
  | barwait f => exact formIssue_of (o := execBarwait f s) rfl (by delta execBarwait; rfl)
  | joinset f => exact formIssue_of (o := execJoinset f s) rfl (by delta execJoinset; rfl)
  | joinadd f => exact formIssue_of (o := execJoinadd f s) rfl (by delta execJoinadd; rfl)
  | joindec f => exact formIssue_of (o := execJoindec f s) rfl (by delta execJoindec; rfl)
  | trap f => exact formIssue_of (o := execTrap f s) rfl (by delta execTrap; rfl)
  | eret f => exact formIssue_more (o := execEret f s) rfl (by delta execEret; rfl)
  | rdsr f => exact formIssue_of (o := execRdsr f s) rfl (by delta execRdsr; rfl)
  | wrsr f => exact formIssue_of (o := execWrsr f s) rfl (by delta execWrsr; rfl)
  | rdlead f => exact formIssue_more (o := execRdlead f s) rfl (by delta execRdlead; rfl)
  | wrlead f => exact formIssue_more (o := execWrlead f s) rfl (by delta execWrlead; rfl)
  | yield f => exact formIssue_of (o := execYield f s) rfl (by delta execYield; rfl)
  | sleep f => exact formIssue_of (o := execSleep f s) rfl (by delta execSleep; rfl)
  | ldBM m f => exact formIssue_of (o := execLdBM m f s) rfl (by delta execLdBM; rfl)
  | ldXM m f => exact formIssue_of (o := execLdXM m f s) rfl (by delta execLdXM; rfl)
  | stBM m f => exact formIssue_of (o := execStBM m f s) rfl (by delta execStBM; rfl)
  | stXM m f => exact formIssue_of (o := execStXM m f s) rfl (by delta execStXM; rfl)
  | rndmodeWrite _ => exact absurd h (by simp [Instr.isEncoded, encode])
  | throttleWrite _ _ => exact absurd h (by simp [Instr.isEncoded, encode])
  | talertWrite _ => exact absurd h (by simp [Instr.isEncoded, encode])
  | cbiasWrite _ _ => exact absurd h (by simp [Instr.isEncoded, encode])
  | cbmaxWrite _ => exact absurd h (by simp [Instr.isEncoded, encode])
  | specialRegisterWrite _ _ => exact absurd h (by simp [Instr.isEncoded, encode])
  | starvationPromoteC _ _ => exact absurd h (by simp [Instr.isEncoded, encode])
  | starvationPromoteP _ _ => exact absurd h (by simp [Instr.isEncoded, encode])
  | couplingDeadlock _ _ => exact absurd h (by simp [Instr.isEncoded, encode])
  | blockReserve _ => exact absurd h (by simp [Instr.isEncoded, encode])
  | reservationWaitExpiry _ => exact absurd h (by simp [Instr.isEncoded, encode])
  | blockStart _ => exact absurd h (by simp [Instr.isEncoded, encode])
  | waveRetire _ _ => exact absurd h (by simp [Instr.isEncoded, encode])
  | workRequest _ => exact absurd h (by simp [Instr.isEncoded, encode])
  | rangeRecordBind _ _ => exact absurd h (by simp [Instr.isEncoded, encode])
  | recordEnqueue _ => exact absurd h (by simp [Instr.isEncoded, encode])
  | queueSpillReturn _ _ => exact absurd h (by simp [Instr.isEncoded, encode])
  | batchClose _ _ => exact absurd h (by simp [Instr.isEncoded, encode])
  | batchMaxwaitExpiry _ _ => exact absurd h (by simp [Instr.isEncoded, encode])
  | batchAdmit _ => exact absurd h (by simp [Instr.isEncoded, encode])
  | stealCheck _ _ => exact absurd h (by simp [Instr.isEncoded, encode])
  | stealArrival _ => exact absurd h (by simp [Instr.isEncoded, encode])
  | consumeRetry _ _ => exact absurd h (by simp [Instr.isEncoded, encode])
  | joinRecordArrival _ => exact absurd h (by simp [Instr.isEncoded, encode])
  | signalApply _ => exact absurd h (by simp [Instr.isEncoded, encode])
  | massReleaseAdmit => exact absurd h (by decide)
  | homeLoad _ => exact absurd h (by simp [Instr.isEncoded, encode])
  | homeMissFill _ _ => exact absurd h (by simp [Instr.isEncoded, encode])
  | burstParityError _ _ => exact absurd h (by simp [Instr.isEncoded, encode])
  | fillReceive _ => exact absurd h (by simp [Instr.isEncoded, encode])
  | homeStore _ => exact absurd h (by simp [Instr.isEncoded, encode])
  | homeAtom _ => exact absurd h (by simp [Instr.isEncoded, encode])
  | updateReceive _ => exact absurd h (by simp [Instr.isEncoded, encode])
  | storeAck _ => exact absurd h (by simp [Instr.isEncoded, encode])
  | loadReturn _ => exact absurd h (by simp [Instr.isEncoded, encode])
  | lqFill _ _ => exact absurd h (by simp [Instr.isEncoded, encode])
  | pushReceive _ => exact absurd h (by simp [Instr.isEncoded, encode])
  | pushReply _ => exact absurd h (by simp [Instr.isEncoded, encode])
  | deregistration _ => exact absurd h (by simp [Instr.isEncoded, encode])
  | rangeOpenNotice _ => exact absurd h (by simp [Instr.isEncoded, encode])
  | rangeNoticeReply _ => exact absurd h (by simp [Instr.isEncoded, encode])
  | holderRegister _ => exact absurd h (by simp [Instr.isEncoded, encode])
  | foldProbe _ => exact absurd h (by simp [Instr.isEncoded, encode])
  | foldComplete _ => exact absurd h (by simp [Instr.isEncoded, encode])
  | evictedPartial _ => exact absurd h (by simp [Instr.isEncoded, encode])
  | remoteWriteCount _ _ => exact absurd h (by simp [Instr.isEncoded, encode])
  | migrationForward _ => exact absurd h (by simp [Instr.isEncoded, encode])
  | migrationInstall _ => exact absurd h (by simp [Instr.isEncoded, encode])
  | migrationPointerRetire _ => exact absurd h (by simp [Instr.isEncoded, encode])
  | deadAgentTimeout _ => exact absurd h (by simp [Instr.isEncoded, encode])
  | hostSnoopInvalidate _ _ => exact absurd h (by simp [Instr.isEncoded, encode])
  | pageWalk _ _ => exact absurd h (by simp [Instr.isEncoded, encode])
  | faultRecordWrite => exact absurd h (by decide)
  | matrixEntryTake _ => exact absurd h (by simp [Instr.isEncoded, encode])
  | msigArrival _ _ => exact absurd h (by simp [Instr.isEncoded, encode])
  | matrixEntryCommit _ _ => exact absurd h (by simp [Instr.isEncoded, encode])
  | jobStart _ _ => exact absurd h (by simp [Instr.isEncoded, encode])
  | jobComplete _ _ => exact absurd h (by simp [Instr.isEncoded, encode])
  | jobPageTimeout _ => exact absurd h (by simp [Instr.isEncoded, encode])
  | rasteriseTriangle _ _ => exact absurd h (by simp [Instr.isEncoded, encode])
  | rayTraverse _ _ => exact absurd h (by simp [Instr.isEncoded, encode])
  | matrixJobRun _ _ => exact absurd h (by simp [Instr.isEncoded, encode])
  | copyJobRun _ _ => exact absurd h (by simp [Instr.isEncoded, encode])
  | scanoutVblank _ => exact absurd h (by simp [Instr.isEncoded, encode])
  | trapEntry _ _ => exact absurd h (by simp [Instr.isEncoded, encode])
  | faultWithoutHandler _ _ => exact absurd h (by simp [Instr.isEncoded, encode])
  | waitLimit _ _ => exact absurd h (by simp [Instr.isEncoded, encode])
  | sleepExpiry _ _ _ => exact absurd h (by simp [Instr.isEncoded, encode])
  | yieldExpiry _ _ _ => exact absurd h (by simp [Instr.isEncoded, encode])
  | blockSave _ => exact absurd h (by simp [Instr.isEncoded, encode])
  | blockRestore _ => exact absurd h (by simp [Instr.isEncoded, encode])
  | codePageCheck _ _ => exact absurd h (by simp [Instr.isEncoded, encode])
  | droopTrip _ => exact absurd h (by simp [Instr.isEncoded, encode])
  | cbStepUpdate _ => exact absurd h (by simp [Instr.isEncoded, encode])
  | biasSettle _ => exact absurd h (by simp [Instr.isEncoded, encode])
  | thermalSample _ _ => exact absurd h (by simp [Instr.isEncoded, encode])
  | mgmtInterrupt => exact absurd h (by decide)
  | cmdtailWrite _ => exact absurd h (by simp [Instr.isEncoded, encode])
  | fltheadWrite _ => exact absurd h (by simp [Instr.isEncoded, encode])
  | bar2baseWrite _ => exact absurd h (by simp [Instr.isEncoded, encode])
  | bar0WriteOther _ _ => exact absurd h (by simp [Instr.isEncoded, encode])
  | bar2Write _ _ => exact absurd h (by simp [Instr.isEncoded, encode])
  | bar2Read _ _ => exact absurd h (by simp [Instr.isEncoded, encode])
  | sensorWindowWrite _ _ _ _ => exact absurd h (by simp [Instr.isEncoded, encode])
  | sensorDone _ _ _ => exact absurd h (by simp [Instr.isEncoded, encode])
  | sensorBarrierArrival _ => exact absurd h (by simp [Instr.isEncoded, encode])
  | queryStartup => exact absurd h (by decide)
  | queryCoreCounters => exact absurd h (by decide)
  | queryFootprint => exact absurd h (by decide)
  | queryDeadAgents => exact absurd h (by decide)
  | queryLogCounts => exact absurd h (by decide)
  | queryMeasurement => exact absurd h (by decide)
  | queryUseCounters => exact absurd h (by decide)
  | queryJoinSlot => exact absurd h (by decide)
  | firmwareUpdate => exact absurd h (by decide)
  | attest => exact absurd h (by decide)
  | setScanout => exact absurd h (by decide)
  | resetDevice => exact absurd h (by decide)
  | loadCode => exact absurd h (by decide)
  | unloadCode => exact absurd h (by decide)
  | loadGraph => exact absurd h (by decide)
  | startGraph => exact absurd h (by decide)
  | stopGraph => exact absurd h (by decide)
  | vacateCores => exact absurd h (by decide)
  | switchContext => exact absurd h (by decide)
  | mapPages => exact absurd h (by decide)
  | unmapPages => exact absurd h (by decide)
  | faultReply => exact absurd h (by decide)
  | sensorConfig => exact absurd h (by decide)
  | displayMode => exact absurd h (by decide)
  | displayOff => exact absurd h (by decide)
  | setPowerBias => exact absurd h (by decide)
  | setPowerCbmax => exact absurd h (by decide)
  | setPowerTlimit => exact absurd h (by decide)
  | setPowerSaddle => exact absurd h (by decide)
  | blockControlImage => exact absurd h (by decide)
  | blockControlResume => exact absurd h (by decide)
  | blockControlDiscard => exact absurd h (by decide)
  | unloadGraph => exact absurd h (by decide)
  | powerGood => exact absurd h (by decide)
  | bootstageAdvance _ _ => exact absurd h (by simp [Instr.isEncoded, encode])
  | saddleLaneFault _ => exact absurd h (by simp [Instr.isEncoded, encode])
  | chargeBucketRefill _ => exact absurd h (by simp [Instr.isEncoded, encode])
  | barrierCompletesAgain _ _ _ => exact absurd h (by simp [Instr.isEncoded, encode])

theorem isIssue_encoded (i : Instr) (s : State) (h : i.isEncoded = true) : IsIssue i s := by
  obtain ⟨k, w, m, b, hb⟩ := formIssue_encoded i s h
  exact ⟨_, k, w, _, b, hb⟩

end Sys2Proof.Machine
end

