-- ==== Sys2Proof/Laws/Lane.lean ====
section
/-! SUPPORT. What every lane form of one shape does, once: a result per lane, a truth value per lane, in both encodings. -/
namespace Sys2Proof.Machine
open Sys2Proof.Claims

theorem rqEntry_congr (w : Wave) (act : Nat) (f g : Nat → Nat) (h : ∀ l, l < 64 → f l % 2 ^ 32 = g l % 2 ^ 32) :
    w.rqEntry act f = w.rqEntry act g := by
  have hl : ∀ m n, n ≤ 64 → lowestVal m n f = lowestVal m n g := by
    intro m n hn; unfold lowestVal; split
    · next l hl =>
      have : l < n := by
        have := List.mem_of_find?_eq_some hl
        simpa using this
      exact h _ (by omega)
    · rfl
  simp only [Wave.rqEntry, hl _ 32 (by omega), hl _ _ (lanes_le w)]

/-- A result per lane written by a lane form, as claims say it. -/
theorem laneWord_of (s t : State) (d m : Nat) (f g : Nat → Nat) (hfg : ∀ l, l < 64 → f l % 2 ^ 32 = g l % 2 ^ 32)
    (hv : t.w.v = (s.w.writeDst d m f).v) (hs : t.w.sect = (s.w.writeDst d m f).sect) (hk : t.w.kreg = (s.w.writeDst d m f).kreg)
    (he : t.w.exec = (s.w.writeDst d m f).exec) (hr : t.w.rq = (s.w.writeDst d m f).rq) : LaneWord s t d m g := by
  refine ⟨?_, ?_, ?_, ?_, fun x => by rw [hs, mem_sect_writeDst]; simp only [exists_and_left, and_assoc]⟩
  · intro r l hl
    have h1 : t.w.getV r l = (s.w.writeDst d m f).getV r l := by simp only [Wave.getV, hv]
    rw [h1, getV_writeDst _ _ _ _ _ _ hl, hfg l hl]
  · rw [hr, rq_writeDst, rqEntry_congr _ _ _ _ hfg]
  · rw [hk, writeDst_frame]
  · rw [he, writeDst_frame]

/-- A lane form whose effect is a change of the wave's registers completes with it. -/
theorem laneForm_next {s : State} {st : Option Stream} {i : Instr} {weight words kmask : Nat} {sp : XaSpec} {f : XaF}
    {more : List Nat} {eff : Wave → Nat → Wave} (h : Issues s .lane weight) (hst : st.getD .lane = .lane)
    (hok : LaneOk s sp f more)
    (heff : RegsOnly s.w (eff s.w (s.w.active f.kmask.toNat))) :
    ∃ t, s.issue i st kmask weight none (fun s => s.laneForm words sp f more eff) = .next t ∧ OnlyWave s t weight
      ∧ LaneFrame s t words (s.w.xaSrcs sp f ++ more)
      ∧ t.w.v = (eff s.w (s.w.active f.kmask.toNat)).v ∧ t.w.sect = (eff s.w (s.w.active f.kmask.toNat)).sect
      ∧ t.w.kreg = (eff s.w (s.w.active f.kmask.toNat)).kreg
      ∧ t.w.exec = (eff s.w (s.w.active f.kmask.toNat)).exec ∧ t.w.rq = (eff s.w (s.w.active f.kmask.toNat)).rq := by
  have hb := laneForm_ok words eff hok
  refine ⟨_, issue_of_body h hst hb h.2.2.2.2, ?_, ?_⟩
  · refine onlyWave_of_modW s _ words weight ?_ ?_
    · rw [popUsed_eq, heff]; exact h.2.2.1
    · rw [popUsed_eq, heff]
  · have := laneFrame_of s (fun w => eff w (s.w.active f.kmask.toNat)) (s.w.xaSrcs sp f ++ more) words weight h.2.1 heff
    exact this

/-- An extended form with one result per lane. -/
theorem xaDoes_map {i : XaF → Instr} {weight : Nat} {sp : XaF → XaSpec} {val val' : XaF → Wave → Nat → Nat}
    (hexec : ∀ f s, exec (i f) s = s.laneXA (i f) weight sp f (mapBody val'))
    (hval : ∀ f w l, l < 64 → val' f w l % 2 ^ 32 = val f w l % 2 ^ 32) : XaDoes i weight sp (ToLanes val) := by
  intro f s h hl hok
  obtain ⟨t, h1, h2, h3, h4, h5, h6, h7, h8⟩ := laneForm_next (i := i f) (st := some .lane) (kmask := f.kmask.toNat)
    (words := xaWords f) (eff := fun w act => w.writeDst f.d9.toNat act (val' f w)) h rfl hok (regsOnly_writeDst _ _ _ _)
  refine ⟨t, ?_, h2, by simpa using h3, ?_⟩
  · rw [hexec, State.laneXA, State.laneXAIf, hl, hok.1]
    exact h1
  · exact laneWord_of _ _ _ _ _ _ (hval f s.w) h4 h5 h6 h7 h8

/-- A base form with one result per lane. -/
theorem baDoes_map {i : BaF → Instr} {weight ty : Nat} {sp : XaF → XaSpec} {val val' : XaF → Wave → Nat → Nat}
    (hexec : ∀ f s, exec (i f) s = s.laneBA (i f) weight sp ty f (mapBody val'))
    (hval : ∀ f w l, l < 64 → val' f w l % 2 ^ 32 = val f w l % 2 ^ 32) : BaDoes i weight sp ty (ToLanes val) := by
  intro b s f h hl hok
  obtain ⟨t, h1, h2, h3, h4, h5, h6, h7, h8⟩ := laneForm_next (i := i b) (st := some .lane) (kmask := 0)
    (words := baWords b) (eff := fun w act => w.writeDst f.d9.toNat act (val' f w)) h rfl hok (regsOnly_writeDst _ _ _ _)
  refine ⟨t, ?_, h2, by simpa using h3, laneWord_of _ _ _ _ _ _ (hval f s.w) h4 h5 h6 h7 h8⟩
  rw [hexec, State.laneBA, hl]
  exact h1

/-- Both encodings of a form with one result per lane. -/
theorem bothGive {ba : BaF → Instr} {xa : XaF → Instr} {weight ty : Nat} {sp : XaF → XaSpec}
    {val val' : XaF → Wave → Nat → Nat}
    (hba : ∀ f s, exec (ba f) s = s.laneBA (ba f) weight sp ty f (mapBody val'))
    (hxa : ∀ f s, exec (xa f) s = s.laneXA (xa f) weight sp f (mapBody val'))
    (hval : ∀ f w l, l < 64 → val' f w l % 2 ^ 32 = val f w l % 2 ^ 32) : BothGive ba xa weight sp ty val :=
  ⟨baDoes_map hba hval, xaDoes_map hxa hval⟩

theorem bit_eq_testBit (x i : Nat) : bit x i = x.testBit i := by
  simp only [bit, Nat.testBit, Nat.and_comm]
  rcases Nat.mod_two_eq_zero_or_one (x >>> i) with h | h <;> simp [h]

theorem testBit_two_mul_add (q c k : Nat) (hc : c < 2) :
    (2 * q + c).testBit k = if k = 0 then decide (c = 1) else q.testBit (k - 1) := by
  cases k with
  | zero => simp [Nat.testBit_zero]; omega
  | succ k =>
    rw [Nat.testBit_succ]
    have : (2 * q + c) / 2 = q := by omega
    simp [this]

/-- A bit of a number after one bit is replaced. -/
theorem bit_putBit (x i j : Nat) (b : Bool) : bit (putBit x i b) j = if j = i then b else bit x j := by
  obtain ⟨q, c, r, hc, hr, hx⟩ : ∃ q c r, c < 2 ∧ r < 2 ^ i ∧ x = 2 ^ i * (2 * q + c) + r :=
    ⟨x / 2 ^ i / 2, x / 2 ^ i % 2, x % 2 ^ i, Nat.mod_lt _ (by omega), Nat.mod_lt _ (Nat.two_pow_pos i), by
      rw [Nat.div_add_mod (x / 2 ^ i) 2]; exact (Nat.div_add_mod x (2 ^ i)).symm⟩
  have hd : x / 2 ^ i % 2 = c := by
    rw [hx, Nat.mul_add_div (Nat.two_pow_pos i), Nat.div_eq_of_lt hr]; omega
  have hp : putBit x i b = 2 ^ i * (2 * q + b.toNat) + r := by
    have h : putBit x i b = x - c * 2 ^ i + b.toNat * 2 ^ i := by
      rw [← hd]
      simp only [putBit, putBits, bits, Nat.shiftRight_eq_div_pow, Nat.shiftLeft_eq]
      cases b <;> simp
    rw [h, hx, Nat.mul_comm c, Nat.mul_comm b.toNat, Nat.mul_add, Nat.mul_add]; omega
  have hb : b.toNat < 2 := by cases b <;> simp
  rw [bit_eq_testBit, bit_eq_testBit, hp, hx, Nat.testBit_two_pow_mul_add _ hr, Nat.testBit_two_pow_mul_add _ hr]
  by_cases hj : j = i
  · subst hj; cases b <;> simp
  · by_cases h2 : j < i
    · simp [hj, h2]
    · have h3 : j - i ≠ 0 := by omega
      rw [if_neg hj, if_neg h2, if_neg h2, testBit_two_mul_add _ _ _ hb, testBit_two_mul_add _ _ _ hc, if_neg h3, if_neg h3]

/-- The bits of a mask register after a truth value per lane is written. -/
theorem bit_getK_writeKBits (w : Wave) (k act : Nat) (p : Nat → Bool) (j l : Nat) (hl : l < w.lanes) :
    bit ((w.writeKBits k act p).getK j) l = if j = k ∧ bit act l = true then p l else bit (w.getK j) l := by
  have hfold : ∀ (ls : List Nat) (m : Nat),
      bit (ls.foldl (fun m l => putBit m l (p l)) m) l = if l ∈ ls then p l else bit m l := by
    intro ls
    induction ls with
    | nil => intro m; simp
    | cons x xs ih =>
      intro m
      rw [List.foldl_cons, ih, bit_putBit]
      by_cases h1 : l ∈ xs <;> by_cases h2 : l = x <;> simp_all
  have hmod : ∀ m, bit (m % 2 ^ w.lanes) l = bit m l := by
    intro m; simp [bit_eq_testBit, Nat.testBit_mod_two_pow, hl]
  simp only [Wave.writeKBits, Wave.getK_setK]
  by_cases hj : j = k
  · simp [hj, hmod, hfold, mem_lanesOf, hl]
  · simp [hj]

/-- A truth value per lane, as claims say it. -/
theorem laneTruth_of (s t : State) (f : XaF) (p : Nat → Bool) (w' : Wave)
    (hw : w' = (let act := s.w.active f.kmask.toNat
      if f.imm8.getLsbD 7 then s.w.writeKBits (f.d9.toNat % 8) act p
      else s.w.writeDst f.d9.toNat act (fun l => if p l then 0xFFFFFFFF else 0)))
    (hv : t.w.v = w'.v) (hs : t.w.sect = w'.sect) (hk : t.w.kreg = w'.kreg) (he : t.w.exec = w'.exec) (hr : t.w.rq = w'.rq) :
    LaneTruth s t f p := by
  unfold LaneTruth
  cases h : f.imm8.getLsbD 7
  · simp only [h] at hw
    subst hw
    exact laneWord_of _ _ _ _ _ _ (fun _ _ => rfl) hv hs hk he hr
  · simp only [h, if_true] at hw
    subst hw
    refine ⟨?_, hv, hs, hr, he⟩
    intro j l hl
    have : t.w.getK j = (s.w.writeKBits (f.d9.toNat % 8) (s.w.active f.kmask.toNat) p).getK j := by
      simp only [Wave.getK, hk]
    rw [this, bit_getK_writeKBits _ _ _ _ _ _ hl]

/-- An extended form with one truth value per lane. -/
theorem xaDoes_pred {i : XaF → Instr} {weight : Nat} {sp : XaF → XaSpec} {p : XaF → Wave → Nat → Bool}
    (hexec : ∀ f s, exec (i f) s = s.laneXA (i f) weight sp f (predBody p)) : XaDoes i weight sp (ToTruth p) := by
  intro f s h hl hok
  obtain ⟨t, h1, h2, h3, h4, h5, h6, h7, h8⟩ := laneForm_next (i := i f) (st := some .lane) (kmask := f.kmask.toNat)
    (words := xaWords f) (eff := fun w act =>
      if f.imm8.getLsbD 7 then w.writeKBits (f.d9.toNat % 8) act (p f w)
      else w.writeDst f.d9.toNat act (fun l => if p f w l then 0xFFFFFFFF else 0)) h rfl hok
    (by cases f.imm8.getLsbD 7 <;> first | exact regsOnly_writeDst _ _ _ _ | exact regsOnly_writeKBits _ _ _ _)
  refine ⟨t, ?_, h2, by simpa using h3, laneTruth_of _ _ _ _ _ rfl h4 h5 h6 h7 h8⟩
  rw [hexec, State.laneXA, State.laneXAIf, hl, hok.1]
  exact h1

end Sys2Proof.Machine
end

