-- ==== Sys2Proof/Tests/Slice0.lean ====
section
/-! SUPPORT. Tests: words written out from the spec's encodings, ill-formed terms, small steps whose results are worked out
by hand from the rules named, and for every statement with hypotheses a state and operands that meet them. -/
namespace Sys2Proof.Tests
open Sys2Proof Sys2Proof.Machine Sys2Proof.Claims

/-! ## Small states -/

/-- Whether two results of a body are the same, as a Bool. -/
def okUnit (r : R Unit) : Bool := match r with | .ok _ => true | .error _ => false

theorem ok_of {r : R Unit} (h : okUnit r = true) : r = .ok () := by
  cases r with
  | ok u => rfl
  | error e => cases h

/-- `Issues` as a Bool. -/
def issuesB (s : State) (st : Stream) (weight : Nat) : Bool :=
  s.mayIssue && decide (s.st = st) && !s.w.mgmt && s.covered weight && !s.stalled

theorem issues_of {s : State} {st : Stream} {weight : Nat} (h : issuesB s st weight = true) : Issues s st weight := by
  simp only [issuesB, Bool.and_eq_true, decide_eq_true_eq, Bool.not_eq_true'] at h
  exact ⟨h.1.1.1.1, h.1.1.1.2, h.1.1.2, h.1.2, h.2⟩

/-- What an extended lane form asks before it completes, as a Bool. -/
def xaB (s : State) (weight : Nat) (sp : XaSpec) (f : XaF) (more : List Nat) : Bool :=
  issuesB s .lane weight && decide (legalXa sp f = none) && !s.w.dynRandFault sp f
    && okUnit (s.laneReady (s.w.xaSrcs sp f ++ more) (xaDsts sp f))
    && okUnit (s.regCheck (s.w.active f.kmask.toNat) (vRegs (xaDsts sp f ++ (s.w.xaSrcs sp f ++ more))))

/-- The hypotheses of `XaDoes` are met. -/
def XaMeets (weight : Nat) (sp : XaF → XaSpec) (f : XaF) (s : State) (more : List Nat) : Prop :=
  Issues s .lane weight ∧ legalXa (sp f) f = none ∧ LaneOk s (sp f) f more

theorem xa_of {s : State} {weight : Nat} {sp : XaF → XaSpec} {f : XaF} {more : List Nat}
    (h : xaB s weight (sp f) f more = true) : XaMeets weight sp f s more := by
  simp only [xaB, Bool.and_eq_true, decide_eq_true_eq, Bool.not_eq_true'] at h
  exact ⟨issues_of h.1.1.1.1, h.1.1.1.2, h.1.1.2, ok_of h.1.2, ok_of h.2⟩

/-- The hypotheses of `BaDoes` are met. -/
def BaMeets (weight : Nat) (sp : XaF → XaSpec) (ty : Nat) (b : BaF) (s : State) : Prop :=
  Issues s .lane weight ∧ legalBa sp ty b = none ∧ LaneOk s (sp (xaOfBa ty b)) (xaOfBa ty b) []

/-- What a base lane form asks before it completes, as a Bool. -/
def baB (s : State) (weight : Nat) (sp : XaF → XaSpec) (ty : Nat) (b : BaF) : Bool :=
  let f := xaOfBa ty b
  issuesB s .lane weight && decide (legalBa sp ty b = none) && !s.w.dynRandFault (sp f) f
    && okUnit (s.laneReady (s.w.xaSrcs (sp f) f ++ []) (xaDsts (sp f) f))
    && okUnit (s.regCheck (s.w.active f.kmask.toNat) (vRegs (xaDsts (sp f) f ++ (s.w.xaSrcs (sp f) f ++ []))))

theorem ba_of {s : State} {weight : Nat} {sp : XaF → XaSpec} {ty : Nat} {b : BaF} (h : baB s weight sp ty b = true) :
    BaMeets weight sp ty b s := by
  simp only [baB, Bool.and_eq_true, decide_eq_true_eq, Bool.not_eq_true'] at h
  exact ⟨issues_of h.1.1.1.1, h.1.1.1.2, h.1.1.2, ok_of h.1.2, ok_of h.2⟩

/-- A wave on core 0, slot 0, whose lane stream issues next: lanes 0 and 1 active, 1 and 2 in v1, 3 and 5 in v2. -/
def laneS : State :=
  (State.reset.placeWave .lane).modW (fun w => { w with
    exec := 3, v := [(64, 1#32), (65, 2#32), (128, 3#32), (129, 5#32)] })

/-- The same wave in a handler. -/
def handlerS : State := laneS.modW (fun w => { w with inTrap := true })

/-- A wave whose lead stream issues next, with 7 in s1 and 3 in s2. -/
def leadS : State :=
  (State.reset.placeWave .lead).modW (fun w => { w with s := [(1, 7#64), (2, 3#64)] })

/-- An extended form with these operands. -/
def xf (d a b c : Nat) (ty imm : Nat) : XaF :=
  { lit := none, imm21 := 0#21, d9 := BitVec.ofNat 9 d, a9 := BitVec.ofNat 9 a, b9 := BitVec.ofNat 9 b, xop := BitVec.ofNat 5 ty,
    c9 := BitVec.ofNat 9 c, rnd := 0#3, sat := 0#1, kmask := 0#3, mod := 0#4, order := 0#4, imm8 := BitVec.ofNat 8 imm }
/-- A base form with these operands. -/
def bf (d a b : Nat) : BaF := { lit := none, d := BitVec.ofNat 7 d, a := BitVec.ofNat 7 a, b := BitVec.ofNat 7 b }

/-! ## Statements about the lane stream: their hypotheses are met -/

theorem witness_LaneIntegerForms :
    BaMeets 4 specArith 5 (bf 127 1 2) laneS ∧ XaMeets 4 specArith (xf 319 1 2 0 6 0) laneS [] ∧ XaMeets 4 specImad (xf 3 1 2 1 5 0) laneS []
    ∧ XaMeets 4 specMinMax (xf 322 1 2 0 5 0) laneS [] ∧ BaMeets 4 specLogic 6 (bf 3 1 2) laneS
    ∧ XaMeets 4 specLogic (xf 323 384 511 0 6 0) laneS [] ∧ XaMeets 4 specBfx (xf 3 1 2 0 14 0) laneS []
    ∧ XaMeets 4 specBfi (xf 3 1 2 1 6 0) laneS [] ∧ BaMeets 4 specBit 6 (bf 3 1 0) laneS
    ∧ XaMeets 4 specIcmp (xf 3 1 2 0 5 5) laneS [] ∧ XaMeets 4 specSel (xf 3 1 2 1 6 0) laneS [] :=
  ⟨ba_of (by decide), xa_of (by decide), xa_of (by decide), xa_of (by decide), ba_of (by decide), xa_of (by decide),
    xa_of (by decide), xa_of (by decide), ba_of (by decide), xa_of (by decide), xa_of (by decide)⟩

theorem witness_LaneFloatArithmetic :
    BaMeets 8 specF2 0 (bf 3 1 2) laneS ∧ XaMeets 8 specFfma (xf 3 1 2 1 0 0) laneS []
    ∧ Numbers ((xf 3 1 2 1 0 0).aF laneS.w 0) ((xf 3 1 2 1 0 0).bF laneS.w 0)
    ∧ xAdd (zeroNeg (laneS.w.modeOf 0#3)) (valueOfBits .f32 1) (valueOfBits .f32 3) ≠ .nan
    ∧ xMul (valueOfBits .f32 1) (valueOfBits .f32 3) ≠ .nan :=
  ⟨ba_of (by decide), xa_of (by decide), by unfold Numbers; decide, by decide, by decide⟩

theorem witness_LaneFloatCompareAndFunctions :
    BaMeets 8 specFminmax 0 (bf 3 1 2) laneS ∧ XaMeets 8 specFcmp (xf 3 1 2 0 0 5) laneS []
    ∧ XaMeets 8 specFclass (xf 3 1 0 0 0 0) laneS [] ∧ BaMeets 12 specFn 0 (bf 3 1 0) laneS
    ∧ XaMeets 12 specFn (xf 3 1 0 0 0 0) laneS [] :=
  ⟨ba_of (by decide), xa_of (by decide), xa_of (by decide), ba_of (by decide), xa_of (by decide)⟩

theorem witness_LanePackedAndRetiredForms :
    BaMeets 8 specH2 1 (bf 3 1 2) laneS ∧ XaMeets 8 specHfma (xf 3 1 2 1 2 0) laneS []
    ∧ XaMeets 8 specDot4 (xf 3 1 2 1 4 0) laneS (dotScaleReg (xf 3 1 2 1 4 0))
    ∧ Issues laneS .lane 8 ∧ legalXa (specDot2h (xf 3 1 2 1 1 0)) (xf 3 1 2 1 1 0) = none ∧ laneS.w.dynRandFault (specDot2h (xf 3 1 2 1 1 0)) (xf 3 1 2 1 1 0) = false :=
  ⟨ba_of (by decide), xa_of (by decide), xa_of (by decide), issues_of (by decide), by decide, by decide⟩

theorem witness_LaneConversionForms :
    XaMeets 8 specCvt (xf 3 1 0 0 0 5) laneS [] ∧ XaMeets 8 specPack (xf 3 1 2 0 1 0) laneS []
    ∧ XaMeets 8 specUnpack (xf 3 1 0 0 1 0) laneS [] ∧ XaMeets 8 specDqscale (xf 3 1 2 0 4 0) laneS []
    ∧ XaMeets 8 specQscale (xf 3 1 2 0 4 0) laneS [] ∧ XaMeets 8 specHadq (xf 3 1 2 1 3 1) laneS [] ∧ laneS.w.width ≠ 16 :=
  ⟨xa_of (by decide), xa_of (by decide), xa_of (by decide), xa_of (by decide), xa_of (by decide), xa_of (by decide), by decide⟩

theorem witness_LaneReductionsAndVotes :
    XaMeets 24 (specReduce [0]) (xf 3 1 0 0 6 0) laneS [] ∧ XaMeets 24 (specReduce [0, 1]) (xf 3 1 0 0 6 0) laneS []
    ∧ XaMeets 24 specBcast (xf 3 1 2 0 6 0) laneS [] ∧ XaMeets 6 specVote (xf 3 1 0 0 22 0) laneS []
    ∧ BaMeets 6 specVote 6 (bf 3 1 0) laneS
    ∧ (let s := laneS.modW (fun w => { w with width := 64 })
      let f := xf 318 1 0 0 22 0
      Issues s .lane 6 ∧ legalXa (specVote f) f = none ∧ LaneOk s (Claims.voteSpec s f) f []) :=
  ⟨xa_of (by decide), xa_of (by decide), xa_of (by decide), xa_of (by decide), ba_of (by decide),
    issues_of (by decide), by decide, by decide, ok_of (by decide), ok_of (by decide)⟩

theorem witness_LaneExchangesAndButterflies :
    BaMeets 6 specShfl 6 (bf 3 1 2) laneS ∧ XaMeets 6 specShfl (xf 3 1 2 0 30 0) laneS [] ∧ BaMeets 6 specBcast 6 (bf 3 1 2) laneS
    ∧ XaMeets 6 specQswap (xf 3 1 0 0 6 0) laneS [] ∧ XaMeets 6 specQbcast (xf 3 1 0 0 6 3) laneS []
    ∧ XaMeets 24 specCx (xf 3 1 5 0 0 4) laneS [] ∧ (xf 3 1 5 0 0 4).imm8.toNat % 8 < groupLog (laneS.w.groupOf 0).2 :=
  ⟨ba_of (by decide), xa_of (by decide), ba_of (by decide), xa_of (by decide), xa_of (by decide), xa_of (by decide), by decide⟩

theorem witness_LaneRegisterMoves :
    BaMeets 4 specMov 6 (bf 3 1 0) laneS
    ∧ (Issues laneS .lane 4 ∧ legalXa (specMovrel (xf 3 314 2 0 6 0)) (xf 3 314 2 0 6 0) = none
      ∧ laneS.laneReady [2] [3] = .ok () ∧ laneS.regCheck 3 (vRegs [3, 2]) = .ok ()
      ∧ (∀ l ∈ lanesOf 3 32, 314 + (xf 3 314 2 0 6 0).bT 6 laneS.w l < 8 * laneS.w.g)
      ∧ laneS.laneReady ((lanesOf 3 32).map (fun l => 314 + (xf 3 314 2 0 6 0).bT 6 laneS.w l)) [] = .ok ())
    ∧ legalXa (specMovrelw (xf 3 1 2 0 6 0)) (xf 3 1 2 0 6 0) = none ∧ (∀ l ∈ lanesOf 3 32, 3 + (xf 3 1 2 0 6 0).bT 6 laneS.w l < 8 * laneS.w.g)
    ∧ XaMeets 4 specVrdl (xf 3 1 2 0 6 0) handlerS [] ∧ handlerS.w.inTrap = true
    ∧ (∀ l ∈ lanesOf 3 32, (xf 3 1 2 0 6 0).bT 6 handlerS.w l < handlerS.w.lanes ∧ (xf 3 1 2 0 6 0).aT 6 handlerS.w l < 8 * handlerS.w.g)
    ∧ XaMeets 4 specVwrl (xf 0 1 2 1 6 0) handlerS []
    ∧ (∀ l ∈ lanesOf 3 32, (xf 0 1 2 1 6 0).cT 6 handlerS.w l < handlerS.w.lanes ∧ (xf 0 1 2 1 6 0).bT 6 handlerS.w l < 8 * handlerS.w.g) :=
  ⟨ba_of (by decide), ⟨issues_of (by decide), by decide, ok_of (by decide), ok_of (by decide), by decide, ok_of (by decide)⟩,
    by decide, by decide, xa_of (by decide), by decide, by decide, xa_of (by decide), by decide⟩

theorem witness_MasksAndExec :
    Issues laneS .lane 4 ∧ legalK true (bf 7 0 1) = none ∧ legalK false (bf 7 1 0) = none
    ∧ legalXa (specGetexec (xf 3 0 0 0 6 0)) (xf 3 0 0 0 6 0) = none ∧ laneS.w.width ≠ 64 ∧ BaMeets 4 specGetexec 6 (bf 3 0 0) laneS
    ∧ XaMeets 4 specSetexec (xf 0 1 0 0 6 0) laneS [] ∧ BaMeets 4 specSetexec 6 (bf 0 1 0) laneS
    ∧ (let s := laneS.modW (fun w => { w with width := 64 })
      let f := xf 318 0 0 0 6 0
      let g := xf 0 318 0 0 6 0
      Issues s .lane 4 ∧ legalXa (specGetexec f) f = none ∧ LaneOk s (Claims.wideSpec s (specGetexec f)) f []
      ∧ legalXa (specSetexec g) g = none ∧ LaneOk s (Claims.wideSpec s (specSetexec g)) g []) :=
  ⟨issues_of (by decide), by decide, by decide, by decide, by decide, ba_of (by decide), xa_of (by decide), ba_of (by decide),
    issues_of (by decide), by decide, ⟨by decide, ok_of (by decide), ok_of (by decide)⟩, by decide,
    ⟨by decide, ok_of (by decide), ok_of (by decide)⟩⟩

theorem witness_LaneDivergence :
    let f : BlF := { off21 := 4#21, a9 := 1#9, rsvd1 := 0#18, xop := 0#5, off21b := 8#21, rsvd2 := 0#11 }
    let g : BlF := { off21 := 4#21, a9 := 1#9, rsvd1 := 0#18, xop := 1#5, off21b := 8#21, rsvd2 := 0#11 }
    let u : BlF := { off21 := 4#21, a9 := 448#9, rsvd1 := 0#18, xop := 0#5, off21b := 0#21, rsvd2 := 0#11 }
    Issues laneS .lane 4 ∧ laneS.w.stack.length < 24 ∧ legalBdiv f = none ∧ laneS.laneReady [1] [] = .ok ()
    ∧ laneS.regCheck 3 (vRegs [1]) = .ok () ∧ bdivUniform f = false ∧ laneS.w.exec &&& bdivPred f laneS.w = laneS.w.exec
    ∧ legalBdiv g = none ∧ bdivUniform g = false ∧ laneS.w.exec &&& bdivPred g laneS.w = 0
    ∧ (let s := laneS.modW (fun w => { w with kreg := [(1, 2)] })
      s.w.exec &&& bdivPred g s.w ≠ 0 ∧ s.w.exec &&& bdivPred g s.w ≠ s.w.exec)
    ∧ legalBdiv u = none ∧ bdivUniform u = true ∧ laneS.laneReady [448] [] = .ok () :=
  ⟨issues_of (by decide), by decide, by decide, ok_of (by decide), ok_of (by decide), by decide, by decide, by decide, by decide,
    by decide, by decide, by decide, by decide, ok_of (by decide)⟩

/-- `laneS` with one entry on its stack, for its own PC, of a kind. -/
def stackS (kind : Nat) : State :=
  laneS.modW (fun w => { w with stack := [{ pc := 0x400040, rpc := w.lanePc / 4 * 4 + kind, mask := 12 }] })

theorem witness_LaneControlFlow :
    let dqS := laneS.modW (fun w => { w with dq := [1#32] })
    let fullS := laneS.modW (fun w =>
      { w with stack := List.replicate 24 { pc := 0, rpc := kindCall, mask := 0 }, k := { w.k with divspill := 24 } })
    (Issues dqS .lane 4 ∧ dqS.w.dq = 1#32 :: []) ∧ (Issues laneS .lane 4 ∧ laneS.w.stack.length < 24)
    ∧ (Issues fullS .lane 4 ∧ fullS.w.stack.length ≥ 24 ∧ 24 * (fullS.w.spill + 1) ≤ fullS.w.k.divspill)
    ∧ (legalBare (bf 0 0 0) = none ∧ laneS.w.stack = [] ∧ laneS.w.spill = 0)
    ∧ (∀ k ∈ [kindCall, kindPending, kindJoin], issuesB (stackS k) .lane 4 = true ∧
        ∃ e, (stackS k).w.stack = [e] ∧ e.kind = k ∧ e.rpc / 4 = (stackS k).w.lanePc / 4) := by
  refine ⟨⟨issues_of (by decide), rfl⟩, ⟨issues_of (by decide), by decide⟩, ⟨issues_of (by decide), by decide, by decide⟩,
    by decide, ?_⟩
  intro k hk
  simp only [List.mem_cons, List.not_mem_nil, or_false] at hk
  rcases hk with rfl | rfl | rfl <;> exact ⟨by decide, _, rfl, by decide, by decide⟩

theorem witness_LeadScalarForms :
    let f := bf 3 1 2
    let g := xf 3 1 2 323 7 0
    Issues leadS .lead 1 ∧ legalLeadBs specSadd f = none
    ∧ leadS.leadOk (Claims.leadSrcs specSadd (leadOfBs f)) (leadDst (leadOfBs f).d) = .ok ()
    ∧ legalLeadXa specSadd (xf 63 1 2 0 7 0) = none ∧ legalLeadXa specSsel g = none
    ∧ leadS.leadOk (Claims.leadSrcs specSsel (leadOfXa g)) (leadDst (leadOfXa g).d) = .ok ()
    ∧ legalLeadXa specScmp (xf 3 1 2 0 5 5) = none ∧ legalLeadXa specSbfx (xf 3 1 2 0 15 0) = none
    ∧ legalLeadBs specSmov (bf 3 1 0) = none ∧ legalLeadBs specSand (bf 65 1 127) = none :=
  ⟨issues_of (by decide), by decide, ok_of (by decide), by decide, by decide, ok_of (by decide), by decide, by decide, by decide,
    by decide⟩

theorem witness_LeadControlFlow :
    let heldS := leadS.modW (fun w => { w with lanePc := heldPc })
    let retS := leadS.modW (fun w => { w with s := [(2, 0x400000#64)] })
    let cond : BlF := { off21 := 4#21, a9 := 1#9, rsvd1 := 0#18, xop := 13#5, off21b := 0#21, rsvd2 := 0#11 }
    let loop : BlF := { off21 := 4#21, a9 := 1#9, rsvd1 := 0#18, xop := 8#5, off21b := 0#21, rsvd2 := 0#11 }
    Issues leadS .lead 1 ∧ leadS.leadOk [] [leadS.w.k.sregs - 1] = .ok ()
    ∧ (Issues retS .lead 1 ∧ legalSret (bf 0 0 2) = none ∧ retS.leadOk [.s 2] [] = .ok () ∧ retS.w.getS 2 % 4 = 0)
    ∧ (Issues heldS .lead 1 ∧ heldS.w.lanePc = heldPc ∧ heldS.w.laneDone = false) ∧ legalBare (bf 0 0 0) = none
    ∧ (legalSbrc cond = none ∧ leadS.w.dq.length < 16 ∧ leadS.leadOk [leadIx9 1] [] = .ok ())
    ∧ (legalSloop loop = none ∧ leadS.leadOk [.s 1] [1] = .ok ())
    ∧ (legalB 32 (fun _ => true) (bf 0 0 1) = none ∧ leadS.leadReady [.s 1] [] = .ok () ∧ leadS.sregCheck [1] = .ok ()) :=
  ⟨issues_of (by decide), ok_of (by decide), ⟨issues_of (by decide), by decide, ok_of (by decide), by decide⟩,
    ⟨issues_of (by decide), by decide, by decide⟩, by decide, ⟨by decide, by decide, ok_of (by decide)⟩,
    ⟨by decide, ok_of (by decide)⟩, ⟨by decide, ok_of (by decide), ok_of (by decide)⟩⟩

/-- A segment of a block on a core, with one semaphore and one barrier that any block may wait on. -/
def segT (core : Nat) : CoreSeg :=
  { core := core, reserve := 2, sems := [{ count := 5, tag := 0, takes := [] }],
    bars := [{ arr := 1, exp := 3, phase := 0, pend := 0, tag := 0, waiters := [], next := 0 }], scratch := [(4, 7#8)], tiles := []
    ssect := [0], tsect := [] }

/-- The block of the test wave, on cores 0 and 1 of die 0. -/
def blockT : Block :=
  { key := { node := 0, blk := 0, grid := 0 }, die := 0, core0 := 0, k := 2, n := 1, width := 32, status := .running, pcls := 0,
    prio := 0, r := 1, depth := 0, segs := [segT 0, segT 1], spanBars := [], edges := [(0, 4)], later := 0, desc := some (0, 0), live := 1,
    cause := 0, grid := none, tileKeys := [], saved := [], abandoned := [], vacate := false }

/-- `leadS` in that block, whose family 7 is listed in cluster 0; its line is raised or not. -/
def rangeS (raised : Bool) : State :=
  ({ leadS with blocks := [blockT] } : State).modCluster 0 (fun c => { c with
    descs := { RDesc.empty with next := 3, hi := 5, grain := 4, family := 7, valid := true } :: c.descs.tail
    abortLines := if raised then [7] else [] })

theorem witness_PoolAndAbortForms :
    let f := bf 0 0 1
    let s := ({ leadS with blocks := [blockT] } : State).modW (fun w => { w with s := [(1, 2#64)], g := 38 })
    let r := (rangeS true).modW (fun w => { w with k := { w.k with abortPc := 0x400000 } })
    (Issues s .lead 1 ∧ legalB 64 countIx f = none ∧ s.leadOk [.s 1] [] = .ok () ∧ s.w.leadVal none (.s 1) = 2
      ∧ s.claims s.w.key s.w.core = [] ∧ s.w.granules 2 ≤ s.reserve s.w.key s.w.core ∧ 2 < s.w.g ∧ s.w.g + 2 ≤ 40
      ∧ blockT ∈ s.blocks ∧ (s.blocks.map (fun b => b.key)).Nodup)
    ∧ (let p : State := { s with
        blocks := [{ blockT with segs := [{ segT 0 with reserve := 1 }] }]
        waves := { s.w with slot := 1, g := 1 } :: s.waves }
      Issues p .lead 1 ∧ p.leadOk [.s 1] [] = .ok () ∧ p.w.leadVal none (.s 1) = 2 ∧ p.w.granules 2 ≤ p.couldHold
      ∧ p.reserve p.w.key p.w.core < p.w.granules 2)
    ∧ (legalBare (bf 0 0 0) = none ∧ leadS.family leadS.w.key = none)
    ∧ (Issues (rangeS true) .lead 1 ∧ (rangeS true).family leadS.w.key = some (0, 7)
      ∧ ((rangeS true).cluster 0).abortLines.contains 7 = true)
    ∧ (Issues (rangeS false) .lead 1 ∧ (rangeS false).family leadS.w.key = some (0, 7)
      ∧ ((rangeS false).cluster 0).abortLines.contains 7 = false ∧ (rangeS false).lineRaised (rangeS false).w = false)
    ∧ (Issues r .lead 1 ∧ r.lineRaised r.w = true ∧ r.w.k.abortPc ≠ 0) :=
  ⟨⟨issues_of (by decide), by decide, ok_of (by decide), by decide, by decide, by decide, by decide, by decide, by decide, by decide⟩,
    ⟨issues_of (by decide), ok_of (by decide), by decide, by decide, by decide⟩, ⟨by decide, by decide⟩, ⟨issues_of (by decide), by decide, by decide⟩, ⟨issues_of (by decide), by decide, by decide, by decide⟩,
    ⟨issues_of (by decide), by decide, by decide⟩⟩

/-! ## Statements about memory -/

/-- Some answer of a body. -/
def isOk {α : Type} (r : R α) : Bool := match r with | .ok _ => true | .error _ => false

theorem some_of {α : Type} {r : R α} (h : isOk r = true) : ∃ a, r = .ok a := by
  cases r with
  | ok a => exact ⟨a, rfl⟩
  | error e => cases h

/-- `s` with a page at virtual 0x800000, of every permission, translated for core 0. -/
def paged (s : State) : State :=
  s.modCore 0 (fun c => { c with tlb := { va := 0x800000, lg := 14, pa := 0x20000, perm := 15 } :: c.tlb })

/-- Lanes 0 and 1 hold the addresses `x` and `y` in v1 and v2. -/
def addrS (x y : Word) : State := paged (laneS.modW (fun w => { w with v := [(64, x), (65, y)] }))

/-- `leadS` with the address of the page in s1. -/
def leadMemS : State := paged (leadS.modW (fun w => { w with s := [(1, 0x800000#64)] }))

/-- An XM form. -/
def mf (d a b c xop order imm : Nat) : XmF :=
  { lit := none, off21 := 0#21, d9 := BitVec.ofNat 9 d, a9 := BitVec.ofNat 9 a, b9 := BitVec.ofNat 9 b, xop := BitVec.ofNat 5 xop,
    c9 := BitVec.ofNat 9 c, rsvd1 := 0#4, kmask := 0#3, rsvd2 := 0#4, order := BitVec.ofNat 4 order, imm8 := BitVec.ofNat 8 imm }

theorem witness_LaneAddressedAccess :
    let s := addrS 0x800000#32 0x803FFC#32
    let f : BmF := { d := 3#7, a := 1#7, off7 := 0#7 }
    let x := mf 3 1 323 0 0 0 0
    (Issues s .lane 16 ∧ legalLdBm 4 f = none ∧ s.laneReady (wideRegs 1 2) (wideRegs 3 1) = .ok () ∧ s.w.counter .laneLd < 63
      ∧ s.regCheck 3 (wideRegs 3 1 ++ vRegs (wideRegs 1 2)) = .ok ()
      ∧ ∃ l, s.checkAccess true 0 4 4 (lanesEa s.w 3 (eaBm f 4)) = .ok l)
    ∧ (legalLdXm 4 x = none ∧ s.laneReady (xmAddrSrcs x) (wideRegs 3 1) = .ok ()
      ∧ ∃ l, s.checkAccess true 0 4 4 (lanesEa s.w 3 (eaXm x)) = .ok l)
    ∧ (legalStBm 4 f = none ∧ legalStXm 4 x = none ∧ s.laneReady (wideRegs 1 2 ++ wideSrc 3 1) [] = .ok ()
      ∧ s.w.counter .laneSt < 63 ∧ ∃ l, s.checkAccess true 1 4 4 (lanesEa s.w 3 (eaBm f 4)) = .ok l ∧ s.plainCheck true 4 l = .ok ())
    ∧ (let bad := (addrS 0x800000#32 0#32).modW (fun w => { w with v := w.v ++ [(129, 0x8000#32)] })
      Issues bad .lane 16 ∧ (lanesEa bad.w 3 (eaXm x)).filter (fun p => !decide (0 ≤ p.2 ∧ p.2 < 2 ^ 47)) = [(1, 2 ^ 47)])
    ∧ (let odd := addrS 0x800000#32 0x800002#32
      Issues odd .lane 16 ∧ (lanesEa odd.w 3 (eaXm x)).all (fun p => decide (0 ≤ p.2 ∧ p.2 < 2 ^ 47)) = true
      ∧ (lanesEa odd.w 3 (eaXm x)).filter (fun p => decide (p.2 % 4 ≠ 0)) = [(1, 0x800002)]) :=
  ⟨⟨issues_of (by decide), by decide, ok_of (by decide), by decide, ok_of (by decide), some_of (by decide)⟩,
    ⟨by decide, ok_of (by decide), some_of (by decide)⟩,
    ⟨by decide, by decide, ok_of (by decide), by decide, _, rfl, ok_of (by decide)⟩,
    ⟨issues_of (by decide), by decide⟩, ⟨issues_of (by decide), by decide, by decide⟩⟩

theorem witness_TargetedAndAtomicAccesses :
    let s := addrS 0x800000#32 0x803FFC#32
    let t := mf 3 1 323 449 0 0 4
    let p := mf 0 1 323 0 0 0 0
    let a := mf 3 1 4 0 0 0 4
    (Issues s .lane 16 ∧ legalStt t = none ∧ s.laneReady ((xmAddrSrcs t ++ [449]) ++ wideSrc 3 1) [] = .ok ()
      ∧ s.regCheck 3 (vRegs ((xmAddrSrcs t ++ [449]) ++ wideSrc 3 1)) = .ok () ∧ (∃ cs, s.sttTargets t 3 = .ok cs)
      ∧ ∃ l, s.checkAccess true 1 4 4 (lanesEa s.w 3 (eaXm t)) = .ok l ∧ s.plainCheck true 4 l = .ok ())
    ∧ (legalPref p = none ∧ s.laneReady (xmAddrSrcs p) [] = .ok () ∧ s.regCheck 3 (vRegs (xmAddrSrcs p)) = .ok ())
    ∧ (legalAtom a = none ∧ s.laneReady [1, 2, 4] [3] = .ok () ∧ s.w.counter .laneLd < 63
      ∧ s.regCheck 3 [3, 1, 2, 4] = .ok () ∧ ∃ l, s.checkAccess true 2 4 4 (lanesEa s.w 3 (eaBase a)) = .ok l ∧ s.plainCheck true 4 l = .ok ()) :=
  ⟨⟨issues_of (by decide), by decide, ok_of (by decide), ok_of (by decide), some_of (by decide), _, rfl, ok_of (by decide)⟩,
    ⟨by decide, ok_of (by decide), ok_of (by decide)⟩,
    ⟨by decide, ok_of (by decide), by decide, ok_of (by decide), _, rfl, ok_of (by decide)⟩⟩

theorem witness_ScratchpadAccess :
    let s : State := { addrS 0#32 60#32 with blocks := [blockT] }
    let s := s.modW (fun w => { w with k := { w.k with scratch := 64 } })
    let f := mf 3 1 323 0 0 0 4
    Issues s .lane 10 ∧ legalLdsp f = none ∧ legalStsp f = none ∧ s.laneReady [1, 323] [3] = .ok () ∧ s.w.counter .laneLd < 63
    ∧ s.descCheck f (scratchLanes f s.w 3) = .ok () ∧ s.regCheck 3 [3, 1] = .ok ()
    ∧ s.scratchCheck false 4 4 (scratchLanes f s.w 3) = .ok () ∧ s.laneReady ([1, 323] ++ wideSrc 3 1) [] = .ok ()
    ∧ s.w.counter .laneSt < 63 ∧ (s.block? s.w.key).any (fun b => b.segs.any (fun g => g.core == s.w.core)) = true :=
  ⟨issues_of (by decide), by decide, by decide, ok_of (by decide), by decide, ok_of (by decide), ok_of (by decide), ok_of (by decide),
    ok_of (by decide), by decide, by decide⟩

theorem witness_LeadMemoryAccess :
    let s := leadMemS
    let f : BmF := { d := 3#7, a := 1#7, off7 := 0#7 }
    let x := mf 3 1 323 0 0 0 5
    let q := mf 0 1 384 0 0 0 4
    (Issues s .lead 12 ∧ legalLdsBm f = none ∧ s.leadReady [.s 1] [3] = .ok () ∧ s.w.counter .leadLd < 63 ∧ s.sregCheck [1, 3] = .ok ()
      ∧ ∃ a, s.checkAccess false 0 5 8 [(0, eaLeadBm f s.w)] = .ok [a])
    ∧ (legalLdsXm x = none ∧ s.leadReady (leadAddrSrcs x) [3] = .ok () ∧ ∃ a, s.checkAccess false 0 5 8 [(0, eaLead x s.w)] = .ok [a])
    ∧ (legalStsBm f = none ∧ legalStsXm x = none ∧ s.leadReady [.s 3, .s 1] [] = .ok () ∧ s.w.counter .leadSt < 63
      ∧ ∃ l, s.checkAccess false 1 5 8 [(0, eaLeadBm f s.w)] = .ok l ∧ s.plainCheck false 8 l = .ok ())
    ∧ (legalLdlq q = none ∧ s.leadReady (leadAddrSrcs q) [] = .ok () ∧ s.w.lq.length < 16
      ∧ (BitVec.ofNat 64 (s.w.leadVal none (leadIx9 384))).toInt = -64
      ∧ ∃ l, s.checkAccess true 0 4 4 ((List.range s.w.lanes).map (fun k => (k, (0x802000 : Int) + (k : Int) * -64))) = .ok l) :=
  ⟨⟨issues_of (by decide), by decide, ok_of (by decide), by decide, ok_of (by decide), _, rfl⟩,
    ⟨by decide, ok_of (by decide), _, rfl⟩, ⟨by decide, by decide, ok_of (by decide), by decide, _, rfl, ok_of (by decide)⟩,
    ⟨by decide, ok_of (by decide), by decide, by decide, some_of (by decide)⟩⟩

/-- `s` with an open range of FP32 sums over the first line of the page, in state C or still opening. -/
def openS (s : State) (active : Bool) : State :=
  s.modDie 0 (fun d => { d with ranges :=
    { valid := true, fmt := 0, op := 0, closing := false, len := 128, base := 0x800000, active := active,
      pages := [0x20000] } :: d.ranges.tail })

set_option maxRecDepth 20000 in
theorem witness_CommutativeAndPhaseForms :
    let c := (openS (addrS 0x800000#32 0#32) true).modW (fun w => { w with exec := 1 })
    let f := mf 0 1 3 0 0 0 4
    let g := mf 3 1 2 0 0 0 0
    let s := leadMemS.modW (fun w => { w with s := [(1, 0x800000#64), (2, 128#64)] })
    let hold (h : Hold) : State := (openS s false).modW (fun w => { w with holding := some h })
    let op := hold (.opening 0 0 3)
    let ph := hold (.phase 3 [5] true)
    let far := s.modW (fun w => { w with s := [(1, 0x7FFFFFFFFF80#64), (2, 256#64)] })
    let lineC : L1Line := { line := 0x20000, st := .c, data := List.replicate 128 0#8, touched := 1, drop := false }
    let cc := c.modCore 0 (fun x => { x with l1 := [lineC] })
    (Issues c .lane 16 ∧ legalCadd f = none ∧ c.laneReady [1, 2, 3] [] = .ok () ∧ c.regCheck 1 [1, 2, 3] = .ok ()
      ∧ c.checkAccess true 2 4 4 (lanesEa c.w 1 (eaBase f)) = .ok [⟨0, 0x800000, 0x20000⟩]
      ∧ (∃ d i r, c.rangeAt 0x800000 4 = some (d, i, r) ∧ r.active = true)
      ∧ ∃ s', (c.tlbFills [⟨0, 0x800000, 0x20000⟩]).caddLanes (fun k => c.w.src f.lit f.b9.toNat k) c.w.lanePc
          [⟨0, 0x800000, 0x20000⟩] = .ok s')
    ∧ (Issues s .lead 12 ∧ legalCrange g = none ∧ s.crangeCheck g = .ok ()
      ∧ s.crangeXl (crangePages (crangeBase g s.w) (crangeLen g s.w)) = .ok [0x20000]
      ∧ s.homeOf 0 0x20000 = 0 ∧ (s.die 0).ranges.findIdx? (fun r => !r.valid) = some 0)
    ∧ (s.crangeCheck g = .ok () ∧ crangeBase g s.w + crangeLen g s.w ≤ 2 ^ 47 ∧ crangeBase g far.w + crangeLen g far.w > 2 ^ 47
      ∧ Issues far .lead 12 ∧ far.crangeCheck g = .ok ())
    ∧ ((cc.core 0).line? 0x20000 = some lineC ∧ lineC.st = .c ∧ lineC.data.length = 128
      ∧ ∃ s', (cc.tlbFills [⟨0, 0x800000, 0x20000⟩]).caddLanes (fun k => cc.w.src f.lit f.b9.toNat k) cc.w.lanePc
          [⟨0, 0x800000, 0x20000⟩] = .ok s')
    ∧ (op.focus 0 0 .lead = some op ∧ op.w.holding = some (.opening 0 0 3) ∧ op.dir = []
      ∧ op.writesInFlight ((op.die 0).ranges.getD 0 CRange.empty) = false)
    ∧ (ph.focus 0 0 .lead = some ph ∧ ph.w.holding = some (.phase 3 [5] true) ∧ ph.releaseDone 0 0 [5] 3 = true)
    ∧ (let wait := ph.modW (fun w => { w with ops := [{ id := 5, cls := .laneSt, tinfo := 0, pc := 0, left := 1, leftDie := 1, leftAll := 1
                                                        pushes := false, dst := .none, acq := false, got := [], bad := [], done := false }] })
      wait.focus 0 0 .lead = some wait ∧ wait.releaseDone 0 0 [5] 3 = false)
    ∧ ((openS s false).ranges.find? (fun p => p.2.2.valid && !p.2.2.closing
        && decide (p.2.2.base = 0x800000 ∧ p.2.2.len = 128 ∧ p.2.2.fmt = 0 ∧ p.2.2.op = 0))).map (fun p => p.2.2.active) = some false
    ∧ ((hold (.closing 0 0 3)).focus 0 0 .lead = some (hold (.closing 0 0 3)) ∧ (hold (.closing 0 0 3)).net = [])
    ∧ (Issues (openS s true) .lead 12 ∧ ∃ p, (openS s true).ranges.find? (fun p => p.2.2.valid && !p.2.2.closing
        && decide (p.2.2.base = 0x800000 ∧ p.2.2.len = 128 ∧ p.2.2.fmt = 0 ∧ p.2.2.op = 0)) = some p)
    ∧ (legalPhBs (bf 0 0 0) = none ∧ legalPhXm (mf 0 0 0 0 0 12 0) = none ∧ s.releaseDone 0 0 s.memOps 3 = true
      ∧ s.releaseDone 0 0 s.memOps (phaseScope 12) = true) :=
  ⟨⟨issues_of (by decide), by decide, ok_of (by decide), ok_of (by decide), by rfl, ⟨_, _, _, rfl, rfl⟩, _, rfl⟩,
    ⟨issues_of (by decide), by decide, ok_of (by decide), by rfl, by decide, by decide⟩,
    ⟨ok_of (by decide), by decide, by decide, issues_of (by decide), ok_of (by decide)⟩,
    ⟨by decide, by decide, by decide, _, rfl⟩, ⟨by decide, by decide, by decide, by decide⟩, ⟨by decide, by decide, by decide⟩,
    ⟨by decide, by decide⟩, by decide, ⟨by decide, by decide⟩, ⟨issues_of (by decide), Option.isSome_iff_exists.mp (by decide)⟩, ⟨by decide, by decide, by decide, by decide⟩⟩

/-! ## Statements about the matrix engine and synchronisation -/

/-- An XT form. -/
def tf (tile aux imm d a b xop : Nat) : XtF :=
  { lit := none, tile := BitVec.ofNat 6 tile, aux6 := BitVec.ofNat 6 aux, imm9 := BitVec.ofNat 9 imm, d9 := BitVec.ofNat 9 d,
    a9 := BitVec.ofNat 9 a, b9 := BitVec.ofNat 9 b, xop := BitVec.ofNat 5 xop, c9 := 0#9, rnd := 0#3, sat := 0#1, kmask := 0#3,
    skew := 0#1, rsvd1 := 0#7, imm8 := 0#8 }

/-- A wave with four tiles, a scratchpad of 4 KiB and these active lanes, in its block. -/
def matS (act : Nat) : State :=
  ({ laneS with blocks := [blockT] } : State).modW (fun w => { w with exec := act, v := [], k := { w.k with tiles := 4, scratch := 4096 } })

set_option maxRecDepth 20000 in
theorem witness_MatrixPosts :
    let s := matS 255
    let m := tf 3 0 0 0 1 2 2
    let p := tf 2 3 0 0 1 2 2
    (Issues s .lane (mmaWeight false m s) ∧ legalXt (useMma false m) m = none ∧ s.laneReady [1, 2] [] = .ok () ∧ Claims.EngineRoom s
      ∧ s.regCheck 255 [1, 2] = .ok () ∧ octetsOf 255 = [0] ∧ partialOctets 255 = []
      ∧ matrixAddrs (aAddrs 4096 0 (s.w.lanesVal none 1) ++ [bAddr m 4096 0 0]) = .ok ())
    ∧ (Issues s .lane (mmaWeight true p s) ∧ legalXt (useMma true p) p = none
      ∧ (s.block? s.w.key).any (fun b => b.segs.any (fun g => g.core == partner s.w.core)) = true)
    ∧ (Issues (matS 3) .lane (mmaWeight false m (matS 3)) ∧ partialOctets 3 ≠ [])
    ∧ (Issues (matS 0) .lane 16 ∧ lowestLane (matS 0).w.exec (matS 0).w.lanes = none ∧ legalXt useMzero (tf 3 0 0 0 0 0 0) = none)
    ∧ (Issues s .lane 16 ∧ lowestLane s.w.exec s.w.lanes = some 0 ∧ legalXt (useMove (tf 3 0 0 0 1 0 0)) (tf 3 0 0 0 1 0 0) = none
      ∧ (∀ x ∈ moveWords false 0 0, x + 4 ≤ s.w.k.scratch) ∧ legalXt useMrd (tf 3 0 0 316 0 0 0) = none
      ∧ s.laneReady [] [316, 317, 318, 319] = .ok () ∧ legalXt useMwr (tf 3 0 0 0 316 0 0) = none
      ∧ legalXt useMsig (tf 0 0 0 0 1 2 0) = none ∧ ∃ x, s.bar? s.w.key s.w.j 0 = some x) :=
  ⟨⟨issues_of (by decide), by decide, ok_of (by decide), ⟨by decide, by decide⟩, ok_of (by decide), by decide, by decide, ok_of (by decide)⟩,
    ⟨issues_of (by decide), by decide, by decide⟩, ⟨issues_of (by decide), by decide⟩, ⟨issues_of (by decide), by decide, by decide⟩,
    ⟨issues_of (by decide), by decide, by decide, by decide, by decide, ok_of (by decide), by decide, by decide, _, rfl⟩⟩

set_option maxRecDepth 20000 in
theorem witness_MatrixBatches :
    let s := matS 255
    let out := s.modW (fun w => { w with batches := [{ num := 0, pending := 1, nan := 0, ovf := 0 }] })
    (Issues s .lane 16 ∧ legalXt useMfence (tf 0 0 0 319 0 0 0) = none ∧ lowestLane s.w.exec s.w.lanes = some 0
      ∧ s.laneReady [] [319] = .ok () ∧ s.w.batches.length < 16 ∧ s.regCheck 255 [319] = .ok ())
    ∧ (legalXt useMwait (tf 0 0 0 0 1 0 0) = none ∧ s.laneReady [1] [] = .ok () ∧ ∀ b ∈ s.w.batches, b.num ≠ 0)
    ∧ (Issues out .lane 16 ∧ ∃ b ∈ out.w.batches, b.num = out.w.src none 1 0 % 65536) :=
  ⟨⟨issues_of (by decide), by decide, by decide, ok_of (by decide), by decide, ok_of (by decide)⟩,
    ⟨by decide, ok_of (by decide), by decide⟩, ⟨issues_of (by decide), by decide⟩⟩

/-- An XS form. -/
def sf (sel imm12 d a b xop order imm8 : Nat) : XsF :=
  { lit := none, sel9 := BitVec.ofNat 9 sel, imm12 := BitVec.ofNat 12 imm12, d9 := BitVec.ofNat 9 d, a9 := BitVec.ofNat 9 a,
    b9 := BitVec.ofNat 9 b, xop := BitVec.ofNat 5 xop, c9 := 0#9, rsvd1 := 0#4, kmask := 0#3, rsvd2 := 0#4, order := BitVec.ofNat 4 order,
    imm8 := BitVec.ofNat 8 imm8 }

/-- An outstanding operation of a class. -/
def opT (id : Nat) (cls : OpCls) : Op :=
  { id := id, cls := cls, tinfo := 0, pc := 0, left := 1, leftDie := 0, leftAll := 0, pushes := false, dst := .none, acq := false, got := [],
    bad := [], done := false }

/-- A deferred POISON of operation 1. -/
def defT : Deferred :=
  { cause := 0x0B, op := 1, cls := .laneLd, flanes := 1, taddr := 0x800000, tinfo := 0, dst := .none, later := 0, handler := false }

theorem witness_WaitForCounters :
    let f := sf 0 0 0 0 0 0 0 0
    let busy := laneS.modW (fun w => { w with ops := [opT 1 .laneLd] })
    let bad := laneS.modW (fun w => { w with deferred := some defT })
    Issues laneS .lane 8 ∧ legalWait .lane f = none ∧ legalWait .lead f = none ∧ Issues leadS .lead 8
    ∧ (classesOf .lane).any (fun c => match waitField f c with | some n => decide (laneS.w.counter c > n) | none => false) = false
    ∧ waitSelects f laneS.w .lane = false
    ∧ (Issues busy .lane 8 ∧ (classesOf .lane).any (fun c => match waitField f c with | some n => decide (busy.w.counter c > n) | none => false) = true)
    ∧ (Issues bad .lane 8 ∧ waitSelects f bad.w .lane = true ∧ bad.w.takable = some defT) :=
  ⟨issues_of (by decide), by decide, by decide, issues_of (by decide), by decide, by decide, ⟨issues_of (by decide), by decide⟩,
    ⟨issues_of (by decide), by decide, by decide⟩⟩

/-- `leadS` in its block. -/
def syncS : State := { leadS with blocks := [blockT] }

theorem witness_SignalsAreSent :
    let f := sf 0 0 0 0 1 0 0 0
    let g := sf 0 0 0 1 2 0 0 0
    Issues syncS .lead 8 ∧ legalSync (specSem false) .lead f = none ∧ syncS.syncVals (specSem false) f = .ok (some (0, 7))
    ∧ syncS.w.counter (qoClass .lead) < 31 ∧ (∃ x, syncS.semOf f 0 = .ok (syncS.w.key, 0, 0, x) ∧ x.tag % 4 ≠ 3)
    ∧ (∃ x, syncS.barOf f 0 = .ok (syncS.w.key, 0, 0, x) ∧ x.tag % 4 ≠ 3 ∧ x.waiters = [])
    ∧ legalSync (specBar true) .lead f = none ∧ legalSync (specBar false) .lead f = none ∧ legalSync specBarexp .lead f = none
    ∧ (specBar true).lo ≤ 7 ∧ 7 ≤ (specBar true).hi ∧ (specBar false).lo ≤ 7 ∧ 7 ≤ (specBar false).hi
    ∧ legalSync specJoin .lead g = none ∧ syncS.syncVals specJoin g = .ok (some (7, 3)) ∧ specJoin.lo ≤ 3 ∧ 3 ≤ specJoin.hi
    ∧ (syncS.join 0 7).tag % 4 ≠ 3
    ∧ (let none_ := laneS.modW (fun w => { w with exec := 0 })
      Issues none_ .lane 8 ∧ lowestLane (none_.w.active 0) none_.w.lanes = none) :=
  ⟨issues_of (by decide), by decide, by rfl, by decide, ⟨_, rfl, by decide⟩, ⟨_, rfl, by decide, by decide⟩, by decide, by decide, by decide,
    by decide, by decide, by decide, by decide, by decide, by rfl, by decide, by decide, by decide, issues_of (by decide), by decide⟩

theorem witness_SemaphoreAndBarrierWaits :
    let now := syncS.modW (fun w => { w with s := [(1, 5#64)] })
    let f := sf 0 0 0 0 1 8 0 0
    let b0 := sf 0 0 0 0 448 0 0 0
    let b1 := sf 0 0 0 0 449 0 0 0
    let foreign (tag : Nat) : State :=
      { syncS with blocks := [{ blockT with segs := [{ segT 0 with sems := [{ count := 5, tag := tag, takes := [] }] }] }] }
    (Issues now .lead 8 ∧ legalSync (specSem true) .lead f = none ∧ now.syncVals (specSem true) f = .ok (some (0, 5))
      ∧ (∃ x, now.semOf f 0 = .ok (now.w.key, 0, 0, x) ∧ x.count ≥ 5 ∧ x.takes = [] ∧ x.tag % 4 = 0) ∧ now.isSaved now.w.key = false)
    ∧ (Issues syncS .lead 8 ∧ syncS.syncVals (specSem true) f = .ok (some (0, 7)) ∧ ∃ x, syncS.semOf f 0 = .ok (syncS.w.key, 0, 0, x) ∧ x.count < 7)
    ∧ (Issues (foreign 1) .lead 8 ∧ ∃ x, (foreign 1).semOf f 0 = .ok (syncS.w.key, 0, 0, x) ∧ x.tag = 1)
    ∧ (legalSync specBarwait .lead b0 = none ∧ syncS.syncVals specBarwait b0 = .ok (some (0, 0)) ∧ syncS.syncVals specBarwait b1 = .ok (some (0, 1))
      ∧ ∃ x, syncS.barOf b0 0 = .ok (syncS.w.key, 0, 0, x) ∧ x.phase = 0 ∧ waitLegal x.tag syncS.w.key syncS.w.key = true)
    ∧ syncS.lineRaised syncS.w = false
    ∧ (let r : State := { rangeS true with blocks := [{ blockT with segs := [segT 0] }] }
      Issues r .lead 8 ∧ r.lineRaised r.w = true ∧ ∃ x, r.barOf b0 0 = .ok (r.w.key, 0, 0, x) ∧ waitLegal x.tag r.w.key r.w.key = true)
    ∧ (let no : State := { syncS with blocks := [{ blockT with segs := [{ segT 0 with
          bars := [{ arr := 1, exp := 3, phase := 0, pend := 0, tag := 1, waiters := [], next := 0 }] }] }] }
      Issues no .lead 8 ∧ no.syncVals specBarwait b0 = .ok (some (0, 0))
      ∧ ∃ x, no.barOf b0 0 = .ok (no.w.key, 0, 0, x) ∧ waitLegal x.tag no.w.key no.w.key = false) :=
  ⟨⟨issues_of (by decide), by decide, by rfl, ⟨_, rfl, by decide, by decide, by decide⟩, by decide⟩,
    ⟨issues_of (by decide), by rfl, _, rfl, by decide⟩, ⟨issues_of (by decide), _, rfl, rfl⟩,
    ⟨by decide, by rfl, by rfl, _, rfl, rfl, by decide⟩, by decide, ⟨issues_of (by decide), by decide, _, rfl, by decide⟩,
    ⟨issues_of (by decide), by rfl, _, rfl, by decide⟩⟩

/-! ## Statements about queues and jobs -/

/-- A node of a kind with records of some bytes and one edge. -/
def nodeT (kind recsz target : Nat) : Node :=
  { kind := kind, recsz := recsz, cls := 1, qclass := 0, prio := 0, width := 32, policy := 0, waitf := false, tileord := false, coop := 1,
    minfill := 1, maxwait := 1000, codeptr := 0, constptr := 0, edges := [{ target := target, fanout := 4, depth := 0 }], cmask := 2 ^ 24 - 1,
    dslots := 0, dgran := 0, param := 0, tv := [], sinkd := 1, hdr := KInfo.none, roles := [1], obj := 0, raw := 0 }

/-- A started graph: node 0 a shader that feeds itself, node 1 a dispatch node, node 2 a raster node that feeds node 1. -/
def graphT (n0 : Node) : Graph :=
  { id := 1, nodes := [n0, nodeT 2 16 0, nodeT 3 64 1], ptroot := 0, running := true, started := true,
    status := List.replicate 3 { taken := 0, put := 0, lost := 0, overrun := 0, skip := 0, flags := 0 }, nextBlk := [0, 0, 0],
    layouts := [], qshare := 64, resv := [] }

/-- An entry of a queue. -/
def entryT (seq : Nat) : QEntry :=
  { seq := seq, depth := 0, family := 0, cmark := false, cluster := 0, void := false, sideb := [], bytes := List.replicate 32 (BitVec.ofNat 8 seq),
    since := 0, batch := none, spilled := false }

/-- A queue of node 0. -/
def queueT (es : List QEntry) : Queue := { node := 0, qhead := 0, qtail := es.length, qresv := 0, qcap := 64, scap := 0, qtag := 0, entries := es }

/-- `s` in its block, with a graph and a queue on die 0. -/
def withGraph (n0 : Node) (es : List QEntry) (s : State) : State :=
  ({ s with graph := some (graphT n0), blocks := [blockT] } : State).modDie 0 (fun d => { d with queues := [queueT es] })

/-- An XQ form. -/
def qf (imm21 d a b xop imm8 : Nat) : XqF :=
  { lit := none, imm21 := BitVec.ofNat 21 imm21, d9 := BitVec.ofNat 9 d, a9 := BitVec.ofNat 9 a, b9 := BitVec.ofNat 9 b,
    xop := BitVec.ofNat 5 xop, c9 := 0#9, rsvd1 := 0#3, push := 0#1, kmask := 0#3, rsvd2 := 0#4, order := 0#4, imm8 := BitVec.ofNat 8 imm8 }

theorem witness_QueueConsume :
    let f := qf 0 62 0 448 0 0
    let first := withGraph (nodeT 0 32 0) [] leadS
    let later (n : Node) (es : List QEntry) : State := (withGraph n es leadS).modW (fun w => { w with winFirst := true, winBase := 0x40000 })
    let grid : State := { withGraph (nodeT 2 0 0) [] leadS with blocks := [{ blockT with grid := some (3, 4096) }] }
    let raised : State := { rangeS true with graph := first.graph }
    (Issues first .lead 8 ∧ legalConsume f = none ∧ first.leadReady [leadIx9 448] [62, 63] = .ok () ∧ first.w.leadVal none (leadIx9 448) = 0
      ∧ first.sregCheck [62, 63] = .ok () ∧ first.lineRaised first.w = false ∧ first.myNode.kind = kindShader ∧ first.myNode.recsz ≠ 0
      ∧ first.w.winFirst = false)
    ∧ (Issues raised .lead 8 ∧ raised.lineRaised raised.w = true)
    ∧ (Issues grid .lead 8 ∧ grid.myNode.kind = kindDispatch ∧ (grid.block? grid.w.key).bind (fun b => b.grid) = some (3, 4096))
    ∧ (let s := withGraph (nodeT 0 0 0) [] leadS
      Issues s .lead 8 ∧ s.myNode.kind ≠ kindDispatch ∧ s.myNode.recsz = 0)
    ∧ (let s := later (nodeT 0 32 0) []
      Issues s .lead 8 ∧ s.w.winFirst = true ∧ (s.takeSome s.myNode (s.consumable s.myNode) 0).2 = 0 ∧ s.myNode.waitf = false)
    ∧ (let s := later { nodeT 0 32 0 with waitf := true } []
      Issues s .lead 8 ∧ s.w.winFirst = true ∧ s.myNode.waitf = true ∧ (∃ q, s.queue? s.myDie 0 = some q ∧ waitLegal q.qtag s.w.key s.w.key = true)
      ∧ s.noProducers 0 = false)
    ∧ (let s := later (nodeT 0 32 0) [entryT 1]
      Issues s .lead 8 ∧ s.w.winFirst = true ∧ (s.takeSome s.myNode (s.consumable s.myNode) 1).2 = 1) :=
  ⟨⟨issues_of (by decide), by decide, ok_of (by decide), by decide, ok_of (by decide), by decide, by decide, by decide, by decide⟩,
    ⟨issues_of (by decide), by decide⟩, ⟨issues_of (by decide), by decide, by decide⟩, ⟨issues_of (by decide), by decide, by decide⟩,
    ⟨issues_of (by decide), by decide, by decide, by decide⟩,
    ⟨issues_of (by decide), by decide, by decide, ⟨_, rfl, by decide⟩, by decide⟩, ⟨issues_of (by decide), by decide, by decide⟩⟩

theorem witness_WorkLaunches :
    let r := qf 0 62 0 0 0 0
    let f := qf 1 3 1 2 0 0
    let s := (withGraph (nodeT 0 32 1) [] leadS).modW (fun w => { w with s := [(1, 0x1000#64), (2, 1#64)] })
    let away := (withGraph (nodeT 0 32 0) [] leadS).modW (fun w => { w with s := [(1, 0x1000#64), (2, 65536#64)] })
    let used (n : Nat) : State := { s with blocks := [{ blockT with edges := [(n, 4)] }] }
    (Issues leadS .lead 8 ∧ legalRnext r = none ∧ leadS.leadReady [] [62, 63] = .ok () ∧ leadS.w.counter .leadQo < 31
      ∧ (leadS.block? leadS.w.key).bind (fun b => b.desc) = none)
    ∧ (Issues (rangeS false) .lead 8 ∧ ((rangeS false).block? leadS.w.key).bind (fun b => b.desc) = some (0, 0)
      ∧ (rangeS false).sregCheck [62, 63] = .ok () ∧ (rangeS false).lineRaised (rangeS false).w = false
      ∧ 0 < (rangeS false).clusters.length ∧ 0 < ((rangeS false).cluster 0).descs.length)
    ∧ (Issues (rangeS true) .lead 8 ∧ (rangeS true).lineRaised (rangeS true).w = true)
    ∧ (Issues s .lead 8 ∧ legalLaunch f = none ∧ s.leadOk [.s 1, .s 2] [3] = .ok () ∧ (∃ n, s.node? 1 = some n ∧ n.kind = kindDispatch)
      ∧ s.w.getS 2 = 1 ∧ s.w.getS 1 = 4096 ∧ s.myNode.edges.findIdx? (fun x => x.target == 1) = some 0)
    ∧ (Issues (used 3) .lead 8 ∧ (used 3).edgeUse s.w.key 0 = (3, 4)) ∧ (Issues (used 4) .lead 8 ∧ (used 4).edgeUse s.w.key 0 = (4, 4))
    ∧ (Issues away .lead 8 ∧ away.w.getS 2 = 65536 ∧ away.myNode.edges.findIdx? (fun x => x.target == 1) = none
      ∧ away.launchesHeld away.myDie < 4096)
    ∧ (Issues leadS .lead 8 ∧ leadS.node? 1 = none) :=
  ⟨⟨issues_of (by decide), by decide, ok_of (by decide), by decide, by decide⟩,
    ⟨issues_of (by decide), by decide, ok_of (by decide), by decide, by decide, by decide⟩, ⟨issues_of (by decide), by decide⟩,
    ⟨issues_of (by decide), by decide, ok_of (by decide), ⟨_, rfl, by decide⟩, by decide, by decide, by decide⟩,
    ⟨issues_of (by decide), by decide⟩, ⟨issues_of (by decide), by decide⟩, ⟨issues_of (by decide), by decide, by decide, by decide⟩,
    ⟨issues_of (by decide), by decide⟩⟩

theorem witness_RecordAppend :
    let f := qf 0 0 312 0 0 0
    let s := withGraph (nodeT 0 32 0) [] laneS
    let none_ := s.modW (fun w => { w with exec := 0 })
    let used (n : Nat) : State := { s with blocks := [{ blockT with edges := [(n, 4)] }] }
    (Issues s .lane 8 ∧ legalAppend f = none ∧ lanesOf (s.w.voters (s.w.active 0)) s.w.lanes = [0, 1]
      ∧ s.myNode.edges[0]? = some { target := 0, fanout := 4, depth := 0 } ∧ (∃ n, s.node? 0 = some n ∧ n.recsz = 32 ∧ n.kind ≠ kindDispatch ∧ s.tileOrdered n 0 = false)
      ∧ s.laneReady ((List.range 8).map (fun k => 312 + k)) [] = .ok () ∧ s.w.counter .laneQo < 31
      ∧ s.regCheck 3 ((List.range 8).map (fun k => 312 + k)) = .ok () ∧ appendTile f = false ∧ appendJoin f = false)
    ∧ (used 2).edgeUse s.w.key 0 = (2, 4) ∧ (used 3).edgeUse s.w.key 0 = (3, 4)
    ∧ (Issues none_ .lane 8 ∧ lanesOf (none_.w.voters (none_.w.active 0)) none_.w.lanes = [])
    ∧ (let d : State := { withGraph { nodeT 0 32 0 with edges := [{ target := 0, fanout := 4, depth := 1 }] } [] laneS with
        blocks := [{ blockT with depth := 1 }] }
      Issues d .lane 8 ∧ d.newDepth { target := 0, fanout := 4, depth := 1 } = 2) :=
  ⟨⟨issues_of (by decide), by decide, by decide, by decide, ⟨_, rfl, by decide, by decide, by decide⟩, ok_of (by decide), by decide,
    ok_of (by decide), by decide, by decide⟩, by decide, by decide, ⟨issues_of (by decide), by decide⟩, ⟨issues_of (by decide), by decide⟩⟩

/-- `leadS` with a job card in s8 to s15: two rows of `n` bytes from 0x800000 to 0x800100, of these kinds. -/
def cardS (n skind dkind : Nat) : State :=
  leadS.modW (fun w => { w with s := [(8, 0x800000#64), (9, 0x800100#64), (10, BitVec.ofNat 64 (64 + 64 * 2 ^ 32)),
    (11, BitVec.ofNat 64 (n + 2 * 2 ^ 24 + skind * 2 ^ 40 + dkind * 2 ^ 42))] })

theorem witness_JobsAreEntered :
    let f := qf 0 0 8 0 0 0
    let g := qf 0 0 8 0 4 0
    let bad (f : XqF) (s : State) (coll : Option Nat) : Bool :=
      let x := s.w.cardBits 8
      let c := cardOf x
      cardBad x c || !kindsOk coll c || (decide (jobComp f = 2) && decide (c.bytes coll 1 ≥ 2 ^ 24))
    let check (s : State) (coll : Option Nat) : Option Stop :=
      let c := cardOf (s.w.cardBits 8)
      regionsFault s.w.k.scratch (cardOdd c (decide (coll = some 1))) (c.regions coll 0 0 1)
    (Issues (cardS 64 0 0) .lead 8 ∧ legalJob false f = none ∧ (cardS 64 0 0).leadReady ((List.range 8).map (fun k => .s (8 + k))) [] = .ok ()
      ∧ (cardS 64 0 0).w.counter .leadCp < 15 ∧ ((cardS 64 0 0).die 0).jobs.length < 1024
      ∧ (cardS 64 0 0).sregCheck ((List.range 8).map (fun k => 8 + k)) = .ok ()
      ∧ bad f (cardS 64 0 0) none = false ∧ check (cardS 64 0 0) none = none)
    ∧ (Issues (cardS 0 0 0) .lead 8 ∧ bad f (cardS 0 0 0) none = true)
    ∧ (Issues (cardS 64 1 0) .lead 8 ∧ bad f (cardS 64 1 0) none = false ∧ (check (cardS 64 1 0) none).isSome = true)
    ∧ (Issues (cardS 64 2 0) .lead 8 ∧ legalJob true g = none ∧ bad g (cardS 64 2 0) (some 1) = false) :=
  ⟨⟨issues_of (by decide), by decide, ok_of (by decide), by decide, by decide, ok_of (by decide), by decide, by decide⟩,
    ⟨issues_of (by decide), by decide⟩, ⟨issues_of (by decide), by decide, by decide⟩, ⟨issues_of (by decide), by decide, by decide⟩⟩

/-! ## Statements about traps, special registers and time -/

/-- `laneS` in a graph whose node has every trap vector, or none. -/
def trapS (tv : Nat) : State := withGraph { nodeT 0 32 0 with tv := List.replicate 32 tv } [] laneS

theorem witness_TrapEntry :
    (trapS 0x400041).w.mgmt = false ∧ (trapS 0x400041).hasHandler (trapS 0x400041).w 0x17 = true ∧ (trapS 0x400041).w.stack.length < 24
    ∧ (trapS 0).w.mgmt = false ∧ (trapS 0).hasHandler (trapS 0).w 0x17 = false := by decide

theorem witness_SpecialRegisterAccess :
    let r (n : Nat) : XsF := sf n 0 3 0 0 0 0 0
    let w (n : Nat) : XsF := sf n 0 0 1 0 0 0 0
    let big := leadS.modW (fun w => { w with s := [(1, 0x1FFFFFFFF#64)], inTrap := true })
    let none_ := laneS.modW (fun w => { w with exec := 0 })
    (Issues leadS .lead 8 ∧ legalRdsr .lead (r 0x011) = none ∧ leadS.readSr 0x011 = some 0 ∧ leadS.leadOk [] [3] = .ok ())
    ∧ (Issues laneS .lane 8 ∧ legalRdsr .lane (r 0x005) = none ∧ laneS.readSr 0x005 = some 32 ∧ isWideSr 0x005 = false
      ∧ laneS.laneReady [] [3] = .ok () ∧ laneS.regCheck 3 (vRegs [3]) = .ok () ∧ isWideSr 0x010 = true ∧ legalRdsr .lane (r 0x010) = none
      ∧ laneS.laneReady [] [3, 4] = .ok () ∧ laneS.regCheck 3 [3, 4] = .ok ())
    ∧ (legalRdsr .lane (r 0x1FF) = none ∧ laneS.readSr 0x1FF = none)
    ∧ (legalWrsr .lead (w 0x00A) = none ∧ legalWrsr .lane (w 0x007) = none ∧ 7 < 2 ^ 64)
    ∧ (lowestLane (laneS.w.active 0) laneS.w.lanes = some 0 ∧ laneS.laneReady [1] [] = .ok () ∧ laneS.regCheck 3 (vRegs [1]) = .ok ()
      ∧ laneS.w.src none 1 0 < srLimit laneS.w 0x007)
    ∧ (Issues none_ .lane 8 ∧ lowestLane (none_.w.active 0) none_.w.lanes = none)
    ∧ (big.w.inTrap = true ∧ big.w.getS 1 ≥ srLimit big.w 0x009) :=
  ⟨⟨issues_of (by decide), by decide, by decide, ok_of (by decide)⟩,
    ⟨issues_of (by decide), by decide, by decide, by decide, ok_of (by decide), ok_of (by decide), by decide, by decide, ok_of (by decide), ok_of (by decide)⟩,
    ⟨by decide, by decide⟩, ⟨by decide, by decide, by decide⟩, ⟨by decide, ok_of (by decide), ok_of (by decide), by decide⟩,
    ⟨issues_of (by decide), by decide⟩, ⟨by decide, by decide⟩⟩

theorem witness_HandlersTrapsAndReturns :
    let r := sf 63 0 3 0 0 0 0 0
    let w := sf 63 0 0 1 0 0 0 0
    let back := (stackS kindCall).modW (fun w => { w with inTrap := true })
    (Issues laneS .lane 8 ∧ legalRdlead .lane r = none ∧ legalWrlead .lane w = none ∧ laneS.w.inTrap = false)
    ∧ (Issues handlerS .lane 8 ∧ handlerS.w.inTrap = true ∧ handlerS.leadReady [.s 63] [] = .ok () ∧ handlerS.laneReady [] [3, 4] = .ok ()
      ∧ handlerS.regCheck 3 [3, 4] = .ok () ∧ handlerS.sregCheck [63] = .ok () ∧ handlerS.leadReady [] [63] = .ok ()
      ∧ handlerS.laneReady (wideSrc 1 2) [] = .ok () ∧ lowestLane (handlerS.w.active 0) handlerS.w.lanes = some 0)
    ∧ (legalImm .lane (sf 0 4095 0 0 0 0 0 0) = none ∧ legalImm .lead (sf 0 4095 0 0 0 0 0 0) = none ∧ Issues leadS .lead 8)
    ∧ (Issues back .lane 8 ∧ legalEret .lane (sf 0 0 0 0 0 0 0 0) = none ∧ back.w.inTrap = true
      ∧ ∃ e, back.w.stack = [e] ∧ e.kind = kindCall) :=
  ⟨⟨issues_of (by decide), by decide, by decide, by decide⟩,
    ⟨issues_of (by decide), by decide, ok_of (by decide), ok_of (by decide), ok_of (by decide), ok_of (by decide), ok_of (by decide),
      ok_of (by decide), by decide⟩, ⟨by decide, by decide, issues_of (by decide)⟩, ⟨issues_of (by decide), by decide, by decide, _, rfl, by decide⟩⟩

theorem witness_YieldAndSleep :
    let f := sf 0 0 0 1 0 0 0 0
    let long := leadS.modW (fun w => { w with s := [(1, 0x100000000#64)] })
    Issues laneS .lane 8 ∧ Issues leadS .lead 8 ∧ legalImm .lane (sf 0 0 0 0 0 0 0 0) = none ∧ legalSleep .lead f = none ∧ legalSleep .lane f = none
    ∧ leadS.leadOk [.s 1] [] = .ok () ∧ leadS.w.getS 1 < 2 ^ 32 ∧ (Issues long .lead 8 ∧ long.w.getS 1 ≥ 2 ^ 32)
    ∧ lowestLane (laneS.w.active 0) laneS.w.lanes = some 0 ∧ laneS.laneReady [1] [] = .ok () ∧ laneS.regCheck 3 (vRegs [1]) = .ok () :=
  ⟨issues_of (by decide), issues_of (by decide), by decide, by decide, by decide, ok_of (by decide), by decide, ⟨issues_of (by decide), by decide⟩,
    by decide, ok_of (by decide), ok_of (by decide)⟩

theorem witness_ManagementCore :
    let s := State.reset
    let ie : State := { s with mgmtIe := true }
    s.w.mgmt = true ∧ s.st = .lead ∧ s.stalled = false ∧ s.mayIssue = true ∧ (Instr.iaddBA (bf 1 2 3)).isEncoded = true
    ∧ mgmtAllowed (.iaddBA (bf 1 2 3)) = false ∧ ie.mgmtIe = true ∧ s.mgmtIe = false ∧ legalEret .lead (sf 0 0 0 0 0 0 0 0) = none := by decide

/-! ## Statements about the other agents of the device -/

/-- `s` with the net holding one message of operation 1 of the test wave. -/
def netS (m : Msg) (s : State) : State :=
  { s with net := [{ id := 1, core := 0, slot := 0, after := [], scope := 0, fwd := false, sent := 0, msg := m }] }

/-- The message of `netS`. -/
def msgT (m : Msg) : NetMsg := { id := 1, core := 0, slot := 0, after := [], scope := 0, fwd := false, sent := 0, msg := m }

/-- A request of the test wave. -/
def reqT : Req := { core := 0, slot := 0, op := 1, va := 0x800000, pa := 0x20000 }

/-- A copy of a line in state S. -/
def lineT (st : LineSt) : L1Line := { line := 0x20000, st := st, drop := false, data := List.replicate 128 0#8, touched := 0 }

theorem witness_RegisterWriteSteps : leadS.w.mgmt = false ∧ State.reset.w.mgmt = true ∧ (23 : Nat) < 24 ∧ (4095 : Nat) < 4096 := by decide

/-- A wave whose lead stream pops an empty RQ, its lane stream over. -/
def stuckS : State :=
  let f : BaF := { lit := none, d := 0#7, a := 0#7, b := 64#7 }
  let s := State.reset.withFetchWord 32 ((encode (.dqpush f)).headD 0#32).toNat
  s.modW (fun w => { w with laneDone := true })

/-- The same wave parked in a limited wait. -/
def waitingS : State := stuckS.modW (fun w => { w with status := .parked (.consume 3), parkCount := 2 ^ 20 })

set_option maxRecDepth 20000 in
theorem witness_WaveTimers :
    (leadS.wave? 0 0 = some leadS.w ∧ leadS.w.mgmt = false)
    ∧ (stuckS.wave? stuckS.w.core stuckS.w.slot = some stuckS.w ∧ stuckS.deadlockOf stuckS.w = some (.lead, 2 * 2048 + 8192)
      ∧ ((stuckS.modWave stuckS.w.core stuckS.w.slot (fun w => { w with deadlock := 0 })).peek stuckS.w.core stuckS.w.slot .lead).isSome = true)
    ∧ (waitingS.wave? waitingS.w.core waitingS.w.slot = some waitingS.w ∧ Park.limited (.consume 3) = some (.lead, 4)
      ∧ (((waitingS.unwait waitingS.w.core waitingS.w.slot).modWave waitingS.w.core waitingS.w.slot (fun w => { w with
          status := .running, parkCount := 0 })).peek waitingS.w.core waitingS.w.slot .lead).isSome = true) := by decide

/-- A trap posted for the test wave. -/
def postedT : Trap := { cause := 0x17, st := .lane, deferred := false, flanes := 3, taddr := 0, tinfo := 0 }

/-- The test wave at its end, in a block with this many live waves. -/
def doneS (live : Nat) : State :=
  ({ leadS with blocks := [{ blockT with live := live }] } : State).modW (fun w => { w with leadDone := true, laneDone := true })

set_option maxRecDepth 20000 in
theorem witness_TrapsTakenAndWavesRetire :
    let p (s : State) : State := s.modW (fun w => { w with pendTrap := some postedT })
    ((p laneS).wave? 0 0 = some (p laneS).w ∧ (p laneS).w.pendTrap = some postedT ∧ (p laneS).w.stopped = false
      ∧ ((p laneS).focus 0 0 .lane) = some (p laneS) ∧ (p laneS).w.mgmt = false)
    ∧ (∀ n, n = 1 ∨ n = 2 → ((doneS n).wave? 0 0 = some (doneS n).w ∧ (doneS n).w.core = 0 ∧ (doneS n).w.slot = 0
      ∧ (doneS n).w.mayRetire = true ∧ (doneS n).w.takable = none
      ∧ (doneS n).block? (doneS n).w.key = some { blockT with live := n })) := by
  refine ⟨by decide, ?_⟩
  rintro n (rfl | rfl) <;> decide

/-- A satisfied mass release of the test wave. -/
def massT : MassRelease := { die := 0, since := 0, rotated := false, waves := [(0, 0)] }

theorem witness_PowerSteps :
    let s : State := { leadS with mass := [massT], cycle := 1, timen := 100000, mgmtPending := [2], mgmtIe := true }
    (23 < s.clusters.length ∧ s.timen / 100000 > (s.cluster 23).sampleAt)
    ∧ (s.mass = [massT] ∧ massT.since < s.cycle ∧ (rotation massT.die (s.die massT.die).cbrot).find? (fun c =>
        massT.waves.filter (fun p => clusterOf p.1 == c) != []
          && decide (((64 * (massT.waves.filter (fun p => clusterOf p.1 == c)).length : Nat) : Int) ≤ (s.cluster c).bucket)) = some 0
      ∧ massT.rotated = false ∧ massT.die < s.dies.length)
    ∧ (s.mgmtPending = [2] ∧ s.mgmtIe = true ∧ s.mgmtHalted = false)
    ∧ (let on (n : Nat) : State := { s with powered := true, bootstage := n }
      (on 0).powered = true ∧ (on 0).bootstage = 0 ∧ (on 1).bootstage ≤ 1 ∧ (on 2).bootstage = 2 ∧ (on 2).clusters.length = 24
      ∧ (on 3).bootstage ≥ 3 ∧ s.powered = false)
    ∧ (let h : State := ({ s with mgmtIe := false, talert := 0x800000 } : State).modWave 192 0 (fun w => { w with tcause := 0x41 })
      ∃ w, h.wave? 192 0 = some w ∧ w.tcause = 0x41 ∧ h.mgmtIe = false ∧ h.mgmtHalted = false ∧ h.talert ≠ 0) := by
  refine ⟨by decide, by decide, by decide, by decide, _, rfl, by decide⟩

theorem witness_MessagesAtTheHome :
    let load := Msg.load reqT [(0, 0, 4)] true false
    let store := Msg.store reqT [(0, 1#8)] []
    let atom := Msg.atom reqT { op := 0, n := 4, lane := 0, v := 1, c := 0, returns := true, pc := 0 }
    let sh (s : State) : State := s.modDir 0x20000 (fun d => { d with sharers := [5] })
    let ranged := openS laneS true
    let part := Msg.evicted 3 0x20000 (List.replicate 32 0#32) 1
    (∀ m ∈ [load, store, atom], let s := sh (netS m laneS)
      s.arrives 0 = some (msgT m) ∧ s.atHome (msgT m) 0 (lineOf 0x20000) = true ∧ s.lineState (lineOf 0x20000) ≠ .c
      ∧ s.poisoned (lineOf 0x20000) = false)
    ∧ (∀ m ∈ [Msg.dereg 5 0x20000, .noticeReply 5 0x20000, .holder 5 0x20000, .pushReply 5 0x20000 false 1], let s := sh (netS m laneS)
      s.arrives 0 = some (msgT m) ∧ s.entryHere 0x20000 = true)
    ∧ ((netS part ranged).arrives 0 = some (msgT part) ∧ (netS part ranged).entryHere 0x20000 = true
      ∧ ((netS part ranged).rangeOfLine 0x20000).isSome = true ∧ ((netS part ranged).dirOf 0x20000).fold = none) := by decide

set_option maxRecDepth 20000 in
theorem witness_MessagesAtTheCore :
    let data := List.replicate 128 0#8
    let one (st : LineSt) (m : Msg) : State := (netS m laneS).modCore 3 (fun c => { c with l1 := [lineT st] })
    let full (n : Nat) : State := (netS (.push 3 0x20000 data 1) laneS).modCore 3 (fun c => { c with injcnt := n })
    let wave (m : Msg) (o : Op) : State := (netS m laneS).modW (fun w => { w with ops := [o] })
    let r := Msg.ret 0 0 1 0x20000 [(0, [1#8])] [] none
    let a := Msg.ack (.wave 0 0 1) true
    let lq := { opT 1 .laneLd with left := 0, dst := .lq 1 6 }
    (∀ m ∈ [Msg.fill 3 0x20000 data true, .push 3 0x20000 data 1], let s := netS m laneS
      s.arrives 0 = some (msgT m) ∧ 3 < s.cores.length ∧ (s.core 3).dead = false ∧ (s.core 3).line? 0x20000 = none
      ∧ (s.core 3).l1.length < 2048 ∧ (s.core 3).injcnt < 512)
    ∧ ((full 512).arrives 0 = some (msgT (.push 3 0x20000 data 1)) ∧ ((full 512).core 3).injcnt ≥ 512
      ∧ ((full 512).core 3).line? 0x20000 = none)
    ∧ (∀ m ∈ [Msg.update 3 0x20000 [(0, 1#8)] 1 false, .notice 3 0x20000],
      (one .s m).arrives 0 = some (msgT m) ∧ ((one .s m).core 3).line? 0x20000 = some (lineT .s))
    ∧ ((one .c (.probe 3 0x20000)).arrives 0 = some (msgT (.probe 3 0x20000))
      ∧ ((one .c (.probe 3 0x20000)).core 3).line? 0x20000 = some (lineT .c)
      ∧ (one .c (.probe 3 0x20000)).net = [msgT (.probe 3 0x20000)])
    ∧ (∀ m ∈ [Msg.ack (.sensor 0) true, .ack (.job 0 1) false], (netS m laneS).arrives 0 = some (msgT m))
    ∧ (let s := wave a { opT 1 .laneSt with leftAll := 2 }
      s.arrives 0 = some (msgT a) ∧ s.wave? 0 0 = some s.w ∧ s.w.ops.find? (fun o => o.id == 1) = some { opT 1 .laneSt with leftAll := 2 })
    ∧ (let s := wave r { opT 1 .laneLd with left := 2 }
      s.arrives 0 = some (msgT r) ∧ s.wave? 0 0 = some s.w ∧ s.w.ops.find? (fun o => o.id == 1) = some { opT 1 .laneLd with left := 2 })
    ∧ (let s := laneS.modW (fun w => { w with ops := [lq] })
      s.wave? 0 0 = some s.w ∧ s.w.ops.find? (fun o => !o.done && (match o.dst with | .lq _ _ => true | _ => false)) = some lq
      ∧ lq.left = 0 ∧ lq.bad = []) := by decide

/-- A page table at physical address 0 that maps the first 32 MiB to themselves, with every permission. -/
def tableS (s : State) : State := { s with mem := [(0, 1#8), (1, 0x40#8), (0x4000, 0x3F#8)] }

/-- A fault record that waits for room in the host's queue. -/
def faultT : FaultRec := { va := 0x800000, kind := 2, node := 3, core := 4, fseq := 0, cause := none, graph := 1 }

/-- A code object of one page at 4 MiB, not checked yet. -/
def codeT : CodeObj := { id := 1, base := 0x400000, ptroot := 0, size := 16384, kernels := [], chk := [0], digests := [7], rev := false }

set_option maxRecDepth 20000 in
theorem witness_HomesMoveAndFail :
    let rw : RwCounter := { page := 8, count := 1, start := 0, hold := 0, used := 0 }
    let counted := laneS.modDie 0 (fun d => { d with rwPend := [8], rw := [rw] })
    let leaving := laneS.modDie 0 (fun d => { d with migrating := [8], homes := [8] })
    let away : State := ({ leaving with net := [msgT (.load reqT [] false false)] } : State)
    let folding (f : Fold) : State := (openS laneS true).modDir 0x20000 (fun d => { d with fold := some f })
    let done : Fold := { cores := [], loads := [], poison := false }
    let late : State :=
      { netS (.probe 5 0x20000) laneS with acks := [{ id := 1, tell := .none, die := 0, wait := [5], pushes := [], sentDie := false }], timen := 100000 }
    let code : State :=
      { tableS (laneS.modW (fun w => { w with lanePc := 0x400000 })) with codes := [codeT] }
    (8 ∉ (laneS.die 0).rwPend ∧ (leaving.leaving 8).isSome = true)
    ∧ (0 < counted.dies.length ∧ 8 ∈ (counted.die 0).rwPend ∧ counted.leaving 8 = none ∧ counted.homeOf 0 (8 * 16384) = 0
      ∧ (counted.die 0).rw = [rw] ∧ counted.cycle - rw.start < 2 ^ 20 ∧ rw.count + 1 < 4096)
    ∧ (away.arrives 0 = some (msgT (.load reqT [] false false)) ∧ (Msg.load reqT [] false false).request = some (0, 0x20000)
      ∧ away.leaving (0x20000 / 16384) = some 0 ∧ away.homeOf (dieOf 0) 0x20000 = 1)
    ∧ ((netS (.migrate 8 0 []) laneS).arrives 0 = some (msgT (.migrate 8 0 [])))
    ∧ (leaving.moving 8 = false ∧ leaving.net = [] ∧ leaving.dies.length = 2)
    ∧ (((folding done).dirOf 0x20000).fold = some done ∧ ((folding done).rangeOfLine 0x20000).isSome = true
      ∧ ((folding done).dirOf 0x20000).parts = [])
    ∧ (isHostPa 0x800000000000 = true ∧ 0x800000000000 % 128 = 0)
    ∧ ((match walk (tableS laneS).mem ((tableS laneS).die 0).ptroot 0x800000 with | .leaf _ => true | _ => false) = true
      ∧ inWindow 0x800000 = false)
    ∧ (inStacked (lineOf 0x20000) = true ∧ laneS.arrayLog.length < 256 ∧ laneS.xferLog.length < 256)
    ∧ (let bus := 8 * resetHome 0x20000 + layerOf 0x20000
      laneS.sparesOf bus < 2 ∧ ({ laneS with spares := [(bus, 2)] } : State).sparesOf bus ≥ 2)
    ∧ (5 < late.cores.length ∧ (late.core 5).dead = false ∧ late.awaited 5 = true ∧ late.awaitedFor 5 ≥ 100000)
    ∧ (let s : State := { laneS with faultsWaiting := [faultT] }
      s.faultsWaiting = [faultT] ∧ (s.flttail + 2 ^ 32 - s.flthead) % 2 ^ 32 < 1024)
    ∧ (code.codes[0]? = some codeT ∧ codeT.chk[0]? = some 0 ∧ code.pageWanted codeT 0 = true
      ∧ (code.pageDigest codeT 0).isSome = true) := by decide

/-- A record on its way to node 0 on die 0. -/
def recT (tell : AckTo) (join : Option Nat) : RecMsg :=
  { die := 0, node := 0, join := join, bytes := List.replicate 32 9#8, depth := 1, family := 0, cluster := 31, cmark := false, sideb := [],
    tell := tell, credit := true, launch := false, edge := 0 }

/-- Join slot 3 of die 0 has this count and holds this record. -/
def joinS (count : Nat) (held : Option RecMsg) (s : State) : State :=
  s.modDie 0 (fun d => { d with joins := [(3, { count := count, tag := 0, held := held, node := 2, recidx := 7 })] })

/-- `withGraph` with a queue of node 0 on both dies, whose wave runs on core 0 of die 0 where nothing else does. -/
def twoDies (mine other : List QEntry) : State :=
  ((withGraph (nodeT 0 32 0) mine laneS).modDie 1 (fun d => { d with queues := [{ queueT other with qcap := 512 }] }))

set_option maxRecDepth 100000 in
theorem witness_RecordsReachQueues :
    let g := withGraph (nodeT 0 32 0) [entryT 1] laneS
    let enq := netS (.record [recT .none none]) g
    let arr := netS (.record [recT .none (some 3)]) g
    let spilled := withGraph (nodeT 0 32 0) [entryT 1, { entryT 2 with spilled := true }] laneS
    let far := (List.range 257).map entryT
    let parked := laneS.modW (fun w => { w with status := .parked (.consume 3) })
    let steal := Msg.steal 0 0 [entryT 5]
    (enq.arrives 0 = some (msgT (.record [recT .none none])) ∧ (enq.node? 0).isSome = true
      ∧ enq.targetDie 0 0 (recT .none none).bytes = 0 ∧ enq.queue? 0 0 = some (queueT [entryT 1]))
    ∧ (arr.arrives 0 = some (msgT (.record [recT .none (some 3)])) ∧ (joinS 2 none arr).arrives 0 = arr.arrives 0
      ∧ (joinS 2 none arr).join 0 3 = { count := 2, tag := 0, held := none, node := 2, recidx := 7 } ∧ (arr.join 0 3).held = none ∧ (arr.join 0 3).count = 0
      ∧ ((joinS 2 (some (recT .none none)) arr).join 0 3).held = some (recT .none none))
    ∧ (spilled.queue? 0 0 = some (queueT ([entryT 1] ++ { entryT 2 with spilled := true } :: []))
      ∧ (entryT 1).spilled = false ∧ ((queueT [entryT 1]).entries.filter (fun x => !x.spilled)).length < 64)
    ∧ (let s := twoDies [] far
      s.dies.length = 2 ∧ (s.node? 0).map (fun n => s.unstealable n 0) = some false
      ∧ s.queue? 0 0 = some (queueT []) ∧ (queueT []).avail = [] ∧ (∃ c, c < 96 ∧ s.asksWork (96 * 0 + c) = true)
      ∧ s.stealing 0 0 = false ∧ (far.filter (fun e => e.open? && !e.cmark)).length > 256
      ∧ min (min ((far.filter (fun e => e.open? && !e.cmark)).length / 2) 1024) (queueT []).free.toNat > 0)
    ∧ ((netS steal g).arrives 0 = some (msgT steal) ∧ (1 : Int) ≤ (queueT [entryT 1]).free
      ∧ (1 : Int) > ({ queueT [entryT 1] with qcap := 1 } : Queue).free)
    ∧ (parked.wave? 0 0 = some parked.w ∧ parked.w.status = .parked (.consume 3)) := by
  refine ⟨by decide, by decide, by decide, ⟨by decide, by decide, by decide, by decide, ⟨5, by decide, by decide⟩, by decide, by decide, by decide⟩,
    by decide, by decide⟩

/-- A batch of node 0 with one block. -/
def batchT (admitted : Bool) : Batch :=
  { id := 5, node := 0, parts := [({ node := 0, blk := 7, grid := 0 }, 1)], r := 1, depth := 0, admitted := admitted, since := 0, seq := 1 }

/-- An entry of that batch. -/
def inBatch (bytes : List Byte) : QEntry := { entryT 1 with batch := some 5, bytes := bytes }

/-- A graph whose node 0 has that batch waiting, with one record of it. -/
def batchS (n : Node) (bytes : List Byte) (admitted : Bool) : State :=
  (withGraph n [inBatch bytes] State.reset).modDie 0 (fun d => { d with batches := [batchT admitted] })

/-- Two entries of a queue, open and closed for a wave on node 0. -/
def closeS (n : Node) (cycle : Nat) : State := { withGraph n [entryT 1, entryT 2] State.reset with cycle := cycle, nextId := 9 }

/-- A core without work whose cluster holds a long range of node 0. -/
def splitS : State :=
  ({ withGraph (nodeT 1 32 0) [] State.reset with blocks := [] } : State).modCluster 0 (fun c => { c with
    descs := c.descs.set 3 { next := 8, hi := 40, grain := 4, family := 7, cluster := 0, abt := false, valid := true, node := 0, depth := 1 } })

set_option maxRecDepth 100000 in
theorem witness_BatchesCloseAndAreAdmitted :
    let n := nodeT 0 32 0
    let held (n : Node) (s : State) : Bool := decide (s.node? 0 = some n) && decide (n.kind = kindShader ∧ n.recsz ≠ 0 ∧ n.cls ≠ 0)
      && !s.rasterFed 0 && decide (s.storeOf 0 0 = []) && decide (s.queue? 0 0 = some (queueT [entryT 1, entryT 2]))
      && decide (0 < n.batchMax)
    let big := { n with minfill := 3 }
    (held n (closeS n 0) = true ∧ (queueT [entryT 1, entryT 2]).avail ≠ [] ∧ (∀ e ∈ (queueT [entryT 1, entryT 2]).entries, e.batch ≠ some 9)
      ∧ (queueT [entryT 1, entryT 2]).avail.length ≥ n.minfill)
    ∧ (held big (closeS big 1000) = true ∧ (closeS big 1000).oldestSince 0 0 = some 0
      ∧ (1000 : Nat) ≥ 0 + (if big.qclass = 1 then min big.maxwait 4096 else big.maxwait))
    ∧ (∀ d : Bool, let n := { n with qclass := if d then 2 else 0 }
      let s : State := { batchS n [] false with cycle := 16 }
      s.allBatches[0]? = some (0, batchT false) ∧ s.graph = some (graphT n) ∧ s.node? 0 = some n ∧ (graphT n).running = true
      ∧ s.revoked 0 = false ∧ s.yieldsTo 0 (batchT false) = false ∧ n.tileord = false ∧ n.deadline = d ∧ s.cycle ≥ (batchT false).since + 16)
    ∧ ((closeS n 0).reserveDies 0 0 = [0] ∧ ((closeS n 0).queue? 0 0).isSome = true)
    ∧ (splitS.asksWork 1 = true ∧ splitS.servesCore 1 = false ∧ splitS.boundWaits 0 = false ∧ splitS.queue? 0 0 = some (queueT [])
      ∧ (splitS.cluster 0).longest.map (fun p => (p.2, p.1.next, p.1.hi, p.1.next + p.1.grain * ((p.1.hi - p.1.next) / (2 * p.1.grain))))
        = some (3, 8, 40, 24)) := by decide

/-- A range record: 0 to 1, with a grain of 1. -/
def rangeBytes : List Byte := leBytes 0 8 ++ leBytes 1 8 ++ leBytes 1 4 ++ leBytes 0 12

/-- A block saved without its waves. -/
def savedT (st : BStatus) : Block :=
  { blockT with k := 1, segs := [segT 0], status := st, saved := [{ wave := laneS.w, win0 := [], win1 := [], spill := [] }], desc := none }

set_option maxRecDepth 100000 in
theorem witness_BlocksArePlacedAndSaved :
    let places (s : State) : Bool :=
      decide (s.allBatches[0]? = some (0, batchT true)) && decide (s.nextBatch 0 = some (batchT true)) && (s.placeBatch 0 (batchT true)).isSome
    let free (s : State) : State := { s with blocks := [] }
    let late : State :=
      { batchS { nodeT 0 32 0 with cls := 0, hdr := { KInfo.none with sems := 65 } } [] true with
        cycle := 65536, blocks := [{ blockT with pcls := 2 }] }
    let saving : State := { withGraph (nodeT 0 0 0) [] laneS with blocks := [{ blockT with status := .saving false (some 0x100000) }] }
    let s1 := (saving.leaveWaits (saving.wavesOf blockT.key)).abandon blockT.key [0, 1]
    let back : State := { withGraph (nodeT 0 0 0) [] State.reset with blocks := [savedT (.saved false 0x100000)] }
    (places (free (batchS (nodeT 0 32 0) (List.replicate 32 0#8) true)) = true)
    ∧ (places (free (batchS (nodeT 1 32 0) rangeBytes true)) = true)
    ∧ (late.allBatches[0]? = some (0, batchT true) ∧ (late.node? 0).map (fun n => n.cls) = some 0
      ∧ late.cycle ≥ (batchT true).since + 65536 ∧ late.placeBatch 0 (batchT true) = none
      ∧ (∀ y ∈ late.blocks, y.status = .running) ∧ late.weakBlock 0 = some { blockT with pcls := 2 })
    ∧ (let s : State := { withGraph (nodeT 0 32 0) [] State.reset with blocks := [{ blockT with status := .reserved }] }
      s.blocks[0]? = some { blockT with status := .reserved } ∧ s.w.mgmt = true
      ∧ (match s.constants 0 (nodeT 0 32 0) with | .ok (u, _) => u.w.mgmt | .error _ => false) = true)
    ∧ (saving.blocks[0]? = some { blockT with status := .saving false (some 0x100000) } ∧ (saving.node? 0).isSome = true
      ∧ (s1.block? blockT.key).isSome = true ∧ (∀ c ∈ s1.cores, ∀ e ∈ c.fifo, e.key ≠ blockT.key)
      ∧ (∀ w ∈ s1.wavesOf blockT.key, w.savable [] = true))
    ∧ (back.blocks[0]? = some (savedT (.saved false 0x100000)) ∧ (savedT (.saved false 0x100000)).waits = true
      ∧ back.behindSaved (savedT (.saved false 0x100000)) = false ∧ (savedT (.saved false 0x100000)).weak = false
      ∧ (back.restoreSpan (savedT (.saved false 0x100000))).isSome = true
      ∧ back.restoreGroup (savedT (.saved false 0x100000)) (nodeT 0 0 0) = [savedT (.saved false 0x100000)]
      ∧ (match back.restoreSpan (savedT (.saved false 0x100000)) with
         | some span => isOk (back.restoreOn (savedT (.saved false 0x100000)) (nodeT 0 0 0) 0x100000 span)
         | none => false) = true
      ∧ isOk (back.restoreAll (nodeT 0 0 0) [savedT (.saved false 0x100000)]) = true) :=
  ⟨by decide,
   by decide,
   ⟨by decide,
    by decide,
    by decide,
    by decide,
    by decide,
    by decide⟩,
   ⟨by decide, by decide,
    by decide⟩,
   ⟨by decide, by decide,
    by decide,
    by decide,
    by decide⟩,
   ⟨by decide, by decide, by decide, by decide, by decide,
    by decide,
    by decide⟩⟩

/-- The block's barrier on core 0 has these arrivals and waiters, of three expected. -/
def barS (arr : Nat) (waiters : List (Nat × Nat)) (s : State) : State :=
  { s with blocks := [{ blockT with segs := [{ segT 0 with
      bars := [{ arr := arr, exp := 3, phase := 0, pend := 0, tag := 0, waiters := waiters, next := 0 }] }, segT 1] }] }

set_option maxRecDepth 20000 in
theorem witness_SignalsArrive :
    let sem : ObjRef := .sem blockT.key 0 0
    let bar : ObjRef := .bar blockT.key 0 0
    let at_ (x : Signal) : State := netS (.signal .none x 0) syncS
    let waitS (x : Signal) (p : Park) (s : State) : State := (netS (.signal .none x 0) s).modW (fun w => { w with status := .parked p })
    let sw := waitS (.seminc sem 2) (.semwait .lead 3 sem 7 false) syncS
    let bw := (barS 3 [(0, 0)] leadS).modW (fun w => { w with status := .parked (.barwait .lead 3 bar 0) })
    let rec1 := joinS 2 (some (recT .none (some 3))) (at_ (.joindec 0 3 2))
    (∀ x ∈ [Signal.seminc sem 2, .semset sem 2 1, .barinit bar 3 1, .bararr bar 1, .barexp bar 64 true, .joinset 0 3 2 1, .joinadd 0 3 1,
        .joindec 0 3 1], (at_ x).arrives 0 = some (msgT (.signal .none x 0)))
    ∧ (syncS.sem? blockT.key 0 0 = some { count := 5, tag := 0, takes := [] } ∧ syncS.isSaved blockT.key = false
      ∧ (syncS.bar? blockT.key 0 0).map (fun x => x.waiters) = some []
      ∧ ∀ w ∈ syncS.allWaves, w.status = .running)
    ∧ (sw.arrives 0 = some (msgT (.signal .none (.seminc sem 2) 0)) ∧ sw.semReady sem (min (5 + 2) 0xFFFFFFFF) = [(0, 0)]
      ∧ sw.wave? 0 0 = some sw.w ∧ sw.w.status = .parked (.semwait .lead 3 sem 7 false))
    ∧ (bw.blocks[0]?.map (fun b => b.key) = some blockT.key ∧ bw.isSaved blockT.key = false
      ∧ bw.bar? blockT.key 0 0 = some { arr := 3, exp := 3, phase := 0, pend := 0, tag := 0, waiters := [(0, 0)], next := 0 }
      ∧ bw.wave? 0 0 = some bw.w ∧ bw.w.status = .parked (.barwait .lead 3 bar 0))
    ∧ (1 < ((joinS 2 none (at_ (.joindec 0 3 1))).join 0 3).count ∧ ((joinS 2 none syncS).join 0 3).count + 1 ≤ 65535)
    ∧ (rec1.arrives 0 = some (msgT (.signal .none (.joindec 0 3 2) 0)) ∧ (rec1.join 0 3).count = 2
      ∧ (rec1.join 0 3).held = some (recT .none (some 3)))
    ∧ (syncS.blocks[0]? = some blockT ∧ (syncS.bar? blockT.key 0 0).map Bar.ready = some false
      ∧ ((barS 3 [] leadS).bar? blockT.key 0 0).map (fun x => (x.ready, x.waiters, x.next)) = some (true, [], 0))
    ∧ (let due (h : Nat) (s : State) : State := s.modSensor 0 (fun x => { x with due := [(1, h)] })
      ((due 0 (netS (.signal .none (.joinadd 0 3 1) 0) syncS)).sensor 0).due = [(1, 0)]
      ∧ (∃ n ∈ (due 0 (netS (.signal .none (.joinadd 0 3 1) 0) syncS)).net, n.id = 1)
      ∧ (∀ n ∈ (due (2 ^ 59) syncS).net, n.id ≠ 1) ∧ (due (2 ^ 59) syncS).sensorBar 0 (2 ^ 59) = none
      ∧ (due 0 syncS).sensorBar 0 0 = some (.bar blockT.key 0 0)) := by
  refine ⟨by decide, by decide, by decide, by decide, by decide, by decide, by decide, by decide, ⟨_, .head _, rfl⟩, by decide, by decide, by decide⟩

/-- An entry of a matrix FIFO of the test wave. -/
def mxT (i : Instr) (st : MState) : MEntry :=
  { id := 1, key := blockT.key, core := 0, slot := 0, far := false, deadline := false, st := st, instr := i, mask := 255, batch := 0, pc := 0,
    mode := 0, regs := [], latch := [], halfDone := false }

/-- `matS` with one entry in the FIFO of core 0. -/
def fifoS (e : MEntry) : State := (matS 255).modCore 0 (fun c => { c with fifo := [e] })

set_option maxRecDepth 20000 in
theorem witness_MatrixEngine :
    let f := tf 3 0 0 0 1 2 2
    let far := { mxT (.mpair f) .waiting with far := true }
    (∀ e ∈ [mxT (.mzero f) .waiting, mxT (.mpair f) .waiting, far], (fifoS e).nextEntry 0 = some (0, e))
    ∧ (partner 0 ≠ 0 ∧ partner 0 < (fifoS far).cores.length)
    ∧ (∀ i ∈ [Instr.mzero f, .mldt f, .mwr f, .mstore f, .mma f, .mrd f, .mpair f], let s := fifoS (mxT i .reading)
      (s.core 0).fifo[0]? = some (mxT i .reading) ∧ (Claims.segOf s blockT.key 0).isSome = true
      ∧ s.wave? 0 0 = some s.w ∧ (mxT i .reading).halfDone = false)
    ∧ (let o := { opT 1 .laneMx with dst := .lanes 0 4 255 4 }
      let s := (fifoS (mxT (.mrd f) .reading)).modW (fun w => { w with ops := [o] })
      s.wave? 0 0 = some s.w ∧ s.w.ops.find? (fun o => o.id == 1) = some o)
    ∧ (let e := mxT (.msig f) .waiting
      ((fifoS e).core 0).fifo[0]? = some e ∧ (fifoS e).stageFree 0 0 e = true ∧ (fifoS e).isSaving e.key = false
      ∧ (fifoS e).wave? 0 0 = some (fifoS e).w) := by decide

/-- A copy job of two rows of 64 bytes from 0x1000 of core 0's scratchpad to 0x2000 of it. -/
def jobT : Job :=
  let c := cardOf (cardS 64 1 1 |>.w.cardBits 8)
  Job.blank 4 0 (.copy c) (c.regions none 0 0 1)

/-- `leadS` with a job in the footprint table of die 0. -/
def jobS (j : Job) : State := syncS.modDie 0 (fun d => { d with jobs := [j] })

set_option maxRecDepth 20000 in
theorem witness_JobsRunAndEnd :
    let run := { jobT with state := 2, buf := List.replicate 64 1#8 }
    let done := { jobT with state := 2, row := 2 }
    let node := { done with node := 0 }
    let paged := { jobT with state := 2, node := 0, page := some 0x800000 }
    let noded (kind : Nat) : State := withGraph (nodeT kind 64 1) [{ entryT 1 with bytes := List.replicate 64 0#8 }] State.reset
    (((jobS jobT).die 0).jobs[0]? = some jobT ∧ jobT.state = 1 ∧ jobT.preds = [] ∧ (jobS jobT).releaseDone jobT.core jobT.slot jobT.after jobT.scope = true)
    ∧ (((jobS run).die 0).jobs[0]? = some run ∧ run.page = none ∧ run.fault = none ∧ run.row < run.rowCount ∧ run.buf ≠ []
      ∧ (match run.kind with | .matrix _ => false | _ => true) = true ∧ ((32 : Nat) : Int) ≤ ((jobS run).cluster (clusterOf run.core)).bucket
      ∧ run.dest.scratch = true ∧ run.dest.scnt = 1 ∧ run.paid = 0 ∧ { run with paid := 192 }.paid ≥ (run.buf.take 256).length)
    ∧ (((jobS run).modCluster 0 (fun c => { c with bucket := 31 })).cluster (clusterOf run.core)).bucket < ((32 : Nat) : Int)
    ∧ (((jobS done).die 0).jobs[0]? = some done ∧ done.overB = true ∧ done.node = 65536 ∧ done.fault = none)
    ∧ (let s := (withGraph (nodeT kindCopy 64 1) [] State.reset).modDie 0 (fun d => { d with jobs := [node] })
      (s.die 0).jobs[0]? = some node ∧ node.overB = true ∧ s.node? 0 = some (nodeT kindCopy 64 1)
      ∧ (nodeT kindCopy 64 1).edges = [{ target := 1, fanout := 4, depth := 0 }])
    ∧ ((jobS paged).allJobs[0]? = some (0, paged) ∧ paged.page = some 0x800000 ∧ paged.node ≠ 65536)
    ∧ (∀ kind ∈ [kindMatrix, kindCopy], (noded kind).node? 0 = some (nodeT kind 64 1) ∧ (noded kind).tableFull 0 = false
      ∧ ((noded kind).takeRecord 0 0).isSome = true) := by decide

/-- Node 0 of a kind with one record of these bytes in its queue. -/
def fixedS (kind : Nat) (bytes : List Byte) : State := withGraph (nodeT kind 64 1) [{ entryT 1 with bytes := bytes }] State.reset

/-- A ray from the origin along x, with a root at 8 MiB. -/
def rayT (dx : Nat) : List Byte :=
  leBytes 0 12 ++ leBytes dx 4 ++ leBytes 0 8 ++ leBytes 0 4 ++ leBytes 0x3F800000 4 ++ leBytes 0x800000 8 ++ leBytes 0 24

/-- How a traversal ended: 0 with a result, 1 on an invalid structure, 2 on a missing page, 3 otherwise. -/
def rayEnd (r : RayR) : Nat := match r with | .ok _ => 0 | .error .invalid => 1 | .error (.miss _) => 2 | .error _ => 3

set_option maxRecDepth 20000 in
theorem witness_FixedNodes :
    let takes (kind : Nat) (bytes : List Byte) : Bool :=
      match (fixedS kind bytes).takeRecord 0 0 with
      | some (u, _) => decide (u.node? 0 = some (nodeT kind 64 1))
      | none => false
    let bad := leBytes 0x7F800000 4 ++ leBytes 0 60
    let head := (Machine.Head.reset true)
    let scan : State := { fixedS kindScanout (leBytes 2 64) with graph := some { graphT (nodeT kindScanout 64 1) with nodes := [nodeT kindScanout 64 1] } }
    (takes kindRaster (leBytes 0 64) = true ∧ ∀ k < 9, notFinite (recWord (leBytes 0 64) k) = false)
    ∧ (takes kindRaster bad = true ∧ notFinite (recWord bad 0) = true)
    ∧ (takes kindRay (rayT 0) = true ∧ rayBad (rayT 0) = true)
    ∧ (takes kindRay (rayT 0x7F800000) = true ∧ rayBad (rayT 0x7F800000) = false ∧ rayOpen (rayT 0x7F800000) = true)
    ∧ (takes kindRay (rayT 0x3F800000) = true ∧ rayBad (rayT 0x3F800000) = false ∧ rayOpen (rayT 0x3F800000) = false)
    ∧ ((match (fixedS kindRay (rayT 0x3F800000)).takeRecord 0 0 with
        | some (u, _) => rayEnd (rayBox 64 0 (rayOf (rayT 0x3F800000)) 0 u none)
        | none => 9) = 2
      ∧ ((fixedS kindRay (rayT 0x3F800000)).die 0).rayWait = [])
    ∧ (match ({ (fixedS kindRay (rayT 0x3F800000)).modDie 0 (fun d => { d with ptroot := 0x10000 }) with
          mem := [(0x4000, 0x3F#8), (0x10000, 1#8), (0x10001, 0x40#8)] } : State).takeRecord 0 0 with
        | some (u, _) => rayEnd (rayBox 64 0 (rayOf (rayT 0x3F800000)) 0 u none)
        | none => 9) = 0
    ∧ (scan.heads[2]? = some head ∧ head.on = true ∧ scan.nodes = [nodeT kindScanout 64 1] ∧ headDie 2 = 0
      ∧ (scan.queue? 0 0).map (fun q => q.entries) = some [{ entryT 1 with bytes := leBytes 2 64 }]
      ∧ ((leBytes 2 64).headD 0#8).toNat % 4 = 2)
    ∧ (scan.heads[0]?).map (fun h => h.on) = some false :=
  ⟨by decide, by decide, by decide, by decide, by decide,
   ⟨by decide,
    by decide⟩,
   by decide,
   by decide, by decide⟩

/-- A started graph, and a sensor stream on with a window of 4 KiB. -/
def sensorS (n : Node) : State := (withGraph n [] State.reset).modSensor 3 (fun x => { x with wbytes := 4096 })

set_option maxRecDepth 20000 in
theorem witness_HostAndSensorAccess :
    let up : State := { State.reset with bootstage := 1 }
    let s := sensorS { nodeT kindSensor 32 1 with param := 8 }
    let busy := s.modSensor 3 (fun x => { x with writes := 1 })
    let full := sensorS { nodeT kindSensor 32 0 with param := 8, edges := [{ target := 0, fanout := 65, depth := 0 }] }
    (Claims.PlainLines up (up.bar2base * 2 ^ 28 + 0x1000) 64 ∧ (∀ p ∈ lineParts 0x1000 64, up.bar2Reaches p.1 = true)
      ∧ (∀ p ∈ lineParts 0x1000 64, up.poisoned (lineOf p.1) = false))
    ∧ (∀ p ∈ lineParts (0x70 * 0x10000000) 64, ({ up with bar2base := 0x70 } : State).bar2Reaches p.1 = false)
    ∧ ((State.reset.sensor 3).wbytes = 0 ∧ State.reset.graphStarted = false ∧ (64 : Nat) + 64 ≤ 0x7FFFFC)
    ∧ ((s.sensor 3).wbytes ≠ 0 ∧ s.graphStarted = true ∧ 64 + 64 ≤ (s.sensor 3).wbytes
      ∧ Claims.PlainLines s ((s.sensor 3).waddr0 + 64) 64)
    ∧ ((s.sensor 3).writes = 0 ∧ (s.sensor 3).barh = 0 ∧ (busy.sensor 3).writes ≠ 0)
    ∧ ((sensorS (nodeT 0 32 0)).sensorNode 3 = none)
    ∧ ((s.sensorNode 3).map (fun p => p.2) = some 0 ∧ (s.takeCredits 0 1 [{ target := 1, fanout := 4, depth := 0 }]).isSome = true)
    ∧ ((full.sensorNode 3).map (fun p => p.2) = some 0 ∧ (full.takeCredits 0 1 [{ target := 0, fanout := 65, depth := 0 }]).isNone = true) := by
  unfold Claims.PlainLines
  refine ⟨⟨by decide,
    by decide,
    by decide⟩,
    by decide,
    by decide,
    by decide,
    by decide,
    by decide,
    by decide,
    by decide⟩

/-! ## Statements about commands -/

/-- `s` with power, at a stage, and a record at the head of the command ring. -/
def cmdS (c stage : Nat) (s : State) : State :=
  { s with bar0 := memWrite s.bar0 0x100000 (leBytes c 64), cmdtail := 1, powered := true, bootstage := stage }

/-- A record of an OPCODE with these fields, by value and lowest bit. -/
def recC (op : Nat) (fields : List (Nat × Nat)) : Nat := op + (fields.map (fun p => p.1 * 2 ^ p.2)).sum

/-- `Claims.Command` as a Bool, of `cmdS`. -/
def commandB (s : State) (c op stage : Nat) (fields : List (Nat × Nat)) : Bool :=
  decide ((cmdS c stage s).command = some c) && decide (s.queueCmd = none) && decide (bits c 0 8 = op) && !rsvdSet c fields

theorem command_of {s : State} {c op stage : Nat} {fields : List (Nat × Nat)} (h : commandB s c op stage fields = true) :
    Claims.Command (cmdS c stage s) c op stage fields := by
  simp only [commandB, Bool.and_eq_true, decide_eq_true_eq, Bool.not_eq_true'] at h
  exact ⟨h.1.1.1, h.1.1.2, h.1.2, Nat.le_refl _, h.2⟩

set_option maxRecDepth 20000 in
theorem witness_CommandsTurnedAway :
    let c := recC 0x14 [(5, 64)]
    ((cmdS c 3 State.reset).command = some c ∧ bits c 0 8 ≠ 2 ∧ bits c 0 8 = 0x14)
    ∧ ((cmdS c 2 State.reset).command = some c ∧ (cmdS c 2 State.reset).bootstage < 3)
    ∧ (rsvdSet (recC 0x14 [(5, 64), (1, 96)]) [(64, 32)] = true ∧ (cmdS (recC 0x14 [(5, 64), (1, 96)]) 3 State.reset).command
        = some (recC 0x14 [(5, 64), (1, 96)]))
    ∧ ((cmdS 6 0 State.reset).command = some 6 ∧ bits 6 0 8 = 6)
    ∧ (State.reset.command = none ∧ State.reset.busy = none ∧ State.reset.queueCmd = none)
    ∧ (let s : State := { withGraph (nodeT kindCommand 64 1) [] (cmdS c 3 State.reset) with queueCmd := some (1, 0, 6) }
      s.command = some 6 ∧ s.queueCmd = some (s.graphId, 0, 6) ∧ s.node? 0 = some (nodeT kindCommand 64 1)
      ∧ (nodeT kindCommand 64 1).edges = [{ target := 1, fanout := 4, depth := 0 }])
    ∧ (let s : State := { State.reset with busy := some (.respond 0 0 0) }
      s.busy = some (.respond 0 0 0) ∧ s.queueCmd = none) := by decide

set_option maxRecDepth 20000 in
theorem witness_DeviceCommands :
    let q (n : Nat) : Nat := recC 1 [(n, 64)]
    let scan := recC 4 [(0x100, 64), (7680, 128)]
    let mode := recC 0x1B [(2, 64), (1, 76), (8, 80), (1, 96), (1, 128), (1000, 144), (1, 192), (1000, 208)]
    let far := recC 0x1B [(2, 64), (1, 76), (16, 80), (2 ^ 32 - 1, 96)]
    let off := recC 0x1B [(2, 64), (1, 66)]
    let sensor := recC 0x1A [(3, 64), (0x1000, 128), (0x2000, 192), (4096, 256)]
    let fw := recC 2 [(0x800000000000, 64), (1, 128)]
    let at_ := recC 3 [(7, 64), (255, 320), (0x800000000000, 384)]
    let power := [(64, 8), (72, 1), (73, 3), (76, 1), (80, 5), (85, 1), (96, 12), (112, 2)]
    (∀ n < 8, commandB State.reset (q n) 1 3 [(64, 8), (72, 1), (96, 32)] = true ∧ bits (q n) 64 8 = n)
    ∧ (commandB State.reset scan 4 0 [(64, 48), (128, 32)] = true ∧ bits scan 64 48 % 256 = 0 ∧ bits scan 128 32 % 256 = 0
      ∧ bits scan 128 32 ≥ 7680 ∧ inRange (bits scan 64 48) (stackedBase 0) stackedSize = true)
    ∧ (commandB State.reset mode 0x1B 3 displayFields = true ∧ bit mode 66 = false ∧ bits mode 72 4 ≤ 6 ∧ bits mode 76 4 = 1
      ∧ bits mode 80 8 = 8 ∧ 3 * bits mode 80 8 * bits mode 96 32 ≤ 10 * bits mode 76 4 * linkPayload (bits mode 72 4)
      ∧ modeWithin (bits mode 80 8) (bits mode 96 32) (bits mode 128 16) (bits mode 144 16) (bits mode 192 16) (bits mode 208 16) = true)
    ∧ (commandB State.reset far 0x1B 3 displayFields = true ∧ bits far 80 8 = 16
      ∧ ¬ 3 * bits far 80 8 * bits far 96 32 ≤ 10 * bits far 76 4 * linkPayload (bits far 72 4))
    ∧ (commandB State.reset off 0x1B 3 displayFields = true ∧ bit off 66 = true)
    ∧ (∀ p ∈ [(recC 0x1C [(23, 64), (1, 72), (5, 73)], 23), (recC 0x1C [(255, 64), (1, 76), (16, 80)], 255),
        (recC 0x1C [(0, 64), (1, 85), (4095, 96)], 0), (recC 0x1C [(0, 64), (1, 112)], 0), (recC 0x1C [(0, 64), (2, 112)], 0)],
      commandB State.reset p.1 0x1C 3 power = true ∧ bits p.1 64 8 = p.2)
    ∧ (commandB State.reset sensor 0x1A 3 [(64, 4), (128, 64), (192, 64), (256, 32), (320, 64)] = true
      ∧ bits sensor 128 64 % 256 = 0 ∧ bits sensor 192 64 % 256 = 0 ∧ 256 ≤ bits sensor 256 32 ∧ bits sensor 256 32 ≤ 0x7FFF00
      ∧ deviceRange (bits sensor 128 64) (bits sensor 256 32) = true ∧ deviceRange (bits sensor 192 64) (bits sensor 256 32) = true)
    ∧ (commandB State.reset fw 2 0 [(64, 48), (128, 32)] = true ∧ bits fw 64 48 % 64 = 0 ∧ bits fw 128 32 = 1
      ∧ isHostPa (bits fw 64 48) = true)
    ∧ (commandB State.reset at_ 3 0 [(64, 256), (320, 8), (384, 48)] = true ∧ bits at_ 384 48 % 64 = 0
      ∧ isHostPa (bits at_ 384 48) = true)
    ∧ commandB State.reset 5 5 0 [] = true := by decide

set_option maxRecDepth 20000 in
theorem plainLines_reset (c stage pa n : Nat) : Claims.PlainLines (cmdS c stage State.reset) pa n := by
  intro p _
  have h : (cmdS c stage State.reset).ranges.find? (fun q => q.2.2.holdsLine (lineOf p.1)) = none := by
    rw [List.find?_eq_none]
    intro x hx
    have : ∀ x ∈ State.reset.ranges, x.2.2.active = false := by decide
    simp [CRange.holdsLine, this x hx]
  have hm : (cmdS c stage State.reset).moving (lineOf p.1 / 16384) = false := rfl
  have hf : (cmdS c stage State.reset).forwards (lineOf p.1 / 16384) = [] := rfl
  have hl : (cmdS c stage State.reset).lineState (lineOf p.1) = .u ∨ (cmdS c stage State.reset).lineState (lineOf p.1) = .s := by
    simp only [State.lineState, hm, State.rangeOfLine, h]
    simp only [Bool.false_eq_true, if_false, Option.map_none, Option.isSome_none]
    split <;> simp
  rcases hl with hl | hl <;> simp [State.heldBack, hl, hf]

/-- A graph image of one sensor node of stream 3, at 1 MiB, mapped by `tableS`. -/
def imageS : State :=
  let node := 7 + 2 ^ 24 + 2 ^ 32 + 8 * 2 ^ 352
  let s := tableS State.reset
  let m := memWrite s.mem 0x100000 (leBytes (0x4847524B + 2 ^ 32 + 2 ^ 48 + 64 * 2 ^ 64 + 128 * 2 ^ 96) 20)
  { s with mem := memWrite m 0x100040 (leBytes node 64) }

/-- LOAD_GRAPH of that image with working areas of 16,384 pages on each die. -/
def loadC : Nat := recC 0x12 [(0x100000, 64), (0x1000000, 192), (0x801000000, 240), (16384, 288), (16384, 320)]

/-- A started or a loaded graph and a command on it. -/
def graphS (g : Graph) (c : Nat) : State := cmdS c 3 { State.reset with graph := some g }

set_option maxRecDepth 100000 in
theorem witness_GraphCommands :
    let code := recC 0x10 [(0x200000, 64)]
    let un := recC 0x11 [(1, 64)]
    let g := graphT (nodeT 0 32 0)
    let idle := { g with running := false, started := false, nodes := [nodeT 0 0 1] }
    (commandB (tableS State.reset) code 0x10 3 [(64, 64), (128, 48)] = true ∧ bits code 64 64 % 16384 = 0 ∧ bits code 64 64 < 2 ^ 47
      ∧ rootOk (bits code 128 48) = true
      ∧ checkObject (tableS State.reset).mem (bits code 128 48) (bits code 64 64) [] = .error (some 1))
    ∧ (commandB State.reset un 0x11 3 [(64, 32)] = true ∧ (∀ o ∈ State.reset.codes, o.id ≠ bits un 64 32)
      ∧ (∃ o ∈ [codeT], o.id = bits un 64 32)
      ∧ (let s : State := { State.reset with graph := some { g with nodes := [{ nodeT 0 32 0 with obj := 1 }] } }
        s.loadedGraphs.any (fun g => g.nodes.any (fun n => decide (n.kind ≤ 2) && n.obj == bits un 64 32)) = true)
      ∧ State.reset.loadedGraphs = [])
    ∧ (commandB imageS loadC 0x12 3 [(64, 64), (128, 48), (176, 8), (192, 48), (240, 48), (288, 32), (320, 32)] = true
      ∧ bits loadC 64 64 % 64 = 0 ∧ bits loadC 64 64 < 2 ^ 47 ∧ bits loadC 176 8 = 0 ∧ rootOk (bits loadC 128 48) = true
      ∧ areaOk 0 (bits loadC 192 48) (bits loadC 288 32 * 16384) = true
      ∧ areaOk 1 (bits loadC 240 48) (bits loadC 320 32 * 16384) = true)
    ∧ (match imageS.graphNodes 0 0x100000 with
      | .ok (ns, _) => decide (ns.length = 1) && (match imageS.reserveNodes ns [] ns.zipIdx with | .ok r => r == [] | .error _ => false)
          && decide (firstNode ns (fun _ n => groupBad ns [] n) = none)
          && decide (queuesBad ns 0 (16 * 16777216 - joinBytes) = none ∧ queuesBad ns 1 (16 * 16777216 - joinBytes) = none)
          && decide (16384 * (layoutOf ns (makeQueues ns 0 (16 * 16777216 - joinBytes)) 0 0x1000000 0x10000000).need ≤ 0x10000000)
          && decide (16384 * (layoutOf ns (makeQueues ns 1 (16 * 16777216 - joinBytes)) 1 0x801000000 0x10000000).need ≤ 0x10000000)
          && decide ((imageS.checkDeadline ns.zipIdx).2 = none)
      | .error _ => false) = true
    ∧ (let s := { imageS with mem := memWrite imageS.mem 0x100040 [9#8] }
      s.graphNodes 0 0x100000 = .error (.node 0))
    ∧ (∀ op ∈ [0x13, 0x14, 0x1E], commandB { State.reset with graph := some g } (recC op [(1, 64)]) op 3 [(64, 32)] = true
        ∧ bits (recC op [(1, 64)]) 64 32 = g.id ∧ bits (recC op [(2, 64)]) 64 32 ≠ g.id
        ∧ commandB { State.reset with graph := some g } (recC op [(2, 64)]) op 3 [(64, 32)] = true)
    ∧ (idle.started = false ∧ State.reset.dies ≠ [] ∧ idle.nodes[0]? = some (nodeT 0 0 1) ∧ (nodeT 0 0 1).bare = true
      ∧ g.started = true ∧ g.running = true ∧ idle.running = false ∧ State.reset.blocks = []) :=
  ⟨⟨by decide, by decide, by decide, by decide,
    by rfl⟩,
   ⟨by decide, by decide,
    ⟨codeT, by decide, by decide⟩,
    by decide,
    by decide⟩,
   ⟨by decide, by decide, by decide, by decide, by decide,
    by decide,
    by decide⟩,
   by decide,
   by rfl,
   by decide,
   by decide⟩

/-- The block of the test wave at its place in a node, saved or not. -/
def vacS (g : Graph) (b : Block) (c : Nat) : State := cmdS c 3 { State.reset with graph := some g, blocks := [b] }

/-- A context that holds a second graph. -/
def contextT : Context := { graph := { graphT (nodeT 0 32 0) with id := 2 }, dies := [], blocks := [], clusters := [] }

set_option maxRecDepth 100000 in
theorem witness_ContextAndPageCommands :
    let g := graphT (nodeT 0 32 0)
    let dl := graphT { nodeT 0 32 0 with qclass := 2 }
    let vac (node n : Nat) : Nat := recC 0x15 [(1, 64), (node, 96), (n, 112)]
    let vf := [(64, 32), (96, 16), (112, 8)]
    let sw (a b n : Nat) : Nat := recC 0x16 [(a, 64), (b, 96), (0x4000, 128), (n, 176)]
    let swf := [(64, 32), (96, 32), (128, 48), (176, 32)]
    let two : State := { State.reset with graph := some g, contexts := [contextT] }
    let alone : State := { State.reset with contexts := [contextT] }
    let mapf := [(64, 32), (96, 64), (160, 48), (208, 32), (240, 4), (244, 1)]
    let map := recC 0x17 [(1, 64), (0x2000000, 96), (0x4000000, 160), (1, 208), (15, 240), (1, 244)]
    let unmap := recC 0x18 [(1, 64), (0, 96), (1, 208), (1, 244)]
    let paged : State := { tableS State.reset with graph := some g }
    let reply := recC 0x19 [(0, 64)]
    let waiting : State := { State.reset with graph := some g, faults := [faultT] }
    let faulted (a : Nat) : Nat := recC 0x1D [(1, 64), (a, 112)]
    let stuck : State := { State.reset with graph := some g, blocks := [{ blockT with status := .saved true 0x100000 }] }
    (g.id = 1 ∧ (∀ n ∈ [0, 1, 191], commandB { State.reset with graph := some g, blocks := [blockT] } (vac 0 n) 0x15 3 vf = true
        ∧ bits (vac 0 n) 112 8 = n ∧ bits (vac 0 n) 64 32 = 1) ∧ (nodeT 0 32 0).deadline = false
      ∧ { nodeT 0 32 0 with qclass := 2 }.deadline = true ∧ ((vacS dl blockT (vac 0 1)).node? 0).isSome = true)
    ∧ (blockT.resident = true ∧ bit blockT.pcls 2 = false ∧ [1].any blockT.onCore = true
      ∧ (vacS g blockT (vac 0 1)).spanLeft (nodeT 0 32 0) ([1] ++ (vacS g blockT (vac 0 1)).excludedOf 0) blockT = true
      ∧ blockT.key ∈ (vacS g blockT (vac 0 1)).groupOf blockT
      ∧ (vacS g blockT (vac 0 1)).spanLeft (nodeT 0 32 0) (List.range 192) blockT = false)
    ∧ (commandB alone (sw 0xFFFFFFFF 2 1) 0x16 3 swf = true ∧ bits (sw 0xFFFFFFFF 2 1) 64 32 = 0xFFFFFFFF ∧ alone.graph = none
      ∧ alone.contexts.find? (fun x => x.graph.id == 2) = some contextT ∧ backedRange 0x4000 16384 = true)
    ∧ (commandB two (sw 1 2 1) 0x16 3 swf = true ∧ ceilDiv (two.imageSize (two.blocks.filter Block.resident) + two.tableSize) 16384 ≤ 1
      ∧ ceilDiv (two.imageSize (two.blocks.filter Block.resident) + two.tableSize) 16384 > 0
      ∧ two.contexts.find? (fun x => x.graph.id == 9) = none ∧ commandB two (sw 1 9 1) 0x16 3 swf = true)
    ∧ (let s := cmdS (sw 1 2 1) 3 { two with busy := some (.switch true 1) }
      s.quiet = true ∧ s.contexts.find? (fun x => x.graph.id == bits s.headRecord 96 32) = some contextT
      ∧ ({ s with blocks := [blockT] } : State).quiet = false)
    ∧ (commandB paged map 0x17 3 mapf = true ∧ bits map 64 32 = 1 ∧ bit map 244 = true ∧ bits map 96 64 % 2 ^ 25 = 0
      ∧ bits map 208 32 = 1 ∧ ptPlace paged.mem 0 (bits map 96 64) true = .entry 0x4008 ∧ memVal paged.mem 0x4008 8 % 4 ≠ 1
      ∧ bits map 160 48 % 2 ^ 25 = 0 ∧ backedRange (bits map 160 48) (2 ^ 25) = true
      ∧ meet (bits map 96 64, 2 ^ 25) (win0, 0x8000) = false ∧ paged.meetsArea (bits map 160 48) (2 ^ 25) = false)
    ∧ (commandB paged unmap 0x18 3 [(64, 32), (96, 64), (208, 32), (244, 1)] = true
      ∧ ptPlace paged.mem 0 (bits unmap 96 64) true = .entry 0x4000 ∧ memVal paged.mem 0x4000 8 % 4 = 3)
    ∧ (commandB waiting reply 0x19 3 [(64, 32)] = true ∧ waiting.faults.find? (fun f => f.fseq == bits reply 64 32) = some faultT
      ∧ waiting.graphId = faultT.graph ∧ waiting.graph ≠ none ∧ (∀ f ∈ State.reset.faults, f.fseq ≠ bits reply 64 32))
    ∧ (∀ a < 3, commandB stuck (faulted a) 0x1D 3 [(64, 32), (96, 16), (112, 8), (128, 32)] = true ∧ bits (faulted a) 112 8 = a
      ∧ stuck.faultedBlock (faulted a) = some ({ blockT with status := .saved true 0x100000 }, 0x100000)) :=
  ⟨by decide,
   by decide,
   by decide,
   by decide,
   by decide,
   by decide,
   by decide,
   by decide,
   by decide⟩

/-! ## Statements about encodings, steps and the whole machine -/

/-- A word placed where the next step fetches it on a stream. -/
def placedS (w : Nat) : State := State.reset.withFetchWord 32 w

set_option maxRecDepth 20000 in
theorem witness_StepRunsDecodedInstruction :
    let s := placedS 0x0A101800
    let held : State := { s with w := { s.w with status := .parked (.mwait 3 0) } }
    (s.agenda = [.issue 0 0 .lane] ∧ (match s.focus 0 0 .lane with | some x => x.mayIssue && isOk x.fetch | none => false) = true)
    ∧ (match (placedS 0xFC).focus 0 0 (streamOfWord 0xFC#32) with
        | some x => x.mayIssue && isOk x.fetch
        | none => false) = true
    ∧ (match held.focus 0 0 .lane with | some x => x.mayIssue | none => true) = false
    ∧ (s.w.mgmt = false ∧ s.w.inSection .lane (s.w.pcOf .lane) = true ∧ s.pageChk (s.w.pcOf .lane) = 1
      ∧ (match s.xlate 0 (s.w.pcOf .lane) permEX with | .ok pa => decide (memVal s.mem pa 4 = 0x0A101800) | .error _ => false) = true
      ∧ [0x0A101800#32].length = [1, 3, 3, 5].getD (0x0A101800 % 4) 0)
    ∧ (State.reset.agenda = [] ∧ ({ State.reset with powered := true } : State).round ≠ [])
    ∧ (let q : State := { (s.modW (fun w => { w with tryLane := .ready })) with agenda := [.slot 0 .lane] }
      q.candidates 0 .lane = [0] ∧ (match q.focus 0 0 .lane with
        | some x => x.mayIssue && isOk x.fetch
            && (match exec (.iaddBA (bf 3 4 5)) x.fetched with | .next t => !t.stalled | _ => false)
        | none => false) = true)
    ∧ (s.candidates 0 .lead = [])
    ∧ (Instr.powerGood.isEncoded = false) := by decide

theorem witness_EncodingRoundTrip :
    (Instr.iaddBA (bf 3 4 5)).wellFormed = true ∧ (Instr.ffma (xf 1 2 3 4 0 0)).wellFormed = true
    ∧ (Instr.saddBS { lit := some 0x0123456789ABCDEF#64, d := 1#7, a := 2#7, b := 0x7F#7 }).wellFormed = true := by decide

theorem witness_MemoryCanonicalKept : Memory.wf [(2, 1#8), (7, 255#8)] = true ∧ Memory.wf (placedS 0x0A101800).mem = true
    ∧ Memory.wf [(2, 0#8)] = false ∧ Memory.wf [(7, 1#8), (2, 1#8)] = false := by decide

set_option maxRecDepth 20000 in
theorem witness_NothingBeforeIssue :
    let i := Instr.iaddBA (bf 3 1 2)
    let empty := laneS.modCluster 0 (fun c => { c with bucket := -1 })
    let ie : State := State.reset
    i.isEncoded = true ∧ (laneS.modW (fun w => { w with stopped := true })).mayIssue = false
    ∧ (laneS.stalled = false ∧ laneS.mayIssue = true ∧ laneS.w.mgmt = false ∧ (encFault .lane (.iaddXA (xf 3 325 2 0 6 0))).isSome = true)
    ∧ (encFault .lane (.dot2h (xf 3 325 2 1 1 0))).isSome = true
    ∧ (ie.stalled = false ∧ ie.mayIssue = true ∧ ie.w.mgmt = true ∧ mgmtAllowed i = false)
    ∧ (empty.mayIssue = true ∧ empty.w.deadline = false ∧ encFault empty.st i = none ∧ (empty.cluster (clusterOf empty.w.core)).bucket < 0) :=
  ⟨by decide,
   by decide,
   by decide,
   by decide,
   by decide,
   by decide⟩

set_option maxRecDepth 20000 in
theorem witness_ThrottledCyclesLeaveSlotsEmpty :
    let s (n k : Nat) : State := laneS.modCluster 0 (fun c => { c with throttle := n, cycle := k })
    let idle : State := laneS.modCluster 0 (fun c => { c with idle := true })
    ((((s 1 7).cluster 0).cycle + 1) % 8 * ((s 1 7).cluster 0).throttle) % 8 < ((s 1 7).cluster 0).throttle
    ∧ ((((s 6 14).cluster 0).cycle + 1) % 8 * ((s 6 14).cluster 0).throttle) % 8 < ((s 6 14).cluster 0).throttle
    ∧ ((idle.cluster 0).idle = true ∧ (Instr.iaddBA (bf 3 1 2)).isEncoded = true ∧ 0 < idle.clusters.length)
    ∧ clusterOf laneS.w.core = 0 ∧ laneS.w.deadline = false ∧ laneS.w.mgmt = false
    ∧ ({ laneS.w with pcls := 4 } : Wave).deadline = true ∧ laneS.w.streamOpen .lane 0 = true := by decide

theorem witness_BlockSignsFlipElements : (31 : Nat) < 32 ∧ ([0x3F800000].getD 0 0) < 2 ^ 32 := by decide

/-! ## Words written out from 03 R56 to R77 -/

theorem test_decode_iadd : decodeWords [0x0A101800#32] = .ok (.iaddBA (bf 3 4 5), 1) := by rfl
theorem test_decode_kand : decodeWords [0x04041810#32] = .ok (.kand (bf 3 1 2), 1) := by rfl
theorem test_decode_setexec : decodeWords [0x0004040C#32] = .ok (.setexecBA (bf 0 1 0), 1) := by rfl
theorem test_decode_fadd : decodeWords [0x03FC0040#32] = .ok (.faddBA (bf 0 127 1), 1) := by rfl
theorem test_decode_hfma2 : decodeWords [0x49#32, 0x081C0C05#32, 0x93408#32]
    = .ok (.hfma2 { xf 5 6 7 8 1 0 with rnd := 2#3, sat := 1#1, kmask := 1#3, mod := 9#4 }, 3) := by rfl
theorem test_decode_cvt : decodeWords [0x4D#32, 0x0003013F#32, 0xFF000C00#32] = .ok (.cvt { xf 319 384 0 0 0 255 with rnd := 6#3 }, 3) := by rfl
theorem test_decode_shfl : decodeWords [0x81#32, 0x30080203#32, 0#32] = .ok (.shflXA (xf 3 1 2 0 6 0), 3) := by rfl
theorem test_decode_bdiv : decodeWords [0x22A1#32, 0x08000001#32, 8#32]
    = .ok (.bdiv { off21 := 4#21, a9 := 1#9, rsvd1 := 0#18, xop := 1#5, off21b := 8#21, rsvd2 := 0#11 }, 3) := by rfl
theorem test_decode_reconv : decodeWords [0xA4#32] = .ok (.reconv (bf 0 0 0), 1) := by rfl
theorem test_decode_st : decodeWords [0xFFFFC5B7#32, 0x050EFE02#32, 0x00400000#32, 0x11223344#32, 0#32]
    = .ok (.stXM 5#3 { mf 2 383 323 0 0 4 0 with lit := some 0x11223344#64, off21 := 0x1FFFF8#21 }, 5) := by rfl
theorem test_decode_atom : decodeWords [0xFFFFE0BD#32, 0x48180B43#32, 0x04B00007#32]
    = .ok (.atom { mf 323 5 6 7 9 11 4 with off21 := 0x1FFFFC#21 }, 3) := by rfl
theorem test_decode_append : decodeWords [0x1ABD#32, 0x00301543#32, 0x1000#32] = .ok (.append { qf 3 323 10 12 0 0 with push := 1#1 }, 3) := by rfl
theorem test_decode_mma : decodeWords [0x28C1#32, 0x10200E00#32, 0x10000#32] = .ok (.mma { tf 5 0 0 0 7 8 2 with skew := 1#1 }, 3) := by rfl
theorem test_decode_mfence : decodeWords [0xC5#32, 0#32, 0#32] = .ok (.mfence (tf 0 0 0 0 0 0 0), 3) := by rfl
theorem test_decode_sadd_literal : decodeWords [0xFE0808D2#32, 0x89ABCDEF#32, 0x01234567#32]
    = .ok (.saddBS { lit := some 0x0123456789ABCDEF#64, d := 1#7, a := 2#7, b := 0x7F#7 }, 3) := by rfl
theorem test_decode_sloop : decodeWords [0xFFFFFBD9#32, 1#32, 0x155#32]
    = .ok (.sloop { off21 := 0x1FFFFF#21, a9 := 1#9, rsvd1 := 0#18, xop := 0#5, off21b := 0x155#21, rsvd2 := 0#11 }, 3) := by rfl
theorem test_decode_lds : decodeWords [0x801828E0#32] = .ok (.ldsBM { d := 5#7, a := 6#7, off7 := 0x40#7 }, 1) := by rfl
theorem test_decode_wait : decodeWords [0x1F81F8F1#32, 0#32, 0x1F000000#32] = .ok (.wait (sf 0x3F 0x1F8 0 0 0 0 0 31), 3) := by rfl
theorem test_decode_rdsr : decodeWords [0x8AF9#32, 3#32, 0#32] = .ok (.rdsr (sf 0x11 0 3 0 0 0 0 0), 3) := by rfl
theorem test_decode_reserved_major : decodeWords [0xFC#32] = .error (.reservedMajor 0x3F#6) := by rfl
theorem test_decode_too_short : decodeWords [0x49#32, 0#32] = .error .tooShort := by rfl
theorem test_decode_bytes : decodeTableWord 32 0x0A101800 = some (.iaddBA (bf 3 4 5)) := by decide
theorem test_encode_ffma : encode (.ffma { xf 1 2 3 4 0 0 with rnd := 1#3 }) = [0x341#32, 0x000C0401#32, 0x204#32] := by decide

/-! ## Ill-formed terms -/

/-- An event has no words. -/
theorem test_illformed_event : Instr.wellFormed .powerGood = false ∧ Instr.wellFormed (.homeLoad 0) = false := by decide
/-- CRANGE open has bit 4 of its sub-operation clear, CRANGE close has it set. -/
theorem test_illformed_crange : Instr.wellFormed (.crangeOpen (mf 0 0 0 0 16 0 0)) = false ∧ Instr.wellFormed (.crangeClose (mf 0 0 0 0 0 0 0)) = false
    ∧ Instr.wellFormed (.crangeOpen (mf 0 0 0 0 0 0 0)) = true ∧ Instr.wellFormed (.crangeClose (mf 0 0 0 0 16 0 0)) = true := by decide

/-! ## Single steps, their results worked out by hand from the rules -/

/-- The state after. -/
def nextOf (o : Host.Outcome State Fault Refusal) : State := match o with | .next s => s | _ => State.reset

/-- Lanes 0 and 1 with −1 and 2 in v1, and 1 and 3 in v2. -/
def wrapS : State := laneS.modW (fun w => { w with v := [(64, 0xFFFFFFFF#32), (65, 2#32), (128, 1#32), (129, 3#32)] })

/-- 06: a sum wraps at 32 bits, a lane outside `exec` is not written, and the PC moves past one word. -/
theorem test_iadd_wraps : let t := nextOf (exec (.iaddBA (bf 3 1 2)) wrapS)
    t.w.getV 3 0 = 0 ∧ t.w.getV 3 1 = 5 ∧ t.w.getV 3 2 = 0 ∧ t.w.getV 1 0 = 0xFFFFFFFF ∧ t.w.lanePc = wrapS.w.lanePc + 4 := by decide
/-- 06: IMAX is signed. -/
theorem test_imax_signed : (nextOf (exec (.imaxBA (bf 3 1 2)) wrapS)).w.getV 3 0 = 1 := by decide
/-- 06: SAR keeps the sign, and the amount is taken modulo 32. -/
theorem test_sar_amount : (nextOf (exec (.sarXA (xf 3 1 511 0 6 0)) wrapS)).w.getV 3 0 = 0xFFFFFFFF := by decide
/-- 07: SADD of 7 and the literal field of −16 as inline; 64 bits wrap. -/
theorem test_sadd_inline : (nextOf (exec (.saddBS (bf 3 1 96)) leadS)).w.getS 3 = 2 ^ 64 - 9 := by decide
/-- 06 and 05: 1.0 + 2^-24 rounds to the even 1.0, and toward +∞ to the next number. -/
theorem test_fadd_rounds :
    let s := laneS.modW (fun w => { w with v := [(64, 0x3F800000#32), (128, 0x33800000#32)], exec := 1 })
    (nextOf (exec (.faddXA (xf 3 1 2 0 0 0)) s)).w.getV 3 0 = 0x3F800000
    ∧ (nextOf (exec (.faddXA { xf 3 1 2 0 0 0 with rnd := 2#3 }) s)).w.getV 3 0 = 0x3F800001 := by decide
/-- 03 R78: a lead form in the lane stream raises ILLEGAL_OPCODE; without a handler the block is stopped to be saved. -/
theorem test_wrong_stream : encFault .lane (.saddBS (bf 3 1 1)) = some (.opcode 3) := by decide
/-- The digest of "abc" that FIPS 180-4 publishes. -/
theorem test_sha256_abc :
    beValue (sha256 [0x61#8, 0x62#8, 0x63#8]) = 0xBA7816BF8F01CFEA414140DE5DAE2223B00361A396177A9CB410FF61F20015AD := by
  decide +kernel

/-! ## The clauses of a statement at the boundary values of their inputs -/

set_option maxRecDepth 20000 in
theorem witness_LaneFloatValues :
    let lit (x : Nat) : XaF := { xf 3 383 383 0 0 0 with lit := some (BitVec.ofNat 64 x) }
    let one (x : Nat) : XaF := { xf 3 383 2 0 0 0 with lit := some (BitVec.ofNat 64 x) }
    (∀ x ∈ [0, 1, 0x80000000, 0x7F800000, 0xFF800000, 0x3F800000, 0x40800000, 0x80000001, 0xFF7FFFFF, 0x7F800001, 0x7FC00000, 0xFFFFFFFF,
        0x00800000, 0x7F000000, 0x3F000000, 0xBFC00000, 0xC2FC0000],
      (lit x).aF laneS.w 0 = x ∧ (lit x).bF laneS.w 0 = x ∧ (lit x).aT 0 laneS.w 0 = x)
    ∧ (∀ x ∈ [0x7F800001, 0x7FC00000, 0xFFFFFFFF], 0x7F800000 < x % 2 ^ 31)
    ∧ ((one 0x7FC00000).aF laneS.w 0 = 0x7FC00000 ∧ (one 0x7FC00000).bF laneS.w 0 = 3 ∧ ¬ 0x7F800000 < 3 % 2 ^ 31)
    ∧ (1 * 2 ^ 23 = 0x00800000 ∧ 254 * 2 ^ 23 = 0x7F000000)
    ∧ (valueOfBits .f32 0x3F000000 = .fin false 8388608 16777216 ∧ 2 * 8388608 % 16777216 = 0)
    ∧ (valueOfBits .f32 0xBFC00000 = .fin true 12582912 8388608 ∧ 2 * 12582912 / 8388608 = 3)
    ∧ (valueOfBits .f32 0xC2FC0000 = .fin true 16515072 131072 ∧ 16515072 % 131072 = 0)
    ∧ (valueOfBits .f32 0x43000000 = .fin false 8388608 65536 ∧ 8388608 ≥ 128 * 65536) := by decide

theorem witness_ClaimsAreServed :
    let f := bf 0 0 1
    let s := ({ leadS with blocks := [blockT] } : State).modW (fun w => { w with s := [(1, 2#64)], g := 38 })
    let parked : Wave := { s.w with slot := 1, status := .parked (.vclaim 1 2 0) }
    let before (w : Wave) : State := { s with w := { s.w with g := 2, slot := 2 }, waves := [w] }
    let served (n : Nat) : State := s.modW (fun w => { w with status := .parked (.vclaim 1 n 0) })
    (Issues (before { parked with slot := 0 }) .lead 1 ∧ legalB 64 countIx f = none ∧ (before { parked with slot := 0 }).leadOk [.s 1] [] = .ok ()
      ∧ (before { parked with slot := 0 }).w.granules 2 ≤ (before { parked with slot := 0 }).couldHold
      ∧ ∃ p ∈ (before { parked with slot := 0 }).claims s.w.key 0, p.1 < 2)
    ∧ (let r := before { s.w with tryLead := .ready }
      Issues r .lead 1 ∧ r.w.granules 2 ≤ r.couldHold ∧ ∃ w ∈ r.waves, w.key = r.w.key ∧ w.core = r.w.core ∧ w.slot < r.w.slot ∧ w.tryLead = .ready)
    ∧ (∀ n ∈ [2, 3], (served n).blocks = [blockT] ∧ (served n).claims blockT.key 0 = [(0, 0, 1, n)] ∧ (served n).wave? 0 0 = some (served n).w)
    ∧ ((served 2).w.granules 2 ≤ (served 2).reserve blockT.key 0 ∧ (served 3).reserve blockT.key 0 < (served 3).w.granules 3) := by
  refine ⟨⟨issues_of (by decide), by decide, ok_of (by decide), by decide, _, .head _, by decide⟩, ⟨issues_of (by decide), by decide, _, .head _, by decide⟩,
    by decide, by decide⟩

theorem witness_TrapEntrySpills :
    let s := (trapS 0x400041).modW (fun w => { w with
      stack := List.replicate 24 { pc := 0, rpc := kindCall, mask := 0 }, k := { w.k with divspill := 24 } })
    s.w.mgmt = false ∧ s.hasHandler s.w 0x17 = true ∧ s.w.stack.length ≥ 24 := by decide

set_option maxRecDepth 20000 in
theorem witness_HomeOfAFoldedOrPoisonedLine :
    let load (pref : Bool) := Msg.load reqT [(0, 0, 4)] true pref
    let store := Msg.store reqT [(0, 1#8)] []
    let atom := Msg.atom reqT { op := 0, n := 4, lane := 0, v := 1, c := 0, returns := true, pc := 0 }
    let part : Partial := { agent := 4, words := List.replicate 32 1#32, touched := 1 }
    let c (m : Msg) (f : DirEntry → DirEntry) : State := (openS (netS m laneS) true).modDir 0x20000 f
    let bad (m : Msg) : State := (netS m laneS).modDir 0x20000 (fun d => { d with poison := true })
    (∀ m ∈ [load false, load true, store, atom], let s := c m id
      s.arrives 0 = some (msgT m) ∧ s.atHome (msgT m) 0 (lineOf 0x20000) = true ∧ s.lineState (lineOf 0x20000) = .c
      ∧ (s.dirOf 0x20000).fold = none ∧ s.foldReady 0x20000 = true ∧ (s.dirOf 0x20000).holders = [] ∧ (s.dirOf 0x20000).parts = []
      ∧ s.poisoned 0x20000 = false)
    ∧ ((c (load false) (fun d => { d with fold := some { cores := [4], loads := [], poison := false } })).dirOf 0x20000).fold.isSome = true
    ∧ (let s : State := { c (load false) id with net := [msgT (load false), msgT (.holder 4 0x20000)] }
      s.arrives 0 = some (msgT (load false)) ∧ s.foldReady 0x20000 = false)
    ∧ (let s := c (load false) (fun d => { d with holders := [4, 192], parts := [part] })
      s.arrives 0 = some (msgT (load false)) ∧ (s.dirOf 0x20000).fold = none ∧ (s.dirOf 0x20000).holders = [4, 192]
      ∧ (s.dirOf 0x20000).parts = [part])
    ∧ (∀ m ∈ [load false, atom], let s := bad m
      s.arrives 0 = some (msgT m) ∧ s.atHome (msgT m) 0 (lineOf 0x20000) = true ∧ s.lineState (lineOf 0x20000) ≠ .c
      ∧ s.poisoned (lineOf 0x20000) = true) := by decide

set_option maxRecDepth 100000 in
theorem witness_CoreReceives :
    let data := List.replicate 128 0#8
    let msgs := [Msg.fill 3 0x20000 data false, .push 3 0x20000 data 1]
    let other (k : Nat) : L1Line := { lineT .s with line := 0x40000 + 128 * k }
    let full (m : Msg) : State := (netS m laneS).modCore 3 (fun c => { c with l1 := (List.range 2048).map other })
    let one (st : LineSt) (m : Msg) : State := (netS m laneS).modCore 3 (fun c => { c with l1 := [lineT st] })
    let wave (m : Msg) (o : Op) : State := (netS m laneS).modW (fun w => { w with ops := [o] })
    let ack := Msg.ack (.wave 0 0 1) true
    let ret (bad : Option Nat) := Msg.ret 0 0 1 0x20000 [(0, leBytes 9 4), (1, leBytes 8 4)] [] bad
    let st := { opT 1 .laneSt with leftAll := 1 }
    let ld := { opT 1 .laneLd with left := 1, dst := .lanes 3 1 3 4 }
    let probe := Msg.probe 3 0x20000
    (∀ m ∈ msgs, let s := full m
      s.arrives 0 = some (msgT m) ∧ (s.core 3).dead = false ∧ (s.core 3).line? 0x20000 = none ∧ (s.core 3).l1.length ≥ 2048
      ∧ (s.core 3).injcnt < 512 ∧ ({ s with net := dropAt s.net 0 } : State).victim 3 = some (other 0))
    ∧ (∀ k ∈ [LineSt.s, .c], let m := Msg.push 3 0x20000 data 1
      (one k m).arrives 0 = some (msgT m) ∧ ((one k m).core 3).line? 0x20000 = some (lineT k))
    ∧ (let s := (one .s (.update 3 0x20000 [(0, 1#8)] 1 false)).modCore 3 (fun c => { c with pend := (List.replicate 512 (sectorsOf 0x20000 [(0, 1#8)])).flatten })
      (s.core 3).pend.length + (sectorsOf 0x20000 [(0, 1#8)]).length > 512)
    ∧ (let s : State := { one .c probe with net := [msgT probe, msgT (.evicted 3 0x20000 [] 0)] }
      s.arrives 0 = some (msgT probe) ∧ ∃ m ∈ s.net, ∃ ws tm, m.msg = .evicted 3 0x20000 ws tm)
    ∧ (netS probe laneS).arrives 0 = some (msgT probe)
    ∧ ((wave ack st).arrives 0 = some (msgT ack) ∧ (wave ack st).wave? 0 0 = some (wave ack st).w
      ∧ (wave ack st).w.ops.find? (fun o => o.id == 1) = some st ∧ st.bad = [])
    ∧ (∀ b ∈ [none, some 0x800000], (wave (ret b) ld).arrives 0 = some (msgT (ret b))
      ∧ (wave (ret b) ld).wave? 0 0 = some (wave (ret b) ld).w ∧ (wave (ret b) ld).w.ops.find? (fun o => o.id == 1) = some ld
      ∧ (wave (ret b) ld).w.deferred = none) := by
  refine ⟨by decide, by decide, by decide, ⟨by decide, _, .tail _ (.head _), _, _, rfl⟩, by decide, by decide, by decide⟩

set_option maxRecDepth 20000 in
theorem witness_FoldsAndHaltedChecks :
    let part (a : Nat) : Partial := { agent := a, words := List.replicate 32 1#32, touched := 1 }
    let s := (openS laneS true).modDir 0x20000 (fun d => { d with
      parts := [part 5, part 4], fold := some { cores := [], loads := [], poison := true } })
    let halted : State := { laneS with mgmtHalted := true }
    ((s.dirOf 0x20000).fold.map (fun f => (f.cores, f.loads)) = some ([], []) ∧ (s.rangeOfLine 0x20000).isSome = true
      ∧ [part 4, part 5].Perm (s.dirOf 0x20000).parts ∧ [part 4, part 5].Pairwise (fun p q => p.agent < q.agent)
      ∧ (∃ p ∈ [part 4, part 5], ∃ k, k < 32 ∧ bit p.touched k = true))
    ∧ halted.mgmtHalted = true :=
  ⟨⟨by decide, by decide, List.Perm.swap _ _ _, by decide, _, .head _, 0, by decide, by decide⟩, by decide⟩

set_option maxRecDepth 20000 in
theorem witness_BootAndAlerts :
    let on (b : Nat) : State := { leadS with powered := true, devstat := b }
    let hot : State := (leadS.modCluster 23 (fun c => { c with throttle := 1, alerted := true }))
    (bit (on 1).devstat 0 = true ∧ (on 1).bootstage = 0 ∧ bit (on 0).devstat 0 = false ∧ (on 0).mgmtHalted = false)
    ∧ (({ on 0 with mgmtHalted := true } : State).mgmtHalted = true ∧ ({ on 0 with bootstage := 2 } : State).cores.length = 192)
    ∧ ((hot.cluster 23).throttle ≠ 0 ∧ 100 + 40 ≤ hot.tlimit ∧ (hot.cluster 23).alerted = true) := by decide

/-- The waves of node 0 run a lead section whose next instruction is a CONSUME, not their first. -/
def takerS (n : Node) : State :=
  let w := encode (.consume (qf 0 62 0 448 0 0))
  let s := State.reset.withFetchWord (32 * w.length) (leValue (w.flatMap (fun x => leBytes x.toNat 4)))
  (withGraph n [inBatch []] (s.modW (fun w => { w with winFirst := true }))).modDie 0 (fun d => { d with batches := [batchT false] })

set_option maxRecDepth 100000 in
theorem witness_GroupsAndQuadsClose :
    let five := (List.range 5).map entryT
    let coop := { nodeT 0 32 0 with cls := 0, coop := 2 }
    let pair : State := { withGraph coop five State.reset with nextId := 9 }
    let quads : State := { withGraph (nodeT 0 32 0) five State.reset with
      nextId := 9, graph := some { graphT (nodeT 0 32 0) with nodes := [nodeT 0 32 0, nodeT 3 64 0] } }
    (pair.node? 0 = some coop ∧ coop.kind = kindShader ∧ coop.cls = 0 ∧ pair.storeOf 0 0 = [] ∧ pair.queue? 0 0 = some (queueT five)
      ∧ (queueT five).avail ≠ [] ∧ 0 < coop.batchMax ∧ (∀ e ∈ (queueT five).entries, e.batch ≠ some 9)
      ∧ (queueT five).avail.length ≥ coop.minfill * 2)
    ∧ (quads.rasterFed 0 = true ∧ quads.node? 0 = some (nodeT 0 32 0) ∧ quads.queue? 0 0 = some (queueT five) ∧ 5 / 4 * 4 = 4)
    ∧ (let s := takerS (nodeT 0 32 0)
      s.allBatches[0]? = some (0, batchT false) ∧ s.yieldsTo 0 (batchT false) = false ∧ s.takerStands 0 (nodeT 0 32 0) 0 = true) := by
  decide

theorem witness_BarriersOfOneCycle :
    let s : State := { leadS with blocks := [{ blockT with segs := [{ segT 0 with
      bars := [{ arr := 3, exp := 3, phase := 0, pend := 0, tag := 0, waiters := [], next := 1 }] }, segT 1] }] }
    (s.bar? blockT.key 0 0).map (fun y => y.next) = some 1 ∧ s.barCycle blockT.key 0 = 0 := by decide

set_option maxRecDepth 20000 in
theorem witness_WaitingTraversals :
    let e := { entryT 1 with bytes := rayT 0x3F800000 }
    let wait (a : Option Bool) : State :=
      (fixedS kindRay []).modDie 0 (fun d => { d with rayWait := [{ node := 0, took := e, page := 0x800000 / 16384, answer := a }] })
    let ends (s : State) : Nat := match rayBox 64 0 (rayOf e.bytes) 0 s none with | .error (.miss va) => va | _ => 0
    let h : Machine.Head := { Machine.Head.reset true with fb := 0x800000, pitch := 1024, width := 16, height := 1, fmt := 1 }
    let x : DirEntry := { DirEntry.empty with holders := [4, 192] }
    let scan : State := { openS State.reset true with dir := [(0x20000, x)], heads := [h] }
    (∀ a ∈ [none, some true, some false], ((wait a).die 0).rayWait.find? (fun x => x.node == 0)
        = some { node := 0, took := e, page := 0x800000 / 16384, answer := a } ∧ ends (wait a) = 0x800000)
    ∧ ((wait none).node? 0 = some (nodeT kindRay 64 1) ∧ rayBad e.bytes = false ∧ rayOpen e.bytes = false)
    ∧ (scan.heads[0]? = some h ∧ h.on = true ∧ scan.nodes = [] ∧ (scan.rangeOfLine 0x20000).map (fun r => h.shows (r.vaOf 0x20000)) = some true
      ∧ x.clean = false ∧ x.fold = none ∧ scan.foldReady 0x20000 = true) := by decide

set_option maxRecDepth 20000 in
theorem witness_HeldResponses :
    let s : State := { State.reset with busy := some (.respond 0 0 0) }
    let a : Ack := { id := 1, tell := .none, die := 0, wait := [5], pushes := [], sentDie := false }
    let map := recC 0x17 [(1, 64), (0x2000000, 96), (0x4000000, 160), (1, 208), (15, 240), (1, 244)]
    let mapped : State := cmdS map 3 { s with graph := some (graphT (nodeT 0 32 0)) }
    (({ s with acks := [a] } : State).writesPending = true ∧ s.writesPending = false ∧ s.mgmtHalted = false
      ∧ ({ s with mgmtHalted := true } : State).mgmtHalted = true ∧ bits s.headRecord 0 8 ≠ 0x17)
    ∧ (mapped.busy = some (.respond 0 0 0) ∧ mapped.queueCmd = none ∧ bits mapped.headRecord 0 8 = 0x17
      ∧ (graphT (nodeT 0 32 0)).id = bits mapped.headRecord 64 32)
    ∧ (let x := { State.reset with busy := some Busy.vacate }
      x.vacating = false ∧ x.mgmtHalted = false
      ∧ ({ x with blocks := [{ blockT with vacate := true, status := .saving false none }] } : State).vacating = true)
    ∧ (({ State.reset with contexts := [contextT], net := [msgT (.probe 3 0x20000)] } : State).quiet = false
      ∧ ({ State.reset with contexts := [contextT] } : State).quiet = true) := by decide

set_option maxRecDepth 20000 in
theorem witness_DisplayAndReset :
    let rate (off : Nat) : Nat := recC 0x1B [(2, 64), (off, 66), (7, 72), (1, 76), (8, 80), (1, 96)]
    let off := recC 0x1B [(2, 64), (1, 66), (6, 72), (4, 76), (16, 80)]
    let m := memWrite (memWrite State.reset.bar0 0x100000 (leBytes 1 64)) 0x100040 (leBytes 5 64)
    let s : State := { State.reset with bar0 := m, cmdtail := 2, powered := true, mgmtHalted := true }
    (∀ o < 2, commandB State.reset (rate o) 0x1B 3 displayFields = true ∧ bit (rate o) 66 = decide (o = 1) ∧ ¬ bits (rate o) 72 4 ≤ 6)
    ∧ (commandB State.reset off 0x1B 3 displayFields = true ∧ bits off 72 4 ≤ 6 ∧ bits off 76 4 = 4 ∧ bits off 80 8 = 16)
    ∧ (s.mgmtHalted = true ∧ bits 5 0 8 = 5 ∧ rsvdSet 5 [] = false ∧ 1 < (s.cmdtail + 2 ^ 32 - s.cmdhead) % 2 ^ 32
      ∧ leValue (memBytes s.bar0 (0x100000 + 64 * ((s.cmdhead + 1) % 4096)) 64) = 5) := by decide

theorem witness_SensorPending :
    let s := (sensorS { nodeT kindSensor 32 1 with param := 8 }).modSensor 3 (fun x => { x with pending := [(0, 7), (1, 9)] })
    (∃ p ∈ (s.sensor 3).pending, p.1 = 0) ∧ (s.sensor 3).writes = 0 ∧ (s.sensor 3).barh = 0 := by
  refine ⟨⟨_, .head _, rfl⟩, by decide, by decide⟩

end Sys2Proof.Tests
end

section
/-! What happens to an encoded instruction before it has any effect (02 R22; 03 R63, R78 to R81; 17 R383, R384; 18 R411).
Laws/Exec.lean says that an encoded instruction is issued with the legality of its encoding, beside some faults that the
wave's state decides; here these faults are named as ILLEGAL_OPCODE, which is what the last clause turns on. -/
namespace Sys2Proof.Machine
open Sys2Proof.Claims

/-! ## Faults that the wave's state decides -/

/-- No fault, or an ILLEGAL_OPCODE. -/
def OpcodeOnly (x : Option EncFault) : Prop := ∀ e, x = some e → ∃ n, e = .opcode n

theorem opcodeOnly_none : OpcodeOnly none := by simp [OpcodeOnly]

theorem opcodeOnly_some (n : Nat) : OpcodeOnly (some (.opcode n)) := by simp [OpcodeOnly]

theorem opcodeOnly_ite {p : Prop} [Decidable p] {x y : Option EncFault} (hx : OpcodeOnly x) (hy : OpcodeOnly y) :
    OpcodeOnly (if p then x else y) := by
  split
  · exact hx
  · exact hy

theorem opcodeOnly_faultIf (c : Bool) (n : Nat) : OpcodeOnly (faultIf c (.opcode n)) :=
  opcodeOnly_ite (opcodeOnly_some n) opcodeOnly_none

theorem opcodeOnly_eretHere (s : State) : OpcodeOnly s.eretHere :=
  opcodeOnly_ite opcodeOnly_none (opcodeOnly_ite (opcodeOnly_some 3) (opcodeOnly_faultIf _ _))

/-! ## The order of faults (17 R383) -/

theorem mem_of_firstFault {l : List (Option EncFault)} {e : EncFault} (h : firstFault l = some e) : some e ∈ l := by
  induction l with
  | nil => simp [firstFault] at h
  | cons x xs ih =>
    cases x with
    | none => exact List.mem_cons_of_mem _ (ih h)
    | some y => simp_all [firstFault]

/-- A fault that opcodeFirst gives is an ILLEGAL_OPCODE of the list, or the first fault of it. -/
theorem opcodeFirst_cases {l : List (Option EncFault)} {e : EncFault} (h : opcodeFirst l = some e) :
    (some e ∈ l ∧ ∃ n, e = .opcode n) ∨ firstFault l = some e := by
  simp only [opcodeFirst, Option.orElse_eq_or, Option.or_eq_some_iff] at h
  rcases h with hf | ⟨-, hf⟩
  · obtain ⟨hl, hp⟩ := List.mem_filter.mp (mem_of_firstFault hf)
    cases e with
    | opcode n => exact .inl ⟨hl, n, rfl⟩
    | operand n => simp at hp
  · exact .inr hf

/-- With only ILLEGAL_OPCODEs beside it, a fault of the encoding is raised, or gives way to an ILLEGAL_OPCODE. -/
theorem opcodeFirst_of_some {e0 : EncFault} {more : List (Option EncFault)} :
    ∃ e, opcodeFirst (some e0 :: more) = some e ∧ (e = e0 ∨ ∃ m n, e0 = .operand m ∧ e = .opcode n) := by
  cases e0 with
  | opcode n => exact ⟨.opcode n, rfl, .inl rfl⟩
  | operand m =>
    cases h : opcodeFirst (some (.operand m) :: more) with
    | none => simp [opcodeFirst, firstFault] at h
    | some e =>
      refine ⟨e, rfl, ?_⟩
      rcases opcodeFirst_cases h with ⟨-, n, rfl⟩ | hf
      · exact .inr ⟨m, n, rfl, rfl⟩
      · exact .inl (by simpa [firstFault] using hf.symm)

/-- Where the encoding is legal, only an ILLEGAL_OPCODE of the wave's state is left. -/
theorem opcodeFirst_of_none {more : List (Option EncFault)} (hm : ∀ x ∈ more, OpcodeOnly x) :
    OpcodeOnly (opcodeFirst (none :: more)) := by
  intro e h
  rcases opcodeFirst_cases h with ⟨-, hn⟩ | hf
  · exact hn
  · exact hm _ (mem_of_firstFault (l := more) hf) e rfl

/-! ## Every encoded instruction is issued so -/

/-- The meaning of an encoded instruction is an issue of it with its own stream and the legality of its encoding; beside
that the wave's state decides nothing but ILLEGAL_OPCODE. -/
def OwnIssue (i : Instr) (s : State) : Prop :=
  ∃ kmask weight more body, (∀ x ∈ more, OpcodeOnly x) ∧
    exec i s = s.issue i (formOf s.st i).1 kmask weight (opcodeFirst ((formOf s.st i).2 :: more)) body

/-- A form that only its encoding makes illegal. -/
theorem ownIssue_of {i : Instr} {s : State} {st : Option Stream} {kmask weight : Nat} {legal : Option EncFault}
    {body : State → R State} (h : exec i s = s.issue i st kmask weight legal body) (hf : formOf s.st i = (st, legal)) :
    OwnIssue i s :=
  ⟨kmask, weight, [], body, by simp, by rw [h, hf, opcodeFirst_one]⟩

/-- The same, by way of the meaning's own name, where `exec` does not reduce to an issue at once. -/
theorem ownIssue_via {i : Instr} {s : State} (o : Out) {st : Option Stream} {kmask weight : Nat} {legal : Option EncFault}
    {body : State → R State} (ho : exec i s = o) (h : o = s.issue i st kmask weight legal body)
    (hf : formOf s.st i = (st, legal)) : OwnIssue i s :=
  ownIssue_of (ho.trans h) hf

/-- A form with one fault that the wave's state decides. -/
theorem ownIssue_beside {i : Instr} {s : State} {st : Option Stream} {kmask weight : Nat} {legal x : Option EncFault}
    {body : State → R State} (h : exec i s = s.issue i st kmask weight (opcodeFirst [legal, x]) body)
    (hf : formOf s.st i = (st, legal)) (hx : OpcodeOnly x) : OwnIssue i s :=
  ⟨kmask, weight, [x], body, by simpa using hx, by rw [h, hf]⟩

theorem ownIssue_laneBA {i : Instr} {s : State} {weight ty : Nat} {sp : XaF → XaSpec} {f : BaF}
    {body : State → Nat → XaSpec → XaF → R State} (h : exec i s = s.laneBA i weight sp ty f body)
    (hf : formOf s.st i = (some .lane, legalBa sp ty f)) : OwnIssue i s :=
  ownIssue_of h hf

theorem ownIssue_maskForm {i : Instr} {s : State} {useB : Bool} {f : BaF} {op : Nat → Nat → Nat}
    (h : exec i s = s.maskForm i useB f op) (hf : formOf s.st i = (some .lane, legalK useB f)) : OwnIssue i s :=
  ownIssue_of h hf

theorem ownIssue_laneXAIf {i : Instr} {s : State} {weight : Nat} {sp : XaF → XaSpec} {f : XaF} {early : Option EncFault}
    {body : State → Nat → XaSpec → XaF → R State} (h : exec i s = s.laneXAIf i weight sp f early body)
    (hf : formOf s.st i = (some .lane, legalXa (sp f) f)) (he : OpcodeOnly early) : OwnIssue i s :=
  ⟨f.kmask.toNat, weight, [badValue (s.w.dynRandFault (sp f) f), early], _,
    by simpa using ⟨opcodeOnly_faultIf _ _, he⟩, by rw [h, hf]; rfl⟩

theorem ownIssue_encoded (i : Instr) (s : State) (h : i.isEncoded = true) : OwnIssue i s := by
  cases i with
  | iaddBA f | isubBA f | imulBA f | imulhiBA f | iminBA f | imaxBA f | andBA f | orBA f | xorBA f | andnBA f
  | shlBA f | shrBA f | sarBA f | rotBA f | popcBA f | clzBA f | ctzBA f | brevBA f | movBA f | getexecBA f
  | setexecBA f | faddBA f | fsubBA f | fmulBA f | fminBA f | fmaxBA f | frcpBA f | frsqBA f | fsqrtBA f | fexp2BA f
  | flog2BA f | fsinpiBA f | fcospiBA f | hadd2BA f | hmul2BA f | shflBA f | bcastBA f | qswapBA f | qbcastBA f
  | voteBA f => exact ownIssue_laneBA rfl rfl
  | iaddXA f | isubXA f | imulXA f | imulhiXA f | imad f | iminXA f | imaxXA f | andXA f | orXA f | xorXA f
  | andnXA f | shlXA f | shrXA f | sarXA f | rotXA f | bfx f | bfi f | popcXA f | clzXA f | ctzXA f | brevXA f
  | icmp f | sel f | movXA f | movrel f | movrelw f | getexecXA f | setexecXA f | faddXA f | fsubXA f | fmulXA f
  | ffma f | fminXA f | fmaxXA f | fcmp f | fclass f | frcpXA f | frsqXA f | fsqrtXA f | fexp2XA f | flog2XA f
  | fsinpiXA f | fcospiXA f | hfma2 f | hadd2XA f | hmul2XA f | dot4d8 f | cvt f | pack f | unpack f | dqscale f
  | shflXA f | bcastXA f | qswapXA f | qbcastXA f | voteXA f | reduce f | scan f | hist f | hmerge f =>
    exact ownIssue_laneXAIf rfl rfl opcodeOnly_none
  | vrdl f | vwrl f | hadq f | cxstage f => exact ownIssue_laneXAIf rfl rfl (opcodeOnly_faultIf _ _)
  | qscale f => exact ownIssue_laneXAIf rfl rfl (opcodeOnly_ite (opcodeOnly_faultIf _ _) opcodeOnly_none)
  | mma f | mpair f | sbrc f | sloop f | rdlead f | wrlead f => exact ownIssue_beside rfl rfl (opcodeOnly_faultIf _ _)
  | eret f => exact ownIssue_beside rfl rfl (opcodeOnly_eretHere s)
  | bdiv f | reconv f | retl f | ldsp f | stsp f | pref f | atom f | cadd f | append f | mzero f | mrd f | mwr f
  | mldt f | mstore f | mfence f | mwait f | msig f | saddBS f | saddXA f | ssubBS f | ssubXA f | smulBS f | smulXA f
  | smulhiBS f | smulhiXA f | sandBS f | sandXA f | sorBS f | sorXA f | sxorBS f | sxorXA f | smovBS f | smovXA f
  | sshlBS f | sshlXA f | sshrBS f | sshrXA f | ssarBS f | ssarXA f | sminBS f | sminXA f | smaxBS f | smaxXA f
  | scmp f | ssel f | sbfx f | scall f | jmpl f | sret f | dqpush f | vgive f | vclaim f | abort f | ldsBM f
  | ldsXM f | stsBM f | stsXM f | ldlq f | consume f | rnext f | launch f | cpy f | coll f | wait f | seminc f
  | semset f | semwait f | barinit f | bararr f | barexp f | barwait f | joinset f | joinadd f | joindec f | rdsr f
  | wrsr f | sleep f => exact ownIssue_of rfl rfl
  | kand f => exact ownIssue_maskForm (Eq.trans (b := execKand f s) rfl rfl) rfl
  | kor f => exact ownIssue_maskForm (Eq.trans (b := execKor f s) rfl rfl) rfl
  | kxor f => exact ownIssue_maskForm (Eq.trans (b := execKxor f s) rfl rfl) rfl
  | knot f => exact ownIssue_maskForm (Eq.trans (b := execKnot f s) rfl rfl) rfl
  | kmov f => exact ownIssue_maskForm (Eq.trans (b := execKmov f s) rfl rfl) rfl
  | dot2h f =>
    exact ownIssue_laneXAIf (weight := 8) (body := bodyRetired) (Eq.trans (b := execDot2h f s) rfl rfl) rfl opcodeOnly_none
  | brdq f => exact ownIssue_via (execBrdq f s) rfl rfl rfl
  | calll f => exact ownIssue_via (execCalll f s) rfl rfl rfl
  | exit f => exact ownIssue_via (execExit f s) rfl rfl rfl
  | stt f => exact ownIssue_via (execStt f s) rfl rfl rfl
  | sbr f => exact ownIssue_via (execSbr f s) rfl rfl rfl
  | sdone f => exact ownIssue_via (execSdone f s) rfl rfl rfl
  | pollabt f => exact ownIssue_via (execPollabt f s) rfl rfl rfl
  | crangeOpen f => exact ownIssue_via (execCrangeOpen f s) rfl rfl rfl
  | crangeClose f => exact ownIssue_via (execCrangeClose f s) rfl rfl rfl
  | phrelBS f => exact ownIssue_via (execPhrelBS f s) rfl rfl rfl
  | phrelXM f => exact ownIssue_via (execPhrelXM f s) rfl rfl rfl
  | phacqBS f => exact ownIssue_via (execPhacqBS f s) rfl rfl rfl
  | phacqXM f => exact ownIssue_via (execPhacqXM f s) rfl rfl rfl
  | phaseBS f => exact ownIssue_via (execPhaseBS f s) rfl rfl rfl
  | phaseXM f => exact ownIssue_via (execPhaseXM f s) rfl rfl rfl
  | trap f => exact ownIssue_via (execTrap f s) rfl rfl rfl
  | yield f => exact ownIssue_via (execYield f s) rfl rfl rfl
  | ldBM m f => exact ownIssue_via (execLdBM m f s) rfl rfl rfl
  | ldXM m f => exact ownIssue_via (execLdXM m f s) rfl rfl rfl
  | stBM m f => exact ownIssue_via (execStBM m f s) rfl rfl rfl
  | stXM m f => exact ownIssue_via (execStXM m f s) rfl rfl rfl
  | _ => simp [Instr.isEncoded, encode] at h

/-! ## The four clauses -/

/-- The encoding's own fault, as the issue checks it: the stream first, then the page. -/
theorem encFault_eq (st : Stream) (i : Instr) :
    encFault st i = if (formOf st i).1.getD st ≠ st then some (.opcode 3) else (formOf st i).2 := by
  simp [encFault]

/-- The lanes that a fault of the encoding reports are none in the lead stream (17 R405). -/
theorem encLanes_of_lead {s : State} (h : s.st = .lead) (kmask : Nat) : s.encLanes kmask = 0 := by
  simp [State.encLanes, h]

/-- The stop of an illegal encoding (17 R384): DETAIL is its reason or operand. -/
def EncFault.stop (e : EncFault) (fl : Nat) : Stop :=
  .trap (match e with | .opcode _ => 0x01 | .operand _ => 0x03) fl 0 ((match e with | .opcode n => n | .operand n => n) * 2048)

theorem stopWith_encStop (s : State) (w0 : Word) (e : EncFault) (fl : Nat) :
    s.stopWith w0 (e.stop fl) = (s.modW (fun w => { w with refused := none })).takeTrap
      { cause := (match e with | .opcode _ => 0x01 | .operand _ => 0x03), st := s.st, deferred := false, flanes := fl
        taddr := 0, tinfo := w0.toNat % 2 ^ 11 + (match e with | .opcode n => n | .operand n => n) * 2048 } := by
  cases e <;> rfl

/-- An issue whose encoding has a fault, for a wave, stops with it or with an ILLEGAL_OPCODE that stands above it. -/
theorem issue_of_encFault {i : Instr} {s : State} {e0 : EncFault} {kmask weight : Nat} {more : List (Option EncFault)}
    {body : State → R State} (h5 : s.stalled = false) (h1 : s.mayIssue = true) (h3 : s.w.mgmt = false)
    (he : encFault s.st i = some e0) :
    ∃ e, (e = e0 ∨ ∃ m n, e0 = .operand m ∧ e = .opcode n) ∧
      s.issue i (formOf s.st i).1 kmask weight (opcodeFirst ((formOf s.st i).2 :: more)) body
        = .next (s.stopWith i.word0 (e.stop (s.encLanes kmask))) := by
  rw [encFault_eq] at he
  split at he
  · next hst =>
    obtain rfl : EncFault.opcode 3 = e0 := by simpa using he
    exact ⟨_, .inl rfl, by simp [issue_eq h5, h1, State.encStop, hst]; rfl⟩
  · next hst =>
    obtain ⟨e, h, hor⟩ := opcodeFirst_of_some (e0 := e0) (more := more)
    refine ⟨e, hor, ?_⟩
    rw [he, h, issue_of_illegal h1 (not_not.mp hst) h3 h5]
    cases e <;> simp [EncFault.stop, Nat.shiftLeft_eq] <;> rfl

/-- Below an empty bucket no instruction of a wave without a deadline is covered (18 R411). -/
theorem not_covered_of_neg {s : State} (hm : s.w.mgmt = false) (hd : s.w.deadline = false)
    (hb : (s.cluster (clusterOf s.w.core)).bucket < 0) (weight : Nat) : s.covered weight = false := by
  simp only [State.covered, hm, hd, Bool.false_or, decide_eq_false_iff_not]
  omega

/-- A legal issue that its bucket does not cover waits, whatever its body would do. -/
theorem issue_uncovered {i : Instr} {s : State} {st : Option Stream} {kmask weight : Nat} {legal : Option EncFault}
    {body : State → R State} (h5 : s.stalled = false) (h1 : s.mayIssue = true) (he : s.encStop i st kmask legal = none)
    (hc : s.covered weight = false) : ∃ x, s.issue i st kmask weight legal body = .next (s.stall x) := by
  simp only [issue_eq h5, h1, he, hc]
  cases body s with
  | ok s' => exact ⟨.unpaid, rfl⟩
  | error x =>
    by_cases hx : x = .stall
    · exact ⟨.unready, by subst hx; rfl⟩
    · exact ⟨.unpaid, by simp [hx]; rfl⟩

/-- An issue of a legal encoding below an empty bucket waits, or raises an ILLEGAL_OPCODE that the wave's state decides. -/
theorem issue_below_empty {i : Instr} {s : State} {kmask weight : Nat} {more : List (Option EncFault)}
    {body : State → R State} (h5 : s.stalled = false) (h1 : s.mayIssue = true) (h3 : s.w.mgmt = false)
    (hm : ∀ x ∈ more, OpcodeOnly x) (he : encFault s.st i = none) (hc : s.covered weight = false) :
    (∃ x, s.issue i (formOf s.st i).1 kmask weight (opcodeFirst ((formOf s.st i).2 :: more)) body = .next (s.stall x))
    ∨ ∃ n, s.issue i (formOf s.st i).1 kmask weight (opcodeFirst ((formOf s.st i).2 :: more)) body
        = .next (s.stopWith i.word0 (.trap 0x01 (s.encLanes kmask) 0 (n * 2048))) := by
  rw [encFault_eq] at he
  split at he
  · simp at he
  · next hst =>
    rw [not_not] at hst
    rw [he]
    cases hf : opcodeFirst (none :: more) with
    | none => exact .inl (issue_uncovered h5 h1 (by simp [State.encStop, hst, h3]) hc)
    | some e =>
      obtain ⟨n, rfl⟩ := opcodeFirst_of_none hm e hf
      exact .inr ⟨n, by rw [issue_of_illegal h1 hst h3 h5]; simp [Nat.shiftLeft_eq]; rfl⟩

/-- Settles O58: every encoded instruction is issued alike (`ownIssue_encoded`), and the checks of an issue stand before its
body. -/
theorem nothingBeforeIssue : Obligations.NothingBeforeIssue := by
  intro i s hi
  obtain ⟨kmask, weight, more, body, hm, hx⟩ := ownIssue_encoded i s hi
  rw [hx]
  refine ⟨fun h1 => issue_not_ready h1, fun e0 h5 h1 h3 he => ?_, fun h5 h1 h3 ha => ?_, fun h5 h1 h3 hd he hb => ?_⟩
  · obtain ⟨e, hor, h⟩ := issue_of_encFault (kmask := kmask) (weight := weight) (more := more) (body := body) h5 h1 h3 he
    exact ⟨e, s.encLanes kmask, hor, fun hl => encLanes_of_lead hl _,
      h.trans (congrArg Host.Outcome.next (stopWith_encStop s i.word0 e _))⟩
  · exact ⟨s.encLanes kmask, issue_of_mgmt h3 h5 h1 ha⟩
  · rcases issue_below_empty (kmask := kmask) (body := body) h5 h1 h3 hm he
      (not_covered_of_neg h3 hd hb weight) with h | ⟨n, h⟩
    · exact .inl h
    · exact .inr ⟨s.encLanes kmask, n, fun hl => encLanes_of_lead hl _, h⟩

end Sys2Proof.Machine
end

section
/-! What updates of a state leave and what reads give after them: lists changed at one place, waves, blocks, dies and queues
read back, and the frame of the graph scheduler's status writes (13 R305). -/
namespace Sys2Proof.Machine
open Sys2Proof.Claims

/-! ## Lists changed at one place -/

theorem modAt_eq_modify {β : Type} (l : List β) (i : Nat) (f : β → β) : modAt l i f = l.modify i f := by
  induction l generalizing i with
  | nil => simp [modAt]
  | cons x xs ih =>
    cases i with
    | zero => rfl
    | succ i => simp [modAt, ih]

theorem setAt_eq_set {β : Type} (l : List β) (i : Nat) (v : β) : setAt l i v = l.set i v := by
  induction l generalizing i with
  | nil => simp [setAt]
  | cons x xs ih =>
    cases i with
    | zero => rfl
    | succ i => simp [setAt, ih]

@[simp] theorem modAt_length {β : Type} (l : List β) (i : Nat) (f : β → β) : (modAt l i f).length = l.length := by
  simp [modAt_eq_modify]

theorem getD_modAt_self {β : Type} (l : List β) (i : Nat) (f : β → β) (d : β) (h : i < l.length) :
    (modAt l i f).getD i d = f (l.getD i d) := by
  simp [modAt_eq_modify, List.getD_eq_getElem?_getD, h]

/-- The first element that a test finds, where those of the test are changed and stay so. -/
theorem find?_map_ite {β : Type} (l : List β) (p : β → Bool) (q : β → Prop) [DecidablePred q] (f : β → β)
    (hq : ∀ x, p x = true ↔ q x) (hf : ∀ x, q x → q (f x)) :
    (l.map (fun x => if q x then f x else x)).find? p = (l.find? p).map f := by
  induction l with
  | nil => rfl
  | cons x xs ih =>
    by_cases hx : q x
    · simp [hx, (hq x).mpr hx, (hq (f x)).mpr (hf x hx)]
    · have hp : p x = false := by simpa [hx] using (hq x).not
      simp [hx, hp, ih]

/-! ## Waves, blocks, dies and queues read back -/

theorem State.wave?_modWave (s : State) (c slot : Nat) (f : Wave → Wave) (hc : ∀ w, (f w).core = w.core)
    (hs : ∀ w, (f w).slot = w.slot) : (s.modWave c slot f).wave? c slot = (s.wave? c slot).map f := by
  unfold State.modWave State.wave?
  by_cases h : s.w.core = c ∧ s.w.slot = slot
  · simp [h, hc, hs]
  · simp only [h, if_false]
    exact find?_map_ite s.waves _ _ f (by simp) (by simp [hc, hs])

theorem State.modWave_frame (s : State) (c slot : Nat) (f : Wave → Wave) :
    s.modWave c slot f = { s with w := (s.modWave c slot f).w, waves := (s.modWave c slot f).waves } := by
  unfold State.modWave
  split <;> rfl

@[simp] theorem State.modWave_waves_length (s : State) (c slot : Nat) (f : Wave → Wave) :
    (s.modWave c slot f).waves.length = s.waves.length := by
  unfold State.modWave
  split <;> simp

@[simp] theorem State.modWave_blocks (s : State) (c slot : Nat) (f : Wave → Wave) : (s.modWave c slot f).blocks = s.blocks := by
  rw [State.modWave_frame]

@[simp] theorem State.modWave_mem (s : State) (c slot : Nat) (f : Wave → Wave) : (s.modWave c slot f).mem = s.mem := by
  rw [State.modWave_frame]

theorem State.block?_modBlock (s : State) (k : BKey) (f : Block → Block) (hf : ∀ b, (f b).key = b.key) :
    (s.modBlock k f).block? k = (s.block? k).map f := by
  exact find?_map_ite s.blocks _ _ f (by simp) (by simp [hf])

theorem State.key_of_block? {s : State} {k : BKey} {b : Block} (h : s.block? k = some b) : b.key = k := by
  simpa using List.find?_some h

@[simp] theorem State.die_modDie_self (s : State) (d : Nat) (f : Die → Die) (h : d < s.dies.length) :
    (s.modDie d f).die d = f (s.die d) :=
  getD_modAt_self _ _ _ _ h

theorem State.queue?_modQueue_self (s : State) (d node : Nat) (f : Queue → Queue) (hd : d < s.dies.length)
    (hf : ∀ q, (f q).node = q.node) : (s.modQueue d node f).queue? d node = (s.queue? d node).map f := by
  simp only [State.queue?, State.modQueue, State.die_modDie_self _ _ _ hd]
  exact find?_map_ite _ _ _ f (by simp) (by simp [hf])

theorem State.queue?_modDie_of_queues (s : State) (d d' node : Nat) (f : Die → Die) (hf : ∀ x, (f x).queues = x.queues) :
    (s.modDie d f).queue? d' node = s.queue? d' node := by
  simp only [State.queue?, State.die, State.modDie, modAt_eq_modify, List.getD_eq_getElem?_getD, List.getElem?_modify]
  split
  · cases s.dies[d']? <;> simp [hf]
  · simp

theorem State.focus_blocks {s t : State} {core slot : Nat} {st : Stream} (h : s.focus core slot st = some t) :
    t.blocks = s.blocks := by
  unfold State.focus at h
  split at h
  · cases h; rfl
  · split at h
    · cases h
    · cases h; rfl

/-! ## Status writes (13 R305) -/

/-- Only memory, with what its homes keep and send of a write, and the scheduler's own copy of the graph differ. -/
def StatusOnly (s t : State) : Prop :=
  t = { s with nextId := t.nextId, mem := t.mem, dir := t.dir, net := t.net, acks := t.acks, graph := t.graph }

theorem StatusOnly.refl (s : State) : StatusOnly s s := rfl

theorem StatusOnly.trans {s t u : State} (h : StatusOnly s t) (h' : StatusOnly t u) : StatusOnly s u := by
  unfold StatusOnly at *; rw [h', h]

theorem statusOnly_ite {s t u : State} {p : Prop} [Decidable p] (ht : StatusOnly s t) (hu : StatusOnly s u) :
    StatusOnly s (if p then t else u) := by
  split
  · exact ht
  · exact hu

section
variable {s t : State} (h : StatusOnly s t)
include h
theorem StatusOnly.w : t.w = s.w := by rw [h]
theorem StatusOnly.waves : t.waves = s.waves := by rw [h]
theorem StatusOnly.blocks : t.blocks = s.blocks := by rw [h]
theorem StatusOnly.dies : t.dies = s.dies := by rw [h]
theorem StatusOnly.clusters : t.clusters = s.clusters := by rw [h]
end

theorem statusOnly_putBytes (s : State) (line : Nat) (bs : List (Nat × Byte)) : StatusOnly s (s.putBytes line bs) := by
  induction bs generalizing s with
  | nil => rfl
  | cons b rest ih => exact StatusOnly.trans (by rfl) (ih _)

theorem statusOnly_sendUpdates (s : State) (line id : Nat) (data : List (Nat × Byte)) (now : Option Nat) (cs : List Nat) :
    StatusOnly s (s.sendUpdates line id data now cs) := by
  induction cs generalizing s with
  | nil => rfl
  | cons c rest ih => exact StatusOnly.trans (by rfl) (ih _)

theorem statusOnly_sendPushes (s : State) (line id : Nat) (cs : List Nat) : StatusOnly s (s.sendPushes line id cs) := by
  induction cs generalizing s with
  | nil => rfl
  | cons c rest ih => exact StatusOnly.trans (by rfl) (ih _)

theorem statusOnly_ackStep (s : State) (id : Nat) : StatusOnly s (s.ackStep id) := by
  unfold State.ackStep
  cases s.acks.find? (fun a => a.id == id) with
  | none => rfl
  | some a =>
    have tell (u : State) (all : Bool) :
        StatusOnly u (match a.tell with | .host | .none => u | t => u.send (.ack t all)) := by
      cases a.tell <;> rfl
    have early : StatusOnly s (if (decide (a.pushes = []) && a.wait.all (fun c => dieOf c != a.die)) && !a.sentDie then
        (match a.tell with | .host | .none => s | t => s.send (.ack t false)) else s) := by
      exact statusOnly_ite (tell s false) (.refl s)
    exact early.trans (statusOnly_ite ((tell _ true).trans (by rfl)) (by rfl))

/-- A write of nobody's: neither counted for migration nor told to anyone. -/
theorem statusOnly_homeWrite (s : State) (die line : Nat) (data : List (Nat × Byte)) (now : Option Nat) (pushes : List Nat) :
    StatusOnly s (s.homeWrite die line data .none now pushes) := by
  simp only [State.homeWrite, AckTo.counts, Bool.and_false, Bool.false_eq_true, if_false]
  refine StatusOnly.trans ?_ (statusOnly_ackStep _ _)
  refine StatusOnly.trans ?_ (statusOnly_sendPushes _ _ _ _)
  refine StatusOnly.trans ?_ (statusOnly_sendUpdates _ _ _ _ _ _)
  refine StatusOnly.trans (statusOnly_putBytes s line data) ?_
  split <;> rfl

theorem statusOnly_setStatus (s : State) (n : Nat) (f : NodeStatus → NodeStatus) : StatusOnly s (s.setStatus n f) := by
  unfold State.setStatus
  cases s.graph with
  | none => rfl
  | some g =>
    dsimp only
    split
    · rfl
    · exact StatusOnly.trans (by rfl) (statusOnly_homeWrite _ _ _ _ _ _)

theorem statusOnly_drainNodes (s : State) (ns : List Nat) : StatusOnly s (s.drainNodes ns) := by
  induction ns generalizing s with
  | nil => rfl
  | cons n rest ih => exact StatusOnly.trans (statusOnly_setStatus _ _ _) (ih _)

theorem statusOnly_drainCheck (s : State) : StatusOnly s s.drainCheck := by
  unfold State.drainCheck
  cases s.graph with
  | none => rfl
  | some g =>
    dsimp only
    split
    · exact statusOnly_drainNodes _ _
    · rfl

end Sys2Proof.Machine
end

section
/-! The timers of a wave, its posted traps, and its end (02 R20, R28, R35, R47; 07 R176; 17 R387, R390, R391, R404). -/
namespace Sys2Proof.Machine
open Sys2Proof.Claims

/-! ## The timers: sleep, yield and starvation -/

/-- A sleep that is over at a TIMEN is gone, any other stands (17 R404). -/
def sleepLeft (till : Option Nat) (timen : Nat) : Option Nat :=
  match till with
  | some x => if x ≤ timen then none else some x
  | none => none

theorem sleepEnd_lead (timen : Nat) (w : Wave) :
    sleepEnd .lead timen w = { w with sleepLead := sleepLeft w.sleepLead timen } := by
  cases h : w.sleepLead with
  | none => simp [sleepEnd, sleepLeft, h]; rw [← h]
  | some x => by_cases hx : x ≤ timen <;> simp [sleepEnd, sleepLeft, h, hx]; rw [← h]

theorem sleepEnd_lane (timen : Nat) (w : Wave) :
    sleepEnd .lane timen w = { w with sleepLane := sleepLeft w.sleepLane timen } := by
  cases h : w.sleepLane with
  | none => simp [sleepEnd, sleepLeft, h]; rw [← h]
  | some x => by_cases hx : x ≤ timen <;> simp [sleepEnd, sleepLeft, h, hx]; rw [← h]

theorem yieldEnd_lead (cycle : Nat) (w : Wave) : yieldEnd .lead cycle w = { w with
    yieldLead := if w.yieldLead = 1 then 0 else w.yieldLead, ageLead := if w.yieldLead = 1 then cycle else w.ageLead } := by
  by_cases h : w.yieldLead = 1 <;> simp [yieldEnd, h]

theorem yieldEnd_lane (cycle : Nat) (w : Wave) : yieldEnd .lane cycle w = { w with
    yieldLane := if w.yieldLane = 1 then 0 else w.yieldLane, ageLane := if w.yieldLane = 1 then cycle else w.ageLane } := by
  by_cases h : w.yieldLane = 1 <;> simp [yieldEnd, h]

theorem promoteStep_eq (cls limit c slot : Nat) (s : State) : promoteStep cls limit c slot s =
    s.modWave c slot (fun w =>
      if w.mgmt = false ∧ w.pcls % 4 = cls ∧ w.starve ≥ limit then { w with promoted := true } else w) := by
  simp [promoteStep, and_assoc]

/-! ## Faults posted at the next instruction of a stream -/

theorem faultAt_of_peek {s s' : State} {c slot : Nat} {st : Stream} {i : Instr} {ws : List Word}
    (h : s.peek c slot st = some (s', i, ws)) (cause detail : Nat) :
    s.faultAt c slot st cause detail = s.postTrap c slot
      { cause := cause, st := st, deferred := false, flanes := s'.peekLanes i ws, taddr := 0
        tinfo := tinfoHead i.word0 + detail } := by
  simp [State.faultAt, h]

theorem couplingDeadlockStep_of {s : State} {c slot : Nat} {w : Wave} {st : Stream} {d : Nat}
    (hw : s.wave? c slot = some w) (hd : s.deadlockOf w = some (st, d)) : couplingDeadlockStep c slot s =
      if w.deadlock ≥ 16 then
        (s.modWave c slot (fun w => { w with deadlock := 0 })).faultAt c slot st causeDeadlock d
      else s := by
  simp [couplingDeadlockStep, hw, hd]

theorem waitLimitStep_of {s : State} {c slot : Nat} {w : Wave} {p : Park} {st : Stream} {d : Nat}
    (hw : s.wave? c slot = some w) (hp : w.status = .parked p) (hl : p.limited = some (st, d)) : waitLimitStep c slot s =
      if bit (s.vector w causeLimit) 0 = true ∧ w.parkCount ≥ 2 ^ 20 ∧ w.stopped = false then
        let u := ((s.unwait c slot).modWave c slot (fun w => { w with status := .running, parkCount := 0 })).faultAt c slot st
          causeLimit (d <<< 11)
        u.serveClaims w.key c (u.claims w.key c)
      else s := by
  simp [waitLimitStep, hw, hp, hl, and_assoc]

/-- Settles O35: each timer step is its lemma above. -/
theorem waveTimers : Obligations.WaveTimers := by
  refine ⟨fun c slot s => ⟨?_, ?_, ?_, ?_⟩, fun c slot s => ⟨?_, ?_⟩, ?_, ?_⟩
  · exact congrArg (fun f => Host.Outcome.next (s.modWave c slot f)) (funext (sleepEnd_lead s.timen))
  · exact congrArg (fun f => Host.Outcome.next (s.modWave c slot f)) (funext (sleepEnd_lane s.timen))
  · exact congrArg (fun f => Host.Outcome.next (s.modWave c slot f)) (funext (yieldEnd_lead (s.cycleOf c)))
  · exact congrArg (fun f => Host.Outcome.next (s.modWave c slot f)) (funext (yieldEnd_lane (s.cycleOf c)))
  · exact congrArg Host.Outcome.next (promoteStep_eq 0 3072 c slot s)
  · exact congrArg Host.Outcome.next (promoteStep_eq 1 61440 c slot s)
  · intro c slot s s' w st d i ws hw hd s0 hp
    refine congrArg Host.Outcome.next ((couplingDeadlockStep_of hw hd).trans ?_)
    rw [faultAt_of_peek hp]
    rfl
  · intro c slot s s' w p st d i ws hw hs hl s0 hp
    refine congrArg Host.Outcome.next ((waitLimitStep_of hw hs hl).trans ?_)
    rw [faultAt_of_peek hp, Nat.shiftLeft_eq]
    rfl

/-! ## Posted traps -/

theorem takeTrap_of_handler {s : State} {t : Trap} (hm : s.w.mgmt = false) (h : s.hasHandler s.w t.cause = true) :
    s.takeTrap t = s.enterHandler t := by
  simp [State.takeTrap, hm, h]

theorem takeTrap_of_noHandler {s : State} {t : Trap} (hm : s.w.mgmt = false) (h : s.hasHandler s.w t.cause = false) :
    s.takeTrap t = s.faultBlock t := by
  simp [State.takeTrap, hm, h]

/-- The posted trap of a wave that is not stopped is taken by the step that its handler asks for, and by no other. -/
theorem trapStep_of {s s' : State} {c slot : Nat} {w : Wave} {t : Trap} (handler : Bool) (hw : s.wave? c slot = some w)
    (ht : w.pendTrap = some t) (hf : s.focus c slot t.st = some s') (hm : s'.w.mgmt = false) (hs : s'.w.stopped = false) :
    trapStep handler c slot s = if s'.hasHandler s'.w t.cause = handler then s'.takeTrap t else s := by
  cases hh : s'.hasHandler s'.w t.cause <;> cases handler <;>
    simp [trapStep, hw, ht, hf, hm, hs, hh, takeTrap_of_handler, takeTrap_of_noHandler]

/-! ## Retirement (02 R20) -/

/-- Only the dies differ. -/
def DiesOnly (s t : State) : Prop := t = { s with dies := t.dies }

theorem DiesOnly.trans {s t u : State} (h : DiesOnly s t) (h' : DiesOnly t u) : DiesOnly s u := by
  unfold DiesOnly at *; rw [h', h]

theorem DiesOnly.waves {s t : State} (h : DiesOnly s t) : t.waves = s.waves := by rw [h]
theorem DiesOnly.blocks {s t : State} (h : DiesOnly s t) : t.blocks = s.blocks := by rw [h]

theorem diesOnly_foldl {α : Type} (l : List α) (f : State → α → State) (hf : ∀ s x, DiesOnly s (f s x)) (s : State) :
    DiesOnly s (l.foldl f s) := by
  induction l generalizing s with
  | nil => rfl
  | cons x xs ih => exact (hf s x).trans (ih _)

theorem diesOnly_giveBack (s : State) (n t : Nat) (dies : List Nat) : DiesOnly s (s.giveBack n t dies) := by
  induction dies generalizing s with
  | nil => rfl
  | cons d rest ih => exact DiesOnly.trans (by rfl) (ih _)

theorem diesOnly_freeCredits (s : State) (die : Nat) (deadline : Bool) (later : Nat) (es : List (Edge × Nat × Nat)) :
    DiesOnly s (s.freeCredits die deadline later es) := by
  induction es generalizing s with
  | nil => rfl
  | cons e rest ih =>
    refine DiesOnly.trans ?_ (ih _)
    split
    · exact diesOnly_foldl _ _ (fun _ _ => by rfl) s
    · exact diesOnly_giveBack _ _ _ _

theorem diesOnly_blockCredits (s : State) (b : Block) : DiesOnly s (s.blockCredits b) := by
  unfold State.blockCredits
  split
  · exact diesOnly_freeCredits _ _ _ _ _
  · rfl

theorem State.dropWaves_blocks (s : State) (k : BKey) : (s.dropWaves k).blocks = s.blocks := by
  unfold State.dropWaves
  dsimp only
  split
  · cases h : s.focus 192 0 .lead with
    | none => rfl
    | some u => exact State.focus_blocks h
  · rfl

/-- No wave of a block stands in a slot once its waves have left. -/
theorem State.key_of_mem_dropWaves {s : State} {k : BKey} {x : Wave} (h : x ∈ (s.dropWaves k).waves) (hm : x.mgmt = false) :
    x.key ≠ k := by
  simp only [State.dropWaves, List.mem_filter] at h
  simpa [hm] using h.2

theorem diesOnly_gridDone (s : State) (b : Block) : DiesOnly s (s.gridDone b) := by
  unfold State.gridDone
  split <;> rfl

/-- A block that leaves the die takes its waves and itself away, and no other block. -/
theorem State.removeBlock_eq (s : State) (b : Block) : (s.removeBlock b).waves = (s.dropWaves b.key).waves
    ∧ (s.removeBlock b).blocks = s.blocks.filter (fun x => x.key != b.key) := by
  unfold State.removeBlock
  dsimp only
  rw [(statusOnly_drainCheck _).waves, (statusOnly_drainCheck _).blocks, (diesOnly_gridDone _ _).waves,
    (diesOnly_gridDone _ _).blocks]
  cases b.desc with
  | none => exact ⟨rfl, by rw [State.dropWaves_blocks]⟩
  | some d => exact ⟨rfl, by rw [State.modCluster_blocks, State.dropWaves_blocks]⟩

theorem State.retireBlock_waves {s : State} {b : Block} {x : Wave} (h : x ∈ (s.retireBlock b).waves) (hm : x.mgmt = false) :
    x.key ≠ b.key := by
  rw [State.retireBlock, (State.removeBlock_eq _ _).1] at h
  exact State.key_of_mem_dropWaves h hm

theorem State.retireBlock_blocks (s : State) (b : Block) :
    (s.retireBlock b).blocks = s.blocks.filter (fun x => x.key != b.key) := by
  rw [State.retireBlock, (State.removeBlock_eq _ _).2, (diesOnly_blockCredits s b).blocks]

/-- A wave as its retirement leaves it. -/
def Wave.retiredNow (w : Wave) : Wave := { w with status := .retired, open_ := MBatch.open0 }

/-- A retired wave's slot and block, before the block's own end. -/
def State.leaveSlot (s : State) (w : Wave) : State :=
  ((s.modCore w.core (fun c => c.countBatch w.open_)).modWave w.core w.slot Wave.retiredNow).modBlock w.key
    (fun b => { b with live := b.live - 1 })

theorem State.leaveSlot_block? {s : State} {w : Wave} {b : Block} (h : s.block? w.key = some b) :
    (s.leaveSlot w).block? w.key = some { b with live := b.live - 1 } := by
  rw [State.leaveSlot, State.block?_modBlock _ _ _ (by simp), State.block?, State.modWave_blocks]
  exact congrArg (Option.map _) h

theorem State.leaveSlot_blocks (s : State) (w : Wave) : (s.leaveSlot w).blocks =
    s.blocks.map (fun x => if x.key = w.key then { x with live := x.live - 1 } else x) := by
  simp [State.leaveSlot]

theorem waveRetireStep_of {s : State} {c slot : Nat} {w : Wave} (hw : s.wave? c slot = some w) (hr : w.mayRetire = true)
    (ht : w.takable = none) : waveRetireStep c slot s = s.retireWave w := by
  simp [waveRetireStep, hw, hr, ht]

theorem State.retireWave_of {s : State} {w : Wave} {b : Block} (hb : s.block? w.key = some b) :
    s.retireWave w = if b.live - 1 = 0 then (s.leaveSlot w).retireBlock { b with live := b.live - 1 } else s.leaveSlot w := by
  unfold State.retireWave
  change (match (s.leaveSlot w).block? w.key with
    | some b => if b.live = 0 then (s.leaveSlot w).retireBlock b else s.leaveSlot w
    | none => s.leaveSlot w) = _
  rw [State.leaveSlot_block? hb]

/-- A wave that is not the last of its block leaves the others where they are. -/
theorem leaveSlot_others (s : State) (w : Wave) (hw : s.wave? w.core w.slot = some w) :
    (s.leaveSlot w).waves.length = s.waves.length ∧ (s.leaveSlot w).wave? w.core w.slot = some w.retiredNow
      ∧ MemKept s (s.leaveSlot w) := by
  refine ⟨by simp [State.leaveSlot], ?_, fun a => by simp [State.leaveSlot]⟩
  have h := (s.modCore w.core (fun c => c.countBatch w.open_)).wave?_modWave w.core w.slot Wave.retiredNow
    (by simp [Wave.retiredNow]) (by simp [Wave.retiredNow])
  exact h.trans (congrArg (Option.map _) hw)

/-- The blocks but those of a key, whatever a change of those was. -/
theorem filter_key_map (l : List Block) (k : BKey) (f : Block → Block) (hf : ∀ b, (f b).key = b.key) :
    (l.map (fun x => if x.key = k then f x else x)).filter (fun x => x.key != k) = l.filter (fun x => x.key != k) := by
  induction l with
  | nil => rfl
  | cons x xs ih => by_cases hx : x.key = k <;> simp [hx, hf, ih]

/-- Settles O36: a posted trap by `trapStep_of`, an end of a wave by `retireWave_of`. -/
theorem trapsTakenAndWavesRetire : Obligations.TrapsTakenAndWavesRetire := by
  refine ⟨fun c slot s s' w t hw ht hf hm hs => ⟨?_, ?_⟩,
    fun c slot s w b hw hc hsl hr ht hb => ⟨fun hl => ?_, fun hl => ?_⟩⟩
  · exact congrArg Host.Outcome.next (trapStep_of true hw ht hf hm hs)
  · refine congrArg Host.Outcome.next ((trapStep_of false hw ht hf hm hs).trans ?_)
    cases s'.hasHandler s'.w t.cause <;> rfl
  · subst hc hsl
    have hlive : b.live - 1 ≠ 0 := by omega
    obtain ⟨hlen, hwave, hmem⟩ := leaveSlot_others s w hw
    refine ⟨s.leaveSlot w, congrArg Host.Outcome.next ?_, hlen, hwave, State.leaveSlot_blocks s w, hmem⟩
    rw [waveRetireStep_of hw hr ht, State.retireWave_of hb, if_neg hlive]
  · have hlive : b.live - 1 = 0 := by omega
    have hkey : b.key = w.key := State.key_of_block? hb
    refine ⟨(s.leaveSlot w).retireBlock { b with live := b.live - 1 }, congrArg Host.Outcome.next ?_, ?_, ?_⟩
    · rw [waveRetireStep_of hw hr ht, State.retireWave_of hb, if_pos hlive]
    · rw [State.retireBlock_blocks, State.leaveSlot_blocks]
      simp only [hkey]
      exact filter_key_map _ _ _ (fun _ => rfl)
    · intro x hx hm
      exact hkey ▸ State.retireBlock_waves hx hm

end Sys2Proof.Machine
end

section
/-! Batches: closing, admission, credits and the split of a range (13 R288, R290 to R292, R296, R297; 02 R39, R45). -/
namespace Sys2Proof.Machine
open Sys2Proof.Claims

/-! ## Closing a batch of records (13 R290, R291) -/

/-- The entries that formation marks are the first that it may take. -/
theorem filter_markEntries (id : Nat) (l : List QEntry) (k : Nat) (h : ∀ e ∈ l, e.batch ≠ some id) :
    (markEntries id l k).1.filter (fun e => e.batch == some id)
      = ((l.filter QEntry.open?).take k).map (fun e => { e with batch := some id }) := by
  induction l generalizing k with
  | nil => cases k <;> rfl
  | cons e rest ih =>
    have hrest := fun k => ih k (fun x hx => h x (List.mem_cons_of_mem _ hx))
    have he : (e.batch == some id) = false := by simpa using h e List.mem_cons_self
    cases k with
    | zero =>
      simpa [markEntries] using h
    | succ k =>
      by_cases ho : e.open? = true
      · simp [markEntries, ho, hrest]
      · rw [List.filter_cons_of_neg ho, ← hrest]
        rw [markEntries, if_neg ho]
        dsimp only
        split
        · rfl
        · rw [List.filter_cons_of_neg (by simp [he])]

/-- Formation from entries that it may all take passes just those that it marks. -/
theorem markEntries_count (id : Nat) (l : List QEntry) (k : Nat) (h : ∀ e ∈ l, e.open? = true) (hk : k ≤ l.length) :
    (markEntries id l k).2 = k := by
  induction l generalizing k with
  | nil => cases k <;> simp_all [markEntries]
  | cons e rest ih =>
    cases k with
    | zero => rfl
    | succ k =>
      have he := h e List.mem_cons_self
      simp [markEntries, he, ih k (fun x hx => h x (List.mem_cons_of_mem _ hx)) (by simpa using hk)]

theorem deal_counts (k groups unit : Nat) (keys : List BKey) : (deal k groups unit keys).map (fun p => p.2)
    = (List.range keys.length).map (fun i => unit * (k / unit * (i + 1) / groups - k / unit * i / groups)) := by
  simp only [deal, List.map_map, List.range_eq_range', ← List.zipIdx_map_snd 0 keys]
  rfl

theorem newKeys_length {s : State} {node cnt : Nat} {n : Node} (h : s.node? node = some n) :
    (s.newKeys node cnt).2.length = cnt := by
  unfold State.newKeys
  cases hg : s.graph with
  | none => simp [State.node?, hg] at h
  | some g => simp

/-- Numbering blocks changes the scheduler's copy of the graph alone. -/
theorem newKeys_eq (s : State) (node cnt : Nat) :
    ∃ g, s.newKeys node cnt = ({ s with graph := g }, (s.newKeys node cnt).2) := by
  unfold State.newKeys
  cases s.graph with
  | none => exact ⟨s.graph, rfl⟩
  | some g => exact ⟨_, rfl⟩

/-- Records come in quads where a rasteriser feeds the queue (13 R309). -/
def State.quad (s : State) (node : Nat) : Nat := if s.rasterFed node then 4 else 1

/-- The batch that the first r records of a queue that formation may take close as. -/
def State.closedBatch (s : State) (node : Nat) (n : Node) (q : Queue) (r : Nat) : Batch :=
  { id := s.nextId, node := node, parts := deal r n.group (s.quad node) (s.newKeys node n.group).2, r := r
    depth := maxDepth (q.avail.take r), admitted := false, since := s.cycle
    seq := match q.avail.take r with | e :: _ => e.seq | [] => 0 }

theorem closeRecords_none {s : State} {die node k : Nat} {n : Node} (h : k / s.quad node * s.quad node = 0) :
    s.closeRecords die node n k = s :=
  if_pos h

theorem closeRecords_some {s : State} {die node k : Nat} {n : Node} {q : Queue} (hq : s.queue? die node = some q)
    (h : k / s.quad node * s.quad node ≠ 0) : ∃ g, s.closeRecords die node n k =
      ((({ s with graph := g, nextId := s.nextId + 1 } : State).modQueue die node
        (Queue.form s.nextId (k / s.quad node * s.quad node))).modDie die (fun d =>
          { d with batches := d.batches ++ [s.closedBatch node n q (k / s.quad node * s.quad node)] })) := by
  obtain ⟨g, hk⟩ := newKeys_eq s node n.group
  refine ⟨g, ?_⟩
  simp only [State.closeRecords]
  rw [if_neg (by exact h), hq, hk]
  rfl

/-- What a state is after the first r records of a queue that formation may take have closed as the batch b. -/
def ClosedAs (s t : State) (die node : Nat) (n : Node) (q : Queue) (r : Nat) (b : Batch) : Prop :=
  MemKept s t ∧ (t.die die).batches = (s.die die).batches ++ [b] ∧ b.node = node ∧ b.r = r ∧ b.admitted = false
    ∧ b.since = s.cycle
    ∧ b.parts.map (fun p => p.2) = (List.range n.group).map (fun i =>
        s.quad node * (b.r / s.quad node * (i + 1) / n.group - b.r / s.quad node * i / n.group))
    ∧ b.depth = maxDepth (q.avail.take b.r)
    ∧ t.batchRecs die b = (q.avail.take b.r).map (fun e => { e with batch := some b.id })
    ∧ ((∀ e ∈ q.entries, e.open? = true) →
        ∃ q', t.queue? die node = some q' ∧ q'.qhead = (q.qhead + b.r) % 2 ^ 32 ∧ q'.qtail = q.qtail)

theorem closeRecords_closedAs {s : State} {die node k : Nat} {n : Node} {q : Queue} (hd : die < s.dies.length)
    (hn : s.node? node = some n) (hq : s.queue? die node = some q) (hfresh : ∀ e ∈ q.entries, e.batch ≠ some s.nextId)
    (hk : k ≤ q.avail.length) (h : k / s.quad node * s.quad node ≠ 0) :
    ClosedAs s (s.closeRecords die node n k) die node n q (k / s.quad node * s.quad node)
      (s.closedBatch node n q (k / s.quad node * s.quad node)) := by
  obtain ⟨g, ht⟩ := closeRecords_some (n := n) hq h
  have hr : k / s.quad node * s.quad node ≤ q.avail.length := (Nat.div_mul_le_self _ _).trans hk
  generalize k / s.quad node * s.quad node = r at *
  generalize s.closeRecords die node n k = t at *
  have hqueue : t.queue? die node = some (q.form s.nextId r) := by
    rw [ht, State.queue?_modDie_of_queues, State.queue?_modQueue_self]
    · exact congrArg (Option.map _) hq
    · exact hd
    · exact fun _ => rfl
    · exact fun _ => rfl
  refine ⟨fun a => by rw [ht]; rfl, ?_, rfl, rfl, rfl, rfl, ?_, rfl, ?_, fun ho => ⟨_, hqueue, ?_, rfl⟩⟩
  · rw [ht, State.modQueue, State.die_modDie_self, State.die_modDie_self]
    · rfl
    · exact hd
    · simpa using hd
  · rw [State.closedBatch, deal_counts, newKeys_length hn]
  · rw [State.batchRecs, State.entries, State.closedBatch, hqueue]
    exact filter_markEntries s.nextId q.entries r hfresh
  · have hall : q.avail = q.entries := List.filter_eq_self.mpr ho
    rw [Queue.form, markEntries_count _ _ _ ho (hall ▸ hr)]
    rfl

/-- A node of records closes at most its largest batch, or as much of its group (13 R290, 02 R45). -/
theorem closeNow_shader {s : State} {die node : Nat} {n : Node} {q : Queue} (hn : n.kind = kindShader)
    (hs : s.storeOf die node = []) (hq : s.queue? die node = some q) :
    s.closeNow die node n = s.closeRecords die node n (min q.avail.length (n.batchMax * n.group)) := by
  simp [State.closeNow, hn, kindShader, kindDispatch, kindRange, State.available, hs, hq]

theorem closeNow_closes {s : State} {die node : Nat} {n : Node} {q : Queue} (hd : die < s.dies.length)
    (hn : s.node? node = some n) (hk : n.kind = kindShader) (hs : s.storeOf die node = []) (hq : s.queue? die node = some q)
    (hfresh : ∀ e ∈ q.entries, e.batch ≠ some s.nextId) :
    let r := min q.avail.length (n.batchMax * n.group) / s.quad node * s.quad node
    if r = 0 then s.closeNow die node n = s else ∃ b, ClosedAs s (s.closeNow die node n) die node n q r b := by
  intro r
  rw [closeNow_shader hk hs hq]
  split
  · next h => exact closeRecords_none h
  · next h => exact ⟨_, closeRecords_closedAs hd hn hq hfresh (Nat.min_le_left _ _) h⟩

/-- A step that closes a batch now, where it closes one. -/
theorem closes_of_step {s : State} {i : Instr} {die node r : Nat} {n : Node} {q : Queue}
    (hi : Steps i s (s.closeNow die node n))
    (h : if r = 0 then s.closeNow die node n = s else ∃ b, ClosedAs s (s.closeNow die node n) die node n q r b) :
    if r = 0 then Steps i s s else ∃ t b, Steps i s t ∧ ClosedAs s t die node n q r b := by
  split at h
  · next hr => rw [if_pos hr]; rwa [h] at hi
  · next hr => rw [if_neg hr]; exact ⟨_, h.choose, hi, h.choose_spec⟩

theorem step_of {i : Instr} {s t u : State} (h : exec i s = .next t) (ht : t = u) : Steps i s u := ht ▸ h

theorem batchCloseStep_of {s : State} {die node : Nat} {n : Node} {q : Queue} (hn : s.node? node = some n)
    (hk : n.kind = kindShader) (hrec : n.recsz ≠ 0) (hs : s.storeOf die node = []) (hq : s.queue? die node = some q)
    (hne : q.avail ≠ []) (h : n.deadline = true ∨ q.avail.length ≥ n.minfill * n.group
      ∨ q.avail.length ≥ n.batchMax * n.group ∨ s.noProducers node = true) :
    batchCloseStep die node s = s.closeNow die node n := by
  have hpos : q.avail.length > 0 := List.length_pos_iff.mpr hne
  have ha : s.available die node = q.avail.length := by simp [State.available, hs, hq]
  have hf : n.forms = true := by simp [Node.forms, hk, hrec]
  have hkd : n.kind ≠ kindDispatch := by rw [hk]; decide
  simp only [batchCloseStep, hn, ha, hf, if_neg hkd]
  rw [if_pos]
  rcases h with h | h | h | h <;> simp [hpos, h]

theorem batchMaxwaitStep_of {s : State} {die node t0 : Nat} {n : Node} (hn : s.node? node = some n)
    (hk : n.kind = kindShader) (hrec : n.recsz ≠ 0) (ht : s.oldestSince die node = some t0) (h : s.cycle ≥ t0 + n.waitMax) :
    batchMaxwaitStep die node s = s.closeNow die node n := by
  have hf : n.forms = true := by simp [Node.forms, hk, hrec]
  simp [batchMaxwaitStep, hn, ht, hf, h]

/-! ## Admission (13 R292, R294, R297, R304) -/

/-- A batch of the current, running graph whose code stands, which neither yields nor is held by the tile order. -/
def State.mayAdmit (s : State) (die : Nat) (b : Batch) (n : Node) : Prop :=
  b.admitted = false ∧ s.revoked b.node = false ∧ s.yieldsTo die b = false
    ∧ (s.tileOrdered n b.node = true → s.tileHeld die b = false)

theorem State.admitted_of {s : State} {die : Nat} {b : Batch} {g : Graph} {n : Node} (hg : s.graph = some g)
    (hn : s.node? b.node = some n) (hr : g.running = true) (h : s.mayAdmit die b n) :
    s.admitted die b =
      if n.deadline = false ∧ s.takerStands die n b.node = true then none
      else (if n.deadline then some s else s.takeCredits die b.r n.edges).map (fun u =>
        u.modBatch die b.id (fun b => { b with admitted := true, since := s.cycle })) := by
  obtain ⟨hb, hrev, -, ht⟩ := h
  have htile : (s.tileOrdered n b.node && s.tileHeld die b) = false := by
    cases hto : s.tileOrdered n b.node <;> simp_all
  simp only [State.admitted, hg, hn, hb, hr, hrev, htile]
  cases n.deadline <;> cases s.takerStands die n b.node <;> rfl

theorem batchAdmitStep_of {s : State} {i die : Nat} {b : Batch} (hb : s.allBatches[i]? = some (die, b))
    (hy : s.yieldsTo die b = false) : batchAdmitStep i s = (s.admitted die b).getD s := by
  simp [batchAdmitStep, hb, hy]

theorem State.resv_natCast (s : State) (die node k : Nat) :
    s.resv die node k = s.modQueue die node (fun q => { q with qresv := q.qresv + k }) := by
  have h (x : Nat) : ((x : Int) + k).toNat = x + k := by omega
  simp only [State.resv, h]

/-- The credits of one edge into one queue are what its free capacity covers (13 R292). -/
theorem takeCredits_one {s : State} {die r d : Nat} {e : Edge} {q : Queue} (hd : s.reserveDies die e.target = [d])
    (hq : s.queue? d e.target = some q) : s.takeCredits die r [e] =
      if ((r * e.fanout : Nat) : Int) ≤ q.free then
        some (s.modQueue d e.target (fun x => { x with qresv := x.qresv + r * e.fanout })) else none := by
  simp only [State.takeCredits, hd, State.reserveEdge, hq, State.resv_natCast]
  by_cases h : ((r * e.fanout : Nat) : Int) ≤ q.free
  · simp only [if_pos h]
  · simp only [if_neg h]

/-! ## The split of a range (02 R39; 13 R288) -/

theorem minBy_mem {β : Type} {key : β → Nat} {l : List β} {x : β} (h : minBy key l = some x) : x ∈ l := by
  induction l generalizing x with
  | nil => simp [minBy] at h
  | cons y ys ih =>
    rw [minBy] at h
    cases hm : minBy key ys with
    | none => simp_all
    | some z =>
      have hz := List.mem_cons_of_mem y (ih hm)
      rw [hm] at h
      dsimp only at h
      split at h <;> simp_all

/-- The descriptor that a split takes is one of the cluster's. -/
theorem Cluster.longest_lt {c : Cluster} {d : RDesc} {i : Nat} (h : c.longest = some (d, i)) : i < c.descs.length := by
  have hm := List.mem_of_mem_filter (minBy_mem h)
  simpa using (List.mem_zipIdx hm).2.1

theorem State.split_of {s : State} {g i : Nat} {x : RDesc} (h : (s.cluster g).longest = some (x, i))
    (hm : x.next + x.grain * ((x.hi - x.next) / (2 * x.grain)) ≠ x.next) : s.split g =
      let mid := x.next + x.grain * ((x.hi - x.next) / (2 * x.grain))
      (s.modCluster g (fun c => { c with descs := setAt c.descs i { x with hi := mid } })).headInsert (g / 12) x.node
        (leBytes mid 8 ++ leBytes x.hi 8 ++ leBytes x.grain 4 ++ leBytes 0 12) x.depth x.family g := by
  rw [State.split, h]
  exact if_neg hm

/-- The entry that a head insertion makes: its SEQ stands before that of the first entry of no formed batch. -/
def State.headEntry (s : State) (die : Nat) (q : Queue) (bytes : List Byte) (depth family cluster : Nat) : QEntry :=
  { seq := match q.entries.dropWhile (fun e => e.batch.isSome) with
      | e :: _ => (e.seq + 2 ^ 32 - 1) % 2 ^ 32
      | [] => ((s.die die).seq + (if q.entries.takeWhile (fun e => e.batch.isSome) = [] then 0 else 2 ^ 32 - 1)) % 2 ^ 32
    depth := depth, family := family, cmark := true, cluster := cluster, void := false, sideb := [], bytes := bytes
    since := s.cycle, batch := none, spilled := false }

/-- A queue with an entry at its head, behind the entries of batches already formed (13 R285, R288). -/
def Queue.withHead (q : Queue) (e : QEntry) : Queue :=
  { q with
    qhead := (q.qhead + 2 ^ 32 - 1) % 2 ^ 32
    entries := q.entries.takeWhile (fun x => x.batch.isSome) ++ e :: q.entries.dropWhile (fun x => x.batch.isSome) }

theorem Queue.withHead_node (q : Queue) (e : QEntry) : (q.withHead e).node = q.node := by
  rw [Queue.withHead]

theorem headInsert_eq (s : State) (die node : Nat) (bytes : List Byte) (depth family cluster : Nat) :
    s.headInsert die node bytes depth family cluster =
      (s.modQueue die node (fun q => q.withHead (s.headEntry die q bytes depth family cluster))).setStatus node
        (fun x => { x with put := (x.put + 1) % 2 ^ 64 }) := rfl

theorem StatusOnly.queue? {s t : State} (h : StatusOnly s t) (die node : Nat) : t.queue? die node = s.queue? die node := by
  simp only [State.queue?, State.die, h.dies]

theorem headInsert_queue? {s : State} {die node : Nat} {q : Queue} (bytes : List Byte) (depth family cluster : Nat)
    (hd : die < s.dies.length) (hq : s.queue? die node = some q) :
    (s.headInsert die node bytes depth family cluster).queue? die node
      = some (q.withHead (s.headEntry die q bytes depth family cluster)) := by
  have h := State.queue?_modQueue_self s die node (fun q => q.withHead (s.headEntry die q bytes depth family cluster)) hd
    (fun q => q.withHead_node _)
  rw [hq, Option.map_some] at h
  rw [headInsert_eq, (statusOnly_setStatus _ _ _).queue?]
  exact h

theorem headInsert_inserts {s : State} {die node : Nat} {q : Queue} (bytes : List Byte) (depth family cluster : Nat)
    (hd : die < s.dies.length) (hq : s.queue? die node = some q) :
    ∃ q' e, (s.headInsert die node bytes depth family cluster).queue? die node = some q'
      ∧ q'.entries = q.entries.takeWhile (fun x => x.batch.isSome) ++ e :: q.entries.dropWhile (fun x => x.batch.isSome)
      ∧ q'.qhead = (q.qhead + 2 ^ 32 - 1) % 2 ^ 32 ∧ e.bytes = bytes ∧ e.cluster = cluster ∧ e.family = family
      ∧ e.depth = depth ∧ e.cmark = true ∧ e.void = false ∧ e.batch = none := by
  refine ⟨q.withHead (s.headEntry die q bytes depth family cluster), s.headEntry die q bytes depth family cluster,
    headInsert_queue? bytes depth family cluster hd hq, ?_⟩
  simp only [Queue.withHead, State.headEntry, and_self]

theorem headInsert_clusters (s : State) (die node : Nat) (bytes : List Byte) (depth family cluster : Nat) :
    (s.headInsert die node bytes depth family cluster).clusters = s.clusters := by
  rw [State.headInsert, (statusOnly_setStatus _ _ _).clusters]
  rfl

theorem setAt_getD {β : Type} (l : List β) (i : Nat) (v d : β) (h : i < l.length) : (setAt l i v).getD i d = v := by
  simp [setAt_eq_set, List.getD_eq_getElem?_getD, h]

/-- The descriptor that a split shortens. -/
theorem split_desc {s : State} {g i : Nat} {x : RDesc} (h : (s.cluster g).longest = some (x, i)) (hg : g < s.clusters.length)
    (hm : x.next + x.grain * ((x.hi - x.next) / (2 * x.grain)) ≠ x.next) :
    (((s.split g).cluster g).descs.getD i RDesc.empty)
      = { x with hi := x.next + x.grain * ((x.hi - x.next) / (2 * x.grain)) } := by
  rw [State.split_of h hm]
  simp only [State.cluster, headInsert_clusters, State.modCluster_clusters]
  rw [getD_modAt_self _ _ _ _ hg]
  exact setAt_getD _ _ _ _ (Cluster.longest_lt h)

/-- Settles O42: closing by `closeNow_closes`, admission by `admitted_of`, credits by `takeCredits_one`, the split by
`split_desc` and `headInsert_inserts`. -/
theorem batchesCloseAndAreAdmitted : Obligations.BatchesCloseAndAreAdmitted := by
  refine ⟨?_, ?_, ?_, ?_⟩
  · intro die node s n q hd hn hk hrec hs hq hne _ hfresh
    have hcl := closeNow_closes hd hn hk hs hq hfresh
    refine ⟨fun h => ?_, fun t0 ht h => ?_⟩
    · have hstep := step_of (i := .batchClose die node) rfl (batchCloseStep_of hn hk hrec hs hq hne h)
      exact closes_of_step hstep hcl
    · have hstep := step_of (i := .batchMaxwaitExpiry die node) rfl (batchMaxwaitStep_of hn hk hrec ht h)
      exact closes_of_step hstep hcl
  · intro i die s b g n hb hg hn hnb hr hrev hy ht
    have hmay : s.mayAdmit die b n := ⟨hnb, hrev, hy, ht⟩
    have hstep := (batchAdmitStep_of hb hy).trans (congrArg (·.getD s) (State.admitted_of hg hn hr hmay))
    refine ⟨fun hdl => ?_, fun hdl hst => ?_, fun hdl hst => ?_⟩
    · exact congrArg Host.Outcome.next (hstep.trans (by simp [hdl]))
    · refine congrArg Host.Outcome.next (hstep.trans ?_)
      simp only [hdl, hst]
      cases s.takeCredits die b.r n.edges <;> rfl
    · exact congrArg Host.Outcome.next (hstep.trans (by simp [hdl, hst]))
  · intro s die r d e q hd hq
    exact takeCredits_one hd hq
  · intro c s x i q g mid hc ha hs hb hl hg hd hq hm
    have hstep : Steps (.workRequest c) s (s.split g) := by
      refine congrArg Host.Outcome.next (if_pos ?_)
      simp [hc, ha, hs, hb, g]
    obtain ⟨q', e, hq', hentry⟩ := headInsert_inserts (leBytes mid 8 ++ leBytes x.hi 8 ++ leBytes x.grain 4 ++ leBytes 0 12)
      x.depth x.family g (s := s.modCluster g (fun c => { c with descs := setAt c.descs i { x with hi := mid } })) hd hq
    exact ⟨s.split g, q', e, hstep, split_desc hl hg hm, by rw [State.split_of hl hm]; exact hq', hentry⟩

end Sys2Proof.Machine
end

section
/-! Blocks placed, stopped, started, saved and restored (02 R37, R48; 04 R95; 15 R352; 17 R394 to R396). -/
namespace Sys2Proof.Machine
open Sys2Proof.Claims

/-! ## Blocks and waves that a step leaves -/

/-- No block and no wave comes, goes or changes. -/
def ResidentKept (s t : State) : Prop := t.waves = s.waves ∧ t.blocks = s.blocks

theorem ResidentKept.refl (s : State) : ResidentKept s s := ⟨rfl, rfl⟩

theorem ResidentKept.trans {s t u : State} (h : ResidentKept s t) (h' : ResidentKept t u) : ResidentKept s u :=
  ⟨h'.1.trans h.1, h'.2.trans h.2⟩

theorem residentKept_nextPush (s : State) (id core : Nat) (lines : List Nat) : ResidentKept s (s.nextPush id core lines) := by
  induction lines with
  | nil => exact .refl s
  | cons l rest ih =>
    rw [State.nextPush]
    split
    · exact ih
    · exact ⟨(statusOnly_sendPushes s l id [core]).waves, (statusOnly_sendPushes s l id [core]).blocks⟩

theorem residentKept_handOff (s : State) (core : Nat) (es : List QEntry) : ResidentKept s (s.handOff core es) := by
  unfold State.handOff
  dsimp only
  split
  · exact .refl s
  · exact residentKept_nextPush { s with nextId := s.nextId + 1 } _ _ _

theorem residentKept_handOffs (s : State) (n : Node) (recs : List QEntry) (q : Nat) (cores : List (Nat × Nat)) :
    ResidentKept s (s.handOffs n recs q cores) := by
  induction cores generalizing s with
  | nil => exact .refl s
  | cons c rest ih => exact (residentKept_handOff _ _ _).trans (ih _)

/-! ## Placing (02 R18, R19) -/

theorem insertWave_length (w : Wave) (l : List Wave) : (insertWave w l).length = l.length + 1 := by
  induction l with
  | nil => rfl
  | cons x rest ih =>
    rw [insertWave]
    split
    · rfl
    · simp [ih]

/-- Each wave placed is one more, whatever its window and its sidebands do. -/
theorem placeWaves_resident (s : State) (key : BKey) (n : Node) (span : List Nat) (recs : List QEntry) (idxs : List Nat) :
    (s.placeWaves key n span recs idxs).waves.length = s.waves.length + idxs.length
      ∧ (s.placeWaves key n span recs idxs).blocks = s.blocks := by
  induction idxs generalizing s with
  | nil => exact ⟨rfl, rfl⟩
  | cons i rest ih =>
    rw [State.placeWaves]
    refine ⟨(ih _).1.trans ?_, (ih _).2.trans ?_⟩
    · have hlen (w : Wave) : (insertWave w s.waves).length + rest.length = s.waves.length + (i :: rest).length := by
        rw [insertWave_length, List.length_cons]
        omega
      split <;> exact hlen _
    · split <;> rfl

/-- A block's waves placed and its sidebands handed off (13 R293). -/
theorem placed_resident (s : State) (key : BKey) (n : Node) (span : List Nat) (recs : List QEntry) (q : Nat) :
    let u := (s.placeWaves key n span recs (List.range n.waves)).handOffs n recs q span.zipIdx
    u.waves.length = s.waves.length + n.waves ∧ u.blocks = s.blocks := by
  obtain ⟨hwaves, hblocks⟩ := residentKept_handOffs (s.placeWaves key n span recs (List.range n.waves)) n recs q span.zipIdx
  obtain ⟨hlen, hkept⟩ := placeWaves_resident s key n span recs (List.range n.waves)
  rw [List.length_range] at hlen
  exact ⟨(congrArg List.length hwaves).trans hlen, hblocks.trans hkept⟩

theorem seg_cores (n : Node) (k : Nat) (span : List Nat) :
    (span.zipIdx.map (fun p => n.seg p.1 (n.wavesOn k p.2))).map (fun g => g.core) = span := by
  rw [List.map_map]
  exact List.zipIdx_map_fst 0 span

/-! ## Steps of a placement -/

theorem blockReserveStep_of {i die : Nat} {s u : State} {b : Batch} {n : Node} (hb : s.allBatches[i]? = some (die, b))
    (hn : s.node? b.node = some n) (hnext : s.nextBatch die = some b) (hp : s.placeBatch die b = some u)
    (hk : n.kind ≠ kindRange) : blockReserveStep i s = u.drainCheck := by
  simp [blockReserveStep, hb, hn, hnext, hp, hk]

theorem rangeRecordBindStep_of {die : Nat} {s u : State} {b : Batch} {n : Node} (hn : s.node? b.node = some n)
    (hnext : s.nextBatch die = some b) (hp : s.placeBatch die b = some u) (hk : n.kind = kindRange) :
    rangeRecordBindStep die b.node s = u.drainCheck := by
  simp [rangeRecordBindStep, hn, hnext, hp, hk]

theorem reservationWaitStep_of {i die : Nat} {s : State} {b : Batch} {n : Node} {x : Block}
    (hb : s.allBatches[i]? = some (die, b)) (hn : s.node? b.node = some n) (hc : n.cls = 0) (ha : b.admitted = true)
    (ht : s.cycle ≥ b.since + 65536) (hp : s.placeBatch die b = none)
    (hs : ∀ y ∈ s.blocks, y.die = die → ∀ f p, y.status ≠ .saving f p) (hx : s.weakBlock die = some x) :
    reservationWaitStep i s = s.stopBlock x.key false none := by
  have hdue : s.dueC b = true := by simp [State.dueC, hn, hc, ha, ht]
  have hnosave : ∀ y ∈ s.blocks,
      ¬ (y.die == die && (match y.status with | .saving _ _ => true | _ => false)) = true := by
    intro y hy h
    obtain ⟨hd, hst⟩ := Bool.and_eq_true_iff.mp h
    split at hst
    · next f p he => exact hs y hy (beq_iff_eq.mp hd) f p he
    · cases hst
  have hsave := List.any_eq_false.mpr hnosave
  have hgo : (s.dueC b && !false && (s.placeBatch die b).isNone) = true := by rw [hdue, hp]; rfl
  simp only [reservationWaitStep, hb]
  refine (congrArg (fun x => if (s.dueC b && !x && (s.placeBatch die b).isNone) = true then _ else s) hsave).trans ?_
  rw [if_pos hgo, hx]

/-! ## Saving -/

/-- A block written to its image, in its place or where the save pool of its die has room for it (17 R394; 15 R341). -/
def State.saveBlock (s : State) (b : Block) (n : Node) (f : Bool) (place : Option Nat) : State :=
  let bs := { b with saved := (s.wavesOf b.key).map (s.savedWave n) }.image n.hdr.scratch n.hdr.tiles (s.descBytes b)
  let size := 4096 * ceilDiv bs.length 4096
  match place with
  | some a => s.writeImage b n f a bs
  | none =>
    match poolPlace (s.layout b.die) (s.die b.die).pool size with
    | some a => (s.modDie b.die (fun d => { d with pool := d.pool ++ [(a, size)] })).writeImage b n f a bs
    | none => s

theorem blockSaveStep_eq {i : Nat} {s : State} {b : Block} {n : Node} {f : Bool} {place : Option Nat}
    (hb : s.blocks[i]? = some b) (hst : b.status = .saving f place) (hn : s.node? b.key.node = some n) :
    let s1 := (s.leaveWaits (s.wavesOf b.key)).abandon b.key (b.segs.map (fun g => g.core))
    let b1 := (s1.block? b.key).getD b
    blockSaveStep i s = if s1.cores.any (fun c => c.fifo.any (fun e => decide (e.key = b1.key)))
      || !(s1.wavesOf b1.key).all (fun w => w.savable b1.abandoned) then s1 else s1.saveBlock b1 n f place := by
  simp only [blockSaveStep, hb, hst, hn]
  rfl

theorem blockSaveStep_of {i : Nat} {s : State} {b b1 : Block} {n : Node} {f : Bool} {place : Option Nat}
    (hb : s.blocks[i]? = some b) (hst : b.status = .saving f place) (hn : s.node? b.key.node = some n) :
    let s1 := (s.leaveWaits (s.wavesOf b.key)).abandon b.key (b.segs.map (fun g => g.core))
    s1.block? b.key = some b1 → (∀ c ∈ s1.cores, ∀ e ∈ c.fifo, e.key ≠ b.key) →
    (∀ w ∈ s1.wavesOf b.key, w.savable b1.abandoned = true) → blockSaveStep i s = s1.saveBlock b1 n f place := by
  intro s1 hb1 hbusy hsav
  have hkey : b1.key = b.key := State.key_of_block? hb1
  have hidle : s1.cores.any (fun c => c.fifo.any (fun e => decide (e.key = b.key))) = false := by
    simpa using hbusy
  have hall : (s1.wavesOf b.key).all (fun w => w.savable b1.abandoned) = true := List.all_eq_true.mpr hsav
  rw [blockSaveStep_eq hb hst hn, show (s1.block? b.key).getD b = b1 by rw [hb1]; rfl, hkey, hidle, hall]
  rfl

/-- A block off its cores: no wave of it stands in a slot, and it keeps its waves as they are saved (04 R105). -/
def SavedAs (t : State) (k : BKey) (f : Bool) (a : Nat) (ws : List Wave) : Prop :=
  (∀ w ∈ t.waves, w.mgmt = false → w.key ≠ k) ∧ ∃ y, t.block? k = some y ∧ y.status = .saved f a
    ∧ y.saved.map (fun x => x.wave) = ws.map (fun w => { w with dirty := [], starve := 0, stopped := true })

/-- A block as its save leaves it. -/
def Block.toSaved (f : Bool) (a : Nat) (ws : List SavedWave) (x : Block) : Block :=
  let noTakes (g : CoreSeg) : CoreSeg := { g with sems := g.sems.map (fun x => { x with takes := [] }) }
  { x with saved := ws, segs := x.segs.map noTakes, status := .saved f a }

theorem writeImage_eq (s : State) (b : Block) (n : Node) (f : Bool) (a : Nat) (bs : List Byte) :
    let s' : State := { s with mem := memWrite s.mem a bs }
    s.writeImage b n f a bs =
      ((s'.dropWaves b.key).modBlock b.key (Block.toSaved f a ((s.wavesOf b.key).map (s'.savedWave n)))).drainCheck := rfl

/-- A block whose waves have left their slots, changed. -/
theorem block?_modBlock_dropWaves {s : State} {k : BKey} {b : Block} (hb : s.block? k = some b) (f : Block → Block)
    (hf : ∀ x, (f x).key = x.key) : ((s.dropWaves k).modBlock k f).drainCheck.block? k = some (f b) := by
  have hdrop : (s.dropWaves k).block? k = some b := by
    rw [State.block?, State.dropWaves_blocks]
    exact hb
  rw [State.block?, (statusOnly_drainCheck _).blocks]
  exact (State.block?_modBlock _ k f hf).trans (congrArg (Option.map f) hdrop)

theorem savedAs_writeImage {s : State} {b : Block} {k : BKey} (hb : s.block? k = some b) (n : Node) (f : Bool) (a : Nat)
    (bs : List Byte) : SavedAs (s.writeImage b n f a bs) k f a (s.wavesOf k) := by
  obtain rfl : b.key = k := State.key_of_block? hb
  rw [writeImage_eq, SavedAs, (statusOnly_drainCheck _).waves]
  have hblock := block?_modBlock_dropWaves (s := { s with mem := memWrite s.mem a bs }) hb
    (Block.toSaved f a ((s.wavesOf b.key).map (({ s with mem := memWrite s.mem a bs } : State).savedWave n))) (fun _ => rfl)
  exact ⟨fun w hw hm => State.key_of_mem_dropWaves hw hm, _, hblock, rfl, List.map_map⟩

theorem savedAs_saveBlock {s : State} {b : Block} {k : BKey} (hb : s.block? k = some b) (n : Node) (f : Bool)
    (place : Option Nat) (a : Nat)
    (ha : let bs := { b with saved := (s.wavesOf k).map (s.savedWave n) }.image n.hdr.scratch n.hdr.tiles (s.descBytes b)
      place = some a ∨ (place = none
        ∧ poolPlace (s.layout b.die) (s.die b.die).pool (4096 * ceilDiv bs.length 4096) = some a)) :
    SavedAs (s.saveBlock b n f place) k f a (s.wavesOf k) := by
  obtain rfl : b.key = k := State.key_of_block? hb
  rcases ha with rfl | ⟨rfl, hroom⟩
  · exact savedAs_writeImage hb _ _ _ _
  · simp only [State.saveBlock, hroom]
    exact savedAs_writeImage (s := s.modDie _ _) hb _ _ _ _

/-! ## What an acquire leaves of the blocks (10 R219) -/

theorem dropMarked_blocks (s : State) (core : Nat) (ls : List L1Line) : (s.dropMarked core ls).blocks = s.blocks := by
  induction ls generalizing s with
  | nil => rfl
  | cons x rest ih => exact (ih _).trans rfl

theorem overlayAll_blocks (s : State) (core : Nat) (ls : List L1Line) : (s.overlayAll core ls).blocks = s.blocks := by
  induction ls generalizing s with
  | nil => rfl
  | cons x rest ih =>
    refine (ih _).trans ?_
    split <;> rfl

theorem acquire_blocks (s : State) (core : Nat) : (s.acquire core).blocks = s.blocks := by
  simp only [State.acquire, overlayAll_blocks, State.modCore_blocks, dropMarked_blocks]

theorem acquireSpan_blocks (s : State) (cs : List Nat) : (s.acquireSpan cs).blocks = s.blocks := by
  induction cs generalizing s with
  | nil => rfl
  | cons c rest ih => exact (ih _).trans (acquire_blocks s c)

theorem acquireAll_blocks (s : State) (l : List (Nat × Nat)) : (s.acquireAll l).blocks = s.blocks := by
  induction l generalizing s with
  | nil => rfl
  | cons p rest ih => exact (ih _).trans (acquire_blocks s p.1)

/-! ## What the waves of a restored block leave of the blocks (17 R395, R396; 11 R251; 12 R280) -/

theorem restoreWaves_blocks (s : State) (key : BKey) (n : Node) (span : List Nat) (l : List SavedWave) :
    (s.restoreWaves key n span l).blocks = s.blocks := by
  induction l generalizing s with
  | nil => rfl
  | cons x rest ih =>
    rw [State.restoreWaves]
    refine (ih _).trans ?_
    split <;> rfl

theorem sendLoads_blocks (s : State) (id n : Nat) (ls : List (Nat × Nat × List (Nat × Nat))) :
    (s.sendLoads id n ls).blocks = s.blocks := by
  induction ls generalizing s with
  | nil => rfl
  | cons x rest ih => exact (ih _).trans rfl

theorem tlbFill_blocks (s : State) (core va : Nat) : (s.tlbFill core va).blocks = s.blocks := by
  unfold State.tlbFill
  split <;> rfl

theorem tlbFills_blocks (s : State) (l : List Acc) : (s.tlbFills l).blocks = s.blocks := by
  induction l generalizing s with
  | nil => rfl
  | cons a rest ih =>
    refine (ih _).trans ?_
    split
    · rfl
    · exact tlbFill_blocks _ _ _

theorem postLoad_blocks (s : State) (cls : OpCls) (tinfo n : Nat) (dst : Dst) (l : List Acc) :
    (s.postLoad cls tinfo n dst l).blocks = s.blocks := by
  unfold State.postLoad
  dsimp only
  split
  · exact tlbFills_blocks _ _
  · exact (sendLoads_blocks _ _ _ _).trans (tlbFills_blocks _ _)

theorem reissueLq_blocks {s t : State} {e : LqEntry} (h : s.reissueLq e = .ok t) : t.blocks = s.blocks := by
  unfold State.reissueLq at h
  dsimp only at h
  cases hl : s.checkAccess true 0 e.size (sizeBytes e.size) (lqLanes s.w e.addr e.stride) with
  | error x => rw [hl] at h; cases h
  | ok l =>
    rw [hl] at h
    cases h
    exact postLoad_blocks _ _ _ _ _ _

theorem reissueAll_blocks {s t : State} {es : List LqEntry} (h : s.reissueAll es = .ok t) : t.blocks = s.blocks := by
  induction es generalizing s with
  | nil => cases h; rfl
  | cons e rest ih =>
    rw [State.reissueAll] at h
    split at h
    · next u hu => exact (ih h).trans (reissueLq_blocks hu)
    · cases h

theorem reissueWaves_blocks {s t : State} {l : List Wave} (h : s.reissueWaves l = .ok t) : t.blocks = s.blocks := by
  induction l generalizing s with
  | nil => cases h; rfl
  | cons w rest ih =>
    rw [State.reissueWaves] at h
    split at h
    · exact ih h
    · next u hu =>
      dsimp only at h
      split at h
      · next v hv =>
        calc t.blocks = v.blocks := ih h
          _ = u.blocks := (reissueAll_blocks hv).trans rfl
          _ = s.blocks := State.focus_blocks hu
      · cases h

theorem repost_blocks (s : State) (key : BKey) (old : List SavedWave) (es : List MEntry) :
    (s.repost key old es).blocks = s.blocks := by
  induction es generalizing s with
  | nil => rfl
  | cons e rest ih =>
    rw [State.repost]
    split
    · exact ih s
    · split
      · exact ih s
      · exact (ih _).trans rfl

/-! ## Judging the objects of a restored block changes nothing else of it (17 R395) -/

/-- A block without its synchronisation objects. -/
def Block.bare (b : Block) : Block := { b with segs := [], spanBars := [] }

/-- The blocks differ in their objects alone. -/
def ObjectsOnly (s t : State) : Prop := t.blocks.map Block.bare = s.blocks.map Block.bare

theorem ObjectsOnly.trans {s t u : State} (h : ObjectsOnly s t) (h' : ObjectsOnly t u) : ObjectsOnly s u := Eq.trans h' h

theorem ObjectsOnly.of_blocks {s t : State} (h : t.blocks = s.blocks) : ObjectsOnly s t := congrArg (List.map Block.bare) h

theorem objectsOnly_modBlock (s : State) (k : BKey) (f : Block → Block) (hf : ∀ b, (f b).bare = b.bare) :
    ObjectsOnly s (s.modBlock k f) := by
  rw [ObjectsOnly, State.modBlock_blocks, List.map_map]
  refine List.map_congr_left (fun b _ => ?_)
  by_cases h : b.key = k <;> simp [h, hf]

theorem objectsOnly_modSem (s : State) (k : BKey) (j n : Nat) (f : Sem → Sem) : ObjectsOnly s (s.modSem k j n f) :=
  objectsOnly_modBlock s k _ (fun _ => rfl)

theorem objectsOnly_modBar (s : State) (k : BKey) (j n : Nat) (f : Bar → Bar) : ObjectsOnly s (s.modBar k j n f) := by
  refine objectsOnly_modBlock s k _ (fun b => ?_)
  split <;> rfl

theorem modWaves_blocks (s : State) (l : List (Nat × Nat)) (f : Wave → Wave) : (s.modWaves l f).blocks = s.blocks := by
  induction l generalizing s with
  | nil => rfl
  | cons p rest ih => exact (ih _).trans (State.modWave_blocks _ _ _ _)

theorem admitNow_blocks (s : State) (l : List (Nat × Nat)) (cs : List Nat) (left : List (Nat × Nat)) :
    (s.admitNow l cs left).1.blocks = s.blocks := by
  induction cs generalizing s left with
  | nil => rfl
  | cons c rest ih =>
    rw [State.admitNow]
    split
    · exact (ih _ _).trans ((modWaves_blocks _ _ _).trans rfl)
    · exact (ih _ _).trans (modWaves_blocks _ _ _)

theorem wakeAll_blocks (s : State) (l : List (Nat × Nat)) : (s.wakeAll l).blocks = s.blocks := by
  unfold State.wakeAll
  dsimp only
  split
  · exact (modWaves_blocks _ _ _).trans (acquireAll_blocks s l)
  · split
    · exact (admitNow_blocks _ _ _ _).trans (acquireAll_blocks s l)
    · exact (admitNow_blocks _ _ _ _).trans (acquireAll_blocks s l)

theorem objectsOnly_judgeSem (s : State) (k : BKey) (j n : Nat) : ObjectsOnly s (s.judgeSem k j n) := by
  unfold State.judgeSem
  split
  · exact .of_blocks rfl
  · split
    · exact .of_blocks rfl
    · exact (objectsOnly_modSem _ _ _ _ _).trans (.of_blocks (wakeAll_blocks _ _))

theorem objectsOnly_judgeBar (s : State) (k : BKey) (j n : Nat) : ObjectsOnly s (s.judgeBar k j n) := by
  unfold State.judgeBar
  split
  · exact .of_blocks rfl
  · exact (objectsOnly_modBar _ _ _ _ _).trans (.of_blocks (wakeAll_blocks _ _))

theorem objectsOnly_judgeBlock (s : State) (k : BKey) (objs : List (Nat × Nat)) : ObjectsOnly s (s.judgeBlock k objs) := by
  induction objs generalizing s with
  | nil => exact .of_blocks rfl
  | cons p rest ih =>
    rw [State.judgeBlock]
    refine ObjectsOnly.trans ?_ (ih _)
    exact ((objectsOnly_modSem _ _ _ _ _).trans (objectsOnly_judgeSem _ _ _ _)).trans (objectsOnly_judgeBar _ _ _ _)

theorem ObjectsOnly.block? {s t : State} (h : ObjectsOnly s t) (k : BKey) :
    (t.block? k).map Block.bare = (s.block? k).map Block.bare := by
  have find (l : List Block) : (l.find? (fun b => b.key == k)).map Block.bare
      = (l.map Block.bare).find? (fun b => b.key == k) := by
    rw [List.find?_map]
    rfl
  exact (find _).trans ((congrArg _ h).trans (find _).symm)

/-! ## Restoring (17 R395, R396) -/

/-- A block as its restore on a span leaves it. -/
def Block.restored (b : Block) (n : Node) (span : List Nat) (x : Block) : Block :=
  { x with
    core0 := span.headD 0, saved := [], abandoned := [], vacate := false
    status := if b.saved.any (fun w => decide (w.wave.status = .reserved)) then .reserved else .running
    segs := x.segs.zipIdx.map (fun p =>
      { p.1 with
        core := span.getD p.2 0, ssect := List.range (ceilDiv n.hdr.scratch 256), tsect := List.range (2 * n.hdr.tiles) }) }

theorem restoreOn_eq (s : State) (b : Block) (n : Node) (image : Nat) (span : List Nat) :
    let s1 := ((s.freeImage b.die image).restoreWaves b.key n span b.saved).modBlock b.key (b.restored n span)
    s.restoreOn b n image span =
      if !s1.repostRoom b.key b.saved b.abandoned span then .error .stall
      else
        match (s1.acquireSpan span).reissueWaves (s1.wavesOf b.key) with
        | .error x => .error x
        | .ok v =>
          .ok (((v.onlyReposted b.key b.abandoned).repost b.key b.saved b.abandoned).judgeBlock b.key b.objects) := rfl

/-- A block that is restored stands on its new span, as it was. -/
theorem restoreOn_block? {s u : State} {b b0 : Block} {n : Node} {image : Nat} {span : List Nat}
    (h : s.restoreOn b n image span = .ok u) (hb : s.block? b.key = some b0) :
    ∃ y, u.block? b.key = some y
      ∧ y.status = (if b.saved.any (fun w => decide (w.wave.status = .reserved)) then .reserved else .running)
      ∧ y.core0 = span.headD 0 ∧ y.saved = [] ∧ y.vacate = false := by
  have hrest : ((s.freeImage b.die image).restoreWaves b.key n span b.saved).block? b.key = some b0 := by
    rw [State.block?, restoreWaves_blocks]
    exact hb
  have hplaced := (State.block?_modBlock _ b.key (b.restored n span) (fun _ => rfl)).trans (congrArg (Option.map _) hrest)
  rw [restoreOn_eq] at h
  split at h
  · cases h
  · split at h
    · cases h
    · next v hv =>
      cases h
      have hv' := (reissueWaves_blocks hv).trans (acquireSpan_blocks _ _)
      have hrep := repost_blocks (v.onlyReposted b.key b.abandoned) b.key b.saved b.abandoned
      have hobj := (ObjectsOnly.of_blocks (hrep.trans hv')).trans (objectsOnly_judgeBlock _ b.key b.objects)
      have hy := hobj.block? b.key
      rw [hplaced, Option.map_some, Option.map_some] at hy
      obtain ⟨y, hu, hbare⟩ := Option.map_eq_some_iff.mp hy
      exact ⟨y, hu, congrArg Block.status hbare, congrArg Block.core0 hbare, congrArg Block.saved hbare,
        congrArg Block.vacate hbare⟩

theorem blockRestoreStep_of {i : Nat} {s u : State} {b : Block} {n : Node} (hb : s.blocks[i]? = some b)
    (hn : s.node? b.key.node = some n) (hw : b.waits = true) (hbehind : s.behindSaved b = false)
    (hdue : b.weak = true → s.reservationDue b.die = false) (hu : s.restoreAll n (s.restoreGroup b n) = .ok u) :
    blockRestoreStep i s = u := by
  have hgo : (!b.waits || s.behindSaved b || (b.weak && s.reservationDue b.die)) = false := by
    rw [hw, hbehind]
    cases hk : b.weak with
    | false => rfl
    | true => simp [hdue hk]
  simp only [blockRestoreStep, hb, hn]
  rw [hgo, hu]
  rfl

theorem restoreAll_one {s u : State} {b : Block} {n : Node} {f : Bool} {image : Nat} {span : List Nat}
    (hst : b.status = .saved f image) (hspan : s.restoreSpan b = some span) (hu : s.restoreOn b n image span = .ok u) :
    s.restoreAll n [b] = .ok u := by
  simp only [State.restoreAll, hst, hspan, hu]

/-- A block of the list is found by its key, or one of the same key before it. -/
theorem block?_of_getElem? {s : State} {i : Nat} {b : Block} (hb : s.blocks[i]? = some b) :
    ∃ b0, s.block? b.key = some b0 := by
  have hfind : (s.block? b.key).isSome = true :=
    List.find?_isSome.mpr ⟨b, List.mem_of_getElem? hb, beq_self_eq_true _⟩
  exact Option.isSome_iff_exists.mp hfind

/-! ## Starting (02 R19; 15 R352) -/

theorem blockStartStep_of {i : Nat} {s u : State} {b : Block} {n : Node} {cs : List (Nat × Word)}
    (hb : s.blocks[i]? = some b) (hst : b.status = .reserved) (hn : s.node? b.key.node = some n)
    (hc : s.constants b.core0 n = .ok (u, cs)) :
    let v := if b.grid.isSome = true ∨ n.recsz = 0 then u.acquireSpan (b.segs.map (fun g => g.core)) else u
    v.w.mgmt = true → blockStartStep i s =
      ({ v with waves := v.waves.map (fun w =>
        if w.key = b.key ∧ w.status = .reserved then w.start cs (v.cycleOf w.core) else w) } : State).modBlock b.key
        (fun y => { y with status := .running }) := by
  intro v hm
  have hv : (if (b.grid.isSome || n.recsz = 0) = true then u.acquireSpan (b.segs.map (fun g => g.core)) else u) = v := by
    simp only [v, Bool.or_eq_true, decide_eq_true_eq]
  simp only [blockStartStep, hb, hst, hn, hc]
  rw [hv, if_pos hm]

/-- Settles O43: placement by `placed_resident`, a save by `savedAs_saveBlock`, a restore by `restoreOn_block?`, the other
clauses by the step's lemma above. -/
theorem blocksArePlacedAndSaved : Obligations.BlocksArePlacedAndSaved := by
  refine ⟨?_, ?_, ?_, ?_, ?_, ?_⟩
  · intro i die s u b n hb hn hnext hp
    exact ⟨fun hk => congrArg Host.Outcome.next (blockReserveStep_of hb hn hnext hp hk),
      fun hk => congrArg Host.Outcome.next (rangeRecordBindStep_of hn hnext hp hk)⟩
  · intro s key n span recs r grid desc
    exact ⟨(placed_resident _ key n span recs _).1, _, (placed_resident _ key n span recs _).2, rfl, rfl, rfl, rfl, rfl, rfl, rfl,
      rfl, rfl, seg_cores n span.length span⟩
  · intro i die s b n x hb hn hc ha ht hp hs hx
    exact congrArg Host.Outcome.next (reservationWaitStep_of hb hn hc ha ht hp hs hx)
  · intro i s u b n cs hb hst hn hc v hm
    exact congrArg Host.Outcome.next (blockStartStep_of hb hst hn hc hm)
  · intro i s b b1 n f place hb hst hn s1 bs hb1 hbusy hsav a ha
    exact ⟨s1.saveBlock b1 n f place, congrArg Host.Outcome.next (blockSaveStep_of hb hst hn hb1 hbusy hsav),
      savedAs_saveBlock hb1 n f place a ha⟩
  · intro i s b n hb hn hw hbehind hdue
    have hall (u : State) (hu : s.restoreAll n (s.restoreGroup b n) = .ok u) : Steps (.blockRestore i) s u :=
      congrArg Host.Outcome.next (blockRestoreStep_of hb hn hw hbehind hdue hu)
    refine ⟨hall, fun u image span hst hspan hgroup hu => ⟨hall u ?_, ?_⟩⟩
    · rw [hgroup]
      exact restoreAll_one hst hspan hu
    · obtain ⟨b0, hb0⟩ := block?_of_getElem? hb
      exact restoreOn_block? hu hb0

end Sys2Proof.Machine
end

section
/-! Decode and encode agree (03 R56 to R58, R65 to R77): each format's decoder read against its encoder, then the words of
an instruction read back, and what a list of words decodes to written again. -/
namespace Sys2Proof

/-! ## The words of an instruction, decoded -/

/-- The words of an instruction decode to it with every field, whatever follows them. -/
def Instr.ReadsBack (i : Instr) : Prop := ∀ rest, decodeWords (encode i ++ rest) = .ok (i, i.words)

theorem decodeWords_oneWord {h : Head} {i : Instr} (rest : List Word) (hlen : h.len = 0#2) (hd : decodeShort h = some i) :
    decodeWords (headWord h :: rest) = .ok (i, 1) := by
  simp [decodeWords, headOf_headWord, hlen, hd, wordsOfLen]

theorem decodeWords_encBase {major : BitVec 6} {minor : BitVec 3} {f : BaF} {i : Instr} (rest : List Word)
    (hd : decodeBA major.toNat minor.toNat f = some i) :
    decodeWords (encBase major minor f ++ rest) = .ok (i, (encBase major minor f).length) := by
  have hf := BaF.ofHi_hi f
  cases hl : f.lit with
  | none =>
    rw [hl] at hf
    simp only [encBase, hl]
    exact decodeWords_oneWord rest rfl (by simp [decodeShort, hf, hd])
  | some l =>
    rw [hl] at hf
    simp [encBase, hl, decodeWords, headOf_headWord, decodeShortLit, literalOf_lits, hf, hd, wordsOfLen]

theorem decodeWords_encExt {major : BitVec 6} {minor : BitVec 3} {hi : BitVec 21} {w1 w2 : Word} {lit : Option Dword}
    {i : Instr} (rest : List Word)
    (hd : ∀ len, decodeExt { len := len, major := major, minor := minor, hi := hi } w1 w2 lit = some i) :
    decodeWords (encExt major minor hi w1 w2 lit ++ rest) = .ok (i, (encExt major minor hi w1 w2 lit).length) := by
  cases lit with
  | none => simp [encExt, decodeWords, headOf_headWord, hd, wordsOfLen]
  | some l => simp [encExt, decodeWords, headOf_headWord, literalOf_lits, hd, wordsOfLen]

section
variable {i : Instr} {major : BitVec 6} {minor : BitVec 3}

theorem readsBack_of_base {f : BaF} (he : encode i = encBase major minor f)
    (hd : decodeBA major.toNat minor.toNat f = some i) : i.ReadsBack := by
  intro rest
  rw [Instr.words, he]
  exact decodeWords_encBase rest hd

theorem readsBack_of_bm {f : BmF} (he : encode i = encBM major minor f)
    (hba : ∀ x, decodeBA major.toNat minor.toNat x = none) (hd : decodeBM major.toNat minor.toNat f = some i) :
    i.ReadsBack := by
  intro rest
  rw [Instr.words, he]
  exact decodeWords_oneWord rest rfl (by simp [decodeShort, BmF.ofHi_hi, hba, hd])

theorem readsBack_of_bb {f : BbF} (he : encode i = encBB major minor f)
    (hba : ∀ x, decodeBA major.toNat minor.toNat x = none) (hbm : ∀ x, decodeBM major.toNat minor.toNat x = none)
    (hd : decodeBB major.toNat minor.toNat f = some i) : i.ReadsBack := by
  intro rest
  rw [Instr.words, he]
  exact decodeWords_oneWord rest rfl (by simp [decodeShort, hba, hbm, hd])

theorem readsBack_of_xa {f : XaF} (he : encode i = encXA major minor f)
    (hd : decodeXA major.toNat minor.toNat f = some i) : i.ReadsBack := by
  intro rest
  rw [Instr.words, he]
  exact decodeWords_encExt rest (by simp [decodeExt, XaF.ofWords_words, hd])

theorem readsBack_of_xm {f : XmF} (he : encode i = encXM major minor f)
    (hxa : ∀ x, decodeXA major.toNat minor.toNat x = none) (hd : decodeXM major.toNat minor.toNat f = some i) :
    i.ReadsBack := by
  intro rest
  rw [Instr.words, he]
  exact decodeWords_encExt rest (by simp [decodeExt, XmF.ofWords_words, hxa, hd])

theorem readsBack_of_xq {f : XqF} (he : encode i = encXQ major minor f)
    (hxa : ∀ x, decodeXA major.toNat minor.toNat x = none) (hxm : ∀ x, decodeXM major.toNat minor.toNat x = none)
    (hd : decodeXQ major.toNat minor.toNat f = some i) : i.ReadsBack := by
  intro rest
  rw [Instr.words, he]
  exact decodeWords_encExt rest (by simp [decodeExt, XqF.ofWords_words, hxa, hxm, hd])

theorem readsBack_of_xt {f : XtF} (he : encode i = encXT major minor f)
    (hxa : ∀ x, decodeXA major.toNat minor.toNat x = none) (hxm : ∀ x, decodeXM major.toNat minor.toNat x = none)
    (hxq : ∀ x, decodeXQ major.toNat minor.toNat x = none) (hd : decodeXT major.toNat minor.toNat f = some i) :
    i.ReadsBack := by
  intro rest
  rw [Instr.words, he]
  exact decodeWords_encExt rest (by simp [decodeExt, XtF.ofWords_words, hxa, hxm, hxq, hd])

theorem readsBack_of_xs {f : XsF} (he : encode i = encXS major minor f)
    (hxa : ∀ x, decodeXA major.toNat minor.toNat x = none) (hxm : ∀ x, decodeXM major.toNat minor.toNat x = none)
    (hxq : ∀ x, decodeXQ major.toNat minor.toNat x = none) (hxt : ∀ x, decodeXT major.toNat minor.toNat x = none)
    (hd : decodeXS major.toNat minor.toNat f = some i) : i.ReadsBack := by
  intro rest
  rw [Instr.words, he]
  exact decodeWords_encExt rest (by simp [decodeExt, XsF.ofWords_words, hxa, hxm, hxq, hxt, hd])

theorem readsBack_of_bl {f : BlF} (he : encode i = encBL major minor f)
    (hxa : ∀ x, decodeXA major.toNat minor.toNat x = none) (hxm : ∀ x, decodeXM major.toNat minor.toNat x = none)
    (hxq : ∀ x, decodeXQ major.toNat minor.toNat x = none) (hxt : ∀ x, decodeXT major.toNat minor.toNat x = none)
    (hxs : ∀ x, decodeXS major.toNat minor.toNat x = none) (hd : decodeBL major.toNat minor.toNat f = some i) :
    i.ReadsBack := by
  intro rest
  rw [Instr.words, he]
  exact decodeWords_encExt (lit := none) rest (by simp [decodeExt, BlF.ofWords_words, hxa, hxm, hxq, hxt, hxs, hd])
end

/-- The constructors by format. LD and ST keep their minor, and CRANGE its two forms apart by `xop`, so these are read with
a hypothesis of their own. -/
theorem readsBack_of_wellFormed {i : Instr} (h : i.wellFormed = true) : i.ReadsBack := by
  obtain ⟨henc, hform⟩ : i.isEncoded = true ∧ i.formOk = true := by simpa [Instr.wellFormed] using h
  cases i with
  | iaddBA f | isubBA f | imulBA f | imulhiBA f | iminBA f | imaxBA f | andBA f | orBA f | xorBA f | andnBA f
  | shlBA f | shrBA f | sarBA f | rotBA f | popcBA f | clzBA f | ctzBA f | brevBA f | movBA f | getexecBA f
  | setexecBA f | kand f | kor f | kxor f | knot f | kmov f | faddBA f | fsubBA f | fmulBA f | fminBA f | fmaxBA f
  | frcpBA f | frsqBA f | fsqrtBA f | fexp2BA f | flog2BA f | fsinpiBA f | fcospiBA f | hadd2BA f | hmul2BA f
  | shflBA f | bcastBA f | qswapBA f | qbcastBA f | voteBA f | reconv f | retl f | exit f | saddBS f | ssubBS f
  | smulBS f | smulhiBS f | sandBS f | sorBS f | sxorBS f | smovBS f | sshlBS f | sshrBS f | ssarBS f | sminBS f
  | smaxBS f | sret f | sdone f | dqpush f | vgive f | vclaim f | abort f | pollabt f | phrelBS f | phacqBS f
  | phaseBS f => exact readsBack_of_base rfl rfl
  | ldBM minor f | stBM minor f => exact readsBack_of_bm rfl (fun _ => rfl) (by simp [decodeBM])
  | ldsBM f | stsBM f => exact readsBack_of_bm rfl (fun _ => rfl) rfl
  | brdq f | calll f | sbr f | scall f | jmpl f => exact readsBack_of_bb rfl (fun _ => rfl) (fun _ => rfl) rfl
  | iaddXA f | isubXA f | imulXA f | imulhiXA f | imad f | iminXA f | imaxXA f | andXA f | orXA f | xorXA f | andnXA f
  | shlXA f | shrXA f | sarXA f | rotXA f | bfx f | bfi f | popcXA f | clzXA f | ctzXA f | brevXA f | icmp f | sel f
  | movXA f | movrel f | movrelw f | getexecXA f | setexecXA f | vrdl f | vwrl f | faddXA f | fsubXA f | fmulXA f
  | ffma f | fminXA f | fmaxXA f | fcmp f | fclass f | frcpXA f | frsqXA f | fsqrtXA f | fexp2XA f | flog2XA f
  | fsinpiXA f | fcospiXA f | hfma2 f | hadd2XA f | hmul2XA f | dot4d8 f | dot2h f | cvt f | pack f | unpack f
  | qscale f | dqscale f | hadq f | shflXA f | bcastXA f | qswapXA f | qbcastXA f | voteXA f | reduce f | scan f
  | hist f | hmerge f | cxstage f | saddXA f | ssubXA f | smulXA f | smulhiXA f | sandXA f | sorXA f | sxorXA f
  | smovXA f | sshlXA f | sshrXA f | ssarXA f | sminXA f | smaxXA f | scmp f | ssel f | sbfx f =>
    exact readsBack_of_xa rfl rfl
  | ldXM minor f | stXM minor f => exact readsBack_of_xm rfl (fun _ => rfl) (by simp [decodeXM])
  | ldsp f | stsp f | stt f | pref f | atom f | cadd f | ldsXM f | stsXM f | ldlq f | phrelXM f | phacqXM f
  | phaseXM f => exact readsBack_of_xm rfl (fun _ => rfl) rfl
  | crangeOpen f =>
    have hx : ¬ f.xop.getLsbD 4 = true := by simpa [Instr.formOk] using hform
    exact readsBack_of_xm rfl (fun _ => rfl) (if_neg hx)
  | crangeClose f =>
    exact readsBack_of_xm rfl (fun _ => rfl) (if_pos hform)
  | append f | consume f | rnext f | launch f | cpy f | coll f =>
    exact readsBack_of_xq rfl (fun _ => rfl) (fun _ => rfl) rfl
  | mma f | mzero f | mrd f | mwr f | mldt f | mstore f | mfence f | mwait f | msig f | mpair f =>
    exact readsBack_of_xt rfl (fun _ => rfl) (fun _ => rfl) (fun _ => rfl) rfl
  | wait f | seminc f | semset f | semwait f | barinit f | bararr f | barexp f | barwait f | joinset f | joinadd f
  | joindec f | trap f | eret f | rdsr f | wrsr f | rdlead f | wrlead f | yield f | sleep f =>
    exact readsBack_of_xs rfl (fun _ => rfl) (fun _ => rfl) (fun _ => rfl) (fun _ => rfl) rfl
  | bdiv f | sbrc f | sloop f =>
    exact readsBack_of_bl rfl (fun _ => rfl) (fun _ => rfl) (fun _ => rfl) (fun _ => rfl) (fun _ => rfl) rfl
  | _ => exact absurd henc Bool.false_ne_true

/-! ## What a format's decoder answers, encoded -/

/-- An instruction in the form that its bits name, whose words these are. -/
def Instr.HasWords (i : Instr) (ws : List Word) : Prop := i.formOk = true ∧ encode i = ws

theorem Instr.HasWords.wellFormed {i : Instr} {w : Word} {ws : List Word} (h : i.HasWords (w :: ws)) :
    i.wellFormed = true := by
  obtain ⟨hform, henc⟩ := h
  simp [Instr.wellFormed, Instr.isEncoded, henc, hform]

section
variable {major minor : Nat} {i : Instr}

theorem hasWords_of_decodeBA {f : BaF} (h : decodeBA major minor f = some i) :
    i.HasWords (encBase (BitVec.ofNat 6 major) (BitVec.ofNat 3 minor) f) := by
  unfold decodeBA at h
  (repeat' split at h) <;> cases h <;> exact ⟨rfl, rfl⟩

theorem hasWords_of_decodeBM {f : BmF} (h : decodeBM major minor f = some i) :
    i.HasWords (encBM (BitVec.ofNat 6 major) (BitVec.ofNat 3 minor) f) := by
  unfold decodeBM at h
  (repeat' split at h) <;> cases h <;> exact ⟨rfl, rfl⟩

theorem hasWords_of_decodeBB {f : BbF} (h : decodeBB major minor f = some i) :
    i.HasWords (encBB (BitVec.ofNat 6 major) (BitVec.ofNat 3 minor) f) := by
  unfold decodeBB at h
  (repeat' split at h) <;> cases h <;> exact ⟨rfl, rfl⟩

theorem hasWords_of_decodeBL {f : BlF} (h : decodeBL major minor f = some i) :
    i.HasWords (encBL (BitVec.ofNat 6 major) (BitVec.ofNat 3 minor) f) := by
  unfold decodeBL at h
  (repeat' split at h) <;> cases h <;> exact ⟨rfl, rfl⟩

theorem hasWords_of_decodeXA {f : XaF} (h : decodeXA major minor f = some i) :
    i.HasWords (encXA (BitVec.ofNat 6 major) (BitVec.ofNat 3 minor) f) := by
  unfold decodeXA at h
  (repeat' split at h) <;> cases h <;> exact ⟨rfl, rfl⟩

/-- CRANGE's form is the one that bit 4 of `xop` names; no other row looks at a field. -/
theorem hasWords_of_decodeXM {f : XmF} (h : decodeXM major minor f = some i) :
    i.HasWords (encXM (BitVec.ofNat 6 major) (BitVec.ofNat 3 minor) f) := by
  unfold decodeXM at h
  (repeat' split at h) <;> cases h <;> exact ⟨by simp only [Instr.formOk, *, Bool.not_false], rfl⟩

theorem hasWords_of_decodeXQ {f : XqF} (h : decodeXQ major minor f = some i) :
    i.HasWords (encXQ (BitVec.ofNat 6 major) (BitVec.ofNat 3 minor) f) := by
  unfold decodeXQ at h
  (repeat' split at h) <;> cases h <;> exact ⟨rfl, rfl⟩

theorem hasWords_of_decodeXT {f : XtF} (h : decodeXT major minor f = some i) :
    i.HasWords (encXT (BitVec.ofNat 6 major) (BitVec.ofNat 3 minor) f) := by
  unfold decodeXT at h
  (repeat' split at h) <;> cases h <;> exact ⟨rfl, rfl⟩

theorem hasWords_of_decodeXS {f : XsF} (h : decodeXS major minor f = some i) :
    i.HasWords (encXS (BitVec.ofNat 6 major) (BitVec.ofNat 3 minor) f) := by
  unfold decodeXS at h
  (repeat' split at h) <;> cases h <;> exact ⟨rfl, rfl⟩
end

/-! ## The formats' fields of given words, encoded -/

section
variable (major : BitVec 6) (minor : BitVec 3) (hi : BitVec 21) (w1 w2 : Word) (lit : Option Dword)

theorem encBase_ofHi_none : encBase major minor (BaF.ofHi hi none)
    = [headWord { len := 0#2, major := major, minor := minor, hi := hi }] :=
  congrArg (fun x => [headWord { len := 0#2, major := major, minor := minor, hi := x }]) (BaF.hi_ofHi hi none)

theorem encBase_ofHi_some : encBase major minor (BaF.ofHi hi (some (literalOf w1 w2)))
    = [headWord { len := 2#2, major := major, minor := minor, hi := hi }, w1, w2] := by
  change [headWord { len := 2#2, major := major, minor := minor, hi := (BaF.ofHi hi (some (literalOf w1 w2))).hi },
    litLo (literalOf w1 w2), litHi (literalOf w1 w2)] = _
  rw [BaF.hi_ofHi, litLo_literalOf, litHi_literalOf]

theorem encBM_ofHi : encBM major minor (BmF.ofHi hi)
    = [headWord { len := 0#2, major := major, minor := minor, hi := hi }] := by
  rw [encBM, BmF.hi_ofHi]

theorem encXA_ofWords : encXA major minor (XaF.ofWords hi w1 w2 lit) = encExt major minor hi w1 w2 lit := by
  rw [encXA, XaF.w2_ofWords]
  exact congrArg (fun w => encExt major minor hi w w2 lit) (extWord1_fields w1)

theorem encXM_ofWords : encXM major minor (XmF.ofWords hi w1 w2 lit) = encExt major minor hi w1 w2 lit := by
  rw [encXM, XmF.w2_ofWords]
  exact congrArg (fun w => encExt major minor hi w w2 lit) (extWord1_fields w1)

theorem encXQ_ofWords : encXQ major minor (XqF.ofWords hi w1 w2 lit) = encExt major minor hi w1 w2 lit := by
  rw [encXQ, XqF.w2_ofWords]
  exact congrArg (fun w => encExt major minor hi w w2 lit) (extWord1_fields w1)

theorem encXT_ofWords : encXT major minor (XtF.ofWords hi w1 w2 lit) = encExt major minor hi w1 w2 lit := by
  rw [encXT, XtF.w2_ofWords, XtF.hi_ofWords]
  exact congrArg (fun w => encExt major minor hi w w2 lit) (extWord1_fields w1)

theorem encXS_ofWords : encXS major minor (XsF.ofWords hi w1 w2 lit) = encExt major minor hi w1 w2 lit := by
  rw [encXS, XsF.w2_ofWords, XsF.hi_ofWords]
  exact congrArg (fun w => encExt major minor hi w w2 lit) (extWord1_fields w1)

theorem encBL_ofWords : encBL major minor (BlF.ofWords hi w1 w2) = encExt major minor hi w1 w2 none := by
  rw [encBL, BlF.w1_ofWords, BlF.w2_ofWords]
  rfl
end

/-! ## What a list of words decodes to, encoded -/

section
variable {h : Head} {i : Instr} {w0 w1 w2 : Word} {lit : Option Dword}

theorem hasWords_of_decodeShort (hd : decodeShort h = some i) :
    i.HasWords [headWord { len := 0#2, major := h.major, minor := h.minor, hi := h.hi }] := by
  simp only [decodeShort, Option.orElse_eq_or, Option.or_eq_some_iff] at hd
  rcases hd with hd | ⟨-, hd | ⟨-, hd⟩⟩
  · simpa [encBase_ofHi_none] using hasWords_of_decodeBA hd
  · simpa [encBM_ofHi] using hasWords_of_decodeBM hd
  · simpa [encBB] using hasWords_of_decodeBB hd

theorem hasWords_of_decodeShortLit (hd : decodeShortLit h w1 w2 = some i) :
    i.HasWords [headWord { len := 2#2, major := h.major, minor := h.minor, hi := h.hi }, w1, w2] := by
  simpa [encBase_ofHi_some] using hasWords_of_decodeBA hd

theorem hasWords_of_decodeExt (hd : decodeExt h w1 w2 lit = some i) :
    i.HasWords (encExt h.major h.minor h.hi w1 w2 lit) := by
  simp only [decodeExt, Option.orElse_eq_or, Option.or_eq_some_iff] at hd
  rcases hd with hd | ⟨-, hd | ⟨-, hd | ⟨-, hd | ⟨-, hd | ⟨-, hd⟩⟩⟩⟩⟩
  · simpa [encXA_ofWords] using hasWords_of_decodeXA hd
  · simpa [encXM_ofWords] using hasWords_of_decodeXM hd
  · simpa [encXQ_ofWords] using hasWords_of_decodeXQ hd
  · simpa [encXT_ofWords] using hasWords_of_decodeXT hd
  · simpa [encXS_ofWords] using hasWords_of_decodeXS hd
  · cases lit with
    | none => simpa [encBL_ofWords] using hasWords_of_decodeBL hd
    | some l => cases hd

theorem headWord_of_len {len : BitVec 2} (hlen : (headOf w0).len = len) :
    headWord { len := len, major := (headOf w0).major, minor := (headOf w0).minor, hi := (headOf w0).hi } = w0 := by
  subst hlen
  exact headWord_headOf w0
end

/-- As many words as the first one's length code says, whatever follows them (R56). -/
theorem hasWords_take {i : Instr} {w0 : Word} {ws : List Word} (len : BitVec 2) (more : List Word)
    (hlen : (headOf w0).len = len) (hn : wordsOfLen len = ws.length + 1)
    (hw : i.HasWords
      (headWord { len := len, major := (headOf w0).major, minor := (headOf w0).minor, hi := (headOf w0).hi } :: ws)) :
    wordsOfLen (headOf w0).len ≤ (ws ++ more).length + 1
      ∧ i.HasWords ((w0 :: (ws ++ more)).take (wordsOfLen (headOf w0).len)) := by
  rw [headWord_of_len hlen] at hw
  simpa [hlen, hn] using hw

/-- What decodes has the words it was read from, by the length code of the first (R56, R57). -/
theorem hasWords_of_decodeWords {w0 : Word} {rest : List Word} {i : Instr} {n : Nat}
    (h : decodeWords (w0 :: rest) = .ok (i, n)) :
    n = wordsOfLen (headOf w0).len ∧ n ≤ rest.length + 1 ∧ i.HasWords ((w0 :: rest).take n) := by
  simp only [decodeWords] at h
  split at h
  case h_1 _ hlen =>
    split at h <;> cases h
    next hd =>
      exact ⟨rfl, hasWords_take (ws := []) 0#2 _ (BitVec.eq_of_toNat_eq hlen) rfl (hasWords_of_decodeShort hd)⟩
  case h_2 w1 w2 more hlen =>
    split at h <;> cases h
    next hd =>
      exact ⟨rfl, hasWords_take (ws := [w1, w2]) 1#2 more (BitVec.eq_of_toNat_eq hlen) rfl (hasWords_of_decodeExt hd)⟩
  case h_3 w1 w2 more hlen =>
    split at h <;> cases h
    next hd =>
      exact ⟨rfl, hasWords_take (ws := [w1, w2]) 2#2 more (BitVec.eq_of_toNat_eq hlen) rfl (hasWords_of_decodeShortLit hd)⟩
  case h_4 w1 w2 l0 l1 more hlen =>
    split at h <;> cases h
    next hd =>
      have hw := hasWords_of_decodeExt hd
      rw [encExt, litLo_literalOf, litHi_literalOf] at hw
      exact ⟨rfl, hasWords_take (ws := [w1, w2, l0, l1]) 3#2 more (BitVec.eq_of_toNat_eq hlen) rfl hw⟩
  case h_5 => cases h

theorem wordsOfLen_eq_getD (len : BitVec 2) : wordsOfLen len = [1, 3, 3, 5].getD len.toNat 0 := by
  revert len
  decide

theorem wordsOfLen_ne_zero (len : BitVec 2) : wordsOfLen len ≠ 0 := by
  revert len
  decide

theorem wordsOfLen_headOf (w0 : Word) : wordsOfLen (headOf w0).len = [1, 3, 3, 5].getD (w0.toNat % 4) 0 := by
  rw [wordsOfLen_eq_getD]
  simp [headOf]

/-! ## The obligations on encodings -/

/-- Settles O53: a well-formed instruction is read back by `readsBack_of_wellFormed`; what decodes is written again, and is
as long as its first word says, by `hasWords_of_decodeWords`. -/
theorem encodingRoundTrip : Obligations.EncodingRoundTrip := by
  refine ⟨fun i rest h => readsBack_of_wellFormed h rest, fun ws i n h => ?_, fun w0 rest i n h => ?_⟩
  · cases ws with
    | nil => cases h
    | cons w0 rest =>
      obtain ⟨hn, -, hw⟩ := hasWords_of_decodeWords h
      have hpos : n ≠ 0 := by rw [hn]; exact wordsOfLen_ne_zero _
      obtain ⟨k, rfl⟩ := Nat.exists_eq_succ_of_ne_zero hpos
      exact ⟨hw.wellFormed, hw.2⟩
  · obtain ⟨hn, hle, -⟩ := hasWords_of_decodeWords h
    exact ⟨hn.trans (wordsOfLen_headOf w0), hle⟩

/-- Settles O54: the decoder evaluated on the seven lists of words. -/
theorem sampleWordsDecode : Obligations.SampleWordsDecode :=
  ⟨rfl, rfl, rfl, rfl, rfl, rfl, rfl⟩

end Sys2Proof
end

section
/-! A step runs the instruction that the words at the PC decode to (03 R56, R57, R78; 15 R345; 19 R422): streams brought into
focus, the words fetched, the issue of the focus stream, issue slots, and the turn that judges streams. -/
namespace Sys2Proof.Machine

/-! ## Streams brought into focus -/

theorem mem_insertWave {v w : Wave} {l : List Wave} : v ∈ insertWave w l ↔ v = w ∨ v ∈ l := by
  induction l with
  | nil => simp [insertWave]
  | cons x xs ih =>
    unfold insertWave
    split
    · simp
    · simp only [List.mem_cons, ih]
      tauto

section
variable {s s' : State} {core slot : Nat} {st : Stream} (h : s.focus core slot st = some s')
include h

/-- The wave in focus already, or one that another slot holds. -/
theorem State.focus_cases : (s.w.core = core ∧ s.w.slot = slot ∧ s' = { s with st := st })
    ∨ ∃ w ∈ s.waves, w.core = core ∧ w.slot = slot ∧ s' = { s with
        w := w, st := st, waves := insertWave s.w (s.waves.filter (fun x => !(x.core == core && x.slot == slot))) } := by
  unfold State.focus at h
  split at h
  next hw =>
    cases h
    exact .inl ⟨hw.1, hw.2, rfl⟩
  next =>
    cases hf : s.waves.find? (fun w => w.core == core && w.slot == slot) with
    | none => simp [hf] at h
    | some w =>
      have hw : w.core = core ∧ w.slot = slot := by simpa using List.find?_some hf
      rw [hf] at h
      cases h
      exact .inr ⟨w, List.mem_of_find?_eq_some hf, hw.1, hw.2, rfl⟩

theorem State.focus_frame : s' = { s with w := s'.w, waves := s'.waves, st := st } := by
  rcases State.focus_cases h with ⟨-, -, rfl⟩ | ⟨w, -, -, -, rfl⟩ <;> rfl

theorem State.focus_st : s'.st = st := by
  rw [State.focus_frame h]

theorem State.focus_core_slot : s'.w.core = core ∧ s'.w.slot = slot := by
  rcases State.focus_cases h with ⟨hc, hs, rfl⟩ | ⟨w, -, hc, hs, rfl⟩ <;> exact ⟨hc, hs⟩

theorem State.mem_allWaves_of_focus {w : Wave} (hw : w ∈ s'.allWaves) : w ∈ s.allWaves := by
  rcases State.focus_cases h with ⟨-, -, rfl⟩ | ⟨v, hv, -, -, rfl⟩
  · exact hw
  · simp only [State.allWaves, List.mem_cons, mem_insertWave, List.mem_filter] at hw ⊢
    rcases hw with rfl | rfl | ⟨hw, -⟩
    · exact .inr hv
    · exact .inl rfl
    · exact .inr hw
end

/-! ## The words at the PC (03 R57; 15 R345; 19 R422) -/

theorem State.codeWord_of_checked {s : State} {va pa : Nat} {w : Word} (hm : s.w.mgmt = false) (hchk : s.pageChk va = 1)
    (hx : s.xlate s.w.core va permEX = .ok pa) (hv : memVal s.mem pa 4 = w.toNat) : s.codeWord va = .ok w := by
  simp [State.codeWord, State.fetchWord, hm, hchk, hx, hv]

theorem State.codeWords_of_forall {s : State} {ws : List Word} {va : Nat}
    (h : ∀ k < ws.length, s.codeWord (va + 4 * k) = .ok (ws.getD k 0#32)) : s.codeWords va ws.length = .ok ws := by
  induction ws generalizing va with
  | nil => rfl
  | cons w ws ih =>
    have hw : s.codeWord va = .ok w := h 0 (Nat.succ_pos _)
    have hws : s.codeWords (va + 4) ws.length = .ok ws := ih fun k hk => by
      have hk1 := h (k + 1) (Nat.succ_lt_succ hk)
      rwa [show va + 4 * (k + 1) = va + 4 + 4 * k by omega] at hk1
    simp only [List.length_cons, State.codeWords, hw, hws]

theorem State.fetch_of_forall {s : State} {ws : List Word} (hne : ws ≠ [])
    (hlen : ws.length = wordsOfLen (headOf (ws.headD 0#32)).len)
    (hw : ∀ k < ws.length, s.codeWord (s.w.pcOf s.st + 4 * k) = .ok (ws.getD k 0#32))
    (hs : ∀ k < ws.length, s.w.inSection s.st (s.w.pcOf s.st + 4 * k) = true) : s.fetch = .ok ws := by
  cases ws with
  | nil => exact absurd rfl hne
  | cons w0 ws =>
    have hhead : s.codeWord (s.w.pcOf s.st) = .ok w0 := hw 0 (Nat.succ_pos _)
    have htail : s.codeWords (s.w.pcOf s.st + 4) ws.length = .ok ws := State.codeWords_of_forall fun k hk => by
      have hk1 := hw (k + 1) (Nat.succ_lt_succ hk)
      rwa [show s.w.pcOf s.st + 4 * (k + 1) = s.w.pcOf s.st + 4 + 4 * k by omega] at hk1
    have hn : wordsOfLen (headOf w0).len = ws.length + 1 := hlen.symm
    have hin : (List.range (ws.length + 1)).all (fun i => s.w.inSection s.st (s.w.pcOf s.st + 4 * i)) = true :=
      List.all_eq_true.mpr fun k hk => hs k (List.mem_range.mp hk)
    simp only [State.fetch, hhead, hn, Nat.add_sub_cancel, htail, hin, Bool.not_true, Bool.and_false, Bool.false_eq_true,
      if_false]

/-! ## What a fetch keeps: a leaf in the TLB of the core (15 R347) -/

theorem core_modCore_tlb {s : State} {f : Core → Core} (c d : Nat) (hf : ∀ x, f x = { x with tlb := (f x).tlb }) :
    (s.modCore c f).core d = { s.core d with tlb := ((s.modCore c f).core d).tlb } := by
  simp only [State.core, State.modCore_cores, modAt_eq_modify, List.getD_eq_getElem?_getD, List.getElem?_modify]
  by_cases h : c = d
  · cases hd : s.cores[d]? with
    | none => simp [h]
    | some x => simpa [h, hd] using hf x
  · simp [h]

theorem State.tlbFill_frame (s : State) (core va : Nat) : s.tlbFill core va = { s with cores := (s.tlbFill core va).cores }
    ∧ ∀ c, (s.tlbFill core va).core c = { s.core c with tlb := ((s.tlbFill core va).core c).tlb } := by
  unfold State.tlbFill
  split
  case h_1 e _ =>
    refine ⟨rfl, fun c => core_modCore_tlb core c fun x => ?_⟩
    split <;> rfl
  case h_2 => exact ⟨rfl, fun _ => rfl⟩

theorem State.fetched_frame (s : State) : s.fetched = { s with cores := s.fetched.cores }
    ∧ ∀ c, s.fetched.core c = { s.core c with tlb := (s.fetched.core c).tlb } := by
  unfold State.fetched
  split
  · exact ⟨rfl, fun _ => rfl⟩
  · exact State.tlbFill_frame s _ _

theorem State.undecoded_fetched (s : State) (w0 : Word) : s.fetched.undecoded w0
    = s.fetched.stopWith w0 (.trap 0x01 (if s.st = .lane then s.w.exec else 0) 0 0) := by
  have hw : s.fetched.w = s.w := by rw [(State.fetched_frame s).1]
  have hst : s.fetched.st = s.st := by rw [(State.fetched_frame s).1]
  rw [State.undecoded, State.fetchLanes, hw, hst]
  cases s.st <;> rfl

/-! ## The focus stream issues -/

theorem State.runFocus_closed {s : State} (h : s.mayIssue = false) : s.runFocus = .next { s with stalled := true } := by
  simp [State.runFocus, h]

theorem State.runFocus_decoded {s : State} {ws : List Word} {i : Instr} {n : Nat} (hm : s.mayIssue = true)
    (hf : s.fetch = .ok ws) (hd : decodeWords ws = .ok (i, n)) : s.runFocus = exec i s.fetched := by
  simp [State.runFocus, hm, hf, hd]

theorem State.runFocus_undecoded {s : State} {ws : List Word} {e : DecodeError} (hm : s.mayIssue = true)
    (hf : s.fetch = .ok ws) (hd : decodeWords ws = .error e) :
    s.runFocus = .next (s.fetched.undecoded (ws.headD 0#32)) := by
  simp [State.runFocus, hm, hf, hd]

/-! ## Turns -/

theorem step_of_agenda {s : State} {t : Turn} {rest : List Turn} (h : s.agenda = t :: rest) :
    step s = ({ s with agenda := rest, stalled := false } : State).turn t := by
  simp only [step, h]

theorem State.turn_issue {s s' : State} {core slot : Nat} {st : Stream} (h : s.focus core slot st = some s') :
    s.turn (.issue core slot st) = s'.runFocus := by
  simp only [State.turn, h]

theorem State.fillSlot_issued {s s' t : State} {core x : Nat} {st : Stream} {l : List Nat}
    (hf : s.focus core x st = some s') (hr : s'.runFocus = .next t) (ht : t.stalled = false) :
    s.fillSlot core st (x :: l) = .next (t.modWave core x (fun w => w.attempt st .issued)) := by
  simp [State.fillSlot, hf, hr, ht]

/-- With an empty agenda a step is the first turn of a round. -/
theorem step_of_round {s : State} (ha : s.agenda = []) (hr : s.round ≠ []) :
    step s = step { s with agenda := s.round } := by
  obtain ⟨t, rest, h⟩ := List.exists_cons_of_ne_nil hr
  rw [step_of_agenda (s := { s with agenda := s.round }) h]
  simp only [step, ha, h]

/-! ## Streams judged (02 R22, R53) -/

/-- Only how streams stand, and what the management core is asked for, differ. -/
def JudgedOnly (s t : State) : Prop := t = { s with w := t.w, waves := t.waves, mgmtPending := t.mgmtPending }

theorem JudgedOnly.refl (s : State) : JudgedOnly s s := rfl

theorem JudgedOnly.trans {s t u : State} (h : JudgedOnly s t) (h' : JudgedOnly t u) : JudgedOnly s u := by
  unfold JudgedOnly at *
  rw [h', h]

theorem JudgedOnly.asks {s t : State} (h : JudgedOnly s t) (p : List Nat) : JudgedOnly s { t with mgmtPending := p } := by
  unfold JudgedOnly at *
  rw [h]

theorem judgedOnly_modWave (s : State) (c slot : Nat) (f : Wave → Wave) : JudgedOnly s (s.modWave c slot f) := by
  unfold JudgedOnly State.modWave
  split <;> rfl

theorem judgedOnly_judge (s : State) (c slot : Nat) (st : Stream) : JudgedOnly s (s.judge c slot st) := by
  unfold State.judge
  split
  · exact JudgedOnly.refl s
  · dsimp only
    split
    · exact judgedOnly_modWave _ _ _ _
    · split
      · exact (judgedOnly_modWave _ _ _ _).asks _
      · exact judgedOnly_modWave _ _ _ _

theorem judgedOnly_judgeAll (s : State) (c : Nat) (slots : List Nat) : JudgedOnly s (s.judgeAll c slots) := by
  induction slots generalizing s with
  | nil => exact JudgedOnly.refl s
  | cons x rest ih => exact ((judgedOnly_judge s c x .lead).trans (judgedOnly_judge _ c x .lane)).trans (ih _)

/-! ## The obligation on steps -/

/-- Settles O56: an issue turn by the three lemmas of `State.runFocus`, a slot by `State.fillSlot_issued`, the turn that
judges by `judgedOnly_judgeAll`, the words by `State.fetch_of_forall`. -/
theorem stepRunsDecodedInstruction : Obligations.StepRunsDecodedInstruction := by
  refine ⟨?_, ?_, ?_, ?_, ?_, State.fetched_frame, fun s => step_of_round, ?_⟩
  · intro s core slot st rest s' ha hf
    have hstep : step s = s'.runFocus := (step_of_agenda ha).trans (State.turn_issue hf)
    refine ⟨fun hm => ?_, fun ws i n hm hw hd => ?_, fun w0 ws e hm hw hd => ?_⟩
    · rw [hstep, State.runFocus_closed hm]
    · rw [hstep, State.runFocus_decoded hm hw hd]
    · rw [hstep, State.runFocus_undecoded hm hw hd, State.undecoded_fetched, State.focus_st hf, List.headD_cons]
  · intro s s' t core x st rest l ws i n ha s0
    have hstep : step s = s0.fillSlot core st (s0.candidates core st) := step_of_agenda ha
    refine ⟨fun hc => ?_, fun hc hf hm hw hd he ht => ?_⟩
    · rw [hstep, hc]
      rfl
    · rw [hstep, hc, State.fillSlot_issued hf ((State.runFocus_decoded hm hw hd).trans he) ht]
  · intro s core rest ha
    exact ⟨_, step_of_agenda ha, judgedOnly_judgeAll _ _ _⟩
  · intro s s' core slot st h
    obtain ⟨hc, hs⟩ := State.focus_core_slot h
    exact ⟨State.focus_frame h, hc, hs, fun _ => State.mem_allWaves_of_focus h⟩
  · intro s ws pa hm hne hlen h
    refine State.fetch_of_forall hne (hlen.trans (wordsOfLen_headOf _).symm) (fun k hk => ?_) (fun k hk => (h k hk).1)
    obtain ⟨-, hchk, hx, hv⟩ := h k hk
    exact State.codeWord_of_checked hm hchk hx hv
  · intro s i rest ha he
    rw [step_of_agenda ha]
    simp [State.turn, he]

end Sys2Proof.Machine
end

section
/-! The special registers of a wave and of the management core, written as steps of their own, and what the management core
executes and how it takes and leaves its faults (03 R80; 04 R100 to R102; 18 R407, R408, R412, R417; 20 R439). -/
namespace Sys2Proof.Machine
open Sys2Proof.Claims

/-! ## The management core -/

/-- The management core pays no charge (18 R411). -/
theorem covered_of_mgmt {s : State} (h : s.w.mgmt = true) (weight : Nat) : s.covered weight = true := by
  simp [State.covered, h]

theorem billed_of_mgmt {s : State} (h : s.w.mgmt = true) (weight : Nat) : s.billed weight = s := by
  simp [State.billed, h]

theorem issued_of_mgmt {s : State} (h : s.w.mgmt = true) (weight : Nat) :
    s.issued weight = s.modW (fun w => { w.attempt s.st .issued with deadlock := 0, refused := none }) := by
  simp [State.issued, billed_of_mgmt h]

/-- A legal instruction of the management core whose body acts ends in the body's state. -/
theorem issue_of_mgmtBody {s t : State} {i : Instr} {st : Option Stream} {kmask weight : Nat} {body : State → R State}
    (hm : s.w.mgmt = true) (h5 : s.stalled = false) (h1 : s.mayIssue = true) (ha : mgmtAllowed i = true)
    (hst : st.getD s.st = s.st) (hb : body s = .ok t) (ht : t.stalled = false) :
    s.issue i st kmask weight none body = .next (t.issued weight) := by
  have he : s.encStop i st kmask none = none := by simp [State.encStop, hst, ha]
  simp [issue_eq h5, h1, he, hb, covered_of_mgmt hm, ht]

/-- The opcode of an extended form, with a literal or without, is the one that it was encoded with (03 R56). -/
theorem headOf_encExt (major : BitVec 6) (minor : BitVec 3) (hi : BitVec 21) (w1 w2 : Word) (lit : Option Dword) :
    ∃ len, headOf ((encExt major minor hi w1 w2 lit).headD 0#32) = { len := len, major := major, minor := minor, hi := hi } := by
  cases lit with
  | none => exact ⟨_, headOf_headWord _⟩
  | some l => exact ⟨_, headOf_headWord _⟩

theorem mgmtAllowed_eret (f : XsF) : mgmtAllowed (.eret f) = true := by
  obtain ⟨len, hw⟩ : ∃ len, headOf (Instr.eret f).word0 = { len := len, major := 62#6, minor := 1#3, hi := f.hi } :=
    headOf_encExt _ _ _ _ _ _
  simp [mgmtAllowed, Instr.major, Instr.minor, hw]

/-- ERET on the management core is legal wherever its encoding is (17 R399). -/
theorem exec_eret_of_mgmt {s : State} {f : XsF} (hm : s.w.mgmt = true) (hl : s.st = .lead) (h5 : s.stalled = false)
    (h1 : s.mayIssue = true) (hf : legalEret .lead f = none) : exec (.eret f) s = .next (s.mgmtReturn.issued 8) := by
  have hx : opcodeFirst [legalEret s.st f, s.eretHere] = none := by
    rw [hl, hf, State.eretHere, if_pos hm]
    rfl
  have hb : eretBody f s = .ok s.mgmtReturn := if_pos hm
  show s.issue (.eret f) none f.kmask.toNat 8 (opcodeFirst [legalEret s.st f, s.eretHere]) (eretBody f) = _
  rw [hx]
  exact issue_of_mgmtBody hm h5 h1 (mgmtAllowed_eret f) rfl hb h5

theorem takeTrap_of_mgmt {s : State} (h : s.w.mgmt = true) (t : Trap) : s.takeTrap t = s.mgmtFault t := if_pos h

theorem mgmtFault_of_disabled {s : State} (h : s.mgmtIe = false) (t : Trap) :
    s.mgmtFault t = { s with mgmtHalted := true, devstat := putBit s.devstat 1 true } := by
  simp [State.mgmtFault, h]

/-- Settles O33: an instruction outside the set by `issue_of_mgmt`, a fault by the two branches of `State.mgmtFault`, ERET by
`exec_eret_of_mgmt`. -/
theorem managementCore : Obligations.ManagementCore := by
  refine ⟨?_, ?_, ?_, ?_⟩
  · intro i s hi hm hl h5 h1 ha
    obtain ⟨st, kmask, weight, legal, body, hx⟩ := isIssue_encoded i s hi
    rw [hx, issue_of_mgmt hm h5 h1 ha, encLanes_of_lead hl]
    rfl
  · intro s t hm hie
    exact (takeTrap_of_mgmt hm t).trans (if_pos hie)
  · intro s t hm hie
    rw [takeTrap_of_mgmt hm, mgmtFault_of_disabled hie]
    exact ⟨rfl, (bit_putBit _ _ _ _).trans (if_pos rfl), rfl, fun _ => rfl⟩
  · intro f s hm hl h5 h1 hf
    refine ⟨_, exec_eret_of_mgmt hm hl h5 h1 hf, ?_⟩
    have hr : s.mgmtReturn.w.mgmt = true := hm
    rw [issued_of_mgmt hr]
    simp [State.mgmtReturn, hl, Wave.attempt]

/-! ## TALERT (18 R408, R417) -/

theorem bit_foldl_or (ls : List Nat) (m i : Nat) :
    bit (ls.foldl (fun m l => m ||| (1 <<< l)) m) i = (bit m i || decide (i ∈ ls)) := by
  induction ls generalizing m with
  | nil => simp
  | cons l ls ih =>
    have hl : bit (m ||| (1 <<< l)) i = (bit m i || decide (i = l)) := by
      simp [bit_eq_testBit, Nat.testBit_or, Nat.one_shiftLeft, Nat.testBit_two_pow, eq_comm]
    rw [List.foldl_cons, ih, hl]
    simp [Bool.or_assoc]

theorem bit_maskOf (ls : List Nat) (i : Nat) : bit (maskOf ls) i = decide (i ∈ ls) := by
  rw [maskOf, bit_foldl_or]
  simp [bit_eq_testBit]

/-- The places of a list whose elements pass a test that its default fails. -/
theorem mem_places_iff {β : Type} (l : List β) (p : β → Bool) (d : β) (hd : p d = false) (i : Nat) :
    i ∈ (l.zipIdx.filter (fun x => p x.1)).map (fun x => x.2) ↔ p (l.getD i d) = true := by
  rw [List.getD_eq_getElem?_getD]
  cases h : l[i]? <;> simp [List.mem_zipIdx_iff_getElem?, h, hd]

/-- A bit of TALERT after a write of v: it stands where v has 0, or where a sample of the cycle has set it. -/
theorem bit_writeTalert (s : State) (v i : Nat) (hi : i < 24) :
    bit (s.writeTalert v).talert i = (bit s.talert i && (!v.testBit i || (s.cluster i).alerted)) := by
  have hnew := bit_maskOf ((s.clusters.zipIdx.filter (fun p => p.1.alerted)).map (fun p => p.2)) i
  simp only [mem_places_iff s.clusters (·.alerted) Cluster.reset rfl i] at hnew
  simp only [bit_eq_testBit] at hnew ⊢
  simp only [State.writeTalert, Nat.testBit_and, Nat.testBit_or, Nat.testBit_xor, Nat.testBit_two_pow_sub_one,
    Nat.testBit_mod_two_pow, hi, decide_true, Bool.true_and, Bool.true_xor, hnew, Bool.decide_eq_true]
  rfl

/-! ## Numbered writes (04 R100 to R102) -/

theorem waveWrites_iff (w : Wave) (st : Stream) (n : Nat) :
    waveWrites w st n = true ↔ (n = 0x007 ∧ st = .lane) ∨ (0x009 ≤ n ∧ n ≤ 0x00E ∧ w.inTrap = true) := by
  simp [waveWrites, and_assoc]

/-- A register that a wave may write is one of its own (04 R100). -/
theorem writeSr_of_waveWrites {s : State} {st : Stream} {n : Nat} (h : waveWrites s.w st n = true) (v : Nat) :
    s.writeSr n v = s.modW (srStored n v) := by
  rcases (waveWrites_iff _ _ _).mp h with ⟨rfl, -⟩ | ⟨hlo, hhi, -⟩
  · rfl
  · interval_cases n <;> rfl

theorem exec_specialRegisterWrite_of_wave {s : State} (hm : s.w.mgmt = false) (n : BitVec 9) (v : Dword) :
    exec (.specialRegisterWrite n v) s = .next
      (if waveWrites s.w s.st n.toNat = true ∧ v.toNat < srLimit s.w n.toNat then s.writeSr n.toNat v.toNat else s) := by
  show execSpecialRegisterWrite n v s = _
  simp [execSpecialRegisterWrite, hm]

theorem exec_specialRegisterWrite_of_mgmt {s : State} {n : BitVec 9} {v : Dword} (hm : s.w.mgmt = true)
    (hw : mgmtWrites n.toNat = true) (hlo : mgmtLow n.toNat ≤ v.toNat) (hhi : v.toNat < mgmtLimit n.toNat) :
    exec (.specialRegisterWrite n v) s = .next (s.writeSr n.toNat v.toNat) := by
  show execSpecialRegisterWrite n v s = _
  simp [execSpecialRegisterWrite, hm, hw, hlo, hhi]

/-- Settles O34: a bit of TALERT by `bit_writeTalert`, a wave's numbered write by `writeSr_of_waveWrites`, each other write
by its own definition. -/
theorem registerWriteSteps : Obligations.RegisterWriteSteps := by
  refine ⟨fun v s => ?_, fun g v s => ?_, fun v s => ?_, fun g v s => ?_, fun v s => rfl, fun n v s hm => ?_, fun v s hm => ?_⟩
  · have hw : waveWrites s.w .lane 0x007 = true := (waveWrites_iff _ _ _).mpr (.inl ⟨rfl, rfl⟩)
    show execRndmodeWrite v s = _
    simp only [execRndmodeWrite, hw, writeSr_of_waveWrites hw, Bool.true_and, decide_eq_true_eq]
    rfl
  · have hv : min v.toNat 6 = if v.toNat = 7 then 6 else v.toNat := by split <;> omega
    show execThrottleWrite g v s = _
    rw [← hv]
    rfl
  · exact ⟨_, rfl, fun i hi => bit_writeTalert s v.toNat i hi⟩
  · have hv : v.toNat % 8 = v.toNat := Nat.mod_eq_of_lt v.isLt
    show execCbiasWrite g v s = _
    rw [execCbiasWrite, State.writeCbias, hv]
  · refine (exec_specialRegisterWrite_of_wave hm n v).trans (congrArg Host.Outcome.next ?_)
    simp only [← waveWrites_iff]
    split
    · next h => exact writeSr_of_waveWrites h.1 _
    · rfl
  · exact ⟨exec_specialRegisterWrite_of_mgmt (n := 0x062) hm (by decide) (Nat.zero_le _),
      exec_specialRegisterWrite_of_mgmt (n := 0x061) hm (by decide) (Nat.zero_le _),
      exec_specialRegisterWrite_of_mgmt (n := 0x018) hm (by decide) (Nat.zero_le _),
      exec_specialRegisterWrite_of_mgmt (n := 0x080) hm (by decide) (Nat.zero_le _)⟩

end Sys2Proof.Machine
end

section
/-! The sign word of a block and the elements that it negates (00 R7; 05 R127; 06 R154). -/
namespace Sys2Proof.Machine
open Sys2Proof.Claims

theorem toNat_xorShift (x : Word) (k : Nat) : (x ^^^ (x >>> k)).toNat = x.toNat ^^^ (x.toNat >>> k) := by
  rw [BitVec.toNat_xor, BitVec.toNat_ushiftRight]

theorem toNat_mul_ofNat (x : Word) (c : Nat) : (x * BitVec.ofNat 32 c).toNat = (x.toNat * c) % 2 ^ 32 := by
  rw [BitVec.toNat_mul, BitVec.toNat_ofNat, Nat.mul_mod_mod]

/-- The model's `mix32` of numbers is that of 32-bit words (00 R7). -/
theorem mix32_toNat (x : Word) : mix32 x.toNat = (mix x).toNat := by
  simp only [mix32, mix, toNat_xorShift, toNat_mul_ofNat, Nat.mod_eq_of_lt x.isLt]

theorem signWord_toNat (seed block : Word) :
    signWord seed.toNat block.toNat = (mix (seed ^^^ (block * 0x9E3779B1#32))).toNat := by
  have hx : (seed ^^^ (block * 0x9E3779B1#32)).toNat = seed.toNat ^^^ (block.toNat * 0x9E3779B1) % 2 ^ 32 := by
    rw [BitVec.toNat_xor, toNat_mul_ofNat]
  rw [signWord, ← hx, Nat.mod_eq_of_lt (BitVec.isLt _), mix32_toNat]

/-- Negating an FP32 element changes its bit 31 alone. -/
theorem fNegBits_f32 {b : Nat} (hb : b < 2 ^ 32) : fNegBits .f32 b = b ^^^ 2 ^ 31 :=
  congrArg (· ^^^ 2 ^ 31) (Nat.mod_eq_of_lt hb)

theorem getD_applySigns (h : Nat) (y : List Nat) {l : Nat} (hl : l < 32) :
    (applySigns h y).getD l 0 = if bit h l then fNegBits .f32 (y.getD l 0) else y.getD l 0 := by
  simp [applySigns, List.getD_eq_getElem?_getD, hl]

/-- Settles O60: the sign word by `mix32_toNat`, the elements by `getD_applySigns` and `fNegBits_f32`; HADQ's forward form
applies these signs by its definition. -/
theorem blockSignsFlipElements : Obligations.BlockSignsFlipElements := by
  refine ⟨signWord_toNat, fun h y l hl hy => ?_, fun _ _ _ _ => rfl⟩
  rw [getD_applySigns h y hl, fNegBits_f32 hy]

end Sys2Proof.Machine
end

section
/-! What a lane form leaves, whatever its effect on its wave, and which lanes its claims speak of (06 R131, R136). -/
namespace Sys2Proof.Machine
open Sys2Proof.Claims

/-! ## Issuing a lane form -/

/-- The registers of a state's wave that a lane form may change are those of `w'`. -/
def RegsAre (t : State) (w' : Wave) : Prop :=
  t.w.v = w'.v ∧ t.w.sect = w'.sect ∧ t.w.kreg = w'.kreg ∧ t.w.exec = w'.exec ∧ t.w.rq = w'.rq

/-- The state that a lane form's body leaves: its effect, the entries of the queues popped, and the PC moved. -/
def laneAfter (s : State) (words : Nat) (srcs : List Nat) (eff : Wave → Wave) : State :=
  (s.modW (fun w => (eff w).popUsed srcs)).advance words

theorem laneAfter_issued {s : State} {weight : Nat} {eff : Wave → Wave} (words : Nat) (srcs : List Nat)
    (h : Issues s .lane weight) (heff : RegsOnly s.w (eff s.w)) :
    OnlyWave s ((laneAfter s words srcs eff).issued weight) weight
      ∧ LaneFrame s ((laneAfter s words srcs eff).issued weight) words srcs
      ∧ RegsAre ((laneAfter s words srcs eff).issued weight) (eff s.w) := by
  obtain ⟨-, hst, hm, -, -⟩ := h
  refine ⟨onlyWave_of_modW s _ words weight ?_ ?_, laneFrame_of s eff srcs words weight hst heff⟩
  · rw [popUsed_eq, heff]; exact hm
  · rw [popUsed_eq, heff]

/-- A lane form that comes to `laneForm` completes with its effect. -/
theorem laneIssue_next {s : State} {i : Instr} {weight words kmask : Nat} {sp : XaSpec} {f : XaF} {more : List Nat}
    {eff : Wave → Nat → Wave} {body : State → R State} (h : Issues s .lane weight) (hok : LaneOk s sp f more)
    (hb : body s = s.laneForm words sp f more eff) (heff : RegsOnly s.w (eff s.w (s.w.active f.kmask.toNat))) :
    ∃ t, s.issue i (some .lane) kmask weight none body = .next t ∧ OnlyWave s t weight
      ∧ LaneFrame s t words (s.w.xaSrcs sp f ++ more) ∧ RegsAre t (eff s.w (s.w.active f.kmask.toNat)) :=
  ⟨_, issue_of_body h rfl (hb.trans (laneForm_ok words eff hok)) h.2.2.2.2,
    laneAfter_issued (eff := fun w => eff w (s.w.active f.kmask.toNat)) words _ h heff⟩

/-- An extended form that no fault stops is issued without one. -/
theorem laneXAIf_legal {s : State} {i : Instr} {weight : Nat} {sp : XaF → XaSpec} {f : XaF}
    {body : State → Nat → XaSpec → XaF → R State} (hl : legalXa (sp f) f = none)
    (hr : s.w.dynRandFault (sp f) f = false) :
    s.laneXAIf i weight sp f none body =
      s.issue i (some .lane) f.kmask.toNat weight none (fun s => body s (xaWords f) (sp f) f) := by
  rw [State.laneXAIf, hl, hr]
  rfl

theorem legalXa_of_legalBa {sp : XaF → XaSpec} {ty : Nat} {b : BaF} (h : legalBa sp ty b = none) :
    legalXa (sp (xaOfBa ty b)) (xaOfBa ty b) = none := by
  rw [legalBa, Option.orElse_eq_or, Option.or_eq_none_iff] at h
  exact h.2

/-- An extended form whose effect is a change of its wave's registers. -/
theorem xaDoes_of {i : XaF → Instr} {weight : Nat} {sp : XaF → XaSpec} {body : State → Nat → XaSpec → XaF → R State}
    {eff : XaF → Wave → Nat → Wave} {claim : XaF → State → State → Prop}
    (hexec : ∀ f s, exec (i f) s = s.laneXA (i f) weight sp f body)
    (hbody : ∀ (s : State) words f, body s words (sp f) f = s.laneForm words (sp f) f [] (eff f))
    (hregs : ∀ f w act, RegsOnly w (eff f w act))
    (hclaim : ∀ f s t, legalXa (sp f) f = none → RegsAre t (eff f s.w (s.w.active f.kmask.toNat)) → claim f s t) :
    XaDoes i weight sp claim := by
  intro f s h hl hok
  obtain ⟨t, ht, hw, hf, hr⟩ := laneIssue_next (i := i f) (kmask := f.kmask.toNat)
    (body := fun s => body s (xaWords f) (sp f) f) h hok (hbody s (xaWords f) f)
    (hregs f s.w _)
  exact ⟨t, by rw [hexec, State.laneXA, laneXAIf_legal hl hok.1]; exact ht, hw, by simpa using hf, hclaim f s t hl hr⟩

/-- A base form whose effect is a change of its wave's registers. -/
theorem baDoes_of {i : BaF → Instr} {weight ty : Nat} {sp : XaF → XaSpec} {body : State → Nat → XaSpec → XaF → R State}
    {eff : XaF → Wave → Nat → Wave} {claim : XaF → State → State → Prop}
    (hexec : ∀ f s, exec (i f) s = s.laneBA (i f) weight sp ty f body)
    (hbody : ∀ (s : State) words f, body s words (sp f) f = s.laneForm words (sp f) f [] (eff f))
    (hregs : ∀ f w act, RegsOnly w (eff f w act))
    (hclaim : ∀ f s t, legalXa (sp f) f = none → RegsAre t (eff f s.w (s.w.active f.kmask.toNat)) → claim f s t) :
    BaDoes i weight sp ty claim := by
  intro b s f h hl hok
  obtain ⟨t, ht, hw, hf, hr⟩ := laneIssue_next (i := i b) (kmask := 0)
    (body := fun s => body s (baWords b) (sp f) f) h hok (hbody s (baWords b) f) (hregs f s.w _)
  exact ⟨t, by rw [hexec, State.laneBA, hl]; exact ht, hw, by simpa using hf,
    hclaim f s t (legalXa_of_legalBa hl) hr⟩

/-! ## A result per lane matters in the wave's lanes only -/

theorem lanes_of_width16 {w : Wave} (h : w.width = 16) : w.lanes = 32 := by simp [Wave.lanes, h]

theorem lowestVal_congr {m n : Nat} {f g : Nat → Nat} (h : ∀ l, l < n → f l % 2 ^ 32 = g l % 2 ^ 32) :
    lowestVal m n f = lowestVal m n g := by
  unfold lowestVal
  split
  · next l hl => exact h l (by simpa using List.mem_of_find?_eq_some hl)
  · rfl

theorem rqEntry_congr_lanes {w : Wave} {act : Nat} {f g : Nat → Nat}
    (h : ∀ l, l < w.lanes → f l % 2 ^ 32 = g l % 2 ^ 32) : w.rqEntry act f = w.rqEntry act g := by
  unfold Wave.rqEntry
  split
  · next h16 =>
    rw [lanes_of_width16 h16] at h
    rw [lowestVal_congr h, lowestVal_congr h]
  · exact lowestVal_congr h

theorem laneWord_congr {s t : State} {d m : Nat} {f g : Nat → Nat}
    (h : ∀ l, l < s.w.lanes → f l % 2 ^ 32 = g l % 2 ^ 32) (hf : LaneWord s t d m f) : LaneWord s t d m g := by
  obtain ⟨hv, hrq, hk, he, hs⟩ := hf
  refine ⟨fun r l hl => ?_, by rw [hrq, rqEntry_congr_lanes h], hk, he, hs⟩
  rw [hv r l hl]
  split
  · next hc => exact h l hc.2.1
  · rfl

/-- A result per lane written to a form's destination. -/
theorem laneWord_of_writeDst {s t : State} {d m : Nat} {f g : Nat → Nat} (ht : RegsAre t (s.w.writeDst d m f))
    (h : ∀ l, l < s.w.lanes → f l % 2 ^ 32 = g l % 2 ^ 32) : LaneWord s t d m g := by
  obtain ⟨hv, hs, hk, he, hr⟩ := ht
  exact laneWord_congr h (laneWord_of s t d m f f (fun _ _ => rfl) hv hs hk he hr)

end Sys2Proof.Machine
end

section
/-! The integer forms of the lane stream give their results (06 R137 to R139; 05 R108). -/
namespace Sys2Proof.Machine
open Sys2Proof.Claims

/-! ## Sources as words and as integers -/

theorem srcT_lt (w : Wave) (lit : Option Dword) (ix : Nat) {l : Nat} (hl : l < 64) : w.srcT lit 6 ix l < 2 ^ 32 := by
  unfold Wave.srcT
  split
  case h_1 => exact BitVec.isLt _
  case h_2 => split <;> [exact BitVec.isLt _; decide]
  case h_3 => split <;> [exact BitVec.isLt _; decide]
  case h_4 => decide
  case h_5 => omega
  case h_6 => exact BitVec.isLt _
  case h_7 => exact Nat.mod_lt _ (by decide)
  case h_8 i _ => show (i % ((2 ^ 32 : Nat) : Int)).toNat < 2 ^ 32; omega
  case h_9 => decide

section
variable (f : XaF) (w : Wave) {l : Nat} (hl : l < 64)
include hl
theorem toNat_aB : (aB f w l).toNat = f.aT 6 w l := Nat.mod_eq_of_lt (srcT_lt w f.lit _ hl)
theorem toNat_bB : (bB f w l).toNat = f.bT 6 w l := Nat.mod_eq_of_lt (srcT_lt w f.lit _ hl)
theorem toNat_cB : (cB f w l).toNat = f.cT 6 w l := Nat.mod_eq_of_lt (srcT_lt w f.lit _ hl)
end

theorem sextN_eq_toInt (x n : Nat) : sextN x n = (BitVec.ofNat n x).toInt := by
  cases n with
  | zero => simp [sextN, Nat.mod_one, BitVec.toInt]
  | succ n =>
    have hp : 2 ^ (n + 1) = 2 * 2 ^ n := by ring
    simp only [sextN, BitVec.toInt_eq_toNat_cond, BitVec.toNat_ofNat, Nat.add_sub_cancel]
    split <;> split <;> omega

theorem intOf_eq_int32 (ty x : Nat) : intOf ty x = int32 ty x := by
  simp [intOf, int32, sextN_eq_toInt]

theorem wrapN_eq_ofInt (v : Int) (n : Nat) : wrapN v n = (BitVec.ofInt n v).toNat := by
  simp [wrapN, BitVec.toNat_ofInt]

theorem clampInt_eq_max_min {lo hi x : Int} (h : lo ≤ hi) : clampInt lo hi x = max lo (min x hi) := by
  unfold clampInt
  split_ifs <;> omega

theorem intRes_eq_fit32 (ty : Nat) (sat : Bool) (v : Int) : intRes ty sat v = fit32 ty sat v := by
  cases sat
  · simp [intRes, fit32, wrapN_eq_ofInt]
  · by_cases h : ty = 5 <;>
      simp [intRes, fit32, wrapN_eq_ofInt, intMin, intMax, h, clampInt_eq_max_min]

theorem wrapN_eq_fit32 (ty : Nat) (v : Int) : wrapN v 32 = fit32 ty false v := wrapN_eq_ofInt v 32

theorem aInt_eq (f : XaF) (w : Wave) (l : Nat) : f.aInt w l = aZ f w l := intOf_eq_int32 _ _
theorem bInt_eq (f : XaF) (w : Wave) (l : Nat) : f.bInt w l = bZ f w l := intOf_eq_int32 _ _
theorem cInt_eq (f : XaF) (w : Wave) (l : Nat) : f.cInt w l = cZ f w l := intOf_eq_int32 _ _

/-! ## Arithmetic -/

/-- Both encodings of a form whose result is `val` word for word. -/
theorem bothGive_eq {ba : BaF → Instr} {xa : XaF → Instr} {weight ty : Nat} {sp : XaF → XaSpec}
    {val val' : XaF → Wave → Nat → Nat}
    (hba : ∀ f s, exec (ba f) s = s.laneBA (ba f) weight sp ty f (mapBody val'))
    (hxa : ∀ f s, exec (xa f) s = s.laneXA (xa f) weight sp f (mapBody val'))
    (hval : ∀ f w l, l < 64 → val' f w l = val f w l) : BothGive ba xa weight sp ty val :=
  bothGive hba hxa (fun f w l hl => by rw [hval f w l hl])

theorem opIadd_eq (f : XaF) (w : Wave) (l : Nat) : opIadd f w l = fit32 f.ty f.isSat (aZ f w l + bZ f w l) := by
  rw [opIadd, intRes_eq_fit32, aInt_eq, bInt_eq]

theorem opIsub_eq (f : XaF) (w : Wave) (l : Nat) : opIsub f w l = fit32 f.ty f.isSat (aZ f w l - bZ f w l) := by
  rw [opIsub, intRes_eq_fit32, aInt_eq, bInt_eq]

theorem opImul_eq (f : XaF) (w : Wave) (l : Nat) : opImul f w l = fit32 f.ty f.isSat (aZ f w l * bZ f w l) := by
  rw [opImul, intRes_eq_fit32, aInt_eq, bInt_eq]

theorem opImulhi_eq (f : XaF) (w : Wave) (l : Nat) :
    opImulhi f w l = fit32 f.ty false ((aZ f w l * bZ f w l) / 2 ^ 32) := by
  rw [opImulhi, wrapN_eq_fit32 f.ty, aInt_eq, bInt_eq]
  rfl

theorem opImin_eq (f : XaF) (w : Wave) (l : Nat) : opImin f w l = fit32 f.ty false (min (aZ f w l) (bZ f w l)) := by
  rw [opImin, wrapN_eq_fit32 f.ty, aInt_eq, bInt_eq]

theorem opImax_eq (f : XaF) (w : Wave) (l : Nat) : opImax f w l = fit32 f.ty false (max (aZ f w l) (bZ f w l)) := by
  rw [opImax, wrapN_eq_fit32 f.ty, aInt_eq, bInt_eq]

theorem opImad_eq (f : XaF) (w : Wave) (l : Nat) :
    opImad f w l = fit32 f.ty f.isSat (aZ f w l * bZ f w l + cZ f w l) := by
  rw [opImad, intRes_eq_fit32, aInt_eq, bInt_eq, cInt_eq]

theorem laneIntegerArithmetic : LaneIntegerArithmetic :=
  ⟨bothGive_eq (fun _ _ => rfl) (fun _ _ => rfl) (fun f w l _ => opIadd_eq f w l),
   bothGive_eq (fun _ _ => rfl) (fun _ _ => rfl) (fun f w l _ => opIsub_eq f w l),
   bothGive_eq (fun _ _ => rfl) (fun _ _ => rfl) (fun f w l _ => opImul_eq f w l),
   bothGive_eq (fun _ _ => rfl) (fun _ _ => rfl) (fun f w l _ => opImulhi_eq f w l),
   bothGive_eq (fun _ _ => rfl) (fun _ _ => rfl) (fun f w l _ => opImin_eq f w l),
   bothGive_eq (fun _ _ => rfl) (fun _ _ => rfl) (fun f w l _ => opImax_eq f w l),
   xaDoes_map (fun _ _ => rfl) (fun f w l _ => congrArg (· % 2 ^ 32) (opImad_eq f w l))⟩

/-! ## Logic, shifts and rotation -/

/-- All ones without some bits. -/
theorem xor_allOnes_eq_toNat_not (x : BitVec 32) : 0xFFFFFFFF ^^^ x.toNat = (~~~x).toNat := by
  rw [← BitVec.allOnes_xor (x := x), BitVec.toNat_xor]; rfl

/-- A word turned to the left by `n` bits: the two parts share no bit. -/
theorem toNat_rotateLeft_eq_add (x : BitVec 32) {n : Nat} (hn : n < 32) :
    (x.rotateLeft n).toNat = (x.toNat <<< n) % 2 ^ 32 + x.toNat >>> (32 - n) := by
  have hp : 2 ^ 32 = 2 ^ (32 - n) * 2 ^ n := by rw [← Nat.pow_add]; congr 1; omega
  have hlow : x.toNat >>> (32 - n) < 2 ^ n := by
    rw [Nat.shiftRight_eq_div_pow, Nat.div_lt_iff_lt_mul (Nat.two_pow_pos _), Nat.mul_comm, ← hp]
    exact x.isLt
  have hhigh : (x.toNat <<< n) % 2 ^ 32 = (x.toNat % 2 ^ (32 - n)) <<< n := by
    rw [Nat.shiftLeft_eq, Nat.shiftLeft_eq, hp, Nat.mul_mod_mul_right]
  rw [BitVec.toNat_rotateLeft, Nat.mod_eq_of_lt hn, hhigh, Nat.shiftLeft_add_eq_or_of_lt hlow]

section
variable (f : XaF) (w : Wave) {l : Nat} (hl : l < 64)
include hl

theorem opAnd_eq : opAnd f w l = (aB f w l &&& bB f w l).toNat := by
  rw [BitVec.toNat_and, toNat_aB f w hl, toNat_bB f w hl]; rfl

theorem opOr_eq : opOr f w l = (aB f w l ||| bB f w l).toNat := by
  rw [BitVec.toNat_or, toNat_aB f w hl, toNat_bB f w hl]; rfl

theorem opXor_eq : opXor f w l = (aB f w l ^^^ bB f w l).toNat := by
  rw [BitVec.toNat_xor, toNat_aB f w hl, toNat_bB f w hl]; rfl

theorem opAndn_eq : opAndn f w l = (aB f w l &&& ~~~(bB f w l)).toNat := by
  rw [BitVec.toNat_and, ← xor_allOnes_eq_toNat_not, toNat_aB f w hl, toNat_bB f w hl]; rfl

theorem opShl_eq : opShl f w l = (aB f w l <<< (bB f w l).toNat).toNat := by
  simp only [opShl, toNat_bB f w hl]
  split
  · next h => rw [BitVec.shiftLeft_eq_zero h]; rfl
  · rw [BitVec.toNat_shiftLeft, toNat_aB f w hl]

theorem opShr_eq : opShr f w l = (aB f w l >>> (bB f w l).toNat).toNat := by
  simp only [opShr, toNat_bB f w hl]
  split
  · next h => rw [BitVec.ushiftRight_eq_zero h]; rfl
  · rw [BitVec.toNat_ushiftRight, toNat_aB f w hl]

theorem opSar_eq : opSar f w l = ((aB f w l).sshiftRight (bB f w l).toNat).toNat := by
  have ha : sextN (f.aT 6 w l) 32 = (aB f w l).toInt := sextN_eq_toInt _ _
  have hm : bit (f.aT 6 w l) 31 = (aB f w l).msb := by
    rw [bit_eq_testBit, ← toNat_aB f w hl, BitVec.msb_eq_getLsbD_last]; rfl
  simp only [opSar, toNat_bB f w hl, ha, hm]
  split
  · next h =>
    split
    · next hneg => rw [BitVec.sshiftRight_eq_of_msb_true hneg, BitVec.ushiftRight_eq_zero h]; rfl
    · next hpos =>
      rw [BitVec.sshiftRight_eq_of_msb_false (by simpa using hpos), BitVec.ushiftRight_eq_zero h]; rfl
  · rw [wrapN_eq_ofInt, BitVec.sshiftRight_eq, Int.shiftRight_eq_div_pow]
    norm_cast

theorem opRot_eq : opRot f w l = ((aB f w l).rotateLeft ((bB f w l).toNat % 32)).toNat := by
  rw [toNat_rotateLeft_eq_add _ (Nat.mod_lt _ (by decide)), toNat_aB f w hl, toNat_bB f w hl]
  rfl

end

theorem laneLogicAndShifts : LaneLogicAndShifts :=
  ⟨bothGive_eq (fun _ _ => rfl) (fun _ _ => rfl) (fun f w _ hl => opAnd_eq f w hl),
   bothGive_eq (fun _ _ => rfl) (fun _ _ => rfl) (fun f w _ hl => opOr_eq f w hl),
   bothGive_eq (fun _ _ => rfl) (fun _ _ => rfl) (fun f w _ hl => opXor_eq f w hl),
   bothGive_eq (fun _ _ => rfl) (fun _ _ => rfl) (fun f w _ hl => opAndn_eq f w hl),
   bothGive_eq (fun _ _ => rfl) (fun _ _ => rfl) (fun f w _ hl => opShl_eq f w hl),
   bothGive_eq (fun _ _ => rfl) (fun _ _ => rfl) (fun f w _ hl => opShr_eq f w hl),
   bothGive_eq (fun _ _ => rfl) (fun _ _ => rfl) (fun f w _ hl => opSar_eq f w hl),
   bothGive_eq (fun _ _ => rfl) (fun _ _ => rfl) (fun f w _ hl => opRot_eq f w hl)⟩

/-! ## Bit fields -/

theorem bits_eq_cut (x : BitVec 32) (lo n : Nat) : bits x.toNat lo n = cut x lo n := by
  rw [bits, cut, Nat.shiftRight_eq_div_pow]

theorem fieldOf_toNat (b : BitVec 32) : fieldOf b.toNat = (cut b 0 5, fieldWidth b) := by
  simp only [fieldOf, fieldWidth, bits_eq_cut]

theorem fieldWidth_add_le (b : BitVec 32) : fieldWidth b + cut b 0 5 ≤ 32 := by
  have h : cut b 0 5 < 32 := Nat.mod_lt _ (by decide)
  unfold fieldWidth
  omega

theorem and_eq_mod_and {y m n : Nat} (hm : m < 2 ^ n) : y &&& m = (y % 2 ^ n) &&& m := by
  rw [← Nat.and_two_pow_sub_one_eq_mod, Nat.and_assoc, Nat.and_comm (2 ^ n - 1),
    Nat.and_two_pow_sub_one_of_lt_two_pow hm]

section
variable (f : XaF) (w : Wave) {l : Nat} (hl : l < 64)
include hl

theorem opBfx_eq : opBfx f w l =
    (let n := fieldWidth (bB f w l)
     let x := cut (aB f w l) (cut (bB f w l) 0 5) n
     if f.variant = 1 ∧ n > 0 then (BitVec.ofInt 32 ((BitVec.ofNat n x).toInt)).toNat else x) := by
  have hx (off n : Nat) : (if n = 0 then 0 else zextN ((aB f w l).toNat >>> off) n) = cut (aB f w l) off n := by
    rw [← bits_eq_cut]
    split
    · next h => simp [h, bits, Nat.mod_one]
    · rfl
  simp only [opBfx, ← toNat_aB f w hl, ← toNat_bB f w hl, fieldOf_toNat, hx, wrapN_eq_ofInt, sextN_eq_toInt]

theorem opBfi_eq : opBfi f w l =
    (let m : BitVec 32 := BitVec.ofNat 32 ((2 ^ fieldWidth (bB f w l) - 1) * 2 ^ cut (bB f w l) 0 5)
     ((cB f w l &&& ~~~m) ||| ((aB f w l <<< cut (bB f w l) 0 5) &&& m)).toNat) := by
  have hm : (2 ^ fieldWidth (bB f w l) - 1) * 2 ^ cut (bB f w l) 0 5 < 2 ^ 32 := by
    calc (2 ^ fieldWidth (bB f w l) - 1) * 2 ^ cut (bB f w l) 0 5
        < 2 ^ fieldWidth (bB f w l) * 2 ^ cut (bB f w l) 0 5 :=
          Nat.mul_lt_mul_of_pos_right (Nat.sub_lt (Nat.two_pow_pos _) (by decide)) (Nat.two_pow_pos _)
      _ = 2 ^ (fieldWidth (bB f w l) + cut (bB f w l) 0 5) := (Nat.pow_add ..).symm
      _ ≤ 2 ^ 32 := Nat.pow_le_pow_right (by decide) (fieldWidth_add_le _)
  simp only [opBfi, ← toNat_aB f w hl, ← toNat_bB f w hl, ← toNat_cB f w hl, fieldOf_toNat, Nat.shiftLeft_eq, Nat.one_mul]
  rw [BitVec.toNat_or, BitVec.toNat_and, BitVec.toNat_and, ← xor_allOnes_eq_toNat_not, BitVec.toNat_ofNat,
    Nat.mod_eq_of_lt hm, BitVec.toNat_shiftLeft, Nat.shiftLeft_eq, ← and_eq_mod_and hm]

end

theorem laneBitFields : LaneBitFields :=
  ⟨xaDoes_map (fun _ _ => rfl) (fun f w _ hl => congrArg (· % 2 ^ 32) (opBfx_eq f w hl)),
   xaDoes_map (fun _ _ => rfl) (fun f w _ hl => congrArg (· % 2 ^ 32) (opBfi_eq f w hl))⟩

/-! ## Bit counts -/

theorem bit_toNat {n : Nat} (x : BitVec n) (i : Nat) : bit x.toNat i = x.getLsbD i := bit_eq_testBit _ _

theorem popcount_eq_length (x n : Nat) : popcount x n = ((List.range n).filter (bit x)).length := by
  induction n with
  | zero => rfl
  | succ n ih => cases h : bit x n <;> simp [popcount, List.range_succ, b2n, h, ih, Nat.add_comm]

theorem bit_top_eq {x n : Nat} (hx : x < 2 ^ (n + 1)) : bit x n = decide (2 ^ n ≤ x) := by
  rw [bit_eq_testBit, Nat.testBit_eq_decide_div_mod_eq]
  have hp : 2 ^ (n + 1) = 2 * 2 ^ n := by ring
  have h2 : x / 2 ^ n < 2 := Nat.div_lt_of_lt_mul (by omega)
  have h1 : 1 ≤ x / 2 ^ n ↔ 2 ^ n ≤ x := by rw [Nat.le_div_iff_mul_le (Nat.two_pow_pos n), Nat.one_mul]
  rw [decide_eq_decide, ← h1]
  generalize x / 2 ^ n = q at h2
  omega

theorem clzN_eq {x n : Nat} (hx : x < 2 ^ n) : clzN x n = if x = 0 then n else n - 1 - x.log2 := by
  induction n with
  | zero => simp [clzN, show x = 0 by simpa using hx]
  | succ n ih =>
    simp only [clzN, bit_top_eq hx, decide_eq_true_eq]
    have h0 : 0 < 2 ^ n := Nat.two_pow_pos n
    split
    · next h =>
      have hl : x.log2 = n := (Nat.log2_eq_iff (by omega)).mpr ⟨h, hx⟩
      rw [if_neg (by omega)]
      omega
    · next h =>
      rw [ih (by omega)]
      by_cases hz : x = 0
      · simp [hz, Nat.add_comm]
      · have hl : x.log2 < n := (Nat.log2_lt hz).mpr (by omega)
        simp only [hz, if_false]
        omega

theorem brevN_foldl_succ (x n : Nat) {l : List Nat} (h : ∀ i ∈ l, i < n) (a : Nat) :
    l.foldl (fun acc i => acc + (b2n (bit x i) <<< (n - i))) (2 * a) =
      2 * l.foldl (fun acc i => acc + (b2n (bit x i) <<< (n - 1 - i))) a := by
  induction l generalizing a with
  | nil => rfl
  | cons i rest ih =>
    have hi : n - i = n - 1 - i + 1 := by have := h i (by simp); omega
    have hs : 2 * a + b2n (bit x i) <<< (n - i) = 2 * (a + b2n (bit x i) <<< (n - 1 - i)) := by
      rw [hi, Nat.shiftLeft_succ, Nat.mul_add]
    rw [List.foldl_cons, List.foldl_cons, hs, ih (fun j hj => h j (by simp [hj]))]

theorem brevN_succ (x n : Nat) : brevN x (n + 1) = 2 * brevN x n + b2n (bit x n) := by
  rw [brevN, List.range_succ, List.foldl_append, Nat.add_sub_cancel,
    brevN_foldl_succ x n (fun i hi => List.mem_range.mp hi) 0]
  simp [brevN]

theorem brevN_eq_reverse (x n : Nat) : brevN x n = (BitVec.ofNat n x).reverse.toNat := by
  induction n with
  | zero => exact (BitVec.toNat_zero_length _).symm
  | succ n ih =>
    have hlow : (BitVec.ofNat (n + 1) x).truncate n = BitVec.ofNat n x := by
      ext i hi; simp
    have htop : (BitVec.ofNat (n + 1) x).msb = bit x n := by
      rw [BitVec.msb_eq_getLsbD_last, BitVec.getLsbD_ofNat, bit_eq_testBit]; simp
    rw [brevN_succ, ih, BitVec.reverse, hlow, htop, BitVec.toNat_concat, Nat.mul_comm]
    cases bit x n <;> rfl

section
variable (f : XaF) (w : Wave) {l : Nat} (hl : l < 64)
include hl

theorem opPopc_eq : opPopc f w l = ((List.range 32).filter (fun i => (aB f w l).getLsbD i)).length := by
  rw [opPopc, ← toNat_aB f w hl, popcount_eq_length]
  exact congrArg (fun p => ((List.range 32).filter p).length) (funext (bit_toNat _))

theorem opClz_eq : opClz f w l = if aB f w l = 0#32 then 32 else 31 - (aB f w l).toNat.log2 := by
  rw [opClz, ← toNat_aB f w hl, clzN_eq (BitVec.isLt _)]
  simp only [BitVec.toNat_eq, BitVec.toNat_ofNat, Nat.zero_mod]

theorem opCtz_eq : opCtz f w l = ((List.range 32).find? (fun i => (aB f w l).getLsbD i)).getD 32 := by
  rw [opCtz, ← toNat_aB f w hl, ctzN]
  simp only [bit_toNat]

end

theorem opBrev_eq (f : XaF) (w : Wave) (l : Nat) : opBrev f w l = (aB f w l).reverse.toNat := brevN_eq_reverse _ 32

theorem laneBitCounts : LaneBitCounts :=
  ⟨bothGive_eq (fun _ _ => rfl) (fun _ _ => rfl) (fun f w _ hl => opPopc_eq f w hl),
   bothGive_eq (fun _ _ => rfl) (fun _ _ => rfl) (fun f w _ hl => opClz_eq f w hl),
   bothGive_eq (fun _ _ => rfl) (fun _ _ => rfl) (fun f w _ hl => opCtz_eq f w hl),
   bothGive_eq (fun _ _ => rfl) (fun _ _ => rfl) (fun f w l _ => opBrev_eq f w l)⟩

/-! ## Comparison and selection -/

theorem iCond_eq_getD (cc : Nat) (a b : Int) : iCond cc a b =
    [decide (a = b), decide (a ≠ b), decide (a < b), decide (a ≤ b), decide (a > b)].getD cc (decide (a ≥ b)) := by
  match cc with
  | 0 | 1 | 2 | 3 | 4 | _ + 5 => rfl

theorem opIcmp_eq : opIcmp = fun f w l =>
    [decide (aZ f w l = bZ f w l), decide (aZ f w l ≠ bZ f w l), decide (aZ f w l < bZ f w l),
      decide (aZ f w l ≤ bZ f w l), decide (aZ f w l > bZ f w l)].getD (f.imm8.toNat % 8) (decide (aZ f w l ≥ bZ f w l)) := by
  funext f w l
  rw [opIcmp, aInt_eq, bInt_eq, iCond_eq_getD]

theorem opSel_eq (f : XaF) (w : Wave) {l : Nat} (hl : l < 64) : opSel f w l =
    if (if f.imm8.getLsbD 6 then bit (w.getK (f.c9.toNat % 8)) l else cB f w l != 0#32) then (aB f w l).toNat
    else (bB f w l).toNat := by
  have hc : (f.cT 6 w l != 0) = (cB f w l != 0#32) := by
    rw [← toNat_cB f w hl, Bool.eq_iff_iff, bne_iff_ne, bne_iff_ne, not_iff_not]
    exact BitVec.toNat_inj (y := 0#32)
  rw [opSel, XaF.predC, hc, toNat_aB f w hl, toNat_bB f w hl]

theorem laneCompareAndSelect : LaneCompareAndSelect :=
  ⟨xaDoes_pred (fun _ _ => by rw [← opIcmp_eq]; rfl),
   xaDoes_map (fun _ _ => rfl) (fun f w _ hl => congrArg (· % 2 ^ 32) (opSel_eq f w hl))⟩

/-- Settles O1: every form by the lemma about its value. -/
theorem laneIntegerForms : Obligations.LaneIntegerForms :=
  ⟨laneIntegerArithmetic, laneLogicAndShifts, laneBitFields, laneBitCounts, laneCompareAndSelect⟩

end Sys2Proof.Machine
end

section
/-! FADD, FSUB, FMUL and FFMA: the exact result rounded once (06 R140; 05 R107, R113). -/
namespace Sys2Proof.Machine
open Sys2Proof.Claims

theorem firstNaN_cons_of_number {f : FFmt} {b : Nat} (hb : isNaNBits f b = false) (rest : List Nat) :
    firstNaN f (b :: rest) = firstNaN f rest := by
  rw [firstNaN, hb]
  rfl

/-- An operation none of whose operands is a NaN, and whose exact result is a number, rounds it once. -/
theorem fpResult_of_number {f : FFmt} {ops : List Nat} {exact_ : XReal} (mode : RMode) (sat : Bool) (r : Nat) (c : NanCtx)
    (ho : firstNaN f ops = none) (hx : exact_ ≠ .nan) :
    fpResult f mode sat r c ops exact_ = roundTo f mode sat r exact_ := by
  unfold fpResult
  rw [ho]
  cases exact_ with
  | nan => exact absurd rfl hx
  | inf neg => rfl
  | fin neg n d => rfl

/-- Settles O2: the completions by the law of forms with one result per lane, the values by `fpResult_of_number`. -/
theorem laneFloatArithmetic : Obligations.LaneFloatArithmetic := by
  refine ⟨bothGive (fun _ _ => rfl) (fun _ _ => rfl) (fun _ _ _ _ => rfl),
    bothGive (fun _ _ => rfl) (fun _ _ => rfl) (fun _ _ _ _ => rfl),
    bothGive (fun _ _ => rfl) (fun _ _ => rfl) (fun _ _ _ _ => rfl),
    xaDoes_map (fun _ _ => rfl) (fun _ _ _ _ => rfl), ?_⟩
  intro f w l ⟨ha, hb⟩ m a b
  have hab : firstNaN .f32 [f.aF w l, f.bF w l] = none := by
    rw [firstNaN_cons_of_number ha, firstNaN_cons_of_number hb]; rfl
  refine ⟨fpResult_of_number _ _ _ _ hab, fpResult_of_number _ _ _ _ hab, fpResult_of_number _ _ _ _ hab, ?_⟩
  intro hc _
  have habc : firstNaN .f32 [f.aF w l, f.bF w l, f.cF w l] = none := by
    rw [firstNaN_cons_of_number ha, firstNaN_cons_of_number hb, firstNaN_cons_of_number hc]; rfl
  exact fpResult_of_number _ _ _ _ habc

end Sys2Proof.Machine
end

section
/-! The packed forms and DOT4D8 complete, and DOT2H raises RETIRED_OP (06 R147 to R149; 03 R82; 17 R383; 18 R410). -/
namespace Sys2Proof.Machine
open Sys2Proof.Claims

theorem dot4d8_completes : ∀ (f : XaF) (s : State), Issues s .lane 8 → legalXa (specDot4 f) f = none →
    LaneOk s (specDot4 f) f (dotScaleReg f) → ∃ t, exec (.dot4d8 f) s = .next t ∧ OnlyWave s t 8
      ∧ LaneFrame s t (xaWords f) (s.w.xaSrcs (specDot4 f) f ++ dotScaleReg f) ∧ ToLanes opDot4d8 f s t := by
  intro f s h hl hok
  obtain ⟨t, ht, hw, hf, hr⟩ := laneIssue_next (i := .dot4d8 f) (kmask := f.kmask.toNat)
    (body := fun s => bodyDot4d8 s (xaWords f) (specDot4 f) f) h hok rfl (regsOnly_writeDst _ _ _ _)
  exact ⟨t, (laneXAIf_legal hl hok.1).trans ht, hw, hf, laneWord_of_writeDst hr (fun _ _ => rfl)⟩

/-- RETIRED_OP raised by a legal instruction of a lane stream: charged, counted and taken. -/
theorem stopWith_retired {s : State} {weight fl : Nat} {w0 : Word} (hm : s.w.mgmt = false) (hst : s.st = .lane) :
    (s.stopCharge weight (.trap causeRetired fl 0 0)).stopWith w0 (.trap causeRetired fl 0 0) =
      (((s.charge s.w.core weight).countRet 1).modW (fun w => { w with refused := none })).takeTrap
        { cause := causeRetired, st := .lane, deferred := false, flanes := fl, taddr := 0, tinfo := tinfoHead w0 } := by
  have hb : s.stopCharge weight (.trap causeRetired fl 0 0) = s.charge s.w.core weight := by
    rw [State.stopCharge_trap, if_neg (by decide), State.billed, hm]
    rfl
  have hs : (s.charge s.w.core weight).st = .lane := hst
  rw [hb, State.stopWith, if_pos rfl, hs]
  rfl

theorem retiredDotProductTraps : RetiredDotProductTraps := by
  intro f s h hl hr
  have he : exec (.dot2h f) s = execDot2h f s := rfl
  rw [he, execDot2h, State.laneXA, laneXAIf_legal hl hr, issue_of_error h rfl rfl, stopWith_retired h.2.2.1 h.2.1]

/-- Settles O4: the completions by the law of forms with one result per lane, the trap by `stopWith_retired`. -/
theorem lanePackedAndRetiredForms : Obligations.LanePackedAndRetiredForms :=
  ⟨⟨bothGive (fun _ _ => rfl) (fun _ _ => rfl) (fun _ _ _ _ => rfl),
    bothGive (fun _ _ => rfl) (fun _ _ => rfl) (fun _ _ _ _ => rfl),
    xaDoes_map (fun _ _ => rfl) (fun _ _ _ _ => rfl), dot4d8_completes⟩, retiredDotProductTraps⟩

end Sys2Proof.Machine
end

section
/-! The conversion forms complete; QSCALE `.amax` and HADQ outside width 16 (06 R150 to R154). -/
namespace Sys2Proof.Machine
open Sys2Proof.Claims

theorem notWidth16_of_ne {w : Wave} (h : w.width ≠ 16) : w.notWidth16 = none := by
  simp [Wave.notWidth16, badValue, faultIf, h]

theorem regsOnly_ite {p : Prop} [Decidable p] {w x y : Wave} (hx : RegsOnly w x) (hy : RegsOnly w y) :
    RegsOnly w (if p then x else y) := by
  split
  · exact hx
  · exact hy

/-- QSCALE's effect: the scale of the block under `.amax`, else the code of the lane (06 R153). -/
def qscaleEff (f : XaF) (w : Wave) (act : Nat) : Wave :=
  w.writeDst f.d9.toNat act (if f.variant = 1 then opAmax f w act else opQscale f w)

theorem bodyQscale_eq (s : State) (words : Nat) (sp : XaSpec) (f : XaF) :
    bodyQscale s words sp f = s.laneForm words sp f [] (qscaleEff f) := by
  unfold bodyQscale qscaleEff
  split <;> rfl

theorem qscale_completes (f : XaF) (s : State) (h : Issues s .lane 8) (hl : legalXa (specQscale f) f = none)
    (hok : LaneOk s (specQscale f) f []) (h16 : f.variant = 1 → s.w.width ≠ 16) :
    ∃ t, exec (.qscale f) s = .next t ∧ OnlyWave s t 8 ∧ LaneFrame s t (xaWords f) (s.w.xaSrcs (specQscale f) f)
      ∧ (if f.variant = 1 then
          LaneWord s t f.d9.toNat (s.w.active f.kmask.toNat) (opAmax f s.w (s.w.active f.kmask.toNat))
        else ToLanes opQscale f s t) := by
  have hearly : (if f.variant = 1 then s.w.notWidth16 else none) = none := by
    split
    · next hv => exact notWidth16_of_ne (h16 hv)
    · rfl
  obtain ⟨t, ht, hw, hf, hr⟩ := laneIssue_next (i := .qscale f) (kmask := f.kmask.toNat)
    (body := fun s => bodyQscale s (xaWords f) (specQscale f) f) h hok (bodyQscale_eq s _ _ f)
    (regsOnly_writeDst _ _ _ _)
  refine ⟨t, ?_, hw, by simpa using hf, ?_⟩
  · have he : exec (.qscale f) s = execQscale f s := rfl
    rw [he, execQscale, hearly, laneXAIf_legal hl hok.1]
    exact ht
  · unfold qscaleEff at hr
    split
    · next hv => exact laneWord_of_writeDst (by simpa only [hv, if_true] using hr) (fun _ _ => rfl)
    · next hv => exact laneWord_of_writeDst (by simpa only [hv, if_false] using hr) (fun _ _ => rfl)

/-- The block of a lane, among the vectors of a wave. -/
theorem getD_blocks32 {β : Type} (w : Wave) (g : Nat → β) (d : β) {l : Nat} (hl : l < w.lanes) :
    (w.blocks32.map g).getD (l / 32) d = g (l / 32 * 32) := by
  unfold Wave.lanes at hl
  unfold Wave.blocks32
  split at hl
  · next h =>
    rw [if_pos h]
    obtain h0 | h1 : l / 32 = 0 ∨ l / 32 = 1 := by omega
    · rw [h0]; rfl
    · rw [h1]; rfl
  · next h =>
    rw [if_neg h, Nat.div_eq_of_lt hl]
    rfl

/-- What HADQ gives a lane of its wave (06 R154). -/
def hadqVal (f : XaF) (w : Wave) (act l : Nat) : Nat :=
  if f.variant = 1 then (hadqInverse f w act (l / 32 * 32)).getD (l % 32) 0
  else
    let ys := hadqForward f w act (l / 32 * 32)
    opHadq f w ys (hadqScale ys) l

theorem regsOnly_hadqEff (f : XaF) (w : Wave) (act : Nat) : RegsOnly w (hadqEff f w act) :=
  regsOnly_ite (regsOnly_writeDst _ _ _ _) (regsOnly_writeDst _ _ _ _)

theorem laneWord_hadq {f : XaF} {s t : State} {act : Nat} (hr : RegsAre t (hadqEff f s.w act)) :
    LaneWord s t f.d9.toNat act (hadqVal f s.w act) := by
  by_cases hv : f.variant = 1
  · simp only [hadqEff, hv, if_true] at hr
    refine laneWord_of_writeDst hr (fun l hl => ?_)
    rw [getD_blocks32 _ _ _ hl, hadqVal, if_pos hv]
  · simp only [hadqEff, hv, if_false, List.map_map] at hr
    refine laneWord_of_writeDst hr (fun l hl => ?_)
    rw [getD_blocks32 _ _ _ hl, getD_blocks32 _ _ _ hl, hadqVal, if_neg hv, Function.comp_apply]

theorem hadq_completes (f : XaF) (s : State) (h : Issues s .lane 8) (hl : legalXa (specHadq f) f = none)
    (hok : LaneOk s (specHadq f) f []) (h16 : s.w.width ≠ 16) :
    ∃ t, exec (.hadq f) s = .next t ∧ OnlyWave s t 8 ∧ LaneFrame s t (xaWords f) (s.w.xaSrcs (specHadq f) f)
      ∧ LaneWord s t f.d9.toNat (s.w.active f.kmask.toNat) (hadqVal f s.w (s.w.active f.kmask.toNat)) := by
  obtain ⟨t, ht, hw, hf, hr⟩ := laneIssue_next (i := .hadq f) (kmask := f.kmask.toNat)
    (body := fun s => waveBody hadqEff s (xaWords f) (specHadq f) f) h hok rfl (regsOnly_hadqEff _ _ _)
  refine ⟨t, ?_, hw, by simpa using hf, laneWord_hadq hr⟩
  have he : exec (.hadq f) s = execHadq f s := rfl
  rw [he, execHadq, notWidth16_of_ne h16, laneXAIf_legal hl hok.1]
  exact ht

/-- Settles O5: one word per lane by the law of such forms, QSCALE and HADQ by their own completions. -/
theorem laneConversionForms : Obligations.LaneConversionForms :=
  ⟨⟨xaDoes_map (fun _ _ => rfl) (fun _ _ _ _ => rfl), xaDoes_map (fun _ _ => rfl) (fun _ _ _ _ => rfl),
    xaDoes_map (fun _ _ => rfl) (fun _ _ _ _ => rfl), xaDoes_map (fun _ _ => rfl) (fun _ _ _ _ => rfl)⟩,
   qscale_completes, hadq_completes⟩

end Sys2Proof.Machine
end

section
/-! Registers written in several lanes, in pairs and by groups of lanes, and what a legal page and an allocation check say
of a form (02 R26, R31; 03 R79, R87; 04 R96). -/
namespace Sys2Proof.Machine
open Sys2Proof.Claims

/-! ## What legality and the checks of operands say -/

theorem firstFault_eq_none {l : List (Option EncFault)} : firstFault l = none ↔ ∀ x ∈ l, x = none := by
  induction l with
  | nil => simp [firstFault]
  | cons x xs ih => cases x <;> simp [firstFault, ih]

theorem forall_none_of_opcodeFirst {l : List (Option EncFault)} (h : opcodeFirst l = none) : ∀ x ∈ l, x = none := by
  rw [opcodeFirst, Option.orElse_eq_or, Option.or_eq_none_iff] at h
  exact firstFault_eq_none.mp h.2

theorem faultIf_eq_none {c : Bool} {e : EncFault} : faultIf c e = none ↔ c = false := by cases c <;> simp [faultIf]

/-- The variant of a legal form is one of its page's. -/
theorem variant_mem_of_legalXa {sp : XaSpec} {f : XaF} (h : legalXa sp f = none) : f.variant ∈ sp.variants := by
  have hv : badValue (!sp.variants.contains (f.xop.toNat / 8)) = none :=
    forall_none_of_opcodeFirst h _ (by simp)
  rw [badValue, faultIf_eq_none] at hv
  show f.xop.toNat / 8 ∈ sp.variants
  simpa using hv

/-- A form that reads no random bits is not stopped for their register. -/
theorem dynRandFault_of_none {w : Wave} {sp : XaSpec} {f : XaF} (h : sp.rand = .none) : w.dynRandFault sp f = false := by
  simp [Wave.dynRandFault, h]

theorem regCheck_eq_ok {s : State} {act : Nat} {rs : List Nat} : s.regCheck act rs = .ok () ↔ ∀ r ∈ rs, r < 8 * s.w.g := by
  unfold State.regCheck
  split
  · next r h =>
    have hr := List.find?_some h
    have hm := List.mem_of_find?_eq_some h
    simp only [decide_eq_true_eq] at hr
    exact iff_of_false (by simp) (fun hall => absurd (hall r hm) (by omega))
  · next h =>
    rw [List.find?_eq_none] at h
    simpa using h

/-! ## Lanes written -/

theorem RegsAre.getV {t : State} {w' : Wave} (h : RegsAre t w') (r l : Nat) : t.w.getV r l = w'.getV r l :=
  congrArg (fun v => (mapGet 0#32 v (64 * r + l)).toNat) h.1

theorem setLanes_congr {w : Wave} {r : Nat} {ls : List Nat} {f g : Nat → Nat} (h : ∀ l, f l % 2 ^ 32 = g l % 2 ^ 32) :
    w.setLanes r ls f = w.setLanes r ls g := by
  have hv (w : Wave) (l : Nat) : w.setV r l (f l) = w.setV r l (g l) := by
    have : BitVec.ofNat 32 (f l) = BitVec.ofNat 32 (g l) := BitVec.eq_of_toNat_eq (by simpa using h l)
    rw [Wave.setV, this]
    rfl
  induction ls generalizing w with
  | nil => rfl
  | cons l rest ih => rw [Wave.setLanes, Wave.setLanes, hv, ih]

/-- A register and the next one written in the same lanes. -/
def Wave.setPair (w : Wave) (r : Nat) (ls : List Nat) (f g : Nat → Nat) : Wave :=
  (w.setLanes r ls f).setLanes (r + 1) ls g

theorem regsOnly_setPair (w : Wave) (r : Nat) (ls : List Nat) (f g : Nat → Nat) : RegsOnly w (w.setPair r ls f g) :=
  (regsOnly_setLanes _ _ _ _).trans (regsOnly_setLanes _ _ _ _)

theorem setPair_frame (w : Wave) (r : Nat) (ls : List Nat) (f g : Nat → Nat) :
    w.setPair r ls f g = { w with v := (w.setPair r ls f g).v, sect := (w.setPair r ls f g).sect } := by
  unfold Wave.setPair
  rw [setLanes_frame, setLanes_frame w]

theorem getV_setPair {w : Wave} {r : Nat} {ls : List Nat} {f g : Nat → Nat} (hls : ∀ l ∈ ls, l < 64) (r' : Nat) {l : Nat}
    (hl : l < 64) : (w.setPair r ls f g).getV r' l =
      if l ∈ ls ∧ r' = r then f l % 2 ^ 32 else if l ∈ ls ∧ r' = r + 1 then g l % 2 ^ 32 else w.getV r' l := by
  rw [Wave.setPair, getV_setLanes _ _ _ _ hls _ _ hl, getV_setLanes _ _ _ _ hls _ _ hl]
  by_cases h0 : r' = r
  · subst h0; simp [and_comm]
  · simp [h0, and_comm]

theorem mem_sect_setPair {w : Wave} {r : Nat} {ls : List Nat} {f g : Nat → Nat} {x : Nat} :
    x ∈ (w.setPair r ls f g).sect ↔
      x ∈ w.sect ∨ ∃ r' l, (l ∈ ls ∧ (r' = r ∨ r' = r + 1)) ∧ x = regSector r' l := by
  rw [Wave.setPair, mem_sect_setLanes, mem_sect_setLanes, or_assoc]
  refine or_congr_right ⟨?_, ?_⟩
  · rintro (⟨l, hl, hx⟩ | ⟨l, hl, hx⟩)
    · exact ⟨r, l, ⟨hl, .inl rfl⟩, hx⟩
    · exact ⟨r + 1, l, ⟨hl, .inr rfl⟩, hx⟩
  · rintro ⟨r', l, ⟨hl, rfl | rfl⟩, hx⟩
    · exact .inl ⟨l, hl, hx⟩
    · exact .inr ⟨l, hl, hx⟩

theorem lanesOf_lt_64 {w : Wave} {m l : Nat} (h : l ∈ lanesOf m w.lanes) : l < 64 := by
  have h64 := lanes_le w
  have := (mem_lanesOf _ _ _).mp h
  omega

/-- A pair of registers written by a form: its words, the sectors made valid, and what stays. -/
theorem pair_of_regsAre {s t : State} {r : Nat} {ls : List Nat} {f g : Nat → Nat} (hls : ∀ l ∈ ls, l < 64)
    (ht : RegsAre t (s.w.setPair r ls f g)) :
    (∀ r' l, l < 64 → t.w.getV r' l =
      if l ∈ ls ∧ r' = r then f l % 2 ^ 32 else if l ∈ ls ∧ r' = r + 1 then g l % 2 ^ 32 else s.w.getV r' l)
    ∧ NewSectors s t (fun r' l => l ∈ ls ∧ (r' = r ∨ r' = r + 1))
    ∧ t.w.kreg = s.w.kreg ∧ t.w.exec = s.w.exec ∧ t.w.rq = s.w.rq := by
  refine ⟨fun r' l hl => by rw [ht.getV, getV_setPair hls _ hl], ?_⟩
  obtain ⟨-, hs, hk, he, hr⟩ := ht
  refine ⟨fun x => by rw [hs, mem_sect_setPair], ?_⟩
  rw [hk, he, hr, setPair_frame]
  exact ⟨rfl, rfl, rfl⟩

/-! ## A result per group of lanes -/

theorem laneIx_of_lt {i : Nat} (h : i < 320) : laneIx i = .v i := if_pos h

theorem lt_of_laneIx_v {i n : Nat} (h : laneIx i = .v n) : i < 320 ∧ n = i := by
  by_cases hi : i < 320
  · rw [laneIx_of_lt hi] at h
    exact ⟨hi, (LaneIx.v.inj h).symm⟩
  · unfold laneIx at h
    split_ifs at h

/-- A result per group written to a form's destination. -/
def groupsEff (w : Wave) (d p : Nat) (res : Nat → Nat) : Wave :=
  match laneIx d with
  | .rq => w.pushGroups res
  | _ => w.writeDst d p (fun l => res (w.groupOf l).1)

theorem regsOnly_pushGroups (w : Wave) (res : Nat → Nat) : RegsOnly w (w.pushGroups res) := by
  unfold Wave.pushGroups
  split <;> rfl

theorem regsOnly_groupsEff (w : Wave) (d p : Nat) (res : Nat → Nat) : RegsOnly w (groupsEff w d p res) := by
  unfold groupsEff
  split
  · exact regsOnly_pushGroups _ _
  · exact regsOnly_writeDst _ _ _ _

theorem pushGroups_eq (w : Wave) (res : Nat → Nat) : w.pushGroups res = { w with rq := w.rq ++ [BitVec.ofNat 64
    (if w.width = 16 then res 0 % 2 ^ 32 + (res 16 % 2 ^ 32) * 2 ^ 32 else res 0)] } := by
  unfold Wave.pushGroups
  split <;> rfl

theorem laneGroups_of {s t : State} {d m : Nat} {res : Nat → Nat} (ht : RegsAre t (groupsEff s.w d m res)) :
    LaneGroups s t d m res := by
  unfold groupsEff at ht
  split at ht
  · next hd =>
    rw [pushGroups_eq] at ht
    refine ⟨fun r l _ => ?_, ?_⟩
    · rw [ht.getV, hd]
      exact (if_neg (fun h => nomatch h.1)).symm
    obtain ⟨-, hs, hk, he, hr⟩ := ht
    exact ⟨by rw [hr, hd, if_pos rfl], hk, he, fun x => by rw [hs]; simp [hd]⟩
  · next hd =>
    obtain ⟨hv, hrq, hk, he, hs⟩ := laneWord_of_writeDst ht (fun _ _ => rfl)
    exact ⟨hv, by rw [hrq, if_neg hd, if_neg hd], hk, he, hs⟩

end Sys2Proof.Machine
end

section
/-! The reducing cross-lane forms and VOTE complete with their values (06 R133, R158 to R160). -/
namespace Sys2Proof.Machine
open Sys2Proof.Claims

/-! ## REDUCE, SCAN, HIST and HMERGE -/

theorem reduceEff_eq (f : XaF) (w : Wave) (act : Nat) : reduceEff f w act =
    groupsEff w f.d9.toNat (w.voters act) (fun g => reduceGroup f w act g (w.groupOf g).2) := by
  unfold reduceEff groupsEff
  cases laneIx f.d9.toNat <;> rfl

/-- SCAN answers for the lanes that it is given, and for no other. -/
theorem find?_scanLanes_of_not_mem {f : XaF} {w : Wave} {l : Nat} {ls : List Nat} (h : l ∉ ls) (acc : Option Nat)
    (tot : Int) : (scanLanes f w ls acc tot).find? (fun o => o.1 == l) = none := by
  induction ls generalizing acc tot with
  | nil => rfl
  | cons a rest ih =>
    obtain ⟨ha, hr⟩ := not_or.mp (mt List.mem_cons.mpr h)
    unfold scanLanes
    rw [List.find?_cons_of_neg (by simpa using Ne.symm ha)]
    exact ih hr _ _

theorem groupOf_mem_groups {w : Wave} {l : Nat} (hl : l < w.lanes) : w.groupOf l ∈ w.groups := by
  unfold Wave.lanes at hl
  unfold Wave.groupOf Wave.groups
  split_ifs with h64 h16
  · simp
  · rw [if_neg h64] at hl
    obtain h | h : l / 16 = 0 ∨ l / 16 = 1 := by omega
    · simp [h]
    · simp [h]
  · simp

/-- A lane of the wave lies in its own group alone. -/
theorem eq_groupOf_of_mem {w : Wave} {q : Nat × Nat} {l : Nat} (hq : q ∈ w.groups) (h : q.1 ≤ l ∧ l < q.1 + q.2)  :
    q = w.groupOf l := by
  unfold Wave.groups at hq
  unfold Wave.groupOf
  split_ifs at hq ⊢ with h64 h16
  · simpa using hq
  · simp only [List.mem_cons, List.not_mem_nil, or_false] at hq
    rcases hq with rfl | rfl
    · rw [Nat.div_eq_of_lt (by simpa using h.2)]
    · rw [show l / 16 = 1 by simp at h; omega]
  · simpa using hq

/-- Where a lane answers in one list alone. -/
theorem find?_flatMap_of_unique {α β : Type} {p : β → Bool} {g : α → List β} {a : α} {l : List α} (ha : a ∈ l)
    (h : ∀ x ∈ l, x ≠ a → (g x).find? p = none) : (l.flatMap g).find? p = (g a).find? p := by
  induction l with
  | nil => simp at ha
  | cons x xs ih =>
    rw [List.flatMap_cons, List.find?_append]
    by_cases hx : x = a
    · subst hx
      by_cases hm : x ∈ xs
      · rw [ih hm (fun y hy => h y (by simp [hy])), Option.or_self]
      · have hn : (xs.flatMap g).find? p = none := by
          rw [List.find?_eq_none]
          intro b hb
          obtain ⟨y, hy, hby⟩ := List.mem_flatMap.mp hb
          exact List.find?_eq_none.mp (h y (by simp [hy]) (fun e => hm (e ▸ hy))) b hby
        rw [hn, Option.or_none]
    · rw [h x (by simp) hx, Option.none_or]
      exact ih ((List.mem_cons.mp ha).resolve_left (Ne.symm hx)) (fun y hy => h y (by simp [hy]))

/-- SCAN's answer for a lane is that of the lane's own group. -/
theorem find?_scan_groups {f : XaF} {w : Wave} {p l : Nat} (hl : l < w.lanes) :
    (w.groups.flatMap (fun q => scanLanes f w
        ((lanesOf p w.lanes).filter (fun i => decide (q.1 ≤ i ∧ i < q.1 + q.2))) none 0)).find? (fun o => o.1 == l) =
      (scanLanes f w ((lanesOf p w.lanes).filter
        (fun i => decide ((w.groupOf l).1 ≤ i ∧ i < (w.groupOf l).1 + (w.groupOf l).2))) none 0).find? (fun o => o.1 == l) := by
  refine find?_flatMap_of_unique (groupOf_mem_groups hl) (fun q hq hne => find?_scanLanes_of_not_mem ?_ _ _)
  intro hm
  have hin := (List.mem_filter.mp hm).2
  exact hne (eq_groupOf_of_mem hq (by simpa using hin))

theorem laneReductions : LaneReductions := by
  refine ⟨?_, ?_, ?_, ?_⟩
  · exact xaDoes_of (fun _ _ => rfl) (fun _ _ _ => rfl)
      (fun f w act => reduceEff_eq f w act ▸ regsOnly_groupsEff _ _ _ _)
      (fun f s t _ ht => laneGroups_of (by rwa [reduceEff_eq] at ht))
  · refine xaDoes_of (fun _ _ => rfl) (fun _ _ _ => rfl) (fun _ _ _ => regsOnly_writeDst _ _ _ _)
      (fun f s t _ ht => laneWord_of_writeDst ht (fun l hl => ?_))
    rw [find?_scan_groups hl]
  · exact xaDoes_of (fun _ _ => rfl) (fun _ _ _ => rfl) (fun _ _ _ => regsOnly_writeDst _ _ _ _)
      (fun f s t _ ht => laneWord_of_writeDst ht (fun _ _ => rfl))
  · exact xaDoes_of (fun _ _ => rfl) (fun _ _ _ => rfl) (fun _ _ _ => regsOnly_writeDst _ _ _ _)
      (fun f s t _ ht => laneWord_of_writeDst ht (fun _ _ => rfl))

/-! ## VOTE -/

/-- A mask register written with a whole mask: every lane's bit. -/
theorem laneMask_of_setK {s t : State} {k x : Nat} (ht : RegsAre t (s.w.setK k x)) :
    LaneMask s t k s.w.allLanes (bit x) := by
  obtain ⟨hv, hs, hk, he, hr⟩ := ht
  refine ⟨fun j l hl => ?_, hv, hs, hr, he⟩
  have hg : t.w.getK j = (s.w.setK k x).getK j := congrArg (fun m => mapGet 0 m j) hk
  have hall : bit s.w.allLanes l = true := by
    rw [bit_eq_testBit, Wave.allLanes, Nat.testBit_two_pow_sub_one]
    simpa using hl
  rw [hg, Wave.getK_setK]
  by_cases hj : j = k
  · simp [hj, hall, bit_eq_testBit, Nat.testBit_mod_two_pow, hl]
  · simp [hj]

/-- VOTE's effect outside the ballots of a pair: a mask register, or a result per group. -/
theorem voteEff_of_mask {f : XaF} {w : Wave} {act : Nat} (h : f.imm8.getLsbD 7 = true) :
    voteEff f w act = w.setK (f.d9.toNat % 8) (voteMask f w act) := if_pos h

theorem voteEff_of_group {f : XaF} {w : Wave} {act : Nat} (h : f.imm8.getLsbD 7 = false)
    (h64 : ¬ (w.width = 64 ∧ f.variant = 2 ∧ f.d9.toNat < 320)) : voteEff f w act =
      groupsEff w f.d9.toNat (w.voters act) (fun g => voteGroup f w act g (w.groupOf g).2) := by
  simp only [voteEff, h, Bool.false_eq_true, if_false, groupsEff]
  split
  · next hd => rw [hd]
  · next n hd =>
    have hn : ¬ (w.width = 64 ∧ f.variant = 2) := fun hc => h64 ⟨hc.1, hc.2, (lt_of_laneIx_v hd).1⟩
    rw [if_neg hn]
    simp only [hd, Wave.writeDst]
    exact setLanes_congr (fun l => Nat.mod_mod _ _)
  · next hrq hv =>
    simp only [Wave.writeDst]

theorem voteEff_of_pair {f : XaF} {w : Wave} {act : Nat} (h : f.imm8.getLsbD 7 = false) (hw : w.width = 64)
    (hv : f.variant = 2) (hd : f.d9.toNat < 320) : voteEff f w act =
      w.setPair f.d9.toNat (lanesOf (w.voters act) 64) (fun _ => voteGroup f w act 0 64 % 2 ^ 32)
        (fun _ => voteGroup f w act 0 64 >>> 32) := by
  simp only [voteEff, h, Bool.false_eq_true, if_false, laneIx_of_lt hd, hw, hv, and_self, if_true, Wave.groupOf,
    Wave.setPair, Wave.lanes]

theorem regsOnly_voteEff (f : XaF) (w : Wave) (act : Nat) : RegsOnly w (voteEff f w act) := by
  cases h : f.imm8.getLsbD 7
  · by_cases hp : w.width = 64 ∧ f.variant = 2 ∧ f.d9.toNat < 320
    · rw [voteEff_of_pair h hp.1 hp.2.1 hp.2.2]
      exact regsOnly_setPair _ _ _ _ _
    · rw [voteEff_of_group h hp]
      exact regsOnly_groupsEff _ _ _ _
  · rw [voteEff_of_mask h]
    rfl

theorem voteEffect_of {f : XaF} {s t : State} (ht : RegsAre t (voteEff f s.w (s.w.active f.kmask.toNat))) :
    VoteEffect f s t := by
  unfold VoteEffect
  cases h : f.imm8.getLsbD 7
  · rw [if_neg (by simp)]
    split
    · next hp =>
      obtain ⟨hw, hv, hd⟩ := hp
      rw [voteEff_of_pair h hw hv hd] at ht
      obtain ⟨hg, hs, hk, he, hr⟩ := pair_of_regsAre (fun l hl => ((mem_lanesOf _ _ _).mp hl).1) ht
      have hres : (s.w.groupOf 0).2 = 64 := by rw [Wave.groupOf, if_pos hw]
      simp only [hres]
      refine ⟨fun r l hl => ?_, hk, he, hr, fun x => ?_⟩
      · rw [hg r l hl]
        simp only [mem_lanesOf, hl, true_and, Nat.mod_mod, Nat.shiftRight_eq_div_pow]
      · rw [hs x]
        simp only [mem_lanesOf, and_assoc]
    · next hp => exact laneGroups_of (by rwa [voteEff_of_group h hp] at ht)
  · rw [if_pos rfl]
    exact laneMask_of_setK (by rwa [voteEff_of_mask h] at ht)

theorem ballotNext_eq (f : XaF) (s : State) : ballotNext f s.w =
    if s.w.width = 64 ∧ f.variant = 2 ∧ f.d9.toNat < 320 ∧ f.imm8.getLsbD 7 = false then [f.d9.toNat + 1] else [] := by
  simp only [ballotNext, Bool.not_eq_true']

/-- The page that VOTE's body uses is the claim's. -/
theorem voteSpec_eq (s : State) (f : XaF) :
    (if ballotNext f s.w = [] then specVote f else { specVote f with d := .vpair }) = voteSpec s f := by
  rw [ballotNext_eq, voteSpec]
  split
  · rfl
  · rfl

/-- The pair that a ballot of 64 lanes writes lies in the allocation. -/
theorem regCheck_ballotNext {f : XaF} {s : State} (hok : LaneOk s (voteSpec s f) f [])
    (h319 : s.w.width = 64 → f.variant = 2 → f.imm8.getLsbD 7 = false → f.d9.toNat = 319 → 40 < s.w.g) :
    s.regCheck (s.w.active f.kmask.toNat) (ballotNext f s.w) = .ok () := by
  by_cases hp : s.w.width = 64 ∧ f.variant = 2 ∧ f.d9.toNat < 320 ∧ f.imm8.getLsbD 7 = false
  · have hreg := regCheck_eq_ok.mp hok.2.2
    rw [voteSpec, if_pos hp] at hreg
    obtain ⟨hw, hv, hd, hm⟩ := hp
    rw [ballotNext_eq, if_pos ⟨hw, hv, hd, hm⟩, regCheck_eq_ok]
    intro r hr
    obtain rfl := List.mem_singleton.mp hr
    by_cases h : f.d9.toNat = 319
    · have := h319 hw hv hm h
      omega
    · exact hreg _ (by simp [vRegs, xaDsts]; omega)
  · rw [ballotNext_eq, if_neg hp]
    rfl

theorem bodyVote_eq {f : XaF} {s : State} {words : Nat} (hok : LaneOk s (voteSpec s f) f [])
    (h319 : s.w.width = 64 → f.variant = 2 → f.imm8.getLsbD 7 = false → f.d9.toNat = 319 → 40 < s.w.g) :
    bodyVote s words (specVote f) f = s.laneForm words (voteSpec s f) f [] (voteEff f) := by
  unfold bodyVote
  rw [voteSpec_eq, regCheck_ballotNext hok h319]
  cases s.laneForm words (voteSpec s f) f [] (voteEff f) <;> rfl

theorem xaSrcs_voteSpec (s : State) (f : XaF) : s.w.xaSrcs (voteSpec s f) f = s.w.xaSrcs (specVote f) f := by
  unfold voteSpec
  split <;> rfl

theorem vote_issue {i : Instr} {kmask words : Nat} {f : XaF} {s : State} (h : Issues s .lane 6)
    (hok : LaneOk s (voteSpec s f) f [])
    (h319 : s.w.width = 64 → f.variant = 2 → f.imm8.getLsbD 7 = false → f.d9.toNat = 319 → 40 < s.w.g) :
    ∃ t, s.issue i (some .lane) kmask 6 none (fun s => bodyVote s words (specVote f) f) = .next t ∧ OnlyWave s t 6
      ∧ LaneFrame s t words (s.w.xaSrcs (specVote f) f) ∧ VoteEffect f s t := by
  obtain ⟨t, ht, hw, hf, hr⟩ := laneIssue_next (i := i) (kmask := kmask)
    (body := fun s => bodyVote s words (specVote f) f) h hok (bodyVote_eq hok h319) (regsOnly_voteEff _ _ _)
  exact ⟨t, ht, hw, by simpa [xaSrcs_voteSpec] using hf, voteEffect_of hr⟩

theorem laneVotes : LaneVotes := by
  refine ⟨?_, ?_⟩
  · intro f s h hl hok
    obtain ⟨t, ht, hrest⟩ := vote_issue (i := .voteXA f) (kmask := f.kmask.toNat) (words := xaWords f) h hok.1 hok.2
    refine ⟨t, ?_, hrest⟩
    have he : exec (.voteXA f) s = execVoteXA f s := rfl
    rw [he, execVoteXA, State.laneXA, laneXAIf_legal hl (dynRandFault_of_none rfl)]
    exact ht
  · intro b s f h hl hok
    obtain ⟨t, ht, hrest⟩ := vote_issue (i := .voteBA b) (kmask := 0) (words := baWords b) h hok.1 hok.2
    refine ⟨t, ?_, hrest⟩
    have he : exec (.voteBA b) s = execVoteBA b s := rfl
    rw [he, execVoteBA, State.laneBA, hl]
    exact ht

/-- Settles O6: REDUCE and VOTE by a result per group, SCAN by `find?_scan_groups`, a ballot of 64 lanes by a pair. -/
theorem laneReductionsAndVotes : Obligations.LaneReductionsAndVotes := ⟨laneReductions, laneVotes⟩

end Sys2Proof.Machine
end

section
/-! The exchanges between lanes and CXSTAGE complete with their values (06 R156, R157, R161; 03 R82). -/
namespace Sys2Proof.Machine
open Sys2Proof.Claims

/-! ## SHFL, BCAST, QSWAP and QBCAST -/

/-- The group of a lane at one of the three widths (02 R31; 06 R134). -/
theorem groupOf_eq {w : Wave} (hw : w.width = 16 ∨ w.width = 32 ∨ w.width = 64) {l : Nat} (hl : l < w.lanes) :
    w.groupOf l = (l / w.width * w.width, w.width) := by
  unfold Wave.lanes at hl
  unfold Wave.groupOf
  rcases hw with h | h | h <;> simp only [h] at hl ⊢
  · simp
  · rw [if_neg (by decide)] at hl
    simp [Nat.div_eq_of_lt hl]
  · rw [if_pos trivial] at hl
    simp [Nat.div_eq_of_lt hl]

/-- Exclusive OR of two places of a group is a place of the group. -/
theorem xor_lt_width {w : Wave} (hw : w.width = 16 ∨ w.width = 32 ∨ w.width = 64) {a b : Nat} (ha : a < w.width)
    (hb : b < w.width) : a ^^^ b < w.width := by
  obtain ⟨k, hk⟩ : ∃ k, w.width = 2 ^ k := by
    rcases hw with h | h | h
    · exact ⟨4, h⟩
    · exact ⟨5, h⟩
    · exact ⟨6, h⟩
  rw [hk] at ha hb ⊢
  exact Nat.xor_lt_two_pow ha hb

/-- What SHFL reads in a lane: the lane that its variant names, or its own where that lies outside the group (06 R156). -/
def shflVal (f : XaF) (w : Wave) (l : Nat) : Nat :=
  let n := f.bT 6 w l
  let r := l % w.width
  let ok := [true, decide (n ≤ r), decide (r + n < w.width), true].getD f.variant false
  let j := [n % w.width, r - n, r + n, r ^^^ (n % w.width)].getD f.variant 0
  if ok then f.aT 6 w (l / w.width * w.width + j) else f.aT 6 w l

theorem opShfl_eq {f : XaF} {w : Wave} (hw : w.width = 16 ∨ w.width = 32 ∨ w.width = 64) (hv : f.variant < 4) {l : Nat}
    (hl : l < w.lanes) : opShfl f w l = shflVal f w l := by
  have hpos : 0 < w.width := by omega
  have hr : l - l / w.width * w.width = l % w.width := by rw [Nat.mul_comm]; exact Nat.mod_eq_sub_mul_div.symm
  have hlt : l % w.width < w.width := Nat.mod_lt _ hpos
  have hn : f.bT 6 w l % w.width < w.width := Nat.mod_lt _ hpos
  simp only [opShfl, shflVal, groupOf_eq hw hl, hr]
  obtain h | h | h | h : f.variant = 0 ∨ f.variant = 1 ∨ f.variant = 2 ∨ f.variant = 3 := by omega
  · simp [h, hn]
  · by_cases hle : f.bT 6 w l ≤ l % w.width
    · simp [h, hle, show l % w.width - f.bT 6 w l < w.width by omega]
    · simp [h, hle]
  · simp [h]
  · simp [h, xor_lt_width hw hlt hn]

theorem shfl_claim (f : XaF) (s t : State) (hl : legalXa (specShfl f) f = none)
    (ht : RegsAre t (s.w.writeDst f.d9.toNat (s.w.active f.kmask.toNat) (opShfl f s.w)))
    (hw : s.w.width = 16 ∨ s.w.width = 32 ∨ s.w.width = 64) : ToLanes shflVal f s t := by
  have hv : f.variant < 4 := by
    have := variant_mem_of_legalXa hl
    simp only [specShfl, List.mem_cons, List.not_mem_nil, or_false] at this
    omega
  exact laneWord_of_writeDst ht (fun l hl => by rw [opShfl_eq hw hv hl])

theorem laneExchange : LaneExchange := by
  refine ⟨?_, ?_, ?_, ?_, ?_, ?_⟩
  · exact baDoes_of (eff := fun f w act => w.writeDst f.d9.toNat act (opShfl f w)) (fun _ _ => rfl) (fun _ _ _ => rfl)
      (fun _ _ _ => regsOnly_writeDst _ _ _ _) shfl_claim
  · exact xaDoes_of (eff := fun f w act => w.writeDst f.d9.toNat act (opShfl f w)) (fun _ _ => rfl) (fun _ _ _ => rfl)
      (fun _ _ _ => regsOnly_writeDst _ _ _ _) shfl_claim
  · exact baDoes_of (fun _ _ => rfl) (fun _ _ _ => rfl) (fun _ _ _ => regsOnly_writeDst _ _ _ _)
      (fun _ _ _ _ ht => laneWord_of_writeDst ht (fun _ _ => rfl))
  · exact xaDoes_of (fun _ _ => rfl) (fun _ _ _ => rfl) (fun _ _ _ => regsOnly_writeDst _ _ _ _)
      (fun _ _ _ _ ht => laneWord_of_writeDst ht (fun _ _ => rfl))
  · exact bothGive_eq (val' := opQswap) (fun _ _ => rfl) (fun _ _ => rfl) (fun _ _ _ _ => rfl)
  · exact bothGive_eq (val' := opQbcast) (fun _ _ => rfl) (fun _ _ => rfl) (fun _ _ _ _ => rfl)

/-! ## CXSTAGE -/

theorem billed_countRet (s : State) (n weight : Nat) : (s.countRet n).billed weight = (s.billed weight).countRet n := by
  unfold State.billed
  exact (apply_ite (fun x : State => x.countRet n) (s.w.mgmt = true) s (s.charge s.w.core weight)).symm

/-- A use counter counted by a form before its charge, or after it. -/
theorem issued_countRet (s : State) (n weight : Nat) : (s.countRet n).issued weight = (s.issued weight).countRet n := by
  unfold State.issued
  rw [billed_countRet]
  rfl

theorem onlyWave_countRet {s t : State} {weight : Nat} (n : Nat) (h : OnlyWave s t weight) :
    OnlyWave (s.countRet n) (t.countRet n) weight := by
  obtain ⟨hw, hc, hm⟩ := h
  refine ⟨?_, hc, hm⟩
  rw [hw]
  rfl

theorem cxEff_eq (f : XaF) (w : Wave) (act : Nat) : cxEff f w act =
    w.setPair f.d9.toNat (lanesOf act w.lanes) (fun l => (cxLane f w l).1) (fun l => (cxLane f w l).2) := rfl

theorem cxStage_eq_none {f : XaF} {w : Wave} (h : f.imm8.toNat % 8 < groupLog (w.groupOf 0).2) : w.cxStage f = none := by
  rw [Wave.cxStage, badValue, faultIf_eq_none, decide_eq_false_iff_not]
  omega

theorem butterflyStageCompletes : ButterflyStageCompletes := by
  intro f s h hl hok hstage
  have hbody := laneForm_ok (xaWords f) (cxEff f) hok
  obtain ⟨hw, hf, hr⟩ := laneAfter_issued (eff := fun w => cxEff f w (s.w.active f.kmask.toNat)) (xaWords f)
    (s.w.xaSrcs (specCx f) f ++ []) h (regsOnly_setPair _ _ _ _ _)
  obtain ⟨hv, hsect, hk, he, hrq⟩ := pair_of_regsAre (fun _ => lanesOf_lt_64) hr
  rw [List.append_nil] at hf hbody hw hv hsect hk he hrq
  refine ⟨(State.issued _ 24).countRet 0, ?_, onlyWave_countRet 0 hw, hf, fun r l hlt => ?_, fun x => ?_, hk, he, hrq, ?_⟩
  · have hx : exec (.cxstage f) s = execCxstage f s := rfl
    rw [hx, execCxstage, cxStage_eq_none hstage, laneXAIf_legal hl hok.1, ← issued_countRet]
    refine issue_of_body h rfl ?_ h.2.2.2.2
    rw [bodyCx, hbody]
    rfl
  · exact (hv r l hlt).trans (by simp only [mem_lanesOf, and_assoc])
  · exact (hsect x).trans (by simp only [mem_lanesOf, and_assoc])
  · rw [hw.1]
    rfl

/-- Settles O7: SHFL by `opShfl_eq`, CXSTAGE as a pair of registers, counted by `issued_countRet`. -/
theorem laneExchangesAndButterflies : Obligations.LaneExchangesAndButterflies := ⟨laneExchange, butterflyStageCompletes⟩

end Sys2Proof.Machine
end

section
/-! The moves of the lane stream and the register accesses of a handler (06 R136, R162, R164). -/
namespace Sys2Proof.Machine
open Sys2Proof.Claims

/-! ## Registers written lane by lane, each at a place of its own -/

/-- A word written for each lane of a list, in its order: register `reg l`, lane `ln l`. -/
def Wave.setEach (w : Wave) (ls : List Nat) (reg ln val : Nat → Nat) : Wave :=
  ls.foldl (fun acc l => acc.setV (reg l) (ln l) (val l)) w

theorem setEach_frame (w : Wave) (ls : List Nat) (reg ln val : Nat → Nat) :
    w.setEach ls reg ln val = { w with v := (w.setEach ls reg ln val).v, sect := (w.setEach ls reg ln val).sect } := by
  induction ls generalizing w with
  | nil => rfl
  | cons l rest ih => exact ih (w.setV (reg l) (ln l) (val l))

theorem regsOnly_setEach (w : Wave) (ls : List Nat) (reg ln val : Nat → Nat) :
    RegsOnly w (w.setEach ls reg ln val) := by
  rw [setEach_frame]
  rfl

/-- The last lane that writes a word gives its value. -/
theorem getV_setEach {w : Wave} {ls : List Nat} {reg ln val : Nat → Nat} (hln : ∀ i ∈ ls, ln i < 64) (r : Nat) {l : Nat}
    (hl : l < 64) : (w.setEach ls reg ln val).getV r l =
      (((ls.filter (fun i => reg i == r && ln i == l)).getLast?).map (fun i => val i % 2 ^ 32)).getD (w.getV r l) := by
  induction ls generalizing w with
  | nil => rfl
  | cons a rest ih =>
    have hstep : (w.setV (reg a) (ln a) (val a)).getV r l = if r = reg a ∧ l = ln a then val a % 2 ^ 32 else w.getV r l :=
      Wave.getV_setV w _ _ _ r l (hln a (by simp)) hl
    have hrest : (w.setEach (a :: rest) reg ln val) = (w.setV (reg a) (ln a) (val a)).setEach rest reg ln val := rfl
    rw [hrest, ih (fun i hi => hln i (by simp [hi])), hstep]
    by_cases h : r = reg a ∧ l = ln a
    · rw [if_pos h, List.filter_cons_of_pos (by simp [h]), List.getLast?_cons]
      cases (rest.filter (fun i => reg i == r && ln i == l)).getLast? <;> rfl
    · have hne : ¬ ((reg a == r && ln a == l) = true) := by simpa [eq_comm (a := reg a), eq_comm (a := ln a)] using h
      rw [if_neg h, List.filter_cons, if_neg hne]

theorem mem_sect_setEach {w : Wave} {ls : List Nat} {reg ln val : Nat → Nat} {x : Nat} :
    x ∈ (w.setEach ls reg ln val).sect ↔ x ∈ w.sect ∨ ∃ i ∈ ls, x = regSector (reg i) (ln i) := by
  induction ls generalizing w with
  | nil => simp [Wave.setEach]
  | cons a rest ih =>
    have hrest : (w.setEach (a :: rest) reg ln val) = (w.setV (reg a) (ln a) (val a)).setEach rest reg ln val := rfl
    rw [hrest, ih, Wave.setV_sect, mem_insertAsc, or_assoc, or_left_comm]
    simp only [List.mem_cons, exists_eq_or_imp]

/-- Words written lane by lane: what stands afterwards, the sectors made valid, and what stays. -/
theorem each_of_regsAre {s t : State} {ls : List Nat} {reg ln val : Nat → Nat} (hln : ∀ i ∈ ls, ln i < 64)
    (ht : RegsAre t (s.w.setEach ls reg ln val)) :
    (∀ r l, l < 64 → t.w.getV r l =
      (((ls.filter (fun i => reg i == r && ln i == l)).getLast?).map (fun i => val i % 2 ^ 32)).getD (s.w.getV r l))
    ∧ NewSectors s t (fun r l => ∃ i ∈ ls, reg i = r ∧ ln i = l)
    ∧ t.w.kreg = s.w.kreg ∧ t.w.exec = s.w.exec ∧ t.w.rq = s.w.rq := by
  refine ⟨fun r l hl => by rw [ht.getV, getV_setEach hln _ hl], ?_⟩
  obtain ⟨-, hs, hk, he, hr⟩ := ht
  refine ⟨fun x => ?_, ?_⟩
  · rw [hs, mem_sect_setEach]
    refine or_congr_right ⟨?_, ?_⟩
    · rintro ⟨i, hi, hx⟩
      exact ⟨reg i, ln i, ⟨i, hi, rfl, rfl⟩, hx⟩
    · rintro ⟨r, l, ⟨i, hi, rfl, rfl⟩, hx⟩
      exact ⟨i, hi, hx⟩
  · rw [hk, he, hr, setEach_frame]
    exact ⟨rfl, rfl, rfl⟩

/-- Among writers that each stand at their own lane, only the lane itself writes its word. -/
theorem getLast?_own {ls : List Nat} {reg : Nat → Nat} {r l : Nat} :
    (ls.filter (fun i => reg i == r && i == l)).getLast? = if l ∈ ls ∧ r = reg l then some l else none := by
  cases h : (ls.filter (fun i => reg i == r && i == l)).getLast? with
  | none =>
    rw [List.getLast?_eq_none_iff, List.filter_eq_nil_iff] at h
    rw [if_neg]
    rintro ⟨hl, rfl⟩
    exact h l hl (by simp)
  | some i =>
    obtain ⟨hi, hp⟩ := List.mem_filter.mp (List.mem_of_getLast? h)
    obtain ⟨hr, rfl⟩ : reg i = r ∧ i = l := by simpa using hp
    rw [if_pos ⟨hi, hr.symm⟩]

/-! ## The checks of indices and lane numbers -/

theorem lanesWhere_eq_nil {w : Wave} {act : Nat} {p : Nat → Bool} (h : ∀ l ∈ lanesOf act w.lanes, p l = false) :
    lanesWhere w act p = [] := by
  rw [lanesWhere, List.filter_eq_nil_iff]
  simpa using h

theorem indexCheck_eq_ok {s : State} {act : Nat} {ix : Nat → Nat} (h : ∀ l ∈ lanesOf act s.w.lanes, ix l < 8 * s.w.g) :
    s.indexCheck act ix = .ok () := by
  rw [State.indexCheck, lanesWhere_eq_nil (fun l hl => by simpa using h l hl)]

theorem laneNumCheck_eq_ok {s : State} {act which : Nat} {ln : Nat → Nat}
    (h : ∀ l ∈ lanesOf act s.w.lanes, ln l < s.w.lanes) : s.laneNumCheck act which ln = .ok () := by
  rw [State.laneNumCheck, lanesWhere_eq_nil (fun l hl => by simpa using h l hl)]

/-! ## MOV, MOVREL and MOVRELW -/

theorem opMov_eq (f : XaF) (w : Wave) {l : Nat} (hl : l < 64) : opMov f w l = (aB f w l).toNat := (toNat_aB f w hl).symm

section
variable {f : XaF} {s : State} (h : Issues s .lane 4)
include h

theorem movrel_completes (hl : legalXa (specMovrel f) f = none) (hready : s.laneReady [f.b9.toNat] [f.d9.toNat] = .ok ())
    (hreg : s.regCheck (s.w.active f.kmask.toNat) (vRegs [f.d9.toNat, f.b9.toNat]) = .ok ())
    (hix : ∀ l ∈ lanesOf (s.w.active f.kmask.toNat) s.w.lanes, f.a9.toNat + f.bT 6 s.w l < 8 * s.w.g)
    (hsrc : s.laneReady ((lanesOf (s.w.active f.kmask.toNat) s.w.lanes).map (fun l => f.a9.toNat + f.bT 6 s.w l)) [] = .ok ()) :
    ∃ t, exec (.movrel f) s = .next t ∧ OnlyWave s t 4 ∧ LaneFrame s t (xaWords f) [f.b9.toNat]
      ∧ LaneWord s t f.d9.toNat (s.w.active f.kmask.toNat) (fun l => s.w.getV (f.a9.toNat + f.bT 6 s.w l) l) := by
  have hok : LaneOk s { specMovrel f with a := .none } f [] := ⟨dynRandFault_of_none rfl, hready, hreg⟩
  have hd : xaDsts (specMovrel f) f = [f.d9.toNat] := rfl
  obtain ⟨t, ht, hw, hf, hr⟩ := laneIssue_next (i := .movrel f) (kmask := f.kmask.toNat) (words := xaWords f)
    (body := fun s => bodyMovrel s (xaWords f) (specMovrel f) f)
    (eff := fun w act => w.writeDst f.d9.toNat act (fun l => w.getV (f.a9.toNat + f.bT 6 s.w l) l)) h hok
    (by simp only [bodyMovrel, hd, hready, hreg, indexCheck_eq_ok hix, hsrc]; rfl) (regsOnly_writeDst _ _ _ _)
  refine ⟨t, ?_, hw, hf, laneWord_of_writeDst hr (fun _ _ => rfl)⟩
  have he : exec (.movrel f) s = execMovrel f s := rfl
  rw [he, execMovrel, State.laneXA, laneXAIf_legal hl (dynRandFault_of_none rfl)]
  exact ht

theorem movrelw_completes (hl : legalXa (specMovrelw f) f = none)
    (hready : s.laneReady [f.a9.toNat, f.b9.toNat] [] = .ok ())
    (hreg : s.regCheck (s.w.active f.kmask.toNat) (vRegs [f.a9.toNat, f.b9.toNat]) = .ok ())
    (hix : ∀ l ∈ lanesOf (s.w.active f.kmask.toNat) s.w.lanes, f.d9.toNat + f.bT 6 s.w l < 8 * s.w.g)
    (hdst : s.laneReady [] ((lanesOf (s.w.active f.kmask.toNat) s.w.lanes).map (fun l => f.d9.toNat + f.bT 6 s.w l)) = .ok ()) :
    ∃ t, exec (.movrelw f) s = .next t ∧ OnlyWave s t 4 ∧ LaneFrame s t (xaWords f) [f.a9.toNat, f.b9.toNat]
      ∧ RegsAre t (s.w.setEach (lanesOf (s.w.active f.kmask.toNat) s.w.lanes) (fun l => f.d9.toNat + f.bT 6 s.w l) (fun l => l)
        (f.aT 6 s.w)) := by
  have hok : LaneOk s { specMovrelw f with d := .none } f [] := ⟨dynRandFault_of_none rfl, hready, hreg⟩
  obtain ⟨t, ht, hw, hf, hr⟩ := laneIssue_next (i := .movrelw f) (kmask := f.kmask.toNat) (words := xaWords f)
    (body := fun s => bodyMovrelw s (xaWords f) (specMovrelw f) f)
    (eff := fun w act => w.setEach (lanesOf act w.lanes) (fun l => f.d9.toNat + f.bT 6 s.w l) (fun l => l) (f.aT 6 w)) h hok
    (by simp only [bodyMovrelw, hready, hreg, indexCheck_eq_ok hix, hdst]; rfl) (regsOnly_setEach _ _ _ _ _)
  refine ⟨t, ?_, hw, hf, hr⟩
  have he : exec (.movrelw f) s = execMovrelw f s := rfl
  rw [he, execMovrelw, State.laneXA, laneXAIf_legal hl (dynRandFault_of_none rfl)]
  exact ht

end

theorem laneMoves : LaneMoves := by
  refine ⟨bothGive_eq (val' := opMov) (fun _ _ => rfl) (fun _ _ => rfl) (fun f w _ hl => opMov_eq f w hl),
    fun f s h hl => movrel_completes h hl, ?_⟩
  intro f s h hl act ix hready hreg hix hdst
  obtain ⟨t, ht, hw, hf, hr⟩ := movrelw_completes h hl hready hreg hix hdst
  obtain ⟨hv, hs, hk, he, hrq⟩ := each_of_regsAre (fun _ => lanesOf_lt_64) hr
  refine ⟨t, ht, hw, hf, fun r l hlt => ?_, fun x => ?_, hk, he, hrq⟩
  · rw [hv r l hlt, getLast?_own]
    simp only [mem_lanesOf, and_assoc]
    split
    · rfl
    · rfl
  · refine (hs x).trans (or_congr_right (exists₂_congr fun r l => and_congr_left fun _ => ⟨?_, ?_⟩))
    · rintro ⟨i, hi, rfl, rfl⟩
      exact ⟨((mem_lanesOf _ _ _).mp hi).1, ((mem_lanesOf _ _ _).mp hi).2, rfl⟩
    · rintro ⟨h1, h2, rfl⟩
      exact ⟨l, (mem_lanesOf _ _ _).mpr ⟨h1, h2⟩, rfl, rfl⟩

/-! ## VRDL and VWRL -/

theorem inHandler_eq_none {w : Wave} (h : w.inTrap = true) : w.inHandler = none := by
  rw [Wave.inHandler, h]
  rfl

section
variable {f : XaF} {s : State} (h : Issues s .lane 4)
include h

theorem vrdl_completes (hl : legalXa (specVrdl f) f = none) (htrap : s.w.inTrap = true) (hok : LaneOk s (specVrdl f) f [])
    (hix : ∀ l ∈ lanesOf (s.w.active f.kmask.toNat) s.w.lanes, f.bT 6 s.w l < s.w.lanes ∧ f.aT 6 s.w l < 8 * s.w.g)
    (hsrc : s.laneReady ((lanesOf (s.w.active f.kmask.toNat) s.w.lanes).map (f.aT 6 s.w)) [] = .ok ()) :
    ∃ t, exec (.vrdl f) s = .next t ∧ OnlyWave s t 4 ∧ LaneFrame s t (xaWords f) (s.w.xaSrcs (specVrdl f) f)
      ∧ LaneWord s t f.d9.toNat (s.w.active f.kmask.toNat) (fun l => s.w.getV (f.aT 6 s.w l) (f.bT 6 s.w l)) := by
  have hready := hok.2.1
  have hreg := hok.2.2
  rw [List.append_nil] at hready hreg
  obtain ⟨t, ht, hw, hf, hr⟩ := laneIssue_next (i := .vrdl f) (kmask := f.kmask.toNat) (words := xaWords f)
    (body := fun s => bodyVrdl s (xaWords f) (specVrdl f) f)
    (eff := fun w act => w.writeDst f.d9.toNat act (fun l => w.getV (f.aT 6 w l) (f.bT 6 w l))) h hok
    (by
      simp only [bodyVrdl, hready, laneNumCheck_eq_ok (fun l hl => (hix l hl).1), hreg,
        indexCheck_eq_ok (fun l hl => (hix l hl).2), hsrc]
      rfl)
    (regsOnly_writeDst _ _ _ _)
  refine ⟨t, ?_, hw, by simpa using hf, laneWord_of_writeDst hr (fun _ _ => rfl)⟩
  have he : exec (.vrdl f) s = execVrdl f s := rfl
  rw [he, execVrdl, inHandler_eq_none htrap, laneXAIf_legal hl hok.1]
  exact ht

theorem vwrl_completes (hl : legalXa (specVwrl f) f = none) (htrap : s.w.inTrap = true) (hok : LaneOk s (specVwrl f) f [])
    (hix : ∀ l ∈ lanesOf (s.w.active f.kmask.toNat) s.w.lanes, f.cT 6 s.w l < s.w.lanes ∧ f.bT 6 s.w l < 8 * s.w.g)
    (hdst : s.laneReady [] ((lanesOf (s.w.active f.kmask.toNat) s.w.lanes).map (f.bT 6 s.w)) = .ok ()) :
    ∃ t, exec (.vwrl f) s = .next t ∧ OnlyWave s t 4 ∧ LaneFrame s t (xaWords f) (s.w.xaSrcs (specVwrl f) f)
      ∧ RegsAre t (s.w.setEach (lanesOf (s.w.active f.kmask.toNat) s.w.lanes) (f.bT 6 s.w) (f.cT 6 s.w) (f.aT 6 s.w)) := by
  have hready := hok.2.1
  have hreg := hok.2.2
  have hd : xaDsts (specVwrl f) f = [] := rfl
  rw [List.append_nil, hd] at hready hreg
  rw [List.nil_append] at hreg
  obtain ⟨t, ht, hw, hf, hr⟩ := laneIssue_next (i := .vwrl f) (kmask := f.kmask.toNat) (words := xaWords f)
    (body := fun s => bodyVwrl s (xaWords f) (specVwrl f) f)
    (eff := fun w act => w.setEach (lanesOf act w.lanes) (f.bT 6 w) (f.cT 6 w) (f.aT 6 w)) h hok
    (by
      simp only [bodyVwrl, hready, laneNumCheck_eq_ok (fun l hl => (hix l hl).1), hreg,
        indexCheck_eq_ok (fun l hl => (hix l hl).2), hdst]
      rfl)
    (regsOnly_setEach _ _ _ _ _)
  refine ⟨t, ?_, hw, by simpa using hf, hr⟩
  have he : exec (.vwrl f) s = execVwrl f s := rfl
  rw [he, execVwrl, inHandler_eq_none htrap, laneXAIf_legal hl hok.1]
  exact ht

end

theorem handlerLaneAccess : HandlerLaneAccess := by
  refine ⟨fun f s h hl htrap hok => vrdl_completes h hl htrap hok, ?_⟩
  intro f s h hl htrap hok act hix hdst
  obtain ⟨t, ht, hw, hf, hr⟩ := vwrl_completes h hl htrap hok hix hdst
  have hln : ∀ i ∈ lanesOf act s.w.lanes, f.cT 6 s.w i < 64 := fun i hi =>
    Nat.lt_of_lt_of_le (hix i hi).1 (lanes_le s.w)
  obtain ⟨hv, hs, hk, he, hrq⟩ := each_of_regsAre hln hr
  refine ⟨t, ht, hw, hf, fun r l hlt => ?_, hs, hk, he, hrq⟩
  rw [hv r l hlt]
  cases ((lanesOf act s.w.lanes).filter (fun i => f.bT 6 s.w i == r && f.cT 6 s.w i == l)).getLast? <;> rfl

/-- Settles O8: the moves by a result per lane or by `setEach`, whose last writer of a word stands. -/
theorem laneRegisterMoves : Obligations.LaneRegisterMoves := ⟨laneMoves, handlerLaneAccess⟩

end Sys2Proof.Machine
end

section
/-! Mask register logic, and `exec` read and written (06 R162, R163). -/
namespace Sys2Proof.Machine
open Sys2Proof.Claims

/-! ## Mask registers -/

theorem laneMask_congr {s t : State} {k m : Nat} {p q : Nat → Bool} (h : ∀ l, l < s.w.lanes → p l = q l)
    (hp : LaneMask s t k m p) : LaneMask s t k m q := by
  obtain ⟨hk, hrest⟩ := hp
  refine ⟨fun j l hl => ?_, hrest⟩
  rw [hk j l hl, h l hl]

theorem kField_eq_none {i : BitVec 7} (h : kField i = none) : i.toNat % 8 = i.toNat := by
  rw [kField, faultIf_eq_none, decide_eq_false_iff_not] at h
  omega

/-- A legal mask form has no literal, and its fields name mask registers. -/
theorem fields_of_legalK {useB : Bool} {f : BaF} (h : legalK useB f = none) :
    f.lit.isSome = false ∧ f.d.toNat % 8 = f.d.toNat ∧ f.a.toNat % 8 = f.a.toNat ∧ f.b.toNat % 8 = f.b.toNat := by
  have hall := forall_none_of_opcodeFirst h
  simp only [List.mem_cons, List.not_mem_nil, or_false, forall_eq_or_imp, forall_eq] at hall
  obtain ⟨hlit, hd, ha, hb⟩ := hall
  refine ⟨faultIf_eq_none.mp hlit, kField_eq_none hd, kField_eq_none ha, ?_⟩
  cases useB
  · have hz : f.b = 0#7 := by simpa [zeroField, faultIf_eq_none] using hb
    rw [hz]
    rfl
  · exact kField_eq_none hb

/-- A mask form completes with its operation on every bit. -/
theorem maskForm_does {i : BaF → Instr} {useB : Bool} {op : Nat → Nat → Nat} {opb : Bool → Bool → Bool}
    (hexec : ∀ f s, exec (i f) s = s.maskForm (i f) useB f op)
    (hop : ∀ a b l, l < 64 → bit (op a b) l = opb (bit a l) (bit b l)) (f : BaF) (s : State) (h : Issues s .lane 4)
    (hl : legalK useB f = none) :
    ∃ t, exec (i f) s = .next t ∧ OnlyWave s t 4 ∧ LaneFrame s t 1 []
      ∧ LaneMask s t f.d.toNat s.w.allLanes (fun l => opb (bit (s.w.getK f.a.toNat) l) (bit (s.w.getK f.b.toNat) l)) := by
  obtain ⟨hlit, hd, ha, hb⟩ := fields_of_legalK hl
  have hwords : baWords f = 1 := by simp [baWords, hlit]
  obtain ⟨hw, hf, hr⟩ := laneAfter_issued
    (eff := fun w => w.setK (f.d.toNat % 8) (op (w.getK (f.a.toNat % 8)) (w.getK (f.b.toNat % 8)))) 1 [] h rfl
  rw [hd, ha, hb] at hw hf hr
  refine ⟨_, ?_, hw, hf, laneMask_congr (fun l hlt => hop _ _ l (Nat.lt_of_lt_of_le hlt (lanes_le _))) (laneMask_of_setK hr)⟩
  rw [hexec, State.maskForm, hl, hwords, hd, ha, hb]
  exact issue_of_body h rfl rfl h.2.2.2.2

theorem maskRegisterLogic : MaskRegisterLogic :=
  ⟨maskForm_does (fun f s => Eq.trans (b := execKand f s) rfl rfl)
    (fun a b l _ => by simp only [bit_eq_testBit, Nat.testBit_and]),
   maskForm_does (fun f s => Eq.trans (b := execKor f s) rfl rfl)
    (fun a b l _ => by simp only [bit_eq_testBit, Nat.testBit_or]),
   maskForm_does (fun f s => Eq.trans (b := execKxor f s) rfl rfl)
    (fun a b l _ => by simp only [bit_eq_testBit, Nat.testBit_xor]),
   maskForm_does (opb := fun a _ => !a) (fun f s => Eq.trans (b := execKnot f s) rfl rfl)
    (fun a b l hl => by
      rw [bit_eq_testBit, bit_eq_testBit, Nat.testBit_xor, Nat.testBit_two_pow_sub_one, decide_eq_true hl, Bool.true_xor]),
   maskForm_does (opb := fun a _ => a) (fun f s => Eq.trans (b := execKmov f s) rfl rfl) (fun _ _ _ _ => rfl)⟩

/-! ## GETEXEC -/

theorem getexecEff_of_mask {f : XaF} {w : Wave} {act : Nat} (h : f.imm8.getLsbD 7 = true) :
    getexecEff f w act = w.setK (f.d9.toNat % 8) w.exec := if_pos h

theorem getexecEff_of_word {f : XaF} {w : Wave} {act : Nat} (h : f.imm8.getLsbD 7 = false) (hw : w.width ≠ 64) :
    getexecEff f w act = w.writeDst f.d9.toNat act (opGetexec f w) := by
  simp only [getexecEff, h, Bool.false_eq_true, if_false, if_neg hw]

theorem getexecEff_of_pair {f : XaF} {w : Wave} {act : Nat} (h : f.imm8.getLsbD 7 = false) (hw : w.width = 64)
    (hd : f.d9.toNat < 320) : getexecEff f w act =
      w.setPair f.d9.toNat (lanesOf act w.lanes) (opGetexec f w) (fun _ => w.exec >>> 32) := by
  simp only [getexecEff, h, Bool.false_eq_true, if_false, if_pos hw, Wave.writeDst, laneIx_of_lt hd]
  rfl

theorem opGetexec_eq (f : XaF) (w : Wave) (l : Nat) : opGetexec f w l =
    if w.width = 16 then w.exec / 2 ^ (l / 16 * 16) % 2 ^ 16 else w.exec % 2 ^ 32 := by
  rw [opGetexec, bits, Nat.shiftRight_eq_div_pow]

section
variable {f : XaF} {s : State} (hd : f.imm8.getLsbD 7 = false → s.w.width = 64 → f.d9.toNat ≤ 318)
include hd

theorem regsOnly_getexecEff (act : Nat) : RegsOnly s.w (getexecEff f s.w act) := by
  cases h : f.imm8.getLsbD 7
  · by_cases hw : s.w.width = 64
    · rw [getexecEff_of_pair h hw (by have := hd h hw; omega)]
      exact regsOnly_setPair _ _ _ _ _
    · rw [getexecEff_of_word h hw]
      exact regsOnly_writeDst _ _ _ _
  · rw [getexecEff_of_mask h]
    rfl

theorem getexecEffect_of {t : State} (ht : RegsAre t (getexecEff f s.w (s.w.active f.kmask.toNat))) :
    GetexecEffect f s t := by
  unfold GetexecEffect
  cases h : f.imm8.getLsbD 7
  · rw [if_neg (by simp)]
    by_cases hw : s.w.width = 64
    · have hd320 : f.d9.toNat < 320 := by have := hd h hw; omega
      rw [getexecEff_of_pair h hw hd320] at ht
      obtain ⟨hv, hs, hk, he, hr⟩ := pair_of_regsAre (fun _ => lanesOf_lt_64) ht
      have h64 : s.w.lanes = 64 := if_pos hw
      rw [if_pos ⟨hw, hd320⟩]
      refine ⟨fun r l hl => ?_, hk, he, hr, fun x => ?_⟩
      · have hword : opGetexec f s.w l = s.w.exec % 2 ^ 32 := by rw [opGetexec_eq, if_neg (by omega)]
        rw [hv r l hl]
        simp only [mem_lanesOf, h64, hl, true_and, hword, Nat.mod_mod, Nat.shiftRight_eq_div_pow]
      · rw [hs x]
        simp only [mem_lanesOf, h64, and_assoc]
    · rw [if_neg (fun hc => hw hc.1)]
      rw [getexecEff_of_word h hw] at ht
      exact laneWord_of_writeDst ht (fun l _ => by rw [opGetexec_eq])
  · rw [if_pos rfl]
    exact laneMask_of_setK (by rwa [getexecEff_of_mask h] at ht)

theorem bodyGetexec_eq (words : Nat) : bodyGetexec s words (specGetexec f) f =
    s.laneForm words (wideSpec s (specGetexec f)) f [] (getexecEff f) := by
  have hguard : (!f.imm8.getLsbD 7 && decide (s.w.width = 64 ∧ f.d9.toNat > 318)) = false := by
    cases h : f.imm8.getLsbD 7
    · have := hd h
      simp only [Bool.not_false, Bool.true_and, decide_eq_false_iff_not]
      omega
    · rfl
  have hdst : (specGetexec f).d ≠ .none := by
    show cmpDst f ≠ .none
    unfold cmpDst
    split <;> decide
  simp only [bodyGetexec, hguard, Bool.false_eq_true, if_false, wideSpec, hdst, not_false_eq_true, ne_eq, true_and,
    false_and, and_false, if_false]

end

/-- A form that reads no lane operand and no random bits. -/
theorem xaSrcs_wideSpec_getexec (s : State) (f : XaF) : s.w.xaSrcs (wideSpec s (specGetexec f)) f = [] := by
  unfold wideSpec
  split
  · rfl
  · rw [if_neg (by rintro ⟨-, -, h⟩; cases h)]
    rfl

theorem getexec_issue {i : Instr} {kmask words : Nat} {f : XaF} {s : State} (h : Issues s .lane 4)
    (hok : LaneOk s (wideSpec s (specGetexec f)) f [])
    (hd : f.imm8.getLsbD 7 = false → s.w.width = 64 → f.d9.toNat ≤ 318) :
    ∃ t, s.issue i (some .lane) kmask 4 none (fun s => bodyGetexec s words (specGetexec f) f) = .next t ∧ OnlyWave s t 4
      ∧ LaneFrame s t words [] ∧ GetexecEffect f s t := by
  obtain ⟨t, ht, hw, hf, hr⟩ := laneIssue_next (i := i) (kmask := kmask)
    (body := fun s => bodyGetexec s words (specGetexec f) f) h hok (bodyGetexec_eq hd words) (regsOnly_getexecEff hd _)
  exact ⟨t, ht, hw, by simpa [xaSrcs_wideSpec_getexec] using hf, getexecEffect_of hd hr⟩

/-! ## SETEXEC -/

theorem bodySetexec_eq {f : XaF} {s : State} (ha : f.imm8.getLsbD 6 = false → s.w.width = 64 → f.a9.toNat ≤ 318)
    (words : Nat) : bodySetexec s words (specSetexec f) f =
      s.laneForm words (wideSpec s (specSetexec f)) f [] (fun w _ => { w with exec := setexecVal f w }) := by
  have hguard : (!f.imm8.getLsbD 6 && decide (s.w.width = 64 ∧ f.a9.toNat > 318)) = false := by
    cases h : f.imm8.getLsbD 6
    · have := ha h
      simp only [Bool.not_false, Bool.true_and, decide_eq_false_iff_not]
      omega
    · rfl
  have hdst : (specSetexec f).d = .none := rfl
  simp only [bodySetexec, hguard, Bool.false_eq_true, if_false, wideSpec, hdst, not_true_eq_false, ne_eq, true_and,
    false_and, and_false, if_false]

theorem setexec_issue {i : Instr} {kmask words : Nat} {f : XaF} {s : State} (h : Issues s .lane 4)
    (hok : LaneOk s (wideSpec s (specSetexec f)) f [])
    (ha : f.imm8.getLsbD 6 = false → s.w.width = 64 → f.a9.toNat ≤ 318) :
    ∃ t, s.issue i (some .lane) kmask 4 none (fun s => bodySetexec s words (specSetexec f) f) = .next t ∧ OnlyWave s t 4
      ∧ LaneFrame s t words (s.w.xaSrcs (wideSpec s (specSetexec f)) f)
      ∧ (t.w.exec = setexecVal f s.w ∧ t.w.v = s.w.v ∧ t.w.sect = s.w.sect ∧ t.w.kreg = s.w.kreg ∧ t.w.rq = s.w.rq) := by
  obtain ⟨t, ht, hw, hf, hv, hs, hk, he, hr⟩ := laneIssue_next (i := i) (kmask := kmask)
    (body := fun s => bodySetexec s words (specSetexec f) f) h hok (bodySetexec_eq ha words) rfl
  exact ⟨t, ht, hw, by simpa using hf, he, hv, hs, hk, hr⟩

theorem execAccess : ExecAccess := by
  refine ⟨?_, ?_, ?_, ?_⟩
  · intro f s h hl hok
    obtain ⟨t, ht, hrest⟩ := getexec_issue (i := .getexecXA f) (kmask := f.kmask.toNat) (words := xaWords f) h hok.1 hok.2
    refine ⟨t, ?_, hrest⟩
    have he : exec (.getexecXA f) s = execGetexecXA f s := rfl
    rw [he, execGetexecXA, State.laneXA, laneXAIf_legal hl (dynRandFault_of_none rfl)]
    exact ht
  · intro b s f h hl hok
    obtain ⟨t, ht, hrest⟩ := getexec_issue (i := .getexecBA b) (kmask := 0) (words := baWords b) h hok.1 hok.2
    refine ⟨t, ?_, hrest⟩
    have he : exec (.getexecBA b) s = execGetexecBA b s := rfl
    rw [he, execGetexecBA, State.laneBA, hl]
    exact ht
  · intro f s h hl hok
    obtain ⟨t, ht, hrest⟩ := setexec_issue (i := .setexecXA f) (kmask := f.kmask.toNat) (words := xaWords f) h hok.1 hok.2
    refine ⟨t, ?_, hrest⟩
    have he : exec (.setexecXA f) s = execSetexecXA f s := rfl
    rw [he, execSetexecXA, State.laneXA, laneXAIf_legal hl (dynRandFault_of_none rfl)]
    exact ht
  · intro b s f h hl hok
    obtain ⟨t, ht, hrest⟩ := setexec_issue (i := .setexecBA b) (kmask := 0) (words := baWords b) h hok.1 hok.2
    refine ⟨t, ?_, hrest⟩
    have he : exec (.setexecBA b) s = execSetexecBA b s := rfl
    rw [he, execSetexecBA, State.laneBA, hl]
    exact ht

/-- Settles O9: the mask forms by `maskForm_does`, GETEXEC as a mask, a word or a pair, SETEXEC as `exec` alone. -/
theorem masksAndExec : Obligations.MasksAndExec := ⟨maskRegisterLogic, execAccess⟩

end Sys2Proof.Machine
end

section
/-! FP32 numbers: what a pattern stands for, and what rounding does with a number that has a pattern, lies beyond the
range, or lies below half the least magnitude (05 R106, R107, R113 to R115). -/
namespace Sys2Proof.Machine
open Sys2Proof.Claims

/-! ## The order of magnitude of a quotient -/

/-- 2^t ≤ n/d. -/
def TwoPowLe (n d : Nat) (t : Int) : Prop := d * 2 ^ t.toNat ≤ n * 2 ^ (-t).toNat

/-- The same at any two exponents whose difference is t. -/
theorem twoPowLe_iff {n d x y : Nat} {t : Int} (h : (x : Int) - y = t) : TwoPowLe n d t ↔ d * 2 ^ x ≤ n * 2 ^ y := by
  obtain ⟨c, hx, hy⟩ : ∃ c, x = t.toNat + c ∧ y = (-t).toNat + c := ⟨x - t.toNat, by omega, by omega⟩
  rw [hx, hy, Nat.pow_add, Nat.pow_add, ← Nat.mul_assoc, ← Nat.mul_assoc]
  exact (Nat.mul_le_mul_right_iff (Nat.two_pow_pos c)).symm

theorem TwoPowLe.mono {n d : Nat} {t t' : Int} (h : TwoPowLe n d t) (ht : t' ≤ t) : TwoPowLe n d t' := by
  obtain ⟨c, hc⟩ : ∃ c : Nat, t = t' + c := ⟨(t - t').toNat, by omega⟩
  rw [twoPowLe_iff (x := t'.toNat + c) (y := (-t').toNat) (by omega)] at h
  refine le_trans (Nat.mul_le_mul_left _ ?_) h
  exact Nat.pow_le_pow_right (by decide) (by omega)

/-- The exponent of a positive quotient is the greatest that does not exceed it. -/
theorem floorLog2_spec {n d : Nat} (hn : 0 < n) (hd : 0 < d) :
    TwoPowLe n d (floorLog2 n d) ∧ ¬ TwoPowLe n d (floorLog2 n d + 1) := by
  have hn1 : 2 ^ n.log2 ≤ n := Nat.log2_self_le hn.ne'
  have hn2 : n < 2 ^ (n.log2 + 1) := Nat.lt_log2_self
  have hd1 : 2 ^ d.log2 ≤ d := Nat.log2_self_le hd.ne'
  have hd2 : d < 2 ^ (d.log2 + 1) := Nat.lt_log2_self
  obtain ⟨T, hT⟩ : ∃ T : Int, T = (n.log2 : Int) - d.log2 := ⟨_, rfl⟩
  have hfl : floorLog2 n d =
      if (if T ≥ 0 then decide (n < d <<< T.toNat) else decide (n <<< (-T).toNat < d)) then T - 1 else T := by
    rw [hT]
    rfl
  have hbelow : (if T ≥ 0 then decide (n < d <<< T.toNat) else decide (n <<< (-T).toNat < d)) = true ↔ ¬ TwoPowLe n d T := by
    unfold TwoPowLe
    split
    · next h => rw [show (-T).toNat = 0 by omega]; simp [Nat.shiftLeft_eq]
    · next h => rw [show T.toNat = 0 by omega]; simp [Nat.shiftLeft_eq]
  have hlow : TwoPowLe n d (T - 1) := by
    rw [twoPowLe_iff (x := n.log2) (y := d.log2 + 1) (by omega), Nat.mul_comm n]
    exact Nat.mul_le_mul hd2.le hn1
  have hhigh : ¬ TwoPowLe n d (T + 1) := by
    rw [twoPowLe_iff (x := n.log2 + 1) (y := d.log2) (by omega), Nat.mul_comm d, Nat.not_le]
    exact Nat.mul_lt_mul_of_lt_of_le hn2 hd1 hd
  by_cases h : TwoPowLe n d T
  · rw [hfl, if_neg (mt hbelow.mp (not_not.mpr h))]
    exact ⟨h, hhigh⟩
  · rw [hfl, if_pos (hbelow.mpr h), Int.sub_add_cancel]
    exact ⟨hlow, h⟩

theorem floorLog2_eq {n d : Nat} {t : Int} (hn : 0 < n) (hd : 0 < d) (h : TwoPowLe n d t) (h' : ¬ TwoPowLe n d (t + 1)) :
    floorLog2 n d = t := by
  obtain ⟨hl, hh⟩ := floorLog2_spec hn hd
  have h1 : ¬ floorLog2 n d + 1 ≤ t := fun hle => hh (h.mono hle)
  have h2 : ¬ t + 1 ≤ floorLog2 n d := fun hle => h' (hl.mono hle)
  omega

/-! ## Rounding to FP32 -/

/-- The exponent at which a magnitude is rounded: its own, or the least one. -/
def expF32 (n d : Nat) : Int := max (floorLog2 n d) (-126)

/-- The magnitude in units of the last place: numerator. -/
def ulpNum (n d : Nat) : Nat := n * 2 ^ (23 - expF32 n d).toNat
/-- The magnitude in units of the last place: denominator. -/
def ulpDen (n d : Nat) : Nat := d * 2 ^ (expF32 n d - 23).toNat

/-- The significand after rounding. -/
def sigF32 (mode : RMode) (r : Nat) (neg : Bool) (n d : Nat) : Nat :=
  if roundsUp mode neg (ulpNum n d / ulpDen n d % 2 == 1) (ulpNum n d % ulpDen n d) (ulpDen n d) r then
    ulpNum n d / ulpDen n d + 1 else ulpNum n d / ulpDen n d

/-- The magnitude's pattern after rounding, while it is in range. -/
def magBits (mode : RMode) (r : Nat) (neg : Bool) (n d : Nat) : Nat :=
  (expF32 n d + 126).toNat * 2 ^ 23 + sigF32 mode r neg n d

/-- The sign of a pattern, in place. -/
def signF32 (neg : Bool) : Nat := if neg then 0x80000000 else 0

theorem roundFin_f32 (mode : RMode) (sat : Bool) (r : Nat) (neg : Bool) {n d : Nat} (hn : n ≠ 0) :
    roundFin .f32 mode sat r neg n d = if magBits mode r neg n d ≥ 0x7F800000
      then signF32 neg + (if sat then 0x7F7FFFFF else 0x7F800000) else signF32 neg + magBits mode r neg n d := by
  have hnum (q : Int) : (if q ≥ 0 then n else n <<< (-q).toNat) = n * 2 ^ (-q).toNat := by
    split
    · next h => rw [show (-q).toNat = 0 by omega, Nat.pow_zero, Nat.mul_one]
    · exact Nat.shiftLeft_eq _ _
  have hden (q : Int) : (if q ≥ 0 then d <<< q.toNat else d) = d * 2 ^ q.toNat := by
    split
    · exact Nat.shiftLeft_eq _ _
    · next h => rw [show q.toNat = 0 by omega, Nat.pow_zero, Nat.mul_one]
  have hq : -(expF32 n d - 23) = 23 - expF32 n d := by omega
  have hE : max (floorLog2 n d) (1 - ((FFmt.f32.bias : Nat) : Int)) = expF32 n d := rfl
  have hemin : (expF32 n d - (1 - ((FFmt.f32.bias : Nat) : Int))) = expF32 n d + 126 := by
    show expF32 n d - (1 - 127) = _
    omega
  have hfw : ((FFmt.f32.fw : Nat) : Int) = 23 := rfl
  simp only [roundFin, if_neg hn, hnum, hden, hE, hfw]
  rw [hemin, hq, Nat.shiftLeft_eq]
  rfl

theorem twoPowLe_expF32_iff {n d k : Nat} : TwoPowLe n d (expF32 n d - 23 + k) ↔ ulpDen n d * 2 ^ k ≤ ulpNum n d := by
  rw [twoPowLe_iff (x := (expF32 n d - 23).toNat + k) (y := (23 - expF32 n d).toNat) (by omega), ulpNum, ulpDen,
    Nat.pow_add, Nat.mul_assoc]

theorem ulpDen_pos {n d : Nat} (hd : 0 < d) : 0 < ulpDen n d := Nat.mul_pos hd (Nat.two_pow_pos _)

theorem le_sigF32 (mode : RMode) (r : Nat) (neg : Bool) (n d : Nat) :
    ulpNum n d / ulpDen n d ≤ sigF32 mode r neg n d ∧ sigF32 mode r neg n d ≤ ulpNum n d / ulpDen n d + 1 := by
  unfold sigF32
  split <;> omega

/-- A magnitude of 2^128 or more becomes infinite, or the greatest finite one under `sat` (05 R115). -/
theorem roundFin_overflow (mode : RMode) (sat : Bool) (r : Nat) (neg : Bool) {n d : Nat} (hd : 0 < d)
    (h : d * 2 ^ 128 ≤ n) : roundFin .f32 mode sat r neg n d = signF32 neg + (if sat then 0x7F7FFFFF else 0x7F800000) := by
  have hn : 0 < n := Nat.lt_of_lt_of_le (Nat.mul_pos hd (Nat.two_pow_pos _)) h
  obtain ⟨hl, hh⟩ := floorLog2_spec hn hd
  have h128 : TwoPowLe n d 128 := (twoPowLe_iff (x := 128) (y := 0) (by norm_num)).mpr (by simpa using h)
  have hfl : 128 ≤ floorLog2 n d := by
    by_contra hc
    exact hh (h128.mono (by omega))
  have hE : expF32 n d = floorLog2 n d := max_eq_left (by omega)
  have hsig : 2 ^ 23 ≤ ulpNum n d / ulpDen n d := by
    rw [Nat.le_div_iff_mul_le (ulpDen_pos hd), Nat.mul_comm, ← twoPowLe_expF32_iff]
    exact hl.mono (by omega)
  have hle := (le_sigF32 mode r neg n d).1
  rw [roundFin_f32 mode sat r neg hn.ne', if_pos]
  unfold magBits
  omega

/-- A magnitude below 2^127 is rounded alike with and without `sat`. -/
theorem roundFin_sat_of_lt (mode : RMode) (sat : Bool) (r : Nat) (neg : Bool) {n d : Nat} (hd : 0 < d)
    (h : n < d * 2 ^ 127) : roundFin .f32 mode sat r neg n d = roundFin .f32 mode false r neg n d := by
  by_cases hn : n = 0
  · simp only [roundFin, hn, if_true]
  obtain ⟨hl, hh⟩ := floorLog2_spec (Nat.pos_of_ne_zero hn) hd
  have h127 : ¬ TwoPowLe n d 127 := by
    rw [twoPowLe_iff (x := 127) (y := 0) (by norm_num)]
    simpa using h
  have hfl : floorLog2 n d < 127 := by
    by_contra hc
    exact h127 (hl.mono (by omega))
  have hE : floorLog2 n d ≤ expF32 n d ∧ expF32 n d ≤ 126 := ⟨le_max_left _ _, max_le (by omega) (by decide)⟩
  have hsig : ulpNum n d / ulpDen n d < 2 ^ 24 := by
    rw [Nat.div_lt_iff_lt_mul (ulpDen_pos hd), Nat.mul_comm, ← Nat.not_le, ← twoPowLe_expF32_iff]
    exact fun hc => hh (hc.mono (by omega))
  have hle := (le_sigF32 mode r neg n d).2
  have hlt : ¬ magBits mode r neg n d ≥ 0x7F800000 := by
    unfold magBits
    omega
  rw [roundFin_f32 mode sat r neg hn, roundFin_f32 mode false r neg hn, if_neg hlt, if_neg hlt]

/-- Half a unit or less beyond an even significand is dropped under rounding to nearest even. -/
theorem roundsUp_rne_of_le {neg : Bool} {rem d r : Nat} (h : 2 * rem ≤ d) : roundsUp .rne neg false rem d r = false := by
  simp [roundsUp, h]

/-- Half the least magnitude, or less, becomes zero under rounding to nearest even (05 R114). -/
theorem roundFin_underflow (sat : Bool) (r : Nat) (neg : Bool) {n d : Nat} (hn : 0 < n) (h : n * 2 ^ 150 ≤ d) :
    roundFin .f32 .rne sat r neg n d = signF32 neg := by
  have hd : 0 < d := Nat.lt_of_lt_of_le (Nat.mul_pos hn (Nat.two_pow_pos _)) h
  obtain ⟨hl, -⟩ := floorLog2_spec hn hd
  have hfl : floorLog2 n d < -126 := by
    by_contra hc
    have := (twoPowLe_iff (x := 0) (y := 126) (by norm_num)).mp (hl.mono (t' := -126) (by omega))
    omega
  have hE : expF32 n d = -126 := max_eq_right (by omega)
  have hnum : ulpNum n d = n * 2 ^ 149 := by rw [ulpNum, hE]; rfl
  have hden : ulpDen n d = d := by rw [ulpDen, hE]; exact Nat.mul_one d
  have hq : n * 2 ^ 149 / d = 0 := Nat.div_eq_of_lt (by omega)
  have hr : n * 2 ^ 149 % d = n * 2 ^ 149 := Nat.mod_eq_of_lt (by omega)
  have hup : roundsUp .rne neg false (n * 2 ^ 149) d r = false := roundsUp_rne_of_le (by omega)
  have hsig : sigF32 .rne r neg n d = 0 := by
    simp only [sigF32, hnum, hden, hq, hr]
    exact if_neg (by rw [show (0 % 2 == 1) = false from rfl, hup]; decide)
  rw [roundFin_f32 _ _ _ _ hn.ne', magBits, hE, hsig]
  rfl

/-! ## The magnitude of a pattern -/

/-- The magnitude of a pattern of exponent and fraction bits, in units of 2^−149 (05 R106). -/
def unitsF32 (m : Nat) : Nat := if m / 2 ^ 23 = 0 then m else (2 ^ 23 + m % 2 ^ 23) * 2 ^ (m / 2 ^ 23 - 1)

/-- A number that has a pattern is rounded to it, in every mode. -/
theorem roundFin_exact (mode : RMode) (sat : Bool) (r : Nat) (neg : Bool) {n d m : Nat} (hd : 0 < d) (hm0 : 0 < m)
    (hm : m < 0x7F800000) (hv : n * 2 ^ 149 = unitsF32 m * d) :
    roundFin .f32 mode sat r neg n d = signF32 neg + m := by
  have hu : 0 < unitsF32 m := by
    unfold unitsF32
    split
    · exact hm0
    · exact Nat.mul_pos (by omega) (Nat.two_pow_pos _)
  have hn : 0 < n := Nat.pos_of_mul_pos_right (hv ▸ Nat.mul_pos hu hd)
  obtain ⟨sig, hsig, hE, hbits⟩ : ∃ sig, ulpNum n d = sig * ulpDen n d ∧ -126 ≤ expF32 n d
      ∧ (expF32 n d + 126).toNat * 2 ^ 23 + sig = m := by
    by_cases he : m / 2 ^ 23 = 0
    · rw [unitsF32, if_pos he] at hv
      have hE : expF32 n d = -126 := by
        refine max_eq_right ?_
        by_contra hc
        have h := (twoPowLe_iff (x := 23) (y := 149) (by norm_num)).mp ((floorLog2_spec hn hd).1.mono (t' := -126) (by omega))
        rw [hv, Nat.mul_comm m] at h
        have := Nat.le_of_mul_le_mul_left h hd
        omega
      refine ⟨m, ?_, hE.ge, by rw [hE]; simp⟩
      rw [ulpNum, ulpDen, hE]
      exact hv.trans (by simp)
    · obtain ⟨k, hk⟩ : ∃ k, m / 2 ^ 23 = k + 1 := ⟨m / 2 ^ 23 - 1, by omega⟩
      have hsum : k * 2 ^ 23 + (2 ^ 23 + m % 2 ^ 23) = m := by
        rw [← Nat.add_assoc, ← Nat.add_one_mul, ← hk, Nat.mul_comm]
        exact Nat.div_add_mod m (2 ^ 23)
      rw [unitsF32, if_neg he, hk, Nat.add_sub_cancel] at hv
      have hp (j : Nat) : d * 2 ^ (k + j) = 2 ^ j * 2 ^ k * d := by rw [Nat.pow_add]; ring
      have hfl : floorLog2 n d = (k : Int) - 126 := by
        refine floorLog2_eq hn hd ?_ ?_
        · rw [twoPowLe_iff (x := k + 23) (y := 149) (by push_cast; ring), hv, hp]
          exact Nat.mul_le_mul_right _ (Nat.mul_le_mul_right _ (Nat.le_add_right _ _))
        · rw [twoPowLe_iff (x := k + 24) (y := 149) (by push_cast; ring), hv, hp, Nat.not_le]
          exact Nat.mul_lt_mul_of_pos_right (Nat.mul_lt_mul_of_pos_right (by omega) (Nat.two_pow_pos _)) hd
      have hE : expF32 n d = (k : Int) - 126 := by rw [expF32, hfl]; exact max_eq_left (by omega)
      have hk126 : (expF32 n d + 126).toNat = k := by rw [hE, Int.sub_add_cancel, Int.toNat_natCast]
      refine ⟨2 ^ 23 + m % 2 ^ 23, ?_, by omega, by rw [hk126]; exact hsum⟩
      have hexp : k + (23 - expF32 n d).toNat = (expF32 n d - 23).toNat + 149 := by omega
      refine Nat.eq_of_mul_eq_mul_right (Nat.two_pow_pos 149) ?_
      calc ulpNum n d * 2 ^ 149 = n * 2 ^ 149 * 2 ^ (23 - expF32 n d).toNat := Nat.mul_right_comm _ _ _
        _ = (2 ^ 23 + m % 2 ^ 23) * d * 2 ^ (k + (23 - expF32 n d).toNat) := by rw [hv, Nat.pow_add]; ring
        _ = (2 ^ 23 + m % 2 ^ 23) * ulpDen n d * 2 ^ 149 := by
          rw [hexp, Nat.pow_add, ulpDen, Nat.mul_assoc, Nat.mul_assoc, Nat.mul_assoc]
  have hdiv : ulpNum n d / ulpDen n d = sig := by rw [hsig, Nat.mul_div_cancel _ (ulpDen_pos hd)]
  have hmod : ulpNum n d % ulpDen n d = 0 := by rw [hsig, Nat.mul_mod_left]
  have hs : sigF32 mode r neg n d = sig := by
    rw [sigF32, hdiv, hmod]
    exact if_neg (by simp [roundsUp])
  rw [roundFin_f32 _ _ _ _ hn.ne', magBits, hs, hbits, if_neg (by omega)]

end Sys2Proof.Machine
end

section
/-! FP32 patterns: the number each stands for, and their order (05 R106, R107; 06 R141 to R143). -/
namespace Sys2Proof.Machine
open Sys2Proof.Claims

/-! ## The number of a pattern -/

theorem isNaNBits_f32_iff (x : Nat) : isNaNBits .f32 x = true ↔ IsNaN x := decide_eq_true_iff

theorem signOfBits_f32 (x : Nat) : signOfBits .f32 x = decide (2 ^ 31 ≤ x % 2 ^ 32) := rfl

/-- The number of a pattern, by the exponent field and the fraction. -/
theorem valueOfBits_f32 (x : Nat) : valueOfBits .f32 x =
    if x % 2 ^ 31 / 2 ^ 23 = 255 then (if x % 2 ^ 23 = 0 then .inf (signOfBits .f32 x) else .nan)
    else if x % 2 ^ 31 / 2 ^ 23 = 0 then .fin (signOfBits .f32 x) (x % 2 ^ 23) (2 ^ 149)
    else if x % 2 ^ 31 / 2 ^ 23 ≥ 150 then
      .fin (signOfBits .f32 x) ((2 ^ 23 + x % 2 ^ 23) <<< (x % 2 ^ 31 / 2 ^ 23 - 150)) 1
    else .fin (signOfBits .f32 x) (2 ^ 23 + x % 2 ^ 23) (2 ^ (150 - x % 2 ^ 31 / 2 ^ 23)) := by
  have hs : signOfBits .f32 (x % 2 ^ 32) = signOfBits .f32 x := by rw [signOfBits_f32, signOfBits_f32, Nat.mod_mod]
  have he : bits (x % 2 ^ 32) 23 8 = x % 2 ^ 31 / 2 ^ 23 := by
    rw [bits, Nat.shiftRight_eq_div_pow]
    omega
  have hm : bits (x % 2 ^ 32) 0 23 = x % 2 ^ 23 := by
    rw [bits, Nat.shiftRight_zero]
    omega
  rw [← hs, ← he, ← hm]
  rfl

theorem valueOfBits_mod (x : Nat) : valueOfBits .f32 (x % 2 ^ 32) = valueOfBits .f32 x := by
  have hs : signOfBits .f32 (x % 2 ^ 32) = signOfBits .f32 x := by rw [signOfBits_f32, signOfBits_f32, Nat.mod_mod]
  rw [valueOfBits_f32, valueOfBits_f32 x, hs, Nat.mod_mod_of_dvd x (by decide : 2 ^ 31 ∣ 2 ^ 32),
    Nat.mod_mod_of_dvd x (by decide : 2 ^ 23 ∣ 2 ^ 32)]

theorem valueOfBits_nan {x : Nat} (h : IsNaN x) : valueOfBits .f32 x = .nan := by
  unfold IsNaN at h
  rw [valueOfBits_f32, if_pos (by omega), if_neg (by omega)]

theorem valueOfBits_inf {x : Nat} (h : x % 2 ^ 31 = 0x7F800000) : valueOfBits .f32 x = .inf (signOfBits .f32 x) := by
  rw [valueOfBits_f32, if_pos (by omega), if_pos (by omega)]

/-- A pattern below infinity stands for a number of its sign, of as many units of 2^−149 as `unitsF32` says. -/
theorem valueOfBits_fin {x : Nat} (h : x % 2 ^ 31 < 0x7F800000) :
    ∃ n d, valueOfBits .f32 x = .fin (signOfBits .f32 x) n d ∧ 0 < d ∧ n * 2 ^ 149 = unitsF32 (x % 2 ^ 31) * d := by
  have hf : x % 2 ^ 31 % 2 ^ 23 = x % 2 ^ 23 := by omega
  have hm0 (h0 : x % 2 ^ 31 / 2 ^ 23 = 0) : x % 2 ^ 31 = x % 2 ^ 23 := by omega
  have he : x % 2 ^ 31 / 2 ^ 23 < 255 := by omega
  rw [valueOfBits_f32, unitsF32, hf]
  generalize x % 2 ^ 31 / 2 ^ 23 = e at he hm0 ⊢
  rw [if_neg (by omega)]
  by_cases h0 : e = 0
  · rw [if_pos h0, if_pos h0, hm0 h0]
    exact ⟨_, _, rfl, Nat.two_pow_pos _, rfl⟩
  · rw [if_neg h0, if_neg h0]
    by_cases hle : e ≥ 150
    · rw [if_pos hle]
      refine ⟨_, _, rfl, Nat.one_pos, ?_⟩
      rw [Nat.shiftLeft_eq, Nat.mul_assoc, ← Nat.pow_add, Nat.mul_one]
      congr 2
      omega
    · rw [if_neg hle]
      refine ⟨_, _, rfl, Nat.two_pow_pos _, ?_⟩
      rw [Nat.mul_assoc, ← Nat.pow_add]
      congr 2
      omega

/-- The patterns that are no NaN: numbers and infinities. -/
theorem lt_or_eq_of_not_isNaN {x : Nat} (h : ¬ IsNaN x) : x % 2 ^ 31 < 0x7F800000 ∨ x % 2 ^ 31 = 0x7F800000 := by
  unfold IsNaN at h
  omega

/-! ## The order of the magnitudes -/

theorem unitsF32_of_lt {m : Nat} (h : m < 2 ^ 23) : unitsF32 m = m := if_pos (Nat.div_eq_of_lt h)

theorem unitsF32_of_normal {k j : Nat} (h : j < 2 ^ 23) : unitsF32 ((k + 1) * 2 ^ 23 + j) = (2 ^ 23 + j) * 2 ^ k := by
  have hk : ((k + 1) * 2 ^ 23 + j) / 2 ^ 23 = k + 1 := by omega
  have hj : ((k + 1) * 2 ^ 23 + j) % 2 ^ 23 = j := by omega
  rw [unitsF32, hk, hj, if_neg k.succ_ne_zero, Nat.add_sub_cancel]

theorem unitsF32_strictMono : StrictMono unitsF32 := by
  refine strictMono_nat_of_lt_succ fun m => ?_
  obtain hlt | ⟨k, j, hj, rfl⟩ : m < 2 ^ 23 ∨ ∃ k j, j < 2 ^ 23 ∧ m = (k + 1) * 2 ^ 23 + j := by
    by_cases h : m < 2 ^ 23
    · exact .inl h
    · exact .inr ⟨m / 2 ^ 23 - 1, m % 2 ^ 23, Nat.mod_lt _ (by decide), by omega⟩
  · rw [unitsF32_of_lt hlt]
    obtain h | h : m + 1 < 2 ^ 23 ∨ m + 1 = (0 + 1) * 2 ^ 23 + 0 := by omega
    · rw [unitsF32_of_lt h]
      exact m.lt_succ_self
    · rw [h, unitsF32_of_normal (by decide)]
      exact Nat.lt_of_lt_of_le hlt (by decide)
  · rw [unitsF32_of_normal hj]
    obtain h | h : j + 1 < 2 ^ 23 ∨ j + 1 = 2 ^ 23 := by omega
    · rw [Nat.add_assoc, unitsF32_of_normal h]
      exact Nat.mul_lt_mul_of_pos_right (by omega) (Nat.two_pow_pos k)
    · rw [show (k + 1) * 2 ^ 23 + j + 1 = (k + 1 + 1) * 2 ^ 23 + 0 by omega, unitsF32_of_normal (by decide), Nat.pow_succ 2 k,
        Nat.mul_comm _ 2, ← Nat.mul_assoc]
      exact Nat.mul_lt_mul_of_pos_right (by omega) (Nat.two_pow_pos k)

theorem unitsF32_zero : unitsF32 0 = 0 := rfl

/-! ## The order of the patterns -/

theorem place_eq (x : Nat) : place x = sgn (signOfBits .f32 x) (x % 2 ^ 31) := by
  rw [place, signOfBits_f32, sgn]
  by_cases h : 2 ^ 31 ≤ x % 2 ^ 32
  · rw [if_neg (by omega), decide_eq_true h, if_pos rfl]
  · rw [if_pos (by omega), decide_eq_false h, if_neg (by decide)]
    omega

theorem rank_eq (x : Nat) : rank x = place x - if signOfBits .f32 x = true then 1 else 0 := by
  simp only [rank, place, signOfBits_f32, decide_eq_true_iff]
  split <;> split <;> omega

/-- The signed units of two patterns are ordered as their signed magnitudes. -/
theorem sgn_units_lt_iff (a b : Bool) (m m' : Nat) :
    sgn a (unitsF32 m) < sgn b (unitsF32 m') ↔ sgn a m < sgn b m' := by
  have h1 := unitsF32_strictMono.lt_iff_lt (a := m) (b := m')
  have h2 := unitsF32_strictMono.lt_iff_lt (a := m') (b := m)
  have h3 := unitsF32_strictMono.lt_iff_lt (a := 0) (b := m)
  have h4 := unitsF32_strictMono.lt_iff_lt (a := 0) (b := m')
  rw [unitsF32_zero] at h3 h4
  cases a <;> cases b <;> simp only [sgn, if_true, Bool.false_eq_true, if_false] <;> omega

theorem sgn_mul (a : Bool) (n k : Nat) : sgn a n * (k : Int) = sgn a (n * k) := by
  cases a <;> simp [sgn]

/-- The comparison of two quotients is that of their units. -/
theorem sgn_cross_lt_iff {a b : Bool} {n d n' d' u u' : Nat} (hd : 0 < d) (hd' : 0 < d') (h : n * 2 ^ 149 = u * d)
    (h' : n' * 2 ^ 149 = u' * d') : sgn a n * (d' : Int) < sgn b n' * (d : Int) ↔ sgn a u < sgn b u' := by
  have hp : (0 : Int) < ((2 ^ 149 : Nat) : Int) := by exact_mod_cast Nat.two_pow_pos 149
  have hdd : (0 : Int) < ((d * d' : Nat) : Int) := by exact_mod_cast Nat.mul_pos hd hd'
  rw [← mul_lt_mul_iff_left₀ hp, ← mul_lt_mul_iff_left₀ (b := sgn a u) hdd]
  simp only [sgn_mul]
  rw [Nat.mul_right_comm n, h, Nat.mul_right_comm n', h', Nat.mul_assoc, Nat.mul_assoc u', Nat.mul_comm d' d]

/-- Numbers and infinities are ordered by their places (06 R142). -/
theorem xLt_iff_place {x y : Nat} (hx : ¬ IsNaN x) (hy : ¬ IsNaN y) :
    xLt (valueOfBits .f32 x) (valueOfBits .f32 y) = true ↔ place x < place y := by
  obtain hx' | hx' := lt_or_eq_of_not_isNaN hx <;> obtain hy' | hy' := lt_or_eq_of_not_isNaN hy
  · obtain ⟨n, d, hv, hd, hu⟩ := valueOfBits_fin hx'
    obtain ⟨n', d', hv', hd', hu'⟩ := valueOfBits_fin hy'
    rw [hv, hv', place_eq, place_eq, ← sgn_units_lt_iff, ← sgn_cross_lt_iff hd hd' hu hu']
    exact decide_eq_true_iff
  · obtain ⟨n, d, hv, -⟩ := valueOfBits_fin hx'
    rw [hv, valueOfBits_inf hy', place_eq, place_eq, hy']
    show (!signOfBits .f32 y) = true ↔ _
    cases signOfBits .f32 x <;> cases signOfBits .f32 y <;> simp [sgn] <;> omega
  · obtain ⟨n, d, hv, -⟩ := valueOfBits_fin hy'
    rw [hv, valueOfBits_inf hx', place_eq, place_eq, hx']
    show signOfBits .f32 x = true ↔ _
    cases signOfBits .f32 x <;> cases signOfBits .f32 y <;> simp [sgn] <;> omega
  · rw [valueOfBits_inf hx', valueOfBits_inf hy', place_eq, place_eq, hx', hy']
    cases signOfBits .f32 x <;> cases signOfBits .f32 y <;> simp [sgn, xLt]

/-- Of two numbers or infinities that are not equal, one is the lesser. -/
theorem xEq_eq_not_xLt {v v' : XReal} (hv : v ≠ .nan) (hv' : v' ≠ .nan) : xEq v v' = (!xLt v v' && !xLt v' v) := by
  match v, v' with
  | .nan, _ => exact absurd rfl hv
  | _, .nan => exact absurd rfl hv'
  | .inf a, .inf b => cases a <;> cases b <;> rfl
  | .inf a, .fin _ _ _ => cases a <;> rfl
  | .fin _ _ _, .inf b => cases b <;> rfl
  | .fin a n d, .fin b n' d' =>
    rw [Bool.eq_iff_iff, xEq, xLt, xLt, ← decide_not, ← decide_not, Bool.and_eq_true, decide_eq_true_iff, decide_eq_true_iff,
      decide_eq_true_iff]
    omega

theorem valueOfBits_ne_nan {x : Nat} (hx : ¬ IsNaN x) : valueOfBits .f32 x ≠ .nan := by
  obtain h | h := lt_or_eq_of_not_isNaN hx
  · obtain ⟨n, d, hv, -⟩ := valueOfBits_fin h
    simp [hv]
  · simp [valueOfBits_inf h]

theorem xEq_iff_place {x y : Nat} (hx : ¬ IsNaN x) (hy : ¬ IsNaN y) :
    xEq (valueOfBits .f32 x) (valueOfBits .f32 y) = true ↔ place x = place y := by
  rw [xEq_eq_not_xLt (valueOfBits_ne_nan hx) (valueOfBits_ne_nan hy), Bool.and_eq_true, Bool.not_eq_true',
    Bool.not_eq_true', ← Bool.not_eq_true, ← Bool.not_eq_true, xLt_iff_place hx hy, xLt_iff_place hy hx]
  omega

theorem fTotalLt_iff_rank {x y : Nat} (hx : ¬ IsNaN x) (hy : ¬ IsNaN y) : fTotalLt .f32 x y = true ↔ rank x < rank y := by
  rw [fTotalLt, Bool.or_eq_true, Bool.and_eq_true, Bool.and_eq_true, xLt_iff_place hx hy, xEq_iff_place hx hy, rank_eq,
    rank_eq, place_eq, place_eq]
  cases signOfBits .f32 x <;> cases signOfBits .f32 y <;>
    simp only [sgn, reduceCtorEq, Bool.not_true, Bool.not_false, if_true, if_false, and_true, and_false, or_false] <;> omega

/-! ## FMIN, FMAX, FCMP and FCLASS -/

theorem isNaNBits_of_not {x : Nat} (h : ¬ IsNaN x) : isNaNBits .f32 x = false := by
  rwa [← Bool.not_eq_true, isNaNBits_f32_iff]

/-- Of two numbers or infinities, the one that the order names; of equals the first (06 R141). -/
theorem fMinMax_of_numbers {x y : Nat} (hx : ¬ IsNaN x) (hy : ¬ IsNaN y) :
    fMinMax .f32 false x y = (if rank y < rank x then y else x)
    ∧ fMinMax .f32 true x y = (if rank x < rank y then y else x) := by
  simp only [fMinMax, isNaNBits_of_not hx, isNaNBits_of_not hy, if_true, Bool.false_eq_true, if_false,
    fTotalLt_iff_rank hx hy, fTotalLt_iff_rank hy hx, and_self]

/-- The number wins over a NaN, and the first of two NaNs is made quiet (06 R141). -/
theorem fMinMax_of_isNaN (isMax : Bool) (x y : Nat) :
    (IsNaN x → ¬ IsNaN y → fMinMax .f32 isMax x y = y) ∧ (¬ IsNaN x → IsNaN y → fMinMax .f32 isMax x y = x)
    ∧ (IsNaN x → IsNaN y → fMinMax .f32 isMax x y = x % 2 ^ 32 ||| 2 ^ 22) := by
  refine ⟨fun hx hy => ?_, fun hx hy => ?_, fun hx hy => ?_⟩
  · rw [fMinMax, (isNaNBits_f32_iff x).mpr hx, isNaNBits_of_not hy]
  · rw [fMinMax, (isNaNBits_f32_iff y).mpr hy, isNaNBits_of_not hx]
  · rw [fMinMax, (isNaNBits_f32_iff x).mpr hx, (isNaNBits_f32_iff y).mpr hy]
    rfl

/-- A NaN is neither equal to a pattern nor less. -/
theorem unordered_of_isNaN {x y : Nat} (h : IsNaN x ∨ IsNaN y) :
    xEq (valueOfBits .f32 x) (valueOfBits .f32 y) = false ∧ xLt (valueOfBits .f32 x) (valueOfBits .f32 y) = false := by
  obtain h | h := h
  · rw [valueOfBits_nan h]
    exact ⟨rfl, rfl⟩
  · rw [valueOfBits_nan h]
    cases valueOfBits .f32 x <;> exact ⟨rfl, rfl⟩

theorem fCond_iff {cc : Nat} (hcc : cc < 8) (x y : Nat) : fCond cc x y = true ↔
    [¬ (IsNaN x ∨ IsNaN y) ∧ place x = place y, (IsNaN x ∨ IsNaN y) ∨ place x ≠ place y,
      ¬ (IsNaN x ∨ IsNaN y) ∧ place x < place y, ¬ (IsNaN x ∨ IsNaN y) ∧ place x ≤ place y,
      ¬ (IsNaN x ∨ IsNaN y) ∧ place y < place x, ¬ (IsNaN x ∨ IsNaN y) ∧ place y ≤ place x,
      ¬ (IsNaN x ∨ IsNaN y)].getD cc (IsNaN x ∨ IsNaN y) := by
  have hun : (isNaNBits .f32 x || isNaNBits .f32 y) = true ↔ IsNaN x ∨ IsNaN y := by
    rw [Bool.or_eq_true, isNaNBits_f32_iff, isNaNBits_f32_iff]
  by_cases h : IsNaN x ∨ IsNaN y
  · obtain ⟨heq, hlt⟩ := unordered_of_isNaN h
    have hgt := (unordered_of_isNaN h.symm).2
    interval_cases cc <;> simp [fCond, heq, hlt, hgt, h, hun.mpr h]
  · obtain ⟨hx, hy⟩ := not_or.mp h
    have heq : xEq (valueOfBits .f32 x) (valueOfBits .f32 y) = decide (place x = place y) := by
      rw [Bool.eq_iff_iff, xEq_iff_place hx hy, decide_eq_true_iff]
    have hlt : xLt (valueOfBits .f32 x) (valueOfBits .f32 y) = decide (place x < place y) := by
      rw [Bool.eq_iff_iff, xLt_iff_place hx hy, decide_eq_true_iff]
    have hgt : xLt (valueOfBits .f32 y) (valueOfBits .f32 x) = decide (place y < place x) := by
      rw [Bool.eq_iff_iff, xLt_iff_place hy hx, decide_eq_true_iff]
    interval_cases cc <;> simp [fCond, heq, hlt, hgt, hx, hy, isNaNBits_of_not] <;> omega

theorem fClass_eq (x : Nat) : fClass x = (if x % 2 ^ 31 = 0 then 1 else if x % 2 ^ 31 < 2 ^ 23 then 2
      else if x % 2 ^ 31 < 0x7F800000 then 4 else if x % 2 ^ 31 = 0x7F800000 then 8
      else if x % 2 ^ 31 < 0x7FC00000 then 32 else 16) + (if x % 2 ^ 32 ≥ 2 ^ 31 then 64 else 0) := by
  have he : bits x 23 8 = x % 2 ^ 31 / 2 ^ 23 := by
    rw [bits, Nat.shiftRight_eq_div_pow]
    omega
  have hm : bits x 0 23 = x % 2 ^ 31 % 2 ^ 23 := by
    rw [bits, Nat.shiftRight_zero]
    omega
  have hs : bit x 31 = true ↔ x % 2 ^ 32 ≥ 2 ^ 31 := by
    rw [bit, beq_iff_eq, Nat.shiftRight_eq_div_pow]
    omega
  have hlt : x % 2 ^ 31 < 2 ^ 31 := Nat.mod_lt _ (by decide)
  rw [fClass, he, hm, if_congr hs rfl rfl]
  congr 1
  generalize x % 2 ^ 31 = m at hlt ⊢
  obtain h | h | h | h | h | h : m = 0 ∨ (0 < m ∧ m < 2 ^ 23) ∨ (2 ^ 23 ≤ m ∧ m < 0x7F800000) ∨ m = 0x7F800000
    ∨ (0x7F800000 < m ∧ m < 0x7FC00000) ∨ 0x7FC00000 ≤ m := by omega
  all_goals simp (disch := omega) only [if_pos, if_neg]

theorem land_ne_zero_iff (c v : Nat) : (c &&& v % 128 != 0) = true ↔ ∃ i, i < 7 ∧ v.testBit i = true ∧ c.testBit i = true := by
  have hbit (i : Nat) : (c &&& v % 128).testBit i = true ↔ i < 7 ∧ v.testBit i = true ∧ c.testBit i = true := by
    rw [Nat.testBit_land, show 128 = 2 ^ 7 from rfl, Nat.testBit_mod_two_pow, Bool.and_eq_true, Bool.and_eq_true,
      decide_eq_true_iff]
    tauto
  rw [bne_iff_ne]
  constructor
  · intro h
    obtain ⟨i, hi⟩ := Nat.exists_testBit_of_ne_zero h
    exact ⟨i, (hbit i).mp hi⟩
  · rintro ⟨i, hi⟩ h
    have := (hbit i).mpr hi
    rw [h, Nat.zero_testBit] at this
    exact Bool.false_ne_true this

/-- What FMIN and FMAX choose, what FCMP finds, and FCLASS's word and test. -/
theorem laneFloatCompareValues : LaneFloatCompareValues := by
  intro f w l a b
  refine ⟨fun ha hb => ?_, fun r hr => ?_, fCond_iff (Nat.mod_lt _ (by decide)) a b, fClass_eq _, ?_⟩
  · obtain ⟨hmin, hmax⟩ := fMinMax_of_numbers ha hb
    exact ⟨congrArg (· % 2 ^ 32) hmin, congrArg (· % 2 ^ 32) hmax⟩
  · obtain ⟨isMax, rfl⟩ : ∃ isMax, r = fMinMax .f32 isMax a b := hr.elim (⟨false, ·⟩) (⟨true, ·⟩)
    obtain ⟨h1, h2, h3⟩ := fMinMax_of_isNaN isMax a b
    refine ⟨fun ha hb => by rw [h1 ha hb], fun ha hb => by rw [h2 ha hb], fun ha hb => ?_⟩
    rw [h3 ha hb]
    exact Nat.mod_eq_of_lt (Nat.or_lt_two_pow (Nat.mod_lt _ (by decide)) (by decide))
  · refine (land_ne_zero_iff _ _).trans (exists_congr fun i => ?_)
    rw [BitVec.testBit_toNat, bit_eq_testBit]
    rfl

end Sys2Proof.Machine
end

section
/-! The functions of major 0x11 at the inputs where their values are exact (06 R144, R145). -/
namespace Sys2Proof.Machine
open Sys2Proof.Claims

/-! ## Square roots -/

theorem isqrtFrom_eq_sqrt {x fuel acc : Nat} (hlo : acc * acc ≤ x) (hhi : x < (acc + 2 ^ fuel) * (acc + 2 ^ fuel)) :
    isqrtFrom x fuel acc = x.sqrt := by
  induction fuel generalizing acc with
  | zero => exact Nat.eq_sqrt.mpr ⟨hlo, hhi⟩
  | succ k ih =>
    rw [isqrtFrom]
    split
    · next h => exact ih h (by rwa [Nat.add_assoc, ← Nat.two_mul, ← Nat.pow_succ'])
    · next h => exact ih hlo (Nat.lt_of_not_le h)

theorem isqrt_eq_sqrt (x : Nat) : isqrt x = x.sqrt := by
  refine isqrtFrom_eq_sqrt (Nat.zero_le x) ?_
  rw [Nat.zero_add, ← Nat.pow_add]
  exact Nat.lt_of_lt_of_le Nat.lt_log2_self (Nat.pow_le_pow_right (by decide) (by omega))

/-- The root of a square is exact. -/
theorem xSqrt_of_sq {n d q : Nat} (h : n * d = q * q) : xSqrt n d = .fin false (q * 2 ^ fracBits) (d * 2 ^ fracBits) := by
  have hsq : n * d * 4 ^ fracBits = q * 2 ^ fracBits * (q * 2 ^ fracBits) := by
    rw [h, show 4 = 2 * 2 from rfl, Nat.mul_pow, Nat.mul_mul_mul_comm]
  rw [xSqrt, hsq, isqrt_eq_sqrt, Nat.sqrt_eq]
  exact if_pos rfl

/-! ## Sine and cosine of multiples of a half -/

theorem xSinPi_whole (neg : Bool) {n d : Nat} (h : n % d = 0) : xSinPi neg n d = .fin neg 0 1 :=
  if_pos ((Nat.mod_mod_of_dvd n (dvd_mul_left d 2)).trans h)

theorem xSinPiQ_half (neg : Bool) {c : Nat} (hc : 0 < c) : xSinPiQ neg c (2 * c) = .fin neg 1 1 := by
  rw [xSinPiQ, if_neg hc.ne', if_pos rfl]

/-- At an odd number of halves the sine is 1 or −1. -/
theorem xSinPi_half (neg : Bool) {n d k : Nat} (hd : 0 < d) (h : 2 * n = k * d) (hk : k % 2 = 1) :
    xSinPi neg n d = .fin (if k % 4 = 1 then neg else !neg) 1 1 := by
  obtain ⟨c, rfl⟩ : ∃ c, d = 2 * c := by
    obtain ⟨j, rfl⟩ : ∃ j, k = 2 * j + 1 := ⟨k / 2, by omega⟩
    exact ⟨n - j * d, by rw [Nat.add_mul, Nat.mul_assoc] at h; omega⟩
  obtain rfl : n = k * c := by
    rw [Nat.mul_left_comm] at h
    omega
  have hc : 0 < c := by omega
  have hr : k * c % (2 * (2 * c)) = k % 4 * c := by rw [← Nat.mul_assoc, Nat.mul_mod_mul_right]
  unfold xSinPi
  simp only [hr]
  obtain h4 | h4 : k % 4 = 1 ∨ k % 4 = 3 := by omega
  · rw [h4, Nat.one_mul, if_neg (by rw [Nat.mod_eq_of_lt (by omega)]; omega), if_pos le_rfl, if_pos rfl, xSinPiQ_half neg hc]
  · have hm : 3 * c % (2 * c) = c := by
      rw [show 3 * c = c + 2 * c by ring, Nat.add_mod_right, Nat.mod_eq_of_lt (by omega)]
    rw [h4, hm, if_neg hc.ne', if_neg (by omega), if_neg (by omega), if_pos (by omega), if_neg (by decide),
      show 3 * c - 2 * c = c by omega, xSinPiQ_half _ hc]

theorem xCosPi_whole {n d k : Nat} (hd : 0 < d) (h : n = k * d) : xCosPi n d = .fin (decide (k % 2 = 1)) 1 1 := by
  have hs : xSinPi false (2 * n + d) (2 * d) = .fin (decide (k % 2 = 1)) 1 1 := by
    rw [xSinPi_half false (k := 2 * k + 1) (by omega) (by rw [h]; ring) (by omega)]
    congr 1
    split <;> simp <;> omega
  simp only [xCosPi, hs]

theorem xCosPi_half {n d k : Nat} (h : 2 * n = k * d) (hk : k % 2 = 1) : xCosPi n d = .fin false 0 1 := by
  have hm : (2 * n + d) % (2 * d) = 0 := by
    rw [h, ← Nat.add_one_mul, Nat.mul_mod_mul_right, show (k + 1) % 2 = 0 by omega, Nat.zero_mul]
  simp only [xCosPi, xSinPi_whole false hm]

/-! ## Logarithms of powers of two -/

theorem xLog2_twoPow {n d : Nat} {e : Int} (hd : 0 < d) (h : n * 2 ^ (-e).toNat = d * 2 ^ e.toNat) :
    xLog2 n d = xOfInt e := by
  have hn : 0 < n := Nat.pos_of_mul_pos_right (h ▸ Nat.mul_pos hd (Nat.two_pow_pos _))
  have hfl : floorLog2 n d = e := by
    refine floorLog2_eq hn hd h.ge ?_
    rw [twoPowLe_iff (x := e.toNat + 1) (y := (-e).toNat) (by omega), h, Nat.pow_succ, ← Nat.mul_assoc]
    have := Nat.mul_pos hd (Nat.two_pow_pos e.toNat)
    omega
  have hmn : (if e ≥ 0 then n else n <<< (-e).toNat) = n * 2 ^ (-e).toNat := by
    split
    · rw [show (-e).toNat = 0 by omega, Nat.pow_zero, Nat.mul_one]
    · exact Nat.shiftLeft_eq _ _
  have hmd : (if e ≥ 0 then d <<< e.toNat else d) = d * 2 ^ e.toNat := by
    split
    · exact Nat.shiftLeft_eq _ _
    · rw [show e.toNat = 0 by omega, Nat.pow_zero, Nat.mul_one]
  unfold xLog2
  simp only [hfl, hmn, hmd, h, if_true]

/-! ## Powers of two -/

theorem xExp2_whole (neg : Bool) {n d k : Nat} (hd : 0 < d) (h : n = k * d) :
    xExp2 neg n d = if neg then .fin false 1 (2 ^ min k 400) else .fin false (2 ^ min k 400) 1 := by
  subst h
  unfold xExp2
  by_cases hk : 400 ≤ k
  · rw [if_pos (Nat.mul_le_mul_right d hk), min_eq_right hk]
  · have hlt : ¬ k * d ≥ 400 * d := Nat.not_le.mpr (Nat.mul_lt_mul_of_pos_right (Nat.lt_of_not_le hk) hd)
    simp only [if_neg hlt, Nat.mul_div_cancel k hd, Nat.mul_mod_left, if_true]
    rw [min_eq_left (by omega)]

theorem le_expSeries (t fuel k term : Nat) : term ≤ expSeries t (fuel + 1) k term := Nat.le_add_right _ _

/-- 2^x of x ≥ 128 lies beyond FP32's range. -/
theorem xExp2_large {n d : Nat} (hd : 0 < d) (h : 128 * d ≤ n) :
    ∃ n' d', xExp2 false n d = .fin false n' d' ∧ 0 < d' ∧ d' * 2 ^ 128 ≤ n' := by
  by_cases h0 : n % d = 0
  · refine ⟨_, _, xExp2_whole false hd (Nat.div_mul_cancel (Nat.dvd_of_mod_eq_zero h0)).symm, Nat.one_pos, ?_⟩
    rw [Nat.one_mul]
    refine Nat.pow_le_pow_right (by decide) (le_min ((Nat.le_div_iff_mul_le hd).mpr h) (by omega))
  unfold xExp2
  by_cases h4 : n ≥ 400 * d
  · rw [if_pos h4]
    refine ⟨_, _, rfl, Nat.one_pos, ?_⟩
    exact (Nat.one_mul _).le.trans (Nat.pow_le_pow_right (by decide) (by decide : 128 ≤ 400))
  · have hv : 2 ^ fracBits ≤ fixExp2 (n % d) d := le_expSeries _ 89 _ _
    have hi : 128 ≤ n / d := (Nat.le_div_iff_mul_le hd).mpr h
    simp only [if_neg h4, if_neg h0, Bool.false_eq_true, if_false, xScale, inexact, if_pos (Int.natCast_nonneg (n / d)),
      Int.toNat_natCast]
    refine ⟨_, _, rfl, Nat.two_pow_pos _, ?_⟩
    rw [Nat.shiftLeft_eq, Nat.pow_succ]
    exact Nat.mul_le_mul (by omega) (Nat.pow_le_pow_right (by decide) hi)

/-! ## Powers of two, rounded -/

theorem roundTo_zero (mode : RMode) (sat : Bool) (r : Nat) (neg : Bool) (d : Nat) :
    roundTo .f32 mode sat r (.fin neg 0 d) = signF32 neg := by
  rw [roundTo, roundFin]
  exact if_pos rfl

/-- A quotient equal to a power of two. -/
theorem roundTo_twoPow (mode : RMode) (sat : Bool) (r : Nat) (neg : Bool) {n d k : Nat} (hd : 0 < d) (h : n = 2 ^ k * d)
    (hk : k < 128) : roundTo .f32 mode sat r (.fin neg n d) = signF32 neg + (127 + k) * 2 ^ 23 := by
  refine roundFin_exact mode sat r neg hd (by omega) (by omega) ?_
  rw [show (127 + k) * 2 ^ 23 = (126 + k + 1) * 2 ^ 23 + 0 by omega, unitsF32_of_normal (by decide), h, Nat.add_zero,
    Nat.mul_right_comm, ← Nat.pow_add, ← Nat.pow_add]
  congr 2
  omega

theorem roundTo_one (mode : RMode) (sat : Bool) (r : Nat) (neg : Bool) {d : Nat} (hd : 0 < d) :
    roundTo .f32 mode sat r (.fin neg d d) = signF32 neg + 0x3F800000 :=
  roundTo_twoPow mode sat r neg (k := 0) hd (Nat.one_mul d).symm (by decide)

/-- The inverse of a power of two: a normal number, one below them, or nothing. -/
theorem roundTo_twoPow_inv (sat : Bool) (r : Nat) (neg : Bool) (k : Nat) : roundTo .f32 .rne sat r (.fin neg 1 (2 ^ k)) =
    signF32 neg + if k ≤ 126 then (127 - k) * 2 ^ 23 else if k ≤ 149 then 2 ^ (149 - k) else 0 := by
  rw [roundTo]
  split
  · next h =>
    refine roundFin_exact .rne sat r neg (m := (127 - k) * 2 ^ 23) (Nat.two_pow_pos k) (by omega) (by omega) ?_
    rw [show (127 - k) * 2 ^ 23 = (126 - k + 1) * 2 ^ 23 + 0 by omega, unitsF32_of_normal (by decide), Nat.one_mul,
      Nat.add_zero, ← Nat.pow_add, ← Nat.pow_add]
    congr 1
    omega
  · split
    · next h h' =>
      have hlt : 2 ^ (149 - k) < 2 ^ 23 := Nat.pow_lt_pow_right (by decide) (by omega)
      refine roundFin_exact .rne sat r neg (m := 2 ^ (149 - k)) (Nat.two_pow_pos k) (Nat.two_pow_pos _) (by omega) ?_
      rw [unitsF32_of_lt hlt, Nat.one_mul, ← Nat.pow_add]
      congr 1
      omega
    · next h h' =>
      refine roundFin_underflow sat r neg Nat.one_pos ?_
      rw [Nat.one_mul]
      exact Nat.pow_le_pow_right (by decide) (by omega)

end Sys2Proof.Machine
end

section
/-! FMIN to FCLASS and the functions of major 0x11 in the lane stream (06 R141 to R145). -/
namespace Sys2Proof.Machine
open Sys2Proof.Claims

/-! ## A function at a pattern -/

theorem isNaN_mod (x : Nat) : IsNaN (x % 2 ^ 32) ↔ IsNaN x := by
  rw [IsNaN, IsNaN, Nat.mod_mod_of_dvd x (by decide : 2 ^ 31 ∣ 2 ^ 32)]

theorem isNaNBits_of_value {x : Nat} {v : XReal} (hv : valueOfBits .f32 x = v) (hvn : v ≠ .nan) : isNaNBits .f32 x = false :=
  isNaNBits_of_not fun h => hvn (hv.symm.trans (valueOfBits_nan h))

theorem den_pos_of_value {x n d : Nat} {neg : Bool} (hv : valueOfBits .f32 x = .fin neg n d) : 0 < d := by
  have hx : ¬ IsNaN x := by
    rw [← isNaNBits_f32_iff, isNaNBits_of_value hv (by simp)]
    decide
  obtain h | h := lt_or_eq_of_not_isNaN hx
  · obtain ⟨n', d', hv', hd, -⟩ := valueOfBits_fin h
    rw [hv] at hv'
    cases hv'
    exact hd
  · rw [valueOfBits_inf h] at hv
    cases hv

/-- A pattern without its sign bit, below infinity. -/
theorem value_of_pattern {x m : Nat} (h : x % 2 ^ 32 = m) (hm : m < 0x7F800000) :
    ∃ n d, valueOfBits .f32 x = .fin false n d ∧ 0 < d ∧ n * 2 ^ 149 = unitsF32 m * d := by
  have hx : x % 2 ^ 31 = m := by omega
  have hs : signOfBits .f32 x = false := by
    rw [signOfBits_f32]
    exact decide_eq_false (by omega)
  have := valueOfBits_fin (hx ▸ hm)
  rwa [hs, hx] at this

/-- A pattern of exponent field e and fraction 0 is 2^(e − 127). -/
theorem value_of_twoPow {x e : Nat} (h : x % 2 ^ 32 = e * 2 ^ 23) (h1 : 1 ≤ e) (h254 : e ≤ 254) :
    ∃ n d, valueOfBits .f32 x = .fin false n d ∧ 0 < d ∧ n * 2 ^ 127 = 2 ^ e * d := by
  obtain ⟨n, d, hv, hd, hu⟩ := value_of_pattern h (by omega)
  refine ⟨n, d, hv, hd, ?_⟩
  obtain ⟨k, rfl⟩ : ∃ k, e = k + 1 := ⟨e - 1, by omega⟩
  rw [← Nat.add_zero ((k + 1) * 2 ^ 23), unitsF32_of_normal (by decide)] at hu
  refine Nat.eq_of_mul_eq_mul_right (Nat.two_pow_pos 22) ?_
  calc n * 2 ^ 127 * 2 ^ 22 = n * 2 ^ 149 := by rw [Nat.mul_assoc, ← Nat.pow_add]
    _ = (2 ^ 23 + 0) * 2 ^ k * d := hu
    _ = 2 ^ (k + 1) * d * 2 ^ 22 := by ring

section
variable (sat : Bool) (c : NanCtx) {x : Nat}

theorem specResult_mod (fn : SpecFn) (x : Nat) : specResult fn sat c (x % 2 ^ 32) = specResult fn sat c x := by
  have hn : isNaNBits .f32 (x % 2 ^ 32) = isNaNBits .f32 x := by
    rw [Bool.eq_iff_iff, isNaNBits_f32_iff, isNaNBits_f32_iff, isNaN_mod]
  have hq : quietNaN .f32 (x % 2 ^ 32) = quietNaN .f32 x := congrArg (· ||| 2 ^ 22) (Nat.mod_mod x (2 ^ 32))
  have hf : firstNaN .f32 [x % 2 ^ 32] = firstNaN .f32 [x] := by simp only [firstNaN, hn, hq]
  unfold specResult fpResult
  rw [valueOfBits_mod, hf]

theorem specResult_of_isNaN (fn : SpecFn) (h : IsNaN x) : specResult fn sat c x = x % 2 ^ 32 ||| 2 ^ 22 := by
  have hf : firstNaN .f32 [x] = some (x % 2 ^ 32 ||| 2 ^ 22) := if_pos ((isNaNBits_f32_iff x).mpr h)
  unfold specResult fpResult
  rw [hf]

/-- Where the function has a value it is rounded once, to nearest even. -/
theorem specResult_of_value (fn : SpecFn) {v y : XReal} (hv : valueOfBits .f32 x = v) (hy : specValue fn v = y)
    (hyn : y ≠ .nan) : specResult fn sat c x = roundTo .f32 .rne sat 0 y := by
  have hvn : v ≠ .nan := by
    rintro rfl
    exact hyn (hy.symm.trans (by cases fn <;> rfl))
  have ho : firstNaN .f32 [x] = none := firstNaN_cons_of_number (isNaNBits_of_value hv hvn) []
  rw [specResult, hv, hy, fpResult_of_number _ _ _ _ ho hyn]

theorem specResult_fin (fn : SpecFn) {v : XReal} {s : Bool} {n d : Nat} (hv : valueOfBits .f32 x = v)
    (hy : specValue fn v = .fin s n d) : specResult fn sat c x = roundTo .f32 .rne sat 0 (.fin s n d) :=
  specResult_of_value sat c fn hv hy nofun

theorem specResult_zero (fn : SpecFn) {v : XReal} {s : Bool} {d : Nat} (hv : valueOfBits .f32 x = v)
    (hy : specValue fn v = .fin s 0 d) : specResult fn sat c x = signF32 s :=
  (specResult_fin sat c fn hv hy).trans (roundTo_zero _ _ _ _ _)

theorem specResult_one (fn : SpecFn) {v : XReal} {s : Bool} (hv : valueOfBits .f32 x = v)
    (hy : specValue fn v = .fin s 1 1) : specResult fn sat c x = signF32 s + 0x3F800000 :=
  (specResult_fin sat c fn hv hy).trans (roundTo_one _ _ _ _ Nat.one_pos)

theorem specResult_inf (fn : SpecFn) {v : XReal} {s : Bool} (hv : valueOfBits .f32 x = v)
    (hy : specValue fn v = .inf s) : specResult fn sat c x = signF32 s + 0x7F800000 :=
  specResult_of_value sat c fn hv hy nofun

/-- Where it has none, the result is a NaN made here. -/
theorem specResult_invalid (fn : SpecFn) {v : XReal} (hv : valueOfBits .f32 x = v) (hvn : v ≠ .nan)
    (hy : specValue fn v = .nan) : specResult fn sat c x = genNaN .f32 c := by
  have ho : firstNaN .f32 [x] = none := firstNaN_cons_of_number (isNaNBits_of_value hv hvn) []
  unfold specResult fpResult
  rw [hv, hy, ho]

/-- The seven results of a pattern, in the order of R145's columns. -/
def sevenResults (sat : Bool) (c : NanCtx) (x : Nat) : List Nat :=
  [specResult .rcp sat c x, specResult .rsq sat c x, specResult .sqrt sat c x, specResult .exp2 sat c x,
    specResult .log2 sat c x, specResult .sinpi sat c x, specResult .cospi sat c x]

/-- The functions at a zero, but for those that give 1 (R145). -/
theorem specValue_zero (s : Bool) (d : Nat) : specValue .rcp (.fin s 0 d) = .inf s ∧ specValue .rsq (.fin s 0 d) = .inf s
    ∧ specValue .sqrt (.fin s 0 d) = .fin s 0 1 ∧ specValue .log2 (.fin s 0 d) = .inf true
    ∧ specValue .sinpi (.fin s 0 d) = .fin s 0 1 := by
  simp only [specValue, if_true, and_self]

/-- The row of R145 for the zeros. -/
theorem sevenResults_zero {s : Bool} {d : Nat} (hv : valueOfBits .f32 x = .fin s 0 d) : sevenResults sat c x =
    [signF32 s + 0x7F800000, signF32 s + 0x7F800000, signF32 s, 0x3F800000, 0xFF800000, signF32 s, 0x3F800000] := by
  have hd := den_pos_of_value hv
  have hexp : specValue .exp2 (.fin s 0 d) = .fin false 1 1 := by
    rw [specValue, xExp2_whole s (k := 0) hd (Nat.zero_mul d).symm]
    cases s <;> rfl
  have hcos : specValue .cospi (.fin s 0 d) = .fin false 1 1 := xCosPi_whole (k := 0) hd (Nat.zero_mul d).symm
  obtain ⟨hrcp, hrsq, hsqrt, hlog, hsin⟩ := specValue_zero s d
  rw [sevenResults, specResult_inf sat c .rcp hv hrcp, specResult_inf sat c .rsq hv hrsq,
    specResult_zero sat c .sqrt hv hsqrt, specResult_one sat c .exp2 hv hexp, specResult_inf sat c .log2 hv hlog,
    specResult_zero sat c .sinpi hv hsin, specResult_one sat c .cospi hv hcos]
  rfl

/-- The row of R145 for +∞. -/
theorem sevenResults_posInf (hv : valueOfBits .f32 x = .inf false) : sevenResults sat c x =
    [0, 0, 0x7F800000, 0x7F800000, 0x7F800000, genNaN .f32 c, genNaN .f32 c] := by
  rw [sevenResults, specResult_zero sat c .rcp hv (s := false) (d := 1) rfl,
    specResult_zero sat c .rsq hv (s := false) (d := 1) rfl, specResult_inf sat c .sqrt hv (s := false) rfl,
    specResult_inf sat c .exp2 hv (s := false) rfl, specResult_inf sat c .log2 hv (s := false) rfl,
    specResult_invalid sat c .sinpi hv nofun rfl, specResult_invalid sat c .cospi hv nofun rfl]
  rfl

/-- The row of R145 for −∞. -/
theorem sevenResults_negInf (hv : valueOfBits .f32 x = .inf true) : sevenResults sat c x =
    [0x80000000, genNaN .f32 c, genNaN .f32 c, 0, genNaN .f32 c, genNaN .f32 c, genNaN .f32 c] := by
  rw [sevenResults, specResult_zero sat c .rcp hv (s := true) (d := 1) rfl, specResult_invalid sat c .rsq hv nofun rfl,
    specResult_invalid sat c .sqrt hv nofun rfl, specResult_zero sat c .exp2 hv (s := false) (d := 1) rfl,
    specResult_invalid sat c .log2 hv nofun rfl, specResult_invalid sat c .sinpi hv nofun rfl,
    specResult_invalid sat c .cospi hv nofun rfl]
  rfl

/-! ## Finite numbers other than zero -/

/-- The inverse and the sine at a finite number other than zero. -/
theorem specValue_fin (s : Bool) {n : Nat} (d : Nat) (hn : n ≠ 0) :
    specValue .rcp (.fin s n d) = .fin s d n ∧ specValue .sinpi (.fin s n d) = xSinPi s n d := by
  simp only [specValue, if_neg hn, and_self]

/-- The roots and the logarithm at a positive number. -/
theorem specValue_pos {n : Nat} (d : Nat) (hn : n ≠ 0) : specValue .rsq (.fin false n d) = xSqrt d n
    ∧ specValue .sqrt (.fin false n d) = xSqrt n d ∧ specValue .log2 (.fin false n d) = xLog2 n d := by
  simp only [specValue, if_neg hn, Bool.false_eq_true, if_false, and_self]

/-- The roots and the logarithm at a negative number: none. -/
theorem specValue_neg {n : Nat} (d : Nat) (hn : n ≠ 0) : specValue .rsq (.fin true n d) = .nan
    ∧ specValue .sqrt (.fin true n d) = .nan ∧ specValue .log2 (.fin true n d) = .nan := by
  simp only [specValue, if_neg hn, if_true, and_self]

section
variable {neg : Bool} {n d : Nat} (hv : valueOfBits .f32 x = .fin neg n d)
include hv

theorem specResult_rcp_fin (hn : n ≠ 0) : specResult .rcp sat c x = roundTo .f32 .rne sat 0 (.fin neg d n) :=
  specResult_fin sat c .rcp hv (specValue_fin neg d hn).1

/-- The root, the inverse root and the logarithm of a negative number are invalid. -/
theorem specResult_negative (hn : n ≠ 0) (hneg : neg = true) : specResult .rsq sat c x = genNaN .f32 c
    ∧ specResult .sqrt sat c x = genNaN .f32 c ∧ specResult .log2 sat c x = genNaN .f32 c := by
  subst hneg
  obtain ⟨hrsq, hsqrt, hlog⟩ := specValue_neg d hn
  exact ⟨specResult_invalid sat c .rsq hv nofun hrsq, specResult_invalid sat c .sqrt hv nofun hsqrt,
    specResult_invalid sat c .log2 hv nofun hlog⟩

theorem specResult_sinpi_whole (hn : n ≠ 0) (hw : n % d = 0) : specResult .sinpi sat c x = signF32 neg := by
  exact specResult_zero sat c .sinpi hv ((specValue_fin neg d hn).2.trans (xSinPi_whole neg hw))

theorem specResult_cospi_whole {k : Nat} (hk : n = k * d) :
    specResult .cospi sat c x = signF32 (decide (k % 2 = 1)) + 0x3F800000 :=
  specResult_one sat c .cospi hv (xCosPi_whole (den_pos_of_value hv) hk)

theorem specResult_sinpi_half {k : Nat} (hn : n ≠ 0) (hk : 2 * n = k * d) (hodd : k % 2 = 1) :
    specResult .sinpi sat c x = signF32 (if k % 4 = 1 then neg else !neg) + 0x3F800000 := by
  exact specResult_one sat c .sinpi hv ((specValue_fin neg d hn).2.trans (xSinPi_half neg (den_pos_of_value hv) hk hodd))

theorem specResult_cospi_half {k : Nat} (hk : 2 * n = k * d) (hodd : k % 2 = 1) : specResult .cospi sat c x = 0 :=
  specResult_zero sat c .cospi hv (xCosPi_half hk hodd)

theorem specResult_exp2_whole_pos {k : Nat} (hneg : neg = false) (hk : n = k * d) (hlt : k < 128) :
    specResult .exp2 sat c x = (127 + k) * 2 ^ 23 := by
  have hy : specValue .exp2 (.fin neg n d) = .fin false (2 ^ k) 1 := by
    rw [specValue, xExp2_whole neg (den_pos_of_value hv) hk, if_neg (by simp [hneg]), min_eq_left (by omega)]
  rw [specResult_fin sat c .exp2 hv hy, roundTo_twoPow _ _ _ _ Nat.one_pos (Nat.mul_one _).symm hlt]
  exact Nat.zero_add _

theorem specResult_exp2_whole_neg {k : Nat} (hneg : neg = true) (hk : n = k * d) :
    specResult .exp2 sat c x = if k ≤ 126 then (127 - k) * 2 ^ 23 else if k ≤ 149 then 2 ^ (149 - k) else 0 := by
  have hy : specValue .exp2 (.fin neg n d) = .fin false 1 (2 ^ min k 400) := by
    rw [specValue, xExp2_whole neg (den_pos_of_value hv) hk, if_pos hneg]
  rw [specResult_fin sat c .exp2 hv hy, roundTo_twoPow_inv]
  refine (Nat.zero_add _).trans ?_
  obtain h | h := le_total k 400
  · rw [min_eq_left h]
  · rw [min_eq_right h, if_neg (by decide), if_neg (by decide), if_neg (by omega), if_neg (by omega)]

theorem specResult_exp2_large (hneg : neg = false) (h : 128 * d ≤ n) :
    specResult .exp2 sat c x = if sat then 0x7F7FFFFF else 0x7F800000 := by
  subst hneg
  obtain ⟨n', d', hy, hd', hle⟩ := xExp2_large (den_pos_of_value hv) h
  rw [specResult_fin sat c .exp2 hv hy, roundTo, roundFin_overflow .rne sat 0 false hd' hle]
  exact Nat.zero_add _

end

/-! ## Powers of two -/

theorem specResult_sqrt_square {n d q : Nat} (hv : valueOfBits .f32 x = .fin false n d) (hn : n ≠ 0) (h : n * d = q * q) :
    specResult .sqrt sat c x = roundTo .f32 .rne sat 0 (.fin false (q * 2 ^ fracBits) (d * 2 ^ fracBits)) := by
  obtain ⟨-, hsqrt, -⟩ := specValue_pos d hn
  exact specResult_fin sat c .sqrt hv (hsqrt.trans (xSqrt_of_sq h))

theorem specResult_rsq_square {n d q : Nat} (hv : valueOfBits .f32 x = .fin false n d) (hn : n ≠ 0) (h : d * n = q * q) :
    specResult .rsq sat c x = roundTo .f32 .rne sat 0 (.fin false (q * 2 ^ fracBits) (n * 2 ^ fracBits)) := by
  obtain ⟨hrsq, -, -⟩ := specValue_pos d hn
  exact specResult_fin sat c .rsq hv (hrsq.trans (xSqrt_of_sq h))

/-- The logarithm of a power of two is exact, far inside the range that `sat` cuts. -/
theorem specResult_log2_twoPow {e : Nat} (h : x % 2 ^ 32 = e * 2 ^ 23) (h1 : 1 ≤ e) (h254 : e ≤ 254) :
    specResult .log2 sat c x = roundTo .f32 .rne false 0 (.fin (decide (e < 127)) ((e : Int) - 127).natAbs 1) := by
  obtain ⟨n, d, hv, hd, hu⟩ := value_of_twoPow h h1 h254
  have hn : n ≠ 0 := by
    rintro rfl
    have := Nat.mul_pos (Nat.two_pow_pos e) hd
    omega
  have hlog : xLog2 n d = xOfInt ((e : Int) - 127) := by
    refine xLog2_twoPow hd (Nat.eq_of_mul_eq_mul_right (Nat.two_pow_pos (min e 127)) ?_)
    rw [Nat.mul_assoc, Nat.mul_assoc, ← Nat.pow_add, ← Nat.pow_add,
      show (-((e : Int) - 127)).toNat + min e 127 = 127 by omega, show ((e : Int) - 127).toNat + min e 127 = e by omega, hu,
      Nat.mul_comm]
  have hsign : decide ((e : Int) - 127 < 0) = decide (e < 127) := decide_eq_decide.mpr (by omega)
  obtain ⟨-, -, hy⟩ := specValue_pos d hn
  rw [specResult_fin sat c .log2 hv (hy.trans hlog), hsign]
  exact roundFin_sat_of_lt .rne sat 0 _ Nat.one_pos (by omega)

/-- The row of R145 for 1.0. -/
theorem sevenResults_one (h : x % 2 ^ 32 = 0x3F800000) :
    sevenResults sat c x = [0x3F800000, 0x3F800000, 0x3F800000, 0x40000000, 0, 0, 0xBF800000] := by
  obtain ⟨n, d, hv, hd, hu⟩ := value_of_twoPow (e := 127) h (by decide) (by decide)
  obtain rfl : n = d := by omega
  have hp : 0 < n * 2 ^ fracBits := Nat.mul_pos hd (Nat.two_pow_pos _)
  rw [sevenResults, specResult_rcp_fin sat c hv hd.ne', specResult_rsq_square sat c hv hd.ne' rfl,
    specResult_sqrt_square sat c hv hd.ne' rfl,
    specResult_exp2_whole_pos sat c hv (k := 1) rfl (Nat.one_mul n).symm (by decide),
    specResult_log2_twoPow sat c (e := 127) h (by decide) (by decide),
    specResult_sinpi_whole sat c hv hd.ne' (Nat.mod_self n), specResult_cospi_whole sat c hv (Nat.one_mul n).symm,
    roundTo_one _ _ _ _ hd, roundTo_one _ _ _ _ hp]
  rfl

theorem specResult_rcp_least (h : x % 2 ^ 32 = 1) : specResult .rcp sat c x = if sat then 0x7F7FFFFF else 0x7F800000 := by
  obtain ⟨n, d, hv, hd, hu⟩ := value_of_pattern h (by decide)
  rw [unitsF32_of_lt (by decide)] at hu
  rw [specResult_rcp_fin sat c hv (by omega), roundTo, roundFin_overflow .rne sat 0 false (by omega) (by omega)]
  exact Nat.zero_add _

theorem specResult_sqrt_four (h : x % 2 ^ 32 = 0x40800000) : specResult .sqrt sat c x = 0x40000000 := by
  obtain ⟨n, d, hv, hd, hu⟩ := value_of_twoPow (e := 129) h (by decide) (by decide)
  obtain rfl : n = 4 * d := by omega
  have hp : 0 < d * 2 ^ fracBits := Nat.mul_pos hd (Nat.two_pow_pos _)
  rw [specResult_sqrt_square sat c hv (by omega) (q := 2 * d) (by ring),
    roundTo_twoPow .rne sat 0 false (k := 1) hp (Nat.mul_assoc 2 d _) (by decide)]
  rfl

end

end Sys2Proof.Machine
end

section
/-! Comparison, classes and the functions of major 0x11 in the lane stream (06 R141 to R145). -/
namespace Sys2Proof.Machine
open Sys2Proof.Claims

/-! ## The forms complete -/

/-- What FCLASS leaves of a wave: bits of a mask register, or a class word per lane (06 R143). -/
def fclassEff (f : XaF) (w : Wave) (act : Nat) : Wave :=
  if f.imm8.getLsbD 7 then w.writeKBits (f.d9.toNat % 8) act (opFclassTest f w)
  else w.writeDst f.d9.toNat act (opFclassWord f w)

theorem bodyFclass_eq (s : State) (words : Nat) (sp : XaSpec) (f : XaF) :
    bodyFclass s words sp f = s.laneForm words sp f [] (fclassEff f) := by
  unfold bodyFclass fclassEff State.lanePred State.laneMap
  cases f.imm8.getLsbD 7 <;> rfl

theorem regsOnly_fclassEff (f : XaF) (w : Wave) (act : Nat) : RegsOnly w (fclassEff f w act) := by
  unfold fclassEff
  cases f.imm8.getLsbD 7
  · exact regsOnly_writeDst _ _ _ _
  · exact regsOnly_writeKBits _ _ _ _

theorem fclass_completes : XaDoes .fclass 8 specFclass (fun f s t =>
    if f.imm8.getLsbD 7 then LaneTruth s t f (opFclassTest f s.w) else ToLanes opFclassWord f s t) := by
  refine xaDoes_of (fun _ _ => rfl) (fun s words f => bodyFclass_eq s words _ f) regsOnly_fclassEff fun f s t _ ht => ?_
  unfold fclassEff at ht
  split
  · next h =>
    rw [if_pos h] at ht
    obtain ⟨hv, hs, hk, he, hr⟩ := ht
    exact laneTruth_of s t f _ _ (if_pos h).symm hv hs hk he hr
  · next h =>
    rw [if_neg h] at ht
    exact laneWord_of_writeDst ht fun _ _ => rfl

theorem laneFloatCompare : LaneFloatCompare :=
  ⟨bothGive (fun _ _ => rfl) (fun _ _ => rfl) (fun _ _ _ _ => rfl),
   bothGive (fun _ _ => rfl) (fun _ _ => rfl) (fun _ _ _ _ => rfl), xaDoes_pred (fun _ _ => rfl), fclass_completes⟩

theorem laneFloatFunctions : LaneFloatFunctions :=
  ⟨bothGive (fun _ _ => rfl) (fun _ _ => rfl) (fun _ _ _ _ => rfl),
   bothGive (fun _ _ => rfl) (fun _ _ => rfl) (fun _ _ _ _ => rfl),
   bothGive (fun _ _ => rfl) (fun _ _ => rfl) (fun _ _ _ _ => rfl),
   bothGive (fun _ _ => rfl) (fun _ _ => rfl) (fun _ _ _ _ => rfl),
   bothGive (fun _ _ => rfl) (fun _ _ => rfl) (fun _ _ _ _ => rfl),
   bothGive (fun _ _ => rfl) (fun _ _ => rfl) (fun _ _ _ _ => rfl),
   bothGive (fun _ _ => rfl) (fun _ _ => rfl) (fun _ _ _ _ => rfl)⟩

/-! ## The special inputs -/

theorem signOfBits_of_ge {x : Nat} (h : 2 ^ 31 ≤ x % 2 ^ 32) : signOfBits .f32 x = true := decide_eq_true h

theorem signOfBits_of_lt {x : Nat} (h : x % 2 ^ 32 < 2 ^ 31) : signOfBits .f32 x = false := decide_eq_false (Nat.not_le.mpr h)

theorem valueOfBits_zero {x : Nat} (h : x % 2 ^ 31 = 0) : ∃ d, valueOfBits .f32 x = .fin (signOfBits .f32 x) 0 d := by
  obtain ⟨n, d, hv, -, hu⟩ := valueOfBits_fin (x := x) (by omega)
  rw [h, unitsF32_zero] at hu
  obtain rfl : n = 0 := by omega
  exact ⟨d, hv⟩

/-- A pattern of a finite number other than zero. -/
theorem valueOfBits_ne_zero {x : Nat} (h0 : 0 < x % 2 ^ 31) (h : x % 2 ^ 31 < 0x7F800000) :
    ∃ n d, valueOfBits .f32 x = .fin (signOfBits .f32 x) n d ∧ n ≠ 0 := by
  obtain ⟨n, d, hv, hd, hu⟩ := valueOfBits_fin h
  refine ⟨n, d, hv, ?_⟩
  rintro rfl
  have := Nat.mul_pos (unitsF32_strictMono h0) hd
  omega

/-- Whole numbers, halves and numbers too large, of one pattern (06 R145). -/
theorem specResults_of_fin (sat : Bool) (c : NanCtx) {x n d : Nat} {neg : Bool} (hv : valueOfBits .f32 x = .fin neg n d)
    (hn : n ≠ 0) : specResult .rcp sat c x = roundTo .f32 .rne sat 0 (.fin neg d n)
    ∧ (neg = false → n ≥ 128 * d → specResult .exp2 sat c x = if sat = true then 0x7F7FFFFF else 0x7F800000)
    ∧ (n % d = 0 → let k := n / d
      specResult .sinpi sat c x = (if neg then 0x80000000 else 0)
      ∧ specResult .cospi sat c x = (if k % 2 = 0 then 0x3F800000 else 0xBF800000)
      ∧ (neg = false → k < 128 → specResult .exp2 sat c x = (127 + k) * 2 ^ 23)
      ∧ (neg = true → specResult .exp2 sat c x =
          if k ≤ 126 then (127 - k) * 2 ^ 23 else if k ≤ 149 then 2 ^ (149 - k) else 0))
    ∧ (2 * n % d = 0 → let k := 2 * n / d
      k % 2 = 1 → specResult .cospi sat c x = 0
        ∧ specResult .sinpi sat c x = (if (k % 4 = 1) = (neg = false) then 0x3F800000 else 0xBF800000)) := by
  refine ⟨specResult_rcp_fin sat c hv hn, specResult_exp2_large sat c hv, fun hw => ?_, fun hh => ?_⟩
  · have hk : n = n / d * d := (Nat.div_mul_cancel (Nat.dvd_of_mod_eq_zero hw)).symm
    refine ⟨specResult_sinpi_whole sat c hv hn hw, ?_, (specResult_exp2_whole_pos sat c hv · hk),
      (specResult_exp2_whole_neg sat c hv · hk)⟩
    rw [specResult_cospi_whole sat c hv hk]
    obtain h | h := Nat.mod_two_eq_zero_or_one (n / d) <;> rw [h] <;> rfl
  · intro k hodd
    have hk : 2 * n = k * d := (Nat.div_mul_cancel (Nat.dvd_of_mod_eq_zero hh)).symm
    refine ⟨specResult_cospi_half sat c hv hk hodd, ?_⟩
    rw [specResult_sinpi_half sat c hv hn hk hodd]
    by_cases h4 : k % 4 = 1 <;> cases neg <;> simp [h4, signF32]

theorem laneFloatSpecialValues : LaneFloatSpecialValues := by
  intro f w l x nan big
  obtain ⟨y, hy⟩ : ∃ y, y = f.aF w l := ⟨_, rfl⟩
  have hx : x = y % 2 ^ 32 := hy ▸ rfl
  have hfn (fn : SpecFn) : opFn fn f w l = specResult fn f.isSat (nanAt w.lanePc l) y := hy ▸ rfl
  have hgives (rs : List Nat) (h : sevenResults f.isSat (nanAt w.lanePc l) y = rs) : Gives7 f w l rs := by
    simp only [Gives7, hfn]
    exact h
  clear_value x
  subst hx
  clear hy
  refine ⟨fun fn h => ?_, fun h => hgives _ ?_, fun h => hgives _ ?_, fun h => hgives _ ?_, fun h => hgives _ ?_,
    fun h => hgives _ (sevenResults_one _ _ h), fun hlo hhi => ?_, fun e h1 h254 h => ?_, fun h => ?_, fun h => ?_,
    fun neg n d hv hn => ?_⟩
  · rw [hfn, specResult_of_isNaN _ _ fn ((isNaN_mod y).mp h)]
  · obtain ⟨d, hv⟩ := valueOfBits_zero (x := y) (by omega)
    rw [signOfBits_of_lt (by omega)] at hv
    exact sevenResults_zero _ _ hv
  · obtain ⟨d, hv⟩ := valueOfBits_zero (x := y) (by omega)
    rw [signOfBits_of_ge (by omega)] at hv
    exact sevenResults_zero _ _ hv
  · have hv := valueOfBits_inf (x := y) (by omega)
    rw [signOfBits_of_lt (by omega)] at hv
    exact sevenResults_posInf _ _ hv
  · have hv := valueOfBits_inf (x := y) (by omega)
    rw [signOfBits_of_ge (by omega)] at hv
    exact sevenResults_negInf _ _ hv
  · obtain ⟨n, d, hv, hn⟩ := valueOfBits_ne_zero (x := y) (by omega) (by omega)
    rw [hfn, hfn, hfn]
    exact specResult_negative _ _ hv hn (signOfBits_of_ge (by omega))
  · rw [hfn]
    exact specResult_log2_twoPow _ _ h h1 h254
  · rw [hfn]
    exact specResult_rcp_least _ _ h
  · rw [hfn]
    exact specResult_sqrt_four _ _ h
  · simp only [hfn]
    exact specResults_of_fin _ _ ((valueOfBits_mod y).symm.trans hv) hn

/-- Settles O3: the completions by the laws of lane forms, the comparisons by the order of the patterns, and the special
values by exactness of rounding. -/
theorem laneFloatCompareAndFunctions : Obligations.LaneFloatCompareAndFunctions :=
  ⟨laneFloatCompare, laneFloatFunctions, laneFloatCompareValues, laneFloatSpecialValues⟩

end Sys2Proof.Machine
end

section
/-! Issuing a form whose whole effect is a next state, and the PC of the stream that issues it (03 R57, R66; 18 R411). -/
namespace Sys2Proof.Machine
open Sys2Proof.Claims

/-! ## Issuing -/

/-- A legal instruction whose body ends in `t` ends in `t`, issued. -/
theorem ends_of_body {i : Instr} {s t : State} {st : Stream} {weight : Nat} {legal : Option EncFault} (body : State → R State)
    (h : Issues s st weight) (hexec : exec i s = s.issue i (some st) 0 weight legal body) (hl : legal = none)
    (hb : body s = .ok t) (ht : t.stalled = false) : Ends i s t weight := by
  subst hl
  exact hexec.trans (issue_of_body h rfl hb ht)

theorem stream_of_issues {s : State} {st : Stream} {weight : Nat} (h : Issues s st weight) : s.st = st := h.2.1

theorem notMgmt_of_issues {s : State} {st : Stream} {weight : Nat} (h : Issues s st weight) : s.w.mgmt = false := h.2.2.1

theorem notStalled_of_issues {s : State} {st : Stream} {weight : Nat} (h : Issues s st weight) : s.stalled = false := h.2.2.2.2

@[simp] theorem State.issued_mem (s : State) (weight : Nat) : (s.issued weight).mem = s.mem := by
  unfold State.issued State.billed
  split <;> rfl

@[simp] theorem State.issued_blocks (s : State) (weight : Nat) : (s.issued weight).blocks = s.blocks := by
  unfold State.issued State.billed
  split <;> rfl

/-- The wave of an issue that completes: its stream has issued, and nothing refuses it. -/
theorem State.issued_w (s : State) (weight : Nat) :
    (s.issued weight).w = { s.w with
      tryLead := if s.st = .lead then .issued else s.w.tryLead, tryLane := if s.st = .lane then .issued else s.w.tryLane
      deadlock := 0, refused := none } := by
  unfold State.issued State.billed
  cases s.st <;> split <;> simp [State.charge, Wave.attempt]

/-- A legal instruction whose body changes its wave and nothing else. -/
theorem ends_of_modW {i : Instr} {s : State} {f : Wave → Wave} {st : Stream} {weight : Nat} {legal : Option EncFault}
    (body : State → R State) (h : Issues s st weight) (hexec : exec i s = s.issue i (some st) 0 weight legal body)
    (hl : legal = none) (hb : body s = .ok (s.modW f)) : Ends i s (s.modW f) weight :=
  ends_of_body body h hexec hl hb ((s.modW_stalled f).trans (notStalled_of_issues h))

theorem State.modW_modW (s : State) (f g : Wave → Wave) : (s.modW f).modW g = s.modW (fun w => g (f w)) := rfl

/-! ## The PC of the issuing stream -/

theorem target_eq_goes (next : Nat) (off : BitVec 21) : target next off = goes next off := wrapN_eq_ofInt _ _

section
variable {s : State}

theorem State.pc_of_lane (h : s.st = .lane) : s.pc = s.w.lanePc := by rw [State.pc, h]; rfl

theorem State.goto_of_lane (h : s.st = .lane) (a : Nat) : s.goto a = s.modW (fun w => { w with lanePc := a }) := by
  rw [State.goto, h]; rfl

theorem State.pc_of_lead (h : s.st = .lead) : s.pc = s.w.leadPc := by rw [State.pc, h]; rfl

theorem State.goto_of_lead (h : s.st = .lead) (a : Nat) : s.goto a = s.modW (fun w => { w with leadPc := a }) := by
  rw [State.goto, h]; rfl

theorem State.advance_of_lead (h : s.st = .lead) (words : Nat) :
    s.advance words = s.modW (fun w => { w with leadPc := w.leadPc + 4 * words }) := by
  rw [State.advance, h]; rfl

end

end Sys2Proof.Machine
end

section
/-! The control flow of the lane stream: branches, calls and the reconvergence stack (07 R178 to R183). -/
namespace Sys2Proof.Machine
open Sys2Proof.Claims

/-! ## The reconvergence stack (07 R183) -/

section
variable {s : State}

theorem State.pushCheck_of_lt (h : s.w.stack.length < 24) : s.pushCheck = .ok () :=
  if_neg (by simp [Wave.pushFull, h])

theorem State.pushCheck_of_room (h : 24 * (s.w.spill + 1) ≤ s.w.k.divspill) : s.pushCheck = .ok () :=
  if_neg (by simp [Wave.pushFull, h])

theorem State.pushEntry_of_lt (h : s.w.stack.length < 24) (e : SEntry) :
    s.pushEntry e = s.modW (fun w => { w with stack := e :: w.stack }) := if_pos h

/-- A push with 24 entries on chip writes the bottom one to the spill area. -/
theorem State.pushEntry_spills (h : s.w.stack.length ≥ 24) (e : SEntry) :
    (s.pushEntry e).w = { s.w with stack := e :: s.w.stack.dropLast, spill := s.w.spill + 1 }
      ∧ (s.pushEntry e).stalled = s.stalled ∧ (s.pushEntry e).st = s.st
      ∧ ∀ a, (a < s.w.spillBase + 24 * s.w.spill ∨ s.w.spillBase + 24 * (s.w.spill + 1) ≤ a) →
          memByte (s.pushEntry e).mem a = memByte s.mem a := by
  rw [State.pushEntry, if_neg (by omega)]
  refine ⟨rfl, rfl, rfl, fun a ha => ?_⟩
  simp only [State.modW_mem, Wave.spillAt]
  rw [memByte_poke_outside _ _ _ _ _ (by omega), memByte_poke_outside _ _ _ _ _ (by omega),
    memByte_poke_outside _ _ _ _ _ (by omega)]

theorem State.refill_of_cons {e : SEntry} {rest : List SEntry} (h : s.w.stack = e :: rest) (fl : Nat) : s.refill fl = .ok s :=
  if_neg (by simp [h])

theorem State.refill_of_noSpill (h : s.w.spill = 0) (fl : Nat) : s.refill fl = .ok s := if_neg (by simp [h])

end

/-! ## BRDQ and CALLL (07 R178, R181) -/

theorem laneBranchAndCall : LaneBranchAndCall := by
  refine ⟨fun f s x rest h hdq => ?_, fun f s h hlt => ?_, fun f s h hge hroom => ?_⟩ <;> have hst := stream_of_issues h
  · refine ends_of_modW _ h (rfl : execBrdq f s = _) rfl ?_
    simp only [hdq, State.goto_of_lane (s := s.modW _) hst, State.pc_of_lane hst, target_eq_goes, ne_eq, ite_not]
    rfl
  · refine ends_of_modW _ h (rfl : execCalll f s = _) rfl ?_
    simp only [State.pushCheck_of_lt hlt, State.pushEntry_of_lt hlt, State.goto_of_lane (s := s.modW _) hst,
      State.pc_of_lane hst, target_eq_goes]
    rfl
  · obtain ⟨hw, hns, hst', hmem⟩ := State.pushEntry_spills hge { pc := s.pc + 4, rpc := kindCall, mask := s.w.exec }
    refine ⟨_, ends_of_body (t := (s.pushEntry _).goto (target (s.pc + 4) f.off21)) _ h (rfl : execCalll f s = _) rfl ?_
      (hns.trans (notStalled_of_issues h)), ?_⟩
    · simp only [State.pushCheck_of_room hroom]
    · rw [State.goto_of_lane (hst'.trans hst), State.issued_w, State.issued_mem, State.modW_w, hw, target_eq_goes,
        State.pc_of_lane hst]
      rw [State.pc_of_lane hst] at hmem
      exact ⟨rfl, rfl, rfl, rfl, rfl, rfl, rfl, hmem⟩

/-! ## RECONV, RETL and EXIT (07 R180 to R182) -/

section
variable {s : State} {e : SEntry} {rest : List SEntry} (hst : s.st = .lane) (hcons : s.w.stack = e :: rest)
include hst hcons

theorem reconvBody_of_other (h : e.kind = kindCall ∨ e.rpc / 4 ≠ s.w.lanePc / 4) :
    reconvBody s = .ok (s.modW (fun w => { w with lanePc := w.lanePc + 4 })) := by
  simp only [reconvBody, State.refill_of_cons hcons, hcons, State.goto_of_lane hst, State.pc_of_lane hst, if_pos h]
  rfl

theorem reconvBody_of_pending (hk : e.kind = kindPending) (hpc : e.rpc / 4 = s.w.lanePc / 4) :
    reconvBody s = .ok (s.modW (fun w => { w with
      exec := e.mask, lanePc := e.pc
      stack := { pc := e.pc, mask := w.exec, rpc := e.rpc / 4 * 4 + kindJoin } :: rest })) := by
  have hown : ¬(e.kind = kindCall ∨ e.rpc / 4 ≠ s.w.lanePc / 4) := by simp [hk, hpc, kindPending, kindCall]
  simp only [reconvBody, State.refill_of_cons hcons, hcons, State.goto_of_lane (s := s.modW _) hst, State.pc_of_lane hst,
    if_neg hown, if_pos hk]
  rfl

theorem reconvBody_of_join (hk : e.kind = kindJoin) (hpc : e.rpc / 4 = s.w.lanePc / 4) :
    reconvBody s = .ok (s.modW (fun w => { w with exec := w.exec ||| e.mask, stack := rest })) := by
  have hown : ¬(e.kind = kindCall ∨ e.rpc / 4 ≠ s.w.lanePc / 4) := by simp [hk, hpc, kindJoin, kindCall]
  have hnot : e.kind ≠ kindPending := by simp [hk, kindJoin, kindPending]
  simp only [reconvBody, State.refill_of_cons hcons, hcons, State.pc_of_lane hst, if_neg hown, if_neg hnot]

theorem retlBody_of_call (hk : e.kind = kindCall) :
    retlBody s = .ok (s.modW (fun w => { w with exec := w.exec &&& e.mask, stack := rest, lanePc := e.pc })) := by
  simp only [retlBody, State.refill_of_cons hcons, hcons, State.goto_of_lane (s := s.modW _) hst, hk, ne_eq,
    not_true_eq_false, if_false]
  rfl

end

theorem laneReconvergence : LaneReconvergence := by
  refine ⟨fun f s h hl hnil hsp => ?_, fun f s e rest h hl hcons => ⟨fun hk => ?_, fun hk hpc => ?_, fun hk hpc => ?_,
    fun hk => ?_⟩, fun f s h hl => ?_⟩ <;> have hst := stream_of_issues h
  · refine ends_of_modW reconvBody h rfl hl ?_
    simp only [reconvBody, State.refill_of_noSpill hsp, hnil, State.goto_of_lane hst, State.pc_of_lane hst]
    rfl
  · exact ends_of_modW reconvBody h rfl hl (reconvBody_of_other hst hcons hk)
  · exact ends_of_modW reconvBody h rfl hl (reconvBody_of_pending hst hcons hk hpc)
  · exact ends_of_modW reconvBody h rfl hl (reconvBody_of_join hst hcons hk hpc)
  · exact ends_of_modW retlBody h rfl hl (retlBody_of_call hst hcons hk)
  · refine ends_of_modW exitBody h rfl hl ?_
    simp only [exitBody, State.goto_of_lane (s := s.modW _) hst, State.pc_of_lane hst]
    rfl

/-- Settles O11: each form's body is the change of the wave that the claim writes out; a CALLL with 24 entries on chip by
`State.pushEntry_spills`. -/
theorem laneControlFlow : Obligations.LaneControlFlow := ⟨laneBranchAndCall, laneReconvergence⟩

/-! ## BDIV (07 R179) -/

/-- The source that BDIV reads as an operand: none where its predicate is a mask register. -/
def bdivSrcs (f : BlF) : List Nat := if f.xop.getLsbD 0 then [] else [f.a9.toNat]

/-- The state of BDIV once the queue entry of its predicate is popped. -/
def bdivPopped (f : BlF) (s : State) : State := s.modW (fun w => w.popUsed (bdivSrcs f))

/-- The body of BDIV, once its operand can be used. -/
theorem bdivBody_eq {f : BlF} {s : State} (hst : s.st = .lane) (hready : s.laneReady (bdivSrcs f) [] = .ok ())
    (hcheck : s.regCheck s.w.exec (vRegs (bdivSrcs f)) = .ok ()) (hlt : s.w.stack.length < 24) :
    let next := s.w.lanePc + 12
    let m := s.w.exec &&& bdivPred f s.w
    let goTo (pc : Nat) : State := (bdivPopped f s).modW (fun w => { w with lanePc := pc })
    bdivBody f s =
      if bdivUniform f then .ok (goTo (if s.w.src none f.a9.toNat 0 ≠ 0 then goes next f.off21 else next))
      else if m = 0 then .ok (goTo next)
      else if s.w.exec ^^^ m = 0 then .ok (goTo (goes next f.off21))
      else .ok ((bdivPopped f s).modW (fun w => { w with
        stack := { pc := next, rpc := goes next f.off21b, mask := s.w.exec ^^^ m } :: w.stack
        exec := m, lanePc := goes next f.off21 })) := by
  have hpush (e : SEntry) : (bdivPopped f s).pushEntry e = (bdivPopped f s).modW (fun w => { w with stack := e :: w.stack }) :=
    State.pushEntry_of_lt (by simpa [bdivPopped, popUsed_eq] using hlt) e
  simp only [bdivBody, ← bdivSrcs.eq_1, ← bdivPopped.eq_1, hready, hcheck, hpush, State.pushCheck_of_lt hlt,
    State.pc_of_lane hst, State.goto_of_lane (s := bdivPopped f s) hst,
    State.goto_of_lane (s := (bdivPopped f s).modW _) hst, State.modW_modW, target_eq_goes, bind, Except.bind]

/-- Settles O10: the body of BDIV in its four cases. -/
theorem laneDivergence : Obligations.LaneDivergence := by
  intro f s h hl srcs hready hcheck hlt next tgt lanesTrue popped goTo
  have hbody := bdivBody_eq (stream_of_issues h) hready hcheck hlt
  have hpop : bdivPopped f s = s.modW popped := congrArg s.modW (funext (fun w => popUsed_eq w srcs))
  rw [hpop] at hbody
  refine ⟨fun hu => ?_, fun hu h0 => ?_, fun hu h0 he => ?_, fun hu h0 he => ?_⟩ <;>
    refine ends_of_modW (bdivBody f) h rfl hl (hbody.trans ?_)
  · rw [if_pos hu]
    rfl
  · rw [if_neg (by simp [hu]), if_pos h0]
    rfl
  · have hxor : s.w.exec ^^^ lanesTrue = 0 := by rw [he, Nat.xor_self]
    rw [if_neg (by simp [hu]), if_neg h0, if_pos hxor]
    rfl
  · have hxor : s.w.exec ^^^ lanesTrue ≠ 0 := fun hx => he (Nat.xor_eq_zero_iff.mp hx).symm
    rw [if_neg (by simp [hu]), if_neg h0, if_neg hxor]
    rfl

end Sys2Proof.Machine
end

section
/-! The scalar forms of the lead stream give their results (07 R165 to R168). -/
namespace Sys2Proof.Machine
open Sys2Proof.Claims

/-! ## Operands and results as integers (07 R166) -/

theorem leadWidth_eq (o : LeadOp) : leadWidth o.ty = leadW o := rfl

theorem leadInt_eq (o : LeadOp) (x : Nat) : leadInt o.ty x = leadZ o x := by
  simp [leadInt, leadZ, sextN_eq_toInt]

/-- An integer wrapped to the width of the type and extended. -/
theorem leadOut_wrapN (o : LeadOp) (v : Int) : leadOut o.ty (wrapN v (leadW o)) = leadFit o v := by
  unfold leadOut leadFit leadW
  split_ifs
  · rw [wrapN_eq_ofInt, Nat.mod_eq_of_lt (BitVec.isLt _)]
  · rw [wrapN_eq_ofInt, wrapN_eq_ofInt, sextN_eq_toInt, BitVec.ofNat_toNat, BitVec.setWidth_eq]
    rfl
  · rw [wrapN_eq_ofInt, Nat.mod_eq_of_lt (BitVec.isLt _)]

/-- A pattern is extended by its low bits alone. -/
theorem leadOut_natCast (o : LeadOp) (x : Nat) : leadOut o.ty x = leadFit o (x : Int) := by
  rw [← leadOut_wrapN]
  have hw : wrapN (x : Int) (leadW o) = x % 2 ^ leadW o := by
    rw [wrapN_eq_ofInt, BitVec.ofInt_natCast, BitVec.toNat_ofNat]
  rw [hw]
  unfold leadOut leadW
  split_ifs <;> simp [sextN]

theorem leadOut_ite (o : LeadOp) (p : Prop) [Decidable p] (v : Int) (x : Nat) :
    leadOut o.ty (if p then wrapN v (leadW o) else x) = leadFit o (if p then v else (x : Int)) := by
  split
  · exact leadOut_wrapN o v
  · exact leadOut_natCast o x

theorem leadRes_eq (o : LeadOp) (v : Int) : leadRes o v = leadFit o (leadSat o v) := by
  rw [← leadOut_wrapN]
  simp only [leadRes, leadSat, leadWidth_eq]
  rw [clampInt_eq_max_min (by decide), clampInt_eq_max_min (by decide), clampInt_eq_max_min (by decide)]
  rfl

/-! ## What a scalar form leaves (07 R166) -/

theorem popRq_eq (w : Wave) (srcs : List LeadIx) :
    w.popRq srcs = { w with rq := if srcs.contains .rq then w.rq.tail else w.rq } := by
  unfold Wave.popRq
  split <;> rfl

theorem writeLead_frame (w : Wave) (d : LeadIx) (x : Nat) : w.writeLead d x = { w with s := (w.writeLead d x).s } := by
  cases d <;> rfl

theorem getS_writeLead (w : Wave) (d : LeadIx) (x i : Nat) :
    (w.writeLead d x).getS i = if d = .s i then x % 2 ^ 64 else w.getS i := by
  cases d with
  | s n => simp [Wave.writeLead, eq_comm]
  | _ => simp [Wave.writeLead]

/-- The state after a scalar form's body: RQ popped, the result written and the PC moved. -/
def scalarAfter (s : State) (words : Nat) (d : LeadIx) (srcs : List LeadIx) (x : Nat) : State :=
  (s.modW (fun w => (w.popRq srcs).writeLead d x)).advance words

theorem scalarAfter_issued {s : State} (words : Nat) (d : LeadIx) (srcs : List LeadIx) (x : Nat) (h : Issues s .lead 1) :
    OnlyWave s ((scalarAfter s words d srcs x).issued 1) 1
      ∧ LeadFrame s ((scalarAfter s words d srcs x).issued 1) words d x (srcs.contains .rq) := by
  have hst : (s.modW (fun w => (w.popRq srcs).writeLead d x)).st = .lead := stream_of_issues (s := s) h
  refine ⟨onlyWave_of_modW s _ words 1 ?_ ?_, ?_, fun i => ?_⟩
  · rw [writeLead_frame, popRq_eq]
    exact notMgmt_of_issues (s := s) h
  · rw [writeLead_frame, popRq_eq]
  · rw [State.issued_w, scalarAfter, State.advance_of_lead hst, State.modW_w, State.modW_w, State.modW_st, hst,
      writeLead_frame, popRq_eq]
    rfl
  · have hs : ((scalarAfter s words d srcs x).issued 1).w.s = (s.w.writeLead d x).s := by
      rw [State.issued_w, scalarAfter, State.advance_of_lead hst, State.modW_w, State.modW_w, popRq_eq]
      cases d <;> rfl
    exact (congrArg (fun m => (mapGet 0#64 m i).toNat) hs).trans (getS_writeLead s.w d x i)

/-- The body of a scalar form whose operands are ready and allocated. -/
theorem scalarBody_ok {s : State} {sp : LeadSpec} {o : LeadOp} (words : Nat) (op : LeadFn) (h : Issues s .lead 1)
    (hok : s.leadOk (leadSrcs sp o) (leadDst o.d) = .ok ()) :
    scalarBody sp o words op s = .ok (scalarAfter s words o.d (leadSrcs sp o)
      (op o (s.w.leadVal o.lit o.a) (s.w.leadVal o.lit o.b) (s.w.leadVal o.lit o.c))) := by
  have hport (srcs : List LeadIx) : s.mgmtPort srcs = .ok () := by rw [State.mgmtPort, notMgmt_of_issues h]; rfl
  unfold leadSrcs at hok
  simp only [scalarBody, hport, hok, bind, Except.bind]
  rfl

/-- An extended scalar form with this value. -/
theorem scalarXa_gives {i : XaF → Instr} {sp : LeadSpec} {op val : LeadFn}
    (hexec : ∀ f s, exec (i f) s = s.scalarXA (i f) sp f op) (hval : ∀ o a b c, op o a b c = val o a b c) :
    ScalarXaGives i sp val := by
  intro f s o h hl hok v
  refine ⟨_, ?_, scalarAfter_issued (xaWords f) o.d (leadSrcs sp o) (val o (v o.a) (v o.b) (v o.c)) h⟩
  rw [hexec, State.scalarXA, hl, ← hval]
  exact issue_of_body h rfl (scalarBody_ok _ _ h hok) (notStalled_of_issues (s := s) h)

/-- A base scalar form with this value. -/
theorem scalarBs_gives {i : BaF → Instr} {sp : LeadSpec} {op val : LeadFn}
    (hexec : ∀ f s, exec (i f) s = s.scalarBS (i f) sp f op) (hval : ∀ o a b c, op o a b c = val o a b c) :
    ScalarBsGives i sp val := by
  intro f s o h hl hok v
  refine ⟨_, ?_, scalarAfter_issued (baWords f) o.d (leadSrcs sp o) (val o (v o.a) (v o.b) (v o.c)) h⟩
  rw [hexec, State.scalarBS, hl, ← hval]
  exact issue_of_body h rfl (scalarBody_ok _ _ h hok) (notStalled_of_issues (s := s) h)

/-- Both encodings of a scalar form with this value. -/
theorem scalar_gives {bs : BaF → Instr} {xa : XaF → Instr} {sp : LeadSpec} {op val : LeadFn}
    (hbs : ∀ f s, exec (bs f) s = s.scalarBS (bs f) sp f op) (hxa : ∀ f s, exec (xa f) s = s.scalarXA (xa f) sp f op)
    (hval : ∀ o a b c, op o a b c = val o a b c) : ScalarGives bs xa sp val :=
  ⟨scalarBs_gives hbs hval, scalarXa_gives hxa hval⟩

/-! ## The values -/

section
variable (o : LeadOp) (a b c : Nat)

theorem opSadd_eq : opSadd o a b c = leadFit o (leadSat o (leadZ o a + leadZ o b)) := by
  rw [opSadd, leadRes_eq, leadInt_eq, leadInt_eq]

theorem opSsub_eq : opSsub o a b c = leadFit o (leadSat o (leadZ o a - leadZ o b)) := by
  rw [opSsub, leadRes_eq, leadInt_eq, leadInt_eq]

theorem opSmul_eq : opSmul o a b c = leadFit o (leadSat o (leadZ o a * leadZ o b)) := by
  rw [opSmul, leadRes_eq, leadInt_eq, leadInt_eq]

theorem opSmulhi_eq : opSmulhi o a b c = leadFit o (leadSat o ((leadZ o a * leadZ o b) / 2 ^ leadW o)) := by
  rw [opSmulhi, leadRes_eq, leadInt_eq, leadInt_eq, leadWidth_eq, Nat.cast_pow, Nat.cast_ofNat]

theorem opSmin_eq : opSmin o a b c = leadFit o (leadSat o (min (leadZ o a) (leadZ o b))) := by
  rw [opSmin, leadRes_eq, leadInt_eq, leadInt_eq]

theorem opSmax_eq : opSmax o a b c = leadFit o (leadSat o (max (leadZ o a) (leadZ o b))) := by
  rw [opSmax, leadRes_eq, leadInt_eq, leadInt_eq]

theorem opSshl_eq : opSshl o a b c = if b < leadW o then leadFit o ((a * 2 ^ b : Nat) : Int) else 0 := by
  simp only [opSshl, leadWidth_eq, leadOut_natCast, Nat.shiftLeft_eq, ge_iff_le, ← Nat.not_lt, ite_not]

theorem opSshr_eq : opSshr o a b c = if b < leadW o then leadFit o ((a % 2 ^ leadW o / 2 ^ b : Nat) : Int) else 0 := by
  simp only [opSshr, leadWidth_eq, leadOut_natCast, zextN, Nat.shiftRight_eq_div_pow, ge_iff_le, ← Nat.not_lt, ite_not]

theorem opSsar_eq : opSsar o a b c = leadFit o ((BitVec.ofNat (leadW o) a).toInt / 2 ^ (min b (leadW o))) := by
  simp only [opSsar, leadWidth_eq, leadOut_wrapN, sextN_eq_toInt, Nat.cast_pow, Nat.cast_ofNat]

theorem opScmp_eq : opScmp o a b c =
    if [decide (leadZ o a = leadZ o b), decide (leadZ o a ≠ leadZ o b), decide (leadZ o a < leadZ o b),
      decide (leadZ o a ≤ leadZ o b), decide (leadZ o a > leadZ o b)].getD o.cc (decide (leadZ o a ≥ leadZ o b)) then 1 else 0 := by
  rw [opScmp, b2n, iCond_eq_getD, leadInt_eq, leadInt_eq]

theorem opSsel_eq : opSsel o a b c = leadFit o ((if c ≠ 0 then a else b : Nat) : Int) := leadOut_natCast o _

/-- The value of SBFX, as claims write it (07 R167). -/
def sbfxVal (o : LeadOp) (a b : Nat) : Nat :=
  let w := leadW o
  let off := if w = 64 then b % 64 else b % 32
  let wid := if w = 64 then b / 256 % 128 else b / 256 % 64
  let e := min wid (w - off)
  let x := (a % 2 ^ w) / 2 ^ off % 2 ^ e
  leadFit o (if o.variant = 1 ∧ e > 0 then (BitVec.ofNat e x).toInt else (x : Int))

theorem opSbfx_eq : opSbfx o a b c = sbfxVal o a b := by
  have hfield (x e : Nat) : (if e = 0 then 0 else x % 2 ^ e) = x % 2 ^ e := by
    split
    · next h => rw [h, pow_zero, Nat.mod_one]
    · rfl
  simp only [opSbfx, sbfxVal, leadWidth_eq, bits, zextN, hfield, Nat.shiftRight_eq_div_pow, pow_zero, Nat.div_one,
    sextN_eq_toInt, leadOut_ite, Nat.reducePow]

end

theorem leadIntegerArithmetic : LeadIntegerArithmetic :=
  ⟨scalar_gives (fun _ _ => rfl) (fun _ _ => rfl) opSadd_eq, scalar_gives (fun _ _ => rfl) (fun _ _ => rfl) opSsub_eq,
    scalar_gives (fun _ _ => rfl) (fun _ _ => rfl) opSmul_eq, scalar_gives (fun _ _ => rfl) (fun _ _ => rfl) opSmulhi_eq,
    scalar_gives (fun _ _ => rfl) (fun _ _ => rfl) opSmin_eq, scalar_gives (fun _ _ => rfl) (fun _ _ => rfl) opSmax_eq⟩

theorem leadLogicAndShifts : LeadLogicAndShifts :=
  ⟨scalar_gives (op := opSand) (fun _ _ => rfl) (fun _ _ => rfl) (fun o _ _ _ => leadOut_natCast o _),
    scalar_gives (op := opSor) (fun _ _ => rfl) (fun _ _ => rfl) (fun o _ _ _ => leadOut_natCast o _),
    scalar_gives (op := opSxor) (fun _ _ => rfl) (fun _ _ => rfl) (fun o _ _ _ => leadOut_natCast o _),
    scalar_gives (op := opSmov) (fun _ _ => rfl) (fun _ _ => rfl) (fun o _ _ _ => leadOut_natCast o _),
    scalar_gives (fun _ _ => rfl) (fun _ _ => rfl) opSshl_eq, scalar_gives (fun _ _ => rfl) (fun _ _ => rfl) opSshr_eq,
    scalar_gives (fun _ _ => rfl) (fun _ _ => rfl) opSsar_eq⟩

theorem leadCompareSelectExtract : LeadCompareSelectExtract :=
  ⟨scalarXa_gives (fun _ _ => rfl) opScmp_eq, scalarXa_gives (fun _ _ => rfl) opSsel_eq,
    scalarXa_gives (fun _ _ => rfl) opSbfx_eq⟩

/-- Settles O12: every form by `scalar_gives`, with its value. -/
theorem leadScalarForms : Obligations.LeadScalarForms :=
  ⟨leadIntegerArithmetic, leadLogicAndShifts, leadCompareSelectExtract⟩

end Sys2Proof.Machine
end

section
/-! The control flow of the lead stream, and the pushes of the decoupling queue (07 R170 to R174). -/
namespace Sys2Proof.Machine
open Sys2Proof.Claims

/-! ## SBR, SCALL, SRET, JMPL and SDONE (07 R170 to R173) -/

theorem Wave.link_of_notMgmt {w : Wave} (h : w.mgmt = false) : w.link = w.k.sregs - 1 := by simp [Wave.link, h]

theorem scallBody_ok {f : BbF} {s : State} (hst : s.st = .lead) (hm : s.w.mgmt = false)
    (hok : s.leadOk [] [s.w.k.sregs - 1] = .ok ()) : scallBody f s = .ok (s.modW (fun w =>
      { w.setS (w.k.sregs - 1) (w.leadPc + 4) with leadPc := goes (w.leadPc + 4) f.off21 })) := by
  have hlink (n : Nat) : s.modW (fun w => w.setS w.link n) = s.modW (fun w => w.setS (w.k.sregs - 1) n) := by
    rw [State.modW, State.modW, Wave.link_of_notMgmt hm]
  simp only [scallBody, hlink, Wave.link_of_notMgmt hm, hok, State.goto_of_lead (s := s.modW _) hst, State.pc_of_lead hst,
    target_eq_goes, bind, Except.bind]
  rfl

theorem leadJumps : LeadJumps := by
  refine ⟨fun f s h => ?_, fun f s h hok => ?_, fun f s h hl hok halign => ?_, fun f s h hheld hdone => ?_, fun f s h hl => ?_⟩ <;>
    have hst := stream_of_issues h
  · refine ends_of_modW _ h (rfl : execSbr f s = _) rfl ?_
    simp only [State.goto_of_lead hst, State.pc_of_lead hst, target_eq_goes]
    rfl
  · exact ends_of_modW (scallBody f) h rfl rfl (scallBody_ok hst (notMgmt_of_issues h) hok)
  · refine ends_of_modW (sretBody f) h rfl hl ?_
    simp only [sretBody, hok, halign, State.goto_of_lead hst, bind, Except.bind, ne_eq, not_true_eq_false, if_false]
    rfl
  · refine ends_of_modW (jmplBody f) h rfl rfl ?_
    simp only [jmplBody, Wave.laneHeld, hheld, hdone, State.goto_of_lead (s := s.modW _) hst, State.pc_of_lead hst,
      target_eq_goes, beq_self_eq_true, Bool.not_false, Bool.and_self, if_true]
    rfl
  · refine ends_of_modW sdoneBody h rfl hl ?_
    simp only [sdoneBody, State.goto_of_lead (s := s.modW _) hst, State.pc_of_lead hst]
    rfl

/-! ## SBRC and SLOOP (07 R170) -/

theorem pushFault_of_notMgmt {w : Wave} (h : w.mgmt = false) (f : BlF) : w.pushFault f = none := by
  simp [Wave.pushFault, h, faultIf]

theorem pushReady_ok {f : BlF} {s : State} (h : f.xop.getLsbD 3 = true → s.w.dq.length < 16) :
    s.pushReady (blPush f) = .ok () := by
  unfold blPush
  cases hp : f.xop.getLsbD 3
  · rfl
  · exact if_neg (by simpa [Wave.dqFull] using h hp)

/-- The wave after the branch of SBRC or SLOOP, whose next instruction lies at `next`. -/
def Wave.branched (w : Wave) (f : BlF) (next : Nat) (t : Bool) : Wave := { w with
  dq := if f.xop.getLsbD 3 then w.dq ++ [if t then 1#32 else 0#32] else w.dq
  leadPc := if t then goes next f.off21 else next }

theorem State.condBranch_eq {s : State} (hst : s.st = .lead) (f : BlF) (t : Bool) :
    s.condBranch f t = s.modW (fun w => w.branched f (s.w.leadPc + 12) t) := by
  have hpush (w : Wave) : (if blPush f then w.pushDq (b2n t) else w) =
      { w with dq := if f.xop.getLsbD 3 then w.dq ++ [if t then 1#32 else 0#32] else w.dq } := by
    unfold blPush
    cases f.xop.getLsbD 3
    · rfl
    · cases t <;> rfl
  simp only [State.condBranch, hpush, State.goto_of_lead (s := s.modW _) hst, State.pc_of_lead hst, target_eq_goes]
  rfl

/-- The count of SLOOP, less one (07 R170). -/
theorem wrapN_sub_one (n : Nat) : wrapN ((n : Int) - 1) 64 = (BitVec.ofNat 64 n - 1#64).toNat := by
  simp only [wrapN, BitVec.toNat_sub, BitVec.toNat_ofNat]
  omega

theorem toNat_ne_zero {n : Nat} (x : BitVec n) : x.toNat ≠ 0 ↔ x ≠ 0#n := by simp [BitVec.toNat_eq]

theorem leadConditionalBranches : LeadConditionalBranches := by
  refine ⟨fun f s h hl hroom hok => ?_, fun f s h hl hroom hok => ?_⟩ <;> have hst := stream_of_issues h <;>
    have hlegal := pushFault_of_notMgmt (notMgmt_of_issues h) f
  · refine ends_of_modW (sbrcBody f) h rfl (by rw [hl, hlegal]; rfl) ?_
    simp only [sbrcBody, pushReady_ok hroom, hok, State.condBranch_eq hst, iCond_eq_getD, sextN_eq_toInt, bind, Except.bind]
    rfl
  · refine ends_of_modW (sloopBody f) h rfl (by rw [hl, hlegal]; rfl) ?_
    simp only [sloopBody, pushReady_ok hroom, hok, wrapN_sub_one, toNat_ne_zero, State.condBranch_eq (s := s.modW _) hst, bind,
      Except.bind]
    rfl

/-! ## DQPUSH (07 R174) -/

theorem dqpushBody_ok {f : BaF} {s : State} (hst : s.st = .lead)
    (hready : s.leadReady [leadIx7 f.b.toNat f.lit.isSome] [] = .ok ())
    (hroom : s.w.dq.length < 16) (hcheck : s.sregCheck (leadRegs [leadIx7 f.b.toNat f.lit.isSome]) = .ok ()) :
    dqpushBody f s = .ok (s.modW (fun w => { w with
      rq := if leadIx7 f.b.toNat f.lit.isSome = .rq then w.rq.tail else w.rq
      dq := w.dq ++ [BitVec.ofNat 32 (s.w.leadVal f.lit (leadIx7 f.b.toNat f.lit.isSome))]
      leadPc := w.leadPc + 4 * baWords f })) := by
  have hpop (w : Wave) (x : LeadIx) : w.popRq [x] = { w with rq := if x = .rq then w.rq.tail else w.rq } := by
    simp [popRq_eq, eq_comm]
  have hfull : s.w.dqFull = false := by simpa [Wave.dqFull] using hroom
  simp only [dqpushBody, hready, hfull, hcheck, State.advance_of_lead (s := s.modW _) hst, State.modW_modW, hpop, bind, Except.bind]
  rfl

theorem queuePushOrder : QueuePushOrder := fun _ _ h hl hready hroom hcheck =>
  ends_of_modW _ h rfl hl (dqpushBody_ok (stream_of_issues h) hready hroom hcheck)

/-- Settles O13: the jumps by their bodies, SBRC and SLOOP by `State.condBranch_eq`, DQPUSH by `dqpushBody_ok`. -/
theorem leadControlFlow : Obligations.LeadControlFlow := ⟨leadJumps, leadConditionalBranches, queuePushOrder⟩

end Sys2Proof.Machine
end

section
/-! Registers moved between a wave and its block's reserve, and the abort lines (07 R185, R186; 02 R35, R36, R42 to R44; 04
R97). -/
namespace Sys2Proof.Machine
open Sys2Proof.Claims

/-! ## Granules given away and taken (04 R97) -/

theorem mapGet_mapClear {β : Type} (d : β) (m : List (Nat × β)) (lo n k : Nat) :
    mapGet d (mapClear m lo n) k = if lo ≤ k ∧ k < lo + n then d else mapGet d m k := by
  induction m with
  | nil => simp [mapClear, mapGet]
  | cons x rest ih =>
    obtain ⟨j, v⟩ := x
    unfold mapClear at ih ⊢
    rw [List.filter_cons]
    by_cases hj : j < lo ∨ lo + n ≤ j
    · rw [if_pos (by simpa using hj)]
      simp only [mapGet, ih]
      split
      · next h => rw [if_neg (by omega)]
      · rfl
    · rw [if_neg (by simpa using hj), ih]
      simp only [mapGet]
      split
      · rfl
      · next h => rw [if_neg (by omega)]

/-- A wave whose lane registers are those of `w`, but for the granules from `lo` to `lo + n`, which are cleared. -/
theorem getV_of_cleared {w w' : Wave} {lo n : Nat} (hv : w'.v = mapClear w.v (64 * 8 * lo) (64 * 8 * n)) (r : Nat) {l : Nat}
    (hl : l < 64) : w'.getV r l = if 8 * lo ≤ r ∧ r < 8 * (lo + n) then 0 else w.getV r l := by
  have hkey : (64 * 8 * lo ≤ 64 * r + l ∧ 64 * r + l < 64 * 8 * lo + 64 * 8 * n) ↔ 8 * lo ≤ r ∧ r < 8 * (lo + n) := by omega
  simp only [Wave.getV, hv, mapGet_mapClear, hkey]
  split <;> rfl

/-- What giving n granules away leaves of a wave (04 R97; 08 R190). -/
def Wave.Gave (w w' : Wave) (n : Nat) : Prop :=
  w'.g = w.g - n
    ∧ (∀ r l, l < 64 → w'.getV r l = if n ≠ 0 ∧ 8 * (w.g - n) ≤ r ∧ r < 8 * w.g then 0 else w.getV r l)
    ∧ (∀ x, x ∈ w'.sect ↔ x ∈ w.sect ∧ (n = 0 ∨ x < 8 * (w.g - n)))
    ∧ w'.s = w.s ∧ w'.kreg = w.kreg ∧ w'.exec = w.exec

theorem Wave.gave_zero (w : Wave) : w.Gave w 0 := ⟨rfl, by simp, by simp, rfl, rfl, rfl⟩

theorem Wave.gave_shrink (w : Wave) {n : Nat} (hn : n ≠ 0) (hle : n ≤ w.g) : w.Gave (w.shrink (w.g - n)) n := by
  refine ⟨rfl, fun r l hl => ?_, fun x => by simp [Wave.shrink, hn], rfl, rfl, rfl⟩
  rw [getV_of_cleared (w := w) rfl r hl, show w.g - n + (w.g - (w.g - n)) = w.g by omega]
  simp only [hn, ne_eq, not_false_eq_true, true_and]

/-! ## The reserve of a block on a core (02 R36) -/

theorem State.reserve_of {s : State} {k : BKey} {core : Nat} {b : Block} {g : CoreSeg} (hb : s.block? k = some b)
    (hg : b.segs.find? (fun g => g.core == core) = some g) : s.reserve k core = g.reserve := by
  simp [State.reserve, hb, hg]

theorem State.reserve_congr {s t : State} (h : t.blocks = s.blocks) (k : BKey) (core : Nat) :
    t.reserve k core = s.reserve k core := by
  simp only [State.reserve, State.block?, h]

theorem State.block?_of_nodup {s : State} {b : Block} (hb : b ∈ s.blocks) (hn : (s.blocks.map (fun b => b.key)).Nodup) :
    s.block? b.key = some b := by
  obtain ⟨c, hc⟩ : ∃ c, s.block? b.key = some c := Option.isSome_iff_exists.mp (List.find?_isSome.mpr ⟨b, hb, by simp⟩)
  rw [hc, List.inj_on_of_nodup_map hn (List.mem_of_find?_eq_some hc) hb (State.key_of_block? hc)]

theorem State.block?_modSeg {s : State} {k : BKey} {b : Block} (core : Nat) (f : CoreSeg → CoreSeg) (hb : s.block? k = some b) :
    (s.modSeg k core f).block? k = some { b with segs := b.segs.map (fun g => if g.core = core then f g else g) } := by
  rw [State.modSeg, State.block?_modBlock, hb]
  · rfl
  · exact fun _ => rfl

/-- Granules added to the reserve of a block that holds a part of the core. -/
theorem State.reserve_modSeg_add {s : State} {k : BKey} {b : Block} {core : Nat} (m : Nat) (hb : s.block? k = some b)
    (hseg : b.segs.any (fun g => g.core == core) = true) :
    (s.modSeg k core (fun g => { g with reserve := g.reserve + m })).reserve k core = s.reserve k core + m := by
  obtain ⟨g, hg⟩ : ∃ g, b.segs.find? (fun g => g.core == core) = some g := by
    rw [← Option.isSome_iff_exists, List.find?_isSome]
    simpa using hseg
  have hsegs := find?_map_ite b.segs (fun g => g.core == core) (fun g => g.core = core)
    (fun g => { g with reserve := g.reserve + m }) (by simp) (fun _ h => h)
  rw [hg] at hsegs
  rw [State.reserve_of hb hg, State.reserve_of (State.block?_modSeg core _ hb) hsegs]

/-- The parked claims depend on the waves' statuses and places alone. -/
theorem State.claims_congr {s t : State} (hw : t.waves = s.waves) (hs : t.w.status = s.w.status) (hk : t.w.key = s.w.key)
    (hc : t.w.core = s.w.core) (hslot : t.w.slot = s.w.slot) (k : BKey) (core : Nat) : t.claims k core = s.claims k core := by
  simp only [State.claims, State.allWaves, List.filterMap_cons, hw, hs, hk, hc, hslot]

/-! ## VGIVE (07 R185) -/

/-- The granules that the operand of VGIVE or VCLAIM names. -/
def granuleCount (f : BaF) (s : State) : Nat := s.w.leadVal f.lit (leadIx7 f.b.toNat f.lit.isSome)

/-- The state of VGIVE: the wave without its top granules and past the instruction, and the reserve that holds them. -/
def vgiveAfter (f : BaF) (s : State) : State :=
  (s.modW (fun w => { w.shrink (w.g - granuleCount f s) with leadPc := w.leadPc + 4 * baWords f })).modSeg s.w.key s.w.core
    (fun g => { g with reserve := g.reserve + s.w.granules (granuleCount f s) })

theorem vgiveBody_zero {f : BaF} {s : State} (hst : s.st = .lead)
    (hok : s.leadOk [leadIx7 f.b.toNat f.lit.isSome] [] = .ok ()) (hn : granuleCount f s = 0) :
    vgiveBody f s = .ok (s.modW (fun w => { w with leadPc := w.leadPc + 4 * baWords f })) := by
  simp only [vgiveBody, hok, ← granuleCount.eq_1, hn, State.advance_of_lead hst, bind, Except.bind, if_true]

theorem vgiveBody_pos {f : BaF} {s : State} (hst : s.st = .lead)
    (hok : s.leadOk [leadIx7 f.b.toNat f.lit.isSome] [] = .ok ()) (hn : granuleCount f s ≠ 0) (hg : granuleCount f s < s.w.g)
    (hclaims : s.claims s.w.key s.w.core = []) : vgiveBody f s = .ok (vgiveAfter f s) := by
  have hafter : (vgiveAfter f s).claims s.w.key s.w.core = [] := (State.claims_congr (s := s) rfl rfl rfl rfl rfl _ _).trans hclaims
  have hserve : (vgiveAfter f s).serveClaims s.w.key s.w.core ((vgiveAfter f s).claims s.w.key s.w.core) = vgiveAfter f s := by
    rw [hafter, State.serveClaims]
  simp only [vgiveBody, hok, ← granuleCount.eq_1, if_neg hn, if_neg (Nat.not_le.mpr hg), State.advance_of_lead (s := s.modW _) hst,
    bind, Except.bind]
  exact congrArg Except.ok hserve

/-- What a VGIVE leaves: its wave, memory and the reserve of its block. -/
theorem vgive_leaves {f : BaF} {s : State} (h : Issues s .lead 1) (hl : legalB 64 countIx f = none)
    (hok : s.leadOk [leadIx7 f.b.toNat f.lit.isSome] [] = .ok ()) (hg : granuleCount f s < s.w.g)
    (hclaims : s.claims s.w.key s.w.core = []) :
    ∃ t, Ends (.vgive f) s t 1 ∧ s.w.Gave t.w (granuleCount f s) ∧ t.w.leadPc = s.w.leadPc + 4 * baWords f ∧ t.mem = s.mem
      ∧ ∀ b, s.block? s.w.key = some b → b.segs.any (fun g => g.core == s.w.core) = true →
        t.reserve s.w.key s.w.core = s.reserve s.w.key s.w.core + s.w.granules (granuleCount f s) := by
  have hst := stream_of_issues h
  by_cases hn : granuleCount f s = 0
  · refine ⟨_, ends_of_modW (vgiveBody f) h rfl hl (vgiveBody_zero hst hok hn), ?_, rfl, rfl, fun b _ _ => ?_⟩
    · rw [hn]
      exact s.w.gave_zero
    · have hnone : s.w.granules 0 = 0 := by simp [Wave.granules]
      rw [hn, hnone]
      rfl
  · refine ⟨_, ends_of_body (vgiveBody f) h rfl hl (vgiveBody_pos hst hok hn hg hclaims)
      (notStalled_of_issues (s := s) h), s.w.gave_shrink hn hg.le,
      rfl, rfl, fun b hb hseg => State.reserve_modSeg_add _ hb hseg⟩

/-! ## VCLAIM (07 R185) -/

theorem claimBehind_iff (s : State) : s.claimBehind = true ↔
    (∃ p ∈ s.claims s.w.key s.w.core, p.1 < 64 * s.cycleOf s.w.core + s.w.slot)
      ∨ ∃ w ∈ s.waves, w.key = s.w.key ∧ w.core = s.w.core ∧ w.slot < s.w.slot ∧ w.tryLead = .ready := by
  simp only [State.claimBehind, Bool.or_eq_true, List.any_eq_true, Bool.and_eq_true, beq_iff_eq, decide_eq_true_eq,
    and_assoc]
  rfl

theorem vclaimBody_takes {f : BaF} {s : State} (hst : s.st = .lead)
    (hok : s.leadOk [leadIx7 f.b.toNat f.lit.isSome] [] = .ok ()) (hg : s.w.g + granuleCount f s ≤ 40)
    (hres : s.w.granules (granuleCount f s) ≤ s.reserve s.w.key s.w.core) (hfirst : s.claimBehind = false) :
    vclaimBody f s = .ok ((if granuleCount f s = 0 then s else s.modSeg s.w.key s.w.core
        (fun g => { g with reserve := g.reserve - s.w.granules (granuleCount f s) })).modW
      (fun w => { (if granuleCount f s = 0 then w else w.grow (granuleCount f s)) with leadPc := w.leadPc + 4 * baWords f })) := by
  simp only [vclaimBody, hok, ← granuleCount.eq_1, bind, Except.bind]
  by_cases hn : granuleCount f s = 0
  · simp only [hn, if_true, State.advance_of_lead hst]
  · have hcould : s.reserve s.w.key s.w.core ≤ s.couldHold := Nat.le_add_right _ _
    rw [if_neg hn, if_neg (by omega), if_neg (by simp [hfirst, hres])]
    simp only [hn, if_false, State.advance_of_lead (s := (s.modSeg _ _ _).modW _) hst]
    rfl

theorem vclaimBody_parks {f : BaF} {s : State} (hok : s.leadOk [leadIx7 f.b.toNat f.lit.isSome] [] = .ok ())
    (hn : granuleCount f s ≠ 0) (hg : s.w.g + granuleCount f s ≤ 40) (hcould : s.w.granules (granuleCount f s) ≤ s.couldHold)
    (hwait : s.reserve s.w.key s.w.core < s.w.granules (granuleCount f s) ∨ s.claimBehind = true) :
    vclaimBody f s = .ok (s.modW (fun w => { w with
      status := .parked (.vclaim (baWords f) (granuleCount f s) (64 * s.cycleOf s.w.core + s.w.slot)), parkCount := 0 })) := by
  simp only [vclaimBody, hok, ← granuleCount.eq_1, bind, Except.bind]
  rw [if_neg hn, if_neg (by omega), if_pos hwait]
  rfl

/-! ## Claims served after the issue slots of a cycle (07 R185) -/

section
variable {s : State} {c q slot len n : Nat} {b : Block} {w : Wave} (hb : s.blocks = [b])
  (hclaims : s.claims b.key c = [(q, slot, len, n)]) (hw : s.wave? c slot = some w)
include hb hclaims hw

theorem coreClaims_of_room (h : w.granules n ≤ s.reserve b.key c) : s.coreClaims c =
    (s.modSeg b.key c (fun g => { g with reserve := g.reserve - w.granules n })).modWave c slot (fun w => w.claimed len n) := by
  simp only [State.coreClaims, hb, State.serveBlocks, hclaims, State.serveClaims, hw, if_neg (Nat.not_lt.mpr h)]

theorem coreClaims_of_short (h : s.reserve b.key c < w.granules n) : s.coreClaims c = s := by
  simp only [State.coreClaims, hb, State.serveBlocks, hclaims, State.serveClaims, hw, if_pos h]

end

theorem registerRedivision : RegisterRedivision := by
  refine ⟨fun f s h hl hok hg hclaims => ?_,
    fun f s h hl hok hg hres hseq hlower => ⟨?_, rfl, fun r l hlt => getV_of_cleared rfl r hlt⟩,
    fun f s h hl hok hn hg hcould hwait => ?_,
    fun s c q slot len n b w hb hclaims hw => ⟨fun hroom => ?_, fun hshort => ?_⟩⟩
  · obtain ⟨t, ht, ⟨hgr, hv, hsect, hs, hk, he⟩, hpc, hmem, hres⟩ := vgive_leaves h hl hok hg hclaims
    refine ⟨t.issued 1, ht, ?_⟩
    rw [State.issued_w]
    refine ⟨hgr, hpc, hv, hsect, hs, hk, he, fun a => by rw [State.issued_mem, hmem], fun b hb hkey hseg hnodup => ?_⟩
    rw [State.reserve_congr (State.issued_blocks t 1)]
    exact hres b (hkey ▸ State.block?_of_nodup hb hnodup) hseg
  · refine ends_of_body (vclaimBody f) h rfl hl (vclaimBody_takes (stream_of_issues h) hok hg hres ?_) ?_
    · rw [← Bool.not_eq_true, claimBehind_iff]
      rintro (⟨p, hp, hlt⟩ | ⟨w, hw, hk, hc, hs, hready⟩)
      · exact Nat.not_lt.mpr (hseq p hp) hlt
      · exact hlower w hw hk hc hs hready
    · rw [State.modW_stalled]
      split <;> exact notStalled_of_issues (s := s) h
  · exact ends_of_modW (vclaimBody f) h rfl hl (vclaimBody_parks hok hn hg hcould (hwait.imp_right (claimBehind_iff s).mpr))
  · exact congrArg Host.Outcome.next (coreClaims_of_room hb hclaims hw hroom)
  · exact congrArg Host.Outcome.next (coreClaims_of_short hb hclaims hw hshort)

/-! ## ABORT (02 R42; 07 R186) -/

theorem sampleParked_stalled (s : State) (l : List Wave) : (s.sampleParked l).stalled = s.stalled := by
  induction l generalizing s with
  | nil => rfl
  | cons w rest ih =>
    rw [State.sampleParked, ih]
    split
    · rw [State.modWave_frame]
      rfl
    · rfl

theorem raiseAbort_stalled (s : State) (g f : Nat) : (s.raiseAbort g f).stalled = s.stalled := sampleParked_stalled _ _

section
variable {s : State} (hst : s.st = .lead)
include hst

theorem abortBody_of_noFamily (h : s.family s.w.key = none) :
    abortBody s = .ok (s.modW (fun w => { w with leadPc := w.leadPc + 4 })) := by
  simp only [abortBody, h, State.advance_of_lead hst]

theorem abortBody_of_raised {g a : Nat} (h : s.family s.w.key = some (g, a))
    (hr : (s.cluster g).abortLines.contains a = true) :
    abortBody s = .ok (s.modW (fun w => { w with leadPc := w.leadPc + 4 })) := by
  simp only [abortBody, h, hr, if_true, State.advance_of_lead hst]

theorem abortBody_of_lowered {g a : Nat} (h : s.family s.w.key = some (g, a))
    (hr : (s.cluster g).abortLines.contains a = false) :
    abortBody s = .ok ((s.modW (fun w => { w with leadPc := w.leadPc + 4 })).raiseAbort g a) := by
  simp only [abortBody, h, hr, State.advance_of_lead hst, Bool.false_eq_true, if_false]

end

/-! ## POLLABT (02 R43, R44; 07 R186) -/

/-- An issue that changes its wave alone, wherever its PC goes. -/
theorem onlyWave_issued_modW (s : State) (f : Wave → Wave) (weight : Nat) (hm : (f s.w).mgmt = false)
    (hc : (f s.w).core = s.w.core) : OnlyWave s ((s.modW f).issued weight) weight := by
  have hstay : (s.modW f).advance 0 = s.modW f := by
    unfold State.advance
    cases (s.modW f).st <;> rfl
  exact hstay ▸ onlyWave_of_modW s f 0 weight hm hc

/-- A wave with an abort label that samples its line. -/
theorem sampleAbort_of_label {w : Wave} (h : w.k.abortPc ≠ 0) : w.sampleAbort = { w with
    status := .running, lq := [], dq := [], rq := [], stack := [], spill := 0, exec := w.allLanes, aborted := true
    yieldLead := 0, yieldLane := 0, sleepLead := none, sleepLane := none, parkCount := 0
    leadPc := w.k.abortPc, leadDone := false, lanePc := if w.laneDone then w.lanePc else heldPc } := if_neg h

theorem abortLines : AbortLines := by
  refine ⟨fun f s h hl => ⟨fun hf => ?_, fun g a hf hr => ?_, fun g a hf hr => ?_⟩,
    fun f s h hl => ⟨fun hr => ?_, fun hr hlab => ?_⟩⟩ <;>
    have hst := stream_of_issues h
  · exact ends_of_modW abortBody h rfl hl (abortBody_of_noFamily hst hf)
  · exact ends_of_modW abortBody h rfl hl (abortBody_of_raised hst hf hr)
  · exact ends_of_body abortBody h rfl hl (abortBody_of_lowered hst hf hr)
      ((raiseAbort_stalled _ g a).trans (notStalled_of_issues (s := s) h))
  · refine ends_of_modW pollabtBody h rfl hl ?_
    simp only [pollabtBody, hr, State.advance_of_lead hst, Bool.false_eq_true, if_false]
  · refine ⟨_, ends_of_modW (f := Wave.sampleAbort) pollabtBody h rfl hl (by simp only [pollabtBody, hr, if_true]), ?_⟩
    refine ⟨onlyWave_issued_modW s _ 1 ?_ ?_, ?_⟩
    · rw [sampleAbort_of_label hlab]
      exact notMgmt_of_issues (s := s) h
    · rw [sampleAbort_of_label hlab]
    · rw [State.issued_w, State.modW_w, sampleAbort_of_label hlab]
      exact ⟨rfl, rfl, rfl, rfl, rfl, rfl, rfl, rfl, rfl, fun hd => by simp [hd], rfl, rfl, rfl⟩

/-- Settles O14: VGIVE by `vgive_leaves`, VCLAIM and the claims served by their bodies, the abort forms by what a sampling
wave is left with. -/
theorem poolAndAbortForms : Obligations.PoolAndAbortForms := ⟨registerRedivision, abortLines⟩

end Sys2Proof.Machine
end

section
/-! What travels between cores and homes, and what reads of directory entries and L1 lines find after an update (10 R216 to
R221). -/
namespace Sys2Proof.Machine
open Sys2Proof.Claims

/-! ## Messages (10 R218) -/

@[simp] theorem State.send_w (s : State) (m : Msg) : (s.send m).w = s.w := rfl
@[simp] theorem State.send_waves (s : State) (m : Msg) : (s.send m).waves = s.waves := rfl
@[simp] theorem State.send_mem (s : State) (m : Msg) : (s.send m).mem = s.mem := rfl
@[simp] theorem State.send_dir (s : State) (m : Msg) : (s.send m).dir = s.dir := rfl
@[simp] theorem State.send_cores (s : State) (m : Msg) : (s.send m).cores = s.cores := rfl
@[simp] theorem State.send_core (s : State) (m : Msg) (c : Nat) : (s.send m).core c = s.core c := rfl
@[simp] theorem State.send_dirOf (s : State) (m : Msg) (l : Nat) : (s.send m).dirOf l = s.dirOf l := rfl

/-- The messages on their way, without their numbers. -/
def State.msgs (s : State) : List Msg := s.net.map (fun m => m.msg)

@[simp] theorem State.send_msgs (s : State) (m : Msg) : (s.send m).msgs = s.msgs ++ [m] := by
  simp [State.msgs, State.send, State.sendAfter]

@[simp] theorem State.modCore_msgs (s : State) (c : Nat) (f : Core → Core) : (s.modCore c f).msgs = s.msgs := rfl
@[simp] theorem State.modDir_msgs (s : State) (l : Nat) (f : DirEntry → DirEntry) : (s.modDir l f).msgs = s.msgs := rfl

/-! ## Directory entries and cores read back -/

theorem State.dirOf_modDir (s : State) (l k : Nat) (f : DirEntry → DirEntry) :
    (s.modDir l f).dirOf k = if k = l then f (s.dirOf l) else s.dirOf k := by
  simp [State.dirOf, State.modDir]

@[simp] theorem State.dirOf_modDir_self (s : State) (l : Nat) (f : DirEntry → DirEntry) :
    (s.modDir l f).dirOf l = f (s.dirOf l) := by
  rw [State.dirOf_modDir, if_pos rfl]

theorem State.dirOf_congr {s t : State} (h : t.dir = s.dir) (l : Nat) : t.dirOf l = s.dirOf l := by
  rw [State.dirOf, h, State.dirOf]

@[simp] theorem State.core_modCore_self (s : State) (c : Nat) (f : Core → Core) (h : c < s.cores.length) :
    (s.modCore c f).core c = f (s.core c) :=
  getD_modAt_self _ _ _ _ h

theorem State.core_congr {s t : State} (h : t.cores = s.cores) (c : Nat) : t.core c = s.core c := by
  rw [State.core, h, State.core]

@[simp] theorem State.modDir_core (s : State) (l c : Nat) (f : DirEntry → DirEntry) : (s.modDir l f).core c = s.core c := rfl

/-! ## Lines of an L1 (10 R216, R220) -/

theorem Core.line?_modLine_self (c : Core) (line : Nat) (f : L1Line → L1Line) (hf : ∀ x, (f x).line = x.line) :
    (c.modLine line f).line? line = (c.line? line).map f :=
  find?_map_ite c.l1 _ _ f (by simp) (fun x hx => (hf x).trans hx)

theorem Core.line?_eq_none {c : Core} {line : Nat} : c.line? line = none ↔ ∀ x ∈ c.l1, x.line ≠ line := by
  simp [Core.line?]

@[simp] theorem Core.line?_dropLine_self (c : Core) (line : Nat) : (c.dropLine line).line? line = none := by
  simp [Core.line?_eq_none, Core.dropLine]

theorem Core.line?_dropLine_of_none {c : Core} {line : Nat} (h : c.line? line = none) (k : Nat) :
    (c.dropLine k).line? line = none := by
  rw [Core.line?_eq_none] at h ⊢
  exact fun x hx => h x (List.mem_filter.mp hx).1

/-- A line put last is found where none was held before. -/
theorem Core.line?_append {c : Core} {line : Nat} (h : c.line? line = none) (x : L1Line) :
    ({ c with l1 := c.l1 ++ [x] } : Core).line? line = if x.line = line then some x else none := by
  unfold Core.line? at h ⊢
  rw [List.find?_append, h]
  by_cases hx : x.line = line <;> simp [hx]

/-! ## What a change of a core's lines leaves of the machine -/

/-- Only cores, and the messages that their lines send, differ. -/
def L1Only (s t : State) : Prop := t = { s with nextId := t.nextId, net := t.net, cores := t.cores }

theorem L1Only.trans {s t u : State} (h : L1Only s t) (h' : L1Only t u) : L1Only s u := by
  unfold L1Only at *; rw [h', h]

theorem L1Only.of_net {s t : State} {l : List NetMsg} (h : L1Only { s with net := l } t) : L1Only s t := h

section
variable {s t : State} (h : L1Only s t)
include h
theorem L1Only.w : t.w = s.w := by rw [h]
theorem L1Only.waves : t.waves = s.waves := by rw [h]
theorem L1Only.stalled : t.stalled = s.stalled := by rw [h]
theorem L1Only.dies : t.dies = s.dies := by rw [h]
theorem L1Only.mem : t.mem = s.mem := by rw [h]
theorem L1Only.dir : t.dir = s.dir := by rw [h]
theorem L1Only.memKept : MemKept s t := fun a => by rw [h.mem]
end

theorem l1Only_evict (s : State) (core : Nat) (x : L1Line) : L1Only s (s.evict core x) := by
  unfold State.evict
  cases x.st <;> rfl

theorem l1Only_makeRoom {s t : State} {core : Nat} (h : s.makeRoom core = some t) : L1Only s t := by
  unfold State.makeRoom at h
  split at h
  · cases h
    rfl
  · obtain ⟨x, -, rfl⟩ := Option.map_eq_some_iff.mp h
    exact l1Only_evict s core x

theorem l1Only_partialLine {s t : State} {core line : Nat} (h : s.partialLine core line = some t) : L1Only s t := by
  unfold State.partialLine at h
  split at h
  · split at h <;> cases h <;> rfl
  · obtain ⟨u, hu, rfl⟩ := Option.map_eq_some_iff.mp h
    exact (l1Only_makeRoom hu).trans rfl

theorem l1Only_tlbFill (s : State) (core va : Nat) : L1Only s (s.tlbFill core va) := by
  unfold State.tlbFill
  split <;> rfl

theorem l1Only_tlbFills (s : State) (l : List Acc) : L1Only s (s.tlbFills l) := by
  induction l generalizing s with
  | nil => rfl
  | cons a rest ih =>
    refine L1Only.trans ?_ (ih _)
    split
    · rfl
    · exact l1Only_tlbFill s _ _

/-! ## An acquire (10 R219) -/

theorem l1Only_dropMarked (s : State) (core : Nat) (ls : List L1Line) : L1Only s (s.dropMarked core ls) := by
  induction ls generalizing s with
  | nil => rfl
  | cons x rest ih => exact L1Only.trans (by rfl) (ih _)

theorem l1Only_overlayAll (s : State) (core : Nat) (ls : List L1Line) : L1Only s (s.overlayAll core ls) := by
  induction ls generalizing s with
  | nil => rfl
  | cons x rest ih =>
    refine L1Only.trans ?_ (ih _)
    split <;> rfl

theorem l1Only_acquire (s : State) (core : Nat) : L1Only s (s.acquire core) :=
  (l1Only_dropMarked s core _).trans (L1Only.trans (by rfl) (l1Only_overlayAll _ core _))

end Sys2Proof.Machine
end

section
/-! CADD: the words of a core's partials (10 R220, R224; 11 R247). -/
namespace Sys2Proof.Machine
open Sys2Proof.Claims

/-! ## Bytes of a word written into a line -/

theorem leValue_leBytes (v n : Nat) : leValue (leBytes v n) = v % 256 ^ n := by
  induction n generalizing v with
  | zero => simp [leBytes, leValue, Nat.mod_one]
  | succ n ih =>
    have hbyte : (BitVec.ofNat 8 v).toNat = v % 256 := BitVec.toNat_ofNat v 8
    rw [leBytes, leValue, ih, hbyte, Nat.shiftRight_eq_div_pow, show 2 ^ 8 = 256 from rfl, Nat.pow_succ',
      Nat.mod_mul]

/-- Bytes laid one after the other over as many bytes of a line, which starts with `a` and ends with `d`. -/
theorem overBytes_zipIdx (off k : Nat) (a d : List Byte) (bs old : List Byte) (ha : a.length = off + k)
    (hold : old.length = bs.length) :
    overBytes (a ++ old ++ d) ((bs.zipIdx k).map (fun p => (off + p.2, p.1))) = a ++ bs ++ d := by
  induction bs generalizing a old k with
  | nil => simp [overBytes, List.length_eq_zero_iff.mp hold]
  | cons b rest ih =>
    obtain ⟨o, old, rfl⟩ := List.exists_cons_of_length_eq_add_one hold
    have hset : setAt (a ++ o :: old ++ d) (off + k) b = a ++ [b] ++ old ++ d := by
      simp [setAt_eq_set, ← ha]
    rw [List.zipIdx_cons, List.map_cons, overBytes, hset,
      ih (k + 1) (a ++ [b]) old (by simp [ha, Nat.add_assoc]) (Nat.succ.inj hold)]
    simp

/-- The word read back where a word was laid over a line. -/
theorem L1Line.bytes_combine (x : L1Line) (fmt op : Nat) (c : NanCtx) (off v : Nat) (h : off + 4 ≤ x.data.length) :
    leValue ((x.combine fmt op c off v).bytes off 4) =
      (if bit x.touched (off / 4) then combineWord fmt op c (leValue (x.bytes off 4)) v else v) % 2 ^ 32 := by
  have hover (y : Nat) : ((overBytes x.data ((leBytes y 4).zipIdx.map (fun p => (off + p.2, p.1)))).drop off).take 4 =
      leBytes y 4 := by
    have hsplit : x.data = x.data.take off ++ (x.data.drop off).take 4 ++ x.data.drop (off + 4) := by
      rw [List.append_assoc, ← List.drop_drop, List.take_append_drop, List.take_append_drop]
    have htake : (x.data.take off).length = off := List.length_take_of_le (by omega)
    conv_lhs => rw [hsplit, overBytes_zipIdx off 0 _ _ _ _ htake (by simp; omega), List.append_assoc, List.drop_left' htake]
    simp
  rw [L1Line.bytes, L1Line.combine, hover, leValue_leBytes]
  rfl

/-! ## A memory form that ends with its body (11 R238) -/

/-- The operation of a form that has finished at issue: its wave counts it, and nothing else of the wave changes (16 R366). -/
theorem State.doneOp_frame (s : State) (cls : OpCls) (tinfo : Nat) : s.doneOp cls tinfo = { s with
    nextId := s.nextId + 1
    w := { s.w with ops := (s.doneOp cls tinfo).w.ops, deferred := (s.doneOp cls tinfo).w.deferred } } := by
  have hw (o : Op) (f : Wave → Wave) : (s.addOp o).modWave s.w.core s.w.slot f = (s.addOp o).modW f := if_pos ⟨rfl, rfl⟩
  simp only [State.doneOp, State.modOp, hw]
  rfl

/-- What a lane memory form leaves of its wave before the issue is counted. -/
def LaneMemBody (s b : State) (words : Nat) (pops : List Nat) : Prop :=
  b = { s with w := b.w, cores := b.cores, net := b.net, nextId := b.nextId }
    ∧ b.w = { s.w with
        v := b.w.v, sect := b.w.sect, ops := b.w.ops, deferred := b.w.deferred, dirty := b.w.dirty
        lq := if pops.contains 320 then s.w.lq.tail else s.w.lq
        dq := if pops.contains 321 then s.w.dq.tail else s.w.dq
        lanePc := s.w.lanePc + 4 * words }

/-- The issue of such a form is posted, is charged and leaves its frame. -/
theorem LaneMemBody.issued {s b : State} {words weight : Nat} {pops : List Nat} (h : LaneMemBody s b words pops)
    (hst : s.st = .lane) (hm : s.w.mgmt = false) :
    Posted s (b.issued weight) ∧ Charged s (b.issued weight) weight ∧ LaneMemFrame s (b.issued weight) words pops
      ∧ (b.issued weight).w.v = b.w.v ∧ (b.issued weight).w.sect = b.w.sect ∧ (b.issued weight).cores = b.cores := by
  obtain ⟨hb, hw⟩ := h
  have hmb : b.w.mgmt = false := by rw [hw]; exact hm
  have hcb : b.w.core = s.w.core := by rw [hw]
  have hstb : b.st = .lane := by rw [hb]; exact hst
  have hissued : b.issued weight = { b with w := (b.issued weight).w, clusters := (b.charge s.w.core weight).clusters } := by
    rw [← hcb, State.issued, State.billed, hmb]
    rfl
  have hposted : b.issued weight = { s with
      w := (b.issued weight).w, clusters := (s.charge s.w.core weight).clusters, cores := b.cores, net := b.net,
      nextId := b.nextId } := by
    rw [hb] at hissued
    rw [hb]
    exact hissued
  refine ⟨⟨?_, fun a => ?_⟩, ?_, ?_, ?_, ?_, ?_⟩
  · rw [hposted]
  · rw [hposted]
  · rw [Charged, hposted]
  · rw [LaneMemFrame, State.issued_w, hstb, hw]
    rfl
  · rw [State.issued_w]
  · rw [State.issued_w]
  · rw [hposted]

/-! ## CADD (11 R247) -/

theorem State.counterRoom_of_lt {s : State} {c : OpCls} (h : s.w.counter c < c.max) : s.counterRoom c = .ok () :=
  if_neg (Nat.not_le.mpr h)

theorem State.line?_tlbFills (s : State) (l : List Acc) (c line : Nat) :
    ((s.tlbFills l).core c).line? line = (s.core c).line? line := by
  induction l generalizing s with
  | nil => rfl
  | cons a rest ih =>
    refine (ih _).trans ?_
    split
    · rfl
    · rw [(State.tlbFill_frame s _ _).2 c]
      rfl

theorem State.tlbFills_cores_length (s : State) (l : List Acc) : (s.tlbFills l).cores.length = s.cores.length := by
  induction l generalizing s with
  | nil => rfl
  | cons a rest ih =>
    refine (ih _).trans ?_
    split
    · rfl
    · unfold State.tlbFill
      split
      · exact modAt_length _ _ _
      · rfl

theorem State.rangeAt_congr {s t : State} (h : t.dies = s.dies) (va n : Nat) : t.rangeAt va n = s.rangeAt va n := by
  simp only [State.rangeAt, State.ranges, State.die, h]

theorem l1Only_caddLanes {s t : State} {val : Nat → Nat} {pc : Nat} {l : List Acc} (h : s.caddLanes val pc l = .ok t) :
    L1Only s t := by
  induction l generalizing s with
  | nil =>
    cases h
    rfl
  | cons a rest ih =>
    rw [State.caddLanes] at h
    split at h
    next d i r s' _ hp => exact (l1Only_partialLine hp).trans (L1Only.trans (by rfl) (ih h))
    next => cases h

/-- One lane whose line the core holds in state C. -/
theorem State.caddLanes_one {s : State} {val : Nat → Nat} {pc d i : Nat} {a : Acc} {x : L1Line} {r : CRange}
    (hx : (s.core s.w.core).line? (lineOf a.pa) = some x) (hc : x.st = .c) (hr : s.rangeAt a.va 4 = some (d, i, r)) :
    s.caddLanes val pc [a] = .ok (s.modCore s.w.core (fun c => c.modLine (lineOf a.pa) (fun x =>
      x.combine r.fmt r.op (nanAt pc a.lane) (a.pa - lineOf a.pa) (val a.lane)))) := by
  simp only [State.caddLanes, hr, State.partialLine, hx, hc, if_true]

theorem caddBody_ok {f : XmF} {s s' : State} {l : List Acc} :
    let act := s.w.voters (s.w.active f.kmask.toNat)
    let srcs := wideSrc f.a9.toNat 2 ++ [f.b9.toNat]
    s.st = .lane → s.laneReady srcs [] = .ok () → s.w.counter .laneSt < 63 → s.regCheck act (vRegs srcs) = .ok () →
    s.checkAccess true 2 4 4 (lanesEa s.w act (eaBase f)) = .ok l →
    (∀ a ∈ l, ∃ d i r, s.rangeAt a.va 4 = some (d, i, r) ∧ r.active = true) →
    (s.tlbFills l).caddLanes (fun k => s.w.src f.lit f.b9.toNat k) s.w.lanePc l = .ok s' →
    caddBody f s = .ok (((s'.doneOp .laneSt (tinfoOf (.cadd f))).modW (fun w => w.popUsed srcs)).advance (xmWords f)) := by
  intro act srcs hst hready hroom hreg hacc hopen hlanes
  have hbad : l.filter (fun a => (s.rangeAt a.va 4).isNone) = [] := by
    rw [List.filter_eq_nil_iff]
    intro a ha
    obtain ⟨d, i, r, hr, -⟩ := hopen a ha
    simp [hr]
  have hwait : l.any (fun a => match s.rangeAt a.va 4 with | some (_, _, r) => !r.active | none => false) = false := by
    rw [List.any_eq_false]
    intro a ha
    obtain ⟨d, i, r, hr, hact⟩ := hopen a ha
    simp [hr, hact]
  have hpc : s.pc = s.w.lanePc := by rw [State.pc, hst, Wave.pcOf_lane]
  rw [caddBody]
  simp only [bind, Except.bind, srcs, act] at hready hreg hacc ⊢
  simp only [hready, State.counterRoom_of_lt (c := .laneSt) hroom, hreg, hacc, hbad, hpc, hlanes]
  exact if_neg (by rw [Bool.not_eq_true]; exact hwait)

theorem caddBody_frame {s s' : State} (h : L1Only s s') (hst : s.st = .lane) (tinfo words : Nat) (pops : List Nat) :
    let b := ((s'.doneOp .laneSt tinfo).modW (fun w => w.popUsed pops)).advance words
    LaneMemBody s b words pops ∧ b.stalled = s.stalled ∧ b.w.v = s.w.v ∧ b.w.sect = s.w.sect ∧ b.cores = s'.cores := by
  intro b
  have hb : b = ((s'.doneOp .laneSt tinfo).modW (fun w => w.popUsed pops)).modW
      (fun w => { w with lanePc := w.lanePc + 4 * words }) := by
    have hst' : ((s'.doneOp .laneSt tinfo).modW (fun w => w.popUsed pops)).st = .lane := by
      rw [State.doneOp_frame, h]
      exact hst
    simp only [b]
    rw [State.advance, hst']
    rfl
  rw [State.doneOp_frame, h] at hb
  rw [hb]
  simp only [popUsed_eq]
  exact ⟨⟨rfl, rfl⟩, rfl, rfl, rfl, rfl⟩

/-- The word of a line held in state C after the CADD of one lane. -/
theorem cadd_oneWord {s s' : State} {val : Nat → Nat} {pc d i : Nat} {a : Acc} {x : L1Line} {r : CRange}
    (hx : (s.core s.w.core).line? (lineOf a.pa) = some x) (hc : x.st = .c) (hcore : s.w.core < s.cores.length)
    (hr : s.rangeAt a.va 4 = some (d, i, r)) (hlen : x.data.length = 128) (halign : a.pa % 4 = 0)
    (h : (s.tlbFills [a]).caddLanes val pc [a] = .ok s') :
    ∃ y, (s'.core s.w.core).line? (lineOf a.pa) = some y ∧ leValue (y.bytes (a.pa - lineOf a.pa) 4) =
      (if bit x.touched ((a.pa - lineOf a.pa) / 4) then
        combineWord r.fmt r.op (nanAt pc a.lane) (leValue (x.bytes (a.pa - lineOf a.pa) 4)) (val a.lane) % 2 ^ 32
      else val a.lane % 2 ^ 32) := by
  have hfill : L1Only s (s.tlbFills [a]) := l1Only_tlbFills s [a]
  have hx' : ((s.tlbFills [a]).core s.w.core).line? (lineOf a.pa) = some x := by rw [State.line?_tlbFills, hx]
  rw [State.caddLanes_one (by rw [hfill.w, hx']) hc ((State.rangeAt_congr hfill.dies _ _).trans hr), hfill.w] at h
  cases h
  refine ⟨x.combine r.fmt r.op (nanAt pc a.lane) (a.pa - lineOf a.pa) (val a.lane), ?_, ?_⟩
  · rw [State.core_modCore_self _ _ _ (by rw [State.tlbFills_cores_length]; exact hcore),
      Core.line?_modLine_self _ _ (fun x => x.combine _ _ _ _ _) (fun _ => rfl), hx']
    rfl
  · rw [L1Line.bytes_combine _ _ _ _ _ _ (by rw [hlen, lineOf]; omega)]
    split <;> rfl

theorem commutativeAdds : CommutativeAdds := by
  intro f s s' l act srcs h hl hready hroom hreg hacc hopen hlanes
  have hst : s.st = .lane := stream_of_issues h
  have hframe : L1Only s s' := (l1Only_tlbFills s l).trans (l1Only_caddLanes hlanes)
  obtain ⟨hbody, hstall, hv, hsect, hcores⟩ := caddBody_frame hframe hst (tinfoOf (.cadd f)) (xmWords f) srcs
  obtain ⟨hposted, hcharged, hmem, hv', hsect', hcores'⟩ := hbody.issued (weight := 16) hst (notMgmt_of_issues h)
  have hexec : exec (.cadd f) s = .next ((((s'.doneOp .laneSt (tinfoOf (.cadd f))).modW
      (fun w => w.popUsed srcs)).advance (xmWords f)).issued 16) := by
    refine (show exec (.cadd f) s = s.issue (.cadd f) (some .lane) f.kmask.toNat 16 (legalCadd f) (caddBody f) from rfl).trans ?_
    rw [hl]
    exact issue_of_body h rfl (caddBody_ok hst hready hroom hreg hacc hopen hlanes) (hstall.trans (notStalled_of_issues h))
  refine ⟨_, hexec, hposted, hcharged, hmem, hv'.trans hv, hsect'.trans hsect, hcores'.trans hcores, ?_⟩
  rintro a x d i r rfl hx hc hcore hr hlen halign
  obtain ⟨y, hy, hval⟩ := cadd_oneWord hx hc hcore hr hlen halign hlanes
  exact ⟨y, by rw [State.core_congr (hcores'.trans hcores), hy], hval⟩

end Sys2Proof.Machine
end

section
/-! The range forms and the phase forms, and what they do while they hold their stream (11 R252 to R254; 10 R221). -/
namespace Sys2Proof.Machine
open Sys2Proof.Claims

/-! ## Forms that hold the lead stream (11 R253, R254) -/

theorem State.turn_hold {s s' : State} {c slot : Nat} (h : s.focus c slot .lead = some s') :
    s.turn (.hold c slot) = .next s'.holdStep := by
  rw [State.turn, h]

theorem State.holdStep_opening {s : State} {die i d : Nat} (h : s.w.holding = some (.opening die i d)) :
    s.holdStep = s.crangeOpening die i d := by
  rw [State.holdStep, h]

theorem State.holdStep_closing {s : State} {die i d : Nat} (h : s.w.holding = some (.closing die i d)) :
    s.holdStep = s.crangeClosing die i d := by
  rw [State.holdStep, h]

theorem State.holdStep_phase {s : State} {scope : Nat} {after : List Nat} {acq : Bool}
    (h : s.w.holding = some (.phase scope after acq)) : s.holdStep = s.phaseActs scope after acq := by
  rw [State.holdStep, h]

/-! ## CRANGE open (11 R252, R253) -/

section
variable {f : XmF} {s : State} (hc : s.crangeCheck f = .ok ())
include hc

theorem crangeBegin_tooHigh (hend : crangeBase f s.w + crangeLen f s.w > 2 ^ 47) :
    s.crangeBegin f = .error (.trap causeProt 0 (crangeBase f s.w) (protDetail 2)) := by
  simp only [State.crangeBegin, hc, bind, Except.bind, if_pos hend]

variable {pages : List Nat} (hend : crangeBase f s.w + crangeLen f s.w ≤ 2 ^ 47)
  (hxl : s.crangeXl (crangePages (crangeBase f s.w) (crangeLen f s.w)) = .ok pages)
include hend hxl

theorem crangeBegin_full
    (hfree : (s.die (s.homeOf (dieOf s.w.core) (pages.getD 0 0))).ranges.findIdx? (fun r => !r.valid) = none) :
    s.crangeBegin f = .ok ((s.crangeIssued f none).crangeDone f.d9.toNat 1) := by
  simp only [State.crangeBegin, hc, bind, Except.bind, if_neg (Nat.not_lt.mpr hend), hxl, hfree]

/-- With a free entry, an open range in the way decides. -/
theorem crangeBegin_free {i : Nat}
    (hfree : (s.die (s.homeOf (dieOf s.w.core) (pages.getD 0 0))).ranges.findIdx? (fun r => !r.valid) = some i) :
    s.crangeBegin f = if s.ranges.any (fun p => p.2.2.valid && decide (crangeBase f s.w < p.2.2.base + p.2.2.len
        ∧ p.2.2.base < crangeBase f s.w + crangeLen f s.w)) = true then .ok ((s.crangeIssued f none).crangeDone f.d9.toNat 2)
      else .ok ((s.modRange (s.homeOf (dieOf s.w.core) (pages.getD 0 0)) i (fun _ =>
        { valid := true, fmt := crangeFmt f, op := crangeOp f, closing := false, len := crangeLen f s.w
          base := crangeBase f s.w, active := false, pages := pages })).crangeIssued f
        (some (.opening (s.homeOf (dieOf s.w.core) (pages.getD 0 0)) i f.d9.toNat))) := by
  simp only [State.crangeBegin, hc, bind, Except.bind, if_neg (Nat.not_lt.mpr hend), hxl, hfree]

end

/-! ## Range-open notices (10 R221) -/

theorem l1Only_sendNotices (s : State) (l : List (Nat × Nat)) : L1Only s (s.sendNotices l) := by
  induction l generalizing s with
  | nil => rfl
  | cons p rest ih =>
    obtain ⟨c, line⟩ := p
    rw [State.sendNotices]
    refine L1Only.trans ?_ (ih _)
    split <;> rfl

theorem net_subset_sendNotices (s : State) (l : List (Nat × Nat)) : s.net ⊆ (s.sendNotices l).net := by
  induction l generalizing s with
  | nil => exact List.Subset.refl _
  | cons p rest ih =>
    obtain ⟨c, line⟩ := p
    rw [State.sendNotices]
    refine List.Subset.trans ?_ (ih _)
    split
    · exact List.Subset.refl _
    · exact List.subset_append_left _ _

/-- Each sharer's notice is on its way, or its reply. -/
theorem notice_of_sendNotices (s : State) {l : List (Nat × Nat)} {c line : Nat} (h : (c, line) ∈ l) :
    ∃ n ∈ (s.sendNotices l).net, n.msg = .notice c line ∨ n.msg = .noticeReply c line := by
  induction l generalizing s with
  | nil => simp at h
  | cons p rest ih =>
    rcases List.mem_cons.mp h with rfl | h
    · rw [State.sendNotices]
      split
      next hout =>
        obtain ⟨n, hn, hm⟩ := List.any_eq_true.mp hout
        refine ⟨n, net_subset_sendNotices _ _ hn, ?_⟩
        split at hm
        · simp_all
        · simp_all
        · cases hm
      next =>
        exact ⟨_, net_subset_sendNotices _ _ (List.mem_append_right _ (List.mem_singleton_self _)), .inl rfl⟩
    · exact ih _ h

/-! ## The later steps of an open (11 R253) -/

/-- The sharers of the lines of a range, each with its line. -/
def State.rangeSharers (s : State) (r : CRange) : List (Nat × Nat) :=
  (s.dir.filter (fun p => r.spansLine p.1)).flatMap (fun p => p.2.sharers.map (fun c => (c, p.1)))

theorem State.mem_rangeSharers {s : State} {r : CRange} {c line : Nat} :
    (c, line) ∈ s.rangeSharers r ↔ ∃ p ∈ s.dir, r.spansLine p.1 = true ∧ c ∈ p.2.sharers ∧ p.1 = line := by
  simp [State.rangeSharers, and_assoc]

section
variable {s : State} {die i d : Nat}

/-- An open that holds its stream waits for writes and for a migration, sends notices to copies, or makes its lines enter
state C. -/
theorem crangeOpening_eq : s.crangeOpening die i d =
    let r := (s.die die).ranges.getD i CRange.empty
    if (s.writesInFlight r || s.dies.any (fun d => d.migrating.any (fun p => r.pages.contains (p * 16384)))) = true then s
    else if s.rangeSharers r ≠ [] then s.sendNotices (s.rangeSharers r)
    else (s.modRange die i (fun r => { r with active := true })).crangeDone d 0 := rfl

end

/-! ## CRANGE close (11 R253) -/

/-- The entry that a close names: open, with its bounds, format and operation. -/
def CRange.named (r : CRange) (f : XmF) (w : Wave) : Bool :=
  r.valid && !r.closing && decide (r.base = crangeBase f w ∧ r.len = crangeLen f w ∧ r.fmt = crangeFmt f ∧ r.op = crangeOp f)

section
variable {f : XmF} {s : State} (hc : s.crangeCheck f = .ok ())
include hc

theorem crangeCloseBegin_unknown (h : s.ranges.find? (fun p => p.2.2.named f s.w) = none) :
    s.crangeCloseBegin f = .ok ((s.crangeIssued f none).crangeDone f.d9.toNat 2) := by
  simp only [CRange.named] at h
  simp only [State.crangeCloseBegin, hc, bind, Except.bind, h]

theorem crangeCloseBegin_known {die i : Nat} {r : CRange}
    (h : s.ranges.find? (fun p => p.2.2.named f s.w) = some (die, i, r)) :
    s.crangeCloseBegin f = if r.active = true then
      .ok ((s.modRange die i (fun r => { r with closing := true })).crangeIssued f (some (.closing die i f.d9.toNat)))
      else .error .stall := by
  simp only [CRange.named] at h
  simp only [State.crangeCloseBegin, hc, bind, Except.bind, h]
  cases r.active <;> rfl

end

/-- A close whose lines are all folded, with nothing of them on its way, frees its entry. -/
theorem crangeClosing_of_folded {s : State} {die i d : Nat} :
    let r := (s.die die).ranges.getD i CRange.empty
    (∀ p ∈ s.dir, r.holdsLine p.1 = true → p.2.clean = true) →
    s.net.any (fun n => match n.msg with | .holder _ l | .evicted _ l _ _ => r.holdsLine l | _ => false) = false →
    s.crangeClosing die i d = (s.modRange die i (fun r => { r with
      valid := false, closing := false, active := false, pages := [] })).crangeDone d 0 := by
  intro r hclean hlate
  have hls : (s.dir.filter (fun p => r.holdsLine p.1 && !p.2.clean)).map (fun p => p.1) = [] := by
    rw [List.map_eq_nil_iff, List.filter_eq_nil_iff]
    intro p hp h
    obtain ⟨hh, hn⟩ := Bool.and_eq_true_iff.mp h
    simp [hclean p hp hh] at hn
  unfold State.crangeClosing
  exact (if_neg (not_not.mpr hls)).trans (if_neg (Bool.eq_false_iff.mp hlate))

/-! ## Phase forms (11 R254) -/

theorem State.phaseActs_of_done {s : State} {scope : Nat} {after : List Nat} {acq : Bool}
    (h : s.releaseDone s.w.core s.w.slot after scope = true) : s.phaseActs scope after acq =
      if acq then (s.modW (fun w => { w with holding := none })).acquire s.w.core
      else s.modW (fun w => { w with holding := none }) := if_pos h

theorem State.phaseActs_of_waiting {s : State} {scope : Nat} {after : List Nat} {acq : Bool}
    (h : s.releaseDone s.w.core s.w.slot after scope = false) : s.phaseActs scope after acq = s :=
  if_neg (Bool.eq_false_iff.mp h)

/-- A phase form past its instruction, which holds its stream or has acted. -/
theorem phaseBody_eq {s : State} (hst : s.st = .lead) (words scope : Nat) (acq : Bool) :
    phaseBody words scope acq s = .ok (
      if s.releaseDone s.w.core s.w.slot s.memOps scope = true then
        let u := s.modW (fun w => { w with holding := none, leadPc := w.leadPc + 4 * words })
        if acq then u.acquire s.w.core else u
      else s.modW (fun w => { w with holding := some (.phase scope s.memOps acq), leadPc := w.leadPc + 4 * words })) := by
  have hheld : (s.modW (fun w => { w with holding := some (.phase scope s.memOps acq) })).advance words =
      s.modW (fun w => { w with holding := some (.phase scope s.memOps acq), leadPc := w.leadPc + 4 * words }) :=
    State.advance_of_lead (s := s.modW _) hst words
  rw [phaseBody, hheld]
  rfl

/-- What a phase form leaves: its predecessors have performed and it goes on, or it holds its stream. -/
theorem phase_ends {i : Instr} {s : State} {legal : Option EncFault} (words scope : Nat) (acq : Bool) (h : Issues s .lead 12)
    (hexec : exec i s = s.issue i (some .lead) 0 12 legal (phaseBody words scope acq)) (hl : legal = none) :
    (s.releaseDone s.w.core s.w.slot s.memOps scope = true →
      let s' := s.modW (fun w => { w with holding := none, leadPc := w.leadPc + 4 * words })
      Ends i s (if acq then s'.acquire s.w.core else s') 12)
    ∧ (s.releaseDone s.w.core s.w.slot s.memOps scope = false → Ends i s (s.modW (fun w =>
        { w with holding := some (.phase scope s.memOps acq), leadPc := w.leadPc + 4 * words })) 12) := by
  have hbody := phaseBody_eq (s := s) (stream_of_issues h) words scope acq
  refine ⟨fun hd => ?_, fun hd => ?_⟩
  · refine ends_of_body _ h hexec hl (hbody.trans (by rw [if_pos hd])) ?_
    split
    · exact (l1Only_acquire _ _).stalled.trans (notStalled_of_issues (s := s) h)
    · exact notStalled_of_issues (s := s) h
  · exact ends_of_modW _ h hexec hl (hbody.trans (by rw [hd]; rfl))

/-! ## The obligation -/

theorem rangesAndPhases : RangesAndPhases := by
  refine ⟨fun f s h hl hc hend => ?_, fun f s pages h hl hc hend hxl => ⟨fun hfree => ?_, fun i hfree => ⟨fun hclash => ?_,
    fun hclash => ?_⟩⟩, fun s s' c slot die i d hf hh => ⟨fun hw => ?_, fun hw hmv hsh => ?_, fun hw hmv p hp hr k hk => ?_⟩,
    fun f s h hl hc => ⟨fun hnone => ?_, fun die i r hsome => ⟨fun hact => ?_, fun hact => ?_⟩⟩,
    fun s s' c slot die i d hf hh hclean hlate => ?_,
    ⟨fun f s h hl => ⟨?_, ?_, ?_⟩, fun f s h hl => ⟨?_, ?_, ?_⟩⟩,
    fun s s' c slot scope after acq hf hh => ⟨fun hd => ?_, fun hd => ?_⟩⟩
  · refine (show exec (.crangeOpen f) s = s.issue (.crangeOpen f) (some .lead) 0 12 (legalCrange f)
      (fun s => s.crangeBegin f) from rfl).trans ?_
    rw [hl, issue_of_error h rfl (crangeBegin_tooHigh hc hend), State.stopCharge_trap, State.billed, notMgmt_of_issues h]
    rfl
  · exact ends_of_body (fun s => s.crangeBegin f) h rfl hl (crangeBegin_full hc hend hxl hfree) (notStalled_of_issues (s := s) h)
  · exact ends_of_body (fun s => s.crangeBegin f) h rfl hl
      ((crangeBegin_free hc hend hxl hfree).trans (if_pos hclash))
      (notStalled_of_issues (s := s) h)
  · exact ends_of_body (fun s => s.crangeBegin f) h rfl hl
      ((crangeBegin_free hc hend hxl hfree).trans (if_neg (Bool.eq_false_iff.mp hclash)))
      (notStalled_of_issues (s := s) h)
  · rw [State.turn_hold hf, State.holdStep_opening hh, crangeOpening_eq]
    exact congrArg _ (if_pos (Bool.or_eq_true_iff.mpr hw))
  · have hnone : s'.rangeSharers ((s'.die die).ranges.getD i CRange.empty) = [] := by
      refine List.eq_nil_iff_forall_not_mem.mpr fun p hp => ?_
      obtain ⟨q, hq, hr, hk, -⟩ := State.mem_rangeSharers.mp hp
      rw [hsh q hq hr] at hk
      cases hk
    rw [State.turn_hold hf, State.holdStep_opening hh, crangeOpening_eq]
    exact congrArg _ ((if_neg (by rw [hw, hmv]; exact Bool.false_ne_true)).trans (if_neg (not_not.mpr hnone)))
  · have hmem : (k, p.1) ∈ s'.rangeSharers ((s'.die die).ranges.getD i CRange.empty) :=
      State.mem_rangeSharers.mpr ⟨p, hp, hr, hk, rfl⟩
    have hkept := l1Only_sendNotices s' (s'.rangeSharers ((s'.die die).ranges.getD i CRange.empty))
    refine ⟨_, ?_, hkept.w, hkept.dies, hkept.memKept, notice_of_sendNotices s' hmem⟩
    rw [State.turn_hold hf, State.holdStep_opening hh, crangeOpening_eq]
    exact congrArg _ ((if_neg (by rw [hw, hmv]; exact Bool.false_ne_true)).trans (if_pos (List.ne_nil_of_mem hmem)))
  · exact ends_of_body (fun s => s.crangeCloseBegin f) h rfl hl (crangeCloseBegin_unknown hc hnone)
      (notStalled_of_issues (s := s) h)
  · refine (show exec (.crangeClose f) s = s.issue (.crangeClose f) (some .lead) 0 12 (legalCrange f)
      (fun s => s.crangeCloseBegin f) from rfl).trans ?_
    rw [hl, issue_of_error h rfl ((crangeCloseBegin_known hc hsome).trans (if_neg (Bool.eq_false_iff.mp hact)))]
    rfl
  · exact ends_of_body (fun s => s.crangeCloseBegin f) h rfl hl ((crangeCloseBegin_known hc hsome).trans (if_pos hact))
      (notStalled_of_issues (s := s) h)
  · rw [State.turn_hold hf, State.holdStep_closing hh, crangeClosing_of_folded hclean hlate]
  · exact phase_ends (baWords f) 3 false h rfl hl
  · exact phase_ends (baWords f) 3 true h rfl hl
  · exact phase_ends (baWords f) 3 true h rfl hl
  · exact phase_ends (xmWords f) (phaseScope f.order.toNat) false h rfl hl
  · exact phase_ends (xmWords f) (phaseScope f.order.toNat) true h rfl hl
  · exact phase_ends (xmWords f) (phaseScope f.order.toNat) true h rfl hl
  · rw [State.turn_hold hf, State.holdStep_phase hh, State.phaseActs_of_waiting hd]
  · rw [State.turn_hold hf, State.holdStep_phase hh, State.phaseActs_of_done hd]

/-- Settles O19: CADD by `caddBody_ok` and `cadd_oneWord`, the ranges by the steps of an open and of a close, the phase forms
by `phase_ends`. -/
theorem commutativeAndPhaseForms : Obligations.CommutativeAndPhaseForms := ⟨commutativeAdds, rangesAndPhases⟩

end Sys2Proof.Machine
end

section
/-! What a home does with a write and with the answers to it: bytes, updates, pushes and acknowledgements (10 R217, R218, R221
to R223). -/
namespace Sys2Proof.Machine
open Sys2Proof.Claims

/-! ## A message taken from the net -/

@[simp] theorem State.taken_w (s : State) (i : Nat) : (s.taken i).w = s.w := rfl
@[simp] theorem State.taken_waves (s : State) (i : Nat) : (s.taken i).waves = s.waves := rfl
@[simp] theorem State.taken_mem (s : State) (i : Nat) : (s.taken i).mem = s.mem := rfl
@[simp] theorem State.taken_dir (s : State) (i : Nat) : (s.taken i).dir = s.dir := rfl
@[simp] theorem State.taken_dirOf (s : State) (i l : Nat) : (s.taken i).dirOf l = s.dirOf l := rfl
@[simp] theorem State.taken_msgs (s : State) (i : Nat) : (s.taken i).msgs = (dropAt s.net i).map (fun m => m.msg) := rfl
@[simp] theorem State.taken_core (s : State) (i c : Nat) : (s.taken i).core c = s.core c := rfl

/-! ## What a home's answers leave of the machine -/

/-- Only memory, the directory, the dies' counts, and what homes keep and send of a write, differ. -/
def HomeOnly (s t : State) : Prop := t = { s with
  nextId := t.nextId, mem := t.mem, dir := t.dir, net := t.net, acks := t.acks, handoffs := t.handoffs, dies := t.dies }

theorem HomeOnly.trans {s t u : State} (h : HomeOnly s t) (h' : HomeOnly t u) : HomeOnly s u := by
  unfold HomeOnly at *; rw [h', h]

section
variable {s t : State} (h : HomeOnly s t)
include h
theorem HomeOnly.w : t.w = s.w := by rw [h]
theorem HomeOnly.waves : t.waves = s.waves := by rw [h]
end

/-! ## Bytes written at a home (10 R218) -/

theorem State.putBytes_frame (s : State) (line : Nat) (bs : List (Nat × Byte)) :
    s.putBytes line bs = { s with mem := (s.putBytes line bs).mem } := by
  induction bs generalizing s with
  | nil => rfl
  | cons b rest ih =>
    rw [State.putBytes, ih]

/-- The byte written last at an address stands there; every other address keeps its byte. -/
theorem memByte_putBytes (s : State) (line : Nat) (bs : List (Nat × Byte)) (a : Nat) :
    memByte (s.putBytes line bs).mem a = written s line bs a := by
  induction bs generalizing s with
  | nil => rfl
  | cons d rest ih =>
    rw [State.putBytes, ih, written, written, List.reverse_cons, List.find?_append]
    cases rest.reverse.find? (fun d => line + d.1 == a) with
    | some x => rfl
    | none =>
      by_cases ha : line + d.1 = a
      · simp [ha]
      · simp [ha, Ne.symm ha]

/-! ## Updates and pushes (10 R218, R222) -/

theorem State.sendUpdates_frame (s : State) (line id : Nat) (data : List (Nat × Byte)) (now : Option Nat) (cs : List Nat) :
    s.sendUpdates line id data now cs = { s with
      nextId := (s.sendUpdates line id data now cs).nextId, net := (s.sendUpdates line id data now cs).net } := by
  induction cs generalizing s with
  | nil => rfl
  | cons c rest ih => rw [State.sendUpdates, ih]; rfl

theorem State.sendUpdates_msgs (s : State) (line id : Nat) (data : List (Nat × Byte)) (now : Option Nat) (cs : List Nat) :
    (s.sendUpdates line id data now cs).msgs =
      s.msgs ++ cs.map (fun c => .update c line data id (decide (now = some c))) := by
  induction cs generalizing s with
  | nil => simp [State.sendUpdates]
  | cons c rest ih => rw [State.sendUpdates, ih, State.send_msgs]; simp

theorem State.sendPushes_frame (s : State) (line id : Nat) (cs : List Nat) : s.sendPushes line id cs = { s with
    nextId := (s.sendPushes line id cs).nextId
    dir := (s.sendPushes line id cs).dir
    net := (s.sendPushes line id cs).net } := by
  induction cs generalizing s with
  | nil => rfl
  | cons c rest ih => rw [State.sendPushes, ih]; rfl

/-- Pushes make sharers and change nothing else of an entry. -/
theorem State.sendPushes_poisoned (s : State) (line id : Nat) (cs : List Nat) (l : Nat) :
    (s.sendPushes line id cs).poisoned l = s.poisoned l := by
  induction cs generalizing s with
  | nil => rfl
  | cons c rest ih =>
    rw [State.sendPushes, ih, State.poisoned, State.poisoned, State.send_dirOf, State.share, State.dirOf_modDir]
    split
    · next h => rw [h]
    · rfl

theorem State.sendPushes_msgs_subset (s : State) (line id : Nat) (cs : List Nat) :
    s.msgs ⊆ (s.sendPushes line id cs).msgs := by
  induction cs generalizing s with
  | nil => exact List.Subset.refl _
  | cons c rest ih =>
    refine List.Subset.trans ?_ (ih _)
    rw [State.send_msgs]
    exact List.subset_append_left _ _

/-! ## Acknowledgements (10 R218) -/

/-- Messages are sent after those on their way, and the acknowledgements that go on wait as before; nothing else differs. -/
def AckOnly (s t : State) : Prop :=
  (∃ n l, t = { s with nextId := n, net := s.net ++ l, acks := t.acks })
    ∧ ∀ a ∈ t.acks, ∃ x ∈ s.acks, x.id = a.id ∧ x.wait = a.wait ∧ x.pushes = a.pushes

theorem ackOnly_of_acks {s : State} {l : List Ack}
    (h : ∀ a ∈ l, ∃ x ∈ s.acks, x.id = a.id ∧ x.wait = a.wait ∧ x.pushes = a.pushes) : AckOnly s { s with acks := l } :=
  ⟨⟨s.nextId, [], by simp⟩, h⟩

theorem AckOnly.refl (s : State) : AckOnly s s := ackOnly_of_acks (l := s.acks) fun a ha => ⟨a, ha, rfl, rfl, rfl⟩

theorem ackOnly_send (s : State) (m : Msg) : AckOnly s (s.send m) := ⟨⟨_, _, rfl⟩, (AckOnly.refl s).2⟩

theorem AckOnly.trans {s t u : State} (h : AckOnly s t) (h' : AckOnly t u) : AckOnly s u := by
  obtain ⟨⟨n, l, ht⟩, ha⟩ := h
  obtain ⟨⟨n', l', hu⟩, ha'⟩ := h'
  refine ⟨⟨n', l ++ l', ?_⟩, fun a hau => ?_⟩
  · rw [ht] at hu
    rw [hu, List.append_assoc]
  · obtain ⟨x, hx, hid, hw, hp⟩ := ha' a hau
    obtain ⟨y, hy, hid', hw', hp'⟩ := ha x hx
    exact ⟨y, hy, hid'.trans hid, hw'.trans hw, hp'.trans hp⟩

theorem ackOnly_ite {s t u : State} {p : Prop} [Decidable p] (ht : AckOnly s t) (hu : AckOnly s u) :
    AckOnly s (if p then t else u) := by
  split
  · exact ht
  · exact hu

section
variable {s t : State} (h : AckOnly s t)
include h
theorem AckOnly.homeOnly : HomeOnly s t := by obtain ⟨⟨n, l, ht⟩, -⟩ := h; rw [ht]; rfl
theorem AckOnly.mem : t.mem = s.mem := by obtain ⟨⟨n, l, ht⟩, -⟩ := h; rw [ht]
theorem AckOnly.dir : t.dir = s.dir := by obtain ⟨⟨n, l, ht⟩, -⟩ := h; rw [ht]
theorem AckOnly.msgs_subset : s.msgs ⊆ t.msgs := by
  obtain ⟨⟨n, l, ht⟩, -⟩ := h
  rw [ht]
  simp [State.msgs]
end

theorem ackOnly_ackStep (s : State) (id : Nat) : AckOnly s (s.ackStep id) := by
  unfold State.ackStep
  cases s.acks.find? (fun a => a.id == id) with
  | none => exact .refl s
  | some a =>
    have tell (u : State) (all : Bool) :
        AckOnly u (match a.tell with | .host | .none => u | t => u.send (.ack t all)) := by
      cases a.tell
      case host => exact .refl u
      case none => exact .refl u
      all_goals exact ackOnly_send u _
    have early : AckOnly s (if (decide (a.pushes = []) && a.wait.all (fun c => dieOf c != a.die)) && !a.sentDie then
        (match a.tell with | .host | .none => s | t => s.send (.ack t false)) else s) :=
      ackOnly_ite (tell s false) (.refl s)
    have kept (u : State) : (match a.tell with | .host | .none => u | t => u.send (.ack t true)).acks = u.acks := by
      cases a.tell <;> rfl
    refine early.trans (ackOnly_ite ((tell _ true).trans (ackOnly_of_acks fun b hb => ?_)) (ackOnly_of_acks fun b hb => ?_))
    · exact ⟨b, (kept _).symm ▸ (List.mem_filter.mp hb).1, rfl, rfl, rfl⟩
    · obtain ⟨x, hx, rfl⟩ := List.mem_map.mp hb
      refine ⟨x, hx, ?_⟩
      split <;> exact ⟨rfl, rfl, rfl⟩

/-- An acknowledgement changed by an answer, then brought up to date. -/
theorem State.settled_spec (s : State) (id : Nat) (f : Ack → Ack) :
    let u : State := { s with acks := s.acks.map (fun x => if x.id = id then f x else x) }
    (∃ n l, u.ackStep id = { s with nextId := n, net := s.net ++ l, acks := (u.ackStep id).acks })
      ∧ ∀ a ∈ (u.ackStep id).acks, a.id = id → ∃ x ∈ s.acks, a.wait = (f x).wait ∧ a.pushes = (f x).pushes := by
  intro u
  obtain ⟨hframe, hacks⟩ := ackOnly_ackStep u id
  refine ⟨hframe, fun a ha hid => ?_⟩
  obtain ⟨y, hy, hyid, hw, hp⟩ := hacks a ha
  obtain ⟨x, hx, rfl⟩ := List.mem_map.mp hy
  have hxid : x.id = id := by
    split at hyid
    · assumption
    · exact hyid.trans hid
  rw [if_pos hxid] at hw hp
  exact ⟨x, hx, hw.symm, hp.symm⟩

/-! ## A write taken at its home (10 R218, R226, R229) -/

/-- The data fill the line. -/
def fillsLine (data : List (Nat × Byte)) : Bool := (List.range 128).all (fun o => data.any (fun d => d.1 == o))

/-- The bytes of a write stand in memory, and one that fills its line has cleared POISON. -/
def State.putAtHome (s : State) (line : Nat) (data : List (Nat × Byte)) : State :=
  if fillsLine data then
    ({ s.putBytes line data with nextId := s.nextId + 1 } : State).modDir line (fun d => { d with poison := false })
  else { s.putBytes line data with nextId := s.nextId + 1 }

/-- A write from the other die to be counted for migration. -/
def State.countRemote (s : State) (die line : Nat) (tell : AckTo) : State :=
  if isDevicePa line && s.homeOf die line != die && tell.counts then
    s.modDie (s.homeOf die line) (fun d => { d with rwPend := d.rwPend ++ [line / 16384] })
  else s

theorem State.homeWrite_eq (s : State) (die line : Nat) (data : List (Nat × Byte)) (tell : AckTo) (now : Option Nat)
    (pushes : List Nat) : s.homeWrite die line data tell now pushes =
      let u := (s.putAtHome line data).countRemote die line tell
      let sharers := (u.dirOf line).sharers
      let pushes := if u.neverPushed line then [] else pushes.filter (fun c => !(u.core c).dead)
      let a : Ack := { id := s.nextId, tell := tell, die := die, wait := sharers, pushes := pushes, sentDie := false }
      ((({ u with acks := u.acks ++ [a] } : State).sendUpdates line s.nextId data now sharers).sendPushes line s.nextId
        pushes).ackStep s.nextId := rfl

theorem homeOnly_putAtHome (s : State) (line : Nat) (data : List (Nat × Byte)) : HomeOnly s (s.putAtHome line data) := by
  unfold State.putAtHome
  rw [State.putBytes_frame]
  split <;> rfl

theorem homeOnly_countRemote (s : State) (die line : Nat) (tell : AckTo) : HomeOnly s (s.countRemote die line tell) := by
  unfold State.countRemote
  split <;> rfl

theorem State.putAtHome_mem (s : State) (line : Nat) (data : List (Nat × Byte)) :
    (s.putAtHome line data).mem = (s.putBytes line data).mem := by
  unfold State.putAtHome
  split <;> rfl

theorem State.countRemote_mem (s : State) (die line : Nat) (tell : AckTo) : (s.countRemote die line tell).mem = s.mem := by
  unfold State.countRemote
  split <;> rfl

theorem State.putAtHome_dirOf (s : State) (line : Nat) (data : List (Nat × Byte)) : (s.putAtHome line data).dirOf line =
    { s.dirOf line with poison := (s.dirOf line).poison && !fillsLine data } := by
  unfold State.putAtHome
  rw [State.putBytes_frame]
  cases fillsLine data with
  | true =>
    rw [if_pos rfl, State.dirOf_modDir_self, Bool.not_true, Bool.and_false]
    rfl
  | false => rw [Bool.not_false, Bool.and_true]; rfl

theorem State.countRemote_dirOf (s : State) (die line l : Nat) (tell : AckTo) :
    (s.countRemote die line tell).dirOf l = s.dirOf l := by
  unfold State.countRemote
  split <;> rfl

section
variable (s : State) (die line : Nat) (data : List (Nat × Byte)) (tell : AckTo) (now : Option Nat) (pushes : List Nat)

theorem homeOnly_homeWrite : HomeOnly s (s.homeWrite die line data tell now pushes) := by
  rw [State.homeWrite_eq]
  dsimp only
  refine HomeOnly.trans ?_ (ackOnly_ackStep _ _).homeOnly
  rw [State.sendPushes_frame, State.sendUpdates_frame]
  exact (homeOnly_putAtHome s line data).trans ((homeOnly_countRemote _ die line tell).trans (by rfl))

theorem memByte_homeWrite (a : Nat) :
    memByte (s.homeWrite die line data tell now pushes).mem a = written s line data a := by
  rw [State.homeWrite_eq]
  dsimp only
  rw [(ackOnly_ackStep _ _).mem, State.sendPushes_frame, State.sendUpdates_frame]
  dsimp only
  rw [State.countRemote_mem, State.putAtHome_mem, memByte_putBytes]

theorem State.homeWrite_poisoned :
    (s.homeWrite die line data tell now pushes).poisoned line = (s.poisoned line && !fillsLine data) := by
  rw [State.homeWrite_eq]
  dsimp only
  rw [State.poisoned, State.dirOf_congr (ackOnly_ackStep _ _).dir, ← State.poisoned, State.sendPushes_poisoned, State.poisoned,
    State.sendUpdates_frame]
  refine (congrArg DirEntry.poison (State.countRemote_dirOf _ die line line tell)).trans ?_
  rw [State.putAtHome_dirOf, State.poisoned]

/-- Every sharer is sent the update. -/
theorem update_mem_homeWrite {c : Nat} (hc : c ∈ (s.dirOf line).sharers) :
    .update c line data s.nextId (decide (now = some c)) ∈ (s.homeWrite die line data tell now pushes).msgs := by
  rw [State.homeWrite_eq]
  dsimp only
  refine (ackOnly_ackStep _ _).msgs_subset (State.sendPushes_msgs_subset _ _ _ _ ?_)
  rw [State.sendUpdates_msgs]
  refine List.mem_append_right _ (List.mem_map.mpr ⟨c, ?_, rfl⟩)
  rw [State.countRemote_dirOf, State.putAtHome_dirOf]
  exact hc

end

end Sys2Proof.Machine
end

section
/-! Messages at the home of their line (10 R214 to R222, R225, R226; 11 R243, R244, R250). -/
namespace Sys2Proof.Machine
open Sys2Proof.Claims

/-! ## Loads (10 R214, R221, R229) -/

section
variable {s : State} {r : Req}

/-- A load answered from a line that is not poisoned: the copy for a new sharer, then the bytes. -/
theorem State.answerLoad_clean (h : s.poisoned (lineOf r.pa) = false) (parts : List (Nat × Nat × Nat)) (fill : Bool) :
    s.answerLoad r parts fill =
      let data := memBytes s.mem (lineOf r.pa) 128
      let u := if fill then (s.share r.core (lineOf r.pa)).send (.fill r.core (lineOf r.pa) data false) else s
      if parts = [] then u else u.send (.ret r.core r.slot r.op (lineOf r.pa) (partBytes data parts) parts none) := by
  rw [State.answerLoad, h]
  rfl

theorem State.answerLoad_poisoned (h : s.poisoned (lineOf r.pa) = true) {parts : List (Nat × Nat × Nat)} (hp : parts ≠ [])
    (fill : Bool) : s.answerLoad r parts fill =
      s.send (.ret r.core r.slot r.op (lineOf r.pa) (parts.map (fun p => (p.1, []))) [] (some r.va)) := by
  rw [State.answerLoad, h]
  exact if_neg hp

end

section
variable {s : State} {i : Nat} {n : NetMsg} {r : Req} {parts : List (Nat × Nat × Nat)} {fill pref : Bool} (hd : Due s i n)
  (hm : n.msg = .load r parts fill pref) (hh : s.atHome n r.core (lineOf r.pa) = true)
include hd hm hh

theorem homeLoadStep_plain (hc : s.lineState (lineOf r.pa) ≠ .c) :
    homeLoadStep i s = (s.taken i).answerLoad r parts fill := by
  unfold Due at hd
  simp only [homeLoadStep, hd, hm, hh, hc, Bool.not_true, Bool.false_eq_true, if_false]

/-- A load of a line in state C: a prefetch is dropped, a fold under way holds it, and one is begun where there is something
to fold. -/
theorem homeLoadStep_folds (hc : s.lineState (lineOf r.pa) = .c) : homeLoadStep i s =
    if pref then s.taken i
    else if ((s.dirOf (lineOf r.pa)).fold.isSome || !s.foldReady (lineOf r.pa)) = true then s
    else if (s.dirOf (lineOf r.pa)).clean then (s.taken i).answerLoad r parts false
    else s.foldStart (lineOf r.pa) [n.id] := by
  unfold Due at hd
  simp only [homeLoadStep, hd, hm, hh, hc, Bool.not_true, Bool.false_eq_true, if_false, if_true]

end

theorem State.sendProbes_msgs (s : State) (line : Nat) (cs : List Nat) :
    (s.sendProbes line cs).msgs = s.msgs ++ cs.map (fun c => .probe c line) := by
  induction cs generalizing s with
  | nil => simp [State.sendProbes]
  | cons c rest ih => rw [State.sendProbes, ih, State.send_msgs]; simp

theorem l1Only_sendProbes (s : State) (line : Nat) (cs : List Nat) : L1Only s (s.sendProbes line cs) := by
  induction cs generalizing s with
  | nil => rfl
  | cons c rest ih => exact L1Only.trans (by rfl) (ih _)

/-! ## Stores and ATOMs (10 R218; 11 R243, R244) -/

@[simp] theorem State.modOp_mem (s : State) (c slot id : Nat) (f : Op → Op) : (s.modOp c slot id f).mem = s.mem :=
  State.modWave_mem _ _ _ _

@[simp] theorem State.modOp_dir (s : State) (c slot id : Nat) (f : Op → Op) : (s.modOp c slot id f).dir = s.dir := by
  rw [State.modOp, State.modWave_frame]

@[simp] theorem State.modOp_msgs (s : State) (c slot id : Nat) (f : Op → Op) : (s.modOp c slot id f).msgs = s.msgs := by
  rw [State.modOp, State.modWave_frame]
  rfl

section
variable {s : State} {i : Nat} {n : NetMsg} {r : Req} (hd : Due s i n)
include hd

theorem homeStoreStep_of {data : List (Nat × Byte)} {push : List Nat} (hm : n.msg = .store r data push) :
    homeStoreStep i s = if (!s.atHome n r.core (lineOf r.pa) || decide (s.lineState (lineOf r.pa) = .c)) = true then s
      else (s.taken i).homeWrite (dieOf r.core) (lineOf r.pa) data (.wave r.core r.slot r.op) none push := by
  unfold Due at hd
  simp only [homeStoreStep, hd, hm]

theorem homeAtomStep_of {a : AtomOp} (hm : n.msg = .atom r a) :
    homeAtomStep i s = if (!s.atHome n r.core (lineOf r.pa) || decide (s.lineState (lineOf r.pa) = .c)) = true then s
      else (s.taken i).takeAtom r a := by
  unfold Due at hd
  simp only [homeAtomStep, hd, hm]

end

theorem not_held_of_home {s : State} {n : NetMsg} {r : Req} (hh : s.atHome n r.core (lineOf r.pa) = true)
    (hc : s.lineState (lineOf r.pa) ≠ .c) :
    ¬ (!s.atHome n r.core (lineOf r.pa) || decide (s.lineState (lineOf r.pa) = .c)) = true := by
  simp [hh, hc]

/-- The two acknowledgements of an ATOM that writes nothing. -/
def State.ackBoth (s : State) (r : Req) : State :=
  (s.send (.ack (.wave r.core r.slot r.op) false)).send (.ack (.wave r.core r.slot r.op) true)

section
variable {s : State} {r : Req}

theorem State.takeAtom_poisoned (h : s.poisoned (lineOf r.pa) = true) (a : AtomOp) : s.takeAtom r a =
    if a.returns then (s.send (.ret r.core r.slot r.op (lineOf r.pa) [(a.lane, [])] [] (some (lineOf r.va)))).ackBoth r
    else (s.modOp r.core r.slot r.op (fun o => { o with bad := o.bad ++ [(a.lane, lineOf r.va)] })).ackBoth r := by
  rw [State.takeAtom, h]
  rfl

/-- What an ATOM leaves at its home before its old value is returned. -/
def State.atomDone (s : State) (r : Req) (a : AtomOp) : State :=
  match atomResult a (memVal s.mem r.pa a.n) with
  | some v =>
    s.homeWrite (dieOf r.core) (lineOf r.pa) ((leBytes v a.n).zipIdx.map (fun p => (r.pa - lineOf r.pa + p.2, p.1)))
      (.wave r.core r.slot r.op) (some r.core) []
  | none => s.ackBoth r

theorem State.takeAtom_clean (h : s.poisoned (lineOf r.pa) = false) (a : AtomOp) : s.takeAtom r a =
    if a.returns then (s.atomDone r a).send (.ret r.core r.slot r.op (lineOf r.pa)
      [(a.lane, leBytes (memVal s.mem r.pa a.n) a.n)] [] none)
    else s.atomDone r a := by
  rw [State.takeAtom, h]
  rfl

end

theorem homeOnly_atomDone (s : State) (r : Req) (a : AtomOp) : HomeOnly s (s.atomDone r a) := by
  unfold State.atomDone
  split
  · exact homeOnly_homeWrite _ _ _ _ _ _ _
  · rfl

/-- Bytes put one after the other, by their offsets in a line, from an address of it on. -/
theorem State.putBytes_zipIdx (s : State) {line pa : Nat} (hpa : line ≤ pa) (bs : List Byte) (k : Nat) :
    (s.putBytes line ((bs.zipIdx k).map (fun p => (pa - line + p.2, p.1)))).mem = memWrite s.mem (pa + k) bs := by
  induction bs generalizing s k with
  | nil => rfl
  | cons b rest ih =>
    rw [List.zipIdx_cons, List.map_cons, State.putBytes, ih, memWrite, show line + (pa - line + k) = pa + k by omega,
      Nat.add_assoc]

theorem written_zipIdx (s : State) {line pa : Nat} (hpa : line ≤ pa) (bs : List Byte) (x : Nat) :
    written s line (bs.zipIdx.map (fun p => (pa - line + p.2, p.1))) x =
      if pa ≤ x ∧ x < pa + bs.length then bs.getD (x - pa) 0#8 else memByte s.mem x := by
  rw [← memByte_putBytes, State.putBytes_zipIdx s hpa, memByte_memWrite, Nat.add_zero]

theorem lineOf_le (pa : Nat) : lineOf pa ≤ pa := Nat.div_mul_le_self pa 128

theorem memByte_atomDone (s : State) (r : Req) (a : AtomOp) (x : Nat) : memByte (s.atomDone r a).mem x =
    match atomResult a (memVal s.mem r.pa a.n) with
    | some v => if r.pa ≤ x ∧ x < r.pa + a.n then (leBytes v a.n).getD (x - r.pa) 0#8 else memByte s.mem x
    | none => memByte s.mem x := by
  unfold State.atomDone
  cases atomResult a (memVal s.mem r.pa a.n) with
  | some v =>
    refine (memByte_homeWrite _ _ _ _ _ _ _ x).trans ?_
    rw [written_zipIdx s (lineOf_le r.pa), leBytes_length]
  | none => rfl

/-! ## Replies and partials (10 R217, R221 to R223) -/

/-- A copy of the line is held by the core, or on its way to it. -/
def State.copyHeld (s : State) (core line : Nat) : Bool :=
  s.net.any (fun m => match m.msg with | .fill c l _ _ | .push c l _ _ => c == core && l == line | _ => false)
    || (s.core core).l1.any (fun x => x.line == line && decide (x.st ≠ .c))

/-- A core no longer among the sharers of a line. -/
def State.cleared (s : State) (core line : Nat) : State :=
  s.modDir line (fun d => { d with sharers := d.sharers.filter (fun c => c != core) })

theorem State.unshare_eq (s : State) (core line : Nat) :
    s.unshare core line = if s.copyHeld core line = true then s else s.cleared core line := rfl

theorem State.nextPush_frame (s : State) (id core : Nat) (lines : List Nat) : s.nextPush id core lines = { s with
    nextId := (s.nextPush id core lines).nextId, dir := (s.nextPush id core lines).dir, net := (s.nextPush id core lines).net
    handoffs := (s.nextPush id core lines).handoffs } := by
  induction lines with
  | nil => rfl
  | cons l rest ih =>
    rw [State.nextPush]
    split
    · exact ih
    · rw [State.sendPushes_frame]

section
variable (s : State) (id : Nat) (ok : Bool)

theorem State.handoffReply_frame : s.handoffReply id ok = { s with
    nextId := (s.handoffReply id ok).nextId, dir := (s.handoffReply id ok).dir, net := (s.handoffReply id ok).net
    handoffs := (s.handoffReply id ok).handoffs } := by
  unfold State.handoffReply
  cases s.handoffs.find? (fun h => h.id == id) with
  | none => rfl
  | some h =>
    cases ok
    · rfl
    · exact (State.nextPush_frame _ id h.core h.rest).trans rfl

theorem State.handoffReply_of_none (h : ∀ x ∈ s.handoffs, x.id ≠ id) : s.handoffReply id ok = s := by
  rw [State.handoffReply, List.find?_eq_none.mpr (by simpa using h)]

/-- A refusal ends a handoff, and its home's entries stay. -/
theorem State.handoffReply_refused :
    (s.handoffReply id false).dir = s.dir ∧ ∀ x ∈ (s.handoffReply id false).handoffs, x.id ≠ id := by
  unfold State.handoffReply
  cases hf : s.handoffs.find? (fun h => h.id == id) with
  | none => exact ⟨rfl, by simpa using hf⟩
  | some h => exact ⟨rfl, fun x hx => by simpa using (List.mem_filter.mp hx).2⟩

end

/-- A destination that has answered is waited for no more. -/
theorem State.answered_spec (s : State) (id core : Nat) :
    (∃ n l, s.answered id core = { s with nextId := n, net := s.net ++ l, acks := (s.answered id core).acks })
      ∧ ∀ a ∈ (s.answered id core).acks, a.id = id → core ∉ a.pushes := by
  obtain ⟨hframe, hacks⟩ := State.settled_spec s id (fun x => { x with pushes := x.pushes.filter (fun c => c != core) })
  refine ⟨hframe, fun a ha hid => ?_⟩
  obtain ⟨x, -, -, hp⟩ := hacks a ha hid
  simp [hp]

section
variable {s : State} {i : Nat} {n : NetMsg} {core line : Nat} (hd : Due s i n) (he : s.entryHere line = true)
include hd he

theorem deregistrationStep_of (hm : n.msg = .dereg core line) : deregistrationStep i s = (s.taken i).unshare core line := by
  unfold Due at hd
  simp only [deregistrationStep, hd, hm, he, if_true]

theorem rangeNoticeReplyStep_of (hm : n.msg = .noticeReply core line) :
    rangeNoticeReplyStep i s = (s.taken i).cleared core line := by
  unfold Due at hd
  simp only [rangeNoticeReplyStep, hd, hm, he, if_true]
  rfl

theorem holderRegisterStep_of (hm : n.msg = .holder core line) : holderRegisterStep i s =
    (s.taken i).modDir line (fun d => { d with holders := insertAsc core d.holders }) := by
  unfold Due at hd
  simp only [holderRegisterStep, hd, hm, he, if_true]

theorem pushReplyStep_of {ok : Bool} {ack : Nat} (hm : n.msg = .pushReply core line ok ack) : pushReplyStep i s =
    ((if ok then s.taken i else (s.taken i).unshare core line).answered ack core).handoffReply ack ok := by
  unfold Due at hd
  simp only [pushReplyStep, hd, hm, he, Bool.not_true, Bool.false_eq_true, if_false]

theorem evictedPartialStep_of {words : List Word} {touched : Nat} {r : CRange} (hm : n.msg = .evicted core line words touched)
    (hr : s.rangeOfLine line = some r) (hf : ∀ f, (s.dirOf line).fold = some f → core ∈ f.cores) :
    evictedPartialStep i s = (s.taken i).modDir line (fun d =>
      { d with parts := keepPartial r.fmt r.op { agent := core, words := words, touched := touched } d.parts }) := by
  unfold Due at hd
  have hr' : (s.taken i).rangeOfLine line = some r := hr
  have hlate : (match (s.dirOf line).fold with | some f => !f.cores.contains core | none => false) = false := by
    cases h : (s.dirOf line).fold with
    | none => rfl
    | some f => simp [hf f h]
  simp only [evictedPartialStep, hd, hm, he, Bool.not_true, Bool.or_false]
  refine (if_neg (Bool.eq_false_iff.mp hlate)).trans ?_
  rw [State.addPartial, hr']

end

/-! ## The obligation, clause by clause -/

theorem home_answers_load {i : Nat} {s : State} {n : NetMsg} {r : Req} {parts : List (Nat × Nat × Nat)} {fill pref : Bool}
    (hd : Due s i n) (hm : n.msg = .load r parts fill pref) (hh : s.atHome n r.core (lineOf r.pa) = true)
    (hc : s.lineState (lineOf r.pa) ≠ .c) (hp : s.poisoned (lineOf r.pa) = false) :
    ∃ t, Steps (.homeLoad i) s t ∧ MemKept s t ∧ t.w = s.w ∧ t.waves = s.waves
      ∧ t.msgs = (dropAt s.net i).map (fun m => m.msg)
          ++ (if fill then [.fill r.core (lineOf r.pa) (memBytes s.mem (lineOf r.pa) 128) false] else [])
          ++ (if parts = [] then [] else [.ret r.core r.slot r.op (lineOf r.pa)
              (partBytes (memBytes s.mem (lineOf r.pa) 128) parts) parts none])
      ∧ (t.dirOf (lineOf r.pa)).sharers =
          (if fill then insertAsc r.core (s.dirOf (lineOf r.pa)).sharers else (s.dirOf (lineOf r.pa)).sharers) := by
  refine ⟨_, step_of rfl (homeLoadStep_plain hd hm hh hc), ?_⟩
  rw [State.answerLoad_clean (s := s.taken i) hp]
  by_cases hparts : parts = [] <;> cases fill <;>
    simp [hparts, MemKept, State.share]

theorem home_folds_for_load {i : Nat} {s : State} {n : NetMsg} {r : Req} {parts : List (Nat × Nat × Nat)} {fill : Bool}
    (hd : Due s i n) (hm : n.msg = .load r parts fill false) (hh : s.atHome n r.core (lineOf r.pa) = true)
    (hc : s.lineState (lineOf r.pa) = .c) (hnone : (s.dirOf (lineOf r.pa)).fold = none)
    (hready : s.foldReady (lineOf r.pa) = true)
    (hsome : (s.dirOf (lineOf r.pa)).holders ≠ [] ∨ (s.dirOf (lineOf r.pa)).parts ≠ []) :
    let cores := (s.dirOf (lineOf r.pa)).holders.filter (fun c => c != 192)
    ∃ t, Steps (.homeLoad i) s t ∧ MemKept s t
      ∧ (t.dirOf (lineOf r.pa)).holders = [] ∧ (t.dirOf (lineOf r.pa)).parts = (s.dirOf (lineOf r.pa)).parts
      ∧ (t.dirOf (lineOf r.pa)).fold = some { cores := cores, loads := [n.id], poison := false }
      ∧ t.msgs = s.msgs ++ cores.map (fun c => .probe c (lineOf r.pa)) := by
  intro cores
  have hclean : (s.dirOf (lineOf r.pa)).clean = false := by
    rcases hsome with h | h <;> simp [DirEntry.clean, h]
  have hstep : homeLoadStep i s = s.foldStart (lineOf r.pa) [n.id] := by
    rw [homeLoadStep_folds hd hm hh hc, hnone, hready, hclean]
    rfl
  have hkept := l1Only_sendProbes (s.modDir (lineOf r.pa) (fun d =>
    { d with holders := [], fold := some { cores := cores, loads := [n.id], poison := false } })) (lineOf r.pa) cores
  refine ⟨_, step_of rfl hstep, hkept.memKept, ?_, ?_, ?_, State.sendProbes_msgs _ _ _⟩ <;>
    rw [State.foldStart, State.dirOf_congr hkept.dir, State.dirOf_modDir_self]

theorem home_refuses_atom {i : Nat} {s : State} {n : NetMsg} {r : Req} {a : AtomOp} (hd : Due s i n) (hm : n.msg = .atom r a)
    (hh : s.atHome n r.core (lineOf r.pa) = true) (hc : s.lineState (lineOf r.pa) ≠ .c)
    (hp : s.poisoned (lineOf r.pa) = true) :
    ∃ t, Steps (.homeAtom i) s t ∧ MemKept s t ∧ t.dir = s.dir
      ∧ t.msgs = (dropAt s.net i).map (fun m => m.msg)
          ++ (if a.returns then [.ret r.core r.slot r.op (lineOf r.pa) [(a.lane, [])] [] (some (lineOf r.va))] else [])
          ++ [.ack (.wave r.core r.slot r.op) false, .ack (.wave r.core r.slot r.op) true]
      ∧ (a.returns = true → t.w = s.w ∧ t.waves = s.waves) := by
  refine ⟨_, step_of rfl ((homeAtomStep_of hd hm).trans (if_neg (not_held_of_home hh hc))), ?_⟩
  rw [State.takeAtom_poisoned (s := s.taken i) hp]
  cases a.returns with
  | true => simp [MemKept, State.ackBoth]
  | false => simp [MemKept, State.ackBoth]

theorem home_takes_store {i : Nat} {s : State} {n : NetMsg} {r : Req} {data : List (Nat × Byte)} {push : List Nat}
    (hd : Due s i n) (hm : n.msg = .store r data push) (hh : s.atHome n r.core (lineOf r.pa) = true)
    (hc : s.lineState (lineOf r.pa) ≠ .c) :
    ∃ t, Steps (.homeStore i) s t ∧ t.w = s.w ∧ t.waves = s.waves
      ∧ (∀ a, memByte t.mem a = written s (lineOf r.pa) data a)
      ∧ t.poisoned (lineOf r.pa) = (s.poisoned (lineOf r.pa) && !fillsLine data)
      ∧ (∀ c ∈ (s.dirOf (lineOf r.pa)).sharers, ∃ m ∈ t.net, ∃ id, m.msg = .update c (lineOf r.pa) data id false) := by
  have hkept := homeOnly_homeWrite (s.taken i) (dieOf r.core) (lineOf r.pa) data (.wave r.core r.slot r.op) none push
  refine ⟨_, step_of rfl ((homeStoreStep_of hd hm).trans (if_neg (not_held_of_home hh hc))), hkept.w, hkept.waves,
    memByte_homeWrite _ _ _ _ _ _ _, State.homeWrite_poisoned _ _ _ _ _ _ _, fun c hc => ?_⟩
  obtain ⟨m, hmem, hmsg⟩ := List.mem_map.mp (update_mem_homeWrite (s.taken i) (dieOf r.core) (lineOf r.pa) data
    (.wave r.core r.slot r.op) none push hc)
  exact ⟨m, hmem, _, hmsg⟩

theorem home_takes_atom {i : Nat} {s : State} {n : NetMsg} {r : Req} {a : AtomOp} (hd : Due s i n) (hm : n.msg = .atom r a)
    (hh : s.atHome n r.core (lineOf r.pa) = true) (hc : s.lineState (lineOf r.pa) ≠ .c)
    (hp : s.poisoned (lineOf r.pa) = false) :
    ∃ t, Steps (.homeAtom i) s t ∧ t.w = s.w ∧ t.waves = s.waves
      ∧ (∀ x, memByte t.mem x = (match atomResult a (memVal s.mem r.pa a.n) with
          | some v => if r.pa ≤ x ∧ x < r.pa + a.n then (leBytes v a.n).getD (x - r.pa) 0#8 else memByte s.mem x
          | none => memByte s.mem x))
      ∧ (a.returns = true → ∃ m ∈ t.net, m.msg = .ret r.core r.slot r.op (lineOf r.pa)
          [(a.lane, leBytes (memVal s.mem r.pa a.n) a.n)] [] none) := by
  have hkept := homeOnly_atomDone (s.taken i) r a
  have hmem := memByte_atomDone (s.taken i) r a
  refine ⟨_, step_of rfl (((homeAtomStep_of hd hm).trans (if_neg (not_held_of_home hh hc))).trans
    (State.takeAtom_clean (s := s.taken i) hp a)), ?_⟩
  cases a.returns with
  | true =>
    refine ⟨hkept.w, hkept.waves, hmem, fun _ => ?_⟩
    exact ⟨_, List.mem_append_right _ (List.mem_singleton_self _), rfl⟩
  | false => exact ⟨hkept.w, hkept.waves, hmem, fun h => by cases h⟩

theorem home_takes_pushReply {i : Nat} {s : State} {n : NetMsg} {core line : Nat} {ok : Bool} {ack : Nat} (hd : Due s i n)
    (he : s.entryHere line = true) (hm : n.msg = .pushReply core line ok ack) :
    ∃ t, Steps (.pushReply i) s t ∧ MemKept s t
      ∧ (∀ a ∈ t.acks, a.id = ack → core ∉ a.pushes)
      ∧ (ok = false → ∀ h ∈ t.handoffs, h.id ≠ ack)
      ∧ ((ok = true → ∀ h ∈ s.handoffs, h.id ≠ ack) → t.dir =
          (if ok = true ∨ (s.taken i).copyHeld core line = true then s.dir else ((s.taken i).cleared core line).dir)) := by
  obtain ⟨u, hu, humem, huh, hudir⟩ : ∃ u, (if ok then s.taken i else (s.taken i).unshare core line) = u ∧ u.mem = s.mem
      ∧ u.handoffs = s.handoffs ∧ u.dir =
        (if ok = true ∨ (s.taken i).copyHeld core line = true then s.dir else ((s.taken i).cleared core line).dir) := by
    refine ⟨_, rfl, ?_⟩
    rw [State.unshare_eq]
    cases ok <;> cases (s.taken i).copyHeld core line <;> exact ⟨rfl, rfl, rfl⟩
  obtain ⟨⟨k, l, hframe⟩, hacks⟩ := State.answered_spec u ack core
  have hmem : (u.answered ack core).mem = u.mem := by rw [hframe]
  have hdir : (u.answered ack core).dir = u.dir := by rw [hframe]
  have hhand : (u.answered ack core).handoffs = u.handoffs := by rw [hframe]
  have hreply := State.handoffReply_frame (u.answered ack core) ack ok
  refine ⟨_, step_of rfl ((pushReplyStep_of hd he hm).trans (by rw [hu])), fun a => ?_, fun a ha => ?_, fun hok => ?_,
    fun hfree => ?_⟩
  · rw [hreply, hmem, humem]
  · rw [hreply] at ha
    exact hacks a ha
  · subst hok
    exact (State.handoffReply_refused _ ack).2
  · rw [← hudir, ← hdir]
    cases ok with
    | true => rw [State.handoffReply_of_none _ _ _ (by rw [hhand, huh]; exact hfree rfl)]
    | false => exact (State.handoffReply_refused _ ack).1

/-- Settles O38: what a home answers by `home_answers_load`, a fold by `home_folds_for_load`, writes by `memByte_homeWrite` and
`update_mem_homeWrite`, replies by the step of each. -/
theorem messagesAtTheHome : Obligations.MessagesAtTheHome := by
  refine ⟨fun i s n r parts fill pref hd hm hh hc hp => home_answers_load hd hm hh hc hp,
    fun i s n r parts fill pref hd hm hh hparts => ⟨fun hc hp => ?_, fun hc => ⟨fun hpref => ?_, fun hpref => ⟨fun hbusy => ?_,
      fun hnone hready => ⟨fun hholders hps hp => ?_, fun hsome => ?_⟩⟩⟩⟩,
    fun i s n r hd hc => ⟨fun data push hm => ?_, fun a hm => ?_⟩,
    fun i s n r a hd hm hh hc hp => home_refuses_atom hd hm hh hc hp,
    fun i s n r data push hd hm hh hc => home_takes_store hd hm hh hc,
    fun i s n r a hd hm hh hc hp => home_takes_atom hd hm hh hc hp,
    fun i s n core line hd he => ⟨fun hm => ?_, fun hm => ?_, fun hm => ?_, fun ok ack hm => home_takes_pushReply hd he hm⟩,
    fun i s n core line touched words r hd hm he hr hf => step_of rfl (evictedPartialStep_of hd he hm hr hf)⟩
  · refine step_of rfl ((homeLoadStep_plain hd hm hh hc).trans ?_)
    exact State.answerLoad_poisoned (s := s.taken i) hp hparts fill
  · refine step_of rfl ((homeLoadStep_folds hd hm hh hc).trans ?_)
    rw [hpref]
    rfl
  · refine step_of rfl ((homeLoadStep_folds hd hm hh hc).trans ?_)
    rw [hpref]
    exact (if_neg Bool.false_ne_true).trans (if_pos (by simpa using hbusy))
  · have hclean : (s.dirOf (lineOf r.pa)).clean = true := by simp [DirEntry.clean, hholders, hps, hnone]
    refine step_of rfl ((homeLoadStep_folds hd hm hh hc).trans ?_)
    rw [hpref, hnone, hready, hclean]
    refine (State.answerLoad_clean (s := s.taken i) hp parts false).trans ?_
    exact if_neg hparts
  · exact home_folds_for_load hd (hpref ▸ hm) hh hc hnone hready hsome
  · exact step_of rfl ((homeStoreStep_of hd hm).trans (if_pos (by simp [hc])))
  · exact step_of rfl ((homeAtomStep_of hd hm).trans (if_pos (by simp [hc])))
  · exact step_of rfl ((deregistrationStep_of hd he hm).trans (State.unshare_eq _ core line))
  · exact step_of rfl (rangeNoticeReplyStep_of hd he hm)
  · exact step_of rfl (holderRegisterStep_of hd he hm)

end Sys2Proof.Machine
end

section
/-! Messages about a line at a core: fills and pushes with the room that they need, updates, notices and probes (10 R216, R218,
R220, R222, R225). -/
namespace Sys2Proof.Machine
open Sys2Proof.Claims

/-! ## Lines changed, dropped and put into an L1 (10 R216) -/

theorem Core.line?_modLine_of_none {c : Core} {k : Nat} (h : c.line? k = none) (line : Nat) {f : L1Line → L1Line}
    (hf : ∀ x, (f x).line = x.line) : (c.modLine line f).line? k = none := by
  rw [Core.line?_eq_none] at h ⊢
  intro x hx
  obtain ⟨y, hy, rfl⟩ := List.mem_map.mp hx
  split
  · exact (hf y).symm ▸ h y hy
  · exact h y hy

theorem State.overlay_core {s : State} {core : Nat} (h : core < s.cores.length) (line : Nat) :
    ∃ bs, (s.overlay core line).core core = (s.core core).modLine line (fun y => { y with data := overBytes y.data bs }) :=
  ⟨_, State.core_modCore_self _ _ _ h⟩

/-- A fill put into an L1, under the core's own writes. -/
def State.filled (u : State) (core line : Nat) (data : List Byte) (drop : Bool) : State :=
  (u.modCore core (fun c => { c with
    l1 := c.l1 ++ [{ line := line, st := .s, drop := drop, data := data, touched := 0 }] })).overlay core line

/-- A push put into an L1. -/
def State.pushed (u : State) (core line : Nat) (data : List Byte) (ack : Nat) : State :=
  (u.modCore core (fun c => { c with
    l1 := c.l1 ++ [{ line := line, st := .p, drop := false, data := data, touched := 0 }]
    injcnt := c.injcnt + 1 })).send (.pushReply core line true ack)

theorem l1Only_filled (u : State) (core line : Nat) (data : List Byte) (drop : Bool) :
    L1Only u (u.filled core line data drop) := rfl

theorem l1Only_pushed (u : State) (core line : Nat) (data : List Byte) (ack : Nat) :
    L1Only u (u.pushed core line data ack) := rfl

@[simp] theorem State.pushed_msgs (u : State) (core line : Nat) (data : List Byte) (ack : Nat) :
    (u.pushed core line data ack).msgs = u.msgs ++ [.pushReply core line true ack] := State.send_msgs _ _

section
variable {u : State} {core line : Nat} (hcore : core < u.cores.length)
include hcore

theorem State.filled_core (data : List Byte) (drop : Bool) : ∃ bs, (u.filled core line data drop).core core =
    Core.modLine { u.core core with
      l1 := (u.core core).l1 ++ [{ line := line, st := .s, drop := drop, data := data, touched := 0 }] } line
      (fun y => { y with data := overBytes y.data bs }) := by
  obtain ⟨bs, ht⟩ := State.overlay_core (s := u.modCore core (fun c => { c with
    l1 := c.l1 ++ [{ line := line, st := .s, drop := drop, data := data, touched := 0 }] })) (by simpa using hcore) line
  exact ⟨bs, by rw [State.filled, ht, State.core_modCore_self _ _ _ hcore]⟩

theorem State.pushed_core (data : List Byte) (ack : Nat) : (u.pushed core line data ack).core core = { u.core core with
    l1 := (u.core core).l1 ++ [{ line := line, st := .p, drop := false, data := data, touched := 0 }]
    injcnt := (u.core core).injcnt + 1 } := State.core_modCore_self _ _ _ hcore

theorem State.filled_line (hnone : (u.core core).line? line = none) (data : List Byte) (drop : Bool) :
    ∃ x, ((u.filled core line data drop).core core).line? line = some x ∧ x.st = .s ∧ x.drop = drop := by
  obtain ⟨bs, ht⟩ := State.filled_core (line := line) hcore data drop
  rw [ht, Core.line?_modLine_self _ _ (fun y => { y with data := overBytes y.data bs }) (fun _ => rfl),
    Core.line?_append hnone, if_pos rfl]
  exact ⟨_, rfl, rfl, rfl⟩

theorem State.pushed_line (hnone : (u.core core).line? line = none) (data : List Byte) (ack : Nat) :
    ∃ x, ((u.pushed core line data ack).core core).line? line = some x ∧ x.st = .p ∧ x.data = data := by
  rw [State.pushed_core hcore]
  exact ⟨_, (Core.line?_append hnone _).trans (if_pos rfl), rfl, rfl⟩

/-- A fill or a push puts no other line into an L1. -/
theorem State.filled_other {k : Nat} (hk : line ≠ k) (hnone : (u.core core).line? k = none) (data : List Byte) (drop : Bool) :
    ((u.filled core line data drop).core core).line? k = none := by
  obtain ⟨bs, ht⟩ := State.filled_core (line := line) hcore data drop
  rw [ht]
  exact Core.line?_modLine_of_none ((Core.line?_append hnone _).trans (if_neg hk)) line (fun _ => rfl)

theorem State.pushed_other {k : Nat} (hk : line ≠ k) (hnone : (u.core core).line? k = none) (data : List Byte) (ack : Nat) :
    ((u.pushed core line data ack).core core).line? k = none := by
  rw [State.pushed_core hcore]
  exact (Core.line?_append hnone _).trans (if_neg hk)

end

/-! ## Room in an L1 (10 R220) -/

/-- The message by which an evicted line leaves its core. -/
def L1Line.leaving (x : L1Line) (core : Nat) : Msg :=
  if x.st = .c then .evicted core x.line (lineWords x.data) x.touched else .dereg core x.line

theorem State.evict_eq (s : State) (core : Nat) (x : L1Line) :
    s.evict core x = (s.modCore core (fun c => c.dropLine x.line)).send (x.leaving core) := by
  unfold State.evict L1Line.leaving
  cases x.st <;> rfl

theorem State.mem_of_victim {s : State} {core : Nat} {x : L1Line} (h : s.victim core = some x) : x ∈ (s.core core).l1 := by
  simp only [State.victim, Option.orElse_eq_or, Option.or_eq_some_iff] at h
  obtain (h | ⟨-, h⟩) | ⟨-, h⟩ := h <;> exact List.mem_of_find?_eq_some h

theorem State.makeRoom_of_room {s : State} {core : Nat} (h : (s.core core).l1.length < 2048) : s.makeRoom core = some s :=
  if_pos h

theorem State.makeRoom_of_full {s : State} {core : Nat} (h : (s.core core).l1.length ≥ 2048) :
    s.makeRoom core = (s.victim core).map (fun x => s.evict core x) := if_neg (Nat.not_lt.mpr h)

/-- A line that gives way makes room for one that is not held. -/
theorem State.evict_spec {s : State} {core line : Nat} {x : L1Line} (hcore : core < s.cores.length)
    (hnone : (s.core core).line? line = none) (hx : s.victim core = some x) :
    let u := s.evict core x
    u.msgs = s.msgs ++ [x.leaving core] ∧ core < u.cores.length ∧ (u.core core).line? line = none
      ∧ (u.core core).line? x.line = none ∧ line ≠ x.line := by
  intro u
  have hu : u.core core = (s.core core).dropLine x.line := by
    rw [show u = _ from State.evict_eq s core x, State.send_core, State.core_modCore_self _ _ _ hcore]
  refine ⟨by rw [show u = _ from State.evict_eq s core x, State.send_msgs, State.modCore_msgs],
    by simpa [u, State.evict_eq] using hcore, ?_, ?_, ?_⟩
  · rw [hu]
    exact Core.line?_dropLine_of_none hnone _
  · rw [hu, Core.line?_dropLine_self]
  · exact (Core.line?_eq_none.mp hnone x (State.mem_of_victim hx)).symm

/-! ## Fills and pushes (10 R216, R220, R222) -/

section
variable {s : State} {i : Nat} {n : NetMsg} {core line : Nat} {data : List Byte} (hd : Due s i n)
include hd

theorem fillReceiveStep_of {drop : Bool} (hm : n.msg = .fill core line data drop) :
    fillReceiveStep i s = ((s.taken i).install core line data drop).getD s := by
  unfold Due at hd
  simp only [fillReceiveStep, hd, hm]

theorem pushReceiveStep_of {ack : Nat} (hm : n.msg = .push core line data ack) :
    pushReceiveStep i s = ((s.taken i).pushIn core line data ack).getD s := by
  unfold Due at hd
  simp only [pushReceiveStep, hd, hm]

end

theorem State.install_of_none {s : State} {core line : Nat} (hdead : (s.core core).dead = false)
    (hnone : (s.core core).line? line = none) (data : List Byte) (drop : Bool) :
    s.install core line data drop = (s.makeRoom core).map (fun u => u.filled core line data drop) := by
  rw [State.install, hdead, hnone]
  rfl

/-- The answer to a push that is not installed. -/
def State.refused (s : State) (core line ack : Nat) : State :=
  (s.modCore core (fun c => { c with refcnt := (c.refcnt + 1) % 2 ^ 32 })).send (.pushReply core line false ack)

theorem State.pushIn_of_none {s : State} {core line : Nat} (hnone : (s.core core).line? line = none) (data : List Byte)
    (ack : Nat) : s.pushIn core line data ack =
      if (s.core core).injcnt ≥ 512 then some (s.refused core line ack)
      else (s.makeRoom core).map (fun u => u.pushed core line data ack) := by
  rw [State.pushIn, hnone]
  rfl

theorem State.pushIn_of_held {s : State} {core line : Nat} {x : L1Line} (hx : (s.core core).line? line = some x)
    (data : List Byte) (ack : Nat) : s.pushIn core line data ack =
      some (if x.st = .c then s.refused core line ack else s.send (.pushReply core line true ack)) := by
  rw [State.pushIn, hx]
  rfl

theorem l1Only_refused (s : State) (core line ack : Nat) : L1Only s (s.refused core line ack) := rfl

@[simp] theorem State.refused_msgs (s : State) (core line ack : Nat) :
    (s.refused core line ack).msgs = s.msgs ++ [.pushReply core line false ack] := State.send_msgs _ _

theorem State.refused_core {s : State} {core : Nat} (h : core < s.cores.length) (line ack : Nat) :
    (s.refused core line ack).core core = { s.core core with refcnt := ((s.core core).refcnt + 1) % 2 ^ 32 } :=
  State.core_modCore_self _ _ _ h

section
variable {s : State} {i : Nat} {n : NetMsg} {core line : Nat} {data : List Byte} (hd : Due s i n)
  (hnone : (s.core core).line? line = none)
include hd hnone

/-- A fill of a line that is not held goes where there is room. -/
theorem fillReceiveStep_installs {drop : Bool} (hm : n.msg = .fill core line data drop) (hdead : (s.core core).dead = false) :
    fillReceiveStep i s = (((s.taken i).makeRoom core).map (fun u => u.filled core line data drop)).getD s := by
  rw [fillReceiveStep_of hd hm, State.install_of_none (s := s.taken i) hdead hnone]

/-- So does a push, while fewer than 512 lines are injected. -/
theorem pushReceiveStep_installs {ack : Nat} (hm : n.msg = .push core line data ack) (hinj : (s.core core).injcnt < 512) :
    pushReceiveStep i s = (((s.taken i).makeRoom core).map (fun u => u.pushed core line data ack)).getD s := by
  rw [pushReceiveStep_of hd hm, State.pushIn_of_none (s := s.taken i) hnone, if_neg (by simpa using hinj)]

section
variable (hfull : (s.core core).l1.length ≥ 2048) (hv : (s.taken i).victim core = none)
include hfull hv

/-- A fill into a full L1 waits while no line can give way. -/
theorem fill_waits {drop : Bool} (hm : n.msg = .fill core line data drop) (hdead : (s.core core).dead = false) :
    Steps (.fillReceive i) s s := by
  refine step_of rfl ?_
  rw [fillReceiveStep_installs hd hnone hm hdead, State.makeRoom_of_full (s := s.taken i) hfull, hv]
  rfl

/-- So does a push. -/
theorem push_waits {ack : Nat} (hm : n.msg = .push core line data ack) (hinj : (s.core core).injcnt < 512) :
    Steps (.pushReceive i) s s := by
  refine step_of rfl ?_
  rw [pushReceiveStep_installs hd hnone hm hinj, State.makeRoom_of_full (s := s.taken i) hfull, hv]
  rfl

end

end

section
variable {s : State} {i : Nat} {n : NetMsg} {core line : Nat} {data : List Byte} (hd : Due s i n)
  (hcore : core < s.cores.length)
include hd hcore

section
variable (hnone : (s.core core).line? line = none)
include hnone

/-- A fill where there is room. -/
theorem fill_installed {drop : Bool} (hm : n.msg = .fill core line data drop) (hdead : (s.core core).dead = false)
    (hroom : (s.core core).l1.length < 2048) : ∃ t, Steps (.fillReceive i) s t ∧ MemKept s t ∧ t.w = s.w
      ∧ t.waves = s.waves ∧ ∃ x, (t.core core).line? line = some x ∧ x.st = .s ∧ x.drop = drop := by
  have hstep : fillReceiveStep i s = (s.taken i).filled core line data drop := by
    rw [fillReceiveStep_installs hd hnone hm hdead, State.makeRoom_of_room (s := s.taken i) hroom]
    rfl
  have hone : L1Only s ((s.taken i).filled core line data drop) := L1Only.of_net (l1Only_filled (s.taken i) core line data drop)
  exact ⟨_, step_of rfl hstep, hone.memKept, hone.w, hone.waves, State.filled_line (u := s.taken i) hcore hnone data drop⟩

/-- A push where there is room. -/
theorem push_installed {ack : Nat} (hm : n.msg = .push core line data ack) (hinj : (s.core core).injcnt < 512)
    (hroom : (s.core core).l1.length < 2048) : ∃ t, Steps (.pushReceive i) s t ∧ MemKept s t
      ∧ (t.core core).injcnt = (s.core core).injcnt + 1
      ∧ (∃ x, (t.core core).line? line = some x ∧ x.st = .p ∧ x.data = data)
      ∧ t.msgs = (s.taken i).msgs ++ [.pushReply core line true ack] := by
  have hstep : pushReceiveStep i s = (s.taken i).pushed core line data ack := by
    rw [pushReceiveStep_installs hd hnone hm hinj, State.makeRoom_of_room (s := s.taken i) hroom]
    rfl
  exact ⟨_, step_of rfl hstep, (L1Only.of_net (l1Only_pushed (s.taken i) core line data ack)).memKept,
    by rw [State.pushed_core (u := s.taken i) hcore]; rfl, State.pushed_line (u := s.taken i) hcore hnone data ack,
    State.pushed_msgs _ _ _ _ _⟩

/-- A push that finds the injected lines full. -/
theorem push_refused_full {ack : Nat} (hm : n.msg = .push core line data ack) (hinj : (s.core core).injcnt ≥ 512) :
    ∃ t, Steps (.pushReceive i) s t ∧ MemKept s t ∧ (t.core core).l1 = (s.core core).l1
      ∧ (t.core core).refcnt = ((s.core core).refcnt + 1) % 2 ^ 32
      ∧ t.msgs = (s.taken i).msgs ++ [.pushReply core line false ack] := by
  have hstep : pushReceiveStep i s = (s.taken i).refused core line ack := by
    rw [pushReceiveStep_of hd hm, State.pushIn_of_none (s := s.taken i) hnone,
      if_pos (show ((s.taken i).core core).injcnt ≥ 512 from hinj)]
    rfl
  have hcore' := State.refused_core (s := s.taken i) hcore line ack
  exact ⟨_, step_of rfl hstep, (L1Only.of_net (l1Only_refused (s.taken i) core line ack)).memKept, by rw [hcore']; rfl,
    by rw [hcore']; rfl, State.refused_msgs _ _ _ _⟩

section
variable (hfull : (s.core core).l1.length ≥ 2048)
include hfull

/-- A fill into a full L1 where a line gives way. -/
theorem fill_evicts {drop : Bool} {x : L1Line} (hm : n.msg = .fill core line data drop) (hdead : (s.core core).dead = false)
    (hv : (s.taken i).victim core = some x) : ∃ t, Steps (.fillReceive i) s t ∧ MemKept s t
      ∧ (∃ y, (t.core core).line? line = some y ∧ y.st = .s ∧ y.drop = drop) ∧ (t.core core).line? x.line = none
      ∧ t.msgs = (s.taken i).msgs ++ [x.leaving core] := by
  have hstep : fillReceiveStep i s = ((s.taken i).evict core x).filled core line data drop := by
    rw [fillReceiveStep_installs hd hnone hm hdead, State.makeRoom_of_full (s := s.taken i) hfull, hv]
    rfl
  obtain ⟨hmsgs, hlen, hgone, hxgone, hne⟩ := State.evict_spec (s := s.taken i) hcore hnone hv
  have hone := (l1Only_evict (s.taken i) core x).trans (l1Only_filled _ core line data drop)
  exact ⟨_, step_of rfl hstep, (L1Only.of_net hone).memKept, State.filled_line hlen hgone data drop,
    State.filled_other hlen hne hxgone data drop, hmsgs⟩

/-- A push into a full L1 where a line gives way. -/
theorem push_evicts {ack : Nat} {x : L1Line} (hm : n.msg = .push core line data ack) (hinj : (s.core core).injcnt < 512)
    (hv : (s.taken i).victim core = some x) : ∃ t, Steps (.pushReceive i) s t ∧ MemKept s t
      ∧ (∃ y, (t.core core).line? line = some y ∧ y.st = .p ∧ y.data = data) ∧ (t.core core).line? x.line = none
      ∧ t.msgs = (s.taken i).msgs ++ [x.leaving core, .pushReply core line true ack] := by
  have hstep : pushReceiveStep i s = ((s.taken i).evict core x).pushed core line data ack := by
    rw [pushReceiveStep_installs hd hnone hm hinj, State.makeRoom_of_full (s := s.taken i) hfull, hv]
    rfl
  obtain ⟨hmsgs, hlen, hgone, hxgone, hne⟩ := State.evict_spec (s := s.taken i) hcore hnone hv
  have hone := (l1Only_evict (s.taken i) core x).trans (l1Only_pushed _ core line data ack)
  refine ⟨_, step_of rfl hstep, (L1Only.of_net hone).memKept, State.pushed_line hlen hgone data ack,
    State.pushed_other hlen hne hxgone data ack, ?_⟩
  rw [State.pushed_msgs, hmsgs, List.append_assoc]
  rfl

end

end

/-- A push of a line that the core holds: kept, or refused in state C. -/
theorem push_held {ack : Nat} {x : L1Line} (hx : (s.core core).line? line = some x) (hm : n.msg = .push core line data ack) :
    ∃ t, Steps (.pushReceive i) s t ∧ MemKept s t ∧ (t.core core).l1 = (s.core core).l1
      ∧ (t.core core).refcnt = (if x.st = .c then ((s.core core).refcnt + 1) % 2 ^ 32 else (s.core core).refcnt)
      ∧ t.msgs = (s.taken i).msgs ++ [.pushReply core line (decide (x.st ≠ .c)) ack] := by
  have hstep : pushReceiveStep i s = if x.st = .c then (s.taken i).refused core line ack
      else (s.taken i).send (.pushReply core line true ack) := by
    rw [pushReceiveStep_of hd hm, State.pushIn_of_held (s := s.taken i) hx]
    rfl
  refine ⟨_, step_of rfl hstep, ?_⟩
  by_cases hc : x.st = .c
  · have hcore' := State.refused_core (s := s.taken i) hcore line ack
    rw [if_pos hc, if_pos hc, hcore', State.refused_msgs, decide_eq_false (not_not.mpr hc)]
    exact ⟨(L1Only.of_net (l1Only_refused (s.taken i) core line ack)).memKept, rfl, rfl, rfl⟩
  · rw [if_neg hc, if_neg hc, State.send_msgs, decide_eq_true hc]
    exact ⟨fun _ => rfl, rfl, rfl, rfl⟩

end

end Sys2Proof.Machine
end

section
/-! Messages about a line that a core holds: updates, notices and probes (10 R218, R220, R225). -/
namespace Sys2Proof.Machine
open Sys2Proof.Claims

/-! ## Updates and notices (10 R218, R220) -/

section
variable {c : Core} {line : Nat} {x : L1Line} (hx : c.line? line = some x) (hc : x.st ≠ .c) {data : List (Nat × Byte)}
include hx hc

theorem Core.record_of_room (h : c.pend.length + (sectorsOf line data).length ≤ 512) :
    c.record line data = { c with pend := c.pend ++ sectorsOf line data } := by
  simp only [Core.record, hx, hc, if_false, if_neg (Nat.not_lt.mpr h)]

theorem Core.record_of_full (h : c.pend.length + (sectorsOf line data).length > 512) :
    c.record line data = c.modLine line (fun x => { x with drop := true }) := by
  simp only [Core.record, hx, hc, if_false, if_pos h]

end

/-- A core that has recorded an update is awaited no longer, and nothing but messages follows. -/
theorem State.recorded_spec (s : State) (ack core : Nat) :
    (s.recorded ack core).mem = s.mem ∧ (s.recorded ack core).cores = s.cores
      ∧ ∀ a ∈ (s.recorded ack core).acks, a.id = ack → core ∉ a.wait := by
  obtain ⟨⟨k, l, hframe⟩, hacks⟩ := s.settled_spec ack (fun x => { x with wait := x.wait.filter (fun c => c != core) })
  refine ⟨?_, ?_, fun a ha hid => ?_⟩
  · rw [State.recorded, hframe]
  · rw [State.recorded, hframe]
  · obtain ⟨x, -, hw, -⟩ := hacks a ha hid
    rw [hw]
    simp

section
variable {s : State} {i : Nat} {n : NetMsg} {core line : Nat} {x : L1Line} (hd : Due s i n) (hcore : core < s.cores.length)
  (hx : (s.core core).line? line = some x) (hc : x.st ≠ .c)
include hd hcore hx hc

/-- An update of a copy is recorded, or marks the copy where the pending-update array is full. -/
theorem update_recorded {data : List (Nat × Byte)} {ack : Nat} (hm : n.msg = .update core line data ack false) :
    ∃ t, Steps (.updateReceive i) s t ∧ MemKept s t ∧ (∀ a ∈ t.acks, a.id = ack → core ∉ a.wait)
      ∧ ((s.core core).pend.length + (sectorsOf line data).length ≤ 512 →
          (t.core core).pend = (s.core core).pend ++ sectorsOf line data ∧ (t.core core).l1 = (s.core core).l1)
      ∧ ((s.core core).pend.length + (sectorsOf line data).length > 512 →
          (t.core core).pend = (s.core core).pend ∧ (t.core core).line? line = some { x with drop := true }) := by
  have hstep : updateReceiveStep i s = ((s.taken i).modCore core (fun c => c.record line data)).recorded ack core := by
    unfold Due at hd
    simp only [updateReceiveStep, hd, hm, Bool.false_eq_true, if_false]
  obtain ⟨hmem, hcores, hacks⟩ := State.recorded_spec ((s.taken i).modCore core (fun c => c.record line data)) ack core
  have hcore' := (State.core_congr hcores core).trans (State.core_modCore_self (s.taken i) core _ hcore)
  refine ⟨_, step_of rfl hstep, fun a => by rw [hmem]; rfl, hacks, fun hroom => ?_, fun hfull => ?_⟩
  · rw [hcore', State.taken_core, Core.record_of_room hx hc hroom]
    exact ⟨rfl, rfl⟩
  · rw [hcore', State.taken_core, Core.record_of_full hx hc hfull,
      Core.line?_modLine_self _ _ (fun x => { x with drop := true }) (fun _ => rfl), hx]
    exact ⟨rfl, rfl⟩

/-- A notice marks a copy, and is answered. -/
theorem notice_marks (hm : n.msg = .notice core line) : ∃ t, Steps (.rangeOpenNotice i) s t ∧ MemKept s t
    ∧ (t.core core).line? line = some { x with drop := true }
    ∧ t.msgs = (s.taken i).msgs ++ [.noticeReply core line] := by
  have hstep : rangeOpenNoticeStep i s = ((s.taken i).modCore core (fun c =>
      c.modLine line (fun x => if x.st = .c then x else { x with drop := true }))).send (.noticeReply core line) := by
    unfold Due at hd
    simp only [rangeOpenNoticeStep, hd, hm]
  refine ⟨_, step_of rfl hstep, fun _ => rfl, ?_, State.send_msgs _ _⟩
  rw [State.send_core, State.core_modCore_self (s.taken i) _ _ hcore, State.taken_core, Core.line?_modLine_self, hx,
    Option.map_some, if_neg hc]
  intro y
  split <;> rfl

end

/-! ## Probes (10 R225) -/

/-- A partial of the line that the core evicted is on its way to the home. -/
def State.evictedOnWay (s : State) (core line : Nat) : Bool :=
  s.net.any (fun m => match m.msg with | .evicted c l _ _ => c == core && l == line | _ => false)

theorem State.evictedOnWay_iff (s : State) (core line : Nat) :
    s.evictedOnWay core line = true ↔ ∃ m ∈ s.net, ∃ ws tm, m.msg = .evicted core line ws tm := by
  unfold State.evictedOnWay
  rw [List.any_eq_true]
  refine exists_congr fun m => and_congr_right fun _ => ?_
  cases m.msg with
  | evicted c l ws tm => simp
  | _ => simp

theorem State.giveUp_of_partial {s : State} {core line : Nat} {x : L1Line} (hx : (s.core core).line? line = some x)
    (hc : x.st = .c) : s.giveUp core line = (s.modCore core (fun c => c.dropLine line)).modDir line (fun d => { d with
      parts := d.parts ++ [{ agent := core, words := lineWords x.data, touched := x.touched }] }) := by
  simp only [State.giveUp, hx, hc, if_true]

theorem State.giveUp_of_no_partial {s : State} {core line : Nat} (h : ∀ x, (s.core core).line? line = some x → x.st ≠ .c) :
    s.giveUp core line = s := by
  unfold State.giveUp
  split
  · next x hx => exact if_neg (h x hx)
  · rfl

/-- A fold awaits one core less. -/
def DirEntry.probed (d : DirEntry) (core : Nat) : DirEntry :=
  { d with fold := d.fold.map (fun f => { f with cores := f.cores.filter (fun c => c != core) }) }

section
variable {s : State} {i : Nat} {n : NetMsg} {core line : Nat} (hd : Due s i n) (hm : n.msg = .probe core line)
include hd hm

theorem foldProbeStep_of : foldProbeStep i s = if s.evictedOnWay core line then s
    else ((s.taken i).giveUp core line).modDir line (fun d => d.probed core) := by
  unfold Due at hd
  simp only [foldProbeStep, hd, hm]
  rfl

/-- A probe stays behind a partial that the core evicted. -/
theorem probe_waits (h : ∃ m ∈ s.net, ∃ ws tm, m.msg = .evicted core line ws tm) : Steps (.foldProbe i) s s :=
  step_of rfl ((foldProbeStep_of hd hm).trans (if_pos ((s.evictedOnWay_iff core line).mpr h)))

theorem foldProbeStep_taken (h : ∀ m ∈ s.net, ∀ ws tm, m.msg ≠ .evicted core line ws tm) :
    foldProbeStep i s = ((s.taken i).giveUp core line).modDir line (fun d => d.probed core) := by
  refine (foldProbeStep_of hd hm).trans (if_neg fun hway => ?_)
  obtain ⟨m, hmem, ws, tm, hevicted⟩ := (s.evictedOnWay_iff core line).mp hway
  exact h m hmem ws tm hevicted

/-- A core without a partial only answers. -/
theorem probe_answered (h : ∀ m ∈ s.net, ∀ ws tm, m.msg ≠ .evicted core line ws tm)
    (hc : ∀ x, (s.core core).line? line = some x → x.st ≠ .c) :
    Steps (.foldProbe i) s ((s.taken i).modDir line (fun d => d.probed core)) := by
  refine step_of rfl ?_
  rw [foldProbeStep_taken hd hm h, State.giveUp_of_no_partial (s := s.taken i) hc]

/-- A core gives up its partial. -/
theorem probe_takes {x : L1Line} (hcore : core < s.cores.length) (hx : (s.core core).line? line = some x) (hc : x.st = .c)
    (h : ∀ m ∈ s.net, ∀ ws tm, m.msg ≠ .evicted core line ws tm) :
    ∃ t, Steps (.foldProbe i) s t ∧ MemKept s t ∧ (t.core core).line? line = none
      ∧ (t.dirOf line).parts = (s.dirOf line).parts ++ [{ agent := core, words := lineWords x.data, touched := x.touched }]
      ∧ (t.dirOf line).fold = (s.dirOf line).fold.map (fun f => { f with cores := f.cores.filter (fun c => c != core) }) := by
  have hstep := (foldProbeStep_taken hd hm h).trans (congrArg (fun u => State.modDir u line (fun d => d.probed core))
    (State.giveUp_of_partial (s := s.taken i) hx hc))
  refine ⟨_, step_of rfl hstep, fun _ => rfl, ?_, ?_⟩
  · rw [State.modDir_core, State.modDir_core, State.core_modCore_self (s.taken i) _ _ hcore, Core.line?_dropLine_self]
  · rw [State.dirOf_modDir_self, State.dirOf_modDir_self]
    exact ⟨rfl, rfl⟩

end

end Sys2Proof.Machine
end

section
/-! Answers that reach an operation of a wave: acknowledgements, loaded bytes and filled LQ entries (10 R218; 11 R238, R240,
R250). -/
namespace Sys2Proof.Machine
open Sys2Proof.Claims

/-! ## One operation of a wave changed -/

/-- The operations under a number changed. -/
def Wave.mapOp (w : Wave) (id : Nat) (f : Op → Op) : Wave :=
  { w with ops := w.ops.map (fun (o : Op) => if o.id = id then f o else o) }

theorem Wave.find?_mapOp (w : Wave) (id : Nat) {f : Op → Op} (hf : ∀ o, (f o).id = o.id) :
    (w.mapOp id f).ops.find? (fun o => o.id == id) = (w.ops.find? (fun o => o.id == id)).map f :=
  find?_map_ite w.ops _ _ f (by simp) (fun o ho => (hf o).trans ho)

theorem Wave.mapOp_mapOp (w : Wave) (id : Nat) {f : Op → Op} (g : Op → Op) (hf : ∀ o, (f o).id = o.id) :
    (w.mapOp id f).mapOp id g = w.mapOp id (fun o => g (f o)) := by
  simp only [Wave.mapOp, List.map_map]
  refine congrArg (fun l => { w with ops := l }) (List.map_congr_left fun o _ => ?_)
  by_cases ho : o.id = id <;> simp [ho, hf]

/-- A single operation that has finished, its writes acknowledged, leaves the list. -/
theorem Wave.prune_single {w : Wave} {o : Op} (hops : w.ops = [o]) (hdone : o.done = true) (hall : o.leftAll = 0) :
    w.prune.ops = [] ∧ ∀ c, w.prune.counter c = 0 := by
  have hnone (c : OpCls) : w.opsOf c = [] := by
    simp only [Wave.opsOf, hops, List.dropWhile_eq_nil_iff, List.mem_filter, List.mem_singleton]
    rintro x ⟨rfl, -⟩
    exact hdone
  have hgone : w.prune.ops = [] := by simp [Wave.prune, hnone, hops, hall]
  refine ⟨hgone, fun c => ?_⟩
  rw [Wave.counter, Wave.opsOf, hgone]
  rfl

theorem Wave.prune_mapOp_single {w : Wave} {o : Op} {id : Nat} (hops : w.ops = [o]) (hid : o.id = id) {f : Op → Op}
    (hdone : (f o).done = true) (hall : (f o).leftAll = 0) :
    (w.mapOp id f).prune.ops = [] ∧ ∀ c, (w.mapOp id f).prune.counter c = 0 :=
  Wave.prune_single (by simp [Wave.mapOp, hops, hid]) hdone hall

/-! ## A resident wave changed -/

theorem State.modWave_modWave (s : State) (c k : Nat) {f : Wave → Wave} (g : Wave → Wave)
    (hf : ∀ w, (f w).core = w.core ∧ (f w).slot = w.slot) :
    (s.modWave c k f).modWave c k g = s.modWave c k (fun w => g (f w)) := by
  unfold State.modWave
  by_cases h : s.w.core = c ∧ s.w.slot = k
  · simp [h, hf]
  · simp only [h, if_false, List.map_map]
    refine congrArg (fun l => { s with waves := l }) (List.map_congr_left fun w _ => ?_)
    by_cases hw : w.core = c ∧ w.slot = k <;> simp [hw, hf]

theorem State.modOp_eq (s : State) (c k id : Nat) (f : Op → Op) :
    s.modOp c k id f = s.modWave c k (fun w => (w.mapOp id f).prune) := rfl

/-- An operation changed, then its wave, then the operation ended. -/
theorem State.modWave_finish (s : State) (c k id : Nat) (f h : Op → Op) {g : Wave → Wave}
    (hg : ∀ w, (g w).core = w.core ∧ (g w).slot = w.slot) :
    ((s.modWave c k (fun w => w.mapOp id f)).modWave c k g).modOp c k id h =
      s.modWave c k (fun w => ((g (w.mapOp id f)).mapOp id h).prune) := by
  rw [State.modWave_modWave s c k (f := fun w => w.mapOp id f) g (fun _ => ⟨rfl, rfl⟩), State.modOp_eq,
    State.modWave_modWave s c k (f := fun w => g (w.mapOp id f)) _ (fun w => hg (w.mapOp id f))]

theorem State.wave?_congr {s t : State} (hw : t.w = s.w) (hwaves : t.waves = s.waves) (c k : Nat) :
    t.wave? c k = s.wave? c k := by
  rw [State.wave?, hw, hwaves, State.wave?]

/-- Operations that end with an acquire, or without. -/
def State.acquires (s : State) (core : Nat) (acq : Bool) : State := if acq then s.acquire core else s

theorem l1Only_acquires (s : State) (core : Nat) (acq : Bool) : L1Only s (s.acquires core acq) := by
  cases acq with
  | false => rfl
  | true => exact l1Only_acquire s core

/-! ## Acknowledgements (10 R218) -/

/-- An operation acknowledged once more. -/
def Op.acked (o : Op) (all : Bool) : Op :=
  if all then { o with leftAll := o.leftAll - 1 } else { o with leftDie := o.leftDie - 1 }

theorem Op.acked_id (o : Op) (all : Bool) : (o.acked all).id = o.id := by cases all <;> rfl

/-- An operation that has performed. -/
def Op.finished (o : Op) : Op := { o with done := true }

section
variable {s : State} {i : Nat} {n : NetMsg} {all : Bool} (hd : Due s i n)
include hd

theorem ack_sensor {k : Nat} (hm : n.msg = .ack (.sensor k) all) : Steps (.storeAck i) s
    (if all then { s.taken i with sensors := modAt s.sensors k (fun x => { x with writes := x.writes - 1 }) }
     else s.taken i) := by
  refine step_of rfl ?_
  unfold Due at hd
  simp only [storeAckStep, hd, hm]
  rfl

theorem ack_job {die id : Nat} (hm : n.msg = .ack (.job die id) all) : Steps (.storeAck i) s
    ((s.taken i).modDie die (fun d => { d with jobs := d.jobs.map (fun (j : Job) =>
      if j.id = id ∧ all = decide (j.scope ≠ 2) then { j with acks := j.acks - 1 } else j) })) := by
  refine step_of rfl ?_
  unfold Due at hd
  simp only [storeAckStep, hd, hm]

theorem storeAckStep_wave {core slot id : Nat} (hm : n.msg = .ack (.wave core slot id) all) :
    storeAckStep i s = (s.taken i).ackWave core slot id all := by
  unfold Due at hd
  simp only [storeAckStep, hd, hm]

end

section
variable {s : State} {core slot id : Nat} {w : Wave} {o : Op} (hw : s.wave? core slot = some w)
  (ho : w.ops.find? (fun o => o.id == id) = some o)
include hw ho

/-- The operation as an answer has changed it. -/
theorem State.find?_modWave_mapOp {f : Op → Op} (hf : ∀ o, (f o).id = o.id) :
    ((s.modWave core slot (fun w => w.mapOp id f)).wave? core slot).bind (fun w => w.ops.find? (fun o => o.id == id)) =
      some (f o) := by
  rw [State.wave?_modWave s core slot (fun w => w.mapOp id f) (fun _ => rfl) (fun _ => rfl), hw, Option.map_some,
    Option.bind_some, Wave.find?_mapOp w id hf, ho, Option.map_some]

/-- An acknowledgement that others are to follow. -/
theorem State.ackWave_of_more {all : Bool} (h : (o.acked all).leftAll ≠ 0) :
    s.ackWave core slot id all = s.modWave core slot (fun w => w.mapOp id (fun o => o.acked all)) := by
  have hfind := State.find?_modWave_mapOp hw ho (fun o => o.acked_id all)
  unfold State.ackWave
  simp only [Wave.mapOp, Op.acked] at hfind h ⊢
  rw [hfind]
  exact if_pos h

/-- The last acknowledgement of a store without poisoned lanes ends it. -/
theorem State.ackWave_of_last (h : o.leftAll = 1) (hbad : o.bad = []) (hcls : o.cls = .laneSt ∨ o.cls = .leadSt) :
    s.ackWave core slot id true = (s.modWave core slot (fun w => (w.mapOp id (fun o => (o.acked true).finished)).prune)).acquires
      core o.acq := by
  have hfind := State.find?_modWave_mapOp hw ho (fun o => o.acked_id true)
  have hends : s.ackWave core slot id true = (((s.modWave core slot (fun w => w.mapOp id (fun o => o.acked true))).modWave core
      slot (fun w => w)).modOp core slot id Op.finished).acquires core o.acq := by
    unfold State.ackWave
    simp only [Wave.mapOp, Op.acked] at hfind ⊢
    rw [hfind]
    simp only [if_true, h, hbad]
    rcases hcls with hc | hc <;> simp only [hc] <;> cases o.acq <;> rfl
  rw [hends, State.modWave_finish s core slot id _ _ (fun _ => ⟨rfl, rfl⟩)]
  refine congrArg (fun f => (s.modWave core slot f).acquires core o.acq) (funext fun w => ?_)
  rw [Wave.mapOp_mapOp w id _ (fun o => o.acked_id true)]

end

/-! ## Values written to lane registers (11 R240) -/

theorem Wave.getV_loadRegs (w : Wave) (base code : Nat) {lane : Nat} (bs : List Byte) (n r l : Nat) (hlane : lane < 64)
    (hl : l < 64) : (w.loadRegs base code lane bs n).getV r l =
      if (base ≤ r ∧ r < base + n) ∧ l = lane then loadWord code bs (r - base) % 2 ^ 32 else w.getV r l := by
  induction n with
  | zero => rw [if_neg (by omega)]; rfl
  | succ n ih =>
    rw [Wave.loadRegs, Wave.getV_setV _ _ _ _ _ _ hlane hl, ih]
    by_cases hlast : r = base + n ∧ l = lane
    · obtain ⟨rfl, rfl⟩ := hlast
      rw [if_pos ⟨rfl, rfl⟩, if_pos (by omega), Nat.add_sub_cancel_left]
    · rw [if_neg hlast]
      exact if_congr (by omega) rfl rfl

theorem Wave.loadRegs_frame (w : Wave) (base code lane : Nat) (bs : List Byte) (n : Nat) : w.loadRegs base code lane bs n =
    { w with v := (w.loadRegs base code lane bs n).v, sect := (w.loadRegs base code lane bs n).sect } := by
  induction n with
  | zero => rfl
  | succ n ih => rw [Wave.loadRegs, ih]; rfl

section
variable (w : Wave) (d k act code : Nat) (got : List (Nat × List Byte))

theorem Wave.loadInto_lanes_frame : w.loadInto (.lanes d k act code) got =
    { w with v := (w.loadInto (.lanes d k act code) got).v, sect := (w.loadInto (.lanes d k act code) got).sect } := by
  induction got generalizing w with
  | nil => rfl
  | cons p rest ih =>
    rw [Wave.loadInto, ih, Wave.loadRegs_frame]

variable {got} (hlanes : ∀ p ∈ got, p.1 < 64)
include hlanes

/-- Registers that a load does not name, and lanes that it does not serve, keep their values. -/
theorem Wave.getV_loadInto_other {r l : Nat} (hl : l < 64) (h : ¬ (d ≤ r ∧ r < d + k) ∨ ∀ p ∈ got, p.1 ≠ l) :
    (w.loadInto (.lanes d k act code) got).getV r l = w.getV r l := by
  induction got generalizing w with
  | nil => rfl
  | cons p rest ih =>
    obtain ⟨hp, hrest⟩ := List.forall_mem_cons.mp hlanes
    rw [Wave.loadInto, ih _ hrest (h.imp_right fun h q hq => h q (List.mem_cons_of_mem _ hq)),
      Wave.getV_loadRegs _ _ _ _ _ _ _ hp hl, if_neg]
    rintro ⟨hr, rfl⟩
    exact h.elim (fun h => h hr) fun h => h p List.mem_cons_self rfl

/-- Each lane's registers hold the words of its bytes. -/
theorem Wave.getV_loadInto (hnodup : (got.map (fun p => p.1)).Nodup) {p : Nat × List Byte} (hp : p ∈ got) {j : Nat}
    (hj : j < k) : (w.loadInto (.lanes d k act code) got).getV (d + j) p.1 = loadWord code p.2 j % 2 ^ 32 := by
  induction got generalizing w with
  | nil => exact absurd hp List.not_mem_nil
  | cons q rest ih =>
    obtain ⟨hq, hrest⟩ := List.forall_mem_cons.mp hlanes
    rw [List.map_cons, List.nodup_cons] at hnodup
    rw [Wave.loadInto]
    rcases List.mem_cons.mp hp with rfl | hp
    · rw [Wave.getV_loadInto_other _ _ _ _ _ hrest hq (.inr fun x hx he => hnodup.1 (List.mem_map.mpr ⟨x, hx, he⟩)),
        Wave.getV_loadRegs _ _ _ _ _ _ _ hq hq, if_pos ⟨by omega, rfl⟩, Nat.add_sub_cancel_left]
    · exact ih _ hrest hnodup.2 hp

end

/-! ## Loaded bytes (11 R238, R250) -/

/-- An operation to which bytes have returned, or lanes that are poisoned. -/
def Op.received (o : Op) (data : List (Nat × List Byte)) (poison : Option Nat) : Op :=
  match poison with
  | some va => { o with left := o.left - 1, bad := o.bad ++ data.map (fun p => (p.1, va)) }
  | none => { o with left := o.left - 1, got := o.got ++ data }

theorem Op.received_id (o : Op) (data : List (Nat × List Byte)) (poison : Option Nat) : (o.received data poison).id = o.id := by
  cases poison <;> rfl

theorem loadReturnStep_of {s : State} {i : Nat} {n : NetMsg} {core slot op line : Nat} {data : List (Nat × List Byte)}
    {poison : Option Nat} (hd : Due s i n) (hm : n.msg = .ret core slot op line data [] poison) : loadReturnStep i s =
      ((s.taken i).modWave core slot (fun w => w.mapOp op (fun o => o.received data poison))).loadDone core slot op := by
  unfold Due at hd
  simp only [loadReturnStep, hd, hm]
  cases ((s.taken i).core core).line? line with
  | none => rfl
  | some x =>
    simp only [ne_eq, not_true, and_false, if_false]
    rfl

/-- The end of a load: its values written, or POISON posted. -/
def Wave.loadFin (w : Wave) (o : Op) : Wave :=
  match minBy (fun (p : Nat × Nat) => p.1) o.bad with
  | some (_, va) => w.post o causePoison o.badLanes va 0
  | none => w.loadInto o.dst o.got

section
variable {s : State} {core slot id : Nat} {w : Wave} {o : Op} (hw : s.wave? core slot = some w)
  (ho : w.ops.find? (fun o => o.id == id) = some o)
include hw ho

theorem State.loadDone_eq : s.loadDone core slot id = if (o.left ≠ 0 || o.dst.isLq) = true then s
    else ((s.modWave core slot (fun w => w.loadFin o)).modOp core slot id Op.finished).acquires core o.acq := by
  simp only [State.loadDone, hw, ho]
  rfl

end

theorem minBy_eq_none {β : Type} {key : β → Nat} {l : List β} : minBy key l = none ↔ l = [] := by
  cases l with
  | nil => simp [minBy]
  | cons x rest =>
    rw [minBy]
    cases minBy key rest with
    | none => simp
    | some y => dsimp only; split <;> simp

theorem Wave.post_of_none {w : Wave} (o : Op) (h : w.deferred = none) (cause flanes taddr detail : Nat) :
    w.post o cause flanes taddr detail = { w with deferred := some (
      { cause := cause, op := o.id, cls := o.cls, flanes := flanes, taddr := taddr, tinfo := o.tinfo + detail,
        dst := o.dst, later := (w.ops.filter (fun x => decide (x.cls = o.cls ∧ x.id > o.id))).length,
        handler := w.inTrap && decide (o.id ≥ w.trapOp) } : Deferred) } := by
  rw [Wave.post, h]

theorem Wave.post_frame (w : Wave) (o : Op) (cause flanes taddr detail : Nat) : w.post o cause flanes taddr detail =
    { w with deferred := (w.post o cause flanes taddr detail).deferred } := by
  unfold Wave.post
  split <;> rfl

theorem Wave.loadFin_of_clean (w : Wave) {o : Op} (h : o.bad = []) : w.loadFin o = w.loadInto o.dst o.got := by
  rw [Wave.loadFin, h]
  rfl

theorem Wave.loadFin_of_poisoned (w : Wave) {o : Op} {p : Nat × Nat} (h : minBy (fun (p : Nat × Nat) => p.1) o.bad = some p) :
    w.loadFin o = w.post o causePoison o.badLanes p.2 0 := by
  rw [Wave.loadFin, h]

/-- The end of a load to lane registers changes those, or posts a fault. -/
theorem Wave.loadFin_frame (w : Wave) {o : Op} {d k act code : Nat} (h : o.dst = .lanes d k act code) : w.loadFin o =
    { w with v := (w.loadFin o).v, sect := (w.loadFin o).sect, deferred := (w.loadFin o).deferred } := by
  cases hbad : minBy (fun (p : Nat × Nat) => p.1) o.bad with
  | none =>
    have hclean : w.loadFin o = w.loadInto o.dst o.got := by rw [Wave.loadFin, hbad]
    rw [hclean, h, Wave.loadInto_lanes_frame]
  | some p => rw [Wave.loadFin_of_poisoned w hbad, Wave.post_frame]

/-- The wave of a load `o` when its last bytes have come under the number `op`. -/
def Wave.loadEnd (w : Wave) (op : Nat) (o : Op) (data : List (Nat × List Byte)) (poison : Option Nat) : Wave :=
  (((w.mapOp op (fun o => o.received data poison)).loadFin (o.received data poison)).mapOp op Op.finished).prune

section
variable {s : State} {i : Nat} {n : NetMsg} {core slot op line : Nat} {data : List (Nat × List Byte)} {poison : Option Nat}
  {w : Wave} {o : Op} (hd : Due s i n) (hm : n.msg = .ret core slot op line data [] poison)
  (hw : s.wave? core slot = some w) (ho : w.ops.find? (fun o => o.id == op) = some o)
include hd hm hw ho

theorem loadReturnStep_eq : loadReturnStep i s =
    let u := (s.taken i).modWave core slot (fun w => w.mapOp op (fun o => o.received data poison))
    let o' := o.received data poison
    if (o'.left ≠ 0 || o'.dst.isLq) = true then u
    else ((u.modWave core slot (fun w => w.loadFin o')).modOp core slot op Op.finished).acquires core o'.acq := by
  rw [loadReturnStep_of hd hm]
  refine State.loadDone_eq (w := w.mapOp op (fun o => o.received data poison)) ?_ ?_
  · rw [State.wave?_modWave _ _ _ (fun w => w.mapOp op (fun o => o.received data poison)) (fun _ => rfl) (fun _ => rfl)]
    exact congrArg (Option.map _) hw
  · rw [Wave.find?_mapOp w op (fun o => o.received_id data poison), ho]
    rfl

/-- Bytes that others are to follow. -/
theorem loadReturnStep_of_more (h : (o.received data poison).left ≠ 0) : loadReturnStep i s =
    (s.taken i).modWave core slot (fun w => w.mapOp op (fun o => o.received data poison)) :=
  (loadReturnStep_eq hd hm hw ho).trans (if_pos (by simp [h]))

/-- The last bytes of a load to lane registers. -/
theorem load_ends {d k act code : Nat} (hleft : (o.received data poison).left = 0)
    (hdst : (o.received data poison).dst = .lanes d k act code) : ∃ t, Steps (.loadReturn i) s t ∧ MemKept s t
      ∧ t.wave? core slot = some (w.loadEnd op o data poison) := by
  have hkeep (w : Wave) : (w.loadFin (o.received data poison)).core = w.core
      ∧ (w.loadFin (o.received data poison)).slot = w.slot := by rw [Wave.loadFin_frame w hdst]; exact ⟨rfl, rfl⟩
  have hstep := (loadReturnStep_eq hd hm hw ho).trans (if_neg (by simp [hleft, hdst, Dst.isLq]))
  rw [State.modWave_finish (s.taken i) core slot op _ _ hkeep] at hstep
  have hend := l1Only_acquires ((s.taken i).modWave core slot (fun w => w.loadEnd op o data poison)) core
    (o.received data poison).acq
  refine ⟨_, step_of rfl hstep, fun a => ?_, (State.wave?_congr hend.w hend.waves core slot).trans ?_⟩
  · exact congrArg (memByte · a) (hend.mem.trans (State.modWave_mem _ _ _ _))
  · rw [State.wave?_modWave _ core slot (fun w => w.loadEnd op o data poison) (fun w => (hkeep _).1) (fun w => (hkeep _).2)]
    exact congrArg (Option.map _) hw

/-- What a load to lane registers leaves when all its bytes have come. -/
theorem load_writes {d k act code : Nat} (hleft : o.left = 1) (hbad : o.bad = []) (hdst : o.dst = .lanes d k act code)
    (hp : poison = none) (hnodup : ((o.got ++ data).map (fun p => p.1)).Nodup) (hlanes : ∀ p ∈ o.got ++ data, p.1 < 64) :
    ∃ t x, Steps (.loadReturn i) s t ∧ MemKept s t ∧ t.wave? core slot = some x
      ∧ (∀ p ∈ o.got ++ data, ∀ j < k, x.getV (d + j) p.1 = loadWord code p.2 j % 2 ^ 32)
      ∧ (∀ r l, l < 64 → (¬ (d ≤ r ∧ r < d + k) ∨ ∀ p ∈ o.got ++ data, p.1 ≠ l) → x.getV r l = w.getV r l)
      ∧ x.deferred = w.deferred ∧ (w.ops = [o] → o.leftAll = 0 → x.ops = [] ∧ x.counter o.cls = 0) := by
  subst hp
  obtain ⟨t, hstep, hmem, hwave⟩ := load_ends hd hm hw ho (d := d) (k := k) (act := act) (code := code)
    (show o.left - 1 = 0 by omega) hdst
  have hfin : (w.mapOp op (fun o => o.received data none)).loadFin (o.received data none) =
      (w.mapOp op (fun o => o.received data none)).loadInto (.lanes d k act code) (o.got ++ data) := by
    rw [Wave.loadFin_of_clean _ (show (o.received data none).bad = [] from hbad), show (o.received data none).dst = _ from hdst]
    rfl
  have hid : o.id = op := by simpa using List.find?_some ho
  rw [Wave.loadEnd, hfin] at hwave
  refine ⟨t, _, hstep, hmem, hwave, fun p hp j hj => ?_, fun r l hl h => ?_, ?_, fun hops hall => ?_⟩
  · exact Wave.getV_loadInto _ d k act code hlanes hnodup hp hj
  · exact Wave.getV_loadInto_other (w.mapOp op (fun o => o.received data none)) d k act code hlanes hl h
  · rw [Wave.loadInto_lanes_frame]
    rfl
  · have hone : ((w.mapOp op (fun o => o.received data none)).loadInto (.lanes d k act code) (o.got ++ data)).ops =
        [o.received data none] := by
      rw [Wave.loadInto_lanes_frame]
      simp [Wave.mapOp, hops, hid]
    obtain ⟨hgone, hcount⟩ := Wave.prune_mapOp_single (f := Op.finished) hone ((o.received_id data none).trans hid) rfl hall
    exact ⟨hgone, hcount _⟩

/-- What a load to lane registers posts when its last bytes were poisoned. -/
theorem load_poisoned {d k act code va : Nat} (hleft : o.left = 1) (hbad : o.bad = []) (hdst : o.dst = .lanes d k act code)
    (hp : poison = some va) (hdata : data ≠ []) (hnone : w.deferred = none) (hcls : o.cls = .laneLd) :
    ∃ t x f, Steps (.loadReturn i) s t ∧ MemKept s t ∧ t.wave? core slot = some x ∧ x.v = w.v ∧ x.deferred = some f
      ∧ f.cause = 0x0B ∧ f.taddr = va ∧ f.flanes = maskOf (data.map (fun p => p.1)) ∧ f.op = op := by
  subst hp
  obtain ⟨t, hstep, hmem, hwave⟩ := load_ends hd hm hw ho (d := d) (k := k) (act := act) (code := code)
    (show o.left - 1 = 0 by omega) hdst
  have hlanes : (o.received data (some va)).bad = data.map (fun p => (p.1, va)) := by simp [Op.received, hbad]
  obtain ⟨q, hq, hva⟩ : ∃ q, minBy (fun (p : Nat × Nat) => p.1) (o.received data (some va)).bad = some q ∧ q.2 = va := by
    cases hmin : minBy (fun (p : Nat × Nat) => p.1) (o.received data (some va)).bad with
    | none => exact absurd (minBy_eq_none.mp (hlanes ▸ hmin)) (by simpa using hdata)
    | some q =>
      obtain ⟨p, -, rfl⟩ := List.mem_map.mp (hlanes ▸ minBy_mem hmin)
      exact ⟨_, rfl, rfl⟩
  rw [Wave.loadEnd, Wave.loadFin_of_poisoned _ hq, Wave.post_of_none _ (show (w.mapOp op _).deferred = none from hnone)] at hwave
  refine ⟨t, _, _, hstep, hmem, hwave, rfl, rfl, rfl, hva, ?_,
    (o.received_id data _).trans (by simpa using List.find?_some ho)⟩
  have hlane : (o.received data (some va)).cls = .laneLd := hcls
  simp [Op.badLanes, hlane, OpCls.stream, hlanes, Function.comp_def]

end

/-! ## LQ entries filled (02 R27; 11 R250) -/

/-- A load into an LQ entry that is not filled yet. -/
def Op.fillsLq (o : Op) : Bool := !o.done && (match o.dst with | .lq _ _ => true | _ => false)

/-- The LQ entry of a load filled with these words. -/
def Wave.fillLq (w : Wave) (id : Nat) (data : List Word) : Wave :=
  { w with lq := w.lq.map (fun e => if e.id = id then { e with filled := true, data := data, poison := 0 } else e) }

/-- The LQ entry of a load `o` of a wave `w` filled. -/
def State.lqFilled (s : State) (c slot : Nat) (w : Wave) (o : Op) (code : Nat) : State :=
  { s.modWave c slot (fun x => x.fillLq o.id (lqData o code w.lanes s.fresh)) with fresh := s.fresh + w.lanes }

theorem State.lqFilled_wave? {s : State} {c slot : Nat} {w : Wave} (hw : s.wave? c slot = some w) (o : Op) (code : Nat) :
    (s.lqFilled c slot w o code).wave? c slot = some (w.fillLq o.id (lqData o code w.lanes s.fresh)) :=
  (State.wave?_modWave s c slot (fun x => x.fillLq o.id (lqData o code w.lanes s.fresh)) (fun _ => rfl) (fun _ => rfl)).trans
    (congrArg (Option.map _) hw)

section
variable {s : State} {c slot : Nat} {w : Wave} {o : Op} {id code : Nat} (hw : s.wave? c slot = some w)
  (ho : w.ops.find? Op.fillsLq = some o) (hdst : o.dst = .lq id code) (hleft : o.left = 0) (hbad : o.bad = [])
include hw ho hdst hleft hbad

theorem lqFillStep_eq : lqFillStep c slot s = (s.lqFilled c slot w o code).modOp c slot o.id Op.finished := by
  simp only [lqFillStep, hw]
  split
  · next h => exact absurd (h.symm.trans ho) (Option.some_ne_none o).symm
  · next x h =>
    obtain rfl : x = o := Option.some.inj (h.symm.trans ho)
    have hmask : maskOf [] = 0 := rfl
    simp only [hleft, hbad, hdst, List.map_nil, hmask, ne_eq, not_true, false_and, if_false]
    rfl

theorem lq_filled : ∃ t, Steps (.lqFill c slot) s t ∧ MemKept s t ∧ ∀ w', t.wave? c slot = some w' →
    w'.lq = w.lq.map (fun e => if e.id = o.id then
      { e with filled := true, data := lqData o code w.lanes s.fresh, poison := 0 } else e)
    ∧ w'.v = w.v ∧ w'.s = w.s ∧ w'.lq.length = w.lq.length := by
  refine ⟨_, step_of rfl (lqFillStep_eq hw ho hdst hleft hbad), fun a => ?_, fun w' hw' => ?_⟩
  · exact congrArg (memByte · a) ((State.modWave_mem _ _ _ _).trans (State.modWave_mem _ _ _ _))
  · have hended := (State.wave?_modWave (s.lqFilled c slot w o code) c slot (fun x => (x.mapOp o.id Op.finished).prune)
      (fun _ => rfl) (fun _ => rfl)).trans (congrArg (Option.map _) (State.lqFilled_wave? hw o code))
    obtain rfl := Option.some.inj (hw'.symm.trans hended)
    exact ⟨rfl, rfl, rfl, List.length_map _⟩

end

end Sys2Proof.Machine
end

section
/-! What each message does at a core (10 R216, R218, R220, R222, R225; 11 R238, R250): the parts put together. -/
namespace Sys2Proof.Machine
open Sys2Proof.Claims

section
variable {s : State} {i : Nat} {n : NetMsg} {core slot id : Nat} {all : Bool} {w : Wave} {o : Op} (hd : Due s i n)
  (hm : n.msg = .ack (.wave core slot id) all) (hw : s.wave? core slot = some w)
  (ho : w.ops.find? (fun o => o.id == id) = some o)
include hd hm hw ho

/-- An acknowledgement that others are to follow is counted off. -/
theorem ack_counted (h : (o.acked all).leftAll ≠ 0) : Steps (.storeAck i) s
    ((s.taken i).modWave core slot (fun w => w.mapOp id (fun o => o.acked all))) :=
  step_of rfl ((storeAckStep_wave hd hm).trans (State.ackWave_of_more (s := s.taken i) hw ho h))

/-- The last acknowledgement ends its store. -/
theorem ack_ends (h : o.leftAll = 1) (hall : all = true) (hbad : o.bad = []) (hcls : o.cls = .laneSt ∨ o.cls = .leadSt) :
    let u := (s.taken i).modWave core slot (fun w => (w.mapOp id (fun o => (o.acked true).finished)).prune)
    Steps (.storeAck i) s (u.acquires core o.acq)
      ∧ (w.ops = [o] → ∃ x, u.wave? core slot = some x ∧ x.ops = [] ∧ x.counter o.cls = 0) := by
  subst hall
  intro u
  have hstep := (storeAckStep_wave hd hm).trans (State.ackWave_of_last (s := s.taken i) hw ho h hbad hcls)
  refine ⟨step_of rfl hstep, fun hops => ?_⟩
  have hid : o.id = id := by simpa using List.find?_some ho
  obtain ⟨hgone, hcount⟩ := Wave.prune_mapOp_single (f := fun o => (o.acked true).finished) hops hid rfl
    (show o.leftAll - 1 = 0 by omega)
  exact ⟨_, (State.wave?_modWave (s.taken i) core slot (fun w => (w.mapOp id (fun o => (o.acked true).finished)).prune)
    (fun _ => rfl) (fun _ => rfl)).trans (congrArg (Option.map _) hw), hgone, hcount _⟩

end

/-- Settles O39, message by message: a fill and a push by the room in the L1, then updates, notices and probes by the line held,
then the answers that reach an operation of a wave. -/
theorem messagesAtTheCore : Obligations.MessagesAtTheCore := by
  unfold Obligations.MessagesAtTheCore
  refine ⟨?_, ?_, ?_, ?_, ?_, ?_, ?_, ?_, ?_, ?_⟩
  · intro i s n core line data hd hcore hdead hnone hroom
    exact ⟨fun drop hm => fill_installed hd hcore hnone hm hdead hroom,
      fun ack hm hinj => push_installed hd hcore hnone hm hinj hroom,
      fun ack hm hinj => push_refused_full hd hcore hnone hm hinj⟩
  · intro i s n core line data hd hcore hdead hnone hfull
    exact ⟨fun drop hm => ⟨fun hv => fill_waits hd hnone hfull hv hm hdead,
        fun x hv => fill_evicts hd hcore hnone hfull hm hdead hv⟩,
      fun ack hm hinj => ⟨fun hv => push_waits hd hnone hfull hv hm hinj,
        fun x hv => push_evicts hd hcore hnone hfull hm hinj hv⟩⟩
  · intro i s n core line ack data x hd hcore hx hm
    exact push_held hd hcore hx hm
  · intro i s n core line x hd hcore hx hc
    exact ⟨fun data ack hm => update_recorded hd hcore hx hc hm, fun hm => notice_marks hd hcore hx hc hm⟩
  · intro i s n core line x hd hm hcore hx hc hnone
    exact probe_takes hd hm hcore hx hc hnone
  · intro i s n core line hd hm
    exact ⟨fun h => probe_waits hd hm h, fun h hc => probe_answered hd hm h hc⟩
  · intro i s n tell all hd hm
    refine ⟨fun k ht => ack_sensor hd (ht ▸ hm), fun die id ht => ack_job hd (ht ▸ hm),
      fun core slot id w o ht hw _ _ ho => ?_⟩
    subst ht
    refine ⟨fun h hall => ?_, fun h hall => ?_, fun h hall hbad hcls => ack_ends hd hm hw ho h hall hbad hcls⟩
    · subst hall
      exact ack_counted hd hm hw ho (show o.leftAll - 1 ≠ 0 by omega)
    · subst hall
      exact ack_counted hd hm hw ho (show o.leftAll ≠ 0 by omega)
  · intro i s n core slot op line data w o hd hm hw _ _ ho hleft
    exact step_of rfl (loadReturnStep_of_more hd hm hw ho (show o.left - 1 ≠ 0 by omega))
  · intro i s n core slot op line data w o d k act code hd hw _ _ ho hleft hbad hdst
    exact ⟨fun hm hnodup hlanes => load_writes hd hm hw ho hleft hbad hdst rfl hnodup hlanes,
      fun va hm hdata hnone hcls => load_poisoned hd hm hw ho hleft hbad hdst rfl hdata hnone hcls⟩
  · intro c slot s w o id code hw _ _ ho hdst hleft hbad
    exact lq_filled hw ho hdst hleft hbad

end Sys2Proof.Machine
end

section
/-! A fold whose write takes the number of an acknowledgement that is still open (10 R218, R225). -/
namespace Sys2Proof.Machine
open Sys2Proof.Claims

/-- A range of one line, its lines in state C. -/
def openRange : CRange :=
  { valid := true, fmt := 1, op := 0, closing := false, len := 128, base := 0, active := true, pages := [0] }

/-- One core's partial of a line, its first word touched. -/
def oneWordPartial : Partial := { agent := 0, words := List.replicate 32 0#32, touched := 1 }

/-- A fold whose probes are all answered. -/
def probedFold : Fold := { cores := [], loads := [], poison := false }

/-- A fold is to be completed while an acknowledgement to a sensor stands under the number that the next write takes. -/
def foldUnderTakenNumber : State :=
  { State.reset with
    dies := [{ Die.reset 0 with ranges := [openRange] }, Die.reset 12]
    dir := [(0, { DirEntry.empty with parts := [oneWordPartial], fold := some probedFold })]
    acks := [{ id := 1, tell := .sensor 0, die := 0, wait := [], pushes := [], sentDie := false }] }

/-- The write of that fold brings the older acknowledgement up to date, whose two answers go on their way. -/
theorem foldUnderTakenNumber_msgs :
    (foldCompleteStep 0 foldUnderTakenNumber).msgs = [.ack (.sensor 0) false, .ack (.sensor 0) true] := by decide

/-- Refutes O40: of a completed fold it says that nothing but updates to the sharers is sent. In a state where an
acknowledgement is open under the number that the fold's write takes, the write settles that one, and it answers a sensor. -/
theorem not_homesMoveAndFail : ¬ Obligations.HomesMoveAndFail := by
  unfold Obligations.HomesMoveAndFail
  intro h
  obtain ⟨-, -, -, -, -, -, completed, -⟩ := h
  obtain ⟨t, hstep, -, -, -, -, -, id, data, hnet⟩ := completed 0 foldUnderTakenNumber probedFold openRange [oneWordPartial]
    rfl rfl rfl (by decide) (List.Perm.refl _) (List.pairwise_singleton _ _)
    ⟨oneWordPartial, List.mem_singleton_self _, 0, by decide, by decide⟩
  obtain rfl : foldCompleteStep 0 foldUnderTakenNumber = t := Host.Outcome.next.inj hstep
  have hsent : (foldCompleteStep 0 foldUnderTakenNumber).msgs = [] := hnet
  rw [foldUnderTakenNumber_msgs] at hsent
  exact List.cons_ne_nil _ _ hsent

end Sys2Proof.Machine
end

section
/-! What posting a memory operation does: the checked addresses, the lines they lie in, the messages sent and the values at
hand (10 R218, R220, R223; 11 R235 to R240). -/
namespace Sys2Proof.Machine
open Sys2Proof.Claims

/-! ## Checked addresses (11 R235, R236) -/

section
variable {s : State} {kind code n : Nat} {lanes : List (Nat × Int)}

/-- A check that holds gives every lane its address. -/
theorem lanes_of_checkAccess {report : Bool} {l : List Acc} (h : s.checkAccess report kind code n lanes = .ok l) :
    l.map (fun a => a.lane) = lanes.map (fun p => p.1) := by
  unfold State.checkAccess at h
  dsimp only at h
  split at h
  next => cases h
  next => cases h
  next =>
    split at h
    next => cases h
    next => cases h
    next hprot hmiss =>
      cases h
      clear * - hprot hmiss
      induction lanes with
      | nil => rfl
      | cons p rest ih =>
        cases hx : s.xl kind p.2.toNat <;> simp_all

/-- An address outside the range of virtual addresses is a PAGE_PROT, whatever else is wrong. -/
theorem checkAccess_outside {p : Nat × Int} {rest : List (Nat × Int)}
    (h : lanes.filter (fun p => !decide (0 ≤ p.2 ∧ p.2 < 2 ^ 47)) = p :: rest) :
    s.checkAccess true kind code n lanes =
      .error (.trap causeProt (maskOf ((p :: rest).map (fun p => p.1))) (wrapN p.2 64) (protDetail kind)) := by
  have hbad : lanes.filter (fun p => !eaFits p.2) = p :: rest := h
  simp only [State.checkAccess, hbad]
  rfl

/-- Where all addresses are in range, a misaligned one is MISALIGNED. -/
theorem checkAccess_misaligned {p : Nat × Int} {rest : List (Nat × Int)}
    (hfit : lanes.all (fun p => decide (0 ≤ p.2 ∧ p.2 < 2 ^ 47)) = true)
    (h : lanes.filter (fun p => decide (p.2 % (n : Int) ≠ 0)) = p :: rest) :
    s.checkAccess true kind code n lanes =
      .error (.trap causeAlign (maskOf ((p :: rest).map (fun p => p.1))) (wrapN p.2 64) (code <<< 11)) := by
  have hbad : lanes.filter (fun p => !eaFits p.2) = [] := by
    rw [List.filter_eq_nil_iff]
    intro p hp
    rw [eaFits, List.all_eq_true.mp hfit p hp]
    decide
  simp only [State.checkAccess, hbad, h]
  rfl

end

/-! ## The lines of an access (11 R240) -/

/-- The lines of a list of addresses, collected in ascending order. -/
theorem mem_foldl_insertAsc (l : List Acc) (acc : List Nat) (x : Nat) :
    x ∈ l.foldl (fun acc (a : Acc) => insertAsc (lineOf a.pa) acc) acc ↔ x ∈ acc ∨ ∃ a ∈ l, x = lineOf a.pa := by
  induction l generalizing acc with
  | nil => simp
  | cons a rest ih =>
    rw [List.foldl_cons, ih, mem_insertAsc]
    simp only [List.mem_cons, exists_eq_or_imp]
    tauto

/-- Every address has its place in an entry of its line. -/
theorem mem_byLine {l : List Acc} {a : Acc} (ha : a ∈ l) :
    ∃ va parts, (va, lineOf a.pa, parts) ∈ byLine l ∧ (a.lane, a.pa - lineOf a.pa) ∈ parts := by
  have hmem : a ∈ l.filter (fun b => lineOf b.pa == lineOf a.pa) := List.mem_filter.mpr ⟨ha, beq_self_eq_true _⟩
  obtain ⟨b, rest, hcons⟩ := List.exists_cons_of_ne_nil (List.ne_nil_of_mem hmem)
  refine ⟨lineOf b.va, (b :: rest).map (fun x => (x.lane, x.pa - lineOf a.pa)), ?_, ?_⟩
  · refine List.mem_filterMap.mpr ⟨lineOf a.pa, (mem_foldl_insertAsc l [] _).mpr (.inr ⟨a, ha, rfl⟩), ?_⟩
    rw [hcons]
  · rw [hcons] at hmem
    exact List.mem_map.mpr ⟨a, hmem, rfl⟩

theorem byLine_eq_nil {l : List Acc} : byLine l = [] ↔ l = [] := by
  refine ⟨fun h => List.eq_nil_iff_forall_not_mem.mpr fun a ha => ?_, fun h => by rw [h]; rfl⟩
  obtain ⟨va, parts, hmem, -⟩ := mem_byLine ha
  rw [h] at hmem
  cases hmem

theorem byLine_singleton (a : Acc) : byLine [a] = [(lineOf a.va, lineOf a.pa, [(a.lane, a.pa - lineOf a.pa)])] := by
  simp [byLine, insertAsc]

/-! ## What the parts of posting leave -/

/-- Nothing differs but cores, messages, and what the issuing wave keeps of its operations. -/
def Booked (s t : State) : Prop :=
  t = { s with w := t.w, cores := t.cores, net := t.net, nextId := t.nextId }
    ∧ t.w = { s.w with ops := t.w.ops, deferred := t.w.deferred, dirty := t.w.dirty }

theorem Booked.trans {s t u : State} (h : Booked s t) (h' : Booked t u) : Booked s u := by
  obtain ⟨hst, hw⟩ := h
  obtain ⟨hst', hw'⟩ := h'
  refine ⟨?_, ?_⟩
  · rw [hst', hst]
  · rw [hw', hw]

theorem L1Only.booked {s t : State} (h : L1Only s t) : Booked s t := by
  rw [h]
  exact ⟨rfl, rfl⟩

theorem booked_addOp (s : State) (o : Op) : Booked s (s.addOp o) := ⟨rfl, rfl⟩

theorem booked_prune (s : State) : Booked s (s.modW Wave.prune) := ⟨rfl, rfl⟩

theorem addDirty_frame (w : Wave) (line : Nat) : w.addDirty line = { w with dirty := (w.addDirty line).dirty } := by
  unfold Wave.addDirty
  split <;> rfl

theorem booked_addDirty (s : State) (line : Nat) : Booked s (s.modW (fun w => w.addDirty line)) := by
  refine ⟨rfl, ?_⟩
  rw [State.modW_w, addDirty_frame]

/-- The bookkeeping of one of the issuing wave's own operations. -/
theorem booked_modOp (s : State) (id : Nat) (f : Op → Op) : Booked s (s.modOp s.w.core s.w.slot id f) := by
  rw [State.modOp, State.modWave, if_pos ⟨rfl, rfl⟩]
  exact ⟨rfl, rfl⟩

/-! ## Messages sent (10 R218, R220) -/

/-- The request of a wave's operation for an address. -/
def Wave.req (w : Wave) (op va pa : Nat) : Req := { core := w.core, slot := w.slot, op := op, va := va, pa := pa }

theorem Booked.req {s t : State} (h : Booked s t) : t.w.req = s.w.req := by
  funext op va pa
  rw [Wave.req, h.2, Wave.req]

/-- A message that waits for nothing is on its way. -/
def State.Carries (s : State) (m : Msg) : Prop := ∃ n ∈ s.net, n.msg = m

theorem State.Carries.mono {s t : State} {m : Msg} (h : s.Carries m) (hnet : s.net ⊆ t.net) : t.Carries m := by
  obtain ⟨n, hn, hm⟩ := h
  exact ⟨n, hnet hn, hm⟩

theorem State.Carries.congr {s t : State} {m : Msg} (h : s.Carries m) (hnet : t.net = s.net) : t.Carries m := by
  rw [State.Carries, hnet]
  exact h

theorem l1Only_sendAfter (s : State) (core slot : Nat) (after : List Nat) (scope : Nat) (m : Msg) :
    L1Only s (s.sendAfter core slot after scope m) := rfl

theorem net_subset_sendAfter (s : State) (core slot : Nat) (after : List Nat) (scope : Nat) (m : Msg) :
    s.net ⊆ (s.sendAfter core slot after scope m).net := List.subset_append_left _ _

theorem carries_sendAfter (s : State) (core slot : Nat) (after : List Nat) (scope : Nat) (m : Msg) :
    (s.sendAfter core slot after scope m).Carries m :=
  ⟨_, List.mem_append_right _ (List.mem_singleton_self _), rfl⟩

section
variable (s : State) (id n : Nat) (ls : List (Nat × Nat × List (Nat × Nat)))

theorem l1Only_sendLoads : L1Only s (s.sendLoads id n ls) := by
  induction ls generalizing s with
  | nil => rfl
  | cons x rest ih => exact (l1Only_sendAfter s _ _ _ _ _).trans (ih _)

theorem net_subset_sendLoads : s.net ⊆ (s.sendLoads id n ls).net := by
  induction ls generalizing s with
  | nil => exact List.Subset.refl _
  | cons x rest ih => exact List.Subset.trans (net_subset_sendAfter s _ _ _ _ _) (ih _)

variable {ls} {va line : Nat} {parts : List (Nat × Nat)} (h : (va, line, parts) ∈ ls)
include h

/-- Each line of a load is asked for. -/
theorem carries_sendLoads : ∃ fill, (s.sendLoads id n ls).Carries
    (.load (s.w.req id va line) (parts.map (fun p => (p.1, p.2, n))) fill false) := by
  induction ls generalizing s with
  | nil => cases h
  | cons x rest ih =>
    rcases List.mem_cons.mp h with rfl | h
    · exact ⟨_, (carries_sendAfter s _ _ _ _ _).mono (net_subset_sendLoads _ id n rest)⟩
    · exact ih _ h

end

/-- A core's own copy of a line of a store written, and the line in the wave's dirty-line set. -/
def State.writeLine (s : State) (line : Nat) (bs : List (Nat × Byte)) : State :=
  (s.modCore s.w.core (fun c => c.modLine line (fun x =>
    if x.st = .s then { x with data := overBytes x.data bs } else x))).modW (fun w => w.addDirty line)

theorem booked_writeLine (s : State) (line : Nat) (bs : List (Nat × Byte)) : Booked s (s.writeLine line bs) :=
  (L1Only.booked (by rfl)).trans (booked_addDirty _ line)

section
variable (s : State) (id : Nat) (data : Nat → List Byte) (push : List Nat) (ls : List (Nat × Nat × List (Nat × Nat)))

theorem sendStores_cons (va line : Nat) (parts : List (Nat × Nat)) : s.sendStores id data push ((va, line, parts) :: ls) =
    let u := s.writeLine line (lineData data parts)
    (u.sendAfter u.w.core u.w.slot [] 0 (.store (s.w.req id va line) (lineData data parts)
      (if isHostPa line then [] else push))).sendStores id data push ls := rfl

theorem booked_sendStores : Booked s (s.sendStores id data push ls) := by
  induction ls generalizing s with
  | nil => exact ⟨rfl, rfl⟩
  | cons x rest ih => exact ((booked_writeLine s _ _).trans (l1Only_sendAfter _ _ _ _ _ _).booked).trans (ih _)

theorem net_subset_sendStores : s.net ⊆ (s.sendStores id data push ls).net := by
  induction ls generalizing s with
  | nil => exact List.Subset.refl _
  | cons x rest ih =>
    rw [sendStores_cons]
    exact List.Subset.trans (net_subset_sendAfter (s.writeLine _ _) _ _ _ _ _) (ih _)

variable {ls} {va line : Nat} {parts : List (Nat × Nat)} (h : (va, line, parts) ∈ ls)
include h

/-- The bytes of each line of a store are on their way. -/
theorem carries_sendStores : (s.sendStores id data push ls).Carries
    (.store (s.w.req id va line) (lineData data parts) (if isHostPa line then [] else push)) := by
  induction ls generalizing s with
  | nil => cases h
  | cons x rest ih =>
    rw [sendStores_cons]
    rcases List.mem_cons.mp h with rfl | h
    · exact (carries_sendAfter _ _ _ _ _ _).mono (net_subset_sendStores _ id data push rest)
    · rw [← (booked_writeLine s x.2.1 (lineData data x.2.2)).req]
      exact ih _ h

end

end Sys2Proof.Machine
end

section
/-! Memory operations posted: a load's values at hand or its lines asked for, a store's bytes on their way (10 R218, R220; 11
R237 to R240). -/
namespace Sys2Proof.Machine
open Sys2Proof.Claims

section
variable {s t : State} (h : Booked s t)
include h
theorem Booked.v : t.w.v = s.w.v := by rw [h.2]
theorem Booked.sect : t.w.sect = s.w.sect := by rw [h.2]
theorem Booked.lanes : t.w.lanes = s.w.lanes := by rw [h.2]; rfl
theorem Booked.getV : t.w.getV = s.w.getV := by rw [h.2]; rfl
theorem Booked.getS : t.w.getS = s.w.getS := by rw [h.2]; rfl
end

/-- Nothing differs but cores, messages, and of the issuing wave its registers and what it keeps of its operations. -/
def OpPosted (s t : State) : Prop :=
  t = { s with w := t.w, cores := t.cores, net := t.net, nextId := t.nextId }
    ∧ t.w = { s.w with v := t.w.v, sect := t.w.sect, s := t.w.s, ops := t.w.ops, deferred := t.w.deferred, dirty := t.w.dirty }

theorem Booked.opPosted {s t : State} (h : Booked s t) : OpPosted s t := by
  obtain ⟨hst, hw⟩ := h
  refine ⟨hst, ?_⟩
  rw [hw]

/-! ## Values written to registers (11 R240, R249) -/

theorem Wave.loadInto_frame (w : Wave) (dst : Dst) (got : List (Nat × List Byte)) : w.loadInto dst got = { w with
    v := (w.loadInto dst got).v, sect := (w.loadInto dst got).sect, s := (w.loadInto dst got).s } := by
  induction got generalizing w with
  | nil => rfl
  | cons p rest ih =>
    cases dst with
    | lanes base k act code => rw [Wave.loadInto, ih, Wave.loadRegs_frame]
    | lead i code => exact ih (w.setS i (loadLead code p.2))
    | _ => exact ih w

theorem Wave.loadInto_none (w : Wave) (got : List (Nat × List Byte)) : w.loadInto .none got = w := by
  induction got with
  | nil => rfl
  | cons p rest ih => exact ih

theorem lanesOf_nodup (m n : Nat) : (lanesOf m n).Nodup := List.nodup_range.filter _

theorem Wave.mem_sect_loadRegs (w : Wave) (base code lane : Nat) (bs : List Byte) (n x : Nat) :
    x ∈ (w.loadRegs base code lane bs n).sect ↔ x ∈ w.sect ∨ ∃ r, (base ≤ r ∧ r < base + n) ∧ x = regSector r lane := by
  induction n with
  | zero => simp [Wave.loadRegs]
  | succ n ih =>
    rw [Wave.loadRegs, Wave.setV_sect, mem_insertAsc, ih]
    constructor
    · rintro (rfl | h | ⟨r, hr, rfl⟩)
      · exact .inr ⟨base + n, by omega, rfl⟩
      · exact .inl h
      · exact .inr ⟨r, by omega, rfl⟩
    · rintro (h | ⟨r, hr, rfl⟩)
      · exact .inr (.inl h)
      · by_cases hlast : r = base + n
        · exact .inl (by rw [hlast])
        · exact .inr (.inr ⟨r, by omega, rfl⟩)

theorem Wave.mem_sect_loadInto (w : Wave) (d k act code : Nat) (got : List (Nat × List Byte)) (x : Nat) :
    x ∈ (w.loadInto (.lanes d k act code) got).sect ↔
      x ∈ w.sect ∨ ∃ r, (d ≤ r ∧ r < d + k) ∧ ∃ l ∈ got.map (fun p => p.1), x = regSector r l := by
  induction got generalizing w with
  | nil => simp [Wave.loadInto]
  | cons p rest ih =>
    rw [Wave.loadInto, ih, Wave.mem_sect_loadRegs]
    simp only [List.map_cons, List.mem_cons, exists_eq_or_imp, and_or_left, exists_or, or_assoc]

section
variable {w : Wave} {d k act code : Nat} {got : List (Nat × List Byte)} (hgot : got.map (fun p => p.1) = lanesOf act w.lanes)
include hgot

theorem lane_lt_of_served {p : Nat × List Byte} (hp : p ∈ got) : p.1 < 64 := by
  have hmem : p.1 ∈ lanesOf act w.lanes := hgot ▸ List.mem_map_of_mem hp
  exact Nat.lt_of_lt_of_le ((mem_lanesOf _ _ _).mp hmem).1 (lanes_le w)

/-- A load of every active lane leaves every other word as it is. -/
theorem Wave.getV_loadLanes_of_not {r l : Nat} (hl : l < 64)
    (h : ¬(d ≤ r ∧ r < d + k ∧ l < w.lanes ∧ bit act l = true)) :
    (w.loadInto (.lanes d k act code) got).getV r l = w.getV r l := by
  refine Wave.getV_loadInto_other w d k act code (fun _ hp => lane_lt_of_served hgot hp) hl ?_
  by_cases hr : d ≤ r ∧ r < d + k
  · refine .inr fun p hp hpl => h ⟨hr.1, hr.2, ?_⟩
    rw [← mem_lanesOf, ← hgot, ← hpl]
    exact List.mem_map_of_mem hp
  · exact .inl hr

/-- A load of every active lane writes its words. -/
theorem Wave.getV_loadLanes {p : Nat × List Byte} (hp : p ∈ got) {j : Nat} (hj : j < k) :
    (w.loadInto (.lanes d k act code) got).getV (d + j) p.1 = loadWord code p.2 j % 2 ^ 32 :=
  Wave.getV_loadInto w d k act code (fun _ hp => lane_lt_of_served hgot hp) (hgot ▸ lanesOf_nodup _ _) hp hj

/-- A load of every active lane makes the sectors of its words valid (08 R190). -/
theorem Wave.mem_sect_loadLanes (x : Nat) : x ∈ (w.loadInto (.lanes d k act code) got).sect ↔
    x ∈ w.sect ∨ ∃ r l, (d ≤ r ∧ r < d + k ∧ l < w.lanes ∧ bit act l = true) ∧ x = regSector r l := by
  rw [Wave.mem_sect_loadInto, hgot]
  simp only [mem_lanesOf, and_assoc, exists_and_left]

end

/-! ## Loads (11 R238; 10 R220) -/

/-- The bytes at hand of an access, by lane. -/
def State.gotHere (s : State) (n : Nat) (l : List Acc) : List (Nat × List Byte) :=
  l.filterMap (fun a => (s.here n a).map (fun bs => (a.lane, bs)))

/-- The addresses of an access whose bytes are not at hand. -/
def State.notHere (s : State) (n : Nat) (l : List Acc) : List Acc := l.filter (fun a => (s.here n a).isNone)

section
variable {s : State} {n : Nat} {l : List Acc}

theorem mem_gotHere {a : Acc} {bs : List Byte} (ha : a ∈ l) (h : s.here n a = some bs) : (a.lane, bs) ∈ s.gotHere n l :=
  List.mem_filterMap.mpr ⟨a, ha, by rw [h]; rfl⟩

theorem lanes_of_gotHere (h : l.all (fun a => (s.here n a).isSome) = true) :
    (s.gotHere n l).map (fun p => p.1) = l.map (fun a => a.lane) := by
  induction l with
  | nil => rfl
  | cons a rest ih =>
    rw [List.all_cons, Bool.and_eq_true] at h
    obtain ⟨bs, hbs⟩ := Option.isSome_iff_exists.mp h.1
    have hcons : s.gotHere n (a :: rest) = (a.lane, bs) :: s.gotHere n rest :=
      List.filterMap_cons_some (by rw [hbs]; rfl)
    rw [hcons, List.map_cons, ih h.2, List.map_cons]

theorem notHere_eq_nil : s.notHere n l = [] ↔ l.all (fun a => (s.here n a).isSome) = true := by
  rw [State.notHere, List.filter_eq_nil_iff, List.all_eq_true]
  refine forall₂_congr fun a _ => ?_
  cases s.here n a <;> simp

variable (s n l) (cls : OpCls) (tinfo : Nat) (dst : Dst)

/-- A posted load writes its values when they are all at hand and go to registers, and else asks for its lines. -/
theorem postLoad_eq : ∃ o, s.postLoad cls tinfo n dst l =
    if s.notHere n l = [] ∧ dst.isLq = false then
      ((s.addOp o).tlbFills l).modW (fun w => (w.loadInto dst (s.gotHere n l)).prune)
    else ((s.addOp o).tlbFills l).sendLoads s.nextId n (byLine (s.notHere n l)) := by
  refine ⟨_, if_congr ?_ rfl rfl⟩
  rw [Bool.and_eq_true, decide_eq_true_iff, byLine_eq_nil, Bool.not_eq_true']
  rfl

theorem postLoad_here (h : l.all (fun a => (s.here n a).isSome) = true) (hq : dst.isLq = false) : ∃ u, Booked s u
    ∧ s.postLoad cls tinfo n dst l = u.modW (fun w => (w.loadInto dst (s.gotHere n l)).prune) := by
  obtain ⟨o, ho⟩ := postLoad_eq s n l cls tinfo dst
  rw [if_pos ⟨notHere_eq_nil.mpr h, hq⟩] at ho
  exact ⟨_, (booked_addOp s o).trans (l1Only_tlbFills _ l).booked, ho⟩

theorem postLoad_far (h : l.all (fun a => (s.here n a).isSome) = false ∨ dst.isLq = true) : ∃ u, Booked s u
    ∧ s.postLoad cls tinfo n dst l = u.sendLoads s.nextId n (byLine (s.notHere n l)) := by
  obtain ⟨o, ho⟩ := postLoad_eq s n l cls tinfo dst
  rw [if_neg] at ho
  · exact ⟨_, (booked_addOp s o).trans (l1Only_tlbFills _ l).booked, ho⟩
  · rw [notHere_eq_nil]
    rcases h with h | h <;> simp [h]

theorem booked_postLoad_far (h : l.all (fun a => (s.here n a).isSome) = false ∨ dst.isLq = true) :
    Booked s (s.postLoad cls tinfo n dst l) := by
  obtain ⟨u, hu, heq⟩ := postLoad_far s n l cls tinfo dst h
  rw [heq]
  exact hu.trans (l1Only_sendLoads _ _ _ _).booked

/-- The line of an address whose bytes are not at hand is asked for. -/
theorem carries_postLoad {a : Acc} (ha : a ∈ l) (hnone : s.here n a = none) : ∃ va parts fill,
    (a.lane, a.pa - lineOf a.pa, n) ∈ parts
      ∧ (s.postLoad cls tinfo n dst l).Carries (.load (s.w.req s.nextId va (lineOf a.pa)) parts fill false) := by
  have hall : l.all (fun a => (s.here n a).isSome) = false := by
    rw [List.all_eq_false]
    exact ⟨a, ha, by simp [hnone]⟩
  obtain ⟨u, hu, heq⟩ := postLoad_far s n l cls tinfo dst (.inl hall)
  obtain ⟨va, parts, hline, hpart⟩ := mem_byLine (l := s.notHere n l) (List.mem_filter.mpr ⟨ha, by rw [hnone]; rfl⟩)
  obtain ⟨fill, hsent⟩ := carries_sendLoads u s.nextId n hline
  rw [hu.req, ← heq] at hsent
  exact ⟨va, _, fill, List.mem_map.mpr ⟨_, hpart, rfl⟩, hsent⟩

theorem opPosted_postLoad : OpPosted s (s.postLoad cls tinfo n dst l) := by
  by_cases h : l.all (fun a => (s.here n a).isSome) = true ∧ dst.isLq = false
  · obtain ⟨u, ⟨hu, hw⟩, heq⟩ := postLoad_here s n l cls tinfo dst h.1 h.2
    rw [heq, hu]
    refine ⟨rfl, ?_⟩
    simp only [State.modW_w]
    rw [Wave.loadInto_frame, hw]
    rfl
  · refine (booked_postLoad_far s n l cls tinfo dst ?_).opPosted
    rwa [not_and_or, Bool.not_eq_true, Bool.not_eq_false] at h

end

/-! ## Stores (11 R238, R240, R246) -/

section
variable (s : State) (cls : OpCls) (tinfo : Nat) (l : List Acc) (data : Nat → List Byte) (stt : Bool) (push : List Nat)

theorem postStore_eq : ∃ u, Booked s u ∧ s.postStore cls tinfo l data stt push =
    (u.sendStores s.nextId data push (byLine l)).modOp s.w.core s.w.slot s.nextId (fun o => o) :=
  ⟨_, (booked_addOp s _).trans (l1Only_tlbFills _ l).booked, rfl⟩

theorem booked_postStore : Booked s (s.postStore cls tinfo l data stt push) := by
  obtain ⟨u, hu, heq⟩ := postStore_eq s cls tinfo l data stt push
  have hsent := hu.trans (booked_sendStores u s.nextId data push (byLine l))
  have hown := booked_modOp (u.sendStores s.nextId data push (byLine l)) s.nextId (fun o => o)
  rw [show (u.sendStores s.nextId data push (byLine l)).w.core = s.w.core by rw [hsent.2],
    show (u.sendStores s.nextId data push (byLine l)).w.slot = s.w.slot by rw [hsent.2]] at hown
  rw [heq]
  exact hsent.trans hown

theorem State.modOp_net (core slot id : Nat) (f : Op → Op) : (s.modOp core slot id f).net = s.net := by
  rw [State.modOp, State.modWave_frame]

/-- The bytes of each line are on their way home. -/
theorem carries_postStore {va line : Nat} {parts : List (Nat × Nat)} (h : (va, line, parts) ∈ byLine l) :
    (s.postStore cls tinfo l data stt push).Carries
      (.store (s.w.req s.nextId va line) (lineData data parts) (if isHostPa line then [] else push)) := by
  obtain ⟨u, hu, heq⟩ := postStore_eq s cls tinfo l data stt push
  have hsent := carries_sendStores u s.nextId data push h
  rw [hu.req] at hsent
  rw [heq]
  exact hsent.mono (by rw [State.modOp_net]; exact List.Subset.refl _)

end

end Sys2Proof.Machine
end

section
/-! LD and ST of the lane stream complete, or trap at an address (11 R232 to R240). -/
namespace Sys2Proof.Machine
open Sys2Proof.Claims

/-! ## A lane memory form that completes -/

/-- A legal instruction whose body ends in `t` ends in `t`, issued, whatever its mask field. -/
theorem next_of_body {i : Instr} {s t : State} {st : Stream} {kmask weight : Nat} {legal : Option EncFault}
    (body : State → R State) (h : Issues s st weight) (hexec : exec i s = s.issue i (some st) kmask weight legal body)
    (hl : legal = none) (hb : body s = .ok t) (ht : t.stalled = s.stalled) : exec i s = .next (t.issued weight) := by
  subst hl
  exact hexec.trans (issue_of_body h rfl hb (ht.trans (notStalled_of_issues h)))

theorem State.advance_of_lane {s : State} (h : s.st = .lane) (words : Nat) :
    s.advance words = s.modW (fun w => { w with lanePc := w.lanePc + 4 * words }) := by
  rw [State.advance, h]
  rfl

@[simp] theorem State.issued_net (s : State) (weight : Nat) : (s.issued weight).net = s.net := by
  unfold State.issued State.billed
  split <;> rfl

/-- A lane memory form after its operation `p` is posted: the queue entries read are popped and the PC has moved. -/
def laneMemAfter (p : State) (words : Nat) (pops : List Nat) : State := (p.modW (fun w => w.popUsed pops)).advance words

/-- What a completed lane memory form leaves, beside the registers and messages of its posted operation `p`. -/
structure LaneMemEnd (s p t : State) (words weight : Nat) (pops : List Nat) : Prop where
  posted : Posted s t
  charged : Charged s t weight
  frame : LaneMemFrame s t words pops
  v : t.w.v = p.w.v
  sect : t.w.sect = p.w.sect
  ops : t.w.ops = p.w.ops
  net : t.net = p.net
  cores : t.cores = p.cores

section
variable {s p : State} (hp : OpPosted s p) (hs : p.w.s = s.w.s)
include hp

theorem OpPosted.stalled : p.stalled = s.stalled := by rw [hp.1]

theorem OpPosted.st : p.st = s.st := by rw [hp.1]

include hs

theorem laneMemEnd_of (hst : s.st = .lane) (hm : s.w.mgmt = false) (words weight : Nat) (pops : List Nat) :
    LaneMemEnd s p ((laneMemAfter p words pops).issued weight) words weight pops := by
  have hafter : laneMemAfter p words pops = p.modW (fun w => { w with
      lq := if pops.contains 320 then w.lq.tail else w.lq, dq := if pops.contains 321 then w.dq.tail else w.dq
      lanePc := w.lanePc + 4 * words }) := by
    rw [laneMemAfter, State.advance_of_lane ((State.modW_st p _).trans (hp.st.trans hst)), State.modW_modW]
    simp only [popUsed_eq]
  have hbody : LaneMemBody s (laneMemAfter p words pops) words pops := by
    rw [hafter]
    obtain ⟨hst', hw⟩ := hp
    refine ⟨?_, ?_⟩
    · rw [hst']
      rfl
    · simp only [State.modW_w]
      rw [hw, hs]
  obtain ⟨hposted, hcharged, hframe, hv, hsect, hcores⟩ := hbody.issued (weight := weight) hst hm
  refine ⟨hposted, hcharged, hframe, hv.trans ?_, hsect.trans ?_, ?_, (State.issued_net _ _).trans ?_, hcores.trans ?_⟩
  · rw [hafter, State.modW_w]
  · rw [hafter, State.modW_w]
  · rw [State.issued_w, hafter, State.modW_w]
  · rw [hafter, State.modW_net]
  · rw [hafter, State.modW_cores]

theorem laneMem_next {i : Instr} {kmask weight words : Nat} {legal : Option EncFault} {pops : List Nat}
    (body : State → R State) (h : Issues s .lane weight)
    (hexec : exec i s = s.issue i (some .lane) kmask weight legal body) (hl : legal = none)
    (hb : body s = .ok (laneMemAfter p words pops)) : ∃ t, exec i s = .next t ∧ LaneMemEnd s p t words weight pops :=
  ⟨_, next_of_body body h hexec hl hb hp.stalled,
    laneMemEnd_of hp hs (stream_of_issues h) (notMgmt_of_issues h) words weight pops⟩

end

/-! ## Traps at an address (11 R235, R236) -/

/-- A legal instruction whose body stops at a fault of its own is charged and stops. -/
theorem stops_of_body {i : Instr} {s : State} {st : Stream} {kmask weight cause flanes taddr detail : Nat}
    {legal : Option EncFault} (body : State → R State) (h : Issues s st weight)
    (hexec : exec i s = s.issue i (some st) kmask weight legal body) (hl : legal = none)
    (hb : body s = .error (.trap cause flanes taddr detail)) (hc : cause ≠ causeOpcode) :
    Stops i s weight (.trap cause flanes taddr detail) := by
  subst hl
  rw [Stops, hexec, issue_of_error h rfl hb, State.stopCharge_trap, if_neg hc, State.billed, notMgmt_of_issues h]
  rfl

/-- An access that stops where the check of its addresses does traps at them. -/
theorem addressTraps_of {i : Instr} {s : State} {code kind kmask : Nat} {eas : List (Nat × Int)} {legal : Option EncFault}
    (body : State → R State) (h : Issues s .lane 16) (hexec : exec i s = s.issue i (some .lane) kmask 16 legal body)
    (hl : legal = none) (hkind : protDetail kind = if kind = 1 then 1 <<< 12 else 0)
    (hb : ∀ x, s.checkAccess true kind code (sizeBytes code) eas = .error x → body s = .error x) :
    AddressTraps i s code kind eas := by
  refine ⟨fun p rest hout => ?_, fun hfit p rest hodd => ?_⟩
  · have hcheck := checkAccess_outside (s := s) (kind := kind) (code := code) (n := sizeBytes code) hout
    rw [hkind, wrapN_eq_ofInt] at hcheck
    exact stops_of_body body h hexec hl (hb _ hcheck) (by decide)
  · have hcheck := checkAccess_misaligned (s := s) (kind := kind) (code := code) hfit hodd
    rw [wrapN_eq_ofInt] at hcheck
    exact stops_of_body body h hexec hl (hb _ hcheck) (by decide)

/-! ## Loads (11 R240) -/

/-- Where a lane load goes: registers, or nowhere. -/
def laneDst (d code act : Nat) : Dst := if d < 320 then .lanes d (sizeRegs code) act code else .none

theorem laneDst_isLq (d code act : Nat) : (laneDst d code act).isLq = false := by
  unfold laneDst
  split <;> rfl

theorem loadInto_laneDst_s (w : Wave) (d code act : Nat) (got : List (Nat × List Byte)) :
    (w.loadInto (laneDst d code act) got).s = w.s := by
  unfold laneDst
  split
  · rw [Wave.loadInto_lanes_frame]
  · rw [Wave.loadInto_none]

theorem postLoad_laneDst_s (s : State) (cls : OpCls) (tinfo n d code act : Nat) (l : List Acc) :
    (s.postLoad cls tinfo n (laneDst d code act) l).w.s = s.w.s := by
  cases hall : l.all (fun a => (s.here n a).isSome) with
  | true =>
    obtain ⟨u, ⟨-, hw⟩, heq⟩ := postLoad_here s n l cls tinfo _ hall (laneDst_isLq d code act)
    rw [heq, State.modW_w]
    exact (loadInto_laneDst_s u.w d code act _).trans (by rw [hw])
  | false => rw [(booked_postLoad_far s n l cls tinfo _ (.inl hall)).2]

/-- The effect of a load depends on the registers and the messages that it leaves. -/
theorem laneLoadEffect_congr {s t t' : State} {act code d : Nat} {l : List Acc} (h : LaneLoadEffect s t act code d l)
    (hv : t'.w.v = t.w.v) (hsect : t'.w.sect = t.w.sect) (hnet : t'.net = t.net) : LaneLoadEffect s t' act code d l := by
  have hget : t'.w.getV = t.w.getV := by
    funext r k
    rw [Wave.getV, hv, Wave.getV]
  unfold LaneLoadEffect NewSectors Sent at h ⊢
  rw [hget, hv, hsect, hnet]
  exact h

/-- A load of checked addresses has the effect of a lane load. -/
theorem laneLoadEffect_postLoad (s : State) (tinfo d code act : Nat) {l : List Acc}
    (hl : l.map (fun a => a.lane) = lanesOf act s.w.lanes) :
    LaneLoadEffect s (s.postLoad .laneLd tinfo (sizeBytes code) (laneDst d code act) l) act code d l := by
  cases hall : l.all (fun a => (s.here (sizeBytes code) a).isSome) with
  | true =>
    obtain ⟨u, hu, heq⟩ := postLoad_here s (sizeBytes code) l .laneLd tinfo _ hall (laneDst_isLq d code act)
    have hgot : (s.gotHere (sizeBytes code) l).map (fun p => p.1) = lanesOf act u.w.lanes := by
      rw [lanes_of_gotHere hall, hl, hu.lanes]
    have hw : (s.postLoad .laneLd tinfo (sizeBytes code) (laneDst d code act) l).w =
        (u.w.loadInto (laneDst d code act) (s.gotHere (sizeBytes code) l)).prune := by
      rw [heq]
      rfl
    unfold LaneLoadEffect NewSectors
    rw [hw, ← hu.getV, ← hu.sect, ← hu.lanes]
    by_cases hd : d < 320
    · rw [laneDst, if_pos hd]
      refine ⟨fun r k hk hnot => Wave.getV_loadLanes_of_not hgot hk fun hin => hnot ⟨hin.1, hin.2.1, hin.2.2⟩,
        fun _ _ => ⟨fun a ha bs hbs k hk => Wave.getV_loadLanes hgot (mem_gotHere ha hbs) hk,
          Wave.mem_sect_loadLanes hgot⟩, fun hd' => absurd hd (Nat.not_lt.mpr hd'),
        fun hfar => absurd (hall.symm.trans hfar) Bool.noConfusion⟩
    · rw [laneDst, if_neg hd, Wave.loadInto_none]
      exact ⟨fun _ _ _ _ => rfl, fun _ hd' => absurd hd' hd, fun _ => rfl,
        fun hfar => absurd (hall.symm.trans hfar) Bool.noConfusion⟩
  | false =>
    have hkept := booked_postLoad_far s (sizeBytes code) l .laneLd tinfo (laneDst d code act) (.inl hall)
    refine ⟨fun r k _ _ => by rw [hkept.getV], fun hhere => absurd (hhere.symm.trans hall) Bool.noConfusion,
      fun _ => hkept.sect, fun _ => ⟨hkept.v, hkept.sect, fun a ha hnone => ?_⟩⟩
    exact carries_postLoad s (sizeBytes code) l .laneLd tinfo (laneDst d code act) ha hnone

theorem lanes_of_lanesEa {s : State} {kind code n act : Nat} {ea : Wave → Nat → Int} {l : List Acc}
    (h : s.checkAccess true kind code n (lanesEa s.w act ea) = .ok l) : l.map (fun a => a.lane) = lanesOf act s.w.lanes := by
  rw [lanes_of_checkAccess h, lanesEa, List.map_map]
  exact List.map_id _

section
variable {i : Instr} {s : State} {words kmask code d : Nat} {srcs : List Nat} {ea : Wave → Nat → Int}
  (hready : s.laneReady srcs (wideRegs d (sizeRegs code)) = .ok ()) (hroom : s.w.counter .laneLd < 63)
  (hreg : s.regCheck (s.w.active kmask) (wideRegs d (sizeRegs code) ++ vRegs srcs) = .ok ())
include hready hroom hreg

/-- The body of a load whose operands can be used: its addresses are checked, and it is posted. -/
theorem laneLoad_eq : s.laneLoad i words kmask code d srcs ea =
    (s.checkAccess true 0 code (sizeBytes code) (lanesEa s.w (s.w.active kmask) ea)).bind (fun l =>
      .ok (laneMemAfter (s.postLoad .laneLd (tinfoOf i) (sizeBytes code) (laneDst d code (s.w.active kmask)) l) words srcs)) := by
  simp only [State.laneLoad, hready, hreg, State.counterRoom_of_lt (c := .laneLd) hroom, bind, Except.bind]
  rfl

/-- A lane load at its checked addresses completes. -/
theorem laneLoad_next {l : List Acc} {legal : Option EncFault} (h : Issues s .lane 16)
    (hexec : exec i s = s.issue i (some .lane) kmask 16 legal (fun s => s.laneLoad i words kmask code d srcs ea))
    (hl : legal = none)
    (hacc : s.checkAccess true 0 code (sizeBytes code) (lanesEa s.w (s.w.active kmask) ea) = .ok l) :
    ∃ t, exec i s = .next t ∧ Posted s t ∧ Charged s t 16 ∧ LaneMemFrame s t words srcs
      ∧ LaneLoadEffect s t (s.w.active kmask) code d l := by
  obtain ⟨t, ht, hend⟩ := laneMem_next (opPosted_postLoad s (sizeBytes code) l .laneLd (tinfoOf i) _)
    (postLoad_laneDst_s s _ _ _ d code (s.w.active kmask) l) _ h hexec hl
    ((laneLoad_eq hready hroom hreg).trans (by rw [hacc]; rfl))
  exact ⟨t, ht, hend.posted, hend.charged, hend.frame,
    laneLoadEffect_congr (laneLoadEffect_postLoad s _ d code _ (lanes_of_lanesEa hacc)) hend.v hend.sect hend.net⟩

/-- A lane load traps at its addresses. -/
theorem laneLoad_traps {legal : Option EncFault} (h : Issues s .lane 16)
    (hexec : exec i s = s.issue i (some .lane) kmask 16 legal (fun s => s.laneLoad i words kmask code d srcs ea))
    (hl : legal = none) : AddressTraps i s code 0 (lanesEa s.w (s.w.active kmask) ea) :=
  addressTraps_of _ h hexec hl rfl fun x hx => (laneLoad_eq hready hroom hreg).trans (by rw [hx]; rfl)

end

/-! ## Stores (11 R240, R246) -/

section
variable {i : Instr} {s : State} {words kmask code d : Nat} {lit : Option Dword} {srcs : List Nat} {ea : Wave → Nat → Int}
  {stt : Bool} {push : State → Nat → R (List Nat)} {targets : List Nat}
  (hready : s.laneReady (srcs ++ wideSrc d (sizeRegs code)) [] = .ok ()) (hroom : s.w.counter .laneSt < 63)
  (hreg : s.regCheck (s.w.voters (s.w.active kmask)) (vRegs (srcs ++ wideSrc d (sizeRegs code))) = .ok ())
  (hpush : push s (s.w.voters (s.w.active kmask)) = .ok targets)
include hready hroom hreg hpush

/-- The body of a store whose operands can be used: its addresses are checked, and it is posted. -/
theorem laneStore_eq : s.laneStore i words kmask code d lit srcs ea stt (push s) =
    (s.checkAccess true 1 code (sizeBytes code) (lanesEa s.w (s.w.voters (s.w.active kmask)) ea)).bind (fun l =>
      (s.plainCheck true (sizeBytes code) l).bind (fun _ =>
        .ok (laneMemAfter (s.postStore .laneSt (tinfoOf i) l (dataBytes s.w lit d code) stt targets) words
          (srcs ++ wideSrc d (sizeRegs code))))) := by
  simp only [State.laneStore, hready, hreg, hpush, State.counterRoom_of_lt (c := .laneSt) hroom, bind, Except.bind]
  rfl

/-- A lane store at its checked addresses completes. -/
theorem laneStore_next {l : List Acc} {legal : Option EncFault} (h : Issues s .lane 16)
    (hexec : exec i s = s.issue i (some .lane) kmask 16 legal (fun s => s.laneStore i words kmask code d lit srcs ea stt (push s)))
    (hl : legal = none)
    (hacc : s.checkAccess true 1 code (sizeBytes code) (lanesEa s.w (s.w.voters (s.w.active kmask)) ea) = .ok l)
    (hplain : s.plainCheck true (sizeBytes code) l = .ok ()) :
    ∃ t, exec i s = .next t ∧ Posted s t ∧ Charged s t 16 ∧ LaneMemFrame s t words (srcs ++ wideSrc d (sizeRegs code))
      ∧ LaneStoreEffect s t l (dataBytes s.w lit d code) targets := by
  have hkept := booked_postStore s .laneSt (tinfoOf i) l (dataBytes s.w lit d code) stt targets
  obtain ⟨t, ht, hend⟩ := laneMem_next hkept.opPosted (by rw [hkept.2]) _ h hexec hl
    ((laneStore_eq hready hroom hreg hpush).trans (by rw [hacc, Except.bind, hplain]; rfl))
  refine ⟨t, ht, hend.posted, hend.charged, hend.frame, hend.v.trans hkept.v, hend.sect.trans hkept.sect, ?_⟩
  exact fun va line parts hline => (carries_postStore s _ _ _ _ stt targets hline).congr hend.net

/-- A lane store traps at its addresses. -/
theorem laneStore_traps {legal : Option EncFault} (h : Issues s .lane 16)
    (hexec : exec i s = s.issue i (some .lane) kmask 16 legal (fun s => s.laneStore i words kmask code d lit srcs ea stt (push s)))
    (hl : legal = none) : AddressTraps i s code 1 (lanesEa s.w (s.w.voters (s.w.active kmask)) ea) :=
  addressTraps_of _ h hexec hl rfl fun x hx => (laneStore_eq hready hroom hreg hpush).trans (by rw [hx]; rfl)

end

/-- LD and ST complete, in both encodings. -/
theorem laneLoadsAndStores : LaneLoadsAndStores := by
  refine ⟨fun m f s l h hl hok => ?_, fun m f s l h hl hok => ?_, fun m f s l h hl hok => ?_,
    fun m f s l h hl hok => ?_⟩
  · obtain ⟨hready, hroom, hreg, hacc⟩ := hok
    exact laneLoad_next hready hroom hreg h rfl hl hacc
  · obtain ⟨hready, hroom, hreg, hacc⟩ := hok
    exact laneLoad_next hready hroom hreg h rfl hl hacc
  · obtain ⟨hready, hroom, hreg, hacc, hplain⟩ := hok
    exact laneStore_next (push := fun _ => noPush) hready hroom hreg rfl h rfl hl hacc hplain
  · obtain ⟨hready, hroom, hreg, hacc, hplain⟩ := hok
    exact laneStore_next (push := fun _ => noPush) hready hroom hreg rfl h rfl hl hacc hplain

/-- LD and ST trap at the address, in both encodings. -/
theorem laneAddressTraps : LaneAddressTraps := by
  refine ⟨fun m f s h hl hok => ?_, fun m f s h hl hok => ?_, fun m f s h hl hok => ?_, fun m f s h hl hok => ?_⟩
  · obtain ⟨hready, hroom, hreg⟩ := hok
    exact laneLoad_traps hready hroom hreg h rfl hl
  · obtain ⟨hready, hroom, hreg⟩ := hok
    exact laneLoad_traps hready hroom hreg h rfl hl
  · obtain ⟨hready, hroom, hreg⟩ := hok
    exact laneStore_traps (push := fun _ => noPush) hready hroom hreg rfl h rfl hl
  · obtain ⟨hready, hroom, hreg⟩ := hok
    exact laneStore_traps (push := fun _ => noPush) hready hroom hreg rfl h rfl hl

/-- Settles O15: loads by `laneLoad_next`, stores by `laneStore_next`, and the traps by `addressTraps_of`, where
the check of the addresses stops the body. -/
theorem laneAddressedAccess : Obligations.LaneAddressedAccess := ⟨laneLoadsAndStores, laneAddressTraps⟩

end Sys2Proof.Machine
end

section
/-! STT, PREF and ATOM complete (11 R243 to R248). -/
namespace Sys2Proof.Machine
open Sys2Proof.Claims

/-! ## PREF (11 R248) -/

theorem l1Only_sendPrefs (s : State) (l : List (Nat × Nat)) : L1Only s (s.sendPrefs l) := by
  induction l generalizing s with
  | nil => rfl
  | cons p rest ih => exact (l1Only_sendAfter s _ _ _ _ _).trans (ih _)

theorem net_subset_sendPrefs (s : State) (l : List (Nat × Nat)) : s.net ⊆ (s.sendPrefs l).net := by
  induction l generalizing s with
  | nil => exact List.Subset.refl _
  | cons p rest ih => exact List.Subset.trans (net_subset_sendAfter s _ _ _ _ _) (ih _)

theorem carries_sendPrefs (s : State) {l : List (Nat × Nat)} {p : Nat × Nat} (h : p ∈ l) :
    (s.sendPrefs l).Carries (.load (s.w.req 0 p.1 p.2) [] true true) := by
  induction l generalizing s with
  | nil => cases h
  | cons q rest ih =>
    rcases List.mem_cons.mp h with rfl | h
    · exact (carries_sendAfter s _ _ _ _ _).mono (net_subset_sendPrefs _ rest)
    · exact ih _ h

/-- The fills that a PREF asks for: none where it goes to the home slice. -/
def prefSent (f : XmF) (s : State) : State :=
  if f.imm8.getLsbD 6 then s else s.sendPrefs (s.prefLines (lanesEa s.w (s.w.active f.kmask.toNat) (eaXm f)))

theorem l1Only_prefSent (f : XmF) (s : State) : L1Only s (prefSent f s) := by
  unfold prefSent
  split
  · rfl
  · exact l1Only_sendPrefs s _

theorem prefBody_ok {f : XmF} {s : State} (hready : s.laneReady (xmAddrSrcs f) [] = .ok ())
    (hreg : s.regCheck (s.w.active f.kmask.toNat) (vRegs (xmAddrSrcs f)) = .ok ()) :
    prefBody f s = .ok (laneMemAfter (prefSent f s) (xmWords f) (xmAddrSrcs f)) := by
  simp only [prefBody, hready, hreg, bind, Except.bind]
  rfl

/-! ## ATOM (11 R243, R244) -/

section
variable (s : State) (id : Nat) (after : List Nat) (scope : Nat) (mk : Nat → AtomOp) (l : List Acc)

theorem booked_sendAtoms : Booked s (s.sendAtoms id after scope mk l) := by
  induction l generalizing s with
  | nil => exact ⟨rfl, rfl⟩
  | cons a rest ih => exact ((booked_addDirty s _).trans (l1Only_sendAfter _ _ _ _ _ _).booked).trans (ih _)

theorem net_subset_sendAtoms : s.net ⊆ (s.sendAtoms id after scope mk l).net := by
  induction l generalizing s with
  | nil => exact List.Subset.refl _
  | cons a rest ih =>
    exact List.Subset.trans (net_subset_sendAfter (s.modW (fun w => w.addDirty (lineOf a.pa))) _ _ _ _ _) (ih _)

variable {l} {a : Acc} (h : a ∈ l)
include h

/-- Each lane's request is on its way, behind what a release covers. -/
theorem sent_sendAtoms : ∃ n ∈ (s.sendAtoms id after scope mk l).net, n.after = after
    ∧ n.msg = .atom (s.w.req id a.va a.pa) (mk a.lane) := by
  induction l generalizing s with
  | nil => cases h
  | cons b rest ih =>
    rw [State.sendAtoms]
    rcases List.mem_cons.mp h with rfl | h
    · exact ⟨_, net_subset_sendAtoms _ id after scope mk rest (List.mem_append_right _ (List.mem_singleton_self _)), rfl, rfl⟩
    · rw [← (booked_addDirty s (lineOf b.pa)).req]
      exact ih _ h

end

/-- The request of a lane of an ATOM (11 R243). -/
def atomOpOf (f : XmF) (s : State) (lane : Nat) : AtomOp :=
  { op := f.xop.toNat, n := sizeBytes (xmSize f), lane := lane
    v := s.w.dataVal f.lit f.xop.toNat f.b9.toNat (xmSize f) lane
    c := if f.xop.toNat = 9 then s.w.dataVal f.lit f.xop.toNat f.c9.toNat (xmSize f) lane else 0
    returns := decide (f.d9.toNat ≠ 323), pc := s.w.lanePc }

/-- The operations that a release of an ATOM covers (11 R244). -/
def atomAfter (f : XmF) (s : State) : List Nat := if orderOf f.order.toNat = 2 then s.memOps else []

/-- An ATOM's operation posted, with its requests; an acquire of no lane is applied at once. -/
def atomPosted (o : Op) (f : XmF) (s : State) (l : List Acc) : State :=
  let u := (((s.addOp o).tlbFills l).sendAtoms s.nextId (atomAfter f s) (scopeOf f.order.toNat) (atomOpOf f s) l).modW Wave.prune
  if l = [] ∧ orderOf f.order.toNat = 1 then u.acquire u.w.core else u

section
variable (o : Op) (f : XmF) (s : State) (l : List Acc)

theorem booked_atomPosted : Booked s (atomPosted o f s l) := by
  have hsent := (((booked_addOp s o).trans (l1Only_tlbFills _ l).booked).trans (booked_sendAtoms _ s.nextId
    (atomAfter f s) (scopeOf f.order.toNat) (atomOpOf f s) l)).trans (booked_prune _)
  unfold atomPosted
  dsimp only
  split
  · exact hsent.trans (l1Only_acquire _ _).booked
  · exact hsent

theorem sent_atomPosted {a : Acc} (h : a ∈ l) : ∃ n ∈ (atomPosted o f s l).net, n.after = atomAfter f s
    ∧ n.msg = .atom (s.w.req s.nextId a.va a.pa) (atomOpOf f s a.lane) := by
  have hlanes : ¬(l = [] ∧ orderOf f.order.toNat = 1) := fun hnil => List.ne_nil_of_mem h hnil.1
  rw [atomPosted, if_neg hlanes, ← ((booked_addOp s o).trans (l1Only_tlbFills _ l).booked).req]
  exact sent_sendAtoms _ _ _ _ _ h

end

section
variable {f : XmF} {s : State} {l : List Acc}

/-- The operands that an ATOM reads. -/
def atomSrcs (f : XmF) : List Nat := wideSrc f.a9.toNat 2 ++ wideSrc f.b9.toNat (sizeRegs (xmSize f))
  ++ (if f.xop.toNat = 9 then wideSrc f.c9.toNat (sizeRegs (xmSize f)) else [])

theorem atomBody_ok (hst : s.st = .lane)
    (hready : s.laneReady (atomSrcs f) (wideRegs f.d9.toNat (sizeRegs (xmSize f))) = .ok ())
    (hroom : s.w.counter (if f.d9.toNat ≠ 323 then .laneLd else .laneSt) < 63)
    (hreg : s.regCheck (s.w.voters (s.w.active f.kmask.toNat))
      (wideRegs f.d9.toNat (sizeRegs (xmSize f)) ++ vRegs (atomSrcs f)) = .ok ())
    (hacc : s.checkAccess true 2 (xmSize f) (sizeBytes (xmSize f))
      (lanesEa s.w (s.w.voters (s.w.active f.kmask.toNat)) (eaBase f)) = .ok l)
    (hplain : s.plainCheck true (sizeBytes (xmSize f)) l = .ok ()) :
    ∃ o, atomBody f s = .ok (laneMemAfter (atomPosted o f s l) (xmWords f) (atomSrcs f)) := by
  have hcount : s.counterRoom (if decide (f.d9.toNat ≠ 323) = true then .laneLd else .laneSt) = .ok () := by
    simp only [decide_eq_true_eq]
    by_cases hret : f.d9.toNat ≠ 323
    · rw [if_pos hret] at hroom ⊢
      exact State.counterRoom_of_lt hroom
    · rw [if_neg hret] at hroom ⊢
      exact State.counterRoom_of_lt hroom
  simp only [atomSrcs] at hready hreg
  simp only [atomBody, hready, hcount, hreg, hacc, hplain, State.pc_of_lane hst, bind, Except.bind]
  exact ⟨_, rfl⟩

end

/-- Settles O16: STT by `laneStore_next`, PREF by `prefBody_ok`, ATOM by `atomBody_ok` and the requests it sends. -/
theorem targetedAndAtomicAccesses : Obligations.TargetedAndAtomicAccesses := by
  refine ⟨fun f s l cs h hl hready hroom hreg hpush hacc hplain => ?_, fun f s h hl hready hreg => ?_,
    fun f s l h hl hready hroom hreg hacc hplain => ?_⟩
  · exact laneStore_next (push := fun s => s.sttTargets f) hready hroom hreg hpush h rfl hl hacc hplain
  · have hsent := l1Only_prefSent f s
    obtain ⟨t, ht, hend⟩ := laneMem_next (i := .pref f) hsent.booked.opPosted (by rw [hsent.w]) _ h rfl hl
      (prefBody_ok hready hreg)
    refine ⟨t, ht, hend.posted, hend.charged, hend.frame, by rw [hend.v, hsent.w], by rw [hend.sect, hsent.w],
      by rw [hend.ops, hsent.w], fun hhome => ?_, fun hl1 p hp => ?_⟩
    · rw [hend.net, prefSent, if_pos hhome]
    · refine State.Carries.congr ?_ hend.net
      rw [prefSent, hl1]
      exact carries_sendPrefs s hp
  · obtain ⟨o, hbody⟩ := atomBody_ok (stream_of_issues h) hready hroom hreg hacc hplain
    have hkept := booked_atomPosted o f s l
    obtain ⟨t, ht, hend⟩ := laneMem_next (i := .atom f) hkept.opPosted (by rw [hkept.2]) _ h rfl hl hbody
    refine ⟨t, ht, hend.posted, hend.charged, hend.frame, hend.v.trans hkept.v, hend.sect.trans hkept.sect, fun a ha => ?_⟩
    rw [hend.net]
    exact sent_atomPosted o f s l ha

end Sys2Proof.Machine
end

section
/-! LDSP and STSP read and write the scratchpad of the wave's block on its core (08 R191 to R195; 11 R241, R242). -/
namespace Sys2Proof.Machine
open Sys2Proof.Claims

/-! ## Bytes of a scratchpad (08 R191, R195) -/

theorem mapGet_scratchWrite_outside (m : List (Nat × Byte)) (a : Nat) (bs : List Byte) {o : Nat}
    (h : ¬(a ≤ o ∧ o < a + bs.length)) : mapGet 0#8 (scratchWrite m a bs) o = mapGet 0#8 m o := by
  induction bs generalizing m a with
  | nil => rfl
  | cons b rest ih =>
    rw [List.length_cons] at h
    rw [scratchWrite, ih _ _ (by omega), mapGet_mapSet, if_neg (by omega)]

/-- Stores leave the bytes at no lane's offset. -/
theorem mapGet_scratchStores_outside (m : List (Nat × Byte)) (l : List (Nat × List Byte)) {o : Nat}
    (h : ∀ p ∈ l, ¬(p.1 ≤ o ∧ o < p.1 + p.2.length)) : mapGet 0#8 (scratchStores m l) o = mapGet 0#8 m o := by
  induction l generalizing m with
  | nil => rfl
  | cons p rest ih =>
    rw [scratchStores, ih _ (fun q hq => h q (List.mem_cons_of_mem p hq)),
      mapGet_scratchWrite_outside _ _ _ (h p List.mem_cons_self)]

theorem State.scratchOf_congr {s t : State} (h : t.blocks = s.blocks) (k : BKey) (core : Nat) :
    t.scratchOf k core = s.scratchOf k core := by
  unfold State.scratchOf State.block?
  rw [h]

/-- The scratchpad of a block on a core after stores into it; where the block has no part of the core, there is none. -/
theorem State.scratchOf_putScratch (s : State) (k : BKey) (core : Nat) (l : List (Nat × List Byte)) :
    (s.modSeg k core (fun g => g.putScratch l)).scratchOf k core =
      if (s.block? k).any (fun b => b.segs.any (fun g => g.core == core)) = true then scratchStores (s.scratchOf k core) l
      else s.scratchOf k core := by
  unfold State.scratchOf
  cases hb : s.block? k with
  | none =>
    have hb' : (s.modSeg k core (fun g => g.putScratch l)).block? k = none := by
      rw [State.modSeg, State.block?_modBlock, hb]
      · rfl
      · exact fun _ => rfl
    rw [hb']
    rfl
  | some b =>
    have hsegs := find?_map_ite b.segs (fun g => g.core == core) (fun g => g.core = core) (fun g => g.putScratch l)
      (by simp) (fun _ h => h)
    have hany : b.segs.any (fun g => g.core == core) = (b.segs.find? (fun g => g.core == core)).isSome := by
      rw [Bool.eq_iff_iff, List.find?_isSome, List.any_eq_true]
    rw [State.block?_modSeg core _ hb, Option.any_some, hany]
    dsimp only
    rw [hsegs]
    cases b.segs.find? (fun g => g.core == core) <;> rfl

/-! ## Bodies (11 R241) -/

section
variable {f : XmF} {s : State}

/-- What the checks of a scratch access ask. -/
def ScratchChecked (f : XmF) (s : State) (act : Nat) (regs : List Nat) : Prop :=
  s.descCheck f (scratchLanes f s.w act) = .ok () ∧ s.regCheck act regs = .ok ()
    ∧ s.scratchCheck (f.imm8.getLsbD 3) (xmSize f) (sizeBytes (xmSize f)) (scratchLanes f s.w act) = .ok ()

/-- The bytes that a scratch load gives each active lane. -/
def scratchGot (f : XmF) (s : State) : List (Nat × List Byte) :=
  (lanesOf (s.w.active f.kmask.toNat) s.w.lanes).map (fun k =>
    (k, scratchBytes (s.scratchOf s.w.key s.w.core) (scratchOff f s.w k).toNat (sizeBytes (xmSize f))))

theorem booked_doneOp (s : State) (cls : OpCls) (tinfo : Nat) : Booked s (s.doneOp cls tinfo) := by
  rw [State.doneOp_frame]
  exact ⟨rfl, rfl⟩

theorem lanes_of_scratchGot (cls : OpCls) (tinfo : Nat) :
    (scratchGot f s).map (fun p => p.1) = lanesOf (s.w.active f.kmask.toNat) (s.doneOp cls tinfo).w.lanes := by
  rw [(booked_doneOp s cls tinfo).lanes, scratchGot, List.map_map]
  exact List.map_id _

/-- A scratch load's operation, counted and done, and its words written. -/
def ldspPosted (f : XmF) (s : State) : State :=
  (s.doneOp .laneLd (tinfoOf (.ldsp f))).modW (fun w =>
    w.loadInto (laneDst f.d9.toNat (xmSize f) (s.w.active f.kmask.toNat)) (scratchGot f s))

theorem ldspBody_ok (hready : s.laneReady [f.a9.toNat, f.b9.toNat] (wideRegs f.d9.toNat (sizeRegs (xmSize f))) = .ok ())
    (hroom : s.w.counter .laneLd < 63)
    (hchecked : ScratchChecked f s (s.w.active f.kmask.toNat)
      (wideRegs f.d9.toNat (sizeRegs (xmSize f)) ++ vRegs [f.a9.toNat, f.b9.toNat])) :
    ldspBody f s = .ok (laneMemAfter (ldspPosted f s) (xmWords f) [f.a9.toNat, f.b9.toNat]) := by
  obtain ⟨hdesc, hreg, hbounds⟩ := hchecked
  simp only [ldspBody, hready, hdesc, hreg, hbounds, State.counterRoom_of_lt (c := .laneLd) hroom, bind, Except.bind]
  rw [scratchLanes, List.map_map]
  rfl

theorem ldspPosted_frame (f : XmF) (s : State) : OpPosted s (ldspPosted f s) ∧ (ldspPosted f s).w.s = s.w.s
    ∧ (ldspPosted f s).cores = s.cores ∧ (ldspPosted f s).net = s.net := by
  rw [ldspPosted, State.doneOp_frame]
  refine ⟨⟨rfl, ?_⟩, loadInto_laneDst_s _ _ _ _ _, rfl, rfl⟩
  simp only [State.modW_w]
  rw [Wave.loadInto_frame]

/-- The operation of a store is counted and done after its bytes stand in the scratchpad. -/
def stspStored (f : XmF) (s : State) : State :=
  s.modSeg s.w.key s.w.core (fun g => g.putScratch
    ((lanesOf (s.w.voters (s.w.active f.kmask.toNat)) s.w.lanes).map (fun k =>
      ((scratchOff f s.w k).toNat, dataBytes s.w f.lit f.d9.toNat (xmSize f) k))))

theorem stspBody_ok
    (hready : s.laneReady ([f.a9.toNat, f.b9.toNat] ++ wideSrc f.d9.toNat (sizeRegs (xmSize f))) [] = .ok ())
    (hroom : s.w.counter .laneSt < 63)
    (hchecked : ScratchChecked f s (s.w.voters (s.w.active f.kmask.toNat))
      (vRegs ([f.a9.toNat, f.b9.toNat] ++ wideSrc f.d9.toNat (sizeRegs (xmSize f))))) :
    stspBody f s = .ok (laneMemAfter ((stspStored f s).doneOp .laneSt (tinfoOf (.stsp f))) (xmWords f)
      ([f.a9.toNat, f.b9.toNat] ++ wideSrc f.d9.toNat (sizeRegs (xmSize f)))) := by
  obtain ⟨hdesc, hreg, hbounds⟩ := hchecked
  simp only [stspBody, hready, hdesc, hreg, hbounds, State.counterRoom_of_lt (c := .laneSt) hroom, bind, Except.bind]
  rw [scratchLanes, List.map_map]
  rfl

end

/-! ## The obligation -/

/-- The words of a scratch load, in every register and lane. -/
theorem getV_ldspPosted (f : XmF) (s : State) {r k : Nat} (hk : k < 64) : (ldspPosted f s).w.getV r k =
    if f.d9.toNat < 320 ∧ f.d9.toNat ≤ r ∧ r < f.d9.toNat + sizeRegs (xmSize f) ∧ k < s.w.lanes
        ∧ bit (s.w.active f.kmask.toNat) k = true then
      loadWord (xmSize f) (scratchBytes (s.scratchOf s.w.key s.w.core) (scratchOff f s.w k).toNat (sizeBytes (xmSize f)))
        (r - f.d9.toNat) % 2 ^ 32
    else s.w.getV r k := by
  have hdone := booked_doneOp s .laneLd (tinfoOf (.ldsp f))
  have hgot := lanes_of_scratchGot (f := f) (s := s) .laneLd (tinfoOf (.ldsp f))
  rw [ldspPosted, State.modW_w, laneDst]
  by_cases hd : f.d9.toNat < 320
  · rw [if_pos hd]
    split
    next hin =>
      obtain ⟨-, hlo, hhi, hlane, hact⟩ := hin
      have hmem := List.mem_map_of_mem (f := fun k => (k, scratchBytes (s.scratchOf s.w.key s.w.core)
        (scratchOff f s.w k).toNat (sizeBytes (xmSize f)))) ((mem_lanesOf _ _ _).mpr ⟨hlane, hact⟩)
      have hword := Wave.getV_loadLanes (d := f.d9.toNat) (code := xmSize f) hgot hmem
        (show r - f.d9.toNat < sizeRegs (xmSize f) by omega)
      rwa [Nat.add_sub_cancel' hlo] at hword
    next hout =>
      rw [Wave.getV_loadLanes_of_not hgot hk, hdone.getV]
      rw [hdone.lanes]
      exact fun hin => hout ⟨hd, hin⟩
  · rw [if_neg hd, if_neg (fun hin => hd hin.1), Wave.loadInto_none, hdone.getV]

theorem mem_sect_ldspPosted (f : XmF) (s : State) (x : Nat) : x ∈ (ldspPosted f s).w.sect ↔
    x ∈ s.w.sect ∨ ∃ r k, (f.d9.toNat < 320 ∧ f.d9.toNat ≤ r ∧ r < f.d9.toNat + sizeRegs (xmSize f) ∧ k < s.w.lanes
      ∧ bit (s.w.active f.kmask.toNat) k = true) ∧ x = regSector r k := by
  have hdone := booked_doneOp s .laneLd (tinfoOf (.ldsp f))
  have hgot := lanes_of_scratchGot (f := f) (s := s) .laneLd (tinfoOf (.ldsp f))
  rw [ldspPosted, State.modW_w, laneDst]
  by_cases hd : f.d9.toNat < 320
  · rw [if_pos hd, Wave.mem_sect_loadLanes hgot, hdone.lanes, hdone.sect]
    simp only [hd, true_and]
  · rw [if_neg hd, Wave.loadInto_none, hdone.sect]
    simp only [hd, false_and, exists_false, or_false]

/-- Settles O17: a load by `getV_ldspPosted`, a store by `State.scratchOf_putScratch`. -/
theorem scratchpadAccess : Obligations.ScratchpadAccess := by
  refine ⟨fun f s h hl hready hroom hchecked => ?_, fun f s h hl hready hroom hchecked => ?_⟩
  · obtain ⟨hp, hs, hcores, hnet⟩ := ldspPosted_frame f s
    obtain ⟨t, ht, hend⟩ := laneMem_next (i := .ldsp f) hp hs _ h rfl hl (ldspBody_ok hready hroom hchecked)
    have hget : t.w.getV = (ldspPosted f s).w.getV := by
      funext r k
      rw [Wave.getV, hend.v, Wave.getV]
    obtain ⟨hposted, hmem⟩ := hend.posted
    rw [hend.cores, hend.net, hcores, hnet] at hposted
    refine ⟨t, ht, hposted, hmem, hend.frame, fun r k hk => ?_, fun x => ?_⟩
    · rw [hget]
      exact getV_ldspPosted f s hk
    · rw [hend.sect]
      exact mem_sect_ldspPosted f s x
  · have hkept := booked_doneOp (stspStored f s) .laneSt (tinfoOf (.stsp f))
    have hend := laneMemEnd_of hkept.opPosted (by rw [hkept.2]) (stream_of_issues (s := s) h) (notMgmt_of_issues (s := s) h)
      (xmWords f) 10 ([f.a9.toNat, f.b9.toNat] ++ wideSrc f.d9.toNat (sizeRegs (xmSize f)))
    have hstored : (stspStored f s).stalled = s.stalled := rfl
    have ht := next_of_body (i := .stsp f) _ h rfl hl (stspBody_ok hready hroom hchecked) (hkept.opPosted.stalled.trans hstored)
    refine ⟨_, ht, ?_⟩
    generalize (laneMemAfter ((stspStored f s).doneOp .laneSt (tinfoOf (.stsp f))) (xmWords f)
      ([f.a9.toNat, f.b9.toNat] ++ wideSrc f.d9.toNat (sizeRegs (xmSize f)))).issued 10 = t at hend
    obtain ⟨hposted, hmem⟩ := hend.posted
    have hblocks : t.blocks = (stspStored f s).blocks := by rw [hposted]
    have hnet : t.net = s.net := hend.net.trans (by rw [State.doneOp_frame]; rfl)
    have hcores : t.cores = s.cores := hend.cores.trans (by rw [State.doneOp_frame]; rfl)
    have hscratch := State.scratchOf_putScratch s s.w.key s.w.core
      ((lanesOf (s.w.voters (s.w.active f.kmask.toNat)) s.w.lanes).map (fun k =>
        ((scratchOff f s.w k).toNat, dataBytes s.w f.lit f.d9.toNat (xmSize f) k)))
    refine ⟨?_, hmem, hend.frame, hend.v.trans hkept.v, hend.sect.trans hkept.sect, hblocks, fun o ho => ?_, fun hseg => ?_⟩
    · rw [hnet, hcores] at hposted
      rw [hblocks]
      exact hposted
    · rw [State.scratchOf_congr hblocks, stspStored, hscratch]
      split
      · exact mapGet_scratchStores_outside _ _ (List.forall_mem_map.mpr ho)
      · rfl
    · rw [State.scratchOf_congr hblocks, stspStored, hscratch, if_pos hseg]

end Sys2Proof.Machine
end

section
/-! LDS, STS and LDLQ complete (11 R249, R250). -/
namespace Sys2Proof.Machine
open Sys2Proof.Claims

/-! ## A lead memory form that completes -/

/-- Nothing differs but cores, messages, and of the issuing wave its lead registers, LQ and what it keeps of its operations. -/
def LeadPosted (s p : State) : Prop :=
  p = { s with w := p.w, cores := p.cores, net := p.net, nextId := p.nextId }
    ∧ p.w = { s.w with s := p.w.s, lq := p.w.lq, ops := p.w.ops, deferred := p.w.deferred, dirty := p.w.dirty }

theorem Booked.leadPosted {s p : State} (h : Booked s p) : LeadPosted s p := by
  obtain ⟨hsp, hw⟩ := h
  refine ⟨hsp, ?_⟩
  rw [hw]

/-- A lead memory form after its operation `p` is posted: RQ is popped where it is read, and the PC has moved. -/
def leadMemAfter (p : State) (words : Nat) (srcs : List LeadIx) : State := (p.modW (fun w => w.popRq srcs)).advance words

/-- What a completed lead memory form leaves, beside the registers and messages of its posted operation `p`. -/
structure LeadMemEnd (s p t : State) (words weight : Nat) (srcs : List LeadIx) : Prop where
  posted : Posted s t
  charged : Charged s t weight
  frame : LeadMemFrame s t words srcs
  s : t.w.s = p.w.s
  lq : t.w.lq = p.w.lq
  net : t.net = p.net

/-- The issue of a state in which only the wave, cores and messages differ is posted and charged. -/
theorem posted_issued {s b : State} (hb : b = { s with w := b.w, cores := b.cores, net := b.net, nextId := b.nextId })
    (hm : b.w.mgmt = false) (hcore : b.w.core = s.w.core) (weight : Nat) :
    Posted s (b.issued weight) ∧ Charged s (b.issued weight) weight := by
  have hissued : b.issued weight = { b with w := (b.issued weight).w, clusters := (b.charge s.w.core weight).clusters } := by
    rw [← hcore, State.issued, State.billed, hm]
    rfl
  have hposted : b.issued weight = { s with
      w := (b.issued weight).w, clusters := (s.charge s.w.core weight).clusters, cores := b.cores, net := b.net,
      nextId := b.nextId } := by
    rw [hb] at hissued
    rw [hb]
    exact hissued
  refine ⟨⟨?_, fun a => ?_⟩, ?_⟩
  · rw [hposted]
  · rw [hposted]
  · rw [Charged, hposted]

section
variable {s p : State} (hp : LeadPosted s p)
include hp

theorem leadMemEnd_of (hst : s.st = .lead) (hm : s.w.mgmt = false) (words weight : Nat) (srcs : List LeadIx) :
    LeadMemEnd s p ((leadMemAfter p words srcs).issued weight) words weight srcs := by
  obtain ⟨hsp, hw⟩ := hp
  have hstp : p.st = .lead := by rw [hsp]; exact hst
  have hafter : leadMemAfter p words srcs = p.modW (fun w => { w with
      rq := if srcs.contains .rq then w.rq.tail else w.rq, leadPc := w.leadPc + 4 * words }) := by
    rw [leadMemAfter, State.advance_of_lead ((State.modW_st p _).trans hstp), State.modW_modW]
    simp only [popRq_eq]
  have hleads : (leadMemAfter p words srcs).st = .lead := by rw [hafter]; exact hstp
  obtain ⟨hposted, hcharged⟩ := posted_issued (s := s) (b := leadMemAfter p words srcs) (by rw [hafter, hsp]; rfl)
    (by rw [hafter, State.modW_w, hw]; exact hm) (by rw [hafter, State.modW_w, hw]) weight
  refine ⟨hposted, hcharged, ?_, ?_, ?_, ?_⟩
  · rw [LeadMemFrame, State.issued_w, hleads, hafter, State.modW_w, hw]
    rfl
  · rw [State.issued_w, hafter, State.modW_w]
  · rw [State.issued_w, hafter, State.modW_w]
  · rw [State.issued_net, hafter, State.modW_net]

theorem leadMem_next {i : Instr} {weight words : Nat} {legal : Option EncFault} {srcs : List LeadIx}
    (body : State → R State) (h : Issues s .lead weight) (hexec : exec i s = s.issue i (some .lead) 0 weight legal body)
    (hl : legal = none) (hb : body s = .ok (leadMemAfter p words srcs)) :
    ∃ t, exec i s = .next t ∧ LeadMemEnd s p t words weight srcs :=
  ⟨_, next_of_body body h hexec hl hb (by rw [hp.1]; rfl),
    leadMemEnd_of hp (stream_of_issues h) (notMgmt_of_issues h) words weight srcs⟩

end

theorem mgmtPort_of_wave {s : State} (hm : s.w.mgmt = false) (srcs : List LeadIx) : s.mgmtPort srcs = .ok () := by
  rw [State.mgmtPort, hm]
  rfl

/-! ## LDS (11 R249) -/

/-- Where a lead load goes: a register, or nowhere. -/
def leadDest (d : LeadIx) (code : Nat) : Dst :=
  match d with
  | .s k => .lead k code
  | _ => .none

theorem leadDest_isLq (d : LeadIx) (code : Nat) : (leadDest d code).isLq = false := by
  cases d <;> rfl

theorem loadInto_leadDest (w : Wave) (d : LeadIx) (code lane : Nat) (bs : List Byte) :
    w.loadInto (leadDest d code) [(lane, bs)] = w.writeLead d (loadLead code bs) := by
  cases d <;> rfl

section
variable {s : State} {tinfo code n : Nat} {d : LeadIx} {a : Acc}

/-- A lead load whose bytes are at hand writes its register. -/
theorem postLoad_lead_here {bs : List Byte} (h : s.here n a = some bs) :
    let p := s.postLoad .leadLd tinfo n (leadDest d code) [a]
    LeadPosted s p ∧ p.w.lq = s.w.lq ∧ ∀ r, p.w.getS r = if d = .s r then loadLead code bs % 2 ^ 64 else s.w.getS r := by
  intro p
  have hall : [a].all (fun a => (s.here n a).isSome) = true := by simp [h]
  have hgot : s.gotHere n [a] = [(a.lane, bs)] := by simp [State.gotHere, h]
  obtain ⟨u, hu, heq⟩ := postLoad_here s n [a] .leadLd tinfo _ hall (leadDest_isLq d code)
  rw [hgot] at heq
  simp only [loadInto_leadDest] at heq
  have hw : p.w = (u.w.writeLead d (loadLead code bs)).prune := by
    simp only [p, heq, State.modW_w]
  have hframe : p.w = { s.w with s := p.w.s, ops := p.w.ops, deferred := p.w.deferred, dirty := p.w.dirty } := by
    rw [hw, writeLead_frame, hu.2]
    rfl
  refine ⟨⟨?_, ?_⟩, ?_, fun r => ?_⟩
  · simp only [p, heq]
    rw [hu.1]
    rfl
  · rw [hframe]
  · rw [hframe]
  · rw [hw, ← hu.getS]
    exact getS_writeLead u.w d _ r

/-- A lead load whose bytes are not at hand asks for their line. -/
theorem postLoad_lead_far (h : s.here n a = none) :
    let p := s.postLoad .leadLd tinfo n (leadDest d code) [a]
    Booked s p ∧ ∃ va fill, p.Carries
      (.load (s.w.req s.nextId va (lineOf a.pa)) [(a.lane, a.pa - lineOf a.pa, n)] fill false) := by
  intro p
  have hall : [a].all (fun a => (s.here n a).isSome) = false := by simp [h]
  have hfar : s.notHere n [a] = [a] := by simp [State.notHere, h]
  refine ⟨booked_postLoad_far s n [a] .leadLd tinfo _ (.inl hall), lineOf a.va, ?_⟩
  obtain ⟨u, hu, heq⟩ := postLoad_far s n [a] .leadLd tinfo (leadDest d code) (.inl hall)
  rw [hfar, byLine_singleton] at heq
  obtain ⟨fill, hsent⟩ := carries_sendLoads u s.nextId n (List.mem_singleton_self (lineOf a.va, lineOf a.pa, _))
  rw [hu.req, ← heq] at hsent
  exact ⟨fill, hsent⟩

theorem leadPosted_postLoad : LeadPosted s (s.postLoad .leadLd tinfo n (leadDest d code) [a])
    ∧ (s.postLoad .leadLd tinfo n (leadDest d code) [a]).w.lq = s.w.lq := by
  cases h : s.here n a with
  | some bs =>
    obtain ⟨hp, hlq, -⟩ := postLoad_lead_here (tinfo := tinfo) (code := code) (d := d) h
    exact ⟨hp, hlq⟩
  | none =>
    obtain ⟨hkept, -⟩ := postLoad_lead_far (tinfo := tinfo) (code := code) (d := d) h
    exact ⟨hkept.leadPosted, by rw [hkept.2]⟩

end

section
variable {i : Instr} {s : State} {words code : Nat} {d : LeadIx} {srcs : List LeadIx} {ea : Wave → Int} {a : Acc}

theorem ldsBody_ok (hm : s.w.mgmt = false) (hready : s.leadReady srcs (leadDst d) = .ok ())
    (hroom : s.w.counter .leadLd < 63) (hreg : s.sregCheck (leadRegs srcs ++ leadDst d) = .ok ())
    (hacc : s.checkAccess false 0 code (sizeBytes code) [(0, ea s.w)] = .ok [a]) :
    ldsBody i words code d srcs ea s =
      .ok (leadMemAfter (s.postLoad .leadLd (tinfoOf i) (sizeBytes code) (leadDest d code) [a]) words srcs) := by
  simp only [ldsBody, mgmtPort_of_wave hm, hready, hreg, hm, hacc, State.counterRoom_of_lt (c := .leadLd) hroom, bind,
    Except.bind]
  cases d <;> rfl

/-- LDS completes. -/
theorem lds_next {legal : Option EncFault} (h : Issues s .lead 12)
    (hexec : exec i s = s.issue i (some .lead) 0 12 legal (ldsBody i words code d srcs ea)) (hl : legal = none)
    (hready : s.leadReady srcs (leadDst d) = .ok ()) (hroom : s.w.counter .leadLd < 63)
    (hreg : s.sregCheck (leadRegs srcs ++ leadDst d) = .ok ())
    (hacc : s.checkAccess false 0 code (sizeBytes code) [(0, ea s.w)] = .ok [a]) :
    ∃ t, exec i s = .next t ∧ Posted s t ∧ Charged s t 12 ∧ LeadMemFrame s t words srcs ∧ t.w.lq = s.w.lq
      ∧ (∀ bs, s.here (sizeBytes code) a = some bs →
          ∀ r, t.w.getS r = if d = .s r then loadLead code bs % 2 ^ 64 else s.w.getS r)
      ∧ (s.here (sizeBytes code) a = none → t.w.s = s.w.s ∧ ∃ va fill, Sent s t
          (fun r => .load r [(a.lane, a.pa - lineOf a.pa, sizeBytes code)] fill false) va (lineOf a.pa)) := by
  obtain ⟨hp, hlq⟩ := leadPosted_postLoad (s := s) (tinfo := tinfoOf i) (code := code) (n := sizeBytes code) (d := d) (a := a)
  obtain ⟨t, ht, hend⟩ := leadMem_next hp _ h hexec hl (ldsBody_ok (notMgmt_of_issues h) hready hroom hreg hacc)
  refine ⟨t, ht, hend.posted, hend.charged, hend.frame, hend.lq.trans hlq, fun bs hbs r => ?_, fun hnone => ?_⟩
  · obtain ⟨-, -, hget⟩ := postLoad_lead_here (tinfo := tinfoOf i) (code := code) (d := d) hbs
    rw [← hget r, Wave.getS, hend.s, Wave.getS]
  · obtain ⟨hkept, va, fill, hsent⟩ := postLoad_lead_far (tinfo := tinfoOf i) (code := code) (d := d) hnone
    exact ⟨hend.s.trans (by rw [hkept.2]), va, fill, hsent.congr hend.net⟩

end

/-! ## STS (11 R249) -/

section
variable {i : Instr} {s : State} {words code : Nat} {lit : Option Dword} {d : LeadIx} {addr : List LeadIx} {ea : Wave → Int}
  {l : List Acc}

/-- The bytes that a lead store writes. -/
def leadBytes (s : State) (lit : Option Dword) (d : LeadIx) (code : Nat) : List Byte :=
  leBytes (s.w.leadVal lit d) (sizeBytes code)

theorem stsBody_ok (hm : s.w.mgmt = false) (hready : s.leadReady (d :: addr) [] = .ok ())
    (hroom : s.w.counter .leadSt < 63) (hreg : s.sregCheck (leadRegs (d :: addr)) = .ok ())
    (hacc : s.checkAccess false 1 code (sizeBytes code) [(0, ea s.w)] = .ok l)
    (hplain : s.plainCheck false (sizeBytes code) l = .ok ()) :
    stsBody i words code lit d addr ea s = .ok (leadMemAfter
      (s.postStore .leadSt (tinfoOf i) l (fun _ => leadBytes s lit d code) false []) words (d :: addr)) := by
  simp only [stsBody, mgmtPort_of_wave hm, hready, hreg, hm, hacc, hplain, State.counterRoom_of_lt (c := .leadSt) hroom, bind,
    Except.bind]
  rfl

/-- STS completes. -/
theorem sts_next {legal : Option EncFault} (h : Issues s .lead 12)
    (hexec : exec i s = s.issue i (some .lead) 0 12 legal (stsBody i words code lit d addr ea)) (hl : legal = none)
    (hready : s.leadReady (d :: addr) [] = .ok ()) (hroom : s.w.counter .leadSt < 63)
    (hreg : s.sregCheck (leadRegs (d :: addr)) = .ok ())
    (hacc : s.checkAccess false 1 code (sizeBytes code) [(0, ea s.w)] = .ok l)
    (hplain : s.plainCheck false (sizeBytes code) l = .ok ()) :
    ∃ t, exec i s = .next t ∧ Posted s t ∧ Charged s t 12 ∧ LeadMemFrame s t words (d :: addr)
      ∧ t.w.lq = s.w.lq ∧ t.w.s = s.w.s ∧ ∀ va line parts, (va, line, parts) ∈ byLine l → Sent s t
          (fun r => .store r (lineData (fun _ => leBytes (s.w.leadVal lit d) (sizeBytes code)) parts) []) va line := by
  have hkept := booked_postStore s .leadSt (tinfoOf i) l (fun _ => leadBytes s lit d code) false []
  obtain ⟨t, ht, hend⟩ := leadMem_next hkept.leadPosted _ h hexec hl
    (stsBody_ok (notMgmt_of_issues h) hready hroom hreg hacc hplain)
  refine ⟨t, ht, hend.posted, hend.charged, hend.frame, hend.lq.trans (by rw [hkept.2]), hend.s.trans (by rw [hkept.2]), ?_⟩
  intro va line parts hline
  have hsent := carries_postStore s .leadSt (tinfoOf i) l (fun _ => leadBytes s lit d code) false [] hline
  rw [ite_self] at hsent
  exact hsent.congr hend.net

end

/-! ## LDLQ (11 R250) -/

section
variable {f : XmF} {s : State} {l : List Acc}

/-- The distance between the addresses of an LQ load. -/
def lqStride (f : XmF) (s : State) : Int := (BitVec.ofNat 64 (s.w.leadVal f.lit (leadIx9 f.b9.toNat))).toInt

/-- The first address of an LQ load. -/
def lqBase (f : XmF) (s : State) : Int := (s.w.leadVal f.lit (leadIx9 f.a9.toNat) : Int) + f.off21.toInt

/-- The LQ entry that an LQ load takes. -/
def lqEntry (f : XmF) (s : State) : LqEntry :=
  { id := s.nextId, filled := false, data := [], addr := (lqBase f s).toNat, stride := lqStride f s, size := xmSize f, poison := 0 }

/-- An LQ load posted: its lines are asked for, and it has its entry. -/
def ldlqPosted (f : XmF) (s : State) (l : List Acc) : State :=
  (s.postLoad .leadLd (tinfoOf (.ldlq f)) (sizeBytes (xmSize f)) (.lq s.nextId (xmSize f)) l).modW (fun w =>
    { w with lq := w.lq ++ [lqEntry f s] })

theorem ldlqBody_ok (hm : s.w.mgmt = false) (hready : s.leadReady (leadAddrSrcs f) [] = .ok ())
    (hroom : s.w.counter .leadLd < 63) (hfree : s.w.lq.length < 16) (hreg : s.sregCheck (leadRegs (leadAddrSrcs f)) = .ok ())
    (hlo : -(2 ^ 31) ≤ lqStride f s) (hhi : lqStride f s < 2 ^ 31)
    (hacc : s.checkAccess true 0 (xmSize f) (sizeBytes (xmSize f)) (lqLanes s.w (lqBase f s) (lqStride f s)) = .ok l) :
    ldlqBody f s = .ok (leadMemAfter (ldlqPosted f s l) (xmWords f) (leadAddrSrcs f)) := by
  have hfull : s.w.lqFull = false := decide_eq_false (Nat.not_le.mpr hfree)
  have hstride : ¬(lqStride f s < -2147483648 ∨ lqStride f s > 2147483647) := by omega
  unfold lqStride at hstride hacc
  unfold lqBase at hacc
  simp only [ldlqBody, mgmtPort_of_wave hm, hready, hreg, hfull, sextN_eq_toInt, if_neg hstride, hacc,
    State.counterRoom_of_lt (c := .leadLd) hroom, bind, Except.bind]
  simp only [leadMemAfter, ldlqPosted, State.modW_modW, popRq_eq]
  rfl

end

/-- Settles O18: LDS by `lds_next`, STS by `sts_next`, LDLQ by `ldlqBody_ok`. -/
theorem leadMemoryAccess : Obligations.LeadMemoryAccess := by
  refine ⟨fun f s a h hl hready hroom hreg hacc => lds_next h rfl hl hready hroom hreg hacc,
    fun f s a h hl hready hroom hreg hacc => lds_next h rfl hl hready hroom hreg hacc,
    fun f s l h hl hready hroom hreg hacc hplain => sts_next h rfl hl hready hroom hreg hacc hplain,
    fun f s l h hl hready hroom hreg hacc hplain => sts_next h rfl hl hready hroom hreg hacc hplain,
    fun f s l h hl hready hroom hfree hreg hlo hhi hacc => ?_⟩
  have hkept := booked_postLoad_far s (sizeBytes (xmSize f)) l .leadLd (tinfoOf (.ldlq f)) (.lq s.nextId (xmSize f)) (.inr rfl)
  have hp : LeadPosted s (ldlqPosted f s l) := by
    obtain ⟨hsp, hw⟩ := hkept
    unfold ldlqPosted
    rw [hsp]
    refine ⟨rfl, ?_⟩
    simp only [State.modW_w]
    rw [hw]
  obtain ⟨t, ht, hend⟩ := leadMem_next (i := .ldlq f) hp _ h rfl hl
    (ldlqBody_ok (notMgmt_of_issues h) hready hroom hfree hreg hlo hhi hacc)
  refine ⟨t, ht, hend.posted, hend.charged, hend.frame, hend.s.trans ?_, hend.lq.trans ?_, fun a ha hnone => ?_⟩
  · rw [ldlqPosted, State.modW_w, hkept.2]
  · rw [ldlqPosted, State.modW_w, hkept.2]
    rfl
  · obtain ⟨va, parts, fill, hpart, hsent⟩ := carries_postLoad s (sizeBytes (xmSize f)) l .leadLd (tinfoOf (.ldlq f))
      (.lq s.nextId (xmSize f)) ha hnone
    exact ⟨va, parts, fill, hpart, hsent.congr hend.net⟩

end Sys2Proof.Machine
end

section
/-! The matrix forms post their entries (12 R259 to R261, R265, R272 to R275, R278). -/
namespace Sys2Proof.Machine
open Sys2Proof.Claims

/-! ## What posting an entry leaves (12 R259, R261) -/

/-- Nothing but the issuing wave, the cores, the buckets and the number of the next operation differs. -/
def EngineOnly (s t : State) : Prop :=
  t = { s with w := t.w, clusters := t.clusters, cores := t.cores, nextId := t.nextId }

theorem EngineOnly.trans {s t u : State} (h : EngineOnly s t) (h' : EngineOnly t u) : EngineOnly s u := by
  rw [EngineOnly, h', h]

theorem EngineOnly.memKept {s t : State} (h : EngineOnly s t) : MemKept s t := fun a => by rw [h]

theorem engineOnly_modW (s : State) (f : Wave → Wave) : EngineOnly s (s.modW f) := rfl

theorem engineOnly_issued (s : State) (weight : Nat) : EngineOnly s (s.issued weight) := by
  unfold State.issued State.billed
  split <;> rfl

section
variable (s : State) (i : Instr) (mask mode : Nat) (regs : List (List Word)) (dst : Dst)

theorem engineOnly_postEntry : EngineOnly s (s.postEntry i mask mode regs dst) := rfl

theorem State.postEntry_w : (s.postEntry i mask mode regs dst).w = { s.w with
    ops := (s.postEntry i mask mode regs dst).w.ops, deferred := (s.postEntry i mask mode regs dst).w.deferred
    open_ := { s.w.open_ with pending := s.w.open_.pending + 1 } } := rfl

theorem State.postEntry_cores (hst : s.st = .lane) : (s.postEntry i mask mode regs dst).cores =
    modAt s.cores s.w.core (fun c => { c with fifo := c.fifo ++ [
      { id := s.nextId, key := s.w.key, core := s.w.core, slot := s.w.slot, far := false, deadline := s.w.deadline
        st := .waiting, instr := i, mask := mask, batch := s.w.bseq, pc := s.w.lanePc, mode := mode, regs := regs
        latch := [], halfDone := false }] }) := by
  rw [show s.w.lanePc = s.w.pcOf s.st by rw [hst]; rfl]
  rfl

@[simp] theorem State.issued_cores (weight : Nat) : (s.issued weight).cores = s.cores := by
  unfold State.issued State.billed
  split <;> rfl

theorem entryPosted_issued (hst : s.st = .lane) (words weight : Nat) :
    EntryPosted s (((s.postEntry i mask mode regs dst).advance words).issued weight) i words mask mode regs dst := by
  have hframe : EngineOnly s (((s.postEntry i mask mode regs dst).advance words).issued weight) :=
    (engineOnly_postEntry s i mask mode regs dst).trans ((engineOnly_modW _ _).trans (engineOnly_issued _ _))
  rw [State.advance_of_lane (s := s.postEntry i mask mode regs dst) hst] at hframe ⊢
  refine ⟨hframe, hframe.memKept, ?_, ?_, _, by rw [State.issued_w]; rfl, rfl, rfl, rfl, rfl⟩
  · rw [State.issued_cores, State.modW_cores, State.postEntry_cores s i mask mode regs dst hst]
  · rw [State.issued_w, State.modW_st, State.modW_w, State.postEntry_w,
      show (s.postEntry i mask mode regs dst).st = .lane from hst]
    rfl

end

/-- A legal matrix form whose body ends with its entry posted. -/
theorem entryPosted_of_body {i : Instr} {s : State} {kmask weight words mask mode : Nat} {legal : Option EncFault}
    {regs : List (List Word)} {dst : Dst} {body : State → R State} (h : Issues s .lane weight)
    (hexec : exec i s = s.issue i (some .lane) kmask weight legal body) (hl : legal = none)
    (hb : body s = .ok ((s.postEntry i mask mode regs dst).advance words)) :
    ∃ t, exec i s = .next t ∧ EntryPosted s t i words mask mode regs dst :=
  ⟨_, next_of_body body h hexec hl hb rfl, entryPosted_issued s i mask mode regs dst (stream_of_issues h) words weight⟩

/-! ## The checks of an issue (12 R261, R265, R275, R283) -/

theorem State.matrixRoom_of {s : State} (h : EngineRoom s) : s.matrixRoom = .ok () := by
  obtain ⟨hfifo, hmx⟩ := h
  exact if_neg (not_or.mpr ⟨Nat.not_le.mpr hfifo, Nat.not_le.mpr hmx⟩)

theorem State.tileCheck_of {s : State} {ts : List (Nat × Nat)} (h : ∀ p ∈ ts, p.1 < s.w.k.tiles) : s.tileCheck ts = .ok () := by
  have hnone : ts.filter (fun p => decide (p.1 ≥ s.w.k.tiles)) = [] :=
    List.filter_eq_nil_iff.mpr fun p hp => by simpa using h p hp
  simp only [State.tileCheck, hnone]

theorem matrixAddrs_one {x : MAddr} (hodd : x.odd = false) (hout : x.out = false) : matrixAddrs [x] = .ok () := by
  simp [matrixAddrs, hodd, hout, minBy]

theorem descCheck_one {skew : Bool} {d : Nat} (which lanes : Nat) (h : skew = true → bits d 21 11 = 0) :
    descCheck skew which [(d, lanes)] = .ok () := by
  cases skew with
  | false => rfl
  | true => simp [descCheck, h rfl]

/-! ## MMA and MPAIR (12 R265, R266, R272) -/

section
variable {f : XtF} {s : State} {pair : Bool}

/-- The sources that MMA and MPAIR read: A, B, the scales and the random bits. -/
def mmaSrcs (f : XtF) (w : Wave) : List Nat :=
  [f.a9.toNat, f.b9.toNat] ++ (if xtScaled f then [f.c9.toNat] else [])
    ++ (if xtScaled f && mmaMode f w == 5 then [f.c9.toNat + 1] else [])

/-- The values of these sources. -/
def mmaRegs (f : XtF) (w : Wave) : List (List Word) :=
  [w.lanesVal f.lit f.a9.toNat, w.lanesVal f.lit f.b9.toNat,
    (if xtScaled f then w.lanesVal f.lit f.c9.toNat else []),
    (if xtScaled f && mmaMode f w == 5 then w.lanesVal f.lit (f.c9.toNat + 1) else [])]

/-- The scratch operands of the issuing octets. -/
def mmaAddrs (f : XtF) (w : Wave) : List MAddr :=
  (octetsOf (w.active f.kmask.toNat)).flatMap (fun o =>
    aAddrs w.k.scratch o (w.lanesVal f.lit f.a9.toNat)
      ++ [bAddr f w.k.scratch o (laneVal (w.lanesVal f.lit f.b9.toNat) (8 * o))])

/-- What MMA and MPAIR ask of their registers, the engine, the tiles and the block, before the mask and the addresses. -/
structure MmaReady (pair : Bool) (f : XtF) (s : State) : Prop where
  ready : s.laneReady (mmaSrcs f s.w) [] = .ok ()
  room : EngineRoom s
  desc : descCheck (f.skew = 1#1) 2 ((octetsOf (s.w.active f.kmask.toNat)).map (fun o =>
    (laneVal (s.w.lanesVal f.lit f.b9.toNat) (8 * o), 1 <<< (8 * o)))) = .ok ()
  regs : s.regCheck (s.w.active f.kmask.toNat) (vRegs (mmaSrcs f s.w)) = .ok ()
  tiles : ∀ o ∈ octetsOf (s.w.active f.kmask.toNat),
    f.tile.toNat + o < s.w.k.tiles ∧ (pair = true → f.aux6.toNat + o < s.w.k.tiles)
  span : pair = true → (s.block? s.w.key).any (fun b => b.segs.any (fun g => g.core == partner s.w.core)) = true

theorem MmaReady.tileCheck (h : MmaReady pair f s) :
    s.tileCheck ((octetsOf (s.w.active f.kmask.toNat)).map (fun o => (f.tile.toNat + o, 255 <<< (8 * o)))
      ++ (if pair then (octetsOf (s.w.active f.kmask.toNat)).map (fun o => (f.aux6.toNat + o, 255 <<< (8 * o))) else [])) =
      .ok () := by
  refine State.tileCheck_of fun p hp => ?_
  rcases List.mem_append.mp hp with hp | hp
  · obtain ⟨o, ho, rfl⟩ := List.mem_map.mp hp
    exact (h.tiles o ho).1
  · cases pair with
    | false => exact absurd hp List.not_mem_nil
    | true =>
      obtain ⟨o, ho, rfl⟩ := List.mem_map.mp hp
      exact (h.tiles o ho).2 rfl

/-- Past these checks, MMA and MPAIR stop at an octet that the mask cuts, and else look at their scratch operands. -/
theorem mmaBody_of_ready (i : Instr) (h : MmaReady pair f s) : mmaBody i pair f s =
    (if partialOctets (s.w.active f.kmask.toNat) ≠ [] then
      .error (.trap causeOctet (s.w.active f.kmask.toNat &&& octetLanes (partialOctets (s.w.active f.kmask.toNat))) 0
        (maskOf (partialOctets (s.w.active f.kmask.toNat)) <<< 11))
    else (matrixAddrs (mmaAddrs f s.w)).bind (fun _ =>
      .ok ((s.postEntry i (s.w.active f.kmask.toNat) (mmaMode f s.w) (mmaRegs f s.w) .none).advance (xtWords f)))) := by
  have hready := h.ready
  have hregs := h.regs
  unfold mmaSrcs at hready hregs
  simp only [mmaBody, hready, State.matrixRoom_of h.room, h.desc, hregs, h.tileCheck, bind, Except.bind, ite_self]
  refine (if_neg ?_).trans rfl
  cases pair with
  | false => exact Bool.false_ne_true
  | true =>
    obtain ⟨b, hb, hany⟩ := (Option.any_eq_true _ _).mp (h.span rfl)
    simp [hb, hany]

/-- The dynamic mode takes random bits from a register that the scales' encoding allows. -/
theorem mmaRandFault_none (h : xtScaled f = true → mmaMode f s.w = 5 → f.c9.toNat ≤ 318) : s.w.mmaRandFault f = none := by
  by_cases hr : xtScaled f = true ∧ f.rnd = 7#3 ∧ s.w.rnd = 5
  · obtain ⟨hscaled, hdyn, hrnd⟩ := hr
    have hle := h hscaled (by simp [mmaMode, hscaled, hdyn, hrnd])
    simp [Wave.mmaRandFault, badValue, faultIf, Nat.not_lt.mpr hle]
  · have : (xtScaled f && f.rnd == 7#3 && s.w.rnd == 5) = false := by
      rw [Bool.eq_false_iff]
      simpa [and_assoc] using hr
    simp [Wave.mmaRandFault, this, badValue, faultIf]

section
variable {i : Instr} {weight : Nat} {legal : Option EncFault} (hi : Issues s .lane weight)
  (hexec : exec i s = s.issue i (some .lane) f.kmask.toNat weight legal (mmaBody i pair f)) (hl : legal = none)
  (h : MmaReady pair f s)
include hi hexec hl h

theorem mma_posts (hwhole : partialOctets (s.w.active f.kmask.toNat) = []) (haddrs : matrixAddrs (mmaAddrs f s.w) = .ok ()) :
    ∃ t, exec i s = .next t
      ∧ EntryPosted s t i (xtWords f) (s.w.active f.kmask.toNat) (mmaMode f s.w) (mmaRegs f s.w) .none := by
  refine entryPosted_of_body hi hexec hl ?_
  rw [mmaBody_of_ready i h, if_neg (not_not.mpr hwhole), haddrs]
  rfl

theorem mma_cut (hcut : partialOctets (s.w.active f.kmask.toNat) ≠ []) :
    Stops i s weight (.trap causeOctet (s.w.active f.kmask.toNat &&& octetLanes (partialOctets (s.w.active f.kmask.toNat))) 0
      (maskOf (partialOctets (s.w.active f.kmask.toNat)) <<< 11)) :=
  stops_of_body _ hi hexec hl (by rw [mmaBody_of_ready i h, if_pos hcut]) (by decide)

end

end

theorem mma_legal {f : XtF} {s : State} {aux : Bool} (hl : legalXt (useMma aux f) f = none)
    (hrand : xtScaled f = true → mmaMode f s.w = 5 → f.c9.toNat ≤ 318) :
    opcodeFirst [legalXt (useMma aux f) f, s.w.mmaRandFault f] = none := by
  rw [hl, mmaRandFault_none hrand]
  rfl

theorem matrixMultiplyPosts : MatrixMultiplyPosts := by
  refine ⟨fun f s h => ?_, fun f s h => ?_⟩
  · obtain ⟨hi, hl, hrand, hready, hroom, hdesc, hregs, htiles, hspan⟩ := h
    have hmma : MmaReady false f s := ⟨hready, hroom, hdesc, hregs, htiles, hspan⟩
    exact ⟨mma_posts hi rfl (mma_legal hl hrand) hmma, mma_cut hi rfl (mma_legal hl hrand) hmma⟩
  · obtain ⟨hi, hl, hrand, hready, hroom, hdesc, hregs, htiles, hspan⟩ := h
    have hmma : MmaReady true f s := ⟨hready, hroom, hdesc, hregs, htiles, hspan⟩
    exact ⟨mma_posts hi rfl (mma_legal hl hrand) hmma, mma_cut hi rfl (mma_legal hl hrand) hmma⟩

/-! ## The tile-wide forms, MRD and MWR (12 R260, R273 to R275, R278) -/

section
variable {f : XtF} {s : State} {body : Nat → R State}

theorem tileWide_none {act : Nat} (h : lowestLane act s.w.lanes = none) :
    tileWide f act s body = .ok (s.advance (xtWords f)) := by
  simp only [tileWide, h]

theorem tileWide_some {act l : Nat} (h : lowestLane act s.w.lanes = some l) : tileWide f act s body = body l := by
  simp only [tileWide, h]

/-- A tile-wide form only moves on where no lane is active. -/
theorem tileWide_skips {i : Instr} {weight : Nat} {legal : Option EncFault} {body' : State → R State}
    (h : Issues s .lane weight) (hexec : exec i s = s.issue i (some .lane) 0 weight legal body') (hl : legal = none)
    (hbody : body' s = tileWide f s.w.exec s body) (hnone : lowestLane s.w.exec s.w.lanes = none) :
    Ends i s (s.modW (fun w => { w with lanePc := w.lanePc + 4 * xtWords f })) weight :=
  ends_of_modW _ h hexec hl (by rw [hbody, tileWide_none hnone, State.advance_of_lane (stream_of_issues h)])

end

theorem active_zero (w : Wave) : w.active 0 = w.exec := rfl

section
variable {f : XtF} {s : State}

theorem tileCheck_moveTiles {act : Nat} (h : f.tile.toNat + (if s.w.width = 64 then 1 else 0) < s.w.k.tiles) :
    s.tileCheck (moveTiles f s.w act) = .ok () := by
  refine State.tileCheck_of fun p hp => ?_
  rw [moveTiles] at hp
  by_cases hw : s.w.width = 64
  · rw [if_pos hw] at h hp
    rcases List.mem_cons.mp hp with rfl | hp
    · exact Nat.lt_of_succ_lt h
    · rw [List.mem_singleton.mp hp]
      exact h
  · rw [if_neg hw] at h hp
    rw [List.mem_singleton.mp hp]
    exact h

theorem mzeroBody_ok {l : Nat} (hlane : lowestLane s.w.exec s.w.lanes = some l) (hroom : EngineRoom s)
    (htiles : f.tile.toNat + f.imm9.toNat % 64 < s.w.k.tiles) :
    mzeroBody f s = .ok ((s.postEntry (.mzero f) s.w.exec 0 [] .none).advance (xtWords f)) := by
  have htile : s.tileCheck ((List.range (f.imm9.toNat % 64 + 1)).map (fun k => (f.tile.toNat + k, s.w.active 0))) = .ok () :=
    State.tileCheck_of fun p hp => by
      obtain ⟨k, hk, rfl⟩ := List.mem_map.mp hp
      have := List.mem_range.mp hk
      dsimp only
      omega
  refine (tileWide_some hlane).trans ?_
  simp only [State.matrixRoom_of hroom, htile, bind, Except.bind]
  rfl

theorem mrdBody_ok (hready : s.laneReady [] ((List.range 4).map (fun q => f.d9.toNat + q)) = .ok ()) (hroom : EngineRoom s)
    (hregs : s.regCheck (s.w.active f.kmask.toNat) ((List.range 4).map (fun q => f.d9.toNat + q)) = .ok ())
    (htiles : f.tile.toNat + (if s.w.width = 64 then 1 else 0) < s.w.k.tiles) :
    mrdBody f s = .ok ((s.postEntry (.mrd f) (s.w.active f.kmask.toNat) 0 []
      (.lanes f.d9.toNat 4 (s.w.active f.kmask.toNat) 4)).advance (xtWords f)) := by
  simp only [mrdBody, hready, State.matrixRoom_of hroom, hregs, tileCheck_moveTiles htiles, bind, Except.bind]

theorem mwrBody_ok (hready : s.laneReady ((List.range 4).map (fun q => f.a9.toNat + q)) [] = .ok ()) (hroom : EngineRoom s)
    (hregs : s.regCheck (s.w.active f.kmask.toNat) ((List.range 4).map (fun q => f.a9.toNat + q)) = .ok ())
    (htiles : f.tile.toNat + (if s.w.width = 64 then 1 else 0) < s.w.k.tiles) :
    mwrBody f s = .ok ((s.postEntry (.mwr f) (s.w.active f.kmask.toNat) 0
      (((List.range 4).map (fun q => f.a9.toNat + q)).map (fun r => s.w.lanesVal none r)) .none).advance (xtWords f)) := by
  simp only [mwrBody, hready, State.matrixRoom_of hroom, hregs, tileCheck_moveTiles htiles, bind, Except.bind]

/-- The sources of MLDT and MSTORE: the offset or descriptor, and the element base of a skewed one. -/
def moveSrcs (f : XtF) : List Nat := f.a9.toNat :: (if decide (f.skew = 1#1) then [f.b9.toNat] else [])

/-- The element bases of MLDT and MSTORE, none where the operand is linear. -/
def moveBases (f : XtF) (w : Wave) : List Word := if decide (f.skew = 1#1) then w.lanesVal f.lit f.b9.toNat else []

/-- The tile move's rules on its offset `a` or descriptor, its element base `b` and its words (12 R275). -/
structure MoveOperands (f : XtF) (scratch a b : Nat) : Prop where
  skewed : decide (f.skew = 1#1) = true → bits a 21 11 = 0 ∧ bits a 0 8 = 0 ∧ b % 32 ≤ 16 ∧ b + 239 < 1024
  linear : decide (f.skew = 1#1) = false → a % 4 = 0
  inside : ∀ x ∈ moveWords (decide (f.skew = 1#1)) a b, x + 4 ≤ scratch

theorem MoveOperands.matrixAddrs {scratch a b : Nat} (h : MoveOperands f scratch a b) (lanes off : Nat) :
    matrixAddrs [{ lanes := lanes, off := off
                   odd := if decide (f.skew = 1#1) then bits a 0 8 != 0 else a % 4 != 0
                   out := (decide (f.skew = 1#1) && decide (b % 32 > 16 ∨ b + 239 ≥ 1024))
                     || (moveWords (decide (f.skew = 1#1)) a b).any (fun x => decide (x + 4 > scratch)) }] = .ok () := by
  have hany : (moveWords (decide (f.skew = 1#1)) a b).any (fun x => decide (x + 4 > scratch)) = false :=
    List.any_eq_false.mpr fun x hx => by simpa using h.inside x hx
  cases hskew : decide (f.skew = 1#1) with
  | false =>
    rw [hskew] at hany
    exact matrixAddrs_one (by simp [h.linear hskew]) (by simpa using hany)
  | true =>
    obtain ⟨-, hodd, hcol, hend⟩ := h.skewed hskew
    rw [hskew] at hany
    exact matrixAddrs_one (by simp [hodd]) (by rw [hany]; simp; omega)

theorem moveBody_ok {l : Nat} (i : Instr) (hlane : lowestLane s.w.exec s.w.lanes = some l) (hroom : EngineRoom s)
    (hready : s.laneReady (moveSrcs f) [] = .ok ()) (hregs : s.regCheck s.w.exec (vRegs (moveSrcs f)) = .ok ())
    (htile : f.tile.toNat < s.w.k.tiles)
    (h : MoveOperands f s.w.k.scratch (laneVal (s.w.lanesVal f.lit f.a9.toNat) l) (laneVal (moveBases f s.w) l)) :
    moveBody i f s =
      .ok ((s.postEntry i s.w.exec 0 [s.w.lanesVal f.lit f.a9.toNat, moveBases f s.w] .none).advance (xtWords f)) := by
  have htiles : s.tileCheck [(f.tile.toNat, s.w.exec)] = .ok () :=
    State.tileCheck_of fun p hp => by rw [List.mem_singleton.mp hp]; exact htile
  have hdesc := descCheck_one 1 s.w.exec (fun hskew => (h.skewed hskew).1)
  have haddrs := h.matrixAddrs s.w.exec
  unfold moveSrcs at hready hregs
  unfold moveBases at haddrs ⊢
  refine (tileWide_some hlane).trans ?_
  simp only [hready, State.matrixRoom_of hroom, active_zero, hdesc, hregs, htiles, haddrs, bind, Except.bind, ite_self]

theorem msigBody_ok {l : Nat} {x : Bar} (hlane : lowestLane s.w.exec s.w.lanes = some l) (hroom : EngineRoom s)
    (hready : s.laneReady [f.a9.toNat, f.b9.toNat] [] = .ok ())
    (hregs : s.regCheck s.w.exec (vRegs [f.a9.toNat, f.b9.toNat]) = .ok ()) (hbelow : f.aux6.toNat < 48)
    (hbar : s.bar? s.w.key s.w.j f.aux6.toNat = some x)
    (hstage : laneVal (s.w.lanesVal f.lit f.a9.toNat) l + laneVal (s.w.lanesVal f.lit f.b9.toNat) l ≤ s.w.k.scratch) :
    msigBody f s = .ok ((s.postEntry (.msig f) s.w.exec 0
      [s.w.lanesVal f.lit f.a9.toNat, s.w.lanesVal f.lit f.b9.toNat] .none).advance (xtWords f)) := by
  refine (tileWide_some hlane).trans ?_
  simp only [hready, State.matrixRoom_of hroom, active_zero, hregs, if_pos hbelow, hbar,
    if_neg (Nat.not_lt.mpr hstage), bind, Except.bind, gt_iff_lt]

end

theorem matrixMovesPost : MatrixMovesPost := by
  refine ⟨fun f => ⟨fun s h hl hnone => tileWide_skips h rfl hl rfl hnone,
      fun s h hl hnone => tileWide_skips h rfl hl rfl hnone, fun s h hl hnone => tileWide_skips h rfl hl rfl hnone,
      fun s h hl hnone => tileWide_skips h rfl hl rfl hnone, ?_, ?_⟩,
    fun f s l h hl hlane hroom htiles => entryPosted_of_body h rfl hl (mzeroBody_ok hlane hroom htiles),
    fun f s h hl hready hroom hregs htiles => entryPosted_of_body h rfl hl (mrdBody_ok hready hroom hregs htiles),
    fun f s h hl hready hroom hregs htiles => entryPosted_of_body h rfl hl (mwrBody_ok hready hroom hregs htiles),
    fun f s l x h hl hlane hroom hready hregs hbelow hbar hstage =>
      entryPosted_of_body h rfl hl (msigBody_ok hlane hroom hready hregs hbelow hbar hstage)⟩
  · exact fun s l h hl hlane hroom hready hregs htile hskew hlinear hinside =>
      entryPosted_of_body h rfl hl (moveBody_ok _ hlane hroom hready hregs htile ⟨hskew, hlinear, hinside⟩)
  · exact fun s l h hl hlane hroom hready hregs htile hskew hlinear hinside =>
      entryPosted_of_body h rfl hl (moveBody_ok _ hlane hroom hready hregs htile ⟨hskew, hlinear, hinside⟩)

/-- Settles O20: MMA and MPAIR by `mma_posts` and `mma_cut`, the moves by the end of each body. -/
theorem matrixPosts : Obligations.MatrixPosts := ⟨matrixMultiplyPosts, matrixMovesPost⟩

end Sys2Proof.Machine
end

section
/-! Batches of matrix entries: MFENCE closes the open one, MWAIT waits for a closed one (12 R276, R277, R279). -/
namespace Sys2Proof.Machine
open Sys2Proof.Claims

/-! ## Batches that commit (12 R279) -/

theorem running_of_issues {s : State} {st : Stream} {weight : Nat} (h : Issues s st weight) : s.w.status = .running := by
  have hmay := h.1
  simp only [State.mayIssue, Wave.streamOpen, Bool.and_eq_true, decide_eq_true_eq] at hmay
  exact hmay.1.1.1.1

theorem State.wave?_self (s : State) : s.wave? s.w.core s.w.slot = some s.w := if_pos ⟨rfl, rfl⟩

theorem State.modWave_self (s : State) (f : Wave → Wave) : s.modWave s.w.core s.w.slot f = s.modW f := if_pos ⟨rfl, rfl⟩

theorem Wave.batchWake_of_running {w : Wave} (h : w.status = .running) : w.batchWake = w := by
  simp [Wave.batchWake, h]

theorem State.modW_congr {s : State} {f g : Wave → Wave} (h : f s.w = g s.w) : s.modW f = s.modW g := by
  rw [State.modW, h, State.modW]

/-- Where the issuing wave runs, its batches without entries leave its table and are counted, and nothing wakes. -/
theorem State.batchCommit_of_running {s : State} (h : s.w.status = .running) : s.batchCommit s.w.core s.w.slot =
    (s.modCore s.w.core (fun c => c.countBatches (s.w.batches.filter (fun b => b.pending == 0)))).modW (fun w =>
      { w with batches := w.batches.filter (fun b => b.pending != 0) }) := by
  simp only [State.batchCommit, State.wave?_self]
  refine (State.modWave_self (s.modCore _ _) _).trans (State.modW_congr ?_)
  exact Wave.batchWake_of_running h

/-! ## MFENCE (12 R276) -/

section
variable {f : XtF} {s : State} {l : Nat}

/-- The wave after MFENCE: it has written the number of the batch, closed it and opened the next. -/
def fencedWave (f : XtF) (w : Wave) : Wave :=
  { w.writeDst f.d9.toNat w.exec (fun _ => w.bseq) with
    bseq := (w.bseq + 1) % 65536, batches := w.batches ++ [{ w.open_ with num := w.bseq }], open_ := MBatch.open0 }

theorem fencedWave_status (f : XtF) (w : Wave) : (fencedWave f w).status = w.status := by
  rw [fencedWave, writeDst_frame]

theorem mfenceBody_ok (hlane : lowestLane s.w.exec s.w.lanes = some l) (hready : s.laneReady [] [f.d9.toNat] = .ok ())
    (hroom : s.w.batches.length < 16) (hregs : s.regCheck s.w.exec (vRegs [f.d9.toNat]) = .ok ()) :
    mfenceBody f s = .ok (((s.modW (fencedWave f)).batchCommit (fencedWave f s.w).core (fencedWave f s.w).slot).advance
      (xtWords f)) := by
  refine (tileWide_some hlane).trans ?_
  simp only [hready, if_neg (Nat.not_le.mpr hroom), active_zero, hregs, bind, Except.bind, ge_iff_le]
  rfl

theorem mfence_completes (h : Issues s .lane 16) (hl : legalXt useMfence f = none)
    (hlane : lowestLane s.w.exec s.w.lanes = some l) (hready : s.laneReady [] [f.d9.toNat] = .ok ())
    (hroom : s.w.batches.length < 16) (hregs : s.regCheck s.w.exec (vRegs [f.d9.toNat]) = .ok ()) :
    ∃ t, exec (.mfence f) s = .next t ∧ MemKept s t ∧ t.w = { fencedWave f s.w with
      batches := (fencedWave f s.w).batches.filter (fun b => b.pending != 0), lanePc := s.w.lanePc + 4 * xtWords f
      tryLane := .issued, deadlock := 0, refused := none } := by
  have hst := stream_of_issues h
  have hrun : (s.modW (fencedWave f)).w.status = .running := (fencedWave_status f s.w).trans (running_of_issues h)
  have hpc : (fencedWave f s.w).lanePc = s.w.lanePc := by rw [fencedWave, writeDst_frame]
  have hbody := mfenceBody_ok hlane hready hroom hregs
  have hcommit := State.batchCommit_of_running hrun
  rw [State.modW_w] at hcommit
  rw [hcommit, State.advance_of_lane (s := ((s.modW _).modCore _ _).modW _) hst] at hbody
  refine ⟨_, next_of_body _ h rfl hl hbody rfl, fun a => ?_, ?_⟩
  · rw [State.issued_mem]; rfl
  · rw [State.issued_w, ← hpc]
    simp only [State.modW_w, State.modW_st, State.modCore_w, State.modCore_st, hst]
    rfl

end

/-! ## MWAIT (12 R277) -/

section
variable {f : XtF} {s : State} {l : Nat}

theorem mwaitBody_ok (hlane : lowestLane s.w.exec s.w.lanes = some l) (hready : s.laneReady [f.a9.toNat] [] = .ok ())
    (hregs : s.regCheck s.w.exec (vRegs [f.a9.toNat]) = .ok ()) :
    mwaitBody f s = .ok (if s.w.batches.any (fun b => b.num == s.w.src f.lit f.a9.toNat l % 65536)
      then s.park (.mwait (xtWords f) (s.w.src f.lit f.a9.toNat l % 65536)) else s.advance (xtWords f)) := by
  refine (tileWide_some hlane).trans ?_
  simp only [hready, active_zero, hregs, bind, Except.bind]

end

/-- Settles O21: MFENCE by the wave that it leaves (`mfence_completes`), MWAIT by the end of its body (`mwaitBody_ok`). -/
theorem matrixBatches : Obligations.MatrixBatches := by
  refine ⟨fun f s l h hl hlane hready hroom hregs => ?_, fun f s l h hl hlane hready hregs => ⟨fun hnone => ?_, fun hsome => ?_⟩⟩
  · obtain ⟨t, ht, hmem, hw⟩ := mfence_completes h hl hlane hready hroom hregs
    have hdst := writeDst_frame s.w f.d9.toNat s.w.exec (fun _ => s.w.bseq)
    have hlead : t.w.s = s.w.s := by rw [hw, fencedWave, hdst]
    have hstatus : t.w.status = s.w.status := by rw [hw, fencedWave, hdst]
    refine ⟨t, ht, hmem, ?_, laneWord_of _ _ _ _ _ _ (fun _ _ => rfl) ?_ ?_ ?_ ?_ ?_, ?_, ?_, ?_, hlead, hstatus⟩
    all_goals rw [hw] <;> rfl
  · have hany : s.w.batches.any (fun b => b.num == s.w.src f.lit f.a9.toNat l % 65536) = false :=
      List.any_eq_false.mpr fun b hb => by simpa using hnone b hb
    refine ends_of_modW _ h rfl hl ?_
    rw [mwaitBody_ok hlane hready hregs, hany, ← State.advance_of_lane (stream_of_issues h)]
    rfl
  · have hany : s.w.batches.any (fun b => b.num == s.w.src f.lit f.a9.toNat l % 65536) = true :=
      List.any_eq_true.mpr (hsome.imp fun b hb => ⟨hb.1, by simpa using hb.2⟩)
    refine ends_of_modW _ h rfl hl ?_
    rw [mwaitBody_ok hlane hready hregs, hany]
    rfl

end Sys2Proof.Machine
end

section
/-! Tiles, scratchpad and registers that a matrix entry writes at its commit (12 R264, R267, R273 to R275; 08 R190, R197). -/
namespace Sys2Proof.Machine
open Sys2Proof.Claims

/-! ## Elements of a tile -/

/-- Nothing of a segment but its tiles, with their sector validity bits, differs. -/
def TilesOnly (g g' : CoreSeg) : Prop := g' = { g with tiles := g'.tiles, tsect := g'.tsect }

theorem TilesOnly.trans {g g' g'' : CoreSeg} (h : TilesOnly g g') (h' : TilesOnly g' g'') : TilesOnly g g'' := by
  rw [TilesOnly, h', h]

theorem TilesOnly.core {g g' : CoreSeg} (h : TilesOnly g g') : g'.core = g.core := by rw [h]
theorem TilesOnly.scratch {g g' : CoreSeg} (h : TilesOnly g g') : g'.scratch = g.scratch := by rw [h]

theorem tilesOnly_setTile (g : CoreSeg) (t : Nat) (l : List (Nat × Nat)) : TilesOnly g (g.setTile t l) := by
  induction l generalizing g with
  | nil => rfl
  | cons p rest ih => exact TilesOnly.trans (by rfl) (ih _)

theorem tileAt_lt (g : CoreSeg) (t n : Nat) : g.tileAt t n < 2 ^ 32 := BitVec.isLt _

theorem laneVal_lt (ws : List Word) (l : Nat) : laneVal ws l < 2 ^ 32 := BitVec.isLt _

/-- The elements of the tiles after one of them is written. -/
theorem tileAt_setTile_one (g : CoreSeg) (t m x : Nat) {a n : Nat} (hm : m < 128) (hn : n < 128) :
    (g.setTile t [(m, x)]).tileAt a n = if a = t ∧ n = m then x % 2 ^ 32 else g.tileAt a n := by
  have hkey : 128 * a + n = 128 * t + m ↔ a = t ∧ n = m := by omega
  simp only [CoreSeg.tileAt, CoreSeg.setTile, mapGet_mapSet, hkey]
  split <;> simp

theorem setTile_cons (g : CoreSeg) (t : Nat) (p : Nat × Nat) (rest : List (Nat × Nat)) :
    g.setTile t (p :: rest) = (g.setTile t [p]).setTile t rest := rfl

/-- The elements of the tiles after those of some numbers are written, each with its value. -/
theorem tileAt_setTile_map (g : CoreSeg) (t : Nat) (ks : List Nat) (v : Nat → Nat) (hks : ∀ k ∈ ks, k < 128) {a n : Nat}
    (hn : n < 128) : (g.setTile t (ks.map (fun k => (k, v k)))).tileAt a n =
      if a = t ∧ n ∈ ks then v n % 2 ^ 32 else g.tileAt a n := by
  induction ks generalizing g with
  | nil => simp [CoreSeg.setTile]
  | cons k rest ih =>
    rw [List.map_cons, setTile_cons, ih _ (fun j hj => hks j (List.mem_cons_of_mem k hj)),
      tileAt_setTile_one _ _ _ _ (hks k List.mem_cons_self) hn]
    by_cases ha : a = t
    · by_cases hk : n = k
      · subst hk
        simp [ha]
      · simp [ha, hk]
    · simp [ha]

/-! ## MZERO and MLDT (12 R273, R275) -/

theorem tileAt_zeroTiles (g : CoreSeg) (t n a : Nat) {k : Nat} (hk : k < 128) :
    (g.zeroTiles t n).tileAt a k = if t ≤ a ∧ a < t + n then 0 else g.tileAt a k := by
  have hkey : (128 * t ≤ 128 * a + k ∧ 128 * a + k < 128 * t + 128 * n) ↔ (t ≤ a ∧ a < t + n) := by omega
  simp only [CoreSeg.tileAt, CoreSeg.zeroTiles, mapGet_mapClear, hkey]
  split <;> rfl

theorem leValue_lt (bs : List Byte) : leValue bs < 256 ^ bs.length := by
  induction bs with
  | nil => simp [leValue]
  | cons b rest ih =>
    have hb : b.toNat < 256 := b.isLt
    rw [leValue, List.length_cons, Nat.pow_succ]
    omega

theorem leValue_take_four_lt (bs : List Byte) : leValue (bs.take 4) < 2 ^ 32 :=
  calc leValue (bs.take 4)
    _ < 256 ^ (bs.take 4).length := leValue_lt _
    _ ≤ 256 ^ 4 := Nat.pow_le_pow_right (by decide) (List.length_take_le 4 bs)

/-! ## MMA and MPAIR (12 R267) -/

theorem tilesOnly_mmaCommit (e : MEntry) (f : XtF) (base : Nat) (g : CoreSeg) (os : List (Nat × Nat)) :
    TilesOnly g (mmaCommit e f base g os).1 := by
  induction os generalizing g with
  | nil => rfl
  | cons p rest ih => exact (tilesOnly_setTile _ _ _).trans (ih _)

/-! ## MWR and MRD (12 R274) -/

theorem mem_movePairs (mask l q : Nat) : (l, q) ∈ movePairs mask ↔ l < 64 ∧ bit mask l = true ∧ q < 4 := by
  simp only [movePairs, List.mem_flatMap, List.mem_map, List.mem_range, mem_lanesOf, Prod.mk.injEq]
  constructor
  · rintro ⟨l', ⟨hl, hm⟩, q', hq, rfl, rfl⟩
    exact ⟨hl, hm, hq⟩
  · rintro ⟨hl, hm, hq⟩
    exact ⟨l, ⟨hl, hm⟩, q, hq, rfl, rfl⟩

theorem moveElem_lt {t l q : Nat} (hq : q < 4) : (moveElem t l q).2 < 128 := by
  simp only [moveElem]
  omega

/-- A lane and a register of a move have an element of their own. -/
theorem moveElem_inj {t l l' q q' : Nat} :
    ((moveElem t l q).1 = (moveElem t l' q').1 ∧ (moveElem t l q).2 = (moveElem t l' q').2) ↔ (l, q) = (l', q') := by
  simp only [moveElem, Prod.mk.injEq]
  constructor
  · rintro ⟨htile, helem⟩
    omega
  · rintro ⟨rfl, rfl⟩
    exact ⟨rfl, rfl⟩

section
variable (e : MEntry) (t : Nat)

theorem tilesOnly_mwrWrite (g : CoreSeg) (ps : List (Nat × Nat)) : TilesOnly g (mwrWrite e t g ps) := by
  induction ps generalizing g with
  | nil => rfl
  | cons p rest ih => exact (tilesOnly_setTile _ _ _).trans (ih _)

/-- The element of a lane and register after MWR: the lane's word where the move names them. -/
theorem tileAt_mwrWrite (g : CoreSeg) (ps : List (Nat × Nat)) (hps : ∀ p ∈ ps, p.2 < 4) {l q : Nat} (hq : q < 4) :
    (mwrWrite e t g ps).tileAt (moveElem t l q).1 (moveElem t l q).2 =
      if (l, q) ∈ ps then laneVal (e.regs.getD q []) l else g.tileAt (moveElem t l q).1 (moveElem t l q).2 := by
  induction ps generalizing g with
  | nil => rfl
  | cons p rest ih =>
    obtain ⟨l', q'⟩ := p
    have hq' : q' < 4 := hps (l', q') List.mem_cons_self
    rw [mwrWrite, ih _ (fun p hp => hps p (List.mem_cons_of_mem _ hp)),
      tileAt_setTile_one _ _ _ _ (moveElem_lt hq') (moveElem_lt hq)]
    simp only [moveElem_inj]
    by_cases hrest : (l, q) ∈ rest
    · rw [if_pos hrest, if_pos (List.mem_cons_of_mem _ hrest)]
    · rw [if_neg hrest]
      by_cases hthis : (l, q) = (l', q')
      · obtain ⟨rfl, rfl⟩ := Prod.mk.inj hthis
        rw [if_pos rfl, if_pos List.mem_cons_self, Nat.mod_eq_of_lt (laneVal_lt _ _)]
      · rw [if_neg hthis, if_neg (by rw [List.mem_cons]; tauto)]

end

section
variable (g : CoreSeg) (t d : Nat)

theorem mrdWrite_frame (w : Wave) (ps : List (Nat × Nat)) : w.mrdWrite g t d ps =
    { w with v := (w.mrdWrite g t d ps).v, sect := (w.mrdWrite g t d ps).sect } := by
  induction ps generalizing w with
  | nil => rfl
  | cons p rest ih =>
    rw [Wave.mrdWrite, ih]
    rfl

/-- A lane of a register after MRD: the element where the move names them. -/
theorem getV_mrdWrite (w : Wave) (ps : List (Nat × Nat)) (hps : ∀ p ∈ ps, p.1 < 64) {l q : Nat} (hl : l < 64) :
    (w.mrdWrite g t d ps).getV (d + q) l =
      if (l, q) ∈ ps then g.tileAt (moveElem t l q).1 (moveElem t l q).2 else w.getV (d + q) l := by
  induction ps generalizing w with
  | nil => rfl
  | cons p rest ih =>
    obtain ⟨l', q'⟩ := p
    rw [Wave.mrdWrite, ih _ (fun p hp => hps p (List.mem_cons_of_mem _ hp)),
      Wave.getV_setV _ _ _ _ _ _ (hps (l', q') List.mem_cons_self) hl]
    by_cases hrest : (l, q) ∈ rest
    · rw [if_pos hrest, if_pos (List.mem_cons_of_mem _ hrest)]
    · rw [if_neg hrest]
      by_cases hthis : (l, q) = (l', q')
      · obtain ⟨rfl, rfl⟩ := Prod.mk.inj hthis
        rw [if_pos ⟨rfl, rfl⟩, if_pos List.mem_cons_self, Nat.mod_eq_of_lt (tileAt_lt _ _ _)]
      · have hreg : ¬(d + q = d + q' ∧ l = l') := fun h => hthis (Prod.ext h.2 (Nat.add_left_cancel h.1))
        rw [if_neg hreg, if_neg (by rw [List.mem_cons]; tauto)]

end

/-- The lanes and registers that MRD writes: those of its mask and its wave, of the registers its operation still has. -/
theorem mem_mrdPairs {w : Wave} {id a m x y : Nat} {o : Op} (ho : w.ops.find? (fun o => o.id == id) = some o)
    (hdst : o.dst = .lanes a m x y) (mask l q : Nat) :
    (l, q) ∈ w.mrdPairs id mask ↔ l < 64 ∧ (l < w.lanes ∧ bit mask l = true) ∧ q < 4 ∧ q < m := by
  simp only [Wave.mrdPairs, ho, hdst, List.mem_filter, mem_movePairs, decide_eq_true_eq, bit_eq_testBit,
    Nat.testBit_mod_two_pow, Bool.and_eq_true, and_assoc]

/-! ## What an entry does to its segment, instruction by instruction -/

section
variable {e : MEntry} {f : XtF} (g : CoreSeg)

theorem effect_mma (he : e.instr = .mma f) : (e.effect g).1 = (mmaCommit e f f.tile.toNat g (octetsOf e.mask).zipIdx).1 := by
  simp only [MEntry.effect, he]

theorem effect_mpair (he : e.instr = .mpair f) : (e.effect g).1 =
    (mmaCommit e f (if e.far then f.aux6.toNat else f.tile.toNat) g (octetsOf e.mask).zipIdx).1 := by
  simp only [MEntry.effect, he]

theorem effect_mzero (he : e.instr = .mzero f) : (e.effect g).1 = g.zeroTiles f.tile.toNat (f.imm9.toNat % 64 + 1) := by
  simp only [MEntry.effect, he]

theorem effect_mwr (he : e.instr = .mwr f) : (e.effect g).1 = mwrWrite e f.tile.toNat g (movePairs e.mask) := by
  simp only [MEntry.effect, he]

theorem effect_mldt (he : e.instr = .mldt f) : (e.effect g).1 =
    g.setTile f.tile.toNat ((List.range 128).map (fun n => (n, leValue ((e.latch.drop (4 * n)).take 4)))) := by
  simp only [MEntry.effect, he]

theorem effect_mstore (he : e.instr = .mstore f) : (e.effect g).1 =
    g.putScratch ((moveWords (f.skew = 1#1) (e.low 0) (e.low 1)).zipIdx.map (fun p =>
      (p.1, leBytes (g.tileAt f.tile.toNat p.2) 4))) := by
  simp only [MEntry.effect, he]

end

theorem effect_core (e : MEntry) (g : CoreSeg) : (e.effect g).1.core = g.core := by
  unfold MEntry.effect
  split
  · exact (tilesOnly_mmaCommit _ _ _ _ _).core
  · exact (tilesOnly_mmaCommit _ _ _ _ _).core
  · rfl
  · exact (tilesOnly_mwrWrite _ _ _ _).core
  · exact (tilesOnly_setTile _ _ _).core
  · rfl
  · rfl

end Sys2Proof.Machine
end

section
/-! The matrix engine takes its entries, commits them and makes the arrivals of MSIG (12 R261 to R264, R267, R270, R272 to
R279). -/
namespace Sys2Proof.Machine
open Sys2Proof.Claims

/-! ## Cores and segments read back -/

theorem State.core_modCore_ne {s : State} {c d : Nat} (h : c ≠ d) (f : Core → Core) : (s.modCore c f).core d = s.core d := by
  simp [State.core, modAt_eq_modify, List.getD_eq_getElem?_getD, h]

/-- A change of cores that leaves their FIFOs leaves the FIFO of each. -/
theorem State.fifo_modCore {s : State} {f : Core → Core} (hf : ∀ x, (f x).fifo = x.fifo) (c d : Nat) :
    ((s.modCore c f).core d).fifo = (s.core d).fifo := by
  simp only [State.core, State.modCore_cores, modAt_eq_modify, List.getD_eq_getElem?_getD, List.getElem?_modify]
  by_cases h : c = d
  · cases hd : s.cores[d]? <;> simp [h, hf]
  · simp [h]

theorem segOf_congr {s t : State} (h : t.blocks = s.blocks) (k : BKey) (c : Nat) : segOf t k c = segOf s k c := by
  simp only [segOf, State.block?, h]

/-- The part of a block on a core after a change of it that stays on the core. -/
theorem segOf_modSeg {s : State} {k : BKey} {c : Nat} {f : CoreSeg → CoreSeg} (hf : ∀ g : CoreSeg, g.core = c → (f g).core = c) :
    segOf (s.modSeg k c f) k c = (segOf s k c).map f := by
  unfold segOf
  cases hb : s.block? k with
  | none =>
    rw [State.modSeg, State.block?_modBlock, hb]
    · rfl
    · exact fun _ => rfl
  | some b =>
    rw [State.block?_modSeg c f hb]
    exact find?_map_ite b.segs (fun g => g.core == c) (fun g => g.core = c) f (by simp) hf

/-- After the entries of a number on a core are told that the other half is done, they say so. -/
theorem halfDone_of_modEntry {s : State} {c id : Nat} {x : MEntry}
    (hx : x ∈ ((s.modEntry c id (fun e => { e with halfDone := true })).core c).fifo) (hid : x.id = id) : x.halfDone = true := by
  by_cases hc : c < s.cores.length
  · rw [State.modEntry, State.core_modCore_self _ _ _ hc] at hx
    obtain ⟨y, -, rfl⟩ := List.mem_map.mp hx
    by_cases hy : y.id = id
    · rw [if_pos hy]
    · rw [if_neg hy] at hid
      exact absurd hid hy
  · have hnone : ((s.modEntry c id (fun e => { e with halfDone := true })).core c).fifo = [] := by
      rw [State.core, List.getD_eq_default _ _ (by simpa [State.modEntry] using hc)]
      rfl
    rw [hnone] at hx
    exact absurd hx List.not_mem_nil

/-! ## An entry that has committed leaves its counter and its batch (12 R261, R279) -/

@[simp] theorem countBatches_fifo (x : Core) (bs : List MBatch) : (x.countBatches bs).fifo = x.fifo := by
  induction bs generalizing x with
  | nil => rfl
  | cons b rest ih => exact ih _

/-- Nothing but waves and cores differs, and every FIFO stays. -/
structure FifosKept (s t : State) : Prop where
  frame : t = { s with w := t.w, waves := t.waves, cores := t.cores }
  fifo : ∀ c, (t.core c).fifo = (s.core c).fifo

theorem FifosKept.refl (s : State) : FifosKept s s := ⟨rfl, fun _ => rfl⟩

theorem FifosKept.trans {s t u : State} (h : FifosKept s t) (h' : FifosKept t u) : FifosKept s u := by
  refine ⟨?_, fun c => (h'.fifo c).trans (h.fifo c)⟩
  rw [h'.frame, h.frame]

theorem FifosKept.blocks {s t : State} (h : FifosKept s t) : t.blocks = s.blocks := by rw [h.frame]

theorem FifosKept.memKept {s t : State} (h : FifosKept s t) : MemKept s t := fun a => by rw [h.frame]

theorem fifosKept_modWave (s : State) (c slot : Nat) (f : Wave → Wave) : FifosKept s (s.modWave c slot f) :=
  ⟨by rw [State.modWave_frame], fun d => by rw [State.modWave_frame]; rfl⟩

theorem fifosKept_modCore (s : State) (c : Nat) {f : Core → Core} (hf : ∀ x, (f x).fifo = x.fifo) :
    FifosKept s (s.modCore c f) := ⟨rfl, State.fifo_modCore hf c⟩

theorem fifosKept_batchCommit (s : State) (c slot : Nat) : FifosKept s (s.batchCommit c slot) := by
  unfold State.batchCommit
  split
  · exact .refl s
  · exact (fifosKept_modCore s c (fun x => countBatches_fifo x _)).trans (fifosKept_modWave _ _ _ _)

theorem fifosKept_entryDone (s : State) (e : MEntry) (nan ovf : Nat) : FifosKept s (s.entryDone e nan ovf) :=
  (fifosKept_modWave _ _ _ _).trans ((fifosKept_modWave _ _ _ _).trans (fifosKept_batchCommit _ _ _))

/-! ### The registers of its wave -/

/-- What counting an entry leaves of a wave: its place and its lane registers. -/
structure LanesKept (w w' : Wave) : Prop where
  core : w'.core = w.core
  slot : w'.slot = w.slot
  v : w'.v = w.v

theorem LanesKept.trans {w w' w'' : Wave} (h : LanesKept w w') (h' : LanesKept w' w'') : LanesKept w w'' :=
  ⟨h'.core.trans h.core, h'.slot.trans h.slot, h'.v.trans h.v⟩

theorem lanesKept_batchCount (w : Wave) (n nan ovf done : Nat) : LanesKept w (w.batchCount n nan ovf done) := by
  unfold Wave.batchCount
  dsimp only
  split <;> exact ⟨rfl, rfl, rfl⟩

theorem lanesKept_wake (w : Wave) : LanesKept w w.wake := by
  unfold Wave.wake Wave.goOn Wave.setPc
  split <;> exact ⟨rfl, rfl, rfl⟩

theorem LanesKept.batchWake {w w' : Wave} (h : LanesKept w w') : LanesKept w w'.batchWake := by
  unfold Wave.batchWake
  split
  · split
    · exact h
    · exact h.trans (lanesKept_wake w')
  · exact h

/-- A wave after a change of it that leaves its place and its lane registers. -/
theorem wave?_modWave_kept {s : State} {c slot : Nat} {w : Wave} {f : Wave → Wave} (hf : ∀ w, LanesKept w (f w))
    (hw : s.wave? c slot = some w) : ∃ w', (s.modWave c slot f).wave? c slot = some w' ∧ w'.v = w.v :=
  ⟨f w, by rw [State.wave?_modWave _ _ _ _ (fun w => (hf w).core) (fun w => (hf w).slot), hw]; rfl, (hf w).v⟩

theorem wave?_modOp {s : State} {c slot : Nat} {w : Wave} (id : Nat) (f : Op → Op) (hw : s.wave? c slot = some w) :
    ∃ w', (s.modOp c slot id f).wave? c slot = some w' ∧ w'.v = w.v :=
  wave?_modWave_kept (fun _ => ⟨rfl, rfl, rfl⟩) hw

theorem wave?_batchCommit {s : State} {c slot : Nat} {w : Wave} (hw : s.wave? c slot = some w) :
    ∃ w', (s.batchCommit c slot).wave? c slot = some w' ∧ w'.v = w.v := by
  simp only [State.batchCommit, hw]
  exact wave?_modWave_kept (s := s.modCore c _) (fun _ => .batchWake ⟨rfl, rfl, rfl⟩) hw

theorem wave?_entryDone {s : State} {e : MEntry} {w : Wave} (nan ovf : Nat) (hw : s.wave? e.core e.slot = some w) :
    ∃ w', (s.entryDone e nan ovf).wave? e.core e.slot = some w' ∧ w'.v = w.v := by
  obtain ⟨w1, hw1, hv1⟩ := wave?_modOp e.id (fun o => { o with done := true }) hw
  obtain ⟨w2, hw2, hv2⟩ := wave?_modWave_kept (fun w => lanesKept_batchCount w e.batch nan ovf 1) hw1
  obtain ⟨w3, hw3, hv3⟩ := wave?_batchCommit hw2
  exact ⟨w3, hw3, hv3.trans (hv2.trans hv1)⟩

/-! ## The commit of an entry (12 R262, R264) -/

section
variable {c i : Nat} {s : State} {e : MEntry} {g : CoreSeg}

/-- The state after an entry's writes to its segment, its place in the FIFO given back. -/
def State.written (s : State) (c i : Nat) (e : MEntry) (g : CoreSeg) : State :=
  (s.modSeg e.key c (fun _ => (e.effect g).1)).modCore c (fun x => { x with fifo := dropAt x.fifo i })

/-- What a commit leaves: memory stays, the entry has left its FIFO, and its segment is as it wrote it. -/
structure Committed (s t : State) (c i : Nat) (e : MEntry) (g : CoreSeg) : Prop where
  memKept : MemKept s t
  fifo : (t.core c).fifo = dropAt (s.core c).fifo i
  seg : segOf t e.key c = some (e.effect g).1

theorem committed_written (hseg : segOf s e.key c = some g) (hc : c < s.cores.length) :
    Committed s (s.written c i e g) c i e g := by
  have hcore : g.core = c := by
    obtain ⟨b, -, hg⟩ := Option.bind_eq_some_iff.mp hseg
    simpa using List.find?_some hg
  refine ⟨fun a => rfl, ?_, ?_⟩
  · rw [State.written, State.core_modCore_self (s.modSeg _ _ _) _ _ hc]
    rfl
  · refine (segOf_congr (by rfl) _ _).trans ((segOf_modSeg (fun _ _ => (effect_core e g).trans hcore)).trans ?_)
    rw [hseg]
    rfl

theorem Committed.kept {t u : State} (h : Committed s t c i e g) (hk : FifosKept t u) : Committed s u c i e g :=
  ⟨fun a => (hk.memKept a).trans (h.memKept a), (hk.fifo c).trans h.fifo, (segOf_congr hk.blocks _ _).trans h.seg⟩

/-- An entry at a place in the FIFO of a core may commit: its reads are done, it is the first on its tiles, and its block
holds a part of the core. -/
structure MayCommit (s : State) (c i : Nat) (e : MEntry) (g : CoreSeg) : Prop where
  fifo : (s.core c).fifo[i]? = some e
  reading : e.st = .reading
  first : ∀ x ∈ (s.core c).fifo.take i, x.sharesTile e = false
  seg : segOf s e.key c = some g
  core : c < s.cores.length

theorem MayCommit.step (h : MayCommit s c i e g) : Steps (.matrixEntryCommit c i) s (s.commitEntry c i e) := by
  have hany : ((s.core c).fifo.take i).any (fun x => x.sharesTile e) = false :=
    List.any_eq_false.mpr fun x hx => by rw [h.first x hx]; exact Bool.false_ne_true
  refine congrArg Host.Outcome.next ?_
  simp only [h.fifo, h.reading, hany, decide_true, Bool.not_false, Bool.and_self, if_true]

section
variable (hseg : segOf s e.key c = some g)
include hseg

theorem commitEntry_mrd {f : XtF} (he : e.instr = .mrd f) : s.commitEntry c i e =
    ((s.written c i e g).modWave e.core e.slot (fun w =>
      w.mrdWrite g f.tile.toNat f.d9.toNat (w.mrdPairs e.id e.mask))).entryDone e 0 0 := by
  obtain ⟨b, hb, hg⟩ := Option.bind_eq_some_iff.mp hseg
  simp only [State.commitEntry, he, hb, hg, Option.getD_some, State.written]

theorem commitEntry_mpair {f : XtF} (he : e.instr = .mpair f) (hhalf : e.halfDone = false) : s.commitEntry c i e =
    ((s.written c i e g).modEntry (partner c) e.id (fun x => { x with halfDone := true })).modWave e.core e.slot (fun w =>
      w.batchCount e.batch (e.effect g).2.1 (e.effect g).2.2 0) := by
  obtain ⟨b, hb, hg⟩ := Option.bind_eq_some_iff.mp hseg
  simp only [State.commitEntry, he, hb, hg, Option.getD_some, State.written, hhalf, Bool.false_eq_true, if_false]

theorem commitEntry_other (hmrd : ∀ f, e.instr ≠ .mrd f) (hmpair : ∀ f, e.instr ≠ .mpair f) : s.commitEntry c i e =
    (s.written c i e g).entryDone e (e.effect g).2.1 (e.effect g).2.2 := by
  obtain ⟨b, hb, hg⟩ := Option.bind_eq_some_iff.mp hseg
  simp only [State.commitEntry, hb, hg, Option.getD_some, State.written]

end

/-- The commit of an entry that writes its segment and no register. -/
theorem commit_other (h : MayCommit s c i e g) {g' : CoreSeg} (hmrd : ∀ f, e.instr ≠ .mrd f) (hmpair : ∀ f, e.instr ≠ .mpair f)
    (heff : (e.effect g).1 = g') : ∃ t, Steps (.matrixEntryCommit c i) s t ∧ MemKept s t
      ∧ (t.core c).fifo = dropAt (s.core c).fifo i ∧ segOf t e.key c = some g' := by
  subst heff
  have hdone := (committed_written (i := i) h.seg h.core).kept
    (fifosKept_entryDone (s.written c i e g) e (e.effect g).2.1 (e.effect g).2.2)
  rw [← commitEntry_other h.seg hmrd hmpair] at hdone
  exact ⟨_, h.step, hdone.memKept, hdone.fifo, hdone.seg⟩

/-- MRD writes the registers of its wave from the elements of its tiles (12 R274). -/
theorem commit_mrd (h : MayCommit s c i e g) {f : XtF} {w : Wave} (he : e.instr = .mrd f)
    (hw : s.wave? e.core e.slot = some w) : ∃ t w', Steps (.matrixEntryCommit c i) s t ∧ Committed s t c i e g
      ∧ t.wave? e.core e.slot = some w' ∧ w'.v = (w.mrdWrite g f.tile.toNat f.d9.toNat (w.mrdPairs e.id e.mask)).v := by
  have hkept (x : Wave) (ps : List (Nat × Nat)) : (x.mrdWrite g f.tile.toNat f.d9.toNat ps).core = x.core
      ∧ (x.mrdWrite g f.tile.toNat f.d9.toNat ps).slot = x.slot := by
    rw [mrdWrite_frame]
    exact ⟨rfl, rfl⟩
  have hwave := State.wave?_modWave (s.written c i e g) e.core e.slot
    (fun w => w.mrdWrite g f.tile.toNat f.d9.toNat (w.mrdPairs e.id e.mask)) (fun _ => (hkept _ _).1) (fun _ => (hkept _ _).2)
  rw [State.wave?_congr (t := s.written c i e g) (s := s) rfl rfl, hw] at hwave
  obtain ⟨w', hw', hv⟩ := wave?_entryDone 0 0 hwave
  refine ⟨_, w', h.step, ?_, ?_, hv⟩
  · rw [commitEntry_mrd h.seg he]
    exact (committed_written h.seg h.core).kept ((fifosKept_modWave _ _ _ _).trans (fifosKept_entryDone _ _ _ _))
  · rw [commitEntry_mrd h.seg he]
    exact hw'

/-- The half of an MPAIR that commits first tells the other, and gives its place in its own FIFO back (12 R272). -/
theorem commit_mpair (h : MayCommit s c i e g) {f : XtF} (he : e.instr = .mpair f) (hhalf : e.halfDone = false)
    (hp : partner c ≠ c) : ∃ t, Steps (.matrixEntryCommit c i) s t ∧ Committed s t c i e g
      ∧ ∀ x ∈ (t.core (partner c)).fifo, x.id = e.id → x.halfDone = true := by
  refine ⟨_, h.step, ?_, fun x hx hid => ?_⟩
  · rw [commitEntry_mpair h.seg he hhalf]
    obtain ⟨hmem, hfifo, hseg⟩ := committed_written (i := i) h.seg h.core
    refine Committed.kept (t := (s.written c i e g).modEntry (partner c) e.id _) ⟨hmem, ?_, ?_⟩ (fifosKept_modWave _ _ _ _)
    · rw [State.modEntry, State.core_modCore_ne hp, hfifo]
    · exact (segOf_congr rfl _ _).trans hseg
  · rw [commitEntry_mpair h.seg he hhalf, (fifosKept_modWave _ _ _ _).fifo] at hx
    exact halfDone_of_modEntry hx hid

/-! ### What the entries write -/

theorem commit_mzero (h : MayCommit s c i e g) {f : XtF} (he : e.instr = .mzero f) :
    ∃ t g', Steps (.matrixEntryCommit c i) s t ∧ MemKept s t ∧ (t.core c).fifo = dropAt (s.core c).fifo i
      ∧ segOf t e.key c = some g' ∧ g'.scratch = g.scratch ∧ ∀ a n, n < 128 → g'.tileAt a n =
        if f.tile.toNat ≤ a ∧ a ≤ f.tile.toNat + f.imm9.toNat % 64 then 0 else g.tileAt a n := by
  obtain ⟨t, ht, hmem, hfifo, hseg⟩ := commit_other h (by simp [he]) (by simp [he]) (effect_mzero g he)
  refine ⟨t, _, ht, hmem, hfifo, hseg, rfl, fun a n hn => ?_⟩
  rw [tileAt_zeroTiles _ _ _ _ hn]
  simp only [← Nat.add_assoc, Nat.lt_succ_iff]

theorem commit_mldt (h : MayCommit s c i e g) {f : XtF} (he : e.instr = .mldt f) :
    ∃ t g', Steps (.matrixEntryCommit c i) s t ∧ MemKept s t ∧ (t.core c).fifo = dropAt (s.core c).fifo i
      ∧ segOf t e.key c = some g' ∧ g'.scratch = g.scratch ∧ ∀ a n, n < 128 → g'.tileAt a n =
        if a = f.tile.toNat then leValue ((e.latch.drop (4 * n)).take 4) else g.tileAt a n := by
  obtain ⟨t, ht, hmem, hfifo, hseg⟩ := commit_other h (by simp [he]) (by simp [he]) (effect_mldt g he)
  refine ⟨t, _, ht, hmem, hfifo, hseg, (tilesOnly_setTile _ _ _).scratch, fun a n hn => ?_⟩
  rw [tileAt_setTile_map _ _ _ _ (fun k hk => List.mem_range.mp hk) hn]
  simp only [List.mem_range, hn, and_true, Nat.mod_eq_of_lt (leValue_take_four_lt _)]

theorem commit_mwr (h : MayCommit s c i e g) {f : XtF} (he : e.instr = .mwr f) :
    ∃ t g', Steps (.matrixEntryCommit c i) s t ∧ MemKept s t ∧ (t.core c).fifo = dropAt (s.core c).fifo i
      ∧ segOf t e.key c = some g' ∧ g'.scratch = g.scratch ∧ ∀ l q, l < 64 → q < 4 → bit e.mask l = true →
        g'.tileAt (moveElem f.tile.toNat l q).1 (moveElem f.tile.toNat l q).2 = laneVal (e.regs.getD q []) l := by
  obtain ⟨t, ht, hmem, hfifo, hseg⟩ := commit_other h (by simp [he]) (by simp [he]) (effect_mwr g he)
  refine ⟨t, _, ht, hmem, hfifo, hseg, (tilesOnly_mwrWrite _ _ _ _).scratch, fun l q hl hq hbit => ?_⟩
  rw [tileAt_mwrWrite e f.tile.toNat g _ (fun p hp => ((mem_movePairs _ _ _).mp hp).2.2) hq,
    if_pos ((mem_movePairs _ _ _).mpr ⟨hl, hbit, hq⟩)]

/-- The registers of MRD after its commit: those that its operation still has, in the lanes of its mask. -/
theorem getV_of_mrd {w w' : Wave} {f : XtF} (hv : w'.v = (w.mrdWrite g f.tile.toNat f.d9.toNat (w.mrdPairs e.id e.mask)).v)
    {o : Op} {a m x y : Nat} (ho : w.ops.find? (fun o => o.id == e.id) = some o) (hdst : o.dst = .lanes a m x y) {l q : Nat}
    (hl : l < 64) (hq : q < 4) (hm : q < m) (hlane : l < w.lanes) (hbit : bit e.mask l = true) :
    w'.getV (f.d9.toNat + q) l = g.tileAt (moveElem f.tile.toNat l q).1 (moveElem f.tile.toNat l q).2 := by
  have hpairs : ∀ p ∈ w.mrdPairs e.id e.mask, p.1 < 64 := fun p hp => ((mem_mrdPairs ho hdst _ _ _).mp hp).1
  have hread := getV_mrdWrite g f.tile.toNat f.d9.toNat w _ hpairs hl (q := q)
  rw [if_pos ((mem_mrdPairs ho hdst _ _ _).mpr ⟨hl, ⟨hlane, hbit⟩, hq, hm⟩)] at hread
  rw [← hread, Wave.getV, hv, Wave.getV]

end

/-! ## Entries taken, and the arrivals of MSIG (12 R261, R272, R278) -/

theorem takeStep_other {c i : Nat} {s : State} {e : MEntry} (h : s.nextEntry c = some (i, e)) (hmpair : ∀ f, e.instr ≠ .mpair f) :
    Steps (.matrixEntryTake c) s (s.modEntry c e.id s.readEntry) := by
  refine congrArg Host.Outcome.next ?_
  simp only [h]

theorem takeStep_far {c i : Nat} {s : State} {e : MEntry} {f : XtF} (h : s.nextEntry c = some (i, e))
    (he : e.instr = .mpair f) (hfar : e.far = true) : Steps (.matrixEntryTake c) s
      ((s.modEntry c e.id s.readEntry).modEntry (partner c) e.id s.readEntry) := by
  refine congrArg Host.Outcome.next ?_
  simp only [h, he, hfar, if_true]

/-- The near half of an MPAIR makes the handshake: its far half enters the partner's FIFO (12 R272). -/
theorem takeStep_near {c i : Nat} {s : State} {e : MEntry} {f : XtF} (h : s.nextEntry c = some (i, e))
    (he : e.instr = .mpair f) (hnear : e.far = false) (hp : partner c < s.cores.length) :
    ∃ t, Steps (.matrixEntryTake c) s t ∧ MemKept s t ∧ (t.core (partner c)).pair = some e.id
      ∧ ∃ x ∈ (t.core (partner c)).fifo, x.id = e.id ∧ x.far = true := by
  have hstep : Steps (.matrixEntryTake c) s
      (((s.modEntry c e.id (fun e => { e with st := .paired })).modCore c (fun x => { x with pair := some e.id })).modCore
        (partner c) (fun x => { x with pair := some e.id, fifo := x.fifo ++ [{ e with far := true }] })) := by
    refine congrArg Host.Outcome.next ?_
    simp only [h, he, hnear, Bool.false_eq_true, if_false]
  refine ⟨_, hstep, fun _ => rfl, ?_⟩
  rw [State.core_modCore_self _ _ _ (by simpa [State.modEntry] using hp)]
  exact ⟨rfl, { e with far := true }, List.mem_append_right _ (List.mem_singleton_self _), rfl, rfl⟩

theorem msigStep_of {c i : Nat} {s : State} {e : MEntry} {f : XtF} {w : Wave} (hfifo : (s.core c).fifo[i]? = some e)
    (he : e.instr = .msig f) (hfree : s.stageFree c i e = true) (hsaving : s.isSaving e.key = false)
    (hw : s.wave? e.core e.slot = some w) : Steps (.msigArrival c i) s
      (((s.modCore c (fun x => { x with fifo := dropAt x.fifo i })).modBar e.key
        (if f.aux6.toNat ≥ 32 then 0 else w.j) f.aux6.toNat (Bar.arrive 1)).entryDone e 0 0) := by
  refine congrArg Host.Outcome.next ?_
  simp only [hfifo, he, hfree, hsaving, hw, Bool.not_false, Bool.and_self, if_true]

/-- Settles O45: the takes by their steps, each commit by what its entry writes, an MSIG by its arrival. -/
theorem matrixEngine : Obligations.MatrixEngine := by
  refine ⟨fun c i s e h => ⟨takeStep_other h, fun f he hfar => takeStep_far h he hfar,
      fun f he hnear _ hp => takeStep_near h he hnear hp⟩,
    fun c i s e g hfifo hst hfirst hseg hc => ?_,
    fun c i s e f w hfifo he hfree hsaving hw => msigStep_of hfifo he hfree hsaving hw⟩
  have h : MayCommit s c i e g := ⟨hfifo, hst, hfirst, hseg, hc⟩
  refine ⟨fun f he => commit_mzero h he, fun f he => commit_mldt h he, fun f he => commit_mwr h he, fun f he => ?_,
    fun f he => ?_, fun f w he hw _ _ => ?_, fun f he hhalf hp => ?_⟩
  · obtain ⟨t, ht, hmem, hleft, hwrote⟩ := commit_other h (by simp [he]) (by simp [he]) (effect_mstore g he)
    exact ⟨t, _, ht, hmem, hleft, hwrote, rfl, rfl⟩
  · obtain ⟨t, ht, hmem, hleft, hwrote⟩ := commit_other h (by simp [he]) (by simp [he]) (effect_mma g he)
    exact ⟨t, _, ht, hmem, hleft, hwrote, (tilesOnly_mmaCommit _ _ _ _ _).scratch, rfl⟩
  · obtain ⟨t, w', ht, ⟨hmem, hleft, -⟩, hw', hv⟩ := commit_mrd h he hw
    exact ⟨t, w', ht, hmem, hleft, hw', fun o a m x y ho hdst l q hl hq hm hlane hbit =>
      getV_of_mrd hv ho hdst hl hq hm hlane hbit⟩
  · obtain ⟨t, ht, ⟨hmem, hleft, hwrote⟩, hother⟩ := commit_mpair h he hhalf hp
    exact ⟨t, _, ht, hmem, hleft, hwrote, effect_mpair g he, hother⟩

end Sys2Proof.Machine
end

section
/-! What an issue that completes leaves of the machine (18 R410, R411), and the steps of a body taken one by one. -/
namespace Sys2Proof.Machine
open Sys2Proof.Claims

/-! ## An issue that completes -/

/-- The issue of a wave's instruction is charged to its cluster, and its stream has issued. -/
theorem State.issued_of_wave {s : State} (hm : s.w.mgmt = false) (weight : Nat) : s.issued weight = { s with
    w := { s.w.attempt s.st .issued with deadlock := 0, refused := none }
    clusters := (s.charge s.w.core weight).clusters } := by
  rw [State.issued, State.billed, hm]
  rfl

/-- A step of a body that succeeds. -/
theorem bind_of_ok {α β : Type} {x : R α} {a : α} (h : x = .ok a) (g : α → R β) : (x >>= g) = g a := by
  rw [h]
  rfl

/-- A lead instruction that completes leaves its effect, its PC past it, and the charge of its issue. -/
theorem State.issued_advance_lead {s : State} (hst : s.st = .lead) (hm : s.w.mgmt = false) (words weight : Nat) :
    (s.advance words).issued weight = { s with
      w := { s.w with leadPc := s.w.leadPc + 4 * words, tryLead := .issued, deadlock := 0, refused := none }
      clusters := (s.charge s.w.core weight).clusters } := by
  have hw (w : Wave) : w.attempt s.st .issued = { w with tryLead := .issued } := by rw [hst]; rfl
  rw [State.advance_of_lead hst, State.issued_of_wave (by exact hm), State.modW_st, hw]
  rfl

/-- A lane instruction that completes leaves its effect, its PC past it, and the charge of its issue. -/
theorem State.issued_advance_lane {s : State} (hst : s.st = .lane) (hm : s.w.mgmt = false) (words weight : Nat) :
    (s.advance words).issued weight = { s with
      w := { s.w with lanePc := s.w.lanePc + 4 * words, tryLane := .issued, deadlock := 0, refused := none }
      clusters := (s.charge s.w.core weight).clusters } := by
  have hw (w : Wave) : w.attempt s.st .issued = { w with tryLane := .issued } := by rw [hst]; rfl
  rw [State.advance_of_lane hst, State.issued_of_wave (by exact hm), State.modW_st, hw]
  rfl

end Sys2Proof.Machine
end

section
/-! CPY and COLL enter their job, or trap on a bad card (14 R331 to R335; 15 R354 to R356; 09 R210). -/
namespace Sys2Proof.Machine
open Sys2Proof.Claims

/-- The span of the issuing wave's block: its first core and their number. -/
def State.jobSpan (s : State) : Nat × Nat :=
  match s.block? s.w.key with
  | some b => (b.core0, b.k)
  | none => (s.w.core, 1)

/-- The card of a job form. -/
def jobCard (f : XqF) (s : State) : Card := cardOf (s.w.cardBits f.a9.toNat)

/-- A card that breaks a rule, or whose bytes a barrier cannot count (14 R331, R335). -/
def jobBad (coll : Option Nat) (f : XqF) (s : State) : Bool :=
  cardBad (s.w.cardBits f.a9.toNat) (jobCard f s) || !kindsOk coll (jobCard f s)
    || (decide (jobComp f = 2) && decide ((jobCard f s).bytes coll s.jobSpan.2 ≥ 2 ^ 24))

/-- The regions of a job form. -/
def jobRegions (coll : Option Nat) (f : XqF) (s : State) : List Region :=
  (jobCard f s).regions coll s.w.core s.jobSpan.1 s.jobSpan.2

/-- What stops a job form at its regions. -/
def jobCheck (coll : Option Nat) (f : XqF) (s : State) : Option Stop :=
  regionsFault s.w.k.scratch (cardOdd (jobCard f s) (decide (coll = some 1))) (jobRegions coll f s)

/-- The kind of a job form's job. -/
def jobKind (coll : Option Nat) (c : Card) : JobKind :=
  match coll with
  | none => .copy c
  | some op => .coll op c

/-- The job of a job form, before its predecessors are known. -/
def jobEntry (coll : Option Nat) (f : XqF) (s : State) : Job :=
  { Job.blank s.nextId s.w.core (jobKind coll (jobCard f s)) (jobRegions coll f s) with
    jobid := (jobCard f s).jobid, slot := s.w.slot, srck := if coll = none then 0 else 1, key := s.w.key, op := s.nextId
    scope := jobScope f, after := s.memOps, comp := jobComp f, compNum := f.imm8.toNat }

/-- A checked job form entered in the table of its die. -/
def jobEntered (i : Instr) (coll : Option Nat) (f : XqF) (s : State) : State :=
  ((s.queueOp i .leadCp 0 .none).enterJob s.myDie (jobEntry coll f s)).advance (xqWords f)

theorem eq_some_of_orElse {α : Type} {o : Option α} {rest : Unit → Option α} {x : α} (h : o.orElse rest = some x) :
    o = some x ∨ rest () = some x := by
  cases o with
  | none => exact .inr h
  | some y => exact .inl h

/-- A fault of a region is no fault of the encoding (17 R383). -/
theorem regionsFault_trap {scratch : Nat} {odd : Option Nat} {rs : List Region} {x : Stop}
    (h : regionsFault scratch odd rs = some x) :
    ∃ cause fl ta d, x = .trap cause fl ta d ∧ cause ≠ causeOpcode := by
  have trap {c v d : Nat} (hc : c ≠ causeOpcode) :
      ∃ cause fl ta e, Stop.trap c 0 v d = .trap cause fl ta e ∧ cause ≠ causeOpcode := ⟨_, _, _, _, rfl, hc⟩
  have found {p : Region → Prop} [DecidablePred p] {y : Region → Stop}
      (hy : ∀ r, ∃ cause fl ta e, y r = .trap cause fl ta e ∧ cause ≠ causeOpcode)
      (hr : rs.findSome? (fun r => if p r then some (y r) else none) = some x) :
      ∃ cause fl ta e, x = .trap cause fl ta e ∧ cause ≠ causeOpcode := by
    obtain ⟨r, -, hr⟩ := List.exists_of_findSome?_eq_some hr
    split at hr
    · cases hr
      exact hy r
    · cases hr
  rcases eq_some_of_orElse h with h | h
  · exact found (fun _ => trap (by decide)) h
  rcases eq_some_of_orElse h with h | h
  · obtain ⟨v, -, rfl⟩ := Option.map_eq_some_iff.mp h
    exact trap (by decide)
  rcases eq_some_of_orElse h with h | h
  · exact found (fun _ => trap (by decide)) h
  · obtain ⟨r, -, hr⟩ := List.exists_of_findSome?_eq_some h
    split at hr
    · cases hr
    · obtain ⟨a, -, rfl⟩ := Option.map_eq_some_iff.mp hr
      exact trap (by decide)

section
variable {i : Instr} {coll : Option Nat} {f : XqF} {s : State}
  (hready : s.leadReady (((List.range 8).map (fun k => f.a9.toNat + k)).map LeadIx.s) [] = .ok ())
  (hroom : s.w.counter .leadCp < 15) (hfree : (s.die s.myDie).jobs.length < 1024)
  (hreg : s.sregCheck ((List.range 8).map (fun k => f.a9.toNat + k)) = .ok ())
include hready hroom hfree hreg

/-- A job form whose card breaks a rule is ILLEGAL_OPERAND (14 R331). -/
theorem jobBody_bad (hbad : jobBad coll f s = true) :
    jobBody i coll f s = .error (.trap causeOperand 0 0 (3 <<< 11)) := by
  have hfull : ¬ s.tableFull s.myDie = true := by simp [State.tableFull, jobMax, hfree]
  refine (bind_of_ok hready _).trans ((bind_of_ok (State.counterRoom_of_lt (c := .leadCp) hroom) _).trans
    ((if_neg hfull).trans ((bind_of_ok hreg _).trans ?_)))
  unfold jobBad State.jobSpan at hbad
  rcases hb : s.block? s.w.key with _ | b <;> rw [hb] at hbad <;> exact if_pos hbad

/-- A job form whose card is well formed is stopped by what its regions are checked for, or enters its job. -/
theorem jobBody_good (hbad : jobBad coll f s = false) :
    jobBody i coll f s = (jobCheck coll f s).elim (.ok (jobEntered i coll f s)) .error := by
  have hfull : ¬ s.tableFull s.myDie = true := by simp [State.tableFull, jobMax, hfree]
  refine (bind_of_ok hready _).trans ((bind_of_ok (State.counterRoom_of_lt (c := .leadCp) hroom) _).trans
    ((if_neg hfull).trans ((bind_of_ok hreg _).trans ?_)))
  have hgood : ¬ jobBad coll f s = true := by simp [hbad]
  unfold jobBad State.jobSpan at hgood
  rcases hc : jobCheck coll f s with _ | x <;> unfold jobCheck jobRegions jobCard State.jobSpan at hc
  · unfold jobEntered jobEntry jobRegions State.jobSpan
    rcases hb : s.block? s.w.key with _ | b <;> rw [hb] at hgood hc <;> refine (if_neg hgood).trans ?_ <;>
      dsimp only at hc <;> simp only [hc, Option.elim] <;> cases coll <;> rfl
  · rcases hb : s.block? s.w.key with _ | b <;> rw [hb] at hgood hc <;> refine (if_neg hgood).trans ?_ <;>
      dsimp only at hc <;> simp only [hc, Option.elim]

end

/-- A job joins its die's table with the jobs that conflict with it as predecessors (15 R356). -/
theorem State.enterJob_eq (s : State) (die : Nat) (j : Job) : ∃ x : Job,
    s.enterJob die j = s.modDie die (fun d => { d with jobs := d.jobs ++ [x] }) ∧ x = { j with preds := x.preds }
      ∧ ∀ p, p ∈ x.preds ↔ ∃ y ∈ (s.die die).jobs, y.id = p ∧ ∃ a ∈ y.regions, ∃ b ∈ j.regions, a.conflicts b = true := by
  refine ⟨_, rfl, rfl, fun p => ?_⟩
  simp only [List.mem_map, List.mem_filter, List.any_eq_true]
  exact ⟨fun ⟨y, ⟨hy, a, ha, b, hb, hab⟩, hp⟩ => ⟨y, hy, hp, a, ha, b, hb, hab⟩,
    fun ⟨y, hy, hp, a, ha, b, hb, hab⟩ => ⟨y, ⟨hy, a, ha, b, hb, hab⟩, hp⟩⟩

/-- What a job form that enters its job leaves (14 R331 to R334; 15 R354 to R356). -/
theorem jobEntered_issued {i : Instr} {s : State} (coll : Option Nat) (f : XqF) (h : Issues s .lead 8) :
    ∃ t, t = (jobEntered i coll f s).issued 8 ∧ MemKept s t
      ∧ t = { s with w := t.w, clusters := t.clusters, dies := t.dies, nextId := t.nextId }
      ∧ t.w = { s.w with ops := t.w.ops, deferred := t.w.deferred, leadPc := s.w.leadPc + 4 * xqWords f
                         tryLead := .issued, deadlock := 0, refused := none }
      ∧ ∃ j, t.dies = modAt s.dies s.myDie (fun d => { d with jobs := d.jobs ++ [j] }) ∧ j.state = 1 ∧ j.op = s.nextId
        ∧ j.kind = jobKind coll (jobCard f s) ∧ j.regions = jobRegions coll f s ∧ j.jobid = (jobCard f s).jobid
        ∧ j.comp = jobComp f ∧ j.compNum = f.imm8.toNat ∧ j.after = s.memOps ∧ j.core = s.w.core ∧ j.row = 0
        ∧ ∀ p, p ∈ j.preds ↔
          ∃ y ∈ (s.die s.myDie).jobs, y.id = p ∧ ∃ a ∈ y.regions, ∃ b ∈ jobRegions coll f s, a.conflicts b = true := by
  have hst : s.st = .lead := stream_of_issues h
  obtain ⟨j, henter, hj, hpreds⟩ := State.enterJob_eq (s.queueOp i .leadCp 0 .none) s.myDie (jobEntry coll f s)
  refine ⟨_, rfl, ?_⟩
  rw [jobEntered, henter, State.issued_advance_lead (by exact hst) (by exact notMgmt_of_issues h)]
  refine ⟨fun _ => rfl, rfl, rfl, j, rfl, ?_⟩
  rw [hj]
  exact ⟨rfl, rfl, rfl, rfl, rfl, rfl, rfl, rfl, rfl, rfl, hpreds⟩

/-- An issuing job form leaves the streams as they stand. -/
theorem jobEntered_stalled {i : Instr} {s : State} (coll : Option Nat) (f : XqF) (hst : s.st = .lead) :
    (jobEntered i coll f s).stalled = s.stalled := by
  rw [jobEntered, State.advance_of_lead (by exact hst)]
  rfl

section
variable {i : XqF → Instr} {coll : XqF → Option Nat} {legal : XqF → Option EncFault} {f : XqF} {s : State}

/-- CPY and COLL end as their body does: at a bad card, at a region's fault, or with their job entered. -/
theorem jobForm_ends (hexec : exec (i f) s = s.issue (i f) (some .lead) 0 8 (legal f) (jobBody (i f) (coll f) f))
    (h : Issues s .lead 8) (hl : legal f = none)
    (hready : s.leadReady (((List.range 8).map (fun k => f.a9.toNat + k)).map LeadIx.s) [] = .ok ())
    (hroom : s.w.counter .leadCp < 15) (hfree : (s.die s.myDie).jobs.length < 1024)
    (hreg : s.sregCheck ((List.range 8).map (fun k => f.a9.toNat + k)) = .ok ()) :
    (jobBad (coll f) f s = true → Stops (i f) s 8 (.trap 0x03 0 0 (3 * 2048)))
    ∧ (jobBad (coll f) f s = false → ∀ x, jobCheck (coll f) f s = some x → Stops (i f) s 8 x)
    ∧ (jobBad (coll f) f s = false → jobCheck (coll f) f s = none →
      exec (i f) s = .next ((jobEntered (i f) (coll f) f s).issued 8)) := by
  have hgood (hbad : jobBad (coll f) f s = false) := jobBody_good (i := i f) hready hroom hfree hreg hbad
  refine ⟨fun hbad => ?_, fun hbad x hc => ?_, fun hbad hc => ?_⟩
  · exact stops_of_body _ h hexec hl (jobBody_bad hready hroom hfree hreg hbad) (by decide)
  · obtain ⟨cause, fl, ta, d, rfl, hcause⟩ := regionsFault_trap hc
    exact stops_of_body _ h hexec hl ((hgood hbad).trans (by rw [hc]; rfl)) hcause
  · exact next_of_body _ h hexec hl ((hgood hbad).trans (by rw [hc]; rfl)) (jobEntered_stalled _ f (stream_of_issues h))

end

/-- Settles O28: the three ends of a job form's body, and the entry that a well-formed card makes. -/
theorem jobsAreEntered : Obligations.JobsAreEntered := by
  unfold Obligations.JobsAreEntered
  refine ⟨fun f s h hl hready hroom hfree hreg => ?_, fun f s h hl hready hroom hfree hreg => ?_⟩
  · obtain ⟨hbad, hfault, hgood⟩ := jobForm_ends (i := .cpy) (coll := fun _ => none) rfl h hl hready hroom hfree hreg
    refine ⟨hbad, hfault, fun hcard hregions => ?_⟩
    obtain ⟨t, rfl, ht⟩ := jobEntered_issued (i := .cpy f) none f h
    exact ⟨_, hgood hcard hregions, ht⟩
  · obtain ⟨hbad, hfault, hgood⟩ :=
      jobForm_ends (i := .coll) (coll := fun f => some (collOp f)) rfl h hl hready hroom hfree hreg
    refine ⟨hbad, hfault, fun hcard hregions => ?_⟩
    obtain ⟨t, rfl, ht⟩ := jobEntered_issued (i := .coll f) (some (collOp f)) f h
    exact ⟨_, hgood hcard hregions, ht⟩

end Sys2Proof.Machine
end

section
/-! RNEXT gives the next chunk of a range (14 R329; 02 R38, R44). -/
namespace Sys2Proof.Machine
open Sys2Proof.Claims

/-! ## Lists and operations read back -/

theorem getD_modAt_ne {β : Type} (l : List β) {i j : Nat} (f : β → β) (d : β) (h : j ≠ i) :
    (modAt l i f).getD j d = l.getD j d := by
  simp [modAt_eq_modify, List.getD_eq_getElem?_getD, h.symm]

/-- What a change of one entry keeps of every entry. -/
theorem getD_modAt_of_kept {β γ : Type} (p : β → γ) {f : β → β} (hf : ∀ x, p (f x) = p x) (l : List β) (i j : Nat) (d : β) :
    p ((modAt l i f).getD j d) = p (l.getD j d) := by
  by_cases h : j = i
  · subst h
    rcases Nat.lt_or_ge j l.length with hj | hj
    · rw [getD_modAt_self _ _ _ _ hj, hf]
    · rw [List.getD_eq_default _ _ (by simpa using hj), List.getD_eq_default _ _ hj]
  · rw [getD_modAt_ne l f d h]

theorem getD_setAt_ne {β : Type} (l : List β) {i j : Nat} (v d : β) (h : j ≠ i) : (setAt l i v).getD j d = l.getD j d := by
  simp [setAt_eq_set, List.getD_eq_getElem?_getD, h.symm]

/-- An operation that has finished at issue takes a number and changes its wave's operations alone. -/
theorem State.doneOp_eq (s : State) (cls : OpCls) (tinfo : Nat) : ∃ ops deferred,
    s.doneOp cls tinfo = { s with nextId := s.nextId + 1, w := { s.w with ops := ops, deferred := deferred } } :=
  ⟨_, _, State.doneOp_frame s cls tinfo⟩

/-- The lead registers alone say what a read of one returns. -/
theorem Wave.getS_of_s {w x : Wave} (h : w.s = x.s) (i : Nat) : w.getS i = x.getS i := by
  rw [Wave.getS, Wave.getS, h]

/-- A register pair written, read back. -/
theorem getS_setS_pair (w : Wave) (n a b i : Nat) : ((w.setS n a).setS (n + 1) b).getS i =
    if i = n then a % 2 ^ 64 else if i = n + 1 then b % 2 ^ 64 else w.getS i := by
  rw [Wave.getS_setS, Wave.getS_setS]
  split
  · next h => rw [if_neg (by omega)]
  · rfl

@[simp] theorem State.advance_stalled (s : State) (words : Nat) : (s.advance words).stalled = s.stalled := by
  unfold State.advance
  cases s.st <;> rfl

/-! ## RNEXT -/

theorem RDesc.chunk_eq (x : RDesc) : x.chunk =
    (if decide (x.next ≥ x.hi) then 0 else x.next,
      if decide (x.next ≥ x.hi) then 0 else min (x.next + x.grain) x.hi,
      if decide (x.next ≥ x.hi) then x else { x with next := min (x.next + x.grain) x.hi }) := by
  unfold RDesc.chunk
  by_cases h : x.next ≥ x.hi <;> simp [h]

section
variable {f : XqF} {s : State} (hready : s.leadReady [] [f.d9.toNat, f.d9.toNat + 1] = .ok ())
  (hroom : s.w.counter .leadQo < 31)
include hready hroom

theorem rnextBody_noDesc (hdesc : (s.block? s.w.key).bind (fun b => b.desc) = none) :
    rnextBody f s = .error (.trap causeOperand 0 0 0) := by
  refine (bind_of_ok hready _).trans ((bind_of_ok (State.counterRoom_of_lt (c := .leadQo) hroom) _).trans ?_)
  rw [hdesc]

section
variable {g i : Nat} (hdesc : (s.block? s.w.key).bind (fun b => b.desc) = some (g, i))
  (hreg : s.sregCheck [f.d9.toNat, f.d9.toNat + 1] = .ok ())
include hdesc hreg

theorem rnextBody_raised (hline : s.lineRaised s.w = true) : rnextBody f s = .ok (s.modW Wave.sampleAbort) := by
  refine (bind_of_ok hready _).trans ((bind_of_ok (State.counterRoom_of_lt (c := .leadQo) hroom) _).trans ?_)
  rw [hdesc]
  exact (bind_of_ok hreg _).trans (if_pos hline)

theorem rnextBody_chunk (hline : s.lineRaised s.w = false) {lo hi : Nat} {d : RDesc}
    (hchunk : ((s.cluster g).descs.getD i RDesc.empty).chunk = (lo, hi, d)) :
    rnextBody f s = .ok ((((s.modCluster g (fun c => { c with descs := setAt c.descs i d })).doneOp .leadQo
      (tinfoOf (.rnext f))).modW (fun w => (w.setS f.d9.toNat lo).setS (f.d9.toNat + 1) hi)).advance (xqWords f)) := by
  refine (bind_of_ok hready _).trans ((bind_of_ok (State.counterRoom_of_lt (c := .leadQo) hroom) _).trans ?_)
  rw [hdesc]
  refine (bind_of_ok hreg _).trans ((if_neg (by simp [hline])).trans ?_)
  rw [hchunk]

end

end

/-- What the issue of an RNEXT leaves that takes the chunk from `lo` to `hi` of a descriptor and leaves `d` of it. -/
theorem exec_rnext {f : XqF} {s : State} {g i lo hi : Nat} {d : RDesc} (h : Issues s .lead 8) (hl : legalRnext f = none)
    (hb : rnextBody f s = .ok ((((s.modCluster g (fun c => { c with descs := setAt c.descs i d })).doneOp .leadQo
      (tinfoOf (.rnext f))).modW (fun w => (w.setS f.d9.toNat lo).setS (f.d9.toNat + 1) hi)).advance (xqWords f))) :
    ∃ t, exec (.rnext f) s = .next t ∧ t = { s with w := t.w, clusters := t.clusters, nextId := s.nextId + 1 } ∧ MemKept s t
      ∧ PairGiven { s.w with ops := t.w.ops, deferred := t.w.deferred } t (.s f.d9.toNat) lo hi (xqWords f)
      ∧ t.clusters = ((s.modCluster g (fun c => { c with descs := setAt c.descs i d })).charge s.w.core 8).clusters := by
  obtain ⟨ops, deferred, hop⟩ := State.doneOp_eq (s.modCluster g (fun c => { c with descs := setAt c.descs i d })) .leadQo
    (tinfoOf (.rnext f))
  rw [hop] at hb
  have hexec := next_of_body _ h (show exec (.rnext f) s = _ from rfl) hl hb (State.advance_stalled _ _)
  rw [State.issued_advance_lead (by simp [stream_of_issues h])
    (by simp [notMgmt_of_issues h])] at hexec
  refine ⟨_, hexec, by simp, fun _ => rfl, ⟨by simp [Wave.setS], fun r => ?_⟩, by simp [State.charge]⟩
  exact (Wave.getS_of_s rfl r).trans (getS_setS_pair _ _ _ _ _)

/-- A charge keeps every descriptor. -/
theorem descs_charge (s : State) (core weight k : Nat) : ((s.charge core weight).cluster k).descs = (s.cluster k).descs :=
  getD_modAt_of_kept Cluster.descs
    (f := fun c => { c with bucket := max (-1048576) (c.bucket - weight), full := false }) (fun _ => rfl) _ _ _ _

/-- The descriptors of a cluster, and of the others, after one of its own is written. -/
theorem descs_setDesc {s : State} {g i : Nat} (d : RDesc) (hg : g < s.clusters.length)
    (hi : i < (s.cluster g).descs.length) :
    ((s.modCluster g (fun c => { c with descs := setAt c.descs i d })).cluster g).descs.getD i RDesc.empty = d
    ∧ ∀ k j, (k ≠ g ∨ j ≠ i) → ((s.modCluster g (fun c => { c with descs := setAt c.descs i d })).cluster k).descs.getD j
        RDesc.empty = (s.cluster k).descs.getD j RDesc.empty := by
  have hself : (s.modCluster g (fun c => { c with descs := setAt c.descs i d })).cluster g =
      { s.cluster g with descs := setAt (s.cluster g).descs i d } := getD_modAt_self _ _ _ _ hg
  refine ⟨by rw [hself]; exact setAt_getD _ _ _ _ hi, fun k j hkj => ?_⟩
  by_cases hk : k = g
  · subst hk
    rw [hself]
    exact getD_setAt_ne _ _ _ (hkj.resolve_left (not_not_intro rfl))
  · exact congrArg (fun c : Cluster => c.descs.getD j RDesc.empty) (getD_modAt_ne _ _ _ hk)

/-- RNEXT takes the chunks of its block's descriptor in turn. -/
theorem rangeChunks : RangeChunks := by
  intro f s d h hl hready hroom
  refine ⟨fun hdesc => ?_, fun g i hdesc hreg => ⟨fun hline => ?_, fun hline hg hi => ?_⟩⟩
  · exact stops_of_body _ h rfl hl (rnextBody_noDesc hready hroom hdesc) (by decide)
  · exact ends_of_modW _ h rfl hl (rnextBody_raised hready hroom hdesc hreg hline)
  intro x out e
  obtain ⟨t, hexec, hframe, hmem, hpair, hclusters⟩ :=
    exec_rnext h hl (rnextBody_chunk hready hroom hdesc hreg hline (RDesc.chunk_eq x))
  obtain ⟨hself, hother⟩ := descs_setDesc (if out then x else { x with next := e }) hg hi
  have hdescs (k : Nat) : (t.cluster k).descs = _ :=
    (congrArg (fun l => (l.getD k Cluster.reset).descs) hclusters).trans (descs_charge _ s.w.core 8 k)
  exact ⟨t, hexec, hframe, hmem, hpair, (congrArg (·.getD i RDesc.empty) (hdescs g)).trans hself,
    fun k j hkj => (congrArg (·.getD j RDesc.empty) (hdescs k)).trans (hother k j hkj)⟩

end Sys2Proof.Machine
end

section
/-! QUEUE_OVERRUN, which takes a trap in the place of an issue (14 R328; 18 R410), and LAUNCH (14 R330; 13 R302). -/
namespace Sys2Proof.Machine
open Sys2Proof.Claims

/-! ## An issue that overruns -/

/-- A trap of a wave leaves its core and kind, and the streams as they stand. -/
theorem takeTrap_kept {s : State} (hm : s.w.mgmt = false) (t : Trap) :
    (s.takeTrap t).w.mgmt = false ∧ (s.takeTrap t).w.core = s.w.core ∧ (s.takeTrap t).stalled = s.stalled := by
  cases hh : s.hasHandler s.w t.cause with
  | true =>
    have hdef (w : Wave) : ((w.setTrapRegs t).takeDeferred t.deferred).mgmt = w.mgmt
        ∧ ((w.setTrapRegs t).takeDeferred t.deferred).core = w.core := by
      unfold Wave.takeDeferred Wave.setTrapRegs
      split <;> exact ⟨rfl, rfl⟩
    rw [takeTrap_of_handler hm hh, State.enterHandler]
    dsimp only [State.modW_w, State.modW_stalled]
    rcases Nat.lt_or_ge (s.modW (fun w => (w.setTrapRegs t).takeDeferred t.deferred)).w.stack.length 24 with hl | hl
    · rw [State.pushEntry_of_lt hl]
      exact ⟨(hdef s.w).1.trans hm, (hdef s.w).2, rfl⟩
    · obtain ⟨hw, hstalled, -⟩ := State.pushEntry_spills hl
        { pc := s.w.stopLane, rpc := kindCall, mask := s.w.exec }
      rw [hw]
      exact ⟨(hdef s.w).1.trans hm, (hdef s.w).2, hstalled⟩
  | false =>
    have hdef (w : Wave) : (((if w.inTrap then w else w.setTrapRegs t).takeDeferred t.deferred)).mgmt = w.mgmt
        ∧ (((if w.inTrap then w else w.setTrapRegs t).takeDeferred t.deferred)).core = w.core := by
      unfold Wave.takeDeferred Wave.setTrapRegs
      split <;> split <;> exact ⟨rfl, rfl⟩
    rw [takeTrap_of_noHandler hm hh]
    exact ⟨(hdef s.w).1.trans hm, (hdef s.w).2, rfl⟩

/-- A fault of a wave's instruction leaves its core and kind, and the streams as they stand. -/
theorem stopWith_kept {s : State} (hm : s.w.mgmt = false) (w0 : Word) (flanes detail : Nat) :
    (s.stopWith w0 (.trap causeOverrun flanes 0 detail)).w.mgmt = false
    ∧ (s.stopWith w0 (.trap causeOverrun flanes 0 detail)).w.core = s.w.core
    ∧ (s.stopWith w0 (.trap causeOverrun flanes 0 detail)).stalled = s.stalled :=
  takeTrap_kept (s := s.modW (fun w => { w with refused := none })) hm _

/-- A legal instruction whose body overruns is charged, and stops instead of issuing. -/
theorem overruns_of_body {i : Instr} {s : State} {st : Stream} {kmask flanes detail : Nat} {legal : Option EncFault}
    (body : State → R State) (h : Issues s st 8) (hexec : exec i s = s.issue i (some st) kmask 8 legal body)
    (hl : legal = none) (hb : body s = .ok (s.overrun i flanes detail)) : Overruns i s (.trap 0x12 flanes 0 detail) := by
  subst hl
  have hcount : StatusOnly s (s.countOverrun s.w.key.node) := statusOnly_setStatus _ _ _
  have hw := hcount.w
  have hstalled : (s.countOverrun s.w.key.node).stalled = s.stalled := by rw [hcount]
  obtain ⟨hm, hc, hs⟩ := stopWith_kept (s := s.countOverrun s.w.key.node) (by rw [hw]; exact notMgmt_of_issues h)
    i.word0 flanes detail
  rw [hw] at hc
  rw [hstalled, notStalled_of_issues h] at hs
  have he := encStop_none (i := i) (st := some st) (kmask := kmask) h rfl
  obtain ⟨hmay, -, -, hcovered, hidle⟩ := h
  rw [Overruns, show 0x12 = causeOverrun from rfl, hexec, issue_eq hidle, if_neg (by simp [hmay]), he, hb]
  refine (if_pos hcovered).trans (congrArg Host.Outcome.next ((if_pos rfl).trans ?_))
  unfold State.overrun
  generalize (s.countOverrun s.w.key.node).stopWith i.word0 (.trap causeOverrun flanes 0 detail) = x at hm hc hs
  have hbilled : ({ x with stalled := true } : State).billed 8 = ({ x with stalled := true } : State).charge s.w.core 8 := by
    rw [← hc]
    exact if_neg (by simp [hm])
  rw [hbilled, ← hs]
  rfl

/-! ## LAUNCH -/

/-- DETAIL in TINFO (17 R384). -/
theorem detail_eq (n : Nat) : n * 2048 = n <<< 11 := (Nat.shiftLeft_eq n 11).symm

theorem leadOk_parts {s : State} {srcs : List LeadIx} {dsts : List Nat} (h : s.leadOk srcs dsts = .ok ()) :
    s.leadReady srcs dsts = .ok () ∧ s.sregCheck (leadRegs srcs ++ dsts) = .ok () := by
  unfold State.leadOk at h
  cases hready : s.leadReady srcs dsts with
  | error x => rw [hready] at h; cases h
  | ok u => rw [hready] at h; exact ⟨rfl, h⟩

/-- The queue entry that two operands read leaves with them. -/
theorem popRq_pair (w : Wave) (a b : LeadIx) :
    w.popRq [a, b] = { w with rq := if a = .rq ∨ b = .rq then w.rq.tail else w.rq } := by
  have h : ([a, b].contains .rq = true) = (a = .rq ∨ b = .rq) := by
    simp only [List.contains_cons, List.contains_nil, Bool.or_false, Bool.or_eq_true, beq_iff_eq, eq_comm (a := LeadIx.rq)]
  rw [popRq_eq]
  simp only [h]

/-- What a LAUNCH asks of its operands (14 R330). -/
def State.LaunchValid (s : State) (t g param : Nat) : Prop :=
  (∃ n, s.node? t = some n ∧ n.kind = kindDispatch) ∧ 1 ≤ g ∧ g ≤ 65536 ∧ param < 2 ^ 47 ∧ param % 16 = 0

theorem launchFault_of_valid {s : State} {t g param : Nat} (h : s.LaunchValid t g param) :
    s.launchFault t g param = none := by
  obtain ⟨⟨n, hn, hkind⟩, hg, hg', hp, hp'⟩ := h
  rw [State.launchFault, hn]
  dsimp only
  rw [if_neg (not_not_intro hkind), if_neg (by omega), if_neg (by omega)]

theorem launchFault_of_not_valid {s : State} {t g param : Nat} (h : ¬ s.LaunchValid t g param) :
    s.launchFault t g param = some
      (if (s.node? t).any (fun n => n.kind == kindDispatch) then (if 1 ≤ g ∧ g ≤ 65536 then 2 else 1) else 0) := by
  unfold State.launchFault
  cases hn : s.node? t with
  | none => rfl
  | some n =>
    dsimp only [Option.any_some]
    by_cases hkind : n.kind = kindDispatch
    · rw [if_neg (not_not_intro hkind), if_pos (beq_iff_eq.mpr hkind)]
      by_cases hg : 1 ≤ g ∧ g ≤ 65536
      · have hp : param ≥ 2 ^ 47 ∨ param % 16 ≠ 0 := by
          by_contra hp
          exact h ⟨⟨n, hn, hkind⟩, hg.1, hg.2, by omega, by omega⟩
        rw [if_neg (by omega), if_pos hp, if_pos hg]
      · rw [if_pos (by omega), if_neg hg]
    · rw [if_pos hkind, if_neg (by simpa using hkind)]

section
variable {f : XqF} {s : State}
  (hok : s.leadOk [leadIx9 f.a9.toNat, leadIx9 f.b9.toNat] (leadDst (leadIx9 f.d9.toNat)) = .ok ())
  (hroom : s.w.counter .leadQo < 31)
include hok hroom

/-- A LAUNCH whose operands are bad is LAUNCH_INVALID. -/
theorem launchBody_fault {n : Nat} (hf : s.launchFault f.imm21.toNat (s.w.leadVal f.lit (leadIx9 f.b9.toNat))
    (s.w.leadVal f.lit (leadIx9 f.a9.toNat)) = some n) : launchBody f s = .error (.trap causeLaunch 0 0 (n <<< 11)) := by
  obtain ⟨hready, hreg⟩ := leadOk_parts hok
  refine (bind_of_ok hready _).trans ((bind_of_ok (State.counterRoom_of_lt (c := .leadQo) hroom) _).trans
    ((bind_of_ok hreg _).trans ?_))
  simp only [hf]

section
variable (hf : s.launchFault f.imm21.toNat (s.w.leadVal f.lit (leadIx9 f.b9.toNat))
  (s.w.leadVal f.lit (leadIx9 f.a9.toNat)) = none)
include hf

/-- A LAUNCH to a declared successor sends its entry on the first edge, within the edge's allowance. -/
theorem launchBody_edge {e : Nat} (he : s.myNode.edges.findIdx? (fun x => x.target == f.imm21.toNat) = some e) :
    launchBody f s = if (s.edgeUse s.w.key e).1 + 1 > (s.edgeUse s.w.key e).2 then .ok (s.overrun (.launch f) 0 (e <<< 11))
      else .ok ((((s.modW (fun w => w.popRq [leadIx9 f.a9.toNat, leadIx9 f.b9.toNat])).useEdge s.w.key e 1).sendLaunch
        (.launch f) f f.imm21.toNat (s.w.leadVal f.lit (leadIx9 f.b9.toNat)) (s.w.leadVal f.lit (leadIx9 f.a9.toNat)) e
        true).advance (xqWords f)) := by
  obtain ⟨hready, hreg⟩ := leadOk_parts hok
  refine (bind_of_ok hready _).trans ((bind_of_ok (State.counterRoom_of_lt (c := .leadQo) hroom) _).trans
    ((bind_of_ok hreg _).trans ?_))
  simp only [hf, he]

/-- A LAUNCH to another node sends its entry to its die's store, or answers 1 where the store is full. -/
theorem launchBody_store (he : s.myNode.edges.findIdx? (fun x => x.target == f.imm21.toNat) = none) :
    launchBody f s = if s.launchesHeld s.myDie ≥ launchMax then
        .ok ((((s.modW (fun w => w.popRq [leadIx9 f.a9.toNat, leadIx9 f.b9.toNat])).doneOp .leadQo
          (tinfoOf (.launch f))).modW (fun w => w.writeLead (leadIx9 f.d9.toNat) 1)).advance (xqWords f))
      else .ok (((s.modW (fun w => w.popRq [leadIx9 f.a9.toNat, leadIx9 f.b9.toNat])).sendLaunch
        (.launch f) f f.imm21.toNat (s.w.leadVal f.lit (leadIx9 f.b9.toNat)) (s.w.leadVal f.lit (leadIx9 f.a9.toNat)) 0
        false).advance (xqWords f)) := by
  obtain ⟨hready, hreg⟩ := leadOk_parts hok
  refine (bind_of_ok hready _).trans ((bind_of_ok (State.counterRoom_of_lt (c := .leadQo) hroom) _).trans
    ((bind_of_ok hreg _).trans ?_))
  simp only [hf, he]

end

end

/-- What a LAUNCH that sends its entry leaves (14 R330). -/
def LaunchSent (f : XqF) (s u : State) (t g param : Nat) (popped : List Dword) (blocks : List Block) (die : Nat)
    (credit : Bool) : Prop :=
  MemKept s u ∧ u = { s with w := u.w, clusters := u.clusters, net := u.net, nextId := u.nextId, blocks := u.blocks }
  ∧ u.blocks = blocks
  ∧ u.w = { s.w with ops := u.w.ops, deferred := u.w.deferred, rq := popped, leadPc := s.w.leadPc + 4 * xqWords f
                     tryLead := .issued, deadlock := 0, refused := none }
  ∧ ∃ n r, u.net = s.net ++ [n] ∧ n.core = s.w.core ∧ n.slot = s.w.slot ∧ n.after = s.memOps ∧ n.msg = .record [r]
    ∧ r.node = t ∧ r.die = die ∧ r.bytes = leBytes param 8 ++ leBytes g 8 ∧ r.depth = 0 ∧ r.launch = true
    ∧ r.credit = credit ∧ r.tell = .wave s.w.core s.w.slot s.nextId

theorem exec_launch_sent {f : XqF} {s p : State} {t g param e : Nat} {credit : Bool} {popped : List Dword}
    {blocks : List Block} (h : Issues s .lead 8) (hl : legalLaunch f = none)
    (hp : p = { s with w := { s.w with rq := popped }, blocks := blocks })
    (hb : launchBody f s = .ok ((p.sendLaunch (.launch f) f t g param e credit).advance (xqWords f))) :
    ∃ u, exec (.launch f) s = .next u
      ∧ LaunchSent f s u t g param popped blocks (if credit then s.targetDie s.myDie t [] else s.myDie) credit := by
  subst hp
  have hexec := next_of_body _ h (show exec (.launch f) s = _ from rfl) hl hb (State.advance_stalled _ _)
  unfold State.sendLaunch State.sendAfter State.queueOp State.addOp at hexec
  dsimp only at hexec
  rw [State.issued_advance_lead (by simp [stream_of_issues h]) (by simp [notMgmt_of_issues h])] at hexec
  exact ⟨_, hexec, fun _ => rfl, rfl, rfl, rfl, _, _, rfl, rfl, rfl, rfl, rfl, rfl, rfl, rfl, rfl, rfl, rfl, rfl⟩

/-- The result of a lead instruction changes the lead registers alone. -/
theorem writeLead_regs (w : Wave) (d : LeadIx) (x : Nat) : ∃ regs, w.writeLead d x = { w with s := regs }
    ∧ ∀ {u : Wave}, u.s = regs → ∀ i, u.getS i = if d = .s i then x % 2 ^ 64 else w.getS i :=
  ⟨_, writeLead_frame w d x, fun hu i => (Wave.getS_of_s hu i).trans (getS_writeLead w d x i)⟩

/-- What a LAUNCH leaves that finds its die's store full: the answer 1 (14 R330). -/
theorem exec_launch_full {f : XqF} {s p : State} {popped : List Dword} (h : Issues s .lead 8) (hl : legalLaunch f = none)
    (hp : p = { s with w := { s.w with rq := popped } })
    (hb : launchBody f s = .ok (((p.doneOp .leadQo (tinfoOf (.launch f))).modW (fun w =>
      w.writeLead (leadIx9 f.d9.toNat) 1)).advance (xqWords f))) :
    ∃ u, exec (.launch f) s = .next u ∧ MemKept s u ∧ Charged s u 8
      ∧ u = { s with w := u.w, clusters := u.clusters, nextId := s.nextId + 1 }
      ∧ u.w = { s.w with s := u.w.s, ops := u.w.ops, deferred := u.w.deferred, rq := popped
                         leadPc := s.w.leadPc + 4 * xqWords f, tryLead := .issued, deadlock := 0, refused := none }
      ∧ ∀ i, u.w.getS i = if leadIx9 f.d9.toNat = .s i then 1 else s.w.getS i := by
  subst hp
  obtain ⟨ops, deferred, hop⟩ := State.doneOp_eq { s with w := { s.w with rq := popped } } .leadQo (tinfoOf (.launch f))
  obtain ⟨regs, hwrite, hget⟩ :=
    writeLead_regs { s.w with rq := popped, ops := ops, deferred := deferred } (leadIx9 f.d9.toNat) 1
  rw [hop] at hb
  simp only [State.modW, hwrite] at hb
  have hexec := next_of_body _ h (show exec (.launch f) s = _ from rfl) hl hb (State.advance_stalled _ _)
  rw [State.issued_advance_lead (by simp [stream_of_issues h]) (by simp [notMgmt_of_issues h])] at hexec
  exact ⟨_, hexec, fun _ => rfl, by simp [Charged, State.charge], by simp, by simp, fun i => hget rfl i⟩

/-- LAUNCH sends its entry, or stops, or answers 1, as its operands, its edge and the store allow. -/
theorem gridLaunch : GridLaunch := by
  intro f s a b d t g param popped valid sent h hl hok hroom
  have hpop : s.modW (fun w => w.popRq [a, b]) = { s with w := { s.w with rq := popped } } :=
    congrArg (fun w => { s with w := w }) (popRq_pair s.w a b)
  refine ⟨fun hbad => ?_, fun hvalid => ⟨fun e he => ⟨fun hlt => ?_, fun hge => ?_⟩,
    fun he => ⟨fun hlt => ?_, fun hge => ?_⟩⟩⟩
  · rw [detail_eq]
    exact stops_of_body _ h rfl hl (launchBody_fault hok hroom (launchFault_of_not_valid hbad)) (by decide)
  · have hb := (launchBody_edge hok hroom (launchFault_of_valid hvalid) he).trans (if_neg (by omega))
    rw [hpop] at hb
    exact exec_launch_sent h hl rfl hb
  · have hb := (launchBody_edge hok hroom (launchFault_of_valid hvalid) he).trans (if_pos (by omega))
    rw [detail_eq]
    exact overruns_of_body _ h rfl hl hb
  · have hb := (launchBody_store hok hroom (launchFault_of_valid hvalid) he).trans (if_neg (Nat.not_le.mpr hlt))
    rw [hpop] at hb
    exact exec_launch_sent h hl rfl hb
  · have hb := (launchBody_store hok hroom (launchFault_of_valid hvalid) he).trans (if_pos hge)
    rw [hpop] at hb
    exact exec_launch_full h hl rfl hb

/-- Settles O26: RNEXT by `rangeChunks`, LAUNCH by `gridLaunch`. -/
theorem workLaunches : Obligations.WorkLaunches := ⟨rangeChunks, gridLaunch⟩

end Sys2Proof.Machine
end

section
/-! APPEND sends one record per voting lane and counts it against its edge (14 R325 to R328; 13 R293). -/
namespace Sys2Proof.Machine
open Sys2Proof.Claims

/-! ## The records sent -/

/-- The records that a message carries. -/
def NetMsg.records (m : NetMsg) : List RecMsg := match m.msg with | .record rs => rs | _ => []

/-- What an APPEND's records say to their queue. -/
def RecMsg.content (r : RecMsg) : Nat × List Byte × Option Nat × Nat × Bool := (r.node, r.bytes, r.join, r.depth, r.credit)

/-- Messages of the issuing wave `w` that wait for the operations `after` and carry records with these contents. -/
structure Sends (s t : State) (after : List Nat) (cs : List (Nat × List Byte × Option Nat × Nat × Bool)) (ms : List NetMsg) :
    Prop where
  frame : t = { s with nextId := t.nextId, net := s.net ++ ms }
  sender : ∀ m ∈ ms, m.core = s.w.core ∧ m.slot = s.w.slot ∧ m.after = after
  content : (ms.flatMap NetMsg.records).map RecMsg.content = cs

theorem sendEach_sends (s : State) (after : List Nat) (scope : Nat) (rs : List RecMsg) :
    ∃ ms, Sends s (s.sendEach after scope rs) after (rs.map RecMsg.content) ms := by
  induction rs generalizing s with
  | nil => exact ⟨[], by simp [State.sendEach], by simp, rfl⟩
  | cons r rest ih =>
    obtain ⟨ms, hframe, hsender, hcontent⟩ :=
      ih (s.sendAfter s.w.core s.w.slot after scope (.record [{ r with die := s.myDie }]))
    refine ⟨{ id := s.nextId, core := s.w.core, slot := s.w.slot, after := after, scope := scope, fwd := false
              sent := s.timen, msg := .record [{ r with die := s.myDie }] } :: ms, ?_, ?_, ?_⟩
    · rw [State.sendEach, hframe]
      simp [State.sendAfter]
    · intro m hm
      rcases List.mem_cons.mp hm with rfl | hm
      · exact ⟨rfl, rfl, rfl⟩
      · exact hsender m hm
    · rw [List.flatMap_cons, List.map_append, hcontent]
      rfl

theorem sendAfter_sends (s : State) (after : List Nat) (scope : Nat) (rs : List RecMsg) :
    ∃ ms, Sends s (s.sendAfter s.w.core s.w.slot after scope (.record rs)) after (rs.map RecMsg.content) ms :=
  ⟨[_], rfl, by simp, by simp [NetMsg.records]⟩

theorem appendRecs_content (s : State) (f : XqF) (t : Nat) (n : Node) (depth : Nat) (tell : AckTo) (lanes : List Nat) :
    (s.appendRecs f t n depth tell lanes).map RecMsg.content = lanes.map (fun l =>
      (t, s.w.record f.a9.toNat n.recsz l, (if appendJoin f then some (s.w.getV f.b9.toNat l) else none), depth, true)) := by
  rw [State.appendRecs, List.map_map]
  rfl

theorem dirty_handedOver (s : State) (f : XqF) : (if f.push = 1#1 then s.modW (fun w => { w with dirty := [] }) else s) =
    s.modW (fun w => { w with dirty := if f.push = 1#1 then [] else w.dirty }) := by
  split <;> rfl

/-- An APPEND's operation is posted, its sidebands are counted and, with `.push`, the dirty lines are handed over. -/
theorem sendRecords_sends (s : State) (i : Instr) (f : XqF) (t : Nat) (n : Node) (depth : Nat) (lanes : List Nat) :
    ∃ p ms, p = { s with nextId := p.nextId, dies := p.dies
                         w := { s.w with ops := p.w.ops, deferred := p.w.deferred
                                         dirty := if f.push = 1#1 then [] else s.w.dirty } }
      ∧ Sends p (s.sendRecords i f t n depth lanes) s.memOps (lanes.map (fun l =>
        (t, s.w.record f.a9.toNat n.recsz l, (if appendJoin f then some (s.w.getV f.b9.toNat l) else none), depth, true)))
        ms := by
  rw [← appendRecs_content s f t n depth (.wave s.w.core s.w.slot s.nextId) lanes]
  unfold State.sendRecords
  dsimp only
  rw [dirty_handedOver]
  by_cases hj : appendJoin f = true
  · simp only [hj, if_true]
    exact ⟨_, _, rfl, (sendEach_sends _ _ _ _).choose_spec⟩
  · simp only [hj]
    exact ⟨_, _, rfl, (sendAfter_sends _ _ _ _).choose_spec⟩

/-! ## The body of an APPEND -/

theorem appendTarget_noEdge {s : State} {f : XqF} (he : s.myNode.edges[f.imm21.toNat]? = none) (act : Nat) :
    s.appendTarget f act = .error (.trap causeOperand act 0 (3 <<< 11)) := by
  rw [State.appendTarget, he]

theorem appendTarget_edge {s : State} {f : XqF} {e : Edge} {n : Node} (he : s.myNode.edges[f.imm21.toNat]? = some e)
    (hn : s.node? e.target = some n) (hrec : n.recsz ≠ 0) (hkind : n.kind ≠ kindDispatch)
    (hregs : f.a9.toNat + n.recsz / 4 ≤ 320) (htile : appendTile f = s.tileOrdered n e.target) (act : Nat) :
    s.appendTarget f act = .ok (e, n) := by
  rw [State.appendTarget, he]
  dsimp only
  rw [hn]
  dsimp only
  rw [if_neg (by simp [hrec, hkind]), if_neg (by omega), if_neg (by simp [htile])]

theorem bind_of_error {α β : Type} {x : R α} {y : Stop} (h : x = .error y) (g : α → R β) : (x >>= g) = .error y := by
  rw [h]
  rfl

/-- The lanes that an APPEND appends for: those that take part. -/
def appendLanes (f : XqF) (s : State) : List Nat := lanesOf (s.w.voters (s.w.active f.kmask.toNat)) s.w.lanes

/-- The registers that an APPEND reads. -/
def appendSrcs (f : XqF) (n : Node) : List Nat :=
  (List.range (n.recsz / 4)).map (fun k => f.a9.toNat + k) ++ (if appendJoin f then [f.b9.toNat] else [])

section
variable {f : XqF} {s : State}

theorem appendBody_noEdge (he : s.myNode.edges[f.imm21.toNat]? = none)
    (hroom : appendLanes f s ≠ [] → s.w.counter .laneQo < 31) :
    appendBody f s = .error (.trap causeOperand (s.w.active f.kmask.toNat) 0 (3 <<< 11)) := by
  by_cases hl : appendLanes f s = []
  · exact (if_pos hl).trans ((bind_of_ok rfl _).trans (bind_of_error (appendTarget_noEdge he _) _))
  · exact (if_neg hl).trans ((bind_of_ok (State.counterRoom_of_lt (c := .laneQo) (hroom hl)) _).trans
      (bind_of_error (appendTarget_noEdge he _) _))

section
variable {e : Edge} {n : Node} (htarget : s.appendTarget f (s.w.active f.kmask.toNat) = .ok (e, n))
include htarget

theorem appendBody_noLane (hl : appendLanes f s = []) : appendBody f s = .ok (s.advance (xqWords f)) :=
  (if_pos hl).trans ((bind_of_ok rfl _).trans ((bind_of_ok htarget _).trans (if_pos hl)))

theorem appendBody_ready (hl : appendLanes f s ≠ []) (hroom : s.w.counter .laneQo < 31)
    (hready : s.laneReady (appendSrcs f n) [] = .ok ())
    (hreg : s.regCheck (s.w.active f.kmask.toNat) (appendSrcs f n) = .ok ())
    (hslot : appendJoin f = true → ∀ l ∈ appendLanes f s, s.w.getV f.b9.toNat l < 1048576) :
    appendBody f s =
      if (appendLanes f s).drop ((s.edgeUse s.w.key f.imm21.toNat).2 - (s.edgeUse s.w.key f.imm21.toNat).1) ≠ [] then
        .ok (s.overrun (.append f)
          (maskOf ((appendLanes f s).drop ((s.edgeUse s.w.key f.imm21.toNat).2 - (s.edgeUse s.w.key f.imm21.toNat).1)))
          (f.imm21.toNat <<< 11))
      else if e.depth ≠ 0 ∧ s.newDepth e > e.depth then
        .ok (s.overrun (.append f) (s.w.active f.kmask.toNat) ((f.imm21.toNat <<< 11) + (1 <<< 19)))
      else .ok (((s.useEdge s.w.key f.imm21.toNat (appendLanes f s).length).sendRecords (.append f) f e.target n
        (s.newDepth e) (appendLanes f s)).advance (xqWords f)) := by
  have hfar : ¬ (appendJoin f && decide (f.b9.toNat < 8 * s.w.g)
      && (appendLanes f s).filter (fun l => decide (s.w.getV f.b9.toNat l ≥ 1048576)) != []) = true := by
    cases hj : appendJoin f with
    | false => simp
    | true =>
      have hnone : (appendLanes f s).filter (fun l => decide (s.w.getV f.b9.toNat l ≥ 1048576)) = [] :=
        List.filter_eq_nil_iff.mpr (fun l hmem => by simpa using hslot hj l hmem)
      simp [hnone]
  exact (if_neg hl).trans ((bind_of_ok (State.counterRoom_of_lt (c := .laneQo) hroom) _).trans ((bind_of_ok htarget _).trans
    ((if_neg hl).trans ((bind_of_ok hready _).trans ((if_neg hfar).trans (bind_of_ok hreg _))))))

end

end

/-- What an APPEND that sends its records leaves (14 R325 to R328). -/
theorem exec_append_sent {f : XqF} {s : State} {e : Edge} {n : Node} (h : Issues s .lane 8) (hl : legalAppend f = none)
    (hb : appendBody f s = .ok (((s.useEdge s.w.key f.imm21.toNat (appendLanes f s).length).sendRecords (.append f) f
      e.target n (s.newDepth e) (appendLanes f s)).advance (xqWords f))) :
    ∃ t, exec (.append f) s = .next t ∧ MemKept s t
      ∧ t = { s with w := t.w, clusters := t.clusters, net := t.net, nextId := t.nextId, blocks := t.blocks, dies := t.dies }
      ∧ t.blocks = s.blocks.map (fun x => if x.key = s.w.key then
          { x with edges := modAt x.edges f.imm21.toNat (fun p => (p.1 + (appendLanes f s).length, p.2)) } else x)
      ∧ t.w = { s.w with ops := t.w.ops, deferred := t.w.deferred, dirty := if f.push = 1#1 then [] else s.w.dirty
                         lanePc := s.w.lanePc + 4 * xqWords f, tryLane := .issued, deadlock := 0, refused := none }
      ∧ ∃ ms : List NetMsg, t.net = s.net ++ ms ∧ (∀ m ∈ ms, m.core = s.w.core ∧ m.slot = s.w.slot ∧ m.after = s.memOps)
        ∧ (ms.flatMap NetMsg.records).map RecMsg.content = (appendLanes f s).map (fun l =>
          (e.target, s.w.record f.a9.toNat n.recsz l, (if appendJoin f then some (s.w.getV f.b9.toNat l) else none),
            s.newDepth e, true)) := by
  obtain ⟨p, ms, hp, hframe, hsender, hcontent⟩ := sendRecords_sends
    (s.useEdge s.w.key f.imm21.toNat (appendLanes f s).length) (.append f) f e.target n (s.newDepth e) (appendLanes f s)
  rw [hframe, hp] at hb
  have hexec := next_of_body _ h (show exec (.append f) s = _ from rfl) hl hb (State.advance_stalled _ _)
  rw [State.issued_advance_lane (by simp [State.useEdge, stream_of_issues h])
    (by simp [State.useEdge, notMgmt_of_issues h])] at hexec
  rw [hp] at hsender
  exact ⟨_, hexec, fun _ => rfl, rfl, rfl, rfl, ms, by rw [hp]; rfl, hsender, hcontent⟩

/-- Settles O27: an APPEND by its body's ends, its records by `sendRecords_sends`. -/
theorem recordAppend : Obligations.RecordAppend := by
  intro f s act lanes ei h hl
  refine ⟨fun he hroom => ?_, fun e n he hn hrec hkind hregs htile => ?_⟩
  · rw [detail_eq]
    exact stops_of_body _ h rfl hl (appendBody_noEdge he hroom) (by decide)
  have htarget := appendTarget_edge he hn hrec hkind hregs htile act
  refine ⟨fun hnil => ?_, ?_⟩
  · have hend := next_of_body _ h (show exec (.append f) s = _ from rfl) hl (appendBody_noLane htarget hnil)
      (State.advance_stalled _ _)
    rwa [State.advance_of_lane (stream_of_issues h)] at hend
  intro hne srcs hready hroom hreg hslot u depth
  have hb := appendBody_ready htarget hne hroom hready hreg hslot
  have hlen : 0 < lanes.length := List.length_pos_iff.mpr hne
  have hwithin (hfits : u.1 + lanes.length ≤ u.2) : ¬ lanes.drop (u.2 - u.1) ≠ [] := by
    rw [not_not, List.drop_eq_nil_iff]
    omega
  refine ⟨fun hover => ?_, fun hfits hlimit hdeep => ?_, fun hfits hdepth => ?_⟩
  · have hbeyond : lanes.drop (u.2 - u.1) ≠ [] := by
      rw [Ne, List.drop_eq_nil_iff]
      omega
    rw [detail_eq]
    exact overruns_of_body _ h rfl hl (hb.trans (if_pos hbeyond))
  · rw [detail_eq]
    exact overruns_of_body _ h rfl hl (hb.trans ((if_neg (hwithin hfits)).trans (if_pos ⟨hlimit, hdeep⟩)))
  · refine exec_append_sent h hl (hb.trans ((if_neg (hwithin hfits)).trans (if_neg ?_)))
    rintro ⟨hlimit, hdeep⟩
    exact hdepth.elim hlimit (Nat.not_le.mpr hdeep)

end Sys2Proof.Machine
end

section
/-! What a CONSUME's steps leave of the issuing wave and of memory (14 R322, R323; 13 R285, R292, R305). -/
namespace Sys2Proof.Machine
open Sys2Proof.Claims

/-! ## A page of memory cleared and written -/

theorem memByte_writeWindow (s : State) (core pa : Nat) {bs : List Byte} (h : bs.length ≤ windowPage) (a : Nat) :
    memByte (s.writeWindow core pa bs).mem a =
      if pa ≤ a ∧ a < pa + windowPage then bs.getD (a - pa) 0#8 else memByte s.mem a := by
  have hclear : memByte (mapClear s.mem pa windowPage) a = if pa ≤ a ∧ a < pa + windowPage then 0#8 else memByte s.mem a :=
    mapGet_mapClear _ _ _ _ _
  have hmem : (s.writeWindow core pa bs).mem = memWrite (mapClear s.mem pa windowPage) pa bs := rfl
  rw [hmem, memByte_memWrite, hclear]
  by_cases hin : pa ≤ a ∧ a < pa + bs.length
  · rw [if_pos hin, if_pos (by omega)]
  · rw [if_neg hin]
    by_cases hpage : pa ≤ a ∧ a < pa + windowPage
    · rw [if_pos hpage, if_pos hpage, List.getD_eq_default _ _ (by omega)]
    · rw [if_neg hpage, if_neg hpage]

/-! ## A status area written -/

theorem NodeStatus.bytes_length (x : NodeStatus) : x.bytes.length = 32 := by simp [NodeStatus.bytes]

/-- A status written leaves the memory outside its 32 bytes. -/
theorem memByte_setStatus {s : State} {n a : Nat} {g : Graph} {l : Layout} (hg : s.graph = some g)
    (hl : g.layouts[0]? = some l) (ha : a < l.status + 32 * n ∨ l.status + 32 * n + 32 ≤ a) (f : NodeStatus → NodeStatus) :
    memByte (s.setStatus n f).mem a = memByte s.mem a := by
  rw [State.setStatus, hg]
  dsimp only
  split
  · rfl
  · rw [State.putStatus, memByte_homeWrite]
    simp only [hl]
    rw [written_zipIdx _ (lineOf_le _), NodeStatus.bytes_length, if_neg (by omega)]

/-! ## The issuing wave kept -/

/-- The issuing wave and its stream stand as before. -/
structure WaveKept (s t : State) : Prop where
  w : t.w = s.w
  st : t.st = s.st
  stalled : t.stalled = s.stalled

theorem WaveKept.trans {s t u : State} (h : WaveKept s t) (h' : WaveKept t u) : WaveKept s u :=
  ⟨h'.w.trans h.w, h'.st.trans h.st, h'.stalled.trans h.stalled⟩

theorem DiesOnly.waveKept {s t : State} (h : DiesOnly s t) : WaveKept s t := by
  rw [h]
  exact ⟨rfl, rfl, rfl⟩

theorem StatusOnly.waveKept {s t : State} (h : StatusOnly s t) : WaveKept s t := by
  rw [h]
  exact ⟨rfl, rfl, rfl⟩

theorem L1Only.waveKept {s t : State} (h : L1Only s t) : WaveKept s t := by
  rw [h]
  exact ⟨rfl, rfl, rfl⟩

/-! ## Jobs and dies kept -/

/-- Only the dies differ, and of them not the jobs. -/
structure JobsKept (s t : State) : Prop where
  dies : DiesOnly s t
  length : t.dies.length = s.dies.length
  jobs : ∀ d, (t.die d).jobs = (s.die d).jobs

theorem JobsKept.refl (s : State) : JobsKept s s := ⟨rfl, rfl, fun _ => rfl⟩

theorem JobsKept.trans {s t u : State} (h : JobsKept s t) (h' : JobsKept t u) : JobsKept s u :=
  ⟨h.dies.trans h'.dies, h'.length.trans h.length, fun d => (h'.jobs d).trans (h.jobs d)⟩

/-- A change of a die that leaves its jobs. -/
theorem jobsKept_modDie (s : State) (die : Nat) {f : Die → Die} (hf : ∀ d, (f d).jobs = d.jobs) :
    JobsKept s (s.modDie die f) :=
  ⟨rfl, modAt_length _ _ _, fun d => getD_modAt_of_kept Die.jobs hf s.dies die d (Die.reset 0)⟩

theorem jobsKept_modQueue (s : State) (die node : Nat) (f : Queue → Queue) : JobsKept s (s.modQueue die node f) :=
  jobsKept_modDie s die (fun _ => rfl)

/-! ## Credits of the records taken -/

theorem DiesOnly.mem {s t : State} (h : DiesOnly s t) : t.mem = s.mem := by rw [h]
theorem DiesOnly.graph {s t : State} (h : DiesOnly s t) : t.graph = s.graph := by rw [h]

theorem diesOnly_giveBackEdges (s : State) (die r : Nat) (es : List Edge) : DiesOnly s (s.giveBackEdges die r es) := by
  induction es generalizing s with
  | nil => rfl
  | cons e rest ih => exact (diesOnly_giveBack _ _ _ _).trans (ih _)

theorem diesOnly_shrinkBatch (s : State) (die : Nat) (n : Node) (id k : Nat) : DiesOnly s (s.shrinkBatch die n id k) := by
  unfold State.shrinkBatch
  split
  · rfl
  · refine DiesOnly.trans ?_ (by rfl)
    split
    · exact diesOnly_giveBackEdges _ _ _ _
    · rfl

theorem diesOnly_shrinkFor (s : State) (die : Nat) (n : Node) (es : List QEntry) : DiesOnly s (s.shrinkFor die n es) := by
  induction es generalizing s with
  | nil => rfl
  | cons e rest ih =>
    refine DiesOnly.trans ?_ (ih _)
    split
    · exact diesOnly_shrinkBatch _ _ _ _ _
    · rfl

theorem jobsKept_reserveEdge {s t : State} {n node : Nat} {dies : List Nat} (h : s.reserveEdge n node dies = some t) :
    JobsKept s t := by
  induction dies generalizing s with
  | nil => cases h; exact .refl _
  | cons d rest ih =>
    rw [State.reserveEdge] at h
    split at h
    · exact ih h
    · split at h
      · exact (jobsKept_modQueue _ _ _ _).trans (ih h)
      · cases h

theorem jobsKept_takeCredits {s t : State} {die r : Nat} {es : List Edge} (h : s.takeCredits die r es = some t) :
    JobsKept s t := by
  induction es generalizing s with
  | nil => cases h; exact .refl _
  | cons e rest ih =>
    rw [State.takeCredits] at h
    split at h
    · next hr => exact (jobsKept_reserveEdge hr).trans (ih h)
    · cases h

/-- A CONSUME reserves credits for no more records than it may take. -/
theorem takeSome_takes (s : State) (node : Node) (es : List QEntry) (n : Nat) :
    DiesOnly s (s.takeSome node es n).1 ∧ (s.takeSome node es n).2 ≤ n := by
  induction n with
  | zero => exact ⟨rfl, Nat.le_refl 0⟩
  | succ n ih =>
    have hless : DiesOnly s (s.takeSome node es n).1 ∧ (s.takeSome node es n).2 ≤ n + 1 := ⟨ih.1, by omega⟩
    rw [State.takeSome]
    split
    · exact hless
    · dsimp only
      split
      · next hc => exact ⟨(diesOnly_shrinkFor _ _ _ _).trans (jobsKept_takeCredits hc).dies, Nat.le_refl _⟩
      · exact hless

/-! ## Frame records taken -/

/-- Only the sensors differ. -/
def SensorsOnly (s t : State) : Prop := t = { s with sensors := t.sensors }

theorem SensorsOnly.trans {s t u : State} (h : SensorsOnly s t) (h' : SensorsOnly t u) : SensorsOnly s u := by
  unfold SensorsOnly at *; rw [h', h]

theorem SensorsOnly.waveKept {s t : State} (h : SensorsOnly s t) : WaveKept s t := by
  rw [h]
  exact ⟨rfl, rfl, rfl⟩

theorem sensorsOnly_framesTaken (s : State) (recs : List (List Byte)) : SensorsOnly s (s.framesTaken recs) := by
  have hfold (f : State → List Byte → State) (hf : ∀ s r, SensorsOnly s (f s r)) : SensorsOnly s (recs.foldl f s) := by
    induction recs generalizing s with
    | nil => rfl
    | cons r rest ih => exact (hf s r).trans (ih _)
  unfold State.framesTaken
  split
  · exact hfold _ (fun _ _ => rfl)
  · rfl

/-! ## A CONSUME that takes records -/

theorem waveKept_dequeue (s : State) (die node n : Nat) : WaveKept s (s.dequeue die node n) := by
  unfold State.dequeue
  exact (DiesOnly.waveKept (t := s.modQueue die node _) rfl).trans (statusOnly_setStatus _ _ _).waveKept

/-- Records taken off a queue leave the memory outside their node's status. -/
theorem memByte_dequeue {s : State} {die node k a : Nat} {g : Graph} {l : Layout} (hg : s.graph = some g)
    (hl : g.layouts[0]? = some l) (ha : a < l.status + 32 * node ∨ l.status + 32 * node + 32 ≤ a) :
    memByte (s.dequeue die node k).mem a = memByte s.mem a := by
  unfold State.dequeue
  exact memByte_setStatus (s := s.modQueue die node _) hg hl ha _

/-- The wave that has turned to its next window page, which holds k records (14 R323). -/
def Wave.turned (w : Wave) (k : Nat) : Wave := { w with
  winNext := 1 - w.winNext
  winRecs0 := if w.winNext = 0 then k else w.winRecs0
  winRecs1 := if w.winNext = 1 then k else w.winRecs1 }

theorem turnPage_eq (s : State) (es : List QEntry) : s.turnPage es =
    (s.writeWindow s.w.core (s.w.winBase + windowPage * s.w.winNext) (es.flatMap (fun e => e.bytes))).modW
      (fun w => w.turned es.length) := rfl

theorem pushSidebands_kept (s : State) (core : Nat) (es : List QEntry) :
    WaveKept s (s.pushSidebands core es) ∧ (s.pushSidebands core es).mem = s.mem := by
  unfold State.pushSidebands State.handOff
  dsimp only
  split
  · exact ⟨⟨rfl, rfl, rfl⟩, rfl⟩
  · rw [State.nextPush_frame]
    exact ⟨⟨rfl, rfl, rfl⟩, rfl⟩

/-- A later CONSUME leaves its wave at the next window page, which holds its records; of the rest of memory it writes the
node's status alone. -/
theorem consumeTake_leaves (s : State) (n : Node) (es : List QEntry) {k : Nat} (hk : k ≤ es.length)
    (hbytes : ((es.take k).flatMap (fun e => e.bytes)).length ≤ windowPage) :
    (s.consumeTake n es k).w = s.w.turned k ∧ (s.consumeTake n es k).st = s.st ∧ (s.consumeTake n es k).stalled = s.stalled
    ∧ ∀ a, memByte (s.consumeTake n es k).mem a =
      if s.w.winBase + windowPage * s.w.winNext ≤ a ∧ a < s.w.winBase + windowPage * s.w.winNext + windowPage then
        ((es.take k).flatMap (fun e => e.bytes)).getD (a - (s.w.winBase + windowPage * s.w.winNext)) 0#8
      else memByte (s.dequeue s.myDie s.w.key.node k).mem a := by
  obtain ⟨p, hp⟩ : ∃ p, p = ((s.dequeue s.myDie s.w.key.node k).modBlock s.w.key
    (Block.widen n (s.tileOrdered n s.w.key.node) (es.take k))).framesTaken ((es.take k).map (fun e => e.bytes)) := ⟨_, rfl⟩
  have htake : s.consumeTake n es k =
      ((p.turnPage (es.take k)).pushSidebands (p.turnPage (es.take k)).w.core (es.take k)).acquire
        ((p.turnPage (es.take k)).pushSidebands (p.turnPage (es.take k)).w.core (es.take k)).w.core := by
    rw [hp]; rfl
  have hframes := sensorsOnly_framesTaken ((s.dequeue s.myDie s.w.key.node k).modBlock s.w.key
    (Block.widen n (s.tileOrdered n s.w.key.node) (es.take k))) ((es.take k).map (fun e => e.bytes))
  rw [← hp] at hframes
  have hw : WaveKept s p :=
    (waveKept_dequeue s _ _ _).trans (WaveKept.trans (t := (s.dequeue s.myDie s.w.key.node k).modBlock s.w.key _)
      ⟨rfl, rfl, rfl⟩ hframes.waveKept)
  have hmem : p.mem = (s.dequeue s.myDie s.w.key.node k).mem := by rw [hframes]; rfl
  obtain ⟨hpush, hpushMem⟩ := pushSidebands_kept (p.turnPage (es.take k)) (p.turnPage (es.take k)).w.core (es.take k)
  have hacq := l1Only_acquire ((p.turnPage (es.take k)).pushSidebands (p.turnPage (es.take k)).w.core (es.take k))
    ((p.turnPage (es.take k)).pushSidebands (p.turnPage (es.take k)).w.core (es.take k)).w.core
  rw [← htake] at hacq
  have hall := hpush.trans hacq.waveKept
  refine ⟨hall.w.trans ?_, hall.st.trans hw.st, hall.stalled.trans hw.stalled, fun a => ?_⟩
  · rw [turnPage_eq, State.modW_w, List.length_take_of_le hk]
    exact congrArg (Wave.turned · k) hw.w
  · rw [hacq.mem, hpushMem, turnPage_eq, State.modW_mem, memByte_writeWindow _ _ _ hbytes, hw.w, hmem]

end Sys2Proof.Machine
end

section
/-! CONSUME opens a window, exchanges it, finds the end or parks (14 R322 to R324; 02 R43, R44). -/
namespace Sys2Proof.Machine
open Sys2Proof.Claims

/-! ## The body of a CONSUME -/

/-- The registers that CONSUME writes. -/
def consumeDsts (f : XqF) : List Nat := match leadIx9 f.d9.toNat with | .s n => [n, n + 1] | _ => []

/-- The count of a CONSUME: 0 stands for the wave's lanes (14 R322). -/
def consumeCount (f : XqF) (s : State) : Nat :=
  if s.w.leadVal f.lit (leadIx9 f.b9.toNat) = 0 then s.w.lanes else s.w.leadVal f.lit (leadIx9 f.b9.toNat)

theorem leadRegs_singleton (b : LeadIx) : leadRegs [b] = match b with | .s n => [n] | _ => [] := by
  cases b <;> rfl

section
variable {f : XqF} {s : State} (hready : s.leadReady [leadIx9 f.b9.toNat] (consumeDsts f) = .ok ())
  (hcount : consumeCount f s ≤ s.w.lanes)
  (hreg : s.sregCheck (consumeDsts f ++ leadRegs [leadIx9 f.b9.toNat]) = .ok ())
include hready hcount hreg

theorem consumeBody_raised (hline : s.lineRaised s.w = true) : consumeBody f s = .ok (s.modW Wave.sampleAbort) := by
  rw [leadRegs_singleton] at hreg
  exact (bind_of_ok hready _).trans ((if_neg (Nat.not_lt.mpr hcount)).trans ((bind_of_ok hreg _).trans (if_pos hline)))

section
variable (hline : s.lineRaised s.w = false)
include hline

theorem consumeBody_grid {bl : Block} {l p : Nat} (hkind : s.myNode.kind = kindDispatch) (hbl : s.block? s.w.key = some bl)
    (hgrid : bl.grid = some (l, p)) : consumeBody f s = .ok (s.consumeOut f l p) := by
  rw [leadRegs_singleton] at hreg
  refine (bind_of_ok hready _).trans ((if_neg (Nat.not_lt.mpr hcount)).trans ((bind_of_ok hreg _).trans
    ((if_neg (by simp [hline])).trans ((if_pos hkind).trans ?_))))
  rw [hbl, Option.bind_some, hgrid]

theorem consumeBody_noRecords (hkind : s.myNode.kind ≠ kindDispatch)
    (hrec : ¬ (s.myNode.kind = kindShader ∧ s.myNode.recsz ≠ 0)) : consumeBody f s = .ok (s.consumeOut f 0 0) := by
  rw [leadRegs_singleton] at hreg
  exact (bind_of_ok hready _).trans ((if_neg (Nat.not_lt.mpr hcount)).trans ((bind_of_ok hreg _).trans
    ((if_neg (by simp [hline])).trans ((if_neg hkind).trans (if_neg hrec)))))

theorem consumeBody_records (hrec : s.myNode.kind = kindShader ∧ s.myNode.recsz ≠ 0) :
    consumeBody f s = s.consumeShader s.myNode f (consumeCount f s) := by
  rw [leadRegs_singleton] at hreg
  have hkind : s.myNode.kind ≠ kindDispatch := by rw [hrec.1]; decide
  exact (bind_of_ok hready _).trans ((if_neg (Nat.not_lt.mpr hcount)).trans ((bind_of_ok hreg _).trans
    ((if_neg (by simp [hline])).trans ((if_neg hkind).trans (if_pos hrec)))))

end

end

/-! ## What its results leave -/

theorem consumeOut_stalled (s : State) (f : XqF) (a b : Nat) : (s.consumeOut f a b).stalled = s.stalled := by
  unfold State.consumeOut
  split <;> exact State.advance_stalled _ _

/-- A CONSUME that completes gives its two results and moves on. -/
theorem consumeOut_issued {s : State} (hst : s.st = .lead) (hm : s.w.mgmt = false) (f : XqF) (a b : Nat) :
    ∃ t, (s.consumeOut f a b).issued 8 = t ∧ t = { s with w := t.w, clusters := (s.charge s.w.core 8).clusters }
      ∧ PairGiven s.w t (leadIx9 f.d9.toNat) a b (xqWords f) := by
  unfold State.consumeOut
  cases leadIx9 f.d9.toNat with
  | s n =>
    dsimp only
    rw [State.issued_advance_lead (by simpa using hst) (by simpa using hm)]
    refine ⟨_, rfl, by simp [State.charge], by simp [Wave.setS], fun i => ?_⟩
    exact (Wave.getS_of_s rfl i).trans (getS_setS_pair _ _ _ _ _)
  | _ =>
    dsimp only
    rw [State.issued_advance_lead hst hm]
    exact ⟨_, rfl, rfl, rfl, fun i => Wave.getS_of_s rfl i⟩

/-- The end of a CONSUME whose body leaves `p` with its results to give. -/
theorem exec_consume {f : XqF} {s p : State} {a b : Nat} (h : Issues s .lead 8) (hl : legalConsume f = none)
    (hb : consumeBody f s = .ok (p.consumeOut f a b)) (hst : p.st = .lead) (hm : p.w.mgmt = false)
    (hstalled : p.stalled = s.stalled) :
    ∃ t, exec (.consume f) s = .next t ∧ t = { p with w := t.w, clusters := (p.charge p.w.core 8).clusters }
      ∧ PairGiven p.w t (leadIx9 f.d9.toNat) a b (xqWords f) := by
  obtain ⟨t, ht, hframe, hpair⟩ := consumeOut_issued hst hm f a b
  have hexec := next_of_body _ h (show exec (.consume f) s = _ from rfl) hl hb ((consumeOut_stalled _ _ _ _).trans hstalled)
  rw [ht] at hexec
  exact ⟨t, hexec, hframe, hpair⟩

/-! ## A shader node's CONSUME -/

/-- The state in which a wave's first CONSUME gives the records placed with it (14 R322). -/
def State.firstWindow (s : State) (n : Node) : State :=
  let q := (s.framesTaken (s.placedRecords n)).modW (fun w => { w with winFirst := true, winNext := 1, winRecs0 := w.nrec })
  if s.w.nrec > 0 then q.acquire s.w.core else q

theorem firstWindow_leaves (s : State) (n : Node) :
    (s.firstWindow n).w = { s.w with winFirst := true, winNext := 1, winRecs0 := s.w.nrec }
    ∧ s.firstWindow n = { s with w := (s.firstWindow n).w, sensors := (s.firstWindow n).sensors
                                 nextId := (s.firstWindow n).nextId, net := (s.firstWindow n).net
                                 cores := (s.firstWindow n).cores } := by
  have hframes := sensorsOnly_framesTaken s (s.placedRecords n)
  unfold State.firstWindow
  dsimp only
  split
  · rw [l1Only_acquire, hframes]
    exact ⟨rfl, rfl⟩
  · rw [hframes]
    exact ⟨rfl, rfl⟩

theorem consumeShader_first {s : State} (hfirst : s.w.winFirst = false) (n : Node) (f : XqF) (m : Nat) :
    s.consumeShader n f m = .ok ((s.firstWindow n).consumeOut f s.w.nrec win0) :=
  if_pos (by simp [hfirst])

section
variable {s : State} {n : Node} (hfirst : s.w.winFirst = true)
  (hwait : n.waitf = true → ∀ q, s.queue? s.myDie s.w.key.node = some q → waitLegal q.qtag s.w.key s.w.key = true)
include hfirst hwait

/-- A later CONSUME takes the records it can; with none it parks while a producer can bring more, else it turns the page. -/
theorem consumeShader_later (f : XqF) (m : Nat) : s.consumeShader n f m =
    if (s.takeSome n (s.consumable n) (min m (s.consumable n).length)).2 > 0 then
      .ok (((s.takeSome n (s.consumable n) (min m (s.consumable n).length)).1.consumeTake n (s.consumable n)
        (s.takeSome n (s.consumable n) (min m (s.consumable n).length)).2).consumeOut f
        (s.takeSome n (s.consumable n) (min m (s.consumable n).length)).2 (win0 + windowPage * s.w.winNext))
    else if n.waitf && !s.noProducers s.w.key.node then .ok (s.park (.consume (xqWords f)))
    else .ok ((s.turnPage []).consumeOut f 0 (win0 + windowPage * s.w.winNext)) := by
  have hlegal (tag : Nat) (h : n.waitf = true → waitLegal tag s.w.key s.w.key = true) :
      ¬ (n.waitf && !waitLegal tag s.w.key s.w.key && tagClass tag != 0 && tagClass tag != 3) = true := by
    cases hf : n.waitf with
    | false => simp
    | true => simp [h hf]
  refine (if_neg (by simp [hfirst])).trans ((if_neg (hlegal _ (fun hf => ?_))).trans ?_)
  · rcases hq : s.queue? s.myDie s.w.key.node with _ | q
    · rfl
    · exact hwait hf q hq
  · dsimp only

end

/-- Settles O25: CONSUME by its body's branches, and by what each leaves. -/
theorem queueConsume : Obligations.QueueConsume := by
  intro f s b d ds m n records es k page gives h hl hready hcount hreg
  have hm := notMgmt_of_issues h
  have hst := stream_of_issues h
  refine ⟨fun hline => ends_of_modW _ h rfl hl (consumeBody_raised hready hcount hreg hline), fun hline => ?_⟩
  have hgives {x y : Nat} (hb : consumeBody f s = .ok (s.consumeOut f x y)) : gives x y := by
    obtain ⟨t, hexec, hframe, hpair⟩ := exec_consume h hl hb hst hm rfl
    refine ⟨t, hexec, ⟨?_, ?_, ?_⟩, hpair⟩ <;> rw [hframe]
    · rfl
    · exact fun _ => rfl
  have hrecords (hrec : records) := consumeBody_records hready hcount hreg hline hrec
  refine ⟨fun bl l p hkind hbl hgrid => hgives (consumeBody_grid hready hcount hreg hline hkind hbl hgrid),
    fun hkind hrec => hgives (consumeBody_noRecords hready hcount hreg hline hkind hrec), fun hrec hfirst => ?_,
    fun hrec hfirst hwait => ⟨fun hk hf hp => ?_, fun hk hend => ?_, ?_⟩⟩
  · obtain ⟨hw, hframe⟩ := firstWindow_leaves s n
    obtain ⟨t, hexec, ht, hpair⟩ := exec_consume h hl ((hrecords hrec).trans (consumeShader_first hfirst n f m))
      (by rw [hframe]; exact hst) (by rw [hw]; exact hm) (by rw [hframe])
    rw [hw] at hpair
    rw [hframe] at ht
    refine ⟨t, hexec, ?_, ?_, ?_, ?_, hpair⟩ <;> rw [ht]
    exact fun _ => rfl
  · have hb := (hrecords hrec).trans ((consumeShader_later hfirst hwait f m).trans
      ((if_neg (Nat.not_lt.mpr (Nat.le_of_eq hk))).trans (if_pos (by simp [hf, hp]))))
    exact ends_of_modW _ h rfl hl hb
  · have hb := (hrecords hrec).trans ((consumeShader_later hfirst hwait f m).trans
      ((if_neg (Nat.not_lt.mpr (Nat.le_of_eq hk))).trans (if_neg (by rcases hend with hend | hend <;> simp [hend]))))
    intro lo
    obtain ⟨t, hexec, ht, hpair⟩ := exec_consume h hl hb hst hm rfl
    refine ⟨t, hexec, hpair, fun a => ?_⟩
    rw [ht]
    exact (memByte_writeWindow s s.w.core lo (Nat.zero_le _) a).trans (by simp [windowPage])
  · intro hk bs lo hbytes
    obtain ⟨hdies, hle⟩ := takeSome_takes s n es (min m es.length)
    have hb := (hrecords hrec).trans ((consumeShader_later hfirst hwait f m).trans (if_pos hk))
    obtain ⟨hw, hst', hstalled, hmem⟩ := consumeTake_leaves (s.takeSome n es (min m es.length)).1 n es
      (k := k) (hle.trans (Nat.min_le_right _ _)) hbytes
    rw [hdies.waveKept.w] at hw hmem
    obtain ⟨t, hexec, ht, hpair⟩ := exec_consume h hl hb (hst'.trans (hdies.waveKept.st.trans hst))
      (by rw [hw]; exact hm) (hstalled.trans hdies.waveKept.stalled)
    rw [hw] at hpair
    have hmemT : t.mem = ((s.takeSome n es (min m es.length)).1.consumeTake n es k).mem := by rw [ht]
    have hpage (a : Nat) : memByte t.mem a = if lo ≤ a ∧ a < lo + 16384 then bs.getD (a - lo) 0#8
        else memByte ((s.takeSome n es (min m es.length)).1.dequeue s.myDie s.w.key.node k).mem a := by
      rw [hmemT, hmem, State.myDie, hdies.waveKept.w]
      rfl
    refine ⟨t, hexec, hpair, fun a ha => ?_, fun a ha hstatus hgraph hlayouts => ?_⟩
    · rw [hpage, if_pos (by omega), Nat.add_sub_cancel_left]
    · obtain ⟨g, hg⟩ := Option.ne_none_iff_exists'.mp hgraph
      obtain ⟨l, rest, hlayout⟩ := List.exists_cons_of_ne_nil (hlayouts g hg)
      have hl0 : g.layouts[0]? = some l := by rw [hlayout]; rfl
      rw [hpage, if_neg (by omega), memByte_dequeue (hdies.graph.trans hg) hl0 (hstatus g l hg hl0), hdies.mem]

end Sys2Proof.Machine
end

section
/-! Records reach their queues and join slots (13 R284 to R287, R303; 14 R326). -/
namespace Sys2Proof.Machine
open Sys2Proof.Claims

/-! ## Queues and dies read back -/

theorem queue?_of_dies {s t : State} (h : t.dies = s.dies) (die node : Nat) : t.queue? die node = s.queue? die node := by
  simp only [State.queue?, State.die, h]

theorem State.die_modDie_ne (s : State) {d d' : Nat} (f : Die → Die) (h : d' ≠ d) : (s.modDie d f).die d' = s.die d' :=
  getD_modAt_ne _ _ _ h

theorem State.queue?_modQueue_ne (s : State) {d d' : Nat} (node m : Nat) (f : Queue → Queue) (h : d' ≠ d) :
    (s.modQueue d m f).queue? d' node = s.queue? d' node := by
  simp only [State.queue?, State.modQueue, State.die_modDie_ne _ _ h]

/-- Only waves differ. -/
def WavesOnly (s t : State) : Prop := t = { s with w := t.w, waves := t.waves }

theorem WavesOnly.trans {s t u : State} (h : WavesOnly s t) (h' : WavesOnly t u) : WavesOnly s u := by
  unfold WavesOnly at *; rw [h', h]

section
variable {s t : State} (h : WavesOnly s t)
include h
theorem WavesOnly.dies : t.dies = s.dies := by rw [h]
theorem WavesOnly.mem : t.mem = s.mem := by rw [h]
theorem WavesOnly.net : t.net = s.net := by rw [h]
end

theorem wavesOnly_modWave (s : State) (core slot : Nat) (f : Wave → Wave) : WavesOnly s (s.modWave core slot f) :=
  State.modWave_frame s core slot f

theorem wavesOnly_recordDone (s : State) (tell : AckTo) : WavesOnly s (s.recordDone tell) := by
  cases tell with
  | wave core slot op => exact (wavesOnly_modWave _ _ _ _).trans (wavesOnly_modWave _ _ _ _)
  | _ => rfl

theorem wavesOnly_postTo (s : State) (tell : AckTo) (cause taddr detail : Nat) :
    WavesOnly s (s.postTo tell cause taddr detail) := by
  cases tell with
  | wave core slot op => exact wavesOnly_modWave _ _ _ _
  | _ => rfl

/-! ## A record taken by the queue arbiter -/

/-- The queue that a record has joined as its newest entry (13 R285, R286, R292). -/
def Queue.joined (q : Queue) (s : State) (x : Node) (r : RecMsg) : Queue := { q with
  qtail := (q.qtail + 1) % 2 ^ 32
  qresv := if r.credit then q.qresv - 1 else q.qresv
  entries := q.entries ++ [{
    seq := (s.die r.die).seq, depth := r.depth, family := r.family, cmark := r.cmark || decide (x.kind = kindRange)
    cluster := if x.kind = kindRange then noCluster else r.cluster, void := badRange x r.bytes, sideb := r.sideb
    bytes := r.bytes, since := s.cycle, batch := none, spilled := q.ringFull }] }

/-- A die that has numbered one more record. -/
def Die.counted (d : Die) : Die := { d with seq := (d.seq + 1) % 2 ^ 32 }

theorem enqueue_joins {s : State} {r : RecMsg} {x : Node} {q : Queue} (hx : s.node? r.node = some x)
    (hd : r.die < s.dies.length) (hq : s.queue? r.die r.node = some q) :
    (s.enqueue r).queue? r.die r.node = some (q.joined s x r)
    ∧ ((s.enqueue r).die r.die).seq = ((s.die r.die).seq + 1) % 2 ^ 32 := by
  have hother : r.die ≠ 1 - r.die := by omega
  obtain ⟨u, hu⟩ : ∃ u, u = (s.modDie r.die Die.counted).modQueue r.die r.node
    (fun q => q.joined s x r) := ⟨_, rfl⟩
  have hlen : r.die < (s.modDie r.die Die.counted).dies.length := by simpa using hd
  have huq : u.queue? r.die r.node = some (q.joined s x r) := by
    have hself := State.queue?_modQueue_self (s.modDie r.die Die.counted) r.die r.node (fun q => q.joined s x r) hlen
      (fun _ => rfl)
    rw [hu, hself, State.queue?_modDie_of_queues s r.die r.die r.node Die.counted (fun _ => rfl), hq]
    rfl
  have hus : (u.die r.die).seq = ((s.die r.die).seq + 1) % 2 ^ 32 := by
    rw [hu, State.modQueue, State.die_modDie_self _ _ _ hlen, State.die_modDie_self _ _ _ hd]
    rfl
  obtain ⟨v, hv⟩ : ∃ v, v = if r.credit && x.kind == kindScanout then u.resv (1 - r.die) r.node (-1) else u := ⟨_, rfl⟩
  have hvq : v.queue? r.die r.node = u.queue? r.die r.node ∧ v.die r.die = u.die r.die := by
    rw [hv]
    split
    · exact ⟨State.queue?_modQueue_ne _ _ _ _ hother, State.die_modDie_ne _ _ hother⟩
    · exact ⟨rfl, rfl⟩
  have hstatus : StatusOnly v (s.enqueue r) := by
    rw [State.enqueue, hx]
    dsimp only
    subst hv hu
    exact statusOnly_ite ((statusOnly_setStatus _ _ _).trans (statusOnly_setStatus _ _ _)) (statusOnly_setStatus _ _ _)
  rw [hstatus.queue?, State.die, hstatus.dies]
  exact ⟨hvq.1.trans huq, (congrArg Die.seq hvq.2).trans hus⟩

/-- RECORD_ENQUEUE of one record. -/
theorem recordEnqueue_joins {i : Nat} {s : State} {n : NetMsg} {r : RecMsg} {x : Node} {q : Queue} (hdue : Due s i n)
    (hmsg : n.msg = .record [r]) (hjoin : r.join = none) (hlaunch : r.launch = false) (hx : s.node? r.node = some x)
    (hd : s.targetDie r.die r.node r.bytes < s.dies.length)
    (hq : s.queue? (s.targetDie r.die r.node r.bytes) r.node = some q) :
    ∃ t, Steps (.recordEnqueue i) s t
      ∧ t.queue? (s.targetDie r.die r.node r.bytes) r.node =
        some (q.joined s x { r with die := s.targetDie r.die r.node r.bytes })
      ∧ (t.die (s.targetDie r.die r.node r.bytes)).seq = ((s.die (s.targetDie r.die r.node r.bytes)).seq + 1) % 2 ^ 32 := by
  have haim : s.aim r = { r with die := s.targetDie r.die r.node r.bytes } := if_neg (by simp [hlaunch])
  obtain ⟨hqueue, hseq⟩ := enqueue_joins (s := s.taken i) (r := s.aim r) (x := x) (q := q) (by rw [haim]; exact hx)
    (by rw [haim]; exact hd) (by rw [haim]; exact hq)
  have hstep : Steps (.recordEnqueue i) s ((((s.taken i).enqueue (s.aim r)).recordDone r.tell).drainCheck) := by
    refine congrArg Host.Outcome.next ?_
    rw [recordEnqueueStep, show s.arrives i = some n from hdue]
    dsimp only
    rw [hmsg]
    dsimp only
    rw [if_pos (by simp [hjoin])]
    have hall : (s.taken i).enqueueAll ([r].map s.aim) = (s.taken i).enqueue (s.aim r) := if_neg (by simp [haim, hlaunch])
    rw [hall]
  have hdies := (statusOnly_drainCheck (((s.taken i).enqueue (s.aim r)).recordDone r.tell)).dies.trans
    (wavesOnly_recordDone ((s.taken i).enqueue (s.aim r)) r.tell).dies
  rw [haim] at hqueue hseq hstep hdies
  refine ⟨_, hstep, (queue?_of_dies hdies _ _).trans hqueue, ?_⟩
  rw [State.die, hdies]
  exact hseq

/-! ## Join slots read back -/

theorem mem_insertBy {β : Type} (key : β → Nat) (x y : β) (l : List β) : y ∈ insertBy key x l ↔ y = x ∨ y ∈ l := by
  induction l with
  | nil => simp [insertBy]
  | cons z rest ih =>
    rw [insertBy]
    split
    · exact List.mem_cons
    · rw [List.mem_cons, ih, List.mem_cons]
      exact or_left_comm

theorem mem_sortBy {β : Type} (key : β → Nat) (y : β) (l : List β) : y ∈ sortBy key l ↔ y ∈ l := by
  induction l with
  | nil => rfl
  | cons z rest ih => rw [sortBy, mem_insertBy, ih, List.mem_cons]

/-- A join slot written reads back. -/
theorem State.join_setJoin (s : State) {die : Nat} (slot : Nat) (x : JoinSlot) (h : die < s.dies.length) :
    (s.setJoin die slot x).join die slot = x := by
  rw [State.join, State.setJoin, State.die_modDie_self _ _ _ h]
  dsimp only
  split
  · next p hp =>
    have hmem := (mem_sortBy _ _ _).mp (List.mem_of_find?_eq_some hp)
    have hslot : p.1 = slot := by simpa using List.find?_some hp
    rcases List.mem_append.mp hmem with hmem | hmem
    · simp [hslot] at hmem
    · split at hmem
      · cases hmem
      · rw [List.mem_singleton.mp hmem]
  · next hnone =>
    by_contra hx
    have hmem : (slot, x) ∈ sortBy (fun p => p.1) ((s.die die).joins.filter (fun p => p.1 != slot)
        ++ (if x = JoinSlot.empty then [] else [(slot, x)])) := by
      rw [mem_sortBy, if_neg (Ne.symm hx)]
      simp
    simpa using List.find?_eq_none.mp hnone _ hmem

theorem State.setJoin_length (s : State) (die slot : Nat) (x : JoinSlot) :
    (s.setJoin die slot x).dies.length = s.dies.length := modAt_length _ _ _

theorem join_of_dies {s t : State} (h : t.dies = s.dies) (die slot : Nat) : t.join die slot = s.join die slot := by
  simp only [State.join, State.die, h]

/-- A join slot released is empty of its record, which goes to its queue's arbiter. -/
theorem releaseJoin_of_held {s : State} {die slot : Nat} {r : RecMsg} (h : (s.join die slot).held = some r) :
    s.releaseJoin die slot = (s.setJoin die slot { s.join die slot with held := none }).sendAfter 192 (1 + die) [] 0
      (.record [{ r with join := none }]) := by
  rw [State.releaseJoin]
  dsimp only
  rw [h]

/-! ## A record that arrives at its join slot -/

/-- The parked entry that a held record takes: its top bit says whether the node is of the deadline class (entry 8). -/
def State.parkIndex (s : State) (r : RecMsg) : Nat :=
  (Config.freeWord s.fresh).toNat % 2 ^ 31 + 2 ^ 31 * (match s.node? r.node with | some n => b2n n.deadline | none => 0)

theorem parkIndex_deadline {s : State} {r : RecMsg} {m : Node} (h : s.node? r.node = some m) :
    s.parkIndex r / 2 ^ 31 = if m.deadline then 1 else 0 := by
  have hlow : (Config.freeWord s.fresh).toNat % 2 ^ 31 < 2 ^ 31 := Nat.mod_lt _ (by decide)
  rw [State.parkIndex, h, Nat.add_mul_div_left _ _ (by decide), Nat.div_eq_of_lt hlow, Nat.zero_add]
  rfl

/-- A join slot as a held record leaves it. -/
def JoinSlot.holds (x : JoinSlot) (r : RecMsg) (p : Nat) : JoinSlot :=
  { x with held := some { r with tell := .none }, node := r.node, recidx := p }

/-- The state in which an arrived record is held. -/
def State.heldAtJoin (s : State) (i slot : Nat) (r : RecMsg) : State :=
  ({ s.taken i with fresh := s.fresh + 1 } : State).setJoin r.die slot ((s.join r.die slot).holds r (s.parkIndex r))

theorem join_heldAtJoin {s : State} {r : RecMsg} (i slot : Nat) (h : r.die < s.dies.length) :
    (s.heldAtJoin i slot r).join r.die slot = (s.join r.die slot).holds r (s.parkIndex r) :=
  State.join_setJoin { s.taken i with fresh := s.fresh + 1 } slot _ h

section
variable {i slot : Nat} {s : State} {n : NetMsg} {r : RecMsg} (hdue : Due s i n) (hmsg : n.msg = .record [r])
  (hjoin : r.join = some slot)
include hdue hmsg hjoin

/-- An occupied slot discards the record (13 R303). -/
theorem joinArrival_occupied (hheld : (s.join r.die slot).held ≠ none) :
    ∃ t, Steps (.joinRecordArrival i) s t ∧ t.join r.die slot = s.join r.die slot := by
  have harrives : s.arrives i = some n := hdue
  have htaken : (s.taken i).join r.die slot = s.join r.die slot := rfl
  refine ⟨_, rfl, ?_⟩
  rw [joinArrivalStep, harrives]
  dsimp only
  rw [hmsg]
  dsimp only
  rw [hjoin]
  dsimp only
  rw [if_pos (by rw [htaken]; exact Option.isSome_iff_ne_none.mpr hheld)]
  have howner (u : State) (o : Option Nat) : (match o with | some k => u.countOverrun k | none => u).dies = u.dies := by
    cases o with
    | none => rfl
    | some k => exact (statusOnly_setStatus _ _ _).dies
  refine (join_of_dies (wavesOnly_recordDone _ _).dies _ _).trans ((join_of_dies (howner _ _) _ _).trans
    (join_of_dies (wavesOnly_postTo _ _ _ _ _).dies _ _))

variable (hheld : (s.join r.die slot).held = none)
include hheld

/-- An empty slot holds the record, and releases it at once where its count is 0 (14 R326). -/
theorem joinArrival_empty : Steps (.joinRecordArrival i) s
    ((if (s.join r.die slot).count = 0 then (s.heldAtJoin i slot r).releaseJoin r.die slot
      else s.heldAtJoin i slot r).recordDone r.tell) := by
  have harrives : s.arrives i = some n := hdue
  refine congrArg Host.Outcome.next ?_
  rw [joinArrivalStep, harrives]
  dsimp only
  rw [hmsg]
  dsimp only
  split
  · next hnone => cases hjoin.symm.trans hnone
  · next slot' hslot =>
    cases hjoin.symm.trans hslot
    have htaken : (s.taken i).join r.die slot = s.join r.die slot := rfl
    rw [if_neg (by rw [htaken, hheld]; decide), htaken]
    rfl

variable (hd : r.die < s.dies.length)
include hd

theorem joinArrival_held (hcount : (s.join r.die slot).count ≠ 0) : ∃ t, Steps (.joinRecordArrival i) s t ∧ MemKept s t
    ∧ t.join r.die slot = (s.join r.die slot).holds r (s.parkIndex r) := by
  have hstep := joinArrival_empty hdue hmsg hjoin hheld
  rw [if_neg hcount] at hstep
  have hdone := wavesOnly_recordDone (s.heldAtJoin i slot r) r.tell
  exact ⟨_, hstep, fun a => congrArg (memByte · a) hdone.mem,
    (join_of_dies hdone.dies _ _).trans (join_heldAtJoin i slot hd)⟩

theorem joinArrival_released (hcount : (s.join r.die slot).count = 0) : ∃ t, Steps (.joinRecordArrival i) s t ∧ MemKept s t
    ∧ t.join r.die slot = { (s.join r.die slot).holds r (s.parkIndex r) with held := none }
    ∧ ∃ m ∈ t.net, m.msg = .record [{ r with tell := .none, join := none }] := by
  have hstep := joinArrival_empty hdue hmsg hjoin hheld
  have hread := join_heldAtJoin (s := s) i slot hd
  rw [if_pos hcount, releaseJoin_of_held (congrArg JoinSlot.held hread), hread] at hstep
  obtain ⟨u, hu⟩ : ∃ u, u = (s.heldAtJoin i slot r).setJoin r.die slot
    { (s.join r.die slot).holds r (s.parkIndex r) with held := none } := ⟨_, rfl⟩
  rw [← hu] at hstep
  have hdone := wavesOnly_recordDone (u.sendAfter 192 (1 + r.die) [] 0
    (.record [{ r with tell := .none, join := none }])) r.tell
  refine ⟨_, hstep, fun a => ?_, (join_of_dies hdone.dies _ _).trans ?_, ?_⟩
  · rw [hdone.mem, hu]
    rfl
  · rw [hu]
    exact State.join_setJoin _ _ _ (by rw [State.heldAtJoin, State.setJoin_length]; exact hd)
  · rw [hdone.net]
    exact ⟨_, List.mem_append_right _ (List.mem_singleton_self _), rfl⟩

end

end Sys2Proof.Machine
end

section
/-! Queues spill back, are stolen from and wake parked waves (13 R287, R299, R300; 14 R322, R324). -/
namespace Sys2Proof.Machine
open Sys2Proof.Claims

/-! ## Spilled entries (13 R287) -/

theorem unspill_append {l r : List QEntry} {e : QEntry} (hl : ∀ x ∈ l, x.spilled = false) (he : e.spilled = true) :
    unspill (l ++ e :: r) = l ++ { e with spilled := false } :: r := by
  induction l with
  | nil => exact if_pos he
  | cons x rest ih =>
    rw [List.cons_append, unspill, if_neg (by simp [hl x]), ih (fun y hy => hl y (List.mem_cons_of_mem _ hy))]
    rfl

/-- The first spilled entry of a queue whose ring has room comes back. -/
def Queue.unspilled (q : Queue) : Queue :=
  if (q.entries.filter (fun e => !e.spilled)).length < q.qcap then { q with entries := unspill q.entries } else q

theorem queueSpillReturn_queue? {s : State} {die node : Nat} {q : Queue} (hd : die < s.dies.length)
    (hq : s.queue? die node = some q) :
    Steps (.queueSpillReturn die node) s (s.modQueue die node Queue.unspilled)
    ∧ (s.modQueue die node Queue.unspilled).queue? die node = some q.unspilled := by
  have hnode (q : Queue) : q.unspilled.node = q.node := by
    unfold Queue.unspilled
    split <;> rfl
  refine ⟨rfl, ?_⟩
  rw [State.queue?_modQueue_self s die node Queue.unspilled hd hnode, hq]
  rfl

/-! ## Stealing (13 R299, R300) -/

/-- An entry that a steal may take. -/
def QEntry.stealable (e : QEntry) : Bool := e.open? && !e.cmark

/-- A split takes the first k eligible entries, and keeps the others in their order. -/
theorem takeYoungest_takes (l : List QEntry) (k : Nat) (h : k ≤ (l.filter QEntry.stealable).length) :
    (takeYoungest l k).1 = (l.filter QEntry.stealable).take k
    ∧ (takeYoungest l k).2.filter QEntry.stealable = (l.filter QEntry.stealable).drop k
    ∧ (takeYoungest l k).2.length = l.length - k := by
  induction l generalizing k with
  | nil =>
    obtain rfl : k = 0 := by simpa using h
    simp [takeYoungest]
  | cons e rest ih =>
    cases k with
    | zero => simp [takeYoungest]
    | succ k =>
      rw [takeYoungest]
      by_cases he : e.stealable = true
      · rw [List.filter_cons_of_pos he] at h ⊢
        obtain ⟨htaken, hkept, hlen⟩ := ih k (by simpa using h)
        rw [if_pos (show (e.open? && !e.cmark) = true from he)]
        exact ⟨by rw [List.take_succ_cons, ← htaken], by rw [List.drop_succ_cons, ← hkept], by simp [hlen]⟩
      · rw [List.filter_cons_of_neg he] at h ⊢
        obtain ⟨htaken, hkept, hlen⟩ := ih (k + 1) h
        have hshort := h.trans (List.length_filter_le _ _)
        rw [if_neg (show ¬ (e.open? && !e.cmark) = true from he)]
        exact ⟨htaken, by rw [List.filter_cons_of_neg he, hkept], by simp only [List.length_cons, hlen]; omega⟩

/-- The youngest k eligible entries of a queue, and what stays, both oldest first. -/
theorem takeYoungest_reverse (l : List QEntry) (k : Nat) (h : k ≤ (l.filter QEntry.stealable).length) :
    (takeYoungest l.reverse k).1.reverse = (l.filter QEntry.stealable).drop ((l.filter QEntry.stealable).length - k)
    ∧ (takeYoungest l.reverse k).2.reverse.filter QEntry.stealable =
      (l.filter QEntry.stealable).take ((l.filter QEntry.stealable).length - k)
    ∧ (takeYoungest l.reverse k).2.reverse.length = l.length - k := by
  obtain ⟨htaken, hkept, hlen⟩ := takeYoungest_takes l.reverse k (by rwa [List.filter_reverse, List.length_reverse])
  rw [List.filter_reverse] at htaken hkept
  refine ⟨?_, ?_, by rw [List.length_reverse, hlen, List.length_reverse]⟩
  · rw [htaken, List.take_reverse, List.reverse_reverse]
  · rw [List.filter_reverse, hkept, List.drop_reverse, List.reverse_reverse]

/-! ## Stolen records that arrive -/

theorem appendStolen_appends {s : State} {die node : Nat} {q : Queue} (es : List QEntry) (hd : die < s.dies.length)
    (hq : s.queue? die node = some q) :
    ∃ q' l, (s.appendStolen die node es).queue? die node = some q' ∧ q'.entries = q.entries ++ l
      ∧ l.map (fun e => (e.bytes, e.depth)) = es.map (fun e => (e.bytes, e.depth))
      ∧ (s.appendStolen die node es).mem = s.mem := by
  induction es generalizing s q with
  | nil => exact ⟨q, [], hq, (List.append_nil _).symm, rfl, rfl⟩
  | cons e rest ih =>
    obtain ⟨u, hu⟩ : ∃ u, u = s.modDie die (fun d => { d with
      seq := (d.seq + 1) % 2 ^ 32, sidebands := d.sidebands + b2n (e.sideb != []) }) := ⟨_, rfl⟩
    have huq : u.queue? die node = some q := by
      rw [hu, ← hq]
      exact State.queue?_modDie_of_queues s die die node (fun d => { d with
        seq := (d.seq + 1) % 2 ^ 32, sidebands := d.sidebands + b2n (e.sideb != []) }) (fun _ => rfl)
    have hud : die < u.dies.length := by rw [hu]; simpa using hd
    have hself := State.queue?_modQueue_self u die node (fun q => { q with
      qtail := (q.qtail + 1) % 2 ^ 32
      entries := q.entries ++ [{ e with seq := (s.die die).seq, spilled := q.ringFull }] }) hud (fun _ => rfl)
    rw [huq] at hself
    obtain ⟨q', l, hq', hentries, hl, hmem⟩ := ih (by simpa [State.modQueue] using hud) hself
    rw [hu] at hq' hmem
    refine ⟨q', { e with seq := (s.die die).seq, spilled := q.ringFull } :: l, hq', ?_, ?_, hmem⟩
    · rw [hentries]
      exact List.append_assoc _ [_] l
    · rw [List.map_cons, List.map_cons, hl]

section
variable {die node : Nat} {s : State} {n : Node} {mine other : Queue} (hdie : die ≤ 1) (hlen : s.dies.length = 2)
  (hn : s.node? node = some n) (hmine : s.queue? die node = some mine) (hother : s.queue? (1 - die) node = some other)
  (hsteal : s.unstealable n node = false) (havail : mine.avail = [])
  (hidle : ∃ c, c < 96 ∧ s.asksWork (96 * die + c) = true) (hnone : s.stealing die node = false)
  {k : Nat} (hk : k = min (min ((other.entries.filter QEntry.stealable).length / 2) 1024) mine.free.toNat)
  (hlong : (other.entries.filter QEntry.stealable).length > 256) (hpos : k > 0)
include hdie hlen hn hmine hother hsteal havail hidle hnone hk hlong hpos

/-- A steal takes the youngest half of a long queue of the other die (13 R300). -/
theorem stealCheck_steals : ∃ t q', Steps (.stealCheck die node) s t ∧ MemKept s t
    ∧ t.net.map (fun m => m.msg) = s.net.map (fun m => m.msg) ++ [.steal die node
      ((other.entries.filter QEntry.stealable).drop ((other.entries.filter QEntry.stealable).length - k))]
    ∧ t.queue? (1 - die) node = some q' ∧ q'.entries.length = other.entries.length - k
    ∧ q'.entries.filter QEntry.stealable =
      (other.entries.filter QEntry.stealable).take ((other.entries.filter QEntry.stealable).length - k) := by
  obtain ⟨htaken, hkept, hcount⟩ := takeYoungest_reverse other.entries k (by omega)
  obtain ⟨c, hc, hasks⟩ := hidle
  have hidle : (List.range 96).any (fun c => s.asksWork (96 * die + c)) = true :=
    List.any_eq_true.mpr ⟨c, List.mem_range.mpr hc, hasks⟩
  obtain ⟨f, hf⟩ : ∃ f : Queue → Queue, f = fun q => { q with
    qtail := (q.qtail + 2 ^ 32 - k) % 2 ^ 32, entries := (takeYoungest other.entries.reverse k).2.reverse } := ⟨_, rfl⟩
  obtain ⟨g, hg⟩ : ∃ g : Die → Die, g = fun d => { d with
    sidebands := d.sidebands - ((takeYoungest other.entries.reverse k).1.filter (fun e => e.sideb != [])).length } :=
    ⟨_, rfl⟩
  have hstep : Steps (.stealCheck die node) s (((s.modQueue (1 - die) node f).modDie (1 - die) g).send
      (.steal die node (takeYoungest other.entries.reverse k).1.reverse)) := by
    refine congrArg Host.Outcome.next ?_
    rw [stealCheckStep, hn, hmine, hother]
    dsimp only
    rw [if_pos]
    · rw [hf, hg, hk]
      rfl
    · rw [hk] at hpos
      rw [decide_eq_true hdie, hsteal, decide_eq_true havail, hidle, hnone]
      simp only [Bool.not_false, Bool.and_true, Bool.true_and]
      exact decide_eq_true ⟨hlong, hpos⟩
  have hqueue := State.queue?_modQueue_self s (1 - die) node f (by omega) (by rw [hf]; exact fun _ => rfl)
  have hdieq := State.queue?_modDie_of_queues (s.modQueue (1 - die) node f) (1 - die) (1 - die) node g
    (by rw [hg]; exact fun _ => rfl)
  refine ⟨_, f other, hstep, fun _ => rfl, ?_, ?_, ?_, ?_⟩
  · rw [htaken]
    exact List.map_append
  · refine (queue?_of_dies rfl _ _).trans (hdieq.trans ?_)
    rw [hqueue, hother]
    rfl
  · rw [hf]
    exact hcount
  · rw [hf]
    exact hkept

end

theorem stealArrival_fits {i die node : Nat} {s : State} {n : NetMsg} {es : List QEntry} {q : Queue} (hdue : Due s i n)
    (hmsg : n.msg = .steal die node es) (hq : s.queue? die node = some q) :
    Steps (.stealArrival i) s (if (es.length : Int) ≤ q.free then (s.taken i).appendStolen die node es else s) := by
  refine congrArg Host.Outcome.next ?_
  rw [stealArrivalStep, show s.arrives i = some n from hdue]
  dsimp only
  rw [hmsg]
  dsimp only
  rw [hq]

/-- Settles O41: arrivals by `recordEnqueue_joins` and the join slot's three cases; spilling back, stealing and its arrival
by what each leaves of its queue; a parked CONSUME by its step. -/
theorem recordsReachQueues : Obligations.RecordsReachQueues := by
  refine ⟨?_, ?_, ?_, ?_, ?_, ?_⟩
  · intro i s n r x q hdue hmsg hjoin hlaunch hx d hd hq
    obtain ⟨t, hstep, hqueue, hseq⟩ := recordEnqueue_joins hdue hmsg hjoin hlaunch hx hd hq
    exact ⟨t, _, hstep, hqueue, rfl, rfl, hseq, fun _ => rfl⟩
  · intro i s n r slot hdue hmsg hjoin hd x
    refine ⟨fun hheld hcount => ?_, fun hheld hcount => ?_, fun hheld => joinArrival_occupied hdue hmsg hjoin hheld⟩
    · obtain ⟨t, hstep, hmem, hslot⟩ := joinArrival_held hdue hmsg hjoin hheld hd hcount
      exact ⟨t, hstep, hmem, _, hslot, fun m hm => parkIndex_deadline hm⟩
    · obtain ⟨t, hstep, hmem, hslot, hsent⟩ := joinArrival_released hdue hmsg hjoin hheld hd hcount
      exact ⟨t, hstep, hmem, congrArg JoinSlot.held hslot, (congrArg JoinSlot.count hslot).trans hcount,
        (congrArg JoinSlot.tag hslot).trans rfl, congrArg JoinSlot.node hslot, hsent⟩
  · intro die node s q l r e hd hq hentries hl he hroom
    obtain ⟨hstep, hread⟩ := queueSpillReturn_queue? hd hq
    refine ⟨_, hstep, fun _ => rfl, hread.trans ?_⟩
    rw [Queue.unspilled, if_pos hroom, hentries, unspill_append hl he]
  · intro die node s n mine other hdie hlen hn hmine hother hsteal havail hidle hnone es k hlong hpos
    exact stealCheck_steals hdie hlen hn hmine hother hsteal havail hidle hnone rfl hlong hpos
  · intro i s n die node es q hdue hmsg hd hq
    have hstep := stealArrival_fits hdue hmsg hq
    refine ⟨fun hfits => ?_, fun hover => ?_⟩
    · rw [if_pos hfits] at hstep
      obtain ⟨q', l, hread, hentries, hl, hmem⟩ := appendStolen_appends (s := s.taken i) es hd hq
      refine ⟨_, q', hstep, fun a => congrArg (memByte · a) hmem, hread, ?_, ?_⟩
      · rw [hentries, List.map_append, List.map_append, hl]
      · rw [hentries, List.take_left]
    · rwa [if_neg (by omega)] at hstep
  · intro c slot s w len hw hst
    refine congrArg Host.Outcome.next ?_
    rw [hw]
    dsimp only
    rw [hst]

end Sys2Proof.Machine
end

section
/-! Messages, jobs and dies that a status write, a drain check and a change of credits keep (13 R291, R292, R305). -/
namespace Sys2Proof.Machine
open Sys2Proof.Claims

/-! ## Messages kept -/

theorem homeWrite_msgs_subset (s : State) (die line : Nat) (data : List (Nat × Byte)) (tell : AckTo) (now : Option Nat)
    (pushes : List Nat) : s.msgs ⊆ (s.homeWrite die line data tell now pushes).msgs := by
  have hkept : ((s.putAtHome line data).countRemote die line tell).msgs = s.msgs := by
    unfold State.countRemote State.putAtHome
    rw [State.putBytes_frame]
    split <;> split <;> rfl
  rw [State.homeWrite_eq]
  refine List.Subset.trans ?_ (ackOnly_ackStep _ _).msgs_subset
  refine List.Subset.trans ?_ (State.sendPushes_msgs_subset _ _ _ _)
  rw [State.sendUpdates_msgs, ← hkept]
  exact List.subset_append_left _ _

theorem setStatus_msgs_subset (s : State) (n : Nat) (f : NodeStatus → NodeStatus) : s.msgs ⊆ (s.setStatus n f).msgs := by
  have hput (u : State) (g : Graph) (x : NodeStatus) (hu : u.net = s.net) : s.msgs ⊆ (u.putStatus g n x).msgs := by
    rw [State.msgs, ← hu]
    exact homeWrite_msgs_subset u _ _ _ _ _ _
  unfold State.setStatus
  split
  · exact List.Subset.refl _
  · dsimp only
    split
    · exact List.Subset.refl _
    · exact hput _ _ _ rfl

theorem drainCheck_msgs_subset (s : State) : s.msgs ⊆ s.drainCheck.msgs := by
  have hnodes (ns : List Nat) (s : State) : s.msgs ⊆ (s.drainNodes ns).msgs := by
    induction ns generalizing s with
    | nil => exact List.Subset.refl _
    | cons n rest ih => exact List.Subset.trans (setStatus_msgs_subset _ _ _) (ih _)
  unfold State.drainCheck
  split
  · split
    · exact hnodes _ _
    · exact List.Subset.refl _
  · exact List.Subset.refl _

/-! ## Jobs and dies kept -/

theorem jobsKept_foldl {α : Type} (l : List α) {f : State → α → State} (hf : ∀ s x, JobsKept s (f s x)) (s : State) :
    JobsKept s (l.foldl f s) := by
  induction l generalizing s with
  | nil => exact .refl s
  | cons x xs ih => exact (hf s x).trans (ih _)

theorem jobsKept_giveBack (s : State) (n t : Nat) (dies : List Nat) : JobsKept s (s.giveBack n t dies) := by
  induction dies generalizing s with
  | nil => exact .refl s
  | cons d rest ih => exact (jobsKept_modQueue _ _ _ _).trans (ih _)

theorem jobsKept_freeCredits (s : State) (die : Nat) (deadline : Bool) (later : Nat) (es : List (Edge × Nat × Nat)) :
    JobsKept s (s.freeCredits die deadline later es) := by
  induction es generalizing s with
  | nil => exact .refl s
  | cons e rest ih =>
    refine JobsKept.trans ?_ (ih _)
    split
    · exact jobsKept_foldl _ (fun _ _ => jobsKept_modQueue _ _ _ _) s
    · exact jobsKept_giveBack _ _ _ _

/-- A fixed node that takes a record leaves every die in its place. -/
theorem takeRecord_length {s u : State} {die node : Nat} {e : QEntry} (h : s.takeRecord die node = some (u, e)) :
    u.dies.length = s.dies.length := by
  have hdequeue (v : State) : (v.dequeue die node 1).dies.length = v.dies.length := by
    unfold State.dequeue
    rw [(statusOnly_setStatus _ _ _).dies]
    exact (jobsKept_modQueue v die node _).length
  have hside (v : State) (p : Prop) [Decidable p] : (if p then v else
      v.modDie die (fun d => { d with sidebands := d.sidebands - 1 })).dies.length = v.dies.length := by
    split
    · rfl
    · exact modAt_length _ _ _
  unfold State.takeRecord at h
  dsimp only at h
  split at h
  · split at h
    · next s' hcredit =>
      cases h
      rw [hdequeue, hside]
      split at hcredit
      · cases hcredit
        rfl
      · exact (jobsKept_takeCredits hcredit).length
    · cases h
  · cases h

end Sys2Proof.Machine
end

section
/-! Footprint jobs start, run and end (14 R333 to R336; 15 R355 to R357; 13 R306, R312, R313). -/
namespace Sys2Proof.Machine
open Sys2Proof.Claims

/-! ## A job's next bytes (18 R410) -/

theorem needsScales_none {j : Job} (hmatrix : ∀ bs, j.kind ≠ .matrix bs) : j.needsScales = none := by
  unfold Job.needsScales
  split
  · next bs h => exact absurd h (hmatrix bs)
  · rfl

theorem copies_one {j : Job} (hscnt : j.dest.scnt = 1) : j.copies = 1 := by
  unfold Job.copies
  split
  · exact hscnt
  · rfl

theorem due_eq {j : Job} (hmatrix : ∀ bs, j.kind ≠ .matrix bs) (hscnt : j.dest.scnt = 1) (n : Nat) :
    j.due n = (n - j.paid + 255) / 256 := by
  unfold Job.due
  split
  · next bs h => exact absurd h (hmatrix bs)
  · rw [copies_one hscnt, Nat.mul_one]
    rfl

/-- A job that has written its next bytes, with what its last charge still covers. -/
def Job.wrote (paid : Nat) (x : Job) : Job :=
  if x.buf.drop 256 = [] then { x with paid := paid, buf := [], col := 0, row := x.row + 1 }
  else { x with paid := paid, buf := x.buf.drop 256, col := x.col + 256 }

/-- The next bytes of a job written to its one scratchpad. -/
def State.putNext (s : State) (j : Job) : State :=
  s.modSeg j.key j.dest.score (fun g => g.putScratch [((j.dest.rowAt j.row).toNat + j.col, j.buf.take 256)])

/-- A running job whose next bytes stand ready writes them as soon as their charge is covered. -/
theorem jobGo_ready {s : State} {j : Job} (hmatrix : ∀ bs, j.kind ≠ .matrix bs) (hpage : j.page = none)
    (hfault : j.fault = none) (hrow : j.row < j.rowCount) (hbuf : j.buf ≠ []) (die : Nat) :
    s.jobGo die j = s.jobPay die j := by
  unfold State.jobGo
  rw [if_neg (by simp [hpage, hfault, Nat.not_le.mpr hrow]), needsScales_none hmatrix]
  exact if_pos hbuf

/-- The next bytes for one scratchpad go there once the charge that is due is covered. -/
theorem jobPay_scratch (s : State) {j : Job} (hscratch : j.dest.scratch = true) (hscnt : j.dest.scnt = 1) {k : Nat}
    (hdue : j.due (j.buf.take 256).length = k) (die : Nat) : s.jobPay die j =
    if 32 * k > 0 ∧ ((32 * k : Nat) : Int) > (s.cluster (clusterOf j.core)).bucket then s
    else (if 32 * k = 0 then s.putNext j else (s.putNext j).charge j.core (32 * k)).modJob die j.id
      (fun x => x.wrote (x.paid + 256 * k - (j.buf.take 256).length)) := by
  have hput : s.scratchPut j.key ((j.dest.rowAt j.row).toNat + j.col) (j.buf.take 256)
      ((List.range j.dest.scnt).map (fun k => j.dest.score + k)) = s.putNext j := by rw [hscnt]; rfl
  have hchunk : s.jobChunk die j = (if 32 * k = 0 then s.putNext j else (s.putNext j).charge j.core (32 * k)).modJob die j.id
      (fun x => x.wrote (x.paid + 256 * k - (j.buf.take 256).length)) := by
    unfold State.jobChunk
    dsimp only
    rw [if_pos hscratch, hput, Job.weight, hdue, copies_one hscnt, Nat.mul_one]
    rfl
  unfold State.jobPay
  rw [hchunk, Job.weight, hdue]

/-! ## The output record of a fixed node (13 R306) -/

theorem nodeOutput_sends {s : State} {node : Nat} {n : Node} {e : Edge} {rest : List Edge} (die : Nat)
    (hn : s.node? node = some n) (hedges : n.edges = e :: rest) (htarget : e.target ≠ 65536) (bs : List Byte) :
    ∃ r : RecMsg, r.node = e.target ∧ r.bytes = bs ∧ Msg.record [r] ∈ (s.nodeOutput die node 0 [bs]).msgs
      ∧ ∀ d, ((s.nodeOutput die node 0 [bs]).die d).jobs = (s.die d).jobs := by
  obtain ⟨r, hr⟩ : ∃ r : RecMsg, r = {
      die := die, node := e.target, join := none, bytes := bs, depth := 0, family := 0, cluster := 0, cmark := false
      sideb := [], tell := .none, credit := true, launch := false, edge := 0 } := ⟨_, rfl⟩
  have hout : s.nodeOutput die node 0 [bs] = (s.sendAfter 192 (fixedSlot n.kind) [] 0 (.record [r])).freeCredits die
      n.deadline 0 (n.edges.zipIdx.map (fun p => (p.1, if p.2 = 0 then 1 else 0, p.1.fanout))) := by
    have hedge : n.edges[0]? = some e := by rw [hedges]; rfl
    rw [State.nodeOutput, hn, hr]
    dsimp only
    rw [hedge]
    dsimp only
    rw [if_neg (by simpa using htarget)]
    rfl
  have hkept := jobsKept_freeCredits (s.sendAfter 192 (fixedSlot n.kind) [] 0 (.record [r])) die n.deadline 0
    (n.edges.zipIdx.map (fun p => (p.1, if p.2 = 0 then 1 else 0, p.1.fanout)))
  refine ⟨r, by rw [hr], by rw [hr], ?_, fun d => ?_⟩
  · rw [hout, hkept.dies]
    exact List.mem_map.mpr ⟨_, List.mem_append_right _ (List.mem_singleton_self _), rfl⟩
  · rw [hout]
    exact hkept.jobs d

/-! ## Jobs that start and run -/

section
variable {die i : Nat} {s : State} {j : Job} (hj : (s.die die).jobs[i]? = some j)
include hj

theorem jobStart_waiting (hstate : j.state = 1) (hpreds : j.preds = [])
    (hrelease : s.releaseDone j.core j.slot j.after j.scope = true) :
    Steps (.jobStart die i) s (s.modJob die j.id (fun x => { x with state := 2 })) := by
  refine congrArg Host.Outcome.next ?_
  rw [jobStartStep, hj]
  dsimp only
  rw [if_neg (by rw [hstate]; decide), if_pos (by simp [hpreds, hrelease])]

theorem jobStart_running (hstate : j.state = 2) : Steps (.jobStart die i) s (s.jobGo die j) := by
  refine congrArg Host.Outcome.next ?_
  rw [jobStartStep, hj]
  exact if_pos hstate

/-! ## Jobs that end -/

/-- The table of a die after a job has left it and its successors. -/
def State.jobGone (s : State) (die : Nat) (j : Job) : State :=
  s.modDie die (fun d => { d with jobs := (d.jobs.filter (fun x => x.id != j.id)).map (fun x =>
    { x with preds := x.preds.filter (fun p => p != j.id) }) })

omit hj in
theorem jobGone_id {x : Job} (hd : die < s.dies.length) (hx : x ∈ ((s.jobGone die j).die die).jobs) : x.id ≠ j.id := by
  rw [State.jobGone, State.die_modDie_self _ _ _ hd] at hx
  obtain ⟨y, hy, rfl⟩ := List.mem_map.mp hx
  simpa using (List.mem_filter.mp hy).2

theorem jobComplete_wave (hover : j.overB = true) (hnode : j.node = 65536) (hfault : j.fault = none) :
    Steps (.jobComplete die i) s
      (((s.jobGone die j).applyComp j).modOp j.core j.slot j.op (fun o => { o with done := true })) := by
  refine congrArg Host.Outcome.next ?_
  rw [jobCompleteStep, hj]
  dsimp only
  rw [if_neg (by simp [hover]), if_pos hnode, hfault]
  rfl

/-- A node job that is over leaves its table and sends its completion record (13 R313). -/
theorem jobComplete_node {n : Node} {e : Edge} {rest : List Edge} (hover : j.overB = true) (hnode : j.node ≠ 65536)
    (hn : s.node? j.node = some n) (hedges : n.edges = e :: rest) (htarget : e.target ≠ 65536) :
    ∃ t m r, Steps (.jobComplete die i) s t ∧ m ∈ t.net ∧ m.msg = .record [r] ∧ r.node = e.target ∧ r.bytes = j.record
      ∧ ∀ x ∈ (t.die die).jobs, x.id ≠ j.id := by
  have hd : die < s.dies.length := by
    by_contra hd
    rw [State.die, List.getD_eq_default _ _ (Nat.not_lt.mp hd)] at hj
    cases hj
  have hstep : Steps (.jobComplete die i) s ((s.jobGone die j).nodeOutput die j.node 0 [j.record]).drainCheck := by
    refine congrArg Host.Outcome.next ?_
    rw [jobCompleteStep, hj]
    dsimp only
    rw [if_neg (by simp [hover]), if_neg hnode]
    rfl
  obtain ⟨r, hr, hbytes, hsent, hjobs⟩ := nodeOutput_sends (s := s.jobGone die j) die hn hedges htarget j.record
  obtain ⟨m, hm, hmsg⟩ := List.mem_map.mp (drainCheck_msgs_subset _ hsent)
  refine ⟨_, m, r, hstep, hm, hmsg, hr, hbytes, fun x hx => ?_⟩
  rw [State.die, (statusOnly_drainCheck _).dies, ← State.die, hjobs] at hx
  exact jobGone_id hd hx

end

/-! ## Pages not served in time (13 R313) -/

theorem jobPageTimeout_of {i die va : Nat} {s : State} {j : Job} (hj : s.allJobs[i]? = some (die, j))
    (hpage : j.page = some va) (hnode : j.node ≠ 65536) : Steps (.jobPageTimeout i) s
    (if s.timen ≥ j.pageSince + 1000000 then s.modJob die j.id (fun x => { x with
      page := none, fault := some (0x0A, 0, 0), status := 1, buf := [] }) else s) := by
  refine congrArg Host.Outcome.next ?_
  rw [hj]
  dsimp only
  rw [hpage, decide_eq_true hnode]
  by_cases htime : s.timen ≥ j.pageSince + 1000000
  · rw [if_pos htime, decide_eq_true htime]
    rfl
  · rw [if_neg htime, decide_eq_false htime]
    rfl

/-! ## The jobs of the matrix and copy nodes -/

theorem enterNodeJob_enters (s : State) {die : Nat} (hd : die < s.dies.length) (node jobid srck : Nat) (kind : JobKind)
    (regions : List Region) (bad : Bool) :
    ∃ j, ((s.enterNodeJob die node jobid srck kind regions bad).die die).jobs = (s.die die).jobs ++ [j] ∧ j.node = node
      ∧ j.kind = kind ∧ j.jobid = jobid ∧ j.state = (if bad then 2 else 1) ∧ j.status = (if bad then 3 else 0)
      ∧ j.row = 0 := by
  obtain ⟨j, henter, hj, -⟩ := State.enterJob_eq ({ s with nextId := s.nextId + 1 } : State) die
    { Job.blank s.nextId (96 * die) kind (if bad then [] else regions) with
      jobid := jobid, srck := srck, node := node, state := if bad then 2 else 1,
      fault := if bad then some (causeOperand, 0, 0) else none, status := if bad then 3 else 0 }
  refine ⟨j, ?_, ?_⟩
  · rw [State.enterNodeJob]
    exact (congrArg (fun u => (State.die u die).jobs) henter).trans
      (congrArg Die.jobs (State.die_modDie_self { s with nextId := s.nextId + 1 } die _ hd))
  · rw [hj]
    exact ⟨rfl, rfl, rfl, rfl, rfl, rfl⟩

section
variable {die node : Nat} {s u : State} {n : Node} {e : QEntry} (hn : s.node? node = some n)
  (hroom : s.tableFull die = false)
  (htake : s.takeRecord die node = some (u, e))
include hn hroom htake

theorem matrixJobRun_enters (hkind : n.kind = kindMatrix) : Steps (.matrixJobRun die node) s
    (u.enterNodeJob die node (matJobOf e.bytes).jobid 2 (.matrix e.bytes) (matJobOf e.bytes).regions
      ((matJobOf e.bytes).bad || farRegions (matJobOf e.bytes).regions)) := by
  refine congrArg Host.Outcome.next ?_
  rw [hn]
  dsimp only
  rw [if_neg (by simp [hkind, hroom]), htake]

theorem copyJobRun_enters (hkind : n.kind = kindCopy) : Steps (.copyJobRun die node) s
    (u.enterNodeJob die node (cardOf (leValue e.bytes)).jobid 3 (.copy (cardOf (leValue e.bytes)))
      ((cardOf (leValue e.bytes)).regions none (96 * die) (96 * die) 1)
      (cardBad (leValue e.bytes) (cardOf (leValue e.bytes))
        || decide ((cardOf (leValue e.bytes)).skind ≠ 0 ∨ (cardOf (leValue e.bytes)).dkind ≠ 0)
        || (cardOdd (cardOf (leValue e.bytes)) false).isSome
        || farRegions ((cardOf (leValue e.bytes)).regions none (96 * die) (96 * die) 1))) := by
  refine congrArg Host.Outcome.next ?_
  rw [hn]
  dsimp only
  rw [if_neg (by simp [hkind, hroom]), htake]

end

/-- Settles O46: a job's start, its next bytes for one scratchpad and its end by its step, a page not served in time, and the
job that a fixed node enters. -/
theorem jobsRunAndEnd : Obligations.JobsRunAndEnd := by
  refine ⟨fun die i s j hj => ⟨?_, ?_, ?_⟩, fun i die s j va hj hpage hnode => jobPageTimeout_of hj hpage hnode,
    fun die node s u n e hn hroom hd htake => ⟨fun hkind => ?_, fun hkind => ?_⟩⟩
  · exact fun hstate hpreds hrelease => jobStart_waiting hj hstate hpreds hrelease
  · intro hstate hpage hfault hrow hbuf hmatrix hscratch hscnt bs a next put
    have hstep := jobStart_running hj hstate
    rw [jobGo_ready hmatrix hpage hfault hrow hbuf] at hstep
    have hlen : 1 ≤ bs.length ∧ bs.length ≤ 256 := by
      have hpos := List.length_pos_iff.mpr hbuf
      have hbs : bs.length = min 256 j.buf.length := List.length_take
      omega
    have hdue := due_eq hmatrix hscnt bs.length
    have hone (hpaid : j.paid = 0) : j.due bs.length = 1 := hdue.trans (by rw [hpaid]; omega)
    have hzero (hpaid : j.paid ≥ bs.length) : j.due bs.length = 0 := hdue.trans (by omega)
    refine ⟨fun hpaid hcover => ?_, fun hpaid hshort => ?_, fun hpaid => ?_⟩
    · rw [jobPay_scratch s hscratch hscnt (hone hpaid), if_neg (by omega)] at hstep
      exact hstep
    · rwa [jobPay_scratch s hscratch hscnt (hone hpaid), if_pos (by omega)] at hstep
    · rw [jobPay_scratch s hscratch hscnt (hzero hpaid), if_neg (by omega)] at hstep
      exact hstep
  · intro hover gone
    exact ⟨fun hnode hfault => jobComplete_wave hj hover hnode hfault,
      fun n e rest hnode hn hedges htarget => jobComplete_node hj hover hnode hn hedges htarget⟩
  · have hlen : die < u.dies.length := by rw [takeRecord_length htake]; exact hd
    intro x bad
    obtain ⟨j, hjobs, hentry⟩ := enterNodeJob_enters u hlen node x.jobid 2 (.matrix e.bytes) x.regions bad
    exact ⟨_, j, matrixJobRun_enters hn hroom htake hkind, hjobs, hentry⟩
  · have hlen : die < u.dies.length := by rw [takeRecord_length htake]; exact hd
    intro c rs bad
    obtain ⟨j, hjobs, hentry⟩ := enterNodeJob_enters u hlen node c.jobid 3 (.copy c) rs bad
    exact ⟨_, j, copyJobRun_enters hn hroom htake hkind, hjobs, hentry⟩

end Sys2Proof.Machine
end

section
/-! What the functions of the model leave of memory (entry 2): most leave it as it is. A computation that may stop is read
by what it answers where it does not; an attempt that may fail, by what it gives where it succeeds. -/
namespace Sys2Proof.Machine

/-! ## What a computation answers -/

/-- What a computation answers satisfies `p`, where it does not stop. -/
def Answers {ε α : Type} (p : α → Prop) : Except ε α → Prop
  | .ok a => p a
  | .error _ => True

@[simp] theorem answers_ok {ε α : Type} (p : α → Prop) (a : α) : Answers p (.ok a : Except ε α) ↔ p a := Iff.rfl

@[simp] theorem answers_error {ε α : Type} (p : α → Prop) (e : ε) : Answers p (.error e : Except ε α) ↔ True :=
  Iff.rfl

@[simp] theorem answers_pure {ε α : Type} (p : α → Prop) (a : α) : Answers p (pure a : Except ε α) ↔ p a := Iff.rfl

@[simp] theorem answers_throw {ε α : Type} (p : α → Prop) (a : ε) : Answers p (throw a : Except ε α) ↔ True :=
  Iff.rfl

@[simp] theorem answers_bind {ε α β : Type} (p : β → Prop) (x : Except ε α) (f : α → Except ε β) :
    Answers p (x >>= f) ↔ Answers (fun a => Answers p (f a)) x := by
  cases x <;> exact Iff.rfl

@[simp] theorem answers_true {ε α : Type} (x : Except ε α) : Answers (fun _ => True) x ↔ True := by
  cases x <;> simp [Answers]

theorem Answers.mono {ε α : Type} {p q : α → Prop} {x : Except ε α} (h : Answers p x) (hpq : ∀ a, p a → q a) :
    Answers q x := by
  cases x <;> simp_all [Answers]

/-- The rest of a computation decides what it answers, whatever its first part answers. -/
theorem Answers.bind {ε α β : Type} {p : β → Prop} {x : Except ε α} {f : α → Except ε β} (h : ∀ a, Answers p (f a)) :
    Answers p (x >>= f) := by
  cases x with
  | ok a => exact h a
  | error e => trivial

theorem Answers.ite {ε α : Type} {p : α → Prop} {c : Prop} [Decidable c] {x y : Except ε α} (hx : Answers p x)
    (hy : Answers p y) : Answers p (if c then x else y) := by
  split <;> assumption

theorem Answers.of_ok {ε α : Type} {p : α → Prop} {x : Except ε α} {a : α} (h : Answers p x) (hx : x = .ok a) :
    p a := by
  rw [hx] at h
  exact h

@[simp] theorem answers_ite {ε α : Type} (p : α → Prop) {c : Prop} [Decidable c] (x y : Except ε α) :
    Answers p (if c then x else y) ↔ (c → Answers p x) ∧ (¬c → Answers p y) := by
  split <;> simp [*]

/-! ## Frames: the lane stream and the lead stream -/

@[simp] theorem State.addOp_mem (s : State) (o : Op) : (s.addOp o).mem = s.mem := rfl

@[simp] theorem State.refill_mem (s : State) (flanes : Nat) : Answers (fun t => t.mem = s.mem) (s.refill flanes) := by
  simp [State.refill]

@[simp] theorem State.faultBlock_mem (s : State) (t : Trap) : (s.faultBlock t).mem = s.mem := rfl

@[simp] theorem State.mgmtFault_mem (s : State) (t : Trap) : (s.mgmtFault t).mem = s.mem := by
  fun_cases State.mgmtFault s t <;> simp

@[simp] theorem State.pageMiss_mem (s : State) (va kind : Nat) : (s.pageMiss va kind).mem = s.mem := rfl

@[simp] theorem State.countRet_mem (s : State) (n : Nat) : (s.countRet n).mem = s.mem := rfl

@[simp] theorem State.stall_mem (s : State) (x : Attempt) : (s.stall x).mem = s.mem := rfl

@[simp] theorem State.charge_mem (s : State) (core weight : Nat) : (s.charge core weight).mem = s.mem := rfl

@[simp] theorem State.billed_mem (s : State) (weight : Nat) : (s.billed weight).mem = s.mem := by
  fun_cases State.billed s weight <;> simp

@[simp] theorem State.stopCharge_mem (s : State) (weight : Nat) (x : Stop) : (s.stopCharge weight x).mem = s.mem := by
  fun_cases State.stopCharge s weight x <;> simp

@[simp] theorem State.advance_mem (s : State) (words : Nat) : (s.advance words).mem = s.mem := rfl

@[simp] theorem State.laneForm_mem (s : State) (words : Nat) (sp : XaSpec) (f : XaF) (more : List Nat)
    (eff : Wave → Nat → Wave) : Answers (fun t => t.mem = s.mem) (s.laneForm words sp f more eff) := by
  simp [State.laneForm]

@[simp] theorem State.laneMap_mem (s : State) (words : Nat) (sp : XaSpec) (f : XaF) (res : Wave → Nat → Nat) :
    Answers (fun t => t.mem = s.mem) (s.laneMap words sp f res) := by
  simp [State.laneMap]

@[simp] theorem State.lanePred_mem (s : State) (words : Nat) (sp : XaSpec) (f : XaF) (p : Wave → Nat → Bool) :
    Answers (fun t => t.mem = s.mem) (s.lanePred words sp f p) := by
  simp [State.lanePred]

@[simp] theorem mapBody_mem (res : XaF → Wave → Nat → Nat) (s : State) (words : Nat) (sp : XaSpec) (f : XaF) :
    Answers (fun t => t.mem = s.mem) (mapBody res s words sp f) := by
  simp [mapBody]

@[simp] theorem predBody_mem (p : XaF → Wave → Nat → Bool) (s : State) (words : Nat) (sp : XaSpec) (f : XaF) :
    Answers (fun t => t.mem = s.mem) (predBody p s words sp f) := by
  simp [predBody]

@[simp] theorem waveBody_mem (eff : XaF → Wave → Nat → Wave) (s : State) (words : Nat) (sp : XaSpec) (f : XaF) :
    Answers (fun t => t.mem = s.mem) (waveBody eff s words sp f) := by
  simp [waveBody]

@[simp] theorem State.goto_mem (s : State) (a : Nat) : (s.goto a).mem = s.mem := rfl

@[simp] theorem reconvBody_mem (s : State) : Answers (fun t => t.mem = s.mem) (reconvBody s) := by
  unfold reconvBody
  split
  · simp
  · next u hu =>
    have hmem := (State.refill_mem s _).of_ok hu
    dsimp only
    split
    · simp [hmem]
    · split_ifs <;> simp [hmem]

@[simp] theorem retlBody_mem (s : State) : Answers (fun t => t.mem = s.mem) (retlBody s) := by
  unfold retlBody
  split
  · simp
  · next u hu =>
    have hmem := (State.refill_mem s _).of_ok hu
    split
    · simp
    · split_ifs <;> simp [hmem]

@[simp] theorem exitBody_mem (s : State) : Answers (fun t => t.mem = s.mem) (exitBody s) := by simp [exitBody]

@[simp] theorem scalarBody_mem (sp : LeadSpec) (o : LeadOp) (words : Nat) (op : LeadFn) (s : State) :
    Answers (fun t => t.mem = s.mem) (scalarBody sp o words op s) := by
  simp [scalarBody]

@[simp] theorem State.condBranch_mem (s : State) (f : BlF) (t : Bool) : (s.condBranch f t).mem = s.mem := rfl

@[simp] theorem sbrcBody_mem (f : BlF) (s : State) : Answers (fun t => t.mem = s.mem) (sbrcBody f s) := by
  simp [sbrcBody]

@[simp] theorem sloopBody_mem (f : BlF) (s : State) : Answers (fun t => t.mem = s.mem) (sloopBody f s) := by
  simp [sloopBody]

@[simp] theorem scallBody_mem (f : BbF) (s : State) : Answers (fun t => t.mem = s.mem) (scallBody f s) := by
  simp [scallBody]

@[simp] theorem jmplBody_mem (f : BbF) (s : State) : Answers (fun t => t.mem = s.mem) (jmplBody f s) := by
  simp [jmplBody]

@[simp] theorem sretBody_mem (f : BaF) (s : State) : Answers (fun t => t.mem = s.mem) (sretBody f s) := by
  simp [sretBody]

@[simp] theorem sdoneBody_mem (s : State) : Answers (fun t => t.mem = s.mem) (sdoneBody s) := by simp [sdoneBody]

@[simp] theorem dqpushBody_mem (f : BaF) (s : State) : Answers (fun t => t.mem = s.mem) (dqpushBody f s) := by
  simp [dqpushBody]

@[simp] theorem State.modSeg_mem (s : State) (k : BKey) (core : Nat) (f : CoreSeg → CoreSeg) :
    (s.modSeg k core f).mem = s.mem :=
  rfl

@[simp] theorem State.serveClaims_mem (s : State) (k : BKey) (core : Nat) (l : List (Nat × Nat × Nat × Nat)) :
    (s.serveClaims k core l).mem = s.mem := by
  fun_induction State.serveClaims s k core l with
  | case1 => rfl
  | case2 => rfl
  | case3 s c slot len n rest need hroom s1 ih => exact ih.trans (by simp [s1])

@[simp] theorem State.serveBlocks_mem (s : State) (core : Nat) (l : List Block) :
    (s.serveBlocks core l).mem = s.mem := by
  fun_induction State.serveBlocks s core l <;> simp [*]

@[simp] theorem State.coreClaims_mem (s : State) (core : Nat) : (s.coreClaims core).mem = s.mem := by
  simp [State.coreClaims]

@[simp] theorem vgiveBody_mem (f : BaF) (s : State) : Answers (fun t => t.mem = s.mem) (vgiveBody f s) := by
  simp [vgiveBody]

@[simp] theorem vclaimBody_mem (f : BaF) (s : State) : Answers (fun t => t.mem = s.mem) (vclaimBody f s) := by
  simp [vclaimBody]

/-! ## Frames: translation, coherence, memory accesses and aborts -/

@[simp] theorem State.tlbFill_mem (s : State) (core va : Nat) : (s.tlbFill core va).mem = s.mem := by
  fun_cases State.tlbFill s core va <;> simp

@[simp] theorem State.fetched_mem (s : State) : (s.fetched).mem = s.mem := by fun_cases State.fetched s <;> simp

@[simp] theorem State.sendAfter_mem (s : State) (core slot : Nat) (after : List Nat) (scope : Nat) (m : Msg) :
    (s.sendAfter core slot after scope m).mem = s.mem :=
  rfl

@[simp] theorem State.evict_mem (s : State) (core : Nat) (x : L1Line) : (s.evict core x).mem = s.mem := by
  unfold State.evict
  split <;> simp

@[simp] theorem State.makeRoom_mem (s : State) (core : Nat) : ∀ u, s.makeRoom core = some u → u.mem = s.mem := by
  fun_cases State.makeRoom s core <;> simp

@[simp] theorem State.overlay_mem (s : State) (core line : Nat) : (s.overlay core line).mem = s.mem := rfl

@[simp] theorem State.dropMarked_mem (s : State) (core : Nat) (ls : List L1Line) :
    (s.dropMarked core ls).mem = s.mem := by
  fun_induction State.dropMarked s core ls <;> simp [*]

@[simp] theorem State.overlayAll_mem (s : State) (core : Nat) (ls : List L1Line) :
    (s.overlayAll core ls).mem = s.mem := by
  induction ls generalizing s with
  | nil => rfl
  | cons x rest ih =>
    rw [State.overlayAll, ih]
    split <;> simp

@[simp] theorem State.acquire_mem (s : State) (core : Nat) : (s.acquire core).mem = s.mem := by simp [State.acquire]

@[simp] theorem State.acquireSpan_mem (s : State) (cs : List Nat) : (s.acquireSpan cs).mem = s.mem := by
  fun_induction State.acquireSpan s cs <;> simp [*]

@[simp] theorem State.share_mem (s : State) (core line : Nat) : (s.share core line).mem = s.mem := rfl

@[simp] theorem State.unshare_mem (s : State) (core line : Nat) : (s.unshare core line).mem = s.mem := by
  fun_cases State.unshare s core line <;> simp

@[simp] theorem State.ackStep_mem (s : State) (id : Nat) : (s.ackStep id).mem = s.mem := by
  unfold State.ackStep
  split
  · rfl
  · next a _ =>
    cases a.tell <;> dsimp only <;> split_ifs <;> simp

@[simp] theorem State.recorded_mem (s : State) (id core : Nat) : (s.recorded id core).mem = s.mem := by
  simp [State.recorded]

@[simp] theorem State.answered_mem (s : State) (id core : Nat) : (s.answered id core).mem = s.mem := by
  simp [State.answered]

@[simp] theorem State.sendUpdates_mem (s : State) (line id : Nat) (data : List (Nat × Byte)) (now : Option Nat)
    (cs : List Nat) : (s.sendUpdates line id data now cs).mem = s.mem := by
  fun_induction State.sendUpdates s line id data now cs <;> simp [*]

@[simp] theorem State.sendPushes_mem (s : State) (line id : Nat) (cs : List Nat) :
    (s.sendPushes line id cs).mem = s.mem := by
  fun_induction State.sendPushes s line id cs <;> simp [*]

@[simp] theorem State.nextPush_mem (s : State) (id core : Nat) (lines : List Nat) :
    (s.nextPush id core lines).mem = s.mem := by
  rw [State.nextPush_frame]

@[simp] theorem State.handoffReply_mem (s : State) (id : Nat) (ok : Bool) : (s.handoffReply id ok).mem = s.mem := by
  unfold State.handoffReply
  split
  · rfl
  · split <;> simp

@[simp] theorem State.addPartial_mem (s : State) (line : Nat) (p : Partial) : (s.addPartial line p).mem = s.mem := by
  fun_cases State.addPartial s line p <;> simp

@[simp] theorem State.giveUp_mem (s : State) (core line : Nat) : (s.giveUp core line).mem = s.mem := by
  unfold State.giveUp
  split
  · split <;> simp
  · rfl

@[simp] theorem State.giveUpAll_mem (s : State) (line : Nat) (cs : List Nat) : (s.giveUpAll line cs).mem = s.mem := by
  fun_induction State.giveUpAll s line cs <;> simp [*]

@[simp] theorem State.sendProbes_mem (s : State) (line : Nat) (cs : List Nat) :
    (s.sendProbes line cs).mem = s.mem := by
  fun_induction State.sendProbes s line cs <;> simp [*]

@[simp] theorem State.foldStart_mem (s : State) (line : Nat) (loads : List Nat) :
    (s.foldStart line loads).mem = s.mem := by
  simp [State.foldStart]

@[simp] theorem State.tlbFills_mem (s : State) (l : List Acc) : (s.tlbFills l).mem = s.mem := by
  induction l generalizing s with
  | nil => rfl
  | cons x rest ih =>
    rw [State.tlbFills, ih]
    split <;> simp

@[simp] theorem State.loadDone_mem (s : State) (core slot id : Nat) : (s.loadDone core slot id).mem = s.mem := by
  unfold State.loadDone
  split
  · rfl
  · split
    · rfl
    · split
      · rfl
      · dsimp only
        split <;> simp

@[simp] theorem State.sendLoads_mem (s : State) (id n : Nat) (ls : List (Nat × Nat × List (Nat × Nat))) :
    (s.sendLoads id n ls).mem = s.mem := by
  fun_induction State.sendLoads s id n ls <;> simp [*]

@[simp] theorem State.postLoad_mem (s : State) (cls : OpCls) (tinfo n : Nat) (dst : Dst) (l : List Acc) :
    (s.postLoad cls tinfo n dst l).mem = s.mem := by
  unfold State.postLoad
  dsimp only
  split <;> simp

@[simp] theorem State.sendStores_mem (s : State) (id : Nat) (data : Nat → List Byte) (push : List Nat)
    (ls : List (Nat × Nat × List (Nat × Nat))) : (s.sendStores id data push ls).mem = s.mem := by
  induction ls generalizing s with
  | nil => rfl
  | cons x rest ih => exact (ih _).trans (by simp)

@[simp] theorem State.postStore_mem (s : State) (cls : OpCls) (tinfo : Nat) (l : List Acc) (data : Nat → List Byte)
    (stt : Bool) (push : List Nat) : (s.postStore cls tinfo l data stt push).mem = s.mem := by
  simp [State.postStore]

@[simp] theorem State.laneLoad_mem (s : State) (i : Instr) (words kmask code d : Nat) (srcs : List Nat)
    (ea : Wave → Nat → Int) : Answers (fun t => t.mem = s.mem) (s.laneLoad i words kmask code d srcs ea) := by
  simp [State.laneLoad]

@[simp] theorem State.laneStore_mem (s : State) (i : Instr) (words kmask code d : Nat) (lit : Option Dword)
    (srcs : List Nat) (ea : Wave → Nat → Int) (stt : Bool) (push : Nat → R (List Nat)) :
    Answers (fun t => t.mem = s.mem) (s.laneStore i words kmask code d lit srcs ea stt push) := by
  simp [State.laneStore]

@[simp] theorem State.sendPrefs_mem (s : State) (l : List (Nat × Nat)) : (s.sendPrefs l).mem = s.mem := by
  fun_induction State.sendPrefs s l <;> simp [*]

@[simp] theorem prefBody_mem (f : XmF) (s : State) : Answers (fun t => t.mem = s.mem) (prefBody f s) := by
  unfold prefBody
  split <;> simp

@[simp] theorem State.doneOp_mem (s : State) (cls : OpCls) (tinfo : Nat) : (s.doneOp cls tinfo).mem = s.mem := by
  simp [State.doneOp]

@[simp] theorem ldspBody_mem (f : XmF) (s : State) : Answers (fun t => t.mem = s.mem) (ldspBody f s) := by
  simp [ldspBody]

@[simp] theorem stspBody_mem (f : XmF) (s : State) : Answers (fun t => t.mem = s.mem) (stspBody f s) := by
  simp [stspBody]

@[simp] theorem State.sendAtoms_mem (s : State) (id : Nat) (after : List Nat) (scope : Nat) (mk : Nat → AtomOp)
    (l : List Acc) : (s.sendAtoms id after scope mk l).mem = s.mem := by
  induction l generalizing s with
  | nil => rfl
  | cons x rest ih => exact (ih _).trans (by simp)

@[simp] theorem atomBody_mem (f : XmF) (s : State) : Answers (fun t => t.mem = s.mem) (atomBody f s) := by
  unfold atomBody
  refine .bind fun _ => .bind fun _ => .bind fun _ => .bind fun l => .bind fun _ => ?_
  rw [answers_ok]
  simp only [State.advance_mem, State.modW_mem]
  split <;> simp

@[simp] theorem State.partialLine_mem (s : State) (core line : Nat) :
    ∀ u, s.partialLine core line = some u → u.mem = s.mem := by
  unfold State.partialLine
  split
  · split <;> simp
  · simp only [Option.map_eq_some_iff]
    rintro t ⟨u, hu, rfl⟩
    simp [State.makeRoom_mem s core u hu]

@[simp] theorem State.caddLanes_mem (s : State) (val : Nat → Nat) (pc : Nat) (l : List Acc) :
    Answers (fun t => t.mem = s.mem) (s.caddLanes val pc l) := by
  induction l generalizing s with
  | nil => simp [State.caddLanes]
  | cons a rest ih =>
    rw [State.caddLanes]
    split
    · next u hr hu => exact (ih _).mono fun t ht => by simp [ht, State.partialLine_mem _ _ _ u hu]
    · simp

@[simp] theorem caddBody_mem (f : XmF) (s : State) : Answers (fun t => t.mem = s.mem) (caddBody f s) := by
  unfold caddBody
  refine .bind fun _ => .bind fun _ => .bind fun _ => .bind fun l => ?_
  dsimp only
  cases l.filter (fun a => (s.rangeAt a.va 4).isNone) with
  | cons a _ => trivial
  | nil =>
    dsimp only
    split
    · trivial
    · split
      · trivial
      · next u hu => simp [(State.caddLanes_mem _ _ _ _).of_ok hu]

@[simp] theorem State.mgmtWrite_mem (s : State) (a : Nat) (bs : List Byte) : (s.mgmtWrite a bs).mem = s.mem := by
  fun_induction State.mgmtWrite s a bs <;> simp [*]

@[simp] theorem ldsBody_mem (i : Instr) (words code : Nat) (d : LeadIx) (srcs : List LeadIx) (ea : Wave → Int)
    (s : State) : Answers (fun t => t.mem = s.mem) (ldsBody i words code d srcs ea s) := by
  simp [ldsBody]

@[simp] theorem stsBody_mem (i : Instr) (words code : Nat) (lit : Option Dword) (d : LeadIx) (addr : List LeadIx)
    (ea : Wave → Int) (s : State) : Answers (fun t => t.mem = s.mem) (stsBody i words code lit d addr ea s) := by
  simp [stsBody]

@[simp] theorem ldlqBody_mem (f : XmF) (s : State) : Answers (fun t => t.mem = s.mem) (ldlqBody f s) := by
  simp [ldlqBody]

@[simp] theorem State.crangeIssued_mem (s : State) (f : XmF) (h : Option Hold) : (s.crangeIssued f h).mem = s.mem :=
  rfl

@[simp] theorem State.crangeDone_mem (s : State) (d status : Nat) : (s.crangeDone d status).mem = s.mem := rfl

@[simp] theorem State.modRange_mem (s : State) (die i : Nat) (g : CRange → CRange) :
    (s.modRange die i g).mem = s.mem :=
  rfl

@[simp] theorem State.crangeBegin_mem (s : State) (f : XmF) : Answers (fun t => t.mem = s.mem) (s.crangeBegin f) := by
  unfold State.crangeBegin
  refine .bind fun _ => ?_
  dsimp only
  split
  · trivial
  · refine .bind fun pages => ?_
    split
    · simp
    · split <;> simp

@[simp] theorem State.sendNotices_mem (s : State) (l : List (Nat × Nat)) : (s.sendNotices l).mem = s.mem := by
  induction l generalizing s with
  | nil => rfl
  | cons x rest ih =>
    rw [State.sendNotices, ih]
    split <;> simp

@[simp] theorem State.crangeOpening_mem (s : State) (die i d : Nat) : (s.crangeOpening die i d).mem = s.mem := by
  fun_cases State.crangeOpening s die i d <;> simp

@[simp] theorem State.crangeCloseBegin_mem (s : State) (f : XmF) :
    Answers (fun t => t.mem = s.mem) (s.crangeCloseBegin f) := by
  unfold State.crangeCloseBegin
  refine .bind fun _ => ?_
  dsimp only
  split
  · simp
  · split <;> simp

@[simp] theorem State.foldLines_mem (s : State) (ls : List Nat) : (s.foldLines ls).mem = s.mem := by
  induction ls generalizing s with
  | nil => rfl
  | cons x rest ih =>
    rw [State.foldLines, ih]
    split <;> simp

@[simp] theorem State.crangeClosing_mem (s : State) (die i d : Nat) : (s.crangeClosing die i d).mem = s.mem := by
  fun_cases State.crangeClosing s die i d <;> simp

@[simp] theorem State.phaseActs_mem (s : State) (scope : Nat) (after : List Nat) (acq : Bool) :
    (s.phaseActs scope after acq).mem = s.mem := by
  unfold State.phaseActs
  split
  · dsimp only
    split <;> simp
  · rfl

@[simp] theorem phaseBody_mem (words scope : Nat) (acq : Bool) (s : State) :
    Answers (fun t => t.mem = s.mem) (phaseBody words scope acq s) := by
  simp [phaseBody]

@[simp] theorem State.holdStep_mem (s : State) : (s.holdStep).mem = s.mem := by fun_cases State.holdStep s <;> simp

@[simp] theorem State.unwait_mem (s : State) (core slot : Nat) : (s.unwait core slot).mem = s.mem := rfl

@[simp] theorem State.sampleParked_mem (s : State) (l : List Wave) : (s.sampleParked l).mem = s.mem := by
  induction l generalizing s with
  | nil => rfl
  | cons x rest ih =>
    rw [State.sampleParked, ih]
    split <;> simp

@[simp] theorem State.raiseAbort_mem (s : State) (g f : Nat) : (s.raiseAbort g f).mem = s.mem := by
  simp [State.raiseAbort]

@[simp] theorem abortBody_mem (s : State) : Answers (fun t => t.mem = s.mem) (abortBody s) := by
  unfold abortBody
  dsimp only
  split
  · split <;> simp
  · simp

@[simp] theorem pollabtBody_mem (s : State) : Answers (fun t => t.mem = s.mem) (pollabtBody s) := by
  unfold pollabtBody
  split <;> simp

/-! ## Frames: synchronisation, the matrix engine and fetches -/

@[simp] theorem State.modSem_mem (s : State) (k : BKey) (j n : Nat) (f : Sem → Sem) :
    (s.modSem k j n f).mem = s.mem :=
  rfl

@[simp] theorem State.modBar_mem (s : State) (k : BKey) (j n : Nat) (f : Bar → Bar) :
    (s.modBar k j n f).mem = s.mem :=
  rfl

@[simp] theorem State.acquireAll_mem (s : State) (l : List (Nat × Nat)) : (s.acquireAll l).mem = s.mem := by
  fun_induction State.acquireAll s l <;> simp [*]

@[simp] theorem State.modWaves_mem (s : State) (l : List (Nat × Nat)) (f : Wave → Wave) :
    (s.modWaves l f).mem = s.mem := by
  fun_induction State.modWaves s l f <;> simp [*]

@[simp] theorem State.admitNow_mem (s : State) (l : List (Nat × Nat)) (cs : List Nat) (left : List (Nat × Nat)) :
    (s.admitNow l cs left).1.mem = s.mem := by
  fun_induction State.admitNow s l cs left <;> simp [*]

@[simp] theorem State.wakeAll_mem (s : State) (l : List (Nat × Nat)) : (s.wakeAll l).mem = s.mem := by
  unfold State.wakeAll
  dsimp only
  split
  · simp
  · split <;> simp

@[simp] theorem State.massStep_mem (s : State) (m : MassRelease) : ∀ u, s.massStep m = some u → u.1.mem = s.mem := by
  unfold State.massStep
  dsimp only
  split
  · simp
  · rintro u ⟨⟩
    dsimp only
    split <;> simp

@[simp] theorem State.massAdmit_mem (s : State) (before after : List MassRelease) (done : List Nat) :
    (s.massAdmit before after done).mem = s.mem := by
  induction after generalizing s before done with
  | nil => rfl
  | cons m rest ih =>
    rw [State.massAdmit]
    split
    · next s' m' hm =>
      split at hm
      · cases hm
      · exact (ih _ _ _).trans (State.massStep_mem s m _ hm)
    · exact ih _ _ _

@[simp] theorem State.judgeSem_mem (s : State) (k : BKey) (j n : Nat) : (s.judgeSem k j n).mem = s.mem := by
  fun_cases State.judgeSem s k j n <;> simp

@[simp] theorem State.changeSem_mem (s : State) (k : BKey) (j n : Nat) (f : Sem → Sem) :
    (s.changeSem k j n f).mem = s.mem := by
  simp [State.changeSem]

@[simp] theorem State.completeBar_mem (s : State) (k : BKey) (j n : Nat) : (s.completeBar k j n).mem = s.mem := by
  fun_cases State.completeBar s k j n <;> simp

@[simp] theorem State.completeBars_mem (s : State) (k : BKey) (l : List (Nat × Nat)) :
    (s.completeBars k l).mem = s.mem := by
  fun_induction State.completeBars s k l <;> simp [*]

@[simp] theorem State.completeBlocks_mem (s : State) (l : List Block) : (s.completeBlocks l).mem = s.mem := by
  fun_induction State.completeBlocks s l <;> simp [*]

@[simp] theorem State.endBarriers_mem (s : State) : (s.endBarriers).mem = s.mem := by simp [State.endBarriers]

@[simp] theorem State.setJoin_mem (s : State) (die slot : Nat) (x : JoinSlot) : (s.setJoin die slot x).mem = s.mem :=
  rfl

@[simp] theorem State.releaseJoin_mem (s : State) (die slot : Nat) : (s.releaseJoin die slot).mem = s.mem := by
  fun_cases State.releaseJoin s die slot <;> simp

@[simp] theorem State.postTo_mem (s : State) (tell : AckTo) (cause taddr detail : Nat) :
    (s.postTo tell cause taddr detail).mem = s.mem := by
  fun_cases State.postTo s tell cause taddr detail <;> simp

@[simp] theorem State.applySignal_mem (s : State) (tell : AckTo) (x : Signal) :
    (s.applySignal tell x).mem = s.mem := by
  unfold State.applySignal
  split
  · split <;> simp
  · simp
  · simp
  · simp
  · simp
  · simp
  · dsimp only
    split <;> simp
  · dsimp only
    split <;> simp
  · dsimp only
    split_ifs <;> simp
  · rfl

@[simp] theorem State.finishOp_mem (s : State) (tell : AckTo) : (s.finishOp tell).mem = s.mem := by
  fun_cases State.finishOp s tell <;> simp

@[simp] theorem signalApplyStep_mem (i : Nat) (s : State) : (signalApplyStep i s).mem = s.mem := by
  fun_cases signalApplyStep i s <;> simp

@[simp] theorem waitBody_mem (f : XsF) (s : State) : Answers (fun t => t.mem = s.mem) (waitBody f s) := by
  simp [waitBody]

@[simp] theorem State.syncPop_mem (s : State) (sp : SyncSpec) (f : XsF) : (s.syncPop sp f).mem = s.mem := by
  fun_cases State.syncPop s sp f <;> simp

@[simp] theorem State.postSignal_mem (s : State) (i : Instr) (f : XsF) (join : Bool) (x : Signal) :
    (s.postSignal i f join x).mem = s.mem :=
  rfl

/-- A synchronisation form leaves memory as it is where its act does. -/
theorem syncBody_mem (sp : SyncSpec) (f : XsF) (act : State → Nat → Nat → R State) (s : State)
    (hact : ∀ u a b, Answers (fun t => t.mem = u.mem) (act u a b)) :
    Answers (fun t => t.mem = s.mem) (syncBody sp f act s) := by
  unfold syncBody
  refine .bind fun x => ?_
  split
  · simp
  · split
    · trivial
    · exact .bind fun _ => (hact _ _ _).mono fun t ht => by simp [ht]

@[simp] theorem signalBody_mem (i : Instr) (sp : SyncSpec) (f : XsF) (mk : State → Nat → Nat → R Signal) (s : State) :
    Answers (fun t => t.mem = s.mem) (signalBody i sp f mk s) := by
  unfold signalBody
  dsimp only
  split
  all_goals
    exact .bind fun _ => syncBody_mem _ _ _ _ fun u a b => by simp

@[simp] theorem State.waitDone_mem (s : State) (words : Nat) : (s.waitDone words).mem = s.mem := by
  simp [State.waitDone]

@[simp] theorem State.park_mem (s : State) (p : Park) : (s.park p).mem = s.mem := rfl

@[simp] theorem semwaitBody_mem (f : XsF) (s : State) : Answers (fun t => t.mem = s.mem) (semwaitBody f s) :=
  syncBody_mem _ _ _ _ fun u a b => .bind fun x => .bind fun _ => by
    dsimp only
    split
    · rw [answers_ok]
      split <;> simp
    · rw [answers_ok]
      split <;> simp

@[simp] theorem barwaitBody_mem (f : XsF) (s : State) : Answers (fun t => t.mem = s.mem) (barwaitBody f s) :=
  syncBody_mem _ _ _ _ fun u a b => by simp

@[simp] theorem State.postEntry_mem (s : State) (i : Instr) (mask mode : Nat) (regs : List (List Word)) (dst : Dst) :
    (s.postEntry i mask mode regs dst).mem = s.mem :=
  rfl

@[simp] theorem mmaBody_mem (i : Instr) (pair : Bool) (f : XtF) (s : State) :
    Answers (fun t => t.mem = s.mem) (mmaBody i pair f s) := by
  simp [mmaBody]

/-- A tile-wide form leaves memory as it is where what it does with a lane active does (12 R260). -/
theorem tileWide_mem (f : XtF) (act : Nat) (s : State) (body : Nat → R State)
    (hbody : ∀ l, Answers (fun t => t.mem = s.mem) (body l)) :
    Answers (fun t => t.mem = s.mem) (tileWide f act s body) := by
  unfold tileWide
  split
  · simp
  · exact hbody _

@[simp] theorem mzeroBody_mem (f : XtF) (s : State) : Answers (fun t => t.mem = s.mem) (mzeroBody f s) := by
  unfold mzeroBody
  exact tileWide_mem _ _ _ _ fun l => by simp

@[simp] theorem mrdBody_mem (f : XtF) (s : State) : Answers (fun t => t.mem = s.mem) (mrdBody f s) := by
  simp [mrdBody]

@[simp] theorem mwrBody_mem (f : XtF) (s : State) : Answers (fun t => t.mem = s.mem) (mwrBody f s) := by
  simp [mwrBody]

@[simp] theorem moveBody_mem (i : Instr) (f : XtF) (s : State) :
    Answers (fun t => t.mem = s.mem) (moveBody i f s) := by
  unfold moveBody
  exact tileWide_mem _ _ _ _ fun l => by simp

@[simp] theorem msigBody_mem (f : XtF) (s : State) : Answers (fun t => t.mem = s.mem) (msigBody f s) := by
  unfold msigBody
  refine tileWide_mem _ _ _ _ fun l => .bind fun _ => .bind fun _ => .bind fun _ => ?_
  dsimp only
  split
  · trivial
  · split
    · trivial
    · simp

@[simp] theorem State.batchCommit_mem (s : State) (core slot : Nat) : (s.batchCommit core slot).mem = s.mem := by
  fun_cases State.batchCommit s core slot <;> simp

@[simp] theorem mfenceBody_mem (f : XtF) (s : State) : Answers (fun t => t.mem = s.mem) (mfenceBody f s) := by
  unfold mfenceBody
  exact tileWide_mem _ _ _ _ fun l => by simp

@[simp] theorem mwaitBody_mem (f : XtF) (s : State) : Answers (fun t => t.mem = s.mem) (mwaitBody f s) := by
  unfold mwaitBody
  exact tileWide_mem _ _ _ _ fun l => .bind fun _ => .bind fun _ => by
    rw [answers_ok]
    split <;> simp

@[simp] theorem State.modEntry_mem (s : State) (c id : Nat) (f : MEntry → MEntry) : (s.modEntry c id f).mem = s.mem :=
  rfl

@[simp] theorem State.entryDone_mem (s : State) (e : MEntry) (nan ovf : Nat) :
    (s.entryDone e nan ovf).mem = s.mem := by
  simp [State.entryDone]

@[simp] theorem State.commitEntry_mem (s : State) (c i : Nat) (e : MEntry) : (s.commitEntry c i e).mem = s.mem := by
  unfold State.commitEntry
  dsimp only
  split
  · simp
  · split <;> simp
  · simp

@[simp] theorem State.focus_mem (s : State) (core slot : Nat) (st : Stream) :
    ∀ u, s.focus core slot st = some u → u.mem = s.mem := by
  fun_cases State.focus s core slot st <;> simp

@[simp] theorem State.passTime_mem (s : State) (ns : Nat) : (s.passTime ns).mem = s.mem := rfl

/-! ## Frames: queues, edges, jobs, batches and blocks -/

@[simp] theorem State.modQueue_mem (s : State) (die node : Nat) (f : Queue → Queue) :
    (s.modQueue die node f).mem = s.mem :=
  rfl

@[simp] theorem State.resv_mem (s : State) (die node : Nat) (x : Int) : (s.resv die node x).mem = s.mem := rfl

@[simp] theorem State.reserveEdge_mem (s : State) (n t : Nat) (dies : List Nat) :
    ∀ u, s.reserveEdge n t dies = some u → u.mem = s.mem := by
  intro u hu
  exact (jobsKept_reserveEdge hu).dies.mem

@[simp] theorem State.takeCredits_mem (s : State) (die r : Nat) (es : List Edge) :
    ∀ u, s.takeCredits die r es = some u → u.mem = s.mem := by
  intro u hu
  exact (jobsKept_takeCredits hu).dies.mem

@[simp] theorem State.giveBack_mem (s : State) (n t : Nat) (dies : List Nat) : (s.giveBack n t dies).mem = s.mem := by
  fun_induction State.giveBack s n t dies <;> simp [*]

@[simp] theorem State.freeCredits_mem (s : State) (die : Nat) (deadline : Bool) (later : Nat)
    (es : List (Edge × Nat × Nat)) : (s.freeCredits die deadline later es).mem = s.mem :=
  (jobsKept_freeCredits s die deadline later es).dies.mem

@[simp] theorem State.recordDone_mem (s : State) (tell : AckTo) : (s.recordDone tell).mem = s.mem := by
  fun_cases State.recordDone s tell <;> simp

@[simp] theorem State.useEdge_mem (s : State) (k : BKey) (e n : Nat) : (s.useEdge k e n).mem = s.mem := rfl

@[simp] theorem State.queueOp_mem (s : State) (i : Instr) (c : OpCls) (left : Nat) (dst : Dst) :
    (s.queueOp i c left dst).mem = s.mem :=
  rfl

@[simp] theorem State.freeSidebands_mem (s : State) (die : Nat) (es : List QEntry) :
    (s.freeSidebands die es).mem = s.mem :=
  rfl

@[simp] theorem State.handOff_mem (s : State) (core : Nat) (es : List QEntry) : (s.handOff core es).mem = s.mem := by
  fun_cases State.handOff s core es <;> simp

@[simp] theorem State.pushSidebands_mem (s : State) (core : Nat) (es : List QEntry) :
    (s.pushSidebands core es).mem = s.mem := by
  simp [State.pushSidebands]

@[simp] theorem State.giveBackEdges_mem (s : State) (die r : Nat) (es : List Edge) :
    (s.giveBackEdges die r es).mem = s.mem := by
  fun_induction State.giveBackEdges s die r es <;> simp [*]

@[simp] theorem State.shrinkBatch_mem (s : State) (die : Nat) (n : Node) (id k : Nat) :
    (s.shrinkBatch die n id k).mem = s.mem :=
  (diesOnly_shrinkBatch s die n id k).mem

@[simp] theorem State.shrinkFor_mem (s : State) (die : Nat) (n : Node) (es : List QEntry) :
    (s.shrinkFor die n es).mem = s.mem :=
  (diesOnly_shrinkFor s die n es).mem

@[simp] theorem State.takeSome_mem (s : State) (node : Node) (es : List QEntry) (n : Nat) :
    (s.takeSome node es n).1.mem = s.mem :=
  (takeSome_takes s node es n).1.mem

@[simp] theorem State.consumeOut_mem (s : State) (f : XqF) (a b : Nat) : (s.consumeOut f a b).mem = s.mem := by
  fun_cases State.consumeOut s f a b <;> simp

@[simp] theorem State.framesTaken_mem (s : State) (recs : List (List Byte)) : (s.framesTaken recs).mem = s.mem := by
  rw [sensorsOnly_framesTaken s recs]

@[simp] theorem rnextBody_mem (f : XqF) (s : State) : Answers (fun t => t.mem = s.mem) (rnextBody f s) := by
  unfold rnextBody
  split <;> simp

@[simp] theorem State.sendLaunch_mem (s : State) (i : Instr) (f : XqF) (t g param e : Nat) (credit : Bool) :
    (s.sendLaunch i f t g param e credit).mem = s.mem :=
  rfl

@[simp] theorem State.sendEach_mem (s : State) (after : List Nat) (scope : Nat) (rs : List RecMsg) :
    (s.sendEach after scope rs).mem = s.mem := by
  fun_induction State.sendEach s after scope rs <;> simp [*]

@[simp] theorem State.sendRecords_mem (s : State) (i : Instr) (f : XqF) (t : Nat) (n : Node) (depth : Nat)
    (lanes : List Nat) : (s.sendRecords i f t n depth lanes).mem = s.mem := by
  unfold State.sendRecords
  dsimp only
  split <;> split <;> simp

@[simp] theorem State.enterJob_mem (s : State) (die : Nat) (j : Job) : (s.enterJob die j).mem = s.mem := rfl

/-- A job form's body that succeeds has entered its job. -/
theorem jobBody_enters (i : Instr) (coll : Option Nat) (f : XqF) (s : State) :
    Answers (fun t => t = jobEntered i coll f s) (jobBody i coll f s) := by
  rcases hready : s.leadReady (((List.range 8).map (fun k => f.a9.toNat + k)).map LeadIx.s) [] with x | _
  · rw [jobBody, hready]; trivial
  by_cases hroom : s.w.counter .leadCp < 15
  · by_cases hfree : (s.die s.myDie).jobs.length < 1024
    · rcases hreg : s.sregCheck ((List.range 8).map (fun k => f.a9.toNat + k)) with x | _
      · rw [jobBody, hready, State.counterRoom_of_lt (c := .leadCp) hroom, hreg]
        exact .ite trivial trivial
      · cases hbad : jobBad coll f s with
        | true => rw [jobBody_bad hready hroom hfree hreg hbad]; trivial
        | false =>
          rw [jobBody_good hready hroom hfree hreg hbad]
          cases jobCheck coll f s <;> trivial
    · have hfull : s.tableFull s.myDie = true := by simp [State.tableFull, jobMax]; omega
      rw [jobBody, hready, State.counterRoom_of_lt (c := .leadCp) hroom]
      exact cast (congrArg _ (if_pos hfull).symm) trivial
  · rw [jobBody, hready, State.counterRoom, if_pos (by simpa [OpCls.max] using hroom)]; trivial

@[simp] theorem jobBody_mem (i : Instr) (coll : Option Nat) (f : XqF) (s : State) :
    Answers (fun t => t.mem = s.mem) (jobBody i coll f s) :=
  (jobBody_enters i coll f s).mono fun t ht => by simp [ht, jobEntered]

@[simp] theorem State.scratchPut_mem (s : State) (k : BKey) (o : Nat) (bs : List Byte) (cores : List Nat) :
    (s.scratchPut k o bs cores).mem = s.mem := by
  fun_induction State.scratchPut s k o bs cores <;> simp [*]

@[simp] theorem State.modJob_mem (s : State) (die id : Nat) (f : Job → Job) : (s.modJob die id f).mem = s.mem := rfl

@[simp] theorem State.reportMiss_mem (s : State) (va kind node core : Nat) :
    (s.reportMiss va kind node core).mem = s.mem := by
  fun_cases State.reportMiss s va kind node core <;> simp

@[simp] theorem State.jobStopped_mem (s : State) (die : Nat) (j : Job) (x : JobStop) :
    (s.jobStopped die j x).mem = s.mem := by
  fun_cases State.jobStopped s die j x <;> simp

@[simp] theorem State.applyComp_mem (s : State) (j : Job) : (s.applyComp j).mem = s.mem := by
  fun_cases State.applyComp s j <;> simp

@[simp] theorem State.nodeOutput_mem (s : State) (die node edge : Nat) (recs : List (List Byte)) :
    (s.nodeOutput die node edge recs).mem = s.mem := by
  unfold State.nodeOutput
  split
  · rfl
  · refine (State.freeCredits_mem _ _ _ _ _).trans ?_
    split <;> split <;> rfl

@[simp] theorem State.enterNodeJob_mem (s : State) (die node jobid srck : Nat) (kind : JobKind)
    (regions : List Region) (bad : Bool) : (s.enterNodeJob die node jobid srck kind regions bad).mem = s.mem :=
  rfl

@[simp] theorem State.handOffs_mem (s : State) (n : Node) (recs : List QEntry) (q : Nat) (cores : List (Nat × Nat)) :
    (s.handOffs n recs q cores).mem = s.mem := by
  fun_induction State.handOffs s n recs q cores <;> simp [*]

@[simp] theorem State.newKeys_mem (s : State) (node cnt : Nat) : (s.newKeys node cnt).1.mem = s.mem := by
  fun_cases State.newKeys s node cnt <;> simp

@[simp] theorem State.closeGrid_mem (s : State) (die node : Nat) (n : Node) : (s.closeGrid die node n).mem = s.mem :=
  rfl

@[simp] theorem State.closeRecords_mem (s : State) (die node : Nat) (n : Node) (k : Nat) :
    (s.closeRecords die node n k).mem = s.mem := by
  fun_cases State.closeRecords s die node n k with
  | case1 => rfl
  | case2 _ _ _ _ t _ hkeys =>
    exact (congrArg (fun p => p.1.mem) hkeys).symm.trans (State.newKeys_mem s node n.group)

@[simp] theorem State.closeRanges_mem (s : State) (die node : Nat) (n : Node) (k fuel : Nat) :
    (s.closeRanges die node n k fuel).mem = s.mem := by
  induction fuel generalizing s k with
  | zero => rfl
  | succ fuel ih =>
    rw [State.closeRanges]
    split
    · rfl
    · simp [ih]

@[simp] theorem State.closeNow_mem (s : State) (die node : Nat) (n : Node) : (s.closeNow die node n).mem = s.mem := by
  fun_cases State.closeNow s die node n <;> simp

@[simp] theorem batchCloseStep_mem (die node : Nat) (s : State) : (batchCloseStep die node s).mem = s.mem := by
  fun_cases batchCloseStep die node s <;> simp

@[simp] theorem batchMaxwaitStep_mem (die node : Nat) (s : State) : (batchMaxwaitStep die node s).mem = s.mem := by
  fun_cases batchMaxwaitStep die node s <;> simp

@[simp] theorem State.modBatch_mem (s : State) (die id : Nat) (f : Batch → Batch) :
    (s.modBatch die id f).mem = s.mem :=
  rfl

@[simp] theorem State.admitted_mem (s : State) (die : Nat) (b : Batch) :
    ∀ u, s.admitted die b = some u → u.mem = s.mem := by
  unfold State.admitted
  split
  · split_ifs
    · simp
    · rintro t ⟨⟩; simp
    · simp only [Option.map_eq_some_iff]
      rintro t ⟨u, hu, rfl⟩
      simp [State.takeCredits_mem _ _ _ _ u hu]
  · simp

/-- What an attempt leaves of memory, where what stands in its place when it fails leaves the same. -/
theorem getD_mem {o : Option State} {s : State} (h : ∀ t, o = some t → t.mem = s.mem) : (o.getD s).mem = s.mem := by
  cases o with
  | none => rfl
  | some t => exact h t rfl

@[simp] theorem batchAdmitStep_mem (i : Nat) (s : State) : (batchAdmitStep i s).mem = s.mem := by
  unfold batchAdmitStep
  split
  · rfl
  · split
    · rfl
    · exact getD_mem (State.admitted_mem s _ _)

@[simp] theorem State.gridNext_mem (s : State) (die : Nat) (n : Node) (b : Batch) (g : Grid) :
    (s.gridNext die n b g).mem = s.mem := by
  fun_cases State.gridNext s die n b g <;> simp

@[simp] theorem State.stopBlock_mem (s : State) (k : BKey) (faulted : Bool) (image : Option Nat) :
    (s.stopBlock k faulted image).mem = s.mem :=
  rfl

@[simp] theorem stealCheckStep_mem (die node : Nat) (s : State) : (stealCheckStep die node s).mem = s.mem := by
  unfold stealCheckStep
  split
  · dsimp only
    split <;> simp
  · rfl

@[simp] theorem State.appendStolen_mem (s : State) (die node : Nat) (es : List QEntry) :
    (s.appendStolen die node es).mem = s.mem := by
  induction es generalizing s with
  | nil => rfl
  | cons x rest ih =>
    rw [State.appendStolen]
    exact (ih _).trans (by simp)

@[simp] theorem stealArrivalStep_mem (i : Nat) (s : State) : (stealArrivalStep i s).mem = s.mem := by
  fun_cases stealArrivalStep i s <;> simp

/-! ## Frames: answers of the homes, waits, saves and nodes -/

@[simp] theorem State.answerLoad_mem (s : State) (r : Req) (parts : List (Nat × Nat × Nat)) (fill : Bool) :
    (s.answerLoad r parts fill).mem = s.mem := by
  unfold State.answerLoad
  dsimp only
  split_ifs <;> simp

@[simp] theorem homeLoadStep_mem (i : Nat) (s : State) : (homeLoadStep i s).mem = s.mem := by
  fun_cases homeLoadStep i s <;> simp

@[simp] theorem State.install_mem (s : State) (core line : Nat) (data : List Byte) (drop : Bool) :
    ∀ u, s.install core line data drop = some u → u.mem = s.mem := by
  unfold State.install
  split
  · rintro t ⟨⟩; rfl
  · simp only [Option.map_eq_some_iff]
    rintro t ⟨u, hu, rfl⟩
    simp [State.makeRoom_mem s core u hu]

@[simp] theorem fillReceiveStep_mem (i : Nat) (s : State) : (fillReceiveStep i s).mem = s.mem := by
  unfold fillReceiveStep
  split
  · rfl
  · split
    · exact getD_mem fun t ht => (State.install_mem _ _ _ _ _ t ht).trans (by simp)
    · rfl

@[simp] theorem updateReceiveStep_mem (i : Nat) (s : State) : (updateReceiveStep i s).mem = s.mem := by
  unfold updateReceiveStep
  split
  · rfl
  · split
    · dsimp only
      split <;> simp
    · rfl

@[simp] theorem State.ackWave_mem (s : State) (core slot id : Nat) (all : Bool) :
    (s.ackWave core slot id all).mem = s.mem := by
  unfold State.ackWave
  dsimp only
  split
  · simp
  · split
    · simp
    · split
      · split <;> simp
      · split <;> simp
      · simp

@[simp] theorem storeAckStep_mem (i : Nat) (s : State) : (storeAckStep i s).mem = s.mem := by
  unfold storeAckStep
  split
  · rfl
  · split
    · dsimp only
      split
      · simp
      · simp
      · split <;> rfl
      · rfl
      · rfl
    · rfl

@[simp] theorem loadReturnStep_mem (i : Nat) (s : State) : (loadReturnStep i s).mem = s.mem := by
  unfold loadReturnStep
  split
  · rfl
  · split
    · simp
    · rfl

@[simp] theorem lqFillStep_mem (c slot : Nat) (s : State) : (lqFillStep c slot s).mem = s.mem := by
  fun_cases lqFillStep c slot s <;> simp

@[simp] theorem State.pushIn_mem (s : State) (core line : Nat) (data : List Byte) (ack : Nat) :
    ∀ u, s.pushIn core line data ack = some u → u.mem = s.mem := by
  intro u hu
  unfold State.pushIn at hu
  dsimp only at hu
  split at hu
  · cases hu
    split <;> simp
  · split at hu
    · cases hu
      simp
    · obtain ⟨v, hv, rfl⟩ := Option.map_eq_some_iff.1 hu
      simp [State.makeRoom_mem s core v hv]

@[simp] theorem pushReceiveStep_mem (i : Nat) (s : State) : (pushReceiveStep i s).mem = s.mem := by
  unfold pushReceiveStep
  split
  · rfl
  · split
    · exact getD_mem fun t ht => (State.pushIn_mem _ _ _ _ _ t ht).trans (by simp)
    · rfl

@[simp] theorem pushReplyStep_mem (i : Nat) (s : State) : (pushReplyStep i s).mem = s.mem := by
  unfold pushReplyStep
  split
  · rfl
  · split
    · split
      · rfl
      · dsimp only
        split <;> simp
    · rfl

@[simp] theorem deregistrationStep_mem (i : Nat) (s : State) : (deregistrationStep i s).mem = s.mem := by
  fun_cases deregistrationStep i s <;> simp

@[simp] theorem rangeOpenNoticeStep_mem (i : Nat) (s : State) : (rangeOpenNoticeStep i s).mem = s.mem := by
  fun_cases rangeOpenNoticeStep i s <;> simp

@[simp] theorem rangeNoticeReplyStep_mem (i : Nat) (s : State) : (rangeNoticeReplyStep i s).mem = s.mem := by
  fun_cases rangeNoticeReplyStep i s <;> simp

@[simp] theorem holderRegisterStep_mem (i : Nat) (s : State) : (holderRegisterStep i s).mem = s.mem := by
  fun_cases holderRegisterStep i s <;> simp

@[simp] theorem evictedPartialStep_mem (i : Nat) (s : State) : (evictedPartialStep i s).mem = s.mem := by
  fun_cases evictedPartialStep i s <;> simp

@[simp] theorem foldProbeStep_mem (i : Nat) (s : State) : (foldProbeStep i s).mem = s.mem := by
  fun_cases foldProbeStep i s <;> simp

@[simp] theorem State.answerFolded_mem (s : State) (ids : List Nat) : (s.answerFolded ids).mem = s.mem := by
  induction ids generalizing s with
  | nil => rfl
  | cons id rest ih =>
    rw [State.answerFolded]
    refine (ih _).trans ?_
    split
    · split <;> simp
    · rfl

@[simp] theorem State.startMigration_mem (s : State) (die page : Nat) : (s.startMigration die page).mem = s.mem :=
  rfl

@[simp] theorem remoteWriteCountStep_mem (die page : Nat) (s : State) :
    (remoteWriteCountStep die page s).mem = s.mem := by
  unfold remoteWriteCountStep
  dsimp only
  split_ifs <;> simp

@[simp] theorem migrationForwardStep_mem (i : Nat) (s : State) : (migrationForwardStep i s).mem = s.mem := by
  fun_cases migrationForwardStep i s <;> simp

@[simp] theorem State.installDir_mem (s : State) (es : List (Nat × DirEntry)) : (s.installDir es).mem = s.mem := by
  fun_induction State.installDir s es <;> simp [*]

@[simp] theorem migrationInstallStep_mem (i : Nat) (s : State) : (migrationInstallStep i s).mem = s.mem := by
  fun_cases migrationInstallStep i s <;> simp

@[simp] theorem pointerRetireStep_mem (page : Nat) (s : State) : (pointerRetireStep page s).mem = s.mem := by
  unfold pointerRetireStep
  split
  · rfl
  · dsimp only
    split_ifs <;> simp

@[simp] theorem pageWalkStep_mem (die va : Nat) (s : State) : (pageWalkStep die va s).mem = s.mem := by
  fun_cases pageWalkStep die va s <;> simp

@[simp] theorem State.dropWaves_mem (s : State) (k : BKey) : (s.dropWaves k).mem = s.mem := by
  unfold State.dropWaves
  dsimp only
  split
  · exact getD_mem (State.focus_mem s _ _ _)
  · rfl

@[simp] theorem State.blockCredits_mem (s : State) (b : Block) : (s.blockCredits b).mem = s.mem := by
  fun_cases State.blockCredits s b <;> simp

@[simp] theorem State.gridDone_mem (s : State) (b : Block) : (s.gridDone b).mem = s.mem := by
  fun_cases State.gridDone s b <;> simp

@[simp] theorem State.postTrap_mem (s : State) (c slot : Nat) (t : Trap) : (s.postTrap c slot t).mem = s.mem := by
  simp [State.postTrap]

@[simp] theorem State.endFault_mem (s : State) (w : Wave) (d : Deferred) : (s.endFault w d).mem = s.mem := by
  simp [State.endFault]

@[simp] theorem promoteStep_mem (cls limit c slot : Nat) (s : State) :
    (promoteStep cls limit c slot s).mem = s.mem := by
  simp [promoteStep]

@[simp] theorem State.peek_mem (s : State) (c slot : Nat) (st : Stream) :
    ∀ u, s.peek c slot st = some u → u.1.mem = s.mem := by
  unfold State.peek
  split
  · simp
  · next u hu =>
    split
    · simp
    · split
      · rintro t ⟨⟩; exact State.focus_mem s _ _ _ u hu
      · simp

@[simp] theorem State.faultAt_mem (s : State) (c slot : Nat) (st : Stream) (cause detail : Nat) :
    (s.faultAt c slot st cause detail).mem = s.mem := by
  fun_cases State.faultAt s c slot st cause detail <;> simp

@[simp] theorem couplingDeadlockStep_mem (c slot : Nat) (s : State) :
    (couplingDeadlockStep c slot s).mem = s.mem := by
  fun_cases couplingDeadlockStep c slot s <;> simp

@[simp] theorem waitLimitStep_mem (c slot : Nat) (s : State) : (waitLimitStep c slot s).mem = s.mem := by
  unfold waitLimitStep
  split
  · rfl
  · split
    · split
      · split <;> simp
      · rfl
    · rfl

@[simp] theorem State.leaveWaits_mem (s : State) (l : List Wave) : (s.leaveWaits l).mem = s.mem := by
  induction l generalizing s with
  | nil => rfl
  | cons x rest ih => exact (ih _).trans (by simp)

@[simp] theorem State.abandon_mem (s : State) (k : BKey) (cores : List Nat) : (s.abandon k cores).mem = s.mem := by
  fun_induction State.abandon s k cores <;> simp [*]

@[simp] theorem State.freeImage_mem (s : State) (die image : Nat) : (s.freeImage die image).mem = s.mem := rfl

@[simp] theorem State.reissueLq_mem (s : State) (e : LqEntry) : Answers (fun t => t.mem = s.mem) (s.reissueLq e) := by
  simp [State.reissueLq]

@[simp] theorem State.reissueAll_mem (s : State) (es : List LqEntry) :
    Answers (fun t => t.mem = s.mem) (s.reissueAll es) := by
  induction es generalizing s with
  | nil => simp [State.reissueAll]
  | cons e rest ih =>
    rw [State.reissueAll]
    split
    · next u hu => exact (ih _).mono fun t ht => ht.trans ((State.reissueLq_mem s e).of_ok hu)
    · simp

@[simp] theorem State.reissueWaves_mem (s : State) (l : List Wave) :
    Answers (fun t => t.mem = s.mem) (s.reissueWaves l) := by
  induction l generalizing s with
  | nil => simp [State.reissueWaves]
  | cons w rest ih =>
    rw [State.reissueWaves]
    split
    · exact ih s
    · next u hu =>
      dsimp only
      split
      · next v hv =>
        have hmem := (State.reissueAll_mem _ _).of_ok hv
        exact (ih _).mono fun t ht => by simp [ht, hmem, State.focus_mem s _ _ _ u hu]
      · simp

@[simp] theorem State.repost_mem (s : State) (key : BKey) (old : List SavedWave) (es : List MEntry) :
    (s.repost key old es).mem = s.mem := by
  fun_induction State.repost s key old es <;> simp [*]

@[simp] theorem State.judgeBar_mem (s : State) (k : BKey) (j n : Nat) : (s.judgeBar k j n).mem = s.mem := by
  fun_cases State.judgeBar s k j n <;> simp

@[simp] theorem State.judgeBlock_mem (s : State) (k : BKey) (objs : List (Nat × Nat)) :
    (s.judgeBlock k objs).mem = s.mem := by
  fun_induction State.judgeBlock s k objs <;> simp [*]

@[simp] theorem State.onlyReposted_mem (s : State) (key : BKey) (es : List MEntry) :
    (s.onlyReposted key es).mem = s.mem :=
  rfl

@[simp] theorem State.rayWaits_mem (s : State) (die node : Nat) (x : Option RayWait) :
    (s.rayWaits die node x).mem = s.mem :=
  rfl

@[simp] theorem State.foldEach_mem (s : State) (ls : List Nat) : (s.foldEach ls).mem = s.mem := by
  fun_induction State.foldEach s ls <;> simp [*]

@[simp] theorem State.headReads_mem (s : State) (head : Nat) : (s.headReads head).mem = s.mem := by
  fun_cases State.headReads s head <;> simp

@[simp] theorem bodyFclass_mem (s : State) (words : Nat) (sp : XaSpec) (f : XaF) :
    Answers (fun t => t.mem = s.mem) (bodyFclass s words sp f) := by
  simp [bodyFclass]

@[simp] theorem bodyDot4d8_mem (s : State) (words : Nat) (sp : XaSpec) (f : XaF) :
    Answers (fun t => t.mem = s.mem) (bodyDot4d8 s words sp f) := by
  simp [bodyDot4d8]

@[simp] theorem bodyRetired_mem (s : State) (words : Nat) (sp : XaSpec) (f : XaF) :
    Answers (fun t => t.mem = s.mem) (bodyRetired s words sp f) := by
  exact trivial

@[simp] theorem bodyMovrel_mem (s : State) (words : Nat) (sp : XaSpec) (f : XaF) :
    Answers (fun t => t.mem = s.mem) (bodyMovrel s words sp f) := by
  simp [bodyMovrel]

@[simp] theorem bodyMovrelw_mem (s : State) (words : Nat) (sp : XaSpec) (f : XaF) :
    Answers (fun t => t.mem = s.mem) (bodyMovrelw s words sp f) := by
  simp [bodyMovrelw]

@[simp] theorem bodyGetexec_mem (s : State) (words : Nat) (sp : XaSpec) (f : XaF) :
    Answers (fun t => t.mem = s.mem) (bodyGetexec s words sp f) := by
  simp [bodyGetexec]

@[simp] theorem bodySetexec_mem (s : State) (words : Nat) (sp : XaSpec) (f : XaF) :
    Answers (fun t => t.mem = s.mem) (bodySetexec s words sp f) := by
  simp [bodySetexec]

@[simp] theorem bodyVrdl_mem (s : State) (words : Nat) (sp : XaSpec) (f : XaF) :
    Answers (fun t => t.mem = s.mem) (bodyVrdl s words sp f) := by
  simp [bodyVrdl]

@[simp] theorem bodyVwrl_mem (s : State) (words : Nat) (sp : XaSpec) (f : XaF) :
    Answers (fun t => t.mem = s.mem) (bodyVwrl s words sp f) := by
  simp [bodyVwrl]

/-! ## Frames: special registers, the host, commands and graphs -/

@[simp] theorem State.writeThrottle_mem (s : State) (g v : Nat) : (s.writeThrottle g v).mem = s.mem := rfl

@[simp] theorem State.writeTalert_mem (s : State) (v : Nat) : (s.writeTalert v).mem = s.mem := rfl

@[simp] theorem State.writeCbias_mem (s : State) (g v : Nat) : (s.writeCbias g v).mem = s.mem := rfl

@[simp] theorem State.writeCbmax_mem (s : State) (v : Nat) : (s.writeCbmax v).mem = s.mem := rfl

@[simp] theorem State.writeSr_mem (s : State) (n v : Nat) : (s.writeSr n v).mem = s.mem := by
  fun_cases State.writeSr s n v <;> simp [*]

@[simp] theorem State.leaveHandler_mem (s : State) (flanes : Nat) :
    Answers (fun t => t.mem = s.mem) (s.leaveHandler flanes) := by
  unfold State.leaveHandler
  split
  · simp
  · next u hu =>
    have hmem := (State.refill_mem s _).of_ok hu
    split
    · simp
    · split_ifs <;> simp [hmem]

@[simp] theorem State.mgmtReturn_mem (s : State) : (s.mgmtReturn).mem = s.mem := rfl

@[simp] theorem eretBody_mem (f : XsF) (s : State) : Answers (fun t => t.mem = s.mem) (eretBody f s) := by
  simp [eretBody]

@[simp] theorem rdsrBody_mem (f : XsF) (s : State) : Answers (fun t => t.mem = s.mem) (rdsrBody f s) := by
  unfold rdsrBody
  refine .bind fun v => ?_
  split
  · simp
  · dsimp only
    cases lowestLane (s.w.active f.kmask.toNat) s.w.lanes with
    | none => simp
    | some l =>
      dsimp only
      split <;> simp

@[simp] theorem wrsrBody_mem (f : XsF) (s : State) : Answers (fun t => t.mem = s.mem) (wrsrBody f s) := by
  unfold wrsrBody
  dsimp only
  generalize (if s.w.mgmt then _ else _ : Bool) = may
  split
  · trivial
  · cases s.st with
    | lead => simp
    | lane =>
      dsimp only
      cases lowestLane (s.w.active f.kmask.toNat) s.w.lanes with
      | none => simp
      | some l => simp

@[simp] theorem rdleadBody_mem (f : XsF) (s : State) : Answers (fun t => t.mem = s.mem) (rdleadBody f s) := by
  fun_cases rdleadBody f s <;> simp

@[simp] theorem wrleadBody_mem (f : XsF) (s : State) : Answers (fun t => t.mem = s.mem) (wrleadBody f s) := by
  fun_cases wrleadBody f s <;> simp

@[simp] theorem yieldBody_mem (f : XsF) (s : State) : Answers (fun t => t.mem = s.mem) (yieldBody f s) := by
  simp [yieldBody]

@[simp] theorem sleepBody_mem (f : XsF) (s : State) : Answers (fun t => t.mem = s.mem) (sleepBody f s) := by
  fun_cases sleepBody f s <;> simp

@[simp] theorem State.raiseMsix_mem (s : State) (v : Nat) : (s.raiseMsix v).mem = s.mem := rfl

@[simp] theorem State.raiseInt_mem (s : State) (src : Nat) : (s.raiseInt src).mem = s.mem := rfl

@[simp] theorem State.logArray_mem (s : State) (lo : Nat) : (s.logArray lo).mem = s.mem := rfl

@[simp] theorem State.logXfer_mem (s : State) (lo : Nat) : (s.logXfer lo).mem = s.mem := rfl

@[simp] theorem State.poison_mem (s : State) (line : Nat) : (s.poison line).mem = s.mem := rfl

@[simp] theorem homeMissFillStep_mem (line : Nat) (ecc : EccOutcome) (s : State) :
    (homeMissFillStep line ecc s).mem = s.mem := by
  fun_cases homeMissFillStep line ecc s <;> simp

@[simp] theorem burstParityStep_mem (line : Nat) (e : BurstError) (s : State) :
    (burstParityStep line e s).mem = s.mem := by
  fun_cases burstParityStep line e s <;> simp

@[simp] theorem State.shed_mem (s : State) (die : Nat) : (s.shed die).mem = s.mem := by
  fun_cases State.shed s die <;> simp

@[simp] theorem State.poisonPartial_mem (s : State) (line : Nat) : (s.poisonPartial line).mem = s.mem := by
  unfold State.poisonPartial
  split <;> simp

@[simp] theorem State.poisonPartials_mem (s : State) (ls : List Nat) : (s.poisonPartials ls).mem = s.mem := by
  fun_induction State.poisonPartials s ls <;> simp [*]

@[simp] theorem State.stopWaiting_mem (s : State) (c : Nat) (ids : List Nat) : (s.stopWaiting c ids).mem = s.mem := by
  fun_induction State.stopWaiting s c ids <;> simp [*]

@[simp] theorem State.bar0Put_mem (s : State) (off : Nat) (bs : List Byte) : (s.bar0Put off bs).mem = s.mem := rfl

@[simp] theorem faultRecordWriteStep_mem (s : State) : (faultRecordWriteStep s).mem = s.mem := by
  fun_cases faultRecordWriteStep s <;> simp

@[simp] theorem State.modSensor_mem (s : State) (k : Nat) (f : Sensor → Sensor) : (s.modSensor k f).mem = s.mem :=
  rfl

@[simp] theorem State.frameOut_mem (s : State) (k : Nat) (bs : List Byte) :
    ∀ u, s.frameOut k bs = some u → u.1.mem = s.mem := by
  unfold State.frameOut
  split
  · rintro t ⟨⟩; rfl
  · split
    · next u hu =>
      rintro t ⟨⟩
      split at hu
      · cases hu; simp
      · simp [State.takeCredits_mem _ _ _ _ u hu]
    · simp

@[simp] theorem sensorDoneStep_mem (k w n : Nat) (s : State) : (sensorDoneStep k w n s).mem = s.mem := by
  unfold sensorDoneStep
  dsimp only
  split_ifs
  · rfl
  · simp
  · rfl
  · split
    · rfl
    · next u m hu => simpa using State.frameOut_mem s _ _ _ hu

@[simp] theorem sensorArrivalStep_mem (k : Nat) (s : State) : (sensorArrivalStep k s).mem = s.mem := by
  unfold sensorArrivalStep
  dsimp only
  split
  · rfl
  · split
    · rfl
    · split <;> simp

@[simp] theorem State.biasAll_mem (s : State) (v : Nat) (gs : List Nat) : (s.biasAll v gs).mem = s.mem := by
  fun_induction State.biasAll s v gs <;> simp [*]

@[simp] theorem State.setSaddle_mem (s : State) (v : Nat) : (s.setSaddle v).mem = s.mem := by
  fun_cases State.setSaddle s v <;> simp

@[simp] theorem State.extend_mem (s : State) (r : Nat) (digest : List Byte) : (s.extend r digest).mem = s.mem := rfl

@[simp] theorem bodyQscale_mem (s : State) (words : Nat) (sp : XaSpec) (f : XaF) :
    Answers (fun t => t.mem = s.mem) (bodyQscale s words sp f) := by
  simp [bodyQscale]

@[simp] theorem bodyBcast_mem (s : State) (words : Nat) (sp : XaSpec) (f : XaF) :
    Answers (fun t => t.mem = s.mem) (bodyBcast s words sp f) := by
  simp [bodyBcast]

@[simp] theorem bodyVote_mem (s : State) (words : Nat) (sp : XaSpec) (f : XaF) :
    Answers (fun t => t.mem = s.mem) (bodyVote s words sp f) := by
  unfold bodyVote
  split
  · simp
  · next t ht =>
    split
    · simp
    · exact (State.laneForm_mem s _ _ _ _ _).of_ok ht

@[simp] theorem bodyCx_mem (s : State) (words : Nat) (sp : XaSpec) (f : XaF) :
    Answers (fun t => t.mem = s.mem) (bodyCx s words sp f) := by
  unfold bodyCx
  split
  · simp
  · next t ht => simpa using (State.laneForm_mem s _ _ _ _ _).of_ok ht

@[simp] theorem State.setContext_mem (s : State) (x : Option Context) : (s.setContext x).mem = s.mem := rfl

@[simp] theorem State.clearTlbs_mem (s : State) : (s.clearTlbs).mem = s.mem := rfl

@[simp] theorem State.bring_mem (s : State) (x : Context) : (s.bring x).mem = s.mem := rfl

@[simp] theorem State.addGraph_mem (s : State) (g : Graph) (qs : List (List Queue)) :
    (s.addGraph g qs).mem = s.mem := by
  fun_cases State.addGraph s g qs <;> simp

@[simp] theorem State.modGraph_mem (s : State) (f : Graph → Graph) : (s.modGraph f).mem = s.mem := rfl

@[simp] theorem State.firstBatches_mem (s : State) (l : List (Node × Nat)) : (s.firstBatches l).mem = s.mem := by
  induction l generalizing s with
  | nil => rfl
  | cons x rest ih =>
    rw [State.firstBatches]
    split
    · exact ih s
    · simp [ih]

@[simp] theorem State.freeFaulted_mem (s : State) (l : List Block) : (s.freeFaulted l).mem = s.mem := by
  fun_induction State.freeFaulted s l <;> simp [*]

@[simp] theorem State.vacate_mem (s : State) (l : List Block) : (s.vacate l).mem = s.mem := by
  fun_induction State.vacate s l <;> simp [*]

@[simp] theorem State.saveAll_mem (s : State) (at_ : Nat) (l : List Block) : (s.saveAll at_ l).mem = s.mem := by
  fun_induction State.saveAll s at_ l <;> simp [*]

@[simp] theorem State.emptyL1s_mem (s : State) : (s.emptyL1s).mem = s.mem := rfl

@[simp] theorem State.putAway_mem (s : State) (running : Bool) : (s.putAway running).mem = s.mem := rfl

@[simp] theorem State.takeIn_mem (s : State) (x : Context) : (s.takeIn x).mem = s.mem := rfl

@[simp] theorem State.mapWaves_mem (s : State) (f : Wave → Wave) : (s.mapWaves f).mem = s.mem := rfl

@[simp] theorem State.pagesMapped_mem (s : State) (va n : Nat) : (s.pagesMapped va n).mem = s.mem := rfl

/-- An attempt in whose place, when it fails, the state itself stands, for any property of memory. -/
theorem getD_mem_of {P : List Host.Cell → Prop} {o : Option State} {s : State} (hs : P s.mem)
    (h : ∀ t, o = some t → P t.mem) : P (o.getD s).mem := by
  cases o with
  | none => exact hs
  | some t => exact h t rfl

/-- What acts on a graph keeps a property of memory where the act does: switching to the other graph touches no
memory. -/
theorem onGraph_mem_of (P : List Host.Cell → Prop) {s : State} (id : Nat) (f : State → State)
    (hf : ∀ u, P u.mem → P (f u).mem) (hs : P s.mem) : ∀ u, s.onGraph id f = some u → P u.mem := by
  unfold State.onGraph
  split
  · rintro u ⟨⟩; exact hf s hs
  · split
    · rintro u ⟨⟩
    · next x _ =>
      rintro u ⟨⟩
      have hfocus : ((s.focus 192 0 .lead).getD s).mem = s.mem := getD_mem (State.focus_mem s _ _ _)
      exact hf _ (by simpa [State.setContext] using hfocus ▸ hs)

@[simp] theorem State.reportMapped_mem (s : State) (c : Nat) : (s.reportMapped c).mem = s.mem := by
  unfold State.reportMapped
  dsimp only
  split
  · exact getD_mem (onGraph_mem_of (· = s.mem) _ _ (fun u hu => by simp [hu]) rfl)
  · rfl

@[simp] theorem State.pageRefused_mem (s : State) (page : Nat) : (s.pageRefused page).mem = s.mem := rfl

@[simp] theorem State.bootRom_mem (s : State) : (s.bootRom).mem = s.mem := by
  unfold State.bootRom
  dsimp only
  split <;> simp

@[simp] theorem thermalSampleStep_mem (g t : Nat) (s : State) : (thermalSampleStep g t s).mem = s.mem := by
  unfold thermalSampleStep
  dsimp only
  split
  · split <;> simp
  · rfl

@[simp] theorem State.thermalHandler_mem (s : State) : (s.thermalHandler).mem = s.mem := by
  fun_cases State.thermalHandler s <;> simp

@[simp] theorem State.endWaves_mem (s : State) (g : Nat) (l : List Wave) : (s.endWaves g l).mem = s.mem := by
  fun_induction State.endWaves s g l <;> simp [*]

@[simp] theorem State.endCounts_mem (s : State) (g : Nat) : (s.endCounts g).mem = s.mem := rfl

@[simp] theorem chargeBucketRefillStep_mem (g : Nat) (s : State) : (chargeBucketRefillStep g s).mem = s.mem := by
  unfold chargeBucketRefillStep
  dsimp only
  split
  · split <;> simp
  · rfl

@[simp] theorem State.uncounted_mem (s : State) : (s.uncounted).mem = s.mem := rfl

end Sys2Proof.Machine
end

section
/-! THE CANONICAL FORM OF MEMORY (entry 2) over the functions that write it: each writes through `memWrite`,
`putBytes` or a
cleared range, which keep the form (Laws/Memory), so it leaves a canonical memory where it finds one. -/
namespace Sys2Proof.Machine

/-! ## Writes: spilled frames and traps -/

/-- The canonical form passes to a state with the same memory. -/
theorem wf_of_mem {s t : State} (he : t.mem = s.mem) (h : Memory.wf s.mem = true) : Memory.wf t.mem = true := by
  rwa [he]

@[simp] theorem State.poke_wf (s : State) (a n v : Nat) (h : Memory.wf s.mem = true) :
    Memory.wf (s.poke a n v).mem = true :=
  memory_wf_poke s a n v h

/-- An attempt in whose place, when it fails, the state itself stands. -/
theorem getD_wf {o : Option State} {s : State} (h : Memory.wf s.mem = true)
    (ho : ∀ t, o = some t → Memory.wf t.mem = true) : Memory.wf (o.getD s).mem = true :=
  getD_mem_of (P := fun m => Memory.wf m = true) h ho

@[simp] theorem State.pushEntry_wf (s : State) (e : SEntry) (h : Memory.wf s.mem = true) :
    Memory.wf (s.pushEntry e).mem = true := by
  unfold State.pushEntry
  split
  · exact h
  · exact memory_wf_memWrite _ _ _ (memory_wf_memWrite _ _ _ (memory_wf_memWrite _ _ _ h))

@[simp] theorem State.enterHandler_wf (s : State) (t : Trap) (h : Memory.wf s.mem = true) :
    Memory.wf (s.enterHandler t).mem = true := by
  simp [State.enterHandler, h]

@[simp] theorem State.takeTrap_wf (s : State) (t : Trap) (h : Memory.wf s.mem = true) :
    Memory.wf (s.takeTrap t).mem = true := by
  fun_cases State.takeTrap s t <;> simp [h]

@[simp] theorem State.stopWith_wf (s : State) (w0 : Word) (x : Stop) (h : Memory.wf s.mem = true) :
    Memory.wf (s.stopWith w0 x).mem = true := by
  unfold State.stopWith
  split
  · exact h
  · exact h
  · split <;> simp [h]
  · simp [h]
  · split <;> simp [h]

@[simp] theorem bdivBody_wf (f : BlF) (s : State) (h : Memory.wf s.mem = true) :
    Answers (fun t => Memory.wf t.mem = true) (bdivBody f s) := by
  unfold bdivBody
  refine .bind fun _ => .bind fun _ => ?_
  dsimp only
  split
  · simp [h]
  · split
    · simp [h]
    · split
      · simp [h]
      · split
        · trivial
        · simp [h]

/-! ## Writes: stores at the home and folds -/

@[simp] theorem State.undecoded_wf (s : State) (w0 : Word) (h : Memory.wf s.mem = true) :
    Memory.wf (s.undecoded w0).mem = true := by
  simp [State.undecoded, h]

@[simp] theorem State.putBytes_wf (s : State) (line : Nat) (bs : List (Nat × Byte)) (h : Memory.wf s.mem = true) :
    Memory.wf (s.putBytes line bs).mem = true := by
  induction bs generalizing s with
  | nil => exact h
  | cons b rest ih => exact ih _ (mapWf_mapSet _ _ _ _ h)

@[simp] theorem State.homeWrite_wf (s : State) (die line : Nat) (data : List (Nat × Byte)) (tell : AckTo)
    (now : Option Nat) (pushes : List Nat) (h : Memory.wf s.mem = true) :
    Memory.wf (s.homeWrite die line data tell now pushes).mem = true := by
  unfold State.homeWrite
  dsimp only
  split_ifs <;> simp [h]

@[simp] theorem State.foldWrite_wf (s : State) (line : Nat) (h : Memory.wf s.mem = true) :
    Memory.wf (s.foldWrite line).mem = true := by
  unfold State.foldWrite
  split
  · exact h
  · dsimp only
    split <;> simp [h]

@[simp] theorem State.foldNow_wf (s : State) (line : Nat) (h : Memory.wf s.mem = true) :
    Memory.wf (s.foldNow line).mem = true := by
  simp [State.foldNow, h]

@[simp] theorem State.stopFetch_wf (s : State) (x : Stop) (h : Memory.wf s.mem = true) :
    Memory.wf (s.stopFetch x).mem = true := by
  unfold State.stopFetch
  dsimp only
  split <;> simp [h]

/-! ## Writes: status records, windows, jobs and placement -/

@[simp] theorem State.putStatus_wf (s : State) (g : Graph) (n : Nat) (x : NodeStatus) (h : Memory.wf s.mem = true) :
    Memory.wf (s.putStatus g n x).mem = true := by
  simp [State.putStatus, h]

@[simp] theorem State.setStatus_wf (s : State) (n : Nat) (f : NodeStatus → NodeStatus) (h : Memory.wf s.mem = true) :
    Memory.wf (s.setStatus n f).mem = true := by
  fun_cases State.setStatus s n f <;> simp [h]

@[simp] theorem State.countOverrun_wf (s : State) (n : Nat) (h : Memory.wf s.mem = true) :
    Memory.wf (s.countOverrun n).mem = true := by
  simp [State.countOverrun, h]

@[simp] theorem State.enqueue_wf (s : State) (r : RecMsg) (h : Memory.wf s.mem = true) :
    Memory.wf (s.enqueue r).mem = true := by
  unfold State.enqueue
  split
  · exact h
  · dsimp only
    split_ifs <;> simp [h]

@[simp] theorem State.enqueueAll_wf (s : State) (rs : List RecMsg) (h : Memory.wf s.mem = true) :
    Memory.wf (s.enqueueAll rs).mem = true := by
  induction rs generalizing s with
  | nil => exact h
  | cons r rest ih =>
    rw [State.enqueueAll]
    refine ih _ ?_
    split <;> simp [h]

@[simp] theorem State.drainNodes_wf (s : State) (ns : List Nat) (h : Memory.wf s.mem = true) :
    Memory.wf (s.drainNodes ns).mem = true := by
  fun_induction State.drainNodes s ns <;> simp_all

@[simp] theorem State.drainCheck_wf (s : State) (h : Memory.wf s.mem = true) :
    Memory.wf (s.drainCheck).mem = true := by
  fun_cases State.drainCheck s <;> simp [h]

@[simp] theorem recordEnqueueStep_wf (i : Nat) (s : State) (h : Memory.wf s.mem = true) :
    Memory.wf (recordEnqueueStep i s).mem = true := by
  fun_cases recordEnqueueStep i s <;> simp [h]

@[simp] theorem joinArrivalStep_wf (i : Nat) (s : State) (h : Memory.wf s.mem = true) :
    Memory.wf (joinArrivalStep i s).mem = true := by
  unfold joinArrivalStep
  split
  · split
    · split
      · exact h
      · dsimp only
        split
        · rw [State.recordDone_mem]
          split <;> simp [h]
        · rw [State.recordDone_mem]
          split <;> simp [h]
    · exact h
  · exact h

@[simp] theorem State.headInsert_wf (s : State) (die node : Nat) (bytes : List Byte) (depth family cluster : Nat)
    (h : Memory.wf s.mem = true) : Memory.wf (s.headInsert die node bytes depth family cluster).mem = true := by
  unfold State.headInsert
  have hq (f : Queue → Queue) : Memory.wf (s.modQueue die node f).mem = true := by rwa [State.modQueue_mem]
  exact State.setStatus_wf _ _ _ (hq _)

@[simp] theorem State.overrun_wf (s : State) (i : Instr) (flanes detail : Nat) (h : Memory.wf s.mem = true) :
    Memory.wf (s.overrun i flanes detail).mem = true := by
  simp [State.overrun, h]

/-- Clearing a range of a table keeps its canonical form. -/
theorem mapWfFrom_mapClear {β : Type} [DecidableEq β] (d : β) (lo n : Nat) (m : List (Nat × β)) :
    ∀ k, mapWfFrom d k m = true → mapWfFrom d k (mapClear m lo n) = true := by
  induction m with
  | nil => intro k h; exact h
  | cons x xs ih =>
    intro k h
    simp only [mapWfFrom, Bool.and_eq_true, decide_eq_true_eq] at h
    simp only [mapClear, List.filter_cons]
    split
    · simp only [mapWfFrom, Bool.and_eq_true, decide_eq_true_eq]
      exact ⟨h.1, ih _ h.2⟩
    · exact mapWfFrom_mono d _ (by omega) (ih _ h.2)

@[simp] theorem State.writeWindow_wf (s : State) (core pa : Nat) (bs : List Byte) (h : Memory.wf s.mem = true) :
    Memory.wf (s.writeWindow core pa bs).mem = true :=
  memory_wf_memWrite _ _ _ (mapWfFrom_mapClear memDefault pa windowPage s.mem 0 h)

@[simp] theorem State.dequeue_wf (s : State) (die node n : Nat) (h : Memory.wf s.mem = true) :
    Memory.wf (s.dequeue die node n).mem = true := by
  simp [State.dequeue, h]

@[simp] theorem State.turnPage_wf (s : State) (es : List QEntry) (h : Memory.wf s.mem = true) :
    Memory.wf (s.turnPage es).mem = true := by
  simp [State.turnPage, h]

@[simp] theorem State.consumeTake_wf (s : State) (n : Node) (es : List QEntry) (k : Nat)
    (h : Memory.wf s.mem = true) : Memory.wf (s.consumeTake n es k).mem = true := by
  simp [State.consumeTake, h]

@[simp] theorem State.consumeShader_wf (s : State) (n : Node) (f : XqF) (m : Nat) (h : Memory.wf s.mem = true) :
    Answers (fun t => Memory.wf t.mem = true) (s.consumeShader n f m) := by
  unfold State.consumeShader
  refine .ite ?_ (.ite trivial ?_)
  · rw [answers_ok]
    split <;> simp [h]
  · refine .ite ?_ (.ite ?_ ?_) <;> simp [h]

@[simp] theorem consumeBody_wf (f : XqF) (s : State) (h : Memory.wf s.mem = true) :
    Answers (fun t => Memory.wf t.mem = true) (consumeBody f s) := by
  unfold consumeBody
  refine .bind fun _ => .ite trivial (.bind fun _ => ?_)
  split
  · simp [h]
  · dsimp only
    split
    · split <;> simp [h]
    · split <;> simp [h]

@[simp] theorem launchBody_wf (f : XqF) (s : State) (h : Memory.wf s.mem = true) :
    Answers (fun t => Memory.wf t.mem = true) (launchBody f s) := by
  unfold launchBody
  refine .bind fun _ => .bind fun _ => .bind fun _ => ?_
  dsimp only
  split
  · trivial
  · split
    · split <;> simp [h]
    · split <;> simp [h]

@[simp] theorem appendBody_wf (f : XqF) (s : State) (h : Memory.wf s.mem = true) :
    Answers (fun t => Memory.wf t.mem = true) (appendBody f s) := by
  simp [appendBody, h]

/-- A read of a line in C folds it first (10 R221). -/
theorem foldedFirst_wf (s : State) (line : Nat) (h : Memory.wf s.mem = true) :
    Memory.wf (if s.lineState line = .c then s.foldNow line else s).mem = true := by
  split
  · exact State.foldNow_wf _ _ h
  · exact h

@[simp] theorem State.jobRead_wf (s : State) (core : Nat) (ps : List (Nat × Nat)) (h : Memory.wf s.mem = true) :
    Answers (fun t => Memory.wf t.1.mem = true) (s.jobRead core ps) := by
  induction ps generalizing s with
  | nil => exact h
  | cons p rest ih =>
    rw [State.jobRead]
    split
    · trivial
    · next pa _ =>
      refine .ite trivial (.ite trivial ?_)
      have hrest := ih _ (foldedFirst_wf s (lineOf pa) h)
      split
      · trivial
      · next u bs hr => exact hrest.of_ok (a := (u, bs)) hr

@[simp] theorem State.rowRead_wf (s : State) (j : Job) (core : Nat) (r : Region) (i : Nat)
    (h : Memory.wf s.mem = true) : Answers (fun t => Memory.wf t.1.mem = true) (s.rowRead j core r i) := by
  unfold State.rowRead
  dsimp only
  split
  · exact h
  · exact State.jobRead_wf _ _ _ h

@[simp] theorem State.cardRow_wf (s : State) (j : Job) (c : Card) (core i : Nat) (h : Memory.wf s.mem = true) :
    Answers (fun t => Memory.wf t.1.mem = true) (s.cardRow j c core i) := by
  unfold State.cardRow
  split
  · split
    · trivial
    · next u bs hr => exact (State.rowRead_wf s j core _ i h).of_ok (a := (u, bs)) hr
  · exact h

@[simp] theorem State.readScales_wf (s : State) (core : Nat) (x : MatJob) (h : Memory.wf s.mem = true) :
    Answers (fun t => Memory.wf t.1.mem = true) (s.readScales core x) := by
  unfold State.readScales
  split
  · trivial
  · next ha =>
    split
    · trivial
    · next hb => exact (State.jobRead_wf _ _ _ ((State.jobRead_wf s _ _ h).of_ok ha)).of_ok hb

@[simp] theorem State.matCols_wf (s : State) (j : Job) (x : MatJob) (a sa old : List Nat) (cs : List Nat)
    (h : Memory.wf s.mem = true) : Answers (fun t => Memory.wf t.1.mem = true) (s.matCols j x a sa old cs) := by
  induction cs generalizing s with
  | nil => exact h
  | cons col rest ih =>
    rw [State.matCols]
    split
    · trivial
    · next u bb hb =>
      have hu := (State.jobRead_wf s _ _ h).of_ok hb
      dsimp only
      split
      · trivial
      · next v bs nan ovf hr => exact (ih u hu).of_ok (a := (v, bs, nan, ovf)) hr

@[simp] theorem State.matRow_wf (s : State) (j : Job) (x : MatJob) (i : Nat) (h : Memory.wf s.mem = true) :
    Answers (fun t => Memory.wf t.1.mem = true) (s.matRow j x i) := by
  unfold State.matRow
  split
  · trivial
  · next ha =>
    split
    · trivial
    · next hc =>
      exact State.matCols_wf _ _ _ _ _ _ _ ((State.jobRead_wf _ _ _ ((State.jobRead_wf s _ _ h).of_ok ha)).of_ok hc)

@[simp] theorem State.jobRow_wf (s : State) (j : Job) (h : Memory.wf s.mem = true) :
    Answers (fun t => Memory.wf t.1.mem = true) (s.jobRow j) := by
  have hplain {x : Except JobStop (State × List Byte)} (hx : Answers (fun t => Memory.wf t.1.mem = true) x) :
      Answers (fun t => Memory.wf t.1.mem = true) (match x with
        | .error e => .error e
        | .ok (s', bs) => (.ok (s', bs, 0, 0) : Except JobStop (State × List Byte × Nat × Nat))) := by
    cases x <;> exact hx
  have hstay (bs : List Byte) : Answers (fun t => Memory.wf t.1.mem = true) (.ok (s, bs) : Except JobStop (State ×
      List Byte)) := h
  unfold State.jobRow
  dsimp only
  split
  · exact hplain (State.cardRow_wf _ _ _ _ _ h)
  · split
    · exact hplain (hstay _)
    · split
      · trivial
      · exact hplain (hstay _)
  · exact hplain (State.cardRow_wf _ _ _ _ _ h)
  · exact hplain (State.cardRow_wf _ _ _ _ _ h)
  · exact State.matRow_wf _ _ _ _ h

@[simp] theorem State.jobWrite_wf (s : State) (die : Nat) (j : Job) (bs : List Byte) (ps : List (Nat × Nat))
    (h : Memory.wf s.mem = true) : Answers (fun t => Memory.wf t.mem = true) (s.jobWrite die j bs ps) := by
  induction ps generalizing s bs with
  | nil => exact h
  | cons p rest ih =>
    rw [State.jobWrite]
    split
    · trivial
    · dsimp only
      split
      · trivial
      · split
        · trivial
        · exact ih _ _ (by simp [h])

@[simp] theorem State.jobChunk_wf (s : State) (die : Nat) (j : Job) (h : Memory.wf s.mem = true) :
    Memory.wf (s.jobChunk die j).mem = true := by
  unfold State.jobChunk
  dsimp only
  split
  · rw [State.modJob_mem]
    split <;> simp [h]
  · split
    · next hw =>
      have hmem := (State.jobWrite_wf s die j _ _ h).of_ok hw
      rw [State.modJob_mem]
      split <;> simp [hmem]
    · simp [h]

@[simp] theorem State.jobPay_wf (s : State) (die : Nat) (j : Job) (h : Memory.wf s.mem = true) :
    Memory.wf (s.jobPay die j).mem = true := by
  fun_cases State.jobPay s die j <;> simp [h]

@[simp] theorem State.jobNext_wf (s : State) (die : Nat) (j : Job) (h : Memory.wf s.mem = true) :
    Memory.wf (s.jobNext die j).mem = true := by
  unfold State.jobNext
  split
  · simp [h]
  · next hr =>
    have hmem := (State.jobRow_wf s j h).of_ok hr
    dsimp only at hmem ⊢
    split <;> simp [hmem]

@[simp] theorem State.jobGo_wf (s : State) (die : Nat) (j : Job) (h : Memory.wf s.mem = true) :
    Memory.wf (s.jobGo die j).mem = true := by
  unfold State.jobGo
  split
  · exact h
  · split
    · split
      · simp [h]
      · next hr => simpa using (State.readScales_wf s _ _ h).of_ok hr
    · split <;> simp [h]

@[simp] theorem jobStartStep_wf (die i : Nat) (s : State) (h : Memory.wf s.mem = true) :
    Memory.wf (jobStartStep die i s).mem = true := by
  fun_cases jobStartStep die i s <;> simp [h]

@[simp] theorem jobCompleteStep_wf (die i : Nat) (s : State) (h : Memory.wf s.mem = true) :
    Memory.wf (jobCompleteStep die i s).mem = true := by
  unfold jobCompleteStep
  split
  · exact h
  · split
    · exact h
    · dsimp only
      split
      · split <;> simp [h]
      · simp [h]

@[simp] theorem State.takeRecord_wf (s : State) (die node : Nat) (h : Memory.wf s.mem = true) :
    ∀ u, s.takeRecord die node = some u → Memory.wf u.1.mem = true := by
  unfold State.takeRecord
  dsimp only
  split
  · split
    · next hcredit =>
      rintro u ⟨⟩
      refine State.dequeue_wf _ _ _ _ ?_
      split at hcredit
      · cases hcredit
        split <;> simp [h]
      · have hmem := State.takeCredits_mem s _ _ _ _ hcredit
        split <;> simp [hmem, h]
    · simp
  · simp

@[simp] theorem State.placeWaves_wf (s : State) (key : BKey) (n : Node) (span : List Nat) (recs : List QEntry)
    (idxs : List Nat) (h : Memory.wf s.mem = true) : Memory.wf (s.placeWaves key n span recs idxs).mem = true := by
  induction idxs generalizing s with
  | nil => exact h
  | cons i rest ih =>
    rw [State.placeWaves]
    refine ih _ ?_
    rw [State.freeSidebands_mem]
    split
    · exact State.writeWindow_wf _ _ _ _ h
    · exact h

@[simp] theorem State.placeBlock_wf (s : State) (key : BKey) (n : Node) (span : List Nat) (recs : List QEntry)
    (r : Nat) (grid : Option (Nat × Nat)) (desc : Option (Nat × Nat)) (h : Memory.wf s.mem = true) :
    Memory.wf (s.placeBlock key n span recs r grid desc).mem = true := by
  unfold State.placeBlock
  rw [State.handOffs_mem]
  exact State.placeWaves_wf _ _ _ _ _ _ h

@[simp] theorem State.constants_wf (s : State) (core : Nat) (n : Node) (h : Memory.wf s.mem = true) :
    Answers (fun t => Memory.wf t.1.mem = true) (s.constants core n) := by
  unfold State.constants
  split
  · exact h
  · split
    · next hr => exact (State.jobRead_wf s _ _ h).of_ok hr
    · trivial

@[simp] theorem blockStartStep_wf (i : Nat) (s : State) (h : Memory.wf s.mem = true) :
    Memory.wf (blockStartStep i s).mem = true := by
  unfold blockStartStep
  split
  · exact h
  · split
    · split
      · simp [h]
      · exact h
      · next hc =>
        have hmem := (State.constants_wf s _ _ h).of_ok hc
        dsimp only
        rw [State.modBlock_mem]
        dsimp only
        split <;> simpa using hmem
    · exact h

@[simp] theorem State.dequeueBatch_wf (s : State) (die node id : Nat) (h : Memory.wf s.mem = true) :
    Memory.wf (s.dequeueBatch die node id).mem = true := by
  simp [State.dequeueBatch, h]

@[simp] theorem State.placeParts_wf (s : State) (die : Nat) (n : Node) (grid : Option Grid) (recs : List QEntry)
    (ps : List (BKey × Nat)) (h : Memory.wf s.mem = true) :
    ∀ u, s.placeParts die n grid recs ps = some u → Memory.wf u.mem = true := by
  induction ps generalizing s recs with
  | nil => rintro u ⟨⟩; exact h
  | cons p rest ih =>
    rw [State.placeParts]
    split
    · simp
    · exact ih _ _ (State.placeBlock_wf _ _ _ _ _ _ _ _ h)

@[simp] theorem State.placeRange_wf (s : State) (die : Nat) (n : Node) (key : BKey) (e : QEntry) (gs : List Nat)
    (h : Memory.wf s.mem = true) : ∀ u, s.placeRange die n key e gs = some u → Memory.wf u.mem = true := by
  induction gs with
  | nil => simp [State.placeRange]
  | cons g rest ih =>
    rw [State.placeRange]
    dsimp only
    split
    · rintro u ⟨⟩
      exact State.placeBlock_wf _ _ _ _ _ _ _ _ h
    · exact ih

@[simp] theorem State.placeRanges_wf (s : State) (die : Nat) (n : Node) (es : List QEntry) (ps : List (BKey × Nat))
    (h : Memory.wf s.mem = true) : ∀ u, s.placeRanges die n es ps = some u → Memory.wf u.mem = true := by
  induction es generalizing s ps with
  | nil => rintro u ⟨⟩; exact h
  | cons e es ih =>
    cases ps with
    | nil => rintro u ⟨⟩; exact h
    | cons p ps =>
      intro u hu
      obtain ⟨v, hv, hu⟩ := Option.bind_eq_some_iff.1 hu
      exact ih v ps (State.placeRange_wf s die n _ e _ h v hv) u hu

@[simp] theorem State.placeBatch_wf (s : State) (die : Nat) (b : Batch) (h : Memory.wf s.mem = true) :
    ∀ u, s.placeBatch die b = some u → Memory.wf u.mem = true := by
  unfold State.placeBatch
  dsimp only
  split
  · simp
  · split
    · simp
    · split
      · split
        · simp
        · simp only [Option.map_eq_some_iff]
          rintro u ⟨v, hv, rfl⟩
          simp [State.placeRanges_wf _ _ _ _ _ h v hv]
      · split
        · split
          · simp
          · simp only [Option.map_eq_some_iff]
            rintro u ⟨v, hv, rfl⟩
            simp [State.placeParts_wf _ _ _ _ _ _ h v hv]
        · simp only [Option.map_eq_some_iff]
          rintro u ⟨v, hv, rfl⟩
          simp [State.placeParts_wf _ _ _ _ _ _ h v hv]

@[simp] theorem blockReserveStep_wf (i : Nat) (s : State) (h : Memory.wf s.mem = true) :
    Memory.wf (blockReserveStep i s).mem = true := by
  unfold blockReserveStep
  split
  · exact h
  · next die b _ =>
    have hplace := State.drainCheck_wf _ (getD_wf h (State.placeBatch_wf s die b h))
    dsimp only
    split
    · split
      · exact h
      · exact hplace
    · split
      · exact h
      · exact hplace

@[simp] theorem rangeRecordBindStep_wf (die node : Nat) (s : State) (h : Memory.wf s.mem = true) :
    Memory.wf (rangeRecordBindStep die node s).mem = true := by
  unfold rangeRecordBindStep
  split
  · split
    · exact State.drainCheck_wf _ (getD_wf h (State.placeBatch_wf s _ _ h))
    · exact h
  · exact h

@[simp] theorem reservationWaitStep_wf (i : Nat) (s : State) (h : Memory.wf s.mem = true) :
    Memory.wf (reservationWaitStep i s).mem = true := by
  fun_cases reservationWaitStep i s <;> simp [h]

@[simp] theorem State.split_wf (s : State) (g : Nat) (h : Memory.wf s.mem = true) :
    Memory.wf (s.split g).mem = true := by
  unfold State.split
  split
  · exact h
  · dsimp only
    split
    · exact h
    · exact State.headInsert_wf _ _ _ _ _ _ _ h

/-! ## Writes: the home, retirement, images and fixed nodes -/

@[simp] theorem homeStoreStep_wf (i : Nat) (s : State) (h : Memory.wf s.mem = true) :
    Memory.wf (homeStoreStep i s).mem = true := by
  fun_cases homeStoreStep i s <;> simp [h]

@[simp] theorem State.takeAtom_wf (s : State) (r : Req) (a : AtomOp) (h : Memory.wf s.mem = true) :
    Memory.wf (s.takeAtom r a).mem = true := by
  unfold State.takeAtom
  dsimp only
  split
  · split <;> simp [h]
  · split
    · split <;> simp [h]
    · split <;> simp [h]

@[simp] theorem homeAtomStep_wf (i : Nat) (s : State) (h : Memory.wf s.mem = true) :
    Memory.wf (homeAtomStep i s).mem = true := by
  fun_cases homeAtomStep i s <;> simp [h]

@[simp] theorem foldCompleteStep_wf (line : Nat) (s : State) (h : Memory.wf s.mem = true) :
    Memory.wf (foldCompleteStep line s).mem = true := by
  fun_cases foldCompleteStep line s <;> simp [h]

@[simp] theorem hostSnoopStep_wf (line : Nat) (bytes : List (Nat × Byte)) (s : State) (h : Memory.wf s.mem = true) :
    Memory.wf (hostSnoopStep line bytes s).mem = true := by
  unfold hostSnoopStep
  split <;> simp [h]

@[simp] theorem State.removeBlock_wf (s : State) (b : Block) (h : Memory.wf s.mem = true) :
    Memory.wf (s.removeBlock b).mem = true := by
  unfold State.removeBlock
  split <;> simp [h]

@[simp] theorem State.retireBlock_wf (s : State) (b : Block) (h : Memory.wf s.mem = true) :
    Memory.wf (s.retireBlock b).mem = true := by
  simp [State.retireBlock, h]

@[simp] theorem State.retireWave_wf (s : State) (w : Wave) (h : Memory.wf s.mem = true) :
    Memory.wf (s.retireWave w).mem = true := by
  unfold State.retireWave
  dsimp only
  split
  · split
    · exact State.retireBlock_wf _ _ (by simp [h])
    · simp [h]
  · simp [h]

@[simp] theorem waveRetireStep_wf (c slot : Nat) (s : State) (h : Memory.wf s.mem = true) :
    Memory.wf (waveRetireStep c slot s).mem = true := by
  fun_cases waveRetireStep c slot s <;> simp [h]

@[simp] theorem trapStep_wf (handler : Bool) (c slot : Nat) (s : State) (h : Memory.wf s.mem = true) :
    Memory.wf (trapStep handler c slot s).mem = true := by
  unfold trapStep
  split
  · exact h
  · split
    · exact h
    · split
      · next hfocus =>
        have hmem := State.focus_mem s _ _ _ _ hfocus
        split
        · exact h
        · split <;> simp [hmem, h]
      · exact h

@[simp] theorem State.writeImage_wf (s : State) (b : Block) (n : Node) (faulted : Bool) (image : Nat)
    (bs : List Byte) (h : Memory.wf s.mem = true) : Memory.wf (s.writeImage b n faulted image bs).mem = true := by
  unfold State.writeImage
  exact State.drainCheck_wf _ (by simpa using memory_wf_memWrite _ _ _ h)

@[simp] theorem blockSaveStep_wf (i : Nat) (s : State) (h : Memory.wf s.mem = true) :
    Memory.wf (blockSaveStep i s).mem = true := by
  unfold blockSaveStep
  split
  · exact h
  · split
    · dsimp only
      split
      · simp [h]
      · split
        · exact State.writeImage_wf _ _ _ _ _ _ (by simp [h])
        · split
          · exact State.writeImage_wf _ _ _ _ _ _ (by simp [h])
          · simp [h]
    · exact h

@[simp] theorem State.restoreWaves_wf (s : State) (key : BKey) (n : Node) (span : List Nat) (l : List SavedWave)
    (h : Memory.wf s.mem = true) : Memory.wf (s.restoreWaves key n span l).mem = true := by
  induction l generalizing s with
  | nil => exact h
  | cons x rest ih =>
    rw [State.restoreWaves]
    refine ih _ (memory_wf_memWrite _ _ _ ?_)
    split
    · exact h
    · exact State.writeWindow_wf _ _ _ _ (State.writeWindow_wf _ _ _ _ h)

@[simp] theorem State.restoreOn_wf (s : State) (b : Block) (n : Node) (image : Nat) (span : List Nat)
    (h : Memory.wf s.mem = true) : Answers (fun t => Memory.wf t.mem = true) (s.restoreOn b n image span) := by
  unfold State.restoreOn
  refine .ite trivial ?_
  split
  · trivial
  · next u hr =>
    have hmem := (State.reissueWaves_mem _ _).of_ok hr
    rw [State.acquireSpan_mem, State.modBlock_mem] at hmem
    have hwaves := State.restoreWaves_wf (s.freeImage b.die image) b.key n span b.saved (by simpa using h)
    simp [hmem, hwaves]

@[simp] theorem State.restoreAll_wf (s : State) (n : Node) (l : List Block) (h : Memory.wf s.mem = true) :
    Answers (fun t => Memory.wf t.mem = true) (s.restoreAll n l) := by
  induction l generalizing s with
  | nil => exact h
  | cons b rest ih =>
    rw [State.restoreAll]
    split
    · split
      · next hr => exact ih _ ((State.restoreOn_wf s _ _ _ _ h).of_ok hr)
      · trivial
    · trivial

@[simp] theorem blockRestoreStep_wf (i : Nat) (s : State) (h : Memory.wf s.mem = true) :
    Memory.wf (blockRestoreStep i s).mem = true := by
  unfold blockRestoreStep
  split
  · exact h
  · split
    · exact h
    · split
      · exact h
      · split
        · next hr => exact (State.restoreAll_wf s _ _ h).of_ok hr
        · simp [h]
        · exact h

@[simp] theorem State.countRefused_wf (s : State) (node n : Nat) (h : Memory.wf s.mem = true) :
    Memory.wf (s.countRefused node n).mem = true := by
  fun_cases State.countRefused s node n <;> simp [h]

@[simp] theorem rasteriseStep_wf (die node : Nat) (s : State) (h : Memory.wf s.mem = true) :
    Memory.wf (rasteriseStep die node s).mem = true := by
  unfold rasteriseStep
  split
  · exact h
  · split
    · exact h
    · split
      · exact h
      · next htake =>
        have hmem := State.takeRecord_wf s _ _ h _ htake
        dsimp only at hmem ⊢
        split
        · exact State.drainCheck_wf _ (by simp [hmem])
        · exact State.drainCheck_wf _ (by simp [hmem])

@[simp] theorem State.rayRead_wf (s : State) (core va n : Nat) (h : Memory.wf s.mem = true) :
    Answers (fun t => Memory.wf t.1.mem = true) (s.rayRead core va n) := by
  unfold State.rayRead
  split
  · next hr => exact (State.jobRead_wf s _ _ h).of_ok hr
  · trivial
  · trivial
  · trivial

@[simp] theorem State.rayLeaf_wf (s : State) (core : Nat) (r : Ray) (leaf : Nat) (best : Option Hit) (ks : List Nat)
    (h : Memory.wf s.mem = true) : Answers (fun t => Memory.wf t.1.mem = true) (s.rayLeaf core r leaf best ks) := by
  induction ks generalizing s best with
  | nil => exact h
  | cons k rest ih =>
    rw [State.rayLeaf]
    split
    · exact h
    · dsimp only
      split
      · trivial
      · next hr =>
        have hmem := (State.rayRead_wf s _ _ _ h).of_ok hr
        split
        · trivial
        · split <;> exact ih _ _ hmem

theorem visitAll_wf {go : State → Option Hit → Nat → RayR}
    (hgo : ∀ u b i, Memory.wf u.mem = true → Answers (fun t => Memory.wf t.1.mem = true) (go u b i)) (any : Bool)
    (s : State) (best : Option Hit) (cs : List Nat) (h : Memory.wf s.mem = true) :
    Answers (fun t => Memory.wf t.1.mem = true) (visitAll go any s best cs) := by
  induction cs generalizing s best with
  | nil => exact h
  | cons i rest ih =>
    rw [visitAll]
    split
    · exact h
    · split
      · next hr => exact ih _ _ ((hgo s best i h).of_ok hr)
      · trivial

@[simp] theorem rayBox_wf (room core : Nat) (r : Ray) (off : Nat) (s : State) (best : Option Hit)
    (h : Memory.wf s.mem = true) : Answers (fun t => Memory.wf t.1.mem = true) (rayBox room core r off s best) := by
  induction room generalizing off s best with
  | zero => trivial
  | succ room ih =>
    rw [rayBox]
    split
    · trivial
    · next hr =>
      have hmem := (State.rayRead_wf s _ _ _ h).of_ok hr
      split
      · trivial
      · split
        · trivial
        · refine visitAll_wf (fun u b i hu => ?_) _ _ _ _ hmem
          split
          · exact State.rayLeaf_wf _ _ _ _ _ _ hu
          · exact ih _ _ _ hu

@[simp] theorem State.rayRun_wf (s : State) (die node : Nat) (e : QEntry) (refused : Option Nat)
    (h : Memory.wf s.mem = true) : ∀ u, s.rayRun die node e refused = some u → Memory.wf u.mem = true := by
  have hout (u : State) (edge : Nat) (rec : List Byte) (hu : Memory.wf u.mem = true) :
      Memory.wf ((u.nodeOutput die node edge [rec]).rayWaits die node none).drainCheck.mem = true :=
    State.drainCheck_wf _ (by simp [hu])
  have hray := rayBox_wf 64 (96 * die) (rayOf e.bytes) 0 s none h
  unfold State.rayRun
  dsimp only
  split
  · rintro u ⟨⟩; exact hout _ _ _ h
  · split
    · rintro u ⟨⟩; exact hout _ _ _ h
    · split
      · next hr => rintro u ⟨⟩; exact hout _ _ _ (hray.of_ok hr)
      · next hr => rintro u ⟨⟩; exact hout _ _ _ (hray.of_ok hr)
      · rintro u ⟨⟩; exact hout _ _ _ h
      · rintro u ⟨⟩; exact hout _ _ _ h
      · split
        · rintro u ⟨⟩; exact hout _ _ _ h
        · rintro u ⟨⟩; simp [h]
      · simp

@[simp] theorem rayTraverseStep_wf (die node : Nat) (s : State) (h : Memory.wf s.mem = true) :
    Memory.wf (rayTraverseStep die node s).mem = true := by
  unfold rayTraverseStep
  split
  · exact h
  · split
    · exact h
    · split
      · split
        · exact h
        · exact getD_wf h (State.rayRun_wf _ _ _ _ _ h)
      · split
        · exact h
        · next htake => exact getD_wf h (State.rayRun_wf _ _ _ _ _ (State.takeRecord_wf s _ _ h _ htake))

@[simp] theorem State.headTakes_wf (s : State) (die h node : Nat) (hs : Memory.wf s.mem = true) :
    Memory.wf (s.headTakes die h node).mem = true := by
  unfold State.headTakes
  dsimp only
  split
  · exact hs
  · have hset (f : Queue → Queue) (g : NodeStatus → NodeStatus) : Memory.wf ((s.modQueue die node f).setStatus node
        g).mem = true :=
      State.setStatus_wf _ _ _ (by rwa [State.modQueue_mem])
    split
    · split
      · exact hset _ _
      · exact hset _ _
    · exact hset _ _

@[simp] theorem State.headNodes_wf (s : State) (die h : Nat) (ns : List Nat) (hs : Memory.wf s.mem = true) :
    Memory.wf (s.headNodes die h ns).mem = true := by
  induction ns generalizing s with
  | nil => exact hs
  | cons n rest ih =>
    rw [State.headNodes]
    refine ih _ ?_
    split
    · split
      · exact State.headTakes_wf _ _ _ _ hs
      · exact hs
    · exact hs

/-! ## Writes: the host, graphs, tables and commands -/

@[simp] theorem State.finishFolds_wf (s : State) (ls : List Nat) (h : Memory.wf s.mem = true) :
    Memory.wf (s.finishFolds ls).mem = true := by
  fun_induction State.finishFolds s ls <;> simp_all

@[simp] theorem State.countLost_wf (s : State) (ws : List Wave) (h : Memory.wf s.mem = true) :
    Memory.wf (s.countLost ws).mem = true := by
  fun_induction State.countLost s ws <;> simp_all

@[simp] theorem State.dropBlocks_wf (s : State) (ks : List BKey) (h : Memory.wf s.mem = true) :
    Memory.wf (s.dropBlocks ks).mem = true := by
  induction ks generalizing s with
  | nil => exact h
  | cons k rest ih =>
    rw [State.dropBlocks]
    refine ih _ ?_
    split
    · exact State.retireBlock_wf _ _ h
    · exact h

@[simp] theorem State.declareDead_wf (s : State) (c : Nat) (h : Memory.wf s.mem = true) :
    Memory.wf (s.declareDead c).mem = true := by
  unfold State.declareDead
  dsimp only
  refine State.drainCheck_wf _ (State.dropBlocks_wf _ _ (State.countLost_wf _ _ (State.finishFolds_wf _ _ ?_)))
  simpa using h

@[simp] theorem deadAgentStep_wf (a : Nat) (s : State) (h : Memory.wf s.mem = true) :
    Memory.wf (deadAgentStep a s).mem = true := by
  fun_cases deadAgentStep a s <;> simp [h]

@[simp] theorem State.hostLine_wf (s : State) (die line : Nat) (data : List (Nat × Byte)) (tell : AckTo)
    (h : Memory.wf s.mem = true) : Memory.wf (s.hostLine die line data tell).mem = true := by
  unfold State.hostLine
  split
  · simp [h]
  · dsimp only
    split <;> simp [h]

@[simp] theorem State.hostWrite_wf (s : State) (die : Nat) (bs : List Byte) (tell : AckTo) (ps : List (Nat × Nat))
    (h : Memory.wf s.mem = true) : Memory.wf (s.hostWrite die bs tell ps).mem = true := by
  fun_induction State.hostWrite s die bs tell ps <;> simp_all

@[simp] theorem State.bar2Put_wf (s : State) (bs : List Byte) (ps : List (Nat × Nat)) (h : Memory.wf s.mem = true) :
    Memory.wf (s.bar2Put bs ps).mem = true := by
  induction ps generalizing s bs with
  | nil => exact h
  | cons p rest ih =>
    rw [State.bar2Put]
    refine ih _ _ ?_
    split <;> simp [h]

@[simp] theorem bar2WriteStep_wf (off : Nat) (bytes : List Byte) (s : State) (h : Memory.wf s.mem = true) :
    Memory.wf (bar2WriteStep off bytes s).mem = true := by
  fun_cases bar2WriteStep off bytes s <;> simp [h]

@[simp] theorem State.bar2Get_wf (s : State) (ps : List (Nat × Nat)) (h : Memory.wf s.mem = true) :
    Memory.wf (s.bar2Get ps).1.mem = true := by
  induction ps generalizing s with
  | nil => exact h
  | cons p rest ih =>
    have hfold := foldedFirst_wf s (lineOf p.1) h
    rw [State.bar2Get]
    refine ih _ ?_
    split
    · exact h
    · generalize (if s.lineState (lineOf p.1) = .c then s.foldNow (lineOf p.1) else s) = u at hfold
      dsimp only
      split <;> exact hfold

@[simp] theorem bar2ReadStep_wf (off n : Nat) (s : State) (h : Memory.wf s.mem = true) :
    Memory.wf (bar2ReadStep off n s).mem = true := by
  unfold bar2ReadStep
  dsimp only
  split <;> simp [h]

@[simp] theorem sensorWindowWriteStep_wf (k w off : Nat) (bytes : List Byte) (s : State)
    (h : Memory.wf s.mem = true) : Memory.wf (sensorWindowWriteStep k w off bytes s).mem = true := by
  fun_cases sensorWindowWriteStep k w off bytes s <;> simp [h]

@[simp] theorem State.respondNow_wf (s : State) (c status reason data : Nat) (h : Memory.wf s.mem = true) :
    Memory.wf (s.respondNow c status reason data).mem = true := by
  unfold State.respondNow
  split
  · dsimp only
    split
    · exact State.drainCheck_wf _ (by simpa using h)
    · exact h
  · rw [State.raiseMsix_mem]
    have hput := (State.bar0Put_mem s (rspSlot s.rsptail) (responseOf c status reason data)).symm ▸ h
    generalize (s.rsptail + 1) % 2 ^ 32 = a
    generalize (s.cmdhead + 1) % 2 ^ 32 = a
    exact hput

@[simp] theorem State.respond_wf (s : State) (c status reason data : Nat) (h : Memory.wf s.mem = true) :
    Memory.wf (s.respond c status reason data).mem = true := by
  fun_cases State.respond s c status reason data <;> simp [h]

@[simp] theorem State.done_wf (s : State) (c data : Nat) (h : Memory.wf s.mem = true) :
    Memory.wf (s.done c data).mem = true := by
  simp [State.done, h]

@[simp] theorem State.refuse_wf (s : State) (c reason : Nat) (h : Memory.wf s.mem = true) :
    Memory.wf (s.refuse c reason).mem = true := by
  simp [State.refuse, h]

@[simp] theorem State.refuseFor_wf (s : State) (c cause : Nat) (h : Memory.wf s.mem = true) :
    Memory.wf (s.refuseFor c cause).mem = true := by
  simp [State.refuseFor, h]

/-- A command keeps the canonical form where its action does. -/
theorem State.onCommand_wf (s : State) (mine : Nat → Bool) {f : Nat → State → State} (h : Memory.wf s.mem = true)
    (hf : ∀ c u, Memory.wf u.mem = true → Memory.wf (f c u).mem = true) :
    Memory.wf (s.onCommand mine f).mem = true := by
  unfold State.onCommand
  split
  · split
    · exact hf _ _ h
    · exact h
  · exact h

/-- A command that passes its gate keeps the canonical form where its action does. -/
theorem State.gate_wf (s : State) (c stage : Nat) (fields : List (Nat × Nat)) (bad : Bool) {k : State → State}
    (hk : ∀ u, Memory.wf u.mem = true → Memory.wf (k u).mem = true) (h : Memory.wf s.mem = true) :
    Memory.wf (s.gate c stage fields bad k).mem = true := by
  unfold State.gate
  split
  · simp [h]
  · split
    · simp [h]
    · exact hk s h

@[simp] theorem queryStep_wf (sel limit : Nat) (item : Nat → State → Nat) (s : State) (h : Memory.wf s.mem = true) :
    Memory.wf (queryStep sel limit item s).mem = true :=
  State.onCommand_wf _ _ h fun c u hu => State.gate_wf _ _ _ _ _ (fun u hu => by simp [hu]) hu

@[simp] theorem setScanoutStep_wf (s : State) (h : Memory.wf s.mem = true) :
    Memory.wf (setScanoutStep s).mem = true :=
  State.onCommand_wf _ _ h fun c u hu => State.gate_wf _ _ _ _ _ (fun u hu => by simp [hu]) hu

@[simp] theorem displayModeStep_wf (s : State) (h : Memory.wf s.mem = true) :
    Memory.wf (displayModeStep s).mem = true := by
  refine State.onCommand_wf _ _ h fun c u hu => State.gate_wf _ _ _ _ _ (fun u hu => ?_) hu
  dsimp only
  split <;> simp [hu]

@[simp] theorem displayOffStep_wf (s : State) (h : Memory.wf s.mem = true) :
    Memory.wf (displayOffStep s).mem = true :=
  State.onCommand_wf _ _ h fun c u hu => State.gate_wf _ _ _ _ _ (fun u hu => by simp [hu]) hu

@[simp] theorem State.setPower_wf (s : State) (c : Nat) (h : Memory.wf s.mem = true) :
    Memory.wf (s.setPower c).mem = true := by
  unfold State.setPower
  refine State.gate_wf _ _ _ _ _ (fun u hu => ?_) h
  dsimp only
  split_ifs <;> simp [hu]

@[simp] theorem setPowerStep_wf (part : Nat) (s : State) (h : Memory.wf s.mem = true) :
    Memory.wf (setPowerStep part s).mem = true :=
  State.onCommand_wf _ _ h fun c u hu => State.setPower_wf u c hu

@[simp] theorem sensorConfigStep_wf (s : State) (h : Memory.wf s.mem = true) :
    Memory.wf (sensorConfigStep s).mem = true :=
  State.onCommand_wf _ _ h fun c u hu => State.gate_wf _ _ _ _ _ (fun u hu => by simp [hu]) hu

@[simp] theorem firmwareUpdateStep_wf (s : State) (h : Memory.wf s.mem = true) :
    Memory.wf (firmwareUpdateStep s).mem = true := by
  refine State.onCommand_wf _ _ h fun c u hu => State.gate_wf _ _ _ _ _ (fun u hu => ?_) hu
  dsimp only
  split <;> simp [hu]

@[simp] theorem attestStep_wf (s : State) (h : Memory.wf s.mem = true) : Memory.wf (attestStep s).mem = true :=
  State.onCommand_wf _ _ h fun c u hu => State.gate_wf _ _ _ _ _ (fun u hu => by simp [hu]) hu

@[simp] theorem loadCodeStep_wf (s : State) (h : Memory.wf s.mem = true) : Memory.wf (loadCodeStep s).mem = true := by
  refine State.onCommand_wf _ _ h fun c u hu => State.gate_wf _ _ _ _ _ (fun u hu => ?_) hu
  dsimp only
  split <;> simp [hu]

@[simp] theorem unloadCodeStep_wf (s : State) (h : Memory.wf s.mem = true) :
    Memory.wf (unloadCodeStep s).mem = true := by
  refine State.onCommand_wf _ _ h fun c u hu => State.gate_wf _ _ _ _ _ (fun u hu => ?_) hu
  split_ifs <;> simp [hu]

@[simp] theorem State.revokeNodes_wf (s : State) (id : Nat) (ns : List (Node × Nat)) (h : Memory.wf s.mem = true) :
    Memory.wf (s.revokeNodes id ns).mem = true := by
  induction ns generalizing s with
  | nil => exact h
  | cons x rest ih =>
    rw [State.revokeNodes]
    refine ih _ ?_
    split <;> simp [h]

@[simp] theorem State.writeStatus_wf (s : State) (g : Graph) (ns : List Nat) (h : Memory.wf s.mem = true) :
    Memory.wf (s.writeStatus g ns).mem = true := by
  fun_induction State.writeStatus s g ns <;> simp_all

@[simp] theorem State.revokeContexts_wf (s : State) (id : Nat) (before : List Context) (h : Memory.wf s.mem = true) :
    Memory.wf (s.revokeContexts id before).mem = true := by
  fun_induction State.revokeContexts s id before <;> simp_all

@[simp] theorem State.pageChecked_wf (s : State) (o p : Nat) (ok : Bool) (h : Memory.wf s.mem = true) :
    Memory.wf (s.pageChecked o p ok).mem = true := by
  unfold State.pageChecked
  split <;> simp [h]

@[simp] theorem State.checkPage_wf (s : State) (o p : Nat) (h : Memory.wf s.mem = true) :
    ∀ u, s.checkPage o p = some u → Memory.wf u.1.mem = true := by
  fun_cases State.checkPage s o p <;> simp [h]

@[simp] theorem codePageCheckStep_wf (o p : Nat) (s : State) (h : Memory.wf s.mem = true) :
    Memory.wf (codePageCheckStep o p s).mem = true := by
  unfold codePageCheckStep
  split
  · exact h
  · split
    · split
      · next hr => exact State.checkPage_wf s _ _ h _ hr
      · exact h
    · exact h

@[simp] theorem State.checkPages_wf (s : State) (o : Nat) (ps : List Nat) (h : Memory.wf s.mem = true) :
    Memory.wf (s.checkPages o ps).1.mem = true := by
  induction ps generalizing s with
  | nil => exact h
  | cons p rest ih =>
    rw [State.checkPages]
    split
    · next hr => exact ih _ (State.checkPage_wf s _ _ h _ hr)
    · next hr => exact State.checkPage_wf s _ _ h _ hr
    · exact h

@[simp] theorem State.checkDeadline_wf (s : State) (l : List (Node × Nat)) (h : Memory.wf s.mem = true) :
    Memory.wf (s.checkDeadline l).1.mem = true := by
  induction l generalizing s with
  | nil => exact h
  | cons x rest ih =>
    rw [State.checkDeadline]
    split
    · exact ih s h
    · split
      · dsimp only
        split
        · exact ih _ (State.checkPages_wf _ _ _ h)
        · exact State.checkPages_wf _ _ _ h
      · exact h

@[simp] theorem State.loadNodes_wf (s : State) (c root : Nat) (ns : List Node) (image : List Byte)
    (h : Memory.wf s.mem = true) : Memory.wf (s.loadNodes c root ns image).mem = true := by
  have hdead := State.checkDeadline_wf s ns.zipIdx h
  have hrefuse (i : Nat) : Memory.wf (s.refuse c i).mem = true := State.refuse_wf _ _ _ h
  unfold State.loadNodes
  extract_lets share avail refuse
  cases s.reserveNodes ns [] ns.zipIdx with
  | error i => exact hrefuse i
  | ok resv =>
    dsimp only
    split
    · exact hrefuse _
    · exact hrefuse _
    · exact hrefuse _
    · split
      · exact State.respond_wf _ _ _ _ _ h
      · split
        · exact State.refuse_wf _ _ _ hdead
        · refine State.done_wf _ _ _ (wf_of_mem (State.extend_mem _ _ _) (State.hostWrite_wf _ _ _ _ _ ?_))
          exact wf_of_mem (State.addGraph_mem _ _ _) hdead

@[simp] theorem loadGraphStep_wf (s : State) (h : Memory.wf s.mem = true) : Memory.wf (loadGraphStep s).mem = true := by
  refine State.onCommand_wf _ _ h fun c u hu => State.gate_wf _ _ _ _ _ (fun u hu => ?_) hu
  split <;> simp [hu]

/-- A command on a graph keeps the canonical form where its action does. -/
theorem State.forGraph_wf (s : State) (c : Nat) {f : State → State}
    (hf : ∀ u, Memory.wf u.mem = true → Memory.wf (f u).mem = true) (h : Memory.wf s.mem = true) :
    Memory.wf (s.forGraph c f).mem = true := by
  unfold State.forGraph
  cases hg : s.onGraph (graphIdOf c) f with
  | none => exact State.refuseFor_wf _ _ _ h
  | some t => exact onGraph_mem_of (fun m => Memory.wf m = true) _ _ hf h t hg

@[simp] theorem startGraphStep_wf (s : State) (h : Memory.wf s.mem = true) :
    Memory.wf (startGraphStep s).mem = true := by
  refine State.onCommand_wf _ _ h fun c u hu => State.gate_wf _ _ _ _ _
    (fun u hu => State.forGraph_wf _ _ (fun u hu => ?_) hu) hu
  dsimp only
  split <;> simp [hu]

@[simp] theorem stopGraphStep_wf (s : State) (h : Memory.wf s.mem = true) : Memory.wf (stopGraphStep s).mem = true := by
  refine State.onCommand_wf _ _ h fun c u hu => State.gate_wf _ _ _ _ _
    (fun u hu => State.forGraph_wf _ _ (fun u hu => ?_) hu) hu
  simp [hu]

@[simp] theorem unloadGraphStep_wf (s : State) (h : Memory.wf s.mem = true) :
    Memory.wf (unloadGraphStep s).mem = true := by
  refine State.onCommand_wf _ _ h fun c u hu => State.gate_wf _ _ _ _ _
    (fun u hu => State.forGraph_wf _ _ (fun u hu => ?_) hu) hu
  split <;> simp [hu]

@[simp] theorem State.vacateCores_wf (s : State) (c node n : Nat) (x : Node) (h : Memory.wf s.mem = true) :
    Memory.wf (s.vacateCores c node n x).mem = true := by
  unfold State.vacateCores
  dsimp only
  split
  · simp [h]
  · split
    · simp [h]
    · split <;> simp [h]

@[simp] theorem vacateCoresStep_wf (s : State) (h : Memory.wf s.mem = true) :
    Memory.wf (vacateCoresStep s).mem = true := by
  unfold vacateCoresStep
  split
  · split
    · exact h
    · simp [h]
  · refine State.onCommand_wf _ _ h fun c u hu => State.gate_wf _ _ _ _ _
      (fun u hu => State.forGraph_wf _ _ (fun u hu => ?_) hu) hu
    split
    · simp [hu]
    · split
      · simp [hu]
      · split <;> simp [hu]

@[simp] theorem State.switchStart_wf (s : State) (c : Nat) (g : Graph) (h : Memory.wf s.mem = true) :
    Memory.wf (s.switchStart c g).mem = true := by
  unfold State.switchStart
  dsimp only
  split <;> simp [h]

@[simp] theorem State.foldAll_wf (s : State) (ls : List Nat) (h : Memory.wf s.mem = true) :
    Memory.wf (s.foldAll ls).mem = true := by
  induction ls generalizing s with
  | nil => exact h
  | cons l rest ih =>
    rw [State.foldAll]
    refine ih _ ?_
    split <;> simp [h]

@[simp] theorem State.saveTables_wf (s : State) (pa : Nat) (h : Memory.wf s.mem = true) :
    Memory.wf (s.saveTables pa).mem = true := by
  simp [State.saveTables, h]

@[simp] theorem State.switchEnd_wf (s : State) (c used : Nat) (running : Bool) (h : Memory.wf s.mem = true) :
    Memory.wf (s.switchEnd c used running).mem = true := by
  unfold State.switchEnd
  split
  · exact h
  · exact State.done_wf _ _ _ (by simp [h])

@[simp] theorem switchContextStep_wf (s : State) (h : Memory.wf s.mem = true) :
    Memory.wf (switchContextStep s).mem = true := by
  unfold switchContextStep
  split
  · split <;> simp [h]
  · refine State.onCommand_wf _ _ h fun c u hu => State.gate_wf _ _ _ _ _ (fun u hu => ?_) hu
    split
    · split
      · simp [hu]
      · split <;> simp [hu]
    · split <;> simp [hu]
    · simp [hu]

@[simp] theorem State.firmwareWrite_wf (s : State) (pa : Nat) (bs : List Byte) (h : Memory.wf s.mem = true) :
    Memory.wf (s.firmwareWrite pa bs).mem = true := by
  simp [State.firmwareWrite, h]

@[simp] theorem State.takeTable_wf (s : State) (h : Memory.wf s.mem = true) :
    ∀ u, s.takeTable = some u → Memory.wf u.1.mem = true := by
  have hwrite (d a : Nat) (z : List Byte) :
      Memory.wf ((s.modDie d fun x => { x with tablePages := x.tablePages + 1 }).firmwareWrite a z).mem = true :=
    State.firmwareWrite_wf _ _ _ h
  unfold State.takeTable
  generalize List.replicate 16384 (0#8) = zeros
  intro u
  dsimp only
  split
  · rintro ⟨⟩; exact hwrite _ _ _
  · rintro ⟨⟩; exact hwrite _ _ _
  · simp

/-- What `mapOne` does with a place, `table` being a fresh table's page and `next` the rest of the walk. -/
def mapAt (s : State) (leaf : Nat) (blk : Bool) (table : Option (State × Nat)) (next : State → Option State) :
    PtPlace → Option State
  | .entry a => if blk && decide (memVal s.mem a 8 % 4 = 1) then none else some (s.firmwareWrite a (leBytes leaf 8))
  | .missing a =>
    match table with
    | some (s', t) => next (s'.firmwareWrite a (leBytes (1 + t) 8))
    | none => none
  | _ => none

/-- A level of the walk that maps a page. -/
theorem State.mapOne_succ (s : State) (root va leaf : Nat) (blk : Bool) (fuel : Nat) :
    s.mapOne root va leaf blk (fuel + 1)
      = mapAt s leaf blk s.takeTable (fun t => t.mapOne root va leaf blk fuel) (ptPlace s.mem root va blk) := by
  -- `unfold` would weigh the 16,384 bytes of a table's page
  delta State.mapOne
  dsimp only
  delta State.mapOne._f
  dsimp only
  generalize ptPlace s.mem root va blk = place
  generalize s.takeTable = table
  cases place with
  | missing a => cases table <;> rfl
  | _ => rfl

/-- The walk that maps a page, at its last level. -/
theorem State.mapOne_zero (s : State) (root va leaf : Nat) (blk : Bool) :
    s.mapOne root va leaf blk 0 = mapAt s leaf blk none (fun _ => none) (ptPlace s.mem root va blk) := by
  change s.mapOne root va leaf blk Nat.zero = _
  delta State.mapOne
  dsimp only
  delta State.mapOne._f
  dsimp only
  generalize ptPlace s.mem root va blk = place
  cases place <;> rfl

/-- A place of the page tables is written, or a new table is and the walk goes on. -/
theorem mapAt_wf (s : State) (leaf : Nat) (blk : Bool) (table : Option (State × Nat)) (next : State → Option State)
    (p : PtPlace) (htable : ∀ t, table = some t → Memory.wf t.1.mem = true)
    (hnext : ∀ t, Memory.wf t.mem = true → ∀ u, next t = some u → Memory.wf u.mem = true)
    (h : Memory.wf s.mem = true) : ∀ u, mapAt s leaf blk table next p = some u → Memory.wf u.mem = true := by
  intro u
  fun_cases mapAt s leaf blk table next p with
  | case1 => simp
  | case2 => rintro ⟨⟩; exact State.firmwareWrite_wf _ _ _ h
  | case3 => exact hnext _ (State.firmwareWrite_wf _ _ _ (htable _ rfl)) u
  | case4 => simp
  | case5 => simp

@[simp] theorem State.mapOne_wf (s : State) (root va leaf : Nat) (blk : Bool) (fuel : Nat)
    (h : Memory.wf s.mem = true) : ∀ u, s.mapOne root va leaf blk fuel = some u → Memory.wf u.mem = true := by
  induction fuel generalizing s with
  | zero =>
    rw [State.mapOne_zero]
    exact mapAt_wf _ _ _ _ _ _ (by simp) (by simp) h
  | succ fuel ih =>
    rw [State.mapOne_succ]
    exact mapAt_wf _ _ _ _ _ _ (State.takeTable_wf s h) (fun t => ih t) h

@[simp] theorem State.mapMany_wf (s : State) (root va leaf : Nat) (blk : Bool) (n : Nat)
    (h : Memory.wf s.mem = true) : ∀ u, s.mapMany root va leaf blk n = some u → Memory.wf u.mem = true := by
  induction n generalizing s va leaf with
  | zero => rintro u ⟨⟩; exact h
  | succ n ih =>
    rw [State.mapMany]
    split
    · next hone => exact ih _ _ _ (State.mapOne_wf s _ _ _ _ _ h _ hone)
    · simp

@[simp] theorem State.unmapMany_wf (s : State) (root lo len va : Nat) (blk : Bool) (n : Nat)
    (h : Memory.wf s.mem = true) : ∀ u, s.unmapMany root lo len va blk n = some u → Memory.wf u.mem = true := by
  induction n generalizing s va with
  | zero => rintro u ⟨⟩; exact h
  | succ n ih =>
    rw [State.unmapMany]
    dsimp only
    split
    · refine ih _ _ ?_
      split <;> simp [h]
    · split
      · exact ih _ _ h
      · simp
    · exact ih _ _ h

@[simp] theorem State.commandTake_wf (s : State) (h : Memory.wf s.mem = true) :
    Memory.wf (s.commandTake).mem = true := by
  unfold State.commandTake
  split
  · exact h
  · split
    · split
      · exact h
      · dsimp only
        split <;> simp [h]
    · exact h
    · exact h
    · split
      · exact h
      · split
        · next htake => exact State.takeRecord_wf s _ _ h _ htake
        · exact h

@[simp] theorem mapPagesStep_wf (s : State) (h : Memory.wf s.mem = true) : Memory.wf (mapPagesStep s).mem = true := by
  refine State.onCommand_wf _ _ h fun c u hu => State.gate_wf _ _ _ _ _
    (fun u hu => State.forGraph_wf _ _ (fun u hu => ?_) hu) hu
  dsimp only
  split
  · simp [hu]
  · split
    · simp [hu]
    · split
      · simp [hu]
      · next hm =>
        have hmem := State.mapMany_wf _ _ _ _ _ _ hu _ hm
        split <;> simp [hmem]

@[simp] theorem unmapPagesStep_wf (s : State) (h : Memory.wf s.mem = true) :
    Memory.wf (unmapPagesStep s).mem = true := by
  refine State.onCommand_wf _ _ h fun c u hu => State.gate_wf _ _ _ _ _
    (fun u hu => State.forGraph_wf _ _ (fun u hu => ?_) hu) hu
  dsimp only
  split
  · simp [hu]
  · next hm => simp [State.unmapMany_wf _ _ _ _ _ _ _ hu _ hm]

@[simp] theorem faultReplyStep_wf (s : State) (h : Memory.wf s.mem = true) :
    Memory.wf (faultReplyStep s).mem = true := by
  refine State.onCommand_wf _ _ h fun c u hu => State.gate_wf _ _ _ _ _ (fun u hu => ?_) hu
  split
  · exact State.refuseFor_wf _ _ _ hu
  · refine State.done_wf _ _ _ (getD_wf hu (onGraph_mem_of (fun m => Memory.wf m = true) _ _ (fun v hv => ?_) hu))
    simp [hv]

/-- A command on a faulted block keeps the canonical form where its action does. -/
theorem blockControlStep_wf (mine : Nat → Bool) {f : Block → Nat → State → State × Nat}
    (hf : ∀ b i u, Memory.wf u.mem = true → Memory.wf (f b i u).1.mem = true) (s : State)
    (h : Memory.wf s.mem = true) : Memory.wf (blockControlStep mine f s).mem = true := by
  refine State.onCommand_wf _ _ h fun c u hu => State.gate_wf _ _ _ _ _
    (fun u hu => State.forGraph_wf _ _ (fun u hu => ?_) hu) hu
  split
  · simp [hu]
  · exact State.done_wf _ _ _ (hf _ _ _ hu)

@[simp] theorem State.deviceReset_wf (s : State) (h : Memory.wf s.mem = true) :
    Memory.wf (s.deviceReset).mem = true := by
  simp [State.deviceReset, h]

@[simp] theorem resetDeviceStep_wf (s : State) (h : Memory.wf s.mem = true) :
    Memory.wf (resetDeviceStep s).mem = true := by
  unfold resetDeviceStep
  split
  · split <;> simp [h]
  · exact State.onCommand_wf _ _ h fun c u hu => State.gate_wf _ _ _ _ _ (fun u hu => State.deviceReset_wf u hu) hu

@[simp] theorem State.calibrate_wf (s : State) (failed : Nat) (gs : List Nat) (h : Memory.wf s.mem = true) :
    Memory.wf (s.calibrate failed gs).mem = true := by
  induction gs generalizing s with
  | nil => exact h
  | cons g rest ih =>
    rw [State.calibrate]
    refine ih _ ?_
    split
    · exact List.foldlRecOn (motive := fun t : State => Memory.wf t.mem = true) _ _ h
        (fun t ht k _ => State.declareDead_wf t _ ht)
    · exact h

@[simp] theorem bootstageStep_wf (trained : Bool) (failed : Nat) (s : State) (h : Memory.wf s.mem = true) :
    Memory.wf (bootstageStep trained failed s).mem = true := by
  unfold bootstageStep
  refine Eq.mp (by rfl) (?_ : Memory.wf (ite _ _ _ : State).mem = true)
  split
  · exact h
  · split
    · exact h
    · dsimp only
      split
      · exact State.calibrate_wf _ _ _ h
      · exact h

end Sys2Proof.Machine
end

section
/-! The canonical form over a whole step (15 R339; entries 1 and 2): an issue, an instruction or event, a turn, a
step. -/
namespace Sys2Proof.Machine

/-- What a step leaves satisfies `p`, where it leaves a state at all. -/
def Leaves (p : State → Prop) : Out → Prop
  | .next t => p t
  | _ => True

/-- A choice of two states. -/
theorem ite_wf {c : Prop} [Decidable c] {s t : State} (hs : Memory.wf s.mem = true) (ht : Memory.wf t.mem = true) :
    Memory.wf (if c then s else t).mem = true := by
  split
  · exact hs
  · exact ht

/-! ## Issues -/

/-- An issue keeps the canonical form where its body does. -/
theorem State.issue_wf {s : State} {i : Instr} {st : Option Stream} {kmask weight : Nat} {legal : Option EncFault}
    {body : State → R State} (h : Memory.wf s.mem = true)
    (hbody : ∀ u : State, Memory.wf u.mem = true → Answers (fun t => Memory.wf t.mem = true) (body u)) :
    Leaves (fun t => Memory.wf t.mem = true) (s.issue i st kmask weight legal body) := by
  unfold State.issue
  have hu : Memory.wf ({ s with stalled := false } : State).mem = true := h
  generalize ({ s with stalled := false } : State) = u at hu
  dsimp only
  split
  · exact hu
  · split
    · exact State.stopWith_wf _ _ _ hu
    · split
      · next v hv =>
        have hv := (hbody u hu).of_ok hv
        split
        · refine wf_of_mem ?_ hv
          split <;> simp
        · exact State.stopWith_wf _ _ _ hu
      · split
        · exact State.stopWith_wf _ _ _ (by simpa using hu)
        · exact State.stopWith_wf _ _ _ hu

/-- An issue keeps the canonical form where its body leaves memory as it is. -/
theorem State.issue_wf_of_mem {s : State} {i : Instr} {st : Option Stream} {kmask weight : Nat}
    {legal : Option EncFault} {body : State → R State} (h : Memory.wf s.mem = true)
    (hbody : ∀ u : State, Answers (fun t => t.mem = u.mem) (body u)) :
    Leaves (fun t => Memory.wf t.mem = true) (s.issue i st kmask weight legal body) :=
  State.issue_wf h fun u hu => (hbody u).mono fun _ ht => wf_of_mem ht hu

theorem State.laneXAIf_wf {s : State} {i : Instr} {weight : Nat} {sp : XaF → XaSpec} {f : XaF}
    {early : Option EncFault} {body : State → Nat → XaSpec → XaF → R State} (h : Memory.wf s.mem = true)
    (hbody : ∀ u words x g, Answers (fun t => t.mem = u.mem) (body u words x g)) :
    Leaves (fun t => Memory.wf t.mem = true) (s.laneXAIf i weight sp f early body) :=
  State.issue_wf_of_mem h fun u => hbody u _ _ _

theorem State.laneXA_wf {s : State} {i : Instr} {weight : Nat} {sp : XaF → XaSpec} {f : XaF}
    {body : State → Nat → XaSpec → XaF → R State} (h : Memory.wf s.mem = true)
    (hbody : ∀ u words x g, Answers (fun t => t.mem = u.mem) (body u words x g)) :
    Leaves (fun t => Memory.wf t.mem = true) (s.laneXA i weight sp f body) :=
  State.laneXAIf_wf h hbody

theorem State.laneBA_wf {s : State} {i : Instr} {weight : Nat} {sp : XaF → XaSpec} {ty : Nat} {f : BaF}
    {body : State → Nat → XaSpec → XaF → R State} (h : Memory.wf s.mem = true)
    (hbody : ∀ u words x g, Answers (fun t => t.mem = u.mem) (body u words x g)) :
    Leaves (fun t => Memory.wf t.mem = true) (s.laneBA i weight sp ty f body) :=
  State.issue_wf_of_mem h fun u => hbody u _ _ _

theorem State.scalarBS_wf {s : State} {i : Instr} {sp : LeadSpec} {f : BaF} {op : LeadFn}
    (h : Memory.wf s.mem = true) : Leaves (fun t => Memory.wf t.mem = true) (s.scalarBS i sp f op) :=
  State.issue_wf_of_mem h fun u => scalarBody_mem _ _ _ _ u

theorem State.scalarXA_wf {s : State} {i : Instr} {sp : LeadSpec} {f : XaF} {op : LeadFn}
    (h : Memory.wf s.mem = true) : Leaves (fun t => Memory.wf t.mem = true) (s.scalarXA i sp f op) :=
  State.issue_wf_of_mem h fun u => scalarBody_mem _ _ _ _ u

theorem State.maskForm_wf {s : State} {i : Instr} {useB : Bool} {f : BaF} {op : Nat → Nat → Nat}
    (h : Memory.wf s.mem = true) : Leaves (fun t => Memory.wf t.mem = true) (s.maskForm i useB f op) :=
  State.issue_wf_of_mem h fun u => by simp

/-! ## Instructions and events -/

/-- EVERY INSTRUCTION AND EVENT KEEPS THE CANONICAL FORM. An encoded instruction is an issue, whose body answers a
state with a canonical memory; an event runs its step. -/
theorem exec_wf (i : Instr) (s : State) (h : Memory.wf s.mem = true) :
    Leaves (fun t => Memory.wf t.mem = true) (exec i s) := by
  cases i
  all_goals dsimp only [exec]
  case brdq f => exact State.issue_wf_of_mem h fun u => by split <;> simp
  case calll f => exact State.issue_wf h fun u hu => by split <;> simp [hu]
  case rndmodeWrite v =>
    dsimp only [execRndmodeWrite, Leaves]
    split <;> simp [h]
  case throttleWrite g v => exact wf_of_mem (State.writeThrottle_mem ..) h
  case talertWrite v => exact wf_of_mem (State.writeTalert_mem ..) h
  case cbiasWrite g v => exact wf_of_mem (State.writeCbias_mem ..) h
  case cbmaxWrite v =>
    dsimp only [execCbmaxWrite, Leaves]
    split <;> simp [h]
  case specialRegisterWrite n v =>
    dsimp only [execSpecialRegisterWrite]
    exact ite_wf (wf_of_mem (State.writeSr_mem ..) h) h
  case starvationPromoteC c slot => exact wf_of_mem (promoteStep_mem ..) h
  case starvationPromoteP c slot => exact wf_of_mem (promoteStep_mem ..) h
  case couplingDeadlock c slot => exact wf_of_mem (couplingDeadlockStep_mem ..) h
  case blockReserve n => exact blockReserveStep_wf (h := h) ..
  case reservationWaitExpiry n => exact reservationWaitStep_wf (h := h) ..
  case blockStart n => exact blockStartStep_wf (h := h) ..
  case waveRetire c slot => exact waveRetireStep_wf (h := h) ..
  case workRequest c =>
    dsimp only [execWorkRequest, Leaves]
    split <;> simp [h]
  case rangeRecordBind die node => exact rangeRecordBindStep_wf (h := h) ..
  case recordEnqueue n => exact recordEnqueueStep_wf (h := h) ..
  case queueSpillReturn die node => exact wf_of_mem (State.modQueue_mem ..) h
  case batchClose die node => exact wf_of_mem (batchCloseStep_mem ..) h
  case batchMaxwaitExpiry die node => exact wf_of_mem (batchMaxwaitStep_mem ..) h
  case batchAdmit n => exact wf_of_mem (batchAdmitStep_mem ..) h
  case stealCheck die node => exact wf_of_mem (stealCheckStep_mem ..) h
  case stealArrival n => exact wf_of_mem (stealArrivalStep_mem ..) h
  case consumeRetry c slot =>
    dsimp only [execConsumeRetry, Leaves]
    split
    · split
      · split <;> simp [h]
      · exact h
    · exact h
  case joinRecordArrival n => exact joinArrivalStep_wf (h := h) ..
  case signalApply n => exact wf_of_mem (signalApplyStep_mem ..) h
  case massReleaseAdmit => exact wf_of_mem (State.massAdmit_mem ..) h
  case homeLoad n => exact wf_of_mem (homeLoadStep_mem ..) h
  case homeMissFill line ecc => exact wf_of_mem (homeMissFillStep_mem ..) h
  case burstParityError line e => exact wf_of_mem (burstParityStep_mem ..) h
  case fillReceive n => exact wf_of_mem (fillReceiveStep_mem ..) h
  case homeStore n => exact homeStoreStep_wf (h := h) ..
  case homeAtom n => exact homeAtomStep_wf (h := h) ..
  case updateReceive n => exact wf_of_mem (updateReceiveStep_mem ..) h
  case storeAck n => exact wf_of_mem (storeAckStep_mem ..) h
  case loadReturn n => exact wf_of_mem (loadReturnStep_mem ..) h
  case lqFill c slot => exact wf_of_mem (lqFillStep_mem ..) h
  case pushReceive n => exact wf_of_mem (pushReceiveStep_mem ..) h
  case pushReply n => exact wf_of_mem (pushReplyStep_mem ..) h
  case deregistration n => exact wf_of_mem (deregistrationStep_mem ..) h
  case rangeOpenNotice n => exact wf_of_mem (rangeOpenNoticeStep_mem ..) h
  case rangeNoticeReply n => exact wf_of_mem (rangeNoticeReplyStep_mem ..) h
  case holderRegister n => exact wf_of_mem (holderRegisterStep_mem ..) h
  case foldProbe n => exact wf_of_mem (foldProbeStep_mem ..) h
  case foldComplete line => exact foldCompleteStep_wf (h := h) ..
  case evictedPartial n => exact wf_of_mem (evictedPartialStep_mem ..) h
  case remoteWriteCount die page => exact wf_of_mem (remoteWriteCountStep_mem ..) h
  case migrationForward n => exact wf_of_mem (migrationForwardStep_mem ..) h
  case migrationInstall n => exact wf_of_mem (migrationInstallStep_mem ..) h
  case migrationPointerRetire n => exact wf_of_mem (pointerRetireStep_mem ..) h
  case deadAgentTimeout a => exact deadAgentStep_wf (h := h) ..
  case hostSnoopInvalidate line bytes => exact hostSnoopStep_wf (h := h) ..
  case pageWalk die va => exact wf_of_mem (pageWalkStep_mem ..) h
  case faultRecordWrite => exact wf_of_mem (faultRecordWriteStep_mem ..) h
  case matrixEntryTake c =>
    dsimp only [execMatrixEntryTake, Leaves]
    split
    · exact h
    · split
      · split <;> simp [h]
      · simp [h]
  case msigArrival c n =>
    dsimp only [execMsigArrival, Leaves]
    split
    · exact h
    · split
      · split <;> simp [h]
      · exact h
  case matrixEntryCommit c n =>
    dsimp only [execMatrixEntryCommit, Leaves]
    split
    · exact h
    · split <;> simp [h]
  case jobStart die n => exact jobStartStep_wf (h := h) ..
  case jobComplete die n => exact jobCompleteStep_wf (h := h) ..
  case jobPageTimeout n =>
    dsimp only [execJobPageTimeout, Leaves]
    split
    · split <;> simp [h]
    · exact h
  case rasteriseTriangle die node => exact rasteriseStep_wf (h := h) ..
  case rayTraverse die node => exact rayTraverseStep_wf (h := h) ..
  case matrixJobRun die node =>
    dsimp only [execMatrixJobRun, Leaves]
    split
    · split
      · exact h
      · split
        · next htake => exact State.takeRecord_wf s _ _ h _ htake
        · exact h
    · exact h
  case copyJobRun die node =>
    dsimp only [execCopyJobRun, Leaves]
    split
    · split
      · exact h
      · split
        · next htake => exact State.takeRecord_wf s _ _ h _ htake
        · exact h
    · exact h
  case scanoutVblank head =>
    dsimp only [execScanoutVblank, Leaves]
    split
    · split
      · rw [State.headReads_mem]
        exact State.drainCheck_wf _ (State.headNodes_wf _ _ _ _ h)
      · exact h
    · exact h
  case trapEntry c slot => exact trapStep_wf (h := h) ..
  case faultWithoutHandler c slot => exact trapStep_wf (h := h) ..
  case waitLimit c slot => exact wf_of_mem (waitLimitStep_mem ..) h
  case sleepExpiry c slot st => exact wf_of_mem (State.modWave_mem ..) h
  case yieldExpiry c slot st => exact wf_of_mem (State.modWave_mem ..) h
  case blockSave n => exact blockSaveStep_wf (h := h) ..
  case blockRestore n => exact blockRestoreStep_wf (h := h) ..
  case codePageCheck o p => exact codePageCheckStep_wf (h := h) ..
  case droopTrip g =>
    dsimp only [execDroopTrip, Leaves]
    split <;> simp [h]
  case cbStepUpdate g =>
    dsimp only [execCbStepUpdate, Leaves]
    split <;> simp [h]
  case biasSettle g => exact h
  case thermalSample g t => exact wf_of_mem (thermalSampleStep_mem ..) h
  case mgmtInterrupt =>
    dsimp only [execMgmtInterrupt, Leaves]
    split
    · split <;> simp [h]
    · exact h
  case cmdtailWrite v => exact wf_of_mem (State.raiseInt_mem ..) h
  case fltheadWrite v => exact h
  case bar2baseWrite v => exact h
  case bar0WriteOther off v =>
    dsimp only [execBar0WriteOther, Leaves]
    split <;> simp [h]
  case bar2Write off bytes => exact bar2WriteStep_wf (h := h) ..
  case bar2Read off n => exact bar2ReadStep_wf (h := h) ..
  case sensorWindowWrite k w off bytes => exact sensorWindowWriteStep_wf (h := h) ..
  case sensorDone k w bytes => exact wf_of_mem (sensorDoneStep_mem ..) h
  case sensorBarrierArrival k => exact wf_of_mem (sensorArrivalStep_mem ..) h
  case queryStartup =>
    dsimp only [execQueryStartup, Leaves]
    split
    · exact h
    · split_ifs
      · exact State.respond_wf (h := h) ..
      · exact State.respond_wf (h := h) ..
      · exact queryStep_wf (h := h) ..
  case queryCoreCounters => exact queryStep_wf (h := h) ..
  case queryFootprint => exact queryStep_wf (h := h) ..
  case queryDeadAgents => exact queryStep_wf (h := h) ..
  case queryLogCounts => exact queryStep_wf (h := h) ..
  case queryMeasurement => exact queryStep_wf (h := h) ..
  case queryUseCounters => exact queryStep_wf (h := h) ..
  case queryJoinSlot => exact queryStep_wf (h := h) ..
  case firmwareUpdate => exact firmwareUpdateStep_wf (h := h) ..
  case attest => exact attestStep_wf (h := h) ..
  case setScanout => exact setScanoutStep_wf (h := h) ..
  case resetDevice => exact resetDeviceStep_wf (h := h) ..
  case loadCode => exact loadCodeStep_wf (h := h) ..
  case unloadCode => exact unloadCodeStep_wf (h := h) ..
  case loadGraph => exact loadGraphStep_wf (h := h) ..
  case startGraph => exact startGraphStep_wf (h := h) ..
  case stopGraph => exact stopGraphStep_wf (h := h) ..
  case vacateCores => exact vacateCoresStep_wf (h := h) ..
  case switchContext => exact switchContextStep_wf (h := h) ..
  case mapPages => exact mapPagesStep_wf (h := h) ..
  case unmapPages => exact unmapPagesStep_wf (h := h) ..
  case faultReply => exact faultReplyStep_wf (h := h) ..
  case sensorConfig => exact sensorConfigStep_wf (h := h) ..
  case displayMode => exact displayModeStep_wf (h := h) ..
  case displayOff => exact displayOffStep_wf (h := h) ..
  case setPowerBias => exact setPowerStep_wf (h := h) ..
  case setPowerCbmax => exact setPowerStep_wf (h := h) ..
  case setPowerTlimit => exact setPowerStep_wf (h := h) ..
  case setPowerSaddle => exact setPowerStep_wf (h := h) ..
  case blockControlImage => exact blockControlStep_wf _ (fun b i u hu => hu) _ h
  case blockControlResume => exact blockControlStep_wf _ (fun b i u hu => State.firmwareWrite_wf (h := hu) ..) _ h
  case blockControlDiscard => exact blockControlStep_wf _ (fun b i u hu => by simp [hu]) _ h
  case unloadGraph => exact unloadGraphStep_wf (h := h) ..
  case powerGood =>
    dsimp only [execPowerGood, Leaves]
    split <;> simp [h]
  case bootstageAdvance trained failed => exact bootstageStep_wf (h := h) ..
  case saddleLaneFault n => exact wf_of_mem (State.shed_mem ..) h
  case chargeBucketRefill g => exact wf_of_mem (chargeBucketRefillStep_mem ..) h
  case barrierCompletesAgain b j n =>
    dsimp only [execBarrierCompletesAgain, Leaves]
    split <;> simp [h]
  case iaddBA f | isubBA f | imulBA f | imulhiBA f | iminBA f | imaxBA f | andBA f | orBA f | xorBA f | andnBA f |
      shlBA f | shrBA f | sarBA f | rotBA f | popcBA f | clzBA f | ctzBA f | brevBA f | movBA f | getexecBA f |
      setexecBA f | faddBA f | fsubBA f | fmulBA f | fminBA f | fmaxBA f | frcpBA f | frsqBA f | fsqrtBA f |
      fexp2BA f | flog2BA f | fsinpiBA f | fcospiBA f | hadd2BA f | hmul2BA f | shflBA f | bcastBA f | qswapBA f |
      qbcastBA f | voteBA f =>
    exact State.laneBA_wf h (by simp)
  case iaddXA f | isubXA f | imulXA f | imulhiXA f | imad f | iminXA f | imaxXA f | andXA f | orXA f | xorXA f |
      andnXA f | shlXA f | shrXA f | sarXA f | rotXA f | bfx f | bfi f | popcXA f | clzXA f | ctzXA f | brevXA f |
      icmp f | sel f | movXA f | movrel f | movrelw f | getexecXA f | setexecXA f | faddXA f | fsubXA f | fmulXA f
      | ffma f | fminXA f | fmaxXA f | fcmp f | fclass f | frcpXA f | frsqXA f | fsqrtXA f | fexp2XA f | flog2XA f
      | fsinpiXA f | fcospiXA f | hfma2 f | hadd2XA f | hmul2XA f | dot4d8 f | dot2h f | cvt f | pack f | unpack f
      | dqscale f | shflXA f | bcastXA f | qswapXA f | qbcastXA f | voteXA f | reduce f | scan f | hist f | hmerge
      f =>
    exact State.laneXA_wf h (by simp)
  case vrdl f | vwrl f | qscale f | hadq f | cxstage f =>
    exact State.laneXAIf_wf h (by simp)
  case saddBS f | ssubBS f | smulBS f | smulhiBS f | sandBS f | sorBS f | sxorBS f | smovBS f | sshlBS f | sshrBS f
      | ssarBS f | sminBS f | smaxBS f =>
    exact State.scalarBS_wf h
  case saddXA f | ssubXA f | smulXA f | smulhiXA f | sandXA f | sorXA f | sxorXA f | smovXA f | sshlXA f | sshrXA f
      | ssarXA f | sminXA f | smaxXA f | scmp f | ssel f | sbfx f =>
    exact State.scalarXA_wf h
  case kand f | kor f | kxor f | knot f | kmov f =>
    exact State.maskForm_wf h
  case bdiv f => exact State.issue_wf h fun u hu => bdivBody_wf (h := hu) ..
  case reconv f => exact State.issue_wf_of_mem h fun u => reconvBody_mem ..
  case retl f => exact State.issue_wf_of_mem h fun u => retlBody_mem ..
  case exit f => exact State.issue_wf_of_mem h fun u => exitBody_mem ..
  case ldBM minor f => exact State.issue_wf_of_mem h fun u => by simp
  case ldXM minor f => exact State.issue_wf_of_mem h fun u => by simp
  case stBM minor f => exact State.issue_wf_of_mem h fun u => by simp
  case stXM minor f => exact State.issue_wf_of_mem h fun u => by simp
  case ldsp f => exact State.issue_wf_of_mem h fun u => ldspBody_mem ..
  case stsp f => exact State.issue_wf_of_mem h fun u => stspBody_mem ..
  case stt f => exact State.issue_wf_of_mem h fun u => by simp
  case pref f => exact State.issue_wf_of_mem h fun u => prefBody_mem ..
  case atom f => exact State.issue_wf_of_mem h fun u => atomBody_mem ..
  case cadd f => exact State.issue_wf_of_mem h fun u => caddBody_mem ..
  case append f => exact State.issue_wf h fun u hu => appendBody_wf (h := hu) ..
  case mma f => exact State.issue_wf_of_mem h fun u => mmaBody_mem ..
  case mzero f => exact State.issue_wf_of_mem h fun u => mzeroBody_mem ..
  case mrd f => exact State.issue_wf_of_mem h fun u => mrdBody_mem ..
  case mwr f => exact State.issue_wf_of_mem h fun u => mwrBody_mem ..
  case mldt f => exact State.issue_wf_of_mem h fun u => moveBody_mem ..
  case mstore f => exact State.issue_wf_of_mem h fun u => moveBody_mem ..
  case mfence f => exact State.issue_wf_of_mem h fun u => mfenceBody_mem ..
  case mwait f => exact State.issue_wf_of_mem h fun u => mwaitBody_mem ..
  case msig f => exact State.issue_wf_of_mem h fun u => msigBody_mem ..
  case mpair f => exact State.issue_wf_of_mem h fun u => mmaBody_mem ..
  case sbr f => exact State.issue_wf_of_mem h fun u => by simp
  case sbrc f => exact State.issue_wf_of_mem h fun u => sbrcBody_mem ..
  case scall f => exact State.issue_wf_of_mem h fun u => scallBody_mem ..
  case sloop f => exact State.issue_wf_of_mem h fun u => sloopBody_mem ..
  case jmpl f => exact State.issue_wf_of_mem h fun u => jmplBody_mem ..
  case sret f => exact State.issue_wf_of_mem h fun u => sretBody_mem ..
  case sdone f => exact State.issue_wf_of_mem h fun u => sdoneBody_mem ..
  case dqpush f => exact State.issue_wf_of_mem h fun u => dqpushBody_mem ..
  case vgive f => exact State.issue_wf_of_mem h fun u => vgiveBody_mem ..
  case vclaim f => exact State.issue_wf_of_mem h fun u => vclaimBody_mem ..
  case abort f => exact State.issue_wf_of_mem h fun u => abortBody_mem ..
  case pollabt f => exact State.issue_wf_of_mem h fun u => pollabtBody_mem ..
  case ldsBM f => exact State.issue_wf_of_mem h fun u => ldsBody_mem ..
  case ldsXM f => exact State.issue_wf_of_mem h fun u => ldsBody_mem ..
  case stsBM f => exact State.issue_wf_of_mem h fun u => stsBody_mem ..
  case stsXM f => exact State.issue_wf_of_mem h fun u => stsBody_mem ..
  case ldlq f => exact State.issue_wf_of_mem h fun u => ldlqBody_mem ..
  case crangeOpen f => exact State.issue_wf_of_mem h fun u => by simp
  case crangeClose f => exact State.issue_wf_of_mem h fun u => by simp
  case phrelBS f => exact State.issue_wf_of_mem h fun u => phaseBody_mem ..
  case phrelXM f => exact State.issue_wf_of_mem h fun u => phaseBody_mem ..
  case phacqBS f => exact State.issue_wf_of_mem h fun u => phaseBody_mem ..
  case phacqXM f => exact State.issue_wf_of_mem h fun u => phaseBody_mem ..
  case phaseBS f => exact State.issue_wf_of_mem h fun u => phaseBody_mem ..
  case phaseXM f => exact State.issue_wf_of_mem h fun u => phaseBody_mem ..
  case consume f => exact State.issue_wf h fun u hu => consumeBody_wf (h := hu) ..
  case rnext f => exact State.issue_wf_of_mem h fun u => rnextBody_mem ..
  case launch f => exact State.issue_wf h fun u hu => launchBody_wf (h := hu) ..
  case cpy f => exact State.issue_wf_of_mem h fun u => jobBody_mem ..
  case coll f => exact State.issue_wf_of_mem h fun u => jobBody_mem ..
  case wait f => exact State.issue_wf_of_mem h fun u => waitBody_mem ..
  case seminc f => exact State.issue_wf_of_mem h fun u => signalBody_mem ..
  case semset f => exact State.issue_wf_of_mem h fun u => signalBody_mem ..
  case semwait f => exact State.issue_wf_of_mem h fun u => semwaitBody_mem ..
  case barinit f => exact State.issue_wf_of_mem h fun u => signalBody_mem ..
  case bararr f => exact State.issue_wf_of_mem h fun u => signalBody_mem ..
  case barexp f => exact State.issue_wf_of_mem h fun u => signalBody_mem ..
  case barwait f => exact State.issue_wf_of_mem h fun u => barwaitBody_mem ..
  case joinset f => exact State.issue_wf_of_mem h fun u => signalBody_mem ..
  case joinadd f => exact State.issue_wf_of_mem h fun u => signalBody_mem ..
  case joindec f => exact State.issue_wf_of_mem h fun u => signalBody_mem ..
  case trap f => exact State.issue_wf_of_mem h fun u => by simp
  case eret f => exact State.issue_wf_of_mem h fun u => eretBody_mem ..
  case rdsr f => exact State.issue_wf_of_mem h fun u => rdsrBody_mem ..
  case wrsr f => exact State.issue_wf_of_mem h fun u => wrsrBody_mem ..
  case rdlead f => exact State.issue_wf_of_mem h fun u => rdleadBody_mem ..
  case wrlead f => exact State.issue_wf_of_mem h fun u => wrleadBody_mem ..
  case yield f => exact State.issue_wf_of_mem h fun u => yieldBody_mem ..
  case sleep f => exact State.issue_wf_of_mem h fun u => sleepBody_mem ..

/-! ## Turns and steps -/

/-- A turn of another agent is an event, or one of the four steps of the round that have no instruction. -/
theorem State.agentStep_wf (s : State) (x : AgentStep) (a b c : Nat) (h : Memory.wf s.mem = true) :
    Leaves (fun t => Memory.wf t.mem = true) (s.agentStep x a b c) := by
  cases x with
  | migrationForward => exact exec_wf (.migrationForward a) s h
  | homeLoad => exact exec_wf (.homeLoad a) s h
  | homeStore => exact exec_wf (.homeStore a) s h
  | homeAtom => exact exec_wf (.homeAtom a) s h
  | fillReceive => exact exec_wf (.fillReceive a) s h
  | updateReceive => exact exec_wf (.updateReceive a) s h
  | pushReceive => exact exec_wf (.pushReceive a) s h
  | rangeOpenNotice => exact exec_wf (.rangeOpenNotice a) s h
  | foldProbe => exact exec_wf (.foldProbe a) s h
  | loadReturn => exact exec_wf (.loadReturn a) s h
  | pushReply => exact exec_wf (.pushReply a) s h
  | deregistration => exact exec_wf (.deregistration a) s h
  | rangeNoticeReply => exact exec_wf (.rangeNoticeReply a) s h
  | holderRegister => exact exec_wf (.holderRegister a) s h
  | evictedPartial => exact exec_wf (.evictedPartial a) s h
  | storeAck => exact exec_wf (.storeAck a) s h
  | signalApply => exact exec_wf (.signalApply a) s h
  | joinRecordArrival => exact exec_wf (.joinRecordArrival a) s h
  | recordEnqueue => exact exec_wf (.recordEnqueue a) s h
  | migrationInstall => exact exec_wf (.migrationInstall a) s h
  | stealArrival => exact exec_wf (.stealArrival a) s h
  | lqFill => exact exec_wf (.lqFill a b) s h
  | trapEntry => exact exec_wf (.trapEntry a b) s h
  | faultWithoutHandler => exact exec_wf (.faultWithoutHandler a b) s h
  | waveRetire => exact exec_wf (.waveRetire a b) s h
  | consumeRetry => exact exec_wf (.consumeRetry a b) s h
  | couplingDeadlock => exact exec_wf (.couplingDeadlock a b) s h
  | waitLimit => exact exec_wf (.waitLimit a b) s h
  | sleepExpiryLead => exact exec_wf (.sleepExpiry a b .lead) s h
  | sleepExpiryLane => exact exec_wf (.sleepExpiry a b .lane) s h
  | yieldExpiryLead => exact exec_wf (.yieldExpiry a b .lead) s h
  | yieldExpiryLane => exact exec_wf (.yieldExpiry a b .lane) s h
  | starvationPromoteC => exact exec_wf (.starvationPromoteC a b) s h
  | starvationPromoteP => exact exec_wf (.starvationPromoteP a b) s h
  | matrixEntryTake => exact exec_wf (.matrixEntryTake a) s h
  | matrixEntryCommit => exact exec_wf (.matrixEntryCommit a b) s h
  | msigArrival => exact exec_wf (.msigArrival a b) s h
  | workRequest => exact exec_wf (.workRequest a) s h
  | deadAgentTimeout => exact exec_wf (.deadAgentTimeout a) s h
  | blockStart => exact exec_wf (.blockStart a) s h
  | blockSave => exact exec_wf (.blockSave a) s h
  | blockRestore => exact exec_wf (.blockRestore a) s h
  | barrierCompletesAgain => exact exec_wf (.barrierCompletesAgain a b c) s h
  | queueSpillReturn => exact exec_wf (.queueSpillReturn a b) s h
  | batchClose => exact exec_wf (.batchClose a b) s h
  | batchMaxwaitExpiry => exact exec_wf (.batchMaxwaitExpiry a b) s h
  | rangeRecordBind => exact exec_wf (.rangeRecordBind a b) s h
  | stealCheck => exact exec_wf (.stealCheck a b) s h
  | rasteriseTriangle => exact exec_wf (.rasteriseTriangle a b) s h
  | rayTraverse => exact exec_wf (.rayTraverse a b) s h
  | matrixJobRun => exact exec_wf (.matrixJobRun a b) s h
  | copyJobRun => exact exec_wf (.copyJobRun a b) s h
  | jobStart => exact exec_wf (.jobStart a b) s h
  | jobComplete => exact exec_wf (.jobComplete a b) s h
  | remoteWriteCount => exact exec_wf (.remoteWriteCount a b) s h
  | migrationPointerRetire => exact exec_wf (.migrationPointerRetire a) s h
  | batchAdmit => exact exec_wf (.batchAdmit a) s h
  | blockReserve => exact exec_wf (.blockReserve a) s h
  | reservationWaitExpiry => exact exec_wf (.reservationWaitExpiry a) s h
  | jobPageTimeout => exact exec_wf (.jobPageTimeout a) s h
  | foldComplete => exact exec_wf (.foldComplete a) s h
  | bootstageAdvance => exact exec_wf (.bootstageAdvance true 0) s h
  | codePageCheck => exact exec_wf (.codePageCheck a b) s h
  | scanoutVblank => exact exec_wf (.scanoutVblank a) s h
  | sensorBarrierArrival => exact exec_wf (.sensorBarrierArrival a) s h
  | biasSettle => exact exec_wf (.biasSettle a) s h
  | cbStepUpdate => exact exec_wf (.cbStepUpdate a) s h
  | chargeBucketRefill => exact exec_wf (.chargeBucketRefill a) s h
  | commandTake => exact State.commandTake_wf s h
  | thermalHandler => exact wf_of_mem (State.thermalHandler_mem s) h
  | endBarriers => exact wf_of_mem (State.endBarriers_mem s) h
  | serveClaims => exact wf_of_mem (State.coreClaims_mem s a) h

theorem State.runFocus_wf (s : State) (h : Memory.wf s.mem = true) :
    Leaves (fun t => Memory.wf t.mem = true) s.runFocus := by
  unfold State.runFocus
  split
  · exact h
  · have hfetched := wf_of_mem (State.fetched_mem s) h
    split
    · exact State.stopFetch_wf s _ h
    · split
      · exact State.undecoded_wf _ _ hfetched
      · exact exec_wf _ _ hfetched

/-- A stream that is only judged leaves memory as it is: of the run that judges it, its attempt and the requests to the
management core alone are kept (entry 1). -/
theorem State.judge_mem (s : State) (c slot : Nat) (st : Stream) : (s.judge c slot st).mem = s.mem := by
  unfold State.judge
  split
  · rfl
  · dsimp only
    split
    · exact State.modWave_mem ..
    · split <;> exact State.modWave_mem ..

theorem State.judgeAll_mem (s : State) (c : Nat) (slots : List Nat) : (s.judgeAll c slots).mem = s.mem := by
  induction slots generalizing s with
  | nil => rfl
  | cons x rest ih => rw [State.judgeAll, ih, State.judge_mem, State.judge_mem]

theorem State.fillSlot_wf (s : State) (c : Nat) (st : Stream) (slots : List Nat) (h : Memory.wf s.mem = true) :
    Leaves (fun t => Memory.wf t.mem = true) (s.fillSlot c st slots) := by
  induction slots generalizing s with
  | nil => exact h
  | cons x rest ih =>
    rw [State.fillSlot]
    split
    · exact ih s h
    · next s' hfocus =>
      have hrun := State.runFocus_wf s' (wf_of_mem (State.focus_mem s _ _ _ _ hfocus) h)
      split
      · next t ht =>
        rw [ht] at hrun
        split
        · exact ih _ hrun
        · exact wf_of_mem (State.modWave_mem ..) hrun
      · exact hrun

theorem State.turn_wf (s : State) (t : Turn) (h : Memory.wf s.mem = true) :
    Leaves (fun t => Memory.wf t.mem = true) (s.turn t) := by
  cases t with
  | issue core slot st =>
    rw [State.turn]
    split
    · next hfocus => exact State.runFocus_wf _ (wf_of_mem (State.focus_mem s _ _ _ _ hfocus) h)
    · exact h
  | ready c => exact wf_of_mem (State.judgeAll_mem ..) h
  | slot c st => exact State.fillSlot_wf s c st _ h
  | hold c slot =>
    rw [State.turn]
    split
    · next hfocus => exact wf_of_mem ((State.holdStep_mem _).trans (State.focus_mem s _ _ _ _ hfocus)) h
    · exact h
  | msg id =>
    rw [State.turn]
    split
    · exact State.agentStep_wf s _ _ _ _ h
    · exact h
  | event i =>
    rw [State.turn]
    split
    · exact h
    · exact exec_wf i s h
  | agent x a b c => exact State.agentStep_wf s x a b c h
  | time ns => exact wf_of_mem (State.passTime_mem s ns) h

/-- EVERY STEP KEEPS THE CANONICAL FORM. -/
theorem step_wf (s : State) (h : Memory.wf s.mem = true) : Leaves (fun t => Memory.wf t.mem = true) (step s) := by
  unfold step
  split
  · exact State.turn_wf _ _ h
  · split
    · exact State.turn_wf _ _ h
    · exact h

/-- Settles O57: a step is a turn of the agenda, a turn runs instructions, events and steps of agents, and each of
them either leaves memory as it is or writes it through the writes that keep its form. -/
theorem memoryCanonicalKept : Obligations.MemoryCanonicalKept := by
  unfold Obligations.MemoryCanonicalKept
  intro s t h hstep
  have hkept := step_wf s h
  rwa [hstep] at hkept

end Sys2Proof.Machine
end

section

/-! # Commands on cores, contexts, pages, faults and faulted blocks

A command of the ring passes its gate (stage, reserved fields, the fields of its own) and then does one thing, and its answer
is one of two: the response written and the interrupt raised, or the response held back while a write is under way. `respond`
is that answer, so a clause that names the state after a command is an equation of it; a clause that says less follows from a
frame: what the steps before the answer leave of the ring (`RingKept`), and what the answer leaves of the rest (`RingOnly`). -/

namespace Sys2Proof.Machine
open Sys2Proof.Claims

/-! ## The response (20 R431) -/

theorem writesPending_iff (s : State) : s.writesPending = true ↔ ∃ a ∈ s.acks, a.tell = .host ∨ a.tell = .none := by
  simp [State.writesPending]

/-- The response of a command of the ring. -/
theorem respond_eq_answer {s : State} (hq : s.queueCmd = none) (c status reason data : Nat) :
    s.respond c status reason data = answer s c status reason data := by
  rw [State.respond, answer]
  by_cases hw : s.writesPending = true
  · rw [if_pos hw, if_pos ((writesPending_iff s).1 hw)]
  · rw [if_neg hw, if_neg (fun h => hw ((writesPending_iff s).2 h)), State.respondNow, hq]
    simp only [State.raiseMsix, State.bar0Put, rspSlot, responseOf, opcodeOf, hq]

theorem done_eq_answer {s : State} (hq : s.queueCmd = none) (c data : Nat) : s.done c data = answer s c 0 0 data :=
  respond_eq_answer hq c 0 0 data

theorem refuseFor_eq_answer {s : State} {op c : Nat} (hq : s.queueCmd = none) (hop : bits c 0 8 = op) (cause : Nat) :
    s.refuseFor c cause = answer s c 3 (Config.refusalCode op cause).toNat 0 := by
  rw [← hop]
  exact respond_eq_answer hq c 3 _ 0

/-- Only the registers of the ring differ, with the responses written and the interrupts raised. -/
def RingOnly (s t : State) : Prop :=
  t = { s with bar0 := t.bar0, rsptail := t.rsptail, cmdhead := t.cmdhead, busy := t.busy, msix := t.msix }

theorem ringOnly_answer (s : State) (c status reason data : Nat) : RingOnly s (answer s c status reason data) := by
  unfold answer
  split <;> rfl

theorem ringOnly_done {s : State} (hq : s.queueCmd = none) (c data : Nat) : RingOnly s (s.done c data) := by
  rw [done_eq_answer hq]
  exact ringOnly_answer s c 0 0 data

theorem RingOnly.blocks {s t : State} (h : RingOnly s t) : t.blocks = s.blocks := by rw [h]
theorem RingOnly.graph {s t : State} (h : RingOnly s t) : t.graph = s.graph := by rw [h]
theorem RingOnly.contexts {s t : State} (h : RingOnly s t) : t.contexts = s.contexts := by rw [h]
theorem RingOnly.cores {s t : State} (h : RingOnly s t) : t.cores = s.cores := by rw [h]
theorem RingOnly.die {s t : State} (h : RingOnly s t) (d : Nat) : t.die d = s.die d := by rw [h]; rfl

theorem answered_answer {s u : State} (hr : u.rsptail = s.rsptail) (hc : u.cmdhead = s.cmdhead) (c data : Nat) :
    Answered s (answer u c 0 0 data) := by
  unfold answer
  split
  · exact .inr ⟨data, rfl, hr, hc⟩
  · exact .inl ⟨rfl, congrArg (fun x => (x + 1) % 2 ^ 32) hr, congrArg (fun x => (x + 1) % 2 ^ 32) hc⟩

/-! ## A command taken (20 R432, R434) -/

theorem onCommand_of {s : State} {c : Nat} {mine : Nat → Bool} (f : Nat → State → State) (hc : s.command = some c)
    (hm : mine c = true) : s.onCommand mine f = f c s := by
  rw [State.onCommand, hc]
  exact if_pos hm

theorem gate_of {s : State} {c stage : Nat} {fields : List (Nat × Nat)} {bad : Bool} (k : State → State)
    (hstage : s.bootstage ≥ stage) (hrsvd : rsvdSet c fields = false) (hbad : bad = false) :
    s.gate c stage fields bad k = k s := by
  rw [State.gate, if_neg (by omega), if_neg (by simp [hrsvd, hbad])]

/-- A command taken while none is under way. -/
theorem busy_of_command {s : State} {c : Nat} (h : s.command = some c) : s.busy = none := by
  unfold State.command at h
  split at h
  · next hready =>
    simp only [Bool.and_eq_true, Option.isNone_iff_eq_none] at hready
    exact hready.1.1.2
  · cases h

theorem onGraph_current {s : State} {g : Graph} {id : Nat} (f : State → State) (hg : s.graph = some g) (hid : g.id = id) :
    s.onGraph id f = some (f s) := by
  rw [State.onGraph, if_pos (by simp [hg, hid])]

theorem forGraph_current {s : State} {g : Graph} {c : Nat} (f : State → State) (hg : s.graph = some g)
    (hid : g.id = bits c 64 32) : s.forGraph c f = f s := by
  rw [State.forGraph, graphIdOf, onGraph_current f hg hid]
  rfl

/-! ## VACATE_CORES (17 R396) -/

/-- Only the blocks and the waves' marks of them differ. -/
def BlocksOnly (s t : State) : Prop := t = { s with w := t.w, waves := t.waves, blocks := t.blocks }

theorem BlocksOnly.trans {s t u : State} (h : BlocksOnly s t) (h' : BlocksOnly t u) : BlocksOnly s u := by
  unfold BlocksOnly at *; rw [h', h]

theorem BlocksOnly.mem {s t : State} (h : BlocksOnly s t) : t.mem = s.mem := by rw [h]
theorem BlocksOnly.graph {s t : State} (h : BlocksOnly s t) : t.graph = s.graph := by rw [h]

theorem blocksOnly_vacate (s : State) (l : List Block) : BlocksOnly s (s.vacate l) := by
  induction l generalizing s with
  | nil => rfl
  | cons b rest ih => exact BlocksOnly.trans (by rfl) (ih _)

/-- Where the blocks of one key are changed, those of a key have a property that the change gives, or that they had. -/
theorem changed_of_key {P : Block → Prop} {f : Block → Block} {k k' : BKey} {l : List Block} (hf : ∀ b, P (f b))
    (hkey : ∀ b, (f b).key = b.key) (h : k' = k ∨ ∀ x ∈ l, x.key = k → P x) :
    ∀ x ∈ l.map (fun x => if x.key = k' then f x else x), x.key = k → P x := by
  intro x hx hk
  obtain ⟨y, hy, rfl⟩ := List.mem_map.1 hx
  by_cases hy' : y.key = k'
  · rw [if_pos hy']
    exact hf y
  · rw [if_neg hy'] at hk ⊢
    rcases h with rfl | h
    · exact absurd hk hy'
    · exact h y hy hk

/-- A block stopped for VACATE_CORES. -/
def Block.vacated (b : Block) : Block := { b with status := .saving false none, vacate := true }

theorem blocks_vacated (s : State) (b : Block) :
    ((s.stopBlock b.key false none).modBlock b.key (fun b => { b with vacate := true })).blocks
      = s.blocks.map (fun x => if x.key = b.key then x.vacated else x) := by
  simp only [State.modBlock, State.stopBlock, List.map_map]
  refine List.map_congr_left fun x _ => ?_
  by_cases hx : x.key = b.key <;> simp [hx, Block.vacated]

/-- Every block of a key in the list is stopped and marked. -/
theorem vacate_stops {k : BKey} {s : State} {l : List Block}
    (h : (∃ b ∈ l, b.key = k) ∨ ∀ x ∈ s.blocks, x.key = k → x.status = .saving false none ∧ x.vacate = true) :
    ∀ x ∈ (s.vacate l).blocks, x.key = k → x.status = .saving false none ∧ x.vacate = true := by
  induction l generalizing s with
  | nil => simpa [State.vacate] using h
  | cons b rest ih =>
    refine ih ?_
    by_cases hrest : ∃ b ∈ rest, b.key = k
    · exact .inl hrest
    · rw [blocks_vacated]
      refine .inr (changed_of_key (f := Block.vacated) (fun _ => ⟨rfl, rfl⟩) (fun _ => rfl) ?_)
      refine h.imp_left ?_
      rintro ⟨x, hx, hk⟩
      rcases List.mem_cons.1 hx with rfl | hx
      · exact hk
      · exact absurd ⟨x, hx, hk⟩ hrest

section
variable {s : State} {c : Nat} {g : Graph} {n : Node} (hg : s.graph = some g) (hid : g.id = bits c 64 32)
  (hc : Command s c 0x15 3 [(64, 32), (96, 16), (112, 8)]) (hn : s.node? (bits c 96 16) = some n)
  (h191 : bits c 112 8 ≤ 191)
include hg hid hc hn h191

theorem vacateCores_acts : vacateCoresStep s =
    if n.deadline then s.refuseFor c 2
    else if bits c 112 8 = 0 then
      ({ s with dies := s.dies.map (fun d => { d with excluded := d.excluded.filter (fun p => p.1 != bits c 96 16) }) } :
        State).done c 0
    else s.vacateCores c (bits c 96 16) (bits c 112 8) n := by
  obtain ⟨hcmd, -, hop, hstage, hrsvd⟩ := hc
  rw [vacateCoresStep, if_neg (by simp [busy_of_command hcmd]), onCommand_of _ hcmd (by simp [opcodeOf, hop])]
  dsimp only
  rw [gate_of _ hstage hrsvd (by simpa using h191), forGraph_current _ hg hid]
  simp only [hn]

theorem vacateCores_refused (hd : n.deadline = true) :
    Steps .vacateCores s (answer s c 3 (Config.refusalCode 0x15 2).toNat 0) := by
  refine congrArg Host.Outcome.next ?_
  rw [vacateCores_acts hg hid hc hn h191, if_pos hd, refuseFor_eq_answer hc.2.1 hc.2.2.1]

theorem vacateCores_lifts (hd : n.deadline = false) (hnone : bits c 112 8 = 0) : Steps .vacateCores s (answer { s with
    dies := s.dies.map (fun d => { d with excluded := d.excluded.filter (fun p => p.1 != bits c 96 16) }) } c 0 0 0) := by
  refine congrArg Host.Outcome.next ?_
  rw [vacateCores_acts hg hid hc hn h191, hd, if_neg Bool.false_ne_true, if_pos hnone]
  exact done_eq_answer (by exact hc.2.1) c 0

theorem vacateCores_begins (hd : n.deadline = false) (hsome : bits c 112 8 ≠ 0) :
    Steps .vacateCores s (s.vacateCores c (bits c 96 16) (bits c 112 8) n) := by
  refine congrArg Host.Outcome.next ?_
  rw [vacateCores_acts hg hid hc hn h191, hd, if_neg Bool.false_ne_true, if_neg hsome]
end

/-- The n highest cores that hold blocks of a node. -/
def State.highest (s : State) (node n : Nat) : List Nat :=
  (((List.range 192).filter (fun c => (s.blocks.filter (fun b => b.key.node == node && b.onCores)).any
    (fun b => b.onCore c))).reverse).take n

/-- The blocks that stand on the cores to be vacated. -/
def State.onHighest (s : State) (node k : Nat) : List Block :=
  s.blocks.filter (fun b => b.resident && (s.highest node k).any b.onCore)

/-- The cores excluded for their node, and their blocks stopped with their groups. -/
def State.vacated (s : State) (node k : Nat) : State :=
  let u := s.vacate (s.blocks.filter (fun b => b.resident && ((s.onHighest node k).flatMap s.groupOf).contains b.key))
  { u with dies := u.dies.zipIdx.map (fun p =>
      { p.1 with excluded :=
          p.1.excluded ++ (((s.highest node k).filter (fun c => dieOf c == p.2)).map (fun c => (node, c))) }) }

theorem State.vacateCores_eq (s : State) (c node k : Nat) (n : Node) : s.vacateCores c node k n =
    if n.deadline then s.refuseFor c 2
    else if !(s.blocks.filter (fun b => b.key.node == node)).all (s.spanLeft n (s.highest node k ++ s.excludedOf node)) then
      s.refuseFor c 3
    else if s.onHighest node k = [] then (s.vacated node k).done c ((s.vacated node k).exclOf node)
    else { s.vacated node k with busy := some .vacate } := rfl

theorem vacateCores_noSpan {s : State} {c node k : Nat} {n : Node} (hd : n.deadline = false)
    (h : ∃ b ∈ s.blocks, b.key.node = node ∧ s.spanLeft n (s.highest node k ++ s.excludedOf node) b = false) :
    s.vacateCores c node k n = s.refuseFor c 3 := by
  obtain ⟨b, hb, hnode, hspan⟩ := h
  rw [State.vacateCores_eq, hd, if_neg Bool.false_ne_true, if_pos]
  simp only [Bool.not_eq_true', List.all_eq_false]
  exact ⟨b, List.mem_filter.2 ⟨hb, by simpa using hnode⟩, by simpa using hspan⟩

/-- The cores are excluded and their blocks stopped, with their groups; the response waits for the saves. -/
theorem vacateCores_stops {s : State} {c node k : Nat} {n : Node} (hd : n.deadline = false)
    (hspan : ∀ b ∈ s.blocks, b.key.node = node → s.spanLeft n (s.highest node k ++ s.excludedOf node) b = true)
    (hhit : ∃ b ∈ s.blocks, b.resident = true ∧ (s.highest node k).any b.onCore = true) :
    s.vacateCores c node k n = { s.vacated node k with busy := some .vacate } := by
  obtain ⟨b, hb, hres, hon⟩ := hhit
  have hne : s.onHighest node k ≠ [] :=
    List.ne_nil_of_mem (List.mem_filter.2 ⟨hb, by simp only [hres, hon, Bool.and_self]⟩)
  rw [State.vacateCores_eq, hd, if_neg Bool.false_ne_true, if_neg, if_neg hne]
  simp only [Bool.not_eq_true', Bool.not_eq_false, List.all_eq_true, List.mem_filter, beq_iff_eq, and_imp]
  exact hspan

theorem State.vacated_mem (s : State) (node k : Nat) : (s.vacated node k).mem = s.mem :=
  (State.vacate_mem s _)

theorem vacated_stops {s : State} {node k : Nat} {b : Block} (hb : b ∈ s.blocks) (hres : b.resident = true)
    (hon : (s.highest node k).any b.onCore = true) (hgroup : b.key ∈ s.groupOf b) :
    ∀ x ∈ (s.vacated node k).blocks, x.key = b.key → x.status = .saving false none ∧ x.vacate = true := by
  refine vacate_stops (.inl ⟨b, List.mem_filter.2 ⟨hb, ?_⟩, rfl⟩)
  have hhit : b ∈ s.onHighest node k := List.mem_filter.2 ⟨hb, by simp only [hres, hon, Bool.and_self]⟩
  simp only [hres, Bool.true_and, List.contains_iff_mem, List.mem_flatMap]
  exact ⟨b, hhit, hgroup⟩

theorem vacateCores_ends {s : State} (hbusy : s.busy = some .vacate) (hq : s.queueCmd = none) : Steps .vacateCores s
    (if s.vacating = true ∨ s.mgmtHalted = true then s else
      answer s s.headRecord 0 0 (s.exclOf (bits s.headRecord 96 16))) := by
  refine congrArg Host.Outcome.next ?_
  rw [vacateCoresStep, if_pos hbusy, done_eq_answer hq]
  exact if_congr (by simp) rfl rfl

/-! ## SWITCH_CONTEXT (17 R397) -/

section
variable {s : State} {c : Nat} (hc : Command s c 0x16 3 [(64, 32), (96, 32), (128, 48), (176, 32)])
  (hpa : bits c 128 48 % 16384 = 0) (hbacked : backedRange (bits c 128 48) (16384 * bits c 176 32) = true)
include hc hpa hbacked

theorem switchContext_acts : switchContextStep s =
    match s.graph, s.contexts.find? (fun x => x.graph.id == bits c 96 32) with
    | none, some x =>
      if bits c 64 32 ≠ 0xFFFFFFFF then s.refuseFor c 1
      else if s.quiet then (s.emptyL1s.takeIn x).done c 0
      else s
    | some g, some _ => if g.id = bits c 64 32 then s.switchStart c g else s.refuseFor c 1
    | _, none => s.refuseFor c 2 := by
  obtain ⟨hcmd, -, hop, hstage, hrsvd⟩ := hc
  rw [switchContextStep, busy_of_command hcmd]
  refine (onCommand_of _ hcmd (by simp [opcodeOf, hop])).trans ?_
  exact gate_of _ hstage hrsvd (by simp [hpa, hbacked])

theorem switchContext_unknown (hx : s.contexts.find? (fun x => x.graph.id == bits c 96 32) = none) :
    Steps .switchContext s (answer s c 3 (Config.refusalCode 0x16 2).toNat 0) := by
  refine congrArg Host.Outcome.next ?_
  rw [switchContext_acts hc hpa hbacked, hx, ← refuseFor_eq_answer hc.2.1 hc.2.2.1]
  cases s.graph <;> rfl

theorem switchContext_waits {x : Context} (hg : s.graph = none)
    (hx : s.contexts.find? (fun x => x.graph.id == bits c 96 32) = some x) (hid : bits c 64 32 = 0xFFFFFFFF)
    (hquiet : s.quiet = false) : Steps .switchContext s s := by
  refine congrArg Host.Outcome.next ?_
  rw [switchContext_acts hc hpa hbacked, hx, hg]
  dsimp only
  rw [if_neg (not_not_intro hid), hquiet, if_neg Bool.false_ne_true]

theorem switchContext_takes {x : Context} (hg : s.graph = none)
    (hx : s.contexts.find? (fun x => x.graph.id == bits c 96 32) = some x) (hid : bits c 64 32 = 0xFFFFFFFF)
    (hquiet : s.quiet = true) : Steps .switchContext s (answer (s.emptyL1s.takeIn x) c 0 0 0) := by
  refine congrArg Host.Outcome.next ?_
  rw [switchContext_acts hc hpa hbacked, hx, hg]
  dsimp only
  rw [if_neg (not_not_intro hid), if_pos hquiet]
  exact done_eq_answer (by exact hc.2.1) c 0

theorem switchContext_starts {x : Context} {g : Graph} (hg : s.graph = some g)
    (hx : s.contexts.find? (fun x => x.graph.id == bits c 96 32) = some x) (hid : g.id = bits c 64 32) :
    Steps .switchContext s (s.switchStart c g) := by
  refine congrArg Host.Outcome.next ?_
  rw [switchContext_acts hc hpa hbacked, hx, hg]
  exact if_pos hid
end

/-- What a context brought onto the device leaves of the one before: its graph, its blocks, and no line or leaf of a core. -/
theorem takeIn_brings (s : State) (x : Context) : (s.takeIn x).graph = some x.graph ∧ (s.takeIn x).blocks = x.blocks
    ∧ (∀ y ∈ (s.takeIn x).contexts, y.graph.id ≠ x.graph.id) ∧ ∀ y ∈ (s.takeIn x).cores, y.tlb = [] := by
  refine ⟨rfl, rfl, fun y hy => ?_, fun y hy => ?_⟩
  · simpa using (List.mem_filter.1 hy).2
  · obtain ⟨z, -, rfl⟩ := List.mem_map.1 hy
    rfl

theorem takeIn_l1 {s : State} (x : Context) (h : ∀ y ∈ s.cores, y.l1 = []) : ∀ y ∈ (s.takeIn x).cores, y.l1 = [] := by
  intro y hy
  obtain ⟨z, hz, rfl⟩ := List.mem_map.1 hy
  exact h z hz

theorem emptyL1s_l1 (s : State) : ∀ y ∈ s.emptyL1s.cores, y.l1 = [] := by
  intro y hy
  obtain ⟨z, -, rfl⟩ := List.mem_map.1 hy
  rfl

/-! ### A switch begun -/

theorem blocksOnly_saveAll (s : State) (a : Nat) (l : List Block) : BlocksOnly s (s.saveAll a l) := by
  induction l generalizing s a with
  | nil => rfl
  | cons b rest ih => exact BlocksOnly.trans (by rfl) (ih _ _)

/-- Every block of a key in the list is stopped, with a place for its image. -/
theorem saveAll_stops {k : BKey} {s : State} {a : Nat} {l : List Block}
    (h : (∃ b ∈ l, b.key = k) ∨ ∀ x ∈ s.blocks, x.key = k → ∃ a, x.status = .saving false (some a)) :
    ∀ x ∈ (s.saveAll a l).blocks, x.key = k → ∃ a, x.status = .saving false (some a) := by
  induction l generalizing s a with
  | nil => simpa [State.saveAll] using h
  | cons b rest ih =>
    refine ih ?_
    by_cases hrest : ∃ b ∈ rest, b.key = k
    · exact .inl hrest
    · refine .inr (changed_of_key (f := fun b => { b with status := .saving false (some a) }) (fun _ => ⟨a, rfl⟩)
        (fun _ => rfl) ?_)
      refine h.imp_left ?_
      rintro ⟨x, hx, hk⟩
      rcases List.mem_cons.1 hx with rfl | hx
      · exact hk
      · exact absurd ⟨x, hx, hk⟩ hrest

/-- The pages that a switch needs of its save area (entry 30). -/
def State.switchNeed (s : State) : Nat := ceilDiv (s.imageSize (s.blocks.filter Block.resident) + s.tableSize) 16384

theorem State.switchStart_eq (s : State) (c : Nat) (g : Graph) : s.switchStart c g =
    if s.switchNeed > bits c 176 32 then
      s.respond c 3 (Config.refusalCode 0x16 3).toNat (s.switchNeed % 2 ^ 32 * 2 ^ 96)
    else { (s.modGraph (fun g => { g with running := false })).saveAll (bits c 128 48) (s.blocks.filter Block.resident) with
      busy := some (.switch g.running s.switchNeed) } := rfl

theorem switchStart_begins {s : State} {c : Nat} {g : Graph} (hroom : s.switchNeed ≤ bits c 176 32) :
    (s.switchStart c g).busy = some (.switch g.running s.switchNeed) ∧ MemKept s (s.switchStart c g)
      ∧ (∀ h, (s.switchStart c g).graph = some h → h.running = false)
      ∧ ∀ b ∈ s.blocks, b.resident = true → ∀ y ∈ (s.switchStart c g).blocks, y.key = b.key →
          ∃ a, y.status = .saving false (some a) := by
  rw [State.switchStart_eq, if_neg (Nat.not_lt.2 hroom)]
  have honly := blocksOnly_saveAll (s.modGraph (fun g => { g with running := false })) (bits c 128 48)
    (s.blocks.filter Block.resident)
  refine ⟨rfl, fun a => ?_, fun h hh => ?_, fun b hb hres => ?_⟩
  · exact congrArg (memByte · a) honly.mem
  · obtain ⟨g', -, rfl⟩ := Option.map_eq_some_iff.1 (honly.graph.symm.trans hh)
    rfl
  · exact saveAll_stops (.inl ⟨b, List.mem_filter.2 ⟨hb, hres⟩, rfl⟩)

/-! ### A switch completed -/

/-- Only what a home's answers reach and the copies in the cores differ. -/
def FoldOnly (s t : State) : Prop := t = { s with
  nextId := t.nextId, mem := t.mem, dir := t.dir, net := t.net, acks := t.acks, handoffs := t.handoffs, dies := t.dies,
  cores := t.cores }

theorem FoldOnly.trans {s t u : State} (h : FoldOnly s t) (h' : FoldOnly t u) : FoldOnly s u := by
  unfold FoldOnly at *; rw [h', h]

theorem HomeOnly.foldOnly {s t : State} (h : HomeOnly s t) : FoldOnly s t := by
  unfold HomeOnly at h; unfold FoldOnly; rw [h]

theorem foldOnly_giveUpAll (s : State) (line : Nat) (cs : List Nat) : FoldOnly s (s.giveUpAll line cs) := by
  induction cs generalizing s with
  | nil => rfl
  | cons c rest ih =>
    refine FoldOnly.trans ?_ (ih _)
    unfold State.giveUp
    cases (s.core c).line? line with
    | none => rfl
    | some x =>
      dsimp only
      split <;> rfl

theorem homeOnly_modDir (s : State) (line : Nat) (f : DirEntry → DirEntry) : HomeOnly s (s.modDir line f) := rfl

theorem homeOnly_foldWrite (s : State) (line : Nat) : HomeOnly s (s.foldWrite line) := by
  unfold State.foldWrite
  split
  · rfl
  · dsimp only
    split
    · exact (homeOnly_modDir s line _).trans (homeOnly_modDir _ line _)
    · exact (homeOnly_modDir s line _).trans ((homeOnly_homeWrite _ _ _ _ _ _ _).trans (homeOnly_modDir _ line _))

theorem foldOnly_foldNow (s : State) (line : Nat) : FoldOnly s (s.foldNow line) :=
  (foldOnly_giveUpAll s line _).trans (FoldOnly.trans (by rfl) (homeOnly_foldWrite _ line).foldOnly)

theorem foldOnly_foldAll (s : State) (ls : List Nat) : FoldOnly s (s.foldAll ls) := by
  induction ls generalizing s with
  | nil => rfl
  | cons l rest ih =>
    refine FoldOnly.trans ?_ (ih _)
    split
    · exact foldOnly_foldNow s l
    · rfl

theorem homeOnly_hostLine (s : State) (die line : Nat) (data : List (Nat × Byte)) :
    HomeOnly s (s.hostLine die line data .host) := by
  unfold State.hostLine
  split
  · unfold State.addPartial
    split <;> rfl
  · exact homeOnly_homeWrite _ _ _ _ _ _ _

theorem homeOnly_hostWrite (s : State) (die : Nat) (bs : List Byte) (ps : List (Nat × Nat)) :
    HomeOnly s (s.hostWrite die bs .host ps) := by
  induction ps generalizing s bs with
  | nil => rfl
  | cons p rest ih => exact (homeOnly_hostLine _ _ _ _).trans (ih _ _)

theorem homeOnly_firmwareWrite (s : State) (pa : Nat) (bs : List Byte) : HomeOnly s (s.firmwareWrite pa bs) :=
  homeOnly_hostWrite _ _ _ _

section
variable {s : State} {running : Bool} {used : Nat} (hbusy : s.busy = some (.switch running used)) (hq : s.queueCmd = none)
include hbusy

theorem switchContext_held (h : s.quiet = false ∨ s.mgmtHalted = true) : Steps .switchContext s s := by
  refine congrArg Host.Outcome.next ?_
  rw [switchContextStep, hbusy]
  exact if_neg (by rcases h with h | h <;> simp [h])

theorem switchContext_ends (h : s.quiet = true) (hhalt : s.mgmtHalted = false) :
    Steps .switchContext s (s.switchEnd s.headRecord used running) := by
  refine congrArg Host.Outcome.next ?_
  rw [switchContextStep, hbusy]
  exact if_pos (by simp [h, hhalt])
end

theorem homeOnly_saveTables (s : State) (pa : Nat) : HomeOnly { s with fresh := s.fresh + 2 ^ 33 } (s.saveTables pa) :=
  homeOnly_hostWrite _ _ _ _

/-- The registers of the ring that a command's answer moves on are as before, and its record comes from the same place. -/
def RingKept (s t : State) : Prop := t.queueCmd = s.queueCmd ∧ t.rsptail = s.rsptail ∧ t.cmdhead = s.cmdhead

theorem RingKept.trans {s t u : State} (h : RingKept s t) (h' : RingKept t u) : RingKept s u :=
  ⟨h'.1.trans h.1, h'.2.1.trans h.2.1, h'.2.2.trans h.2.2⟩

theorem FoldOnly.ring {s t : State} (h : FoldOnly s t) : RingKept s t := by rw [h]; exact ⟨rfl, rfl, rfl⟩

theorem HomeOnly.ring {s t : State} (h : HomeOnly s t) : RingKept s t := h.foldOnly.ring

theorem HomeOnly.graph {s t : State} (h : HomeOnly s t) : t.graph = s.graph := by rw [h]
theorem HomeOnly.blocks {s t : State} (h : HomeOnly s t) : t.blocks = s.blocks := by rw [h]
theorem HomeOnly.cores {s t : State} (h : HomeOnly s t) : t.cores = s.cores := by rw [h]

/-- A command answered after steps that leave the ring alone. -/
theorem answered_done {s u : State} (h : RingKept s u) (hq : s.queueCmd = none) (c data : Nat) :
    Answered s (u.done c data) := by
  rw [done_eq_answer (h.1.trans hq)]
  exact answered_answer h.2.1 h.2.2 c data

/-- What the last steps of a switch put away: the tables saved and every L1 empty. -/
def State.switchSaved (s : State) (c used : Nat) : State :=
  ((s.foldAll (s.dir.map (fun p => p.1))).emptyL1s).saveTables (bits c 128 48 + 16384 * used - s.tableSize)

theorem switchSaved_ring (s : State) (c used : Nat) : RingKept s (s.switchSaved c used) :=
  (foldOnly_foldAll s _).ring.trans (RingKept.trans ⟨rfl, rfl, rfl⟩ (homeOnly_saveTables _ _).ring)

theorem switchSaved_l1 (s : State) (c used : Nat) : ∀ y ∈ (s.switchSaved c used).cores, y.l1 = [] := by
  rw [State.switchSaved, (homeOnly_saveTables _ _).cores]
  exact emptyL1s_l1 _

theorem switchEnd_eq {s : State} {c used : Nat} {running : Bool} {x : Context}
    (hx : s.contexts.find? (fun x => x.graph.id == bits c 96 32) = some x) : s.switchEnd c used running
      = (((s.switchSaved c used).putAway running).takeIn x).done c (used % 2 ^ 32 * 2 ^ 64) := by
  rw [State.switchEnd, hx]
  rfl

theorem takeIn_putAway_ring (s : State) (running : Bool) (x : Context) : RingKept s ((s.putAway running).takeIn x) :=
  ⟨rfl, rfl, rfl⟩

/-! ## MAP_PAGES and UNMAP_PAGES (15 R341 to R347; 20 R434) -/

/-- An aligned word lies in one line. -/
theorem lineParts_word {a : Nat} (ha : a % 8 = 0) : lineParts a 8 = [(a, 8)] := by
  have hline : (a + 8 - 1) / 128 - a / 128 + 1 = 1 := by omega
  have hle : a / 128 * 128 ≤ a := Nat.div_mul_le_self a 128
  have hlt : a + 8 ≤ (a / 128 + 1) * 128 := by omega
  rw [lineParts, if_neg (by decide), hline]
  simp [Nat.max_eq_left hle, Nat.min_eq_left hlt]

theorem hostLine_plain {s : State} {line : Nat} (h : s.lineState line ≠ .c) (die : Nat) (data : List (Nat × Byte)) :
    s.hostLine die line data .host = s.homeWrite die line data .host none [] := if_neg h

/-- A word that the firmware writes to a plain line. -/
theorem bytesPut_firmwareWrite {s : State} {a v : Nat} (ha : a % 8 = 0) (hplain : PlainLines s a 8) :
    BytesPut s (s.firmwareWrite a (leBytes v 8)) a (leBytes v 8) := by
  have hline : s.lineState (lineOf a) ≠ .c := (hplain (a, 8) (by rw [lineParts_word ha]; exact List.mem_singleton_self _)).1
  intro x
  have htake : (leBytes v 8).take 8 = leBytes v 8 := List.take_of_length_le (by simp)
  rw [State.firmwareWrite, leBytes_length, lineParts_word ha, State.hostWrite, State.hostWrite,
    hostLine_plain hline, memByte_homeWrite, htake, written_zipIdx s (lineOf_le a), leBytes_length]

section
variable {s : State} {c : Nat} {g : Graph} (hg : s.graph = some g) (hid : g.id = bits c 64 32)
  (hva : bits c 96 64 % leafStep (bit c 244) = 0) (htop : bits c 96 64 + leafStep (bit c 244) ≤ 2 ^ 47)
  (hone : bits c 208 32 = 1)
include hva htop hone

theorem mapRangeBad_page : mapRangeBad c = false := by
  have hpos : 0 < leafStep (bit c 244) := by unfold leafStep; split <;> decide
  rw [mapRangeBad, hone]
  simp only [decide_eq_false_iff_not]
  omega

include hg hid

theorem mapPages_maps {a : Nat} (hc : Command s c 0x17 3 [(64, 32), (96, 64), (160, 48), (208, 32), (240, 4), (244, 1)])
    (hpa : bits c 160 48 % leafStep (bit c 244) = 0) (hbacked : backedRange (bits c 160 48) (leafStep (bit c 244)) = true)
    (hwin : meet (bits c 96 64, leafStep (bit c 244)) (win0, 0x8000) = false)
    (harea : s.meetsArea (bits c 160 48) (leafStep (bit c 244)) = false)
    (hplace : ptPlace s.mem g.ptroot (bits c 96 64) (bit c 244) = .entry a)
    (htable : bit c 244 = true → memVal s.mem a 8 % 4 ≠ 1) :
    mapPagesStep s =
      let t := (s.firmwareWrite a (leBytes (3 + bits c 240 4 * 4 + bits c 160 48) 8)).clearTlbs.done c 0
      if t.busy.isSome then t else t.pagesMapped (bits c 96 64) (leafStep (bit c 244)) := by
  obtain ⟨hcmd, -, hop, hstage, hrsvd⟩ := hc
  have hmany : s.mapMany g.ptroot (bits c 96 64) (3 + bits c 240 4 * 4 + bits c 160 48) (bit c 244) 1
      = some (s.firmwareWrite a (leBytes (3 + bits c 240 4 * 4 + bits c 160 48) 8)) := by
    rw [State.mapMany, State.mapOne_succ, hplace, mapAt, if_neg]
    · rfl
    · simpa using htable
  rw [mapPagesStep, onCommand_of _ hcmd (by simp [opcodeOf, hop])]
  dsimp only
  rw [gate_of _ hstage hrsvd (by simp [mapRangeBad_page hva htop hone, hpa, hone, hbacked]), forGraph_current _ hg hid]
  simp only [hone, Nat.mul_one, hwin, harea, hg, hmany, Bool.false_eq_true, if_false]

theorem unmapPages_clears {a : Nat} (hc : Command s c 0x18 3 [(64, 32), (96, 64), (208, 32), (244, 1)])
    (hplace : ptPlace s.mem g.ptroot (bits c 96 64) (bit c 244) = .entry a) (hleaf : memVal s.mem a 8 % 4 = 3) :
    unmapPagesStep s = (s.firmwareWrite a (leBytes 0 8)).clearTlbs.done c 0 := by
  obtain ⟨hcmd, -, hop, hstage, hrsvd⟩ := hc
  have hmany (n : Nat) : s.unmapMany g.ptroot (bits c 96 64) n (bits c 96 64) (bit c 244) 1
      = some (s.firmwareWrite a (leBytes 0 8)) := by
    rw [State.unmapMany, hplace]
    dsimp only
    rw [if_pos hleaf]
    rfl
  rw [unmapPagesStep, onCommand_of _ hcmd (by simp [opcodeOf, hop])]
  dsimp only
  rw [gate_of _ hstage hrsvd (mapRangeBad_page hva htop hone), forGraph_current _ hg hid]
  simp only [hone, Nat.mul_one, hg, hmany]

end

/-- Every TLB is empty once a command has written a leaf entry and answered, and the ring has gone on. -/
theorem leafWritten {s : State} (hq : s.queueCmd = none) (a c : Nat) (bs : List Byte) :
    let t := (s.firmwareWrite a bs).clearTlbs.done c 0
    t.mem = (s.firmwareWrite a bs).mem ∧ t.graph = s.graph ∧ (∀ x ∈ t.cores, x.tlb = []) ∧ Answered s t := by
  have hring : RingKept s (s.firmwareWrite a bs).clearTlbs := (homeOnly_firmwareWrite s a bs).ring
  intro t
  have ht : t = answer (s.firmwareWrite a bs).clearTlbs c 0 0 0 := done_eq_answer (hring.1.trans hq) c 0
  have honly := ringOnly_answer (s.firmwareWrite a bs).clearTlbs c 0 0 0
  rw [← ht] at honly
  refine ⟨by rw [honly]; rfl, ?_, ?_, answered_done hring hq c 0⟩
  · rw [honly]
    exact (homeOnly_firmwareWrite s a bs).graph
  · rw [honly]
    intro x hx
    obtain ⟨y, -, rfl⟩ := List.mem_map.1 hx
    rfl

/-- What pages reported mapped leave: memory, the cores and the ring, and no record of a missing page among them. -/
theorem pagesMapped_leaves (s : State) (va n : Nat) :
    (s.pagesMapped va n).mem = s.mem ∧ (s.pagesMapped va n).cores = s.cores ∧ (s.pagesMapped va n).busy = s.busy
    ∧ (s.pagesMapped va n).rsptail = s.rsptail ∧ (s.pagesMapped va n).cmdhead = s.cmdhead
    ∧ ∀ g, s.graph = some g → ∀ f ∈ (s.pagesMapped va n).faults, f.graph = g.id → f.cause = none →
        inRange f.va va n = false := by
  refine ⟨rfl, rfl, rfl, rfl, rfl, fun g hg f hf hid hcause => ?_⟩
  have hhit := (List.mem_filter.1 hf).2
  simpa [hcause, State.graphId, hg, hid] using hhit

/-! ## FAULT_REPLY (20 R437) -/

section
variable {s : State} {c : Nat} (hc : Command s c 0x19 3 [(64, 32)])
include hc

theorem faultReply_acts : faultReplyStep s =
    match s.faults.find? (fun f => f.fseq == bits c 64 32) with
    | none => s.refuseFor c 1
    | some f =>
      let s : State := { s with faults := s.faults.filter (fun x => x.fseq != f.fseq) }
      ((s.onGraph f.graph (fun s => s.pageRefused (f.va / 16384))).getD s).done c 0 := by
  obtain ⟨hcmd, -, hop, hstage, hrsvd⟩ := hc
  rw [faultReplyStep, onCommand_of _ hcmd (by simp [opcodeOf, hop])]
  exact gate_of _ hstage hrsvd rfl

theorem faultReply_unknown (h : ∀ f ∈ s.faults, f.fseq ≠ bits c 64 32) :
    Steps .faultReply s (answer s c 3 (Config.refusalCode 0x19 1).toNat 0) := by
  refine congrArg Host.Outcome.next ?_
  have hnone : s.faults.find? (fun f => f.fseq == bits c 64 32) = none := by simpa using h
  rw [faultReply_acts hc, hnone]
  exact refuseFor_eq_answer hc.2.1 hc.2.2.1 1

theorem faultReply_refuses {f : FaultRec} (hf : s.faults.find? (fun f => f.fseq == bits c 64 32) = some f)
    (hid : s.graphId = f.graph) (hg : s.graph ≠ none) : Steps .faultReply s (answer (State.pageRefused
      { s with faults := s.faults.filter (fun x => x.fseq != f.fseq) } (f.va / 16384)) c 0 0 0) := by
  refine congrArg Host.Outcome.next ?_
  obtain ⟨g, hg⟩ := Option.ne_none_iff_exists'.1 hg
  rw [faultReply_acts hc, hf]
  dsimp only
  have hcur : g.id = f.graph := by simpa [State.graphId, hg] using hid
  rw [onGraph_current (s := { s with faults := s.faults.filter (fun x => x.fseq != f.fseq) }) _ hg hcur]
  exact done_eq_answer (by exact hc.2.1) c 0
end

/-! ## BLOCK_CONTROL (20 R436) -/

theorem DiesOnly.ring {s t : State} (h : DiesOnly s t) : RingKept s t := by rw [h]; exact ⟨rfl, rfl, rfl⟩

theorem StatusOnly.ring {s t : State} (h : StatusOnly s t) : RingKept s t := by rw [h]; exact ⟨rfl, rfl, rfl⟩

/-- A block's waves leave their slots and the streams of the others; the rest of the machine is as before. -/
theorem State.dropWaves_frame (s : State) (k : BKey) :
    s.dropWaves k = { s with w := (s.dropWaves k).w, waves := (s.dropWaves k).waves, st := (s.dropWaves k).st } := by
  unfold State.dropWaves
  dsimp only
  split
  · cases h : s.focus 192 0 .lead with
    | none => rfl
    | some u => rw [Option.getD_some, State.focus_frame h]
  · rfl

/-- A block as it leaves its die, before its grid and the drain are looked at. -/
def State.withoutBlock (s : State) (b : Block) : State :=
  let u := s.dropWaves b.key
  let u := match b.desc with | some (g, i) => u.modCluster g (fun c => c.freeDescAt i) | none => u
  { u with blocks := u.blocks.filter (fun x => x.key != b.key) }

theorem State.removeBlock_without (s : State) (b : Block) :
    s.removeBlock b = ((s.withoutBlock b).gridDone b).drainCheck := rfl

theorem withoutBlock_ring (s : State) (b : Block) : RingKept s (s.withoutBlock b) ∧ (s.withoutBlock b).dies = s.dies := by
  unfold State.withoutBlock
  rw [State.dropWaves_frame]
  cases b.desc <;> exact ⟨⟨rfl, rfl, rfl⟩, rfl⟩

theorem removeBlock_ring (s : State) (b : Block) : RingKept s (s.removeBlock b) :=
  (withoutBlock_ring s b).1.trans ((diesOnly_gridDone _ b).ring.trans (statusOnly_drainCheck _).ring)

/-- The saved images of every die are as before. -/
def PoolKept (s t : State) : Prop := ∀ d, (t.die d).pool = (s.die d).pool

theorem PoolKept.trans {s t u : State} (h : PoolKept s t) (h' : PoolKept t u) : PoolKept s u := fun d => (h' d).trans (h d)

theorem poolKept_of_dies {s t : State} (h : t.dies = s.dies) : PoolKept s t := fun d => by rw [State.die, h]; rfl

theorem poolKept_modDie (s : State) (die : Nat) {f : Die → Die} (hf : ∀ d, (f d).pool = d.pool) :
    PoolKept s (s.modDie die f) :=
  fun d => getD_modAt_of_kept Die.pool hf s.dies die d (Die.reset 0)

theorem poolKept_modQueue (s : State) (die node : Nat) (f : Queue → Queue) : PoolKept s (s.modQueue die node f) :=
  poolKept_modDie s die (fun _ => rfl)

theorem poolKept_giveBack (s : State) (n t : Nat) (dies : List Nat) : PoolKept s (s.giveBack n t dies) := by
  induction dies generalizing s with
  | nil => exact fun _ => rfl
  | cons d rest ih => exact (poolKept_modQueue _ _ _ _).trans (ih _)

theorem poolKept_foldl {α : Type} (l : List α) {f : State → α → State} (hf : ∀ s x, PoolKept s (f s x)) (s : State) :
    PoolKept s (l.foldl f s) := by
  induction l generalizing s with
  | nil => exact fun _ => rfl
  | cons x xs ih => exact (hf s x).trans (ih _)

theorem poolKept_freeCredits (s : State) (die : Nat) (deadline : Bool) (later : Nat) (es : List (Edge × Nat × Nat)) :
    PoolKept s (s.freeCredits die deadline later es) := by
  induction es generalizing s with
  | nil => exact fun _ => rfl
  | cons e rest ih =>
    refine PoolKept.trans ?_ (ih _)
    split
    · exact poolKept_foldl _ (fun _ _ => poolKept_modQueue _ _ _ _) s
    · exact poolKept_giveBack _ _ _ _

theorem poolKept_blockCredits (s : State) (b : Block) : PoolKept s (s.blockCredits b) := by
  unfold State.blockCredits
  split
  · exact poolKept_freeCredits _ _ _ _ _
  · exact fun _ => rfl

theorem poolKept_gridDone (s : State) (b : Block) : PoolKept s (s.gridDone b) := by
  unfold State.gridDone
  split
  · exact poolKept_modDie _ _ (fun _ => rfl)
  · exact fun _ => rfl

theorem poolKept_removeBlock (s : State) (b : Block) : PoolKept s (s.removeBlock b) :=
  (poolKept_of_dies (withoutBlock_ring s b).2).trans
    ((poolKept_gridDone _ b).trans (poolKept_of_dies (statusOnly_drainCheck _).dies))

/-- An image that has been freed stands in no pool of its die. -/
theorem pool_freeImage {s : State} {die image : Nat} : ∀ u ∈ ((s.freeImage die image).die die).pool, u.1 ≠ image := by
  intro u hu
  by_cases hd : die < s.dies.length
  · rw [State.freeImage, State.die_modDie_self _ _ _ hd] at hu
    simpa using (List.mem_filter.1 hu).2
  · have hlen : ¬ die < (s.freeImage die image).dies.length := by
      rwa [State.freeImage, State.modDie, modAt_length]
    rw [State.die, List.getD_eq_default _ _ (Nat.le_of_not_lt hlen)] at hu
    cases hu

section
variable {s : State} {c image : Nat} {g : Graph} {b : Block} (hg : s.graph = some g) (hid : g.id = bits c 64 32)
  (hc : Command s c 0x1D 3 [(64, 32), (96, 16), (112, 8), (128, 32)]) (hb : s.faultedBlock c = some (b, image))
include hg hid hc hb

theorem blockControl_acts {mine : Nat → Bool} (hmine : mine (bits c 112 8) = true) (htwo : bits c 112 8 ≤ 2)
    (f : Block → Nat → State → State × Nat) : blockControlStep mine f s = (f b image s).1.done c (f b image s).2 := by
  obtain ⟨hcmd, -, hop, hstage, hrsvd⟩ := hc
  rw [blockControlStep, onCommand_of _ hcmd (by simp [opcodeOf, hop, hmine]),
    gate_of _ hstage hrsvd (by simpa using htwo), forGraph_current _ hg hid, hb]

theorem blockControl_image (h0 : bits c 112 8 = 0) : Steps .blockControlImage s
    (answer s c 0 0 (image % 2 ^ 48 * 2 ^ 64 + b.cause % 256 * 2 ^ 112)) := by
  refine congrArg Host.Outcome.next ?_
  rw [blockControl_acts hg hid hc hb (by simp [h0]) (by omega)]
  exact done_eq_answer hc.2.1 c _

theorem blockControl_resume (h1 : bits c 112 8 = 1) : ∃ t, Steps .blockControlResume s t ∧ Answered s t
    ∧ t.blocks = s.blocks.map (fun x => if x.key = b.key then { x with status := .saved false image } else x) := by
  have hhome := homeOnly_firmwareWrite s image (leBytes (putBit (memVal s.mem image 8) 53 false) 8)
  let u := (s.firmwareWrite image (leBytes (putBit (memVal s.mem image 8) 53 false) 8)).modBlock b.key
    (fun b => { b with status := .saved false image })
  have hring : RingKept s u := hhome.ring
  refine ⟨u.done c 0, congrArg Host.Outcome.next (blockControl_acts hg hid hc hb (by simp [h1]) (by omega) _),
    answered_done hring hc.2.1 c 0, ?_⟩
  rw [(ringOnly_done (hring.1.trans hc.2.1) c 0).blocks]
  exact congrArg (List.map _) hhome.blocks

theorem blockControl_discard (h2 : bits c 112 8 = 2) : ∃ t, Steps .blockControlDiscard s t ∧ Answered s t
    ∧ t.blocks = s.blocks.filter (fun x => x.key != b.key) ∧ ∀ u ∈ (t.die b.die).pool, u.1 ≠ image := by
  have hcredits := diesOnly_blockCredits (s.freeImage b.die image) b
  have hring : RingKept s (((s.freeImage b.die image).blockCredits b).removeBlock b) :=
    RingKept.trans hcredits.ring (removeBlock_ring _ b)
  refine ⟨_, congrArg Host.Outcome.next (blockControl_acts hg hid hc hb (by simp [h2]) (by omega) _),
    answered_done hring hc.2.1 c 0, ?_, fun u hu => ?_⟩
  · rw [(ringOnly_done (hring.1.trans hc.2.1) c 0).blocks, (State.removeBlock_eq _ _).2, hcredits.blocks]
    rfl
  · rw [(ringOnly_done (hring.1.trans hc.2.1) c 0).die, poolKept_removeBlock, poolKept_blockCredits] at hu
    exact pool_freeImage u hu
end

/-! ## The clauses -/

theorem takeIn_putAway_l1 {s : State} (running : Bool) (x : Context) (h : ∀ y ∈ s.cores, y.l1 = []) :
    ∀ y ∈ ((s.putAway running).takeIn x).cores, y.l1 = [] :=
  takeIn_l1 x h

/-- A switch that ends brings the other context onto the device, with the L1s and TLBs of the cores empty, and answers. -/
theorem switchEnd_brings {s : State} {c used : Nat} {running : Bool} {x : Context} (hq : s.queueCmd = none)
    (hx : s.contexts.find? (fun x => x.graph.id == bits c 96 32) = some x) :
    (s.switchEnd c used running).graph = some x.graph ∧ (s.switchEnd c used running).blocks = x.blocks
      ∧ Answered s (s.switchEnd c used running)
      ∧ (∀ y ∈ (s.switchEnd c used running).contexts, y.graph.id ≠ x.graph.id)
      ∧ ∀ y ∈ (s.switchEnd c used running).cores, y.l1 = [] ∧ y.tlb = [] := by
  have hring := (switchSaved_ring s c used).trans (takeIn_putAway_ring (s.switchSaved c used) running x)
  have hl1 := takeIn_putAway_l1 running x (switchSaved_l1 s c used)
  obtain ⟨hgraph, hblocks, hcontexts, htlb⟩ := takeIn_brings ((s.switchSaved c used).putAway running) x
  have honly := ringOnly_done (hring.1.trans hq) c (used % 2 ^ 32 * 2 ^ 64)
  have hans := answered_done hring hq c (used % 2 ^ 32 * 2 ^ 64)
  rw [switchEnd_eq hx]
  generalize ((s.switchSaved c used).putAway running).takeIn x = u at *
  refine ⟨honly.graph.trans hgraph, honly.blocks.trans hblocks, hans, ?_, ?_⟩
  · rw [honly.contexts]
    exact hcontexts
  · rw [honly.cores]
    exact fun y hy => ⟨hl1 y hy, htlb y hy⟩

/-- MAP_PAGES with one page: its leaf entry is written, the TLBs are empty, and no record of a miss in it is left once the
answer has gone out. -/
theorem mapPages_writes {s t : State} {g : Graph} {a c v n : Nat} {bs : List Byte} (hg : s.graph = some g)
    (hq : s.queueCmd = none) (hput : BytesPut s (s.firmwareWrite a bs) a bs)
    (ht : t = let u := (s.firmwareWrite a bs).clearTlbs.done c 0
      if u.busy.isSome then u else u.pagesMapped v n) :
    BytesPut s t a bs ∧ (∀ x ∈ t.cores, x.tlb = []) ∧ Answered s t
      ∧ (t.busy = none → ∀ f ∈ t.faults, f.graph = g.id → f.cause = none → inRange f.va v n = false) := by
  obtain ⟨hmem, hgraph, htlb, hans⟩ := leafWritten hq a c bs
  dsimp only at ht
  split at ht
  · next hheld =>
    subst ht
    refine ⟨fun x => ?_, htlb, hans, fun hnone => ?_⟩
    · rw [hmem]
      exact hput x
    · rw [hnone] at hheld
      cases hheld
  · subst ht
    obtain ⟨hmem', hcores, hbusy, htail, hhead, hfaults⟩ :=
      pagesMapped_leaves ((s.firmwareWrite a bs).clearTlbs.done c 0) v n
    refine ⟨fun x => ?_, ?_, ?_, fun _ => hfaults g (hgraph.trans hg)⟩
    · rw [hmem', hmem]
      exact hput x
    · rw [hcores]
      exact htlb
    · rw [Answered, hbusy, htail, hhead]
      exact hans

/-- Settles O52, a clause for each command: each is let through its gate and does what its lemmas say, and its answer is the
response of the ring. -/
theorem contextAndPageCommands : Obligations.ContextAndPageCommands := by
  unfold Obligations.ContextAndPageCommands
  refine ⟨?vacate, fun s => vacateCores_ends, ?switch, ?switchEnd, ?pages, ?reply, ?control⟩
  case vacate =>
    intro s c g n hg hid hc h191 node hn
    refine ⟨vacateCores_refused hg hid hc hn h191, vacateCores_lifts hg hid hc hn h191, fun hd hsome => ?_⟩
    have hstep := vacateCores_begins hg hid hc hn h191 hd hsome
    refine ⟨fun hspan => ?_, fun hspan hhit => ⟨_, hstep, ?_⟩⟩
    · rw [← refuseFor_eq_answer hc.2.1 hc.2.2.1, ← vacateCores_noSpan hd hspan]
      exact hstep
    · rw [vacateCores_stops hd hspan hhit]
      exact ⟨rfl, fun a => congrArg (memByte · a) (s.vacated_mem node (bits c 112 8)),
        fun b hb hres hon hgroup => vacated_stops hb hres hon hgroup⟩
  case switch =>
    intro s c hc hpa hbacked
    refine ⟨fun x hg hx hid => ⟨switchContext_waits hc hpa hbacked hg hx hid, fun hquiet =>
      ⟨s.emptyL1s.takeIn x, switchContext_takes hc hpa hbacked hg hx hid hquiet, ?_⟩⟩, fun g x hg hx hid => ?_,
      switchContext_unknown hc hpa hbacked⟩
    · obtain ⟨hgraph, hblocks, hcontexts, htlb⟩ := takeIn_brings s.emptyL1s x
      exact ⟨hgraph, hblocks, hcontexts, fun y hy => ⟨takeIn_l1 x (emptyL1s_l1 s) y hy, htlb y hy⟩, fun _ => rfl⟩
    · have hstep := switchContext_starts hc hpa hbacked hg hx hid
      refine ⟨fun hneed => ?_, fun hroom => ⟨_, hstep, switchStart_begins hroom⟩⟩
      rw [State.switchStart_eq, if_pos (by exact hneed), respond_eq_answer hc.2.1] at hstep
      exact hstep
  case switchEnd =>
    intro s running used hbusy hq
    refine ⟨switchContext_held hbusy, fun x hquiet hhalt hx => ⟨_, switchContext_ends hbusy hquiet hhalt, ?_⟩⟩
    exact switchEnd_brings hq hx
  case pages =>
    intro s c g a hg hid va step hva htop hone hplace ha hplain htable
    refine ⟨fun hc hpa hbacked hwin harea => ?_, fun hc hleaf => ?_⟩
    · have hmap := mapPages_maps hg hid hva htop hone hc hpa hbacked hwin harea hplace htable
      exact ⟨_, rfl, mapPages_writes hg hc.2.1 (bytesPut_firmwareWrite ha hplain) hmap⟩
    · have hstep : Steps .unmapPages s _ :=
        congrArg Host.Outcome.next (unmapPages_clears hg hid hva htop hone hc hplace hleaf)
      obtain ⟨hmem, -, htlb, hans⟩ := leafWritten hc.2.1 a c (leBytes 0 8)
      refine ⟨_, hstep, fun x => ?_, htlb, hans⟩
      rw [hmem]
      exact bytesPut_firmwareWrite ha hplain x
  case reply =>
    exact fun s c hc => ⟨faultReply_unknown hc, fun f => faultReply_refuses hc⟩
  case control =>
    exact fun s c image g b hg hid hc hb =>
      ⟨blockControl_image hg hid hc hb, blockControl_resume hg hid hc hb, blockControl_discard hg hid hc hb⟩

end Sys2Proof.Machine

end

section

/-! # Rasteriser, ray traversal and scanout

The rasteriser and the ray node end a record the same way: its output goes out on an edge, the credits that it did not use
are given back, and the drain is looked at. What it sent stays sent, since the status writes of a drain only add messages;
so each result of theirs is one statement about `nodeOutput` (`emits_nodeOutput`) carried over what follows it. -/

namespace Sys2Proof.Machine
open Sys2Proof.Claims

/-! ## Nodes of the graph -/

theorem setStatus_nodes (s : State) (n : Nat) (f : NodeStatus → NodeStatus) : (s.setStatus n f).nodes = s.nodes := by
  unfold State.setStatus
  cases hg : s.graph with
  | none => rfl
  | some g =>
    dsimp only
    split
    · rfl
    · rw [State.nodes, State.putStatus, (homeOnly_homeWrite _ _ _ _ _ _ _).graph, State.nodes, hg]

theorem node?_eq_nodes (s : State) (n : Nat) : s.node? n = s.nodes[n]? := by
  unfold State.node? State.nodes
  cases s.graph <;> rfl

theorem setStatus_node? (s : State) (n k : Nat) (f : NodeStatus → NodeStatus) : (s.setStatus n f).node? k = s.node? k := by
  rw [node?_eq_nodes, node?_eq_nodes, setStatus_nodes]

theorem countRefused_node? (s : State) (node n k : Nat) : (s.countRefused node n).node? k = s.node? k := by
  unfold State.countRefused
  split
  · rfl
  · exact setStatus_node? _ _ _ _

/-! ## The output records of a fixed node (13 R306) -/

theorem emits_iff (t : State) (n : Node) (edge : Nat) (recs : List (List Byte)) : Emits t n edge recs ↔
    ∀ e, n.edges[edge]? = some e → e.target ≠ 65536 → recs ≠ [] →
      ∃ rs, .record rs ∈ t.msgs ∧ rs.map (fun r => (r.node, r.bytes)) = recs.map (fun b => (e.target, b)) := by
  simp only [Emits, State.msgs, List.mem_map]
  grind

theorem Emits.mono {t u : State} {n : Node} {edge : Nat} {recs : List (List Byte)} (h : Emits t n edge recs)
    (hsub : t.msgs ⊆ u.msgs) : Emits u n edge recs := by
  rw [emits_iff] at h ⊢
  intro e he ht hr
  obtain ⟨rs, hmem, hrs⟩ := h e he ht hr
  exact ⟨rs, hsub hmem, hrs⟩

theorem DiesOnly.msgs {s t : State} (h : DiesOnly s t) : t.msgs = s.msgs := by rw [h]; rfl

theorem emits_nodeOutput {s : State} {node : Nat} {n : Node} (hn : s.node? node = some n) (die edge : Nat)
    (recs : List (List Byte)) : Emits (s.nodeOutput die node edge recs) n edge recs := by
  rw [emits_iff]
  intro e he htarget hrecs
  rw [State.nodeOutput, hn]
  dsimp only
  rw [he]
  dsimp only
  rw [if_neg (by simp [htarget, hrecs]), (diesOnly_freeCredits _ _ _ _ _).msgs]
  refine ⟨_, List.mem_map.2 ⟨_, List.mem_append_right _ (List.mem_singleton_self _), rfl⟩, ?_⟩
  rw [List.map_map]
  rfl

/-! ## The rasteriser (13 R308, R309) -/

section
variable {die node : Nat} {s u : State} {n : Node} {e : QEntry} (hn : s.node? node = some n) (hkind : n.kind = kindRaster)
  (htake : s.takeRecord die node = some (u, e))
include hn hkind htake

theorem rasterise_finite (hu : u.node? node = some n) (hfin : ∀ k < 9, notFinite (recWord e.bytes k) = false) :
    let edge := bits (recWord e.bytes 12) 8 8
    let all := if (triOf e.bytes).culled then [] else (triOf e.bytes).pixels
    let room := match n.edges[edge]? with | some e => e.fanout | none => 0
    ∃ t, Steps (.rasteriseTriangle die node) s t ∧ Emits t n edge (all.take (min all.length room / 4 * 4)) := by
  intro edge all room
  let keep := min all.length room / 4 * 4
  have hstep : rasteriseStep die node s =
      ((u.countRefused node (all.length - keep)).nodeOutput die node edge (all.take keep)).drainCheck := by
    rw [rasteriseStep, hn]
    dsimp only
    rw [if_neg (not_not_intro hkind), htake]
    exact if_neg (by simpa using hfin)
  refine ⟨_, congrArg Host.Outcome.next hstep, ?_⟩
  exact Emits.mono (emits_nodeOutput ((countRefused_node? _ _ _ _).trans hu) die edge _) (drainCheck_msgs_subset _)

theorem rasterise_notFinite (hinf : ∃ k, k < 9 ∧ notFinite (recWord e.bytes k) = true) :
    Steps (.rasteriseTriangle die node) s
      (((u.countOverrun node).nodeOutput die node (bits (recWord e.bytes 12) 8 8) []).drainCheck) := by
  refine congrArg Host.Outcome.next ?_
  rw [rasteriseStep, hn]
  dsimp only
  rw [if_neg (not_not_intro hkind), htake]
  exact if_pos (by simpa using hinf)
end

/-! ## Ray traversal (13 R310, R311; 15 R361 to R364) -/

/-- The hit record of a ray on its edge, with no page waited for any more. -/
def State.rayEnds (s : State) (die node : Nat) (bs rec : List Byte) : State :=
  ((s.nodeOutput die node (bits (recWord bs 12) 0 8) [rec]).rayWaits die node none).drainCheck

/-- A traversal that keeps its record for a page. -/
def State.rayMisses (s : State) (die node va : Nat) (e : QEntry) : State :=
  (s.rayWaits die node (some { node := node, took := e, page := va / 16384, answer := none })).reportMiss
    va 5 node (96 * die)

/-- What a traversal does with what its search of the structure ends in; `none` where it must wait for a home. -/
def State.rayAnswer (s : State) (die node : Nat) (e : QEntry) (refused : Option Nat) (r : RayR) : Option State :=
  match r with
  | .ok (s', some h) => some (s'.rayEnds die node e.bytes (hitRecord e.bytes 1 (some h)))
  | .ok (s', none) => some (s'.rayEnds die node e.bytes (hitRecord e.bytes 0 none))
  | .error .invalid => some (s.rayEnds die node e.bytes (hitRecord e.bytes 2 none))
  | .error .open_ =>
    some (({ s with fresh := s.fresh + 7 } : State).rayEnds die node e.bytes (freeHit e.bytes s.fresh))
  | .error (.miss va) =>
    if refused = some (va / 16384) then some (s.rayEnds die node e.bytes (hitRecord e.bytes 2 none))
    else some (s.rayMisses die node va e)
  | .error .wait => none

theorem State.rayRun_eq (s : State) (die node : Nat) (e : QEntry) (refused : Option Nat) : s.rayRun die node e refused =
    if rayBad e.bytes then some (s.rayEnds die node e.bytes (hitRecord e.bytes 2 none))
    else if rayOpen e.bytes then
      some (({ s with fresh := s.fresh + 7 } : State).rayEnds die node e.bytes (freeHit e.bytes s.fresh))
    else
      s.rayAnswer die node e refused (rayBox 64 (96 * die) (rayOf e.bytes) 0 s none) := rfl

theorem emits_rayEnds {s : State} {node : Nat} {n : Node} (hn : s.node? node = some n) (die : Nat) (bs rec : List Byte) :
    Emits (s.rayEnds die node bs rec) n (bits (recWord bs 12) 0 8) [rec] :=
  Emits.mono (emits_nodeOutput hn die (bits (recWord bs 12) 0 8) [rec])
    (drainCheck_msgs_subset (State.rayWaits _ die node none))

/-- A node without a record kept waits for no page. -/
theorem rayWaits_none (s : State) (die node : Nat) :
    ((s.rayWaits die node none).die die).rayWait.find? (fun x => x.node == node) = none := by
  by_cases hd : die < s.dies.length
  · rw [State.rayWaits, State.die_modDie_self _ _ _ hd]
    simp
  · have hlen : ¬ die < (s.rayWaits die node none).dies.length := by
      rwa [State.rayWaits, State.modDie, modAt_length]
    rw [State.die, List.getD_eq_default _ _ (Nat.le_of_not_lt hlen)]
    rfl

theorem rayEnds_waits (s : State) (die node : Nat) (bs rec : List Byte) :
    ((s.rayEnds die node bs rec).die die).rayWait.find? (fun x => x.node == node) = none := by
  rw [State.rayEnds, State.die, (statusOnly_drainCheck _).dies]
  exact rayWaits_none _ die node

/-- A legal ray whose numbers are of the format ends as its search of the structure does. -/
theorem rayRun_box {s : State} {e : QEntry} (hbad : rayBad e.bytes = false) (hopen : rayOpen e.bytes = false)
    (die node : Nat) (refused : Option Nat) : s.rayRun die node e refused =
      s.rayAnswer die node e refused (rayBox 64 (96 * die) (rayOf e.bytes) 0 s none) := by
  rw [State.rayRun_eq, hbad, hopen, if_neg Bool.false_ne_true, if_neg Bool.false_ne_true]

section
variable {die node : Nat} {s u : State} {n : Node} {e : QEntry} (hn : s.node? node = some n) (hkind : n.kind = kindRay)
  (hfree : (s.die die).rayWait.find? (fun x => x.node == node) = none) (htake : s.takeRecord die node = some (u, e))
include hn hkind hfree htake

/-- A node that keeps no record takes its oldest and traverses. -/
theorem rayTraverse_takes {t : State} (hrun : u.rayRun die node e none = some t) : Steps (.rayTraverse die node) s t := by
  refine congrArg Host.Outcome.next ?_
  rw [rayTraverseStep, hn]
  dsimp only
  rw [if_neg (not_not_intro hkind), hfree, htake]
  dsimp only
  rw [hrun]
  rfl

theorem rayTraverse_gives {v : State} {rec : List Byte} (hv : v.node? node = some n)
    (hrun : u.rayRun die node e none = some (v.rayEnds die node e.bytes rec)) :
    ∃ t, Steps (.rayTraverse die node) s t ∧ Emits t n (bits (recWord e.bytes 12) 0 8) [rec] :=
  ⟨_, rayTraverse_takes hn hkind hfree htake hrun, emits_rayEnds hv die e.bytes rec⟩

theorem rayTraverse_bad (hu : u.node? node = some n) (hbad : rayBad e.bytes = true) :
    ∃ t, Steps (.rayTraverse die node) s t ∧ Emits t n (bits (recWord e.bytes 12) 0 8) [hitRecord e.bytes 2 none] :=
  rayTraverse_gives hn hkind hfree htake hu (by rw [State.rayRun_eq, if_pos hbad])

theorem rayTraverse_open (hu : u.node? node = some n) (hbad : rayBad e.bytes = false) (hopen : rayOpen e.bytes = true) :
    ∃ t, Steps (.rayTraverse die node) s t ∧ Emits t n (bits (recWord e.bytes 12) 0 8) [freeHit e.bytes u.fresh] := by
  refine rayTraverse_gives (v := { u with fresh := u.fresh + 7 }) hn hkind hfree htake hu ?_
  rw [State.rayRun_eq, hbad, if_neg Bool.false_ne_true, if_pos hopen]

variable (hbad : rayBad e.bytes = false) (hopen : rayOpen e.bytes = false)
include hbad hopen

theorem rayTraverse_result {u' : State} {h : Option Hit} (hbox : rayBox 64 (96 * die) (rayOf e.bytes) 0 u none = .ok (u', h))
    (hu' : u'.node? node = some n) : ∃ t, Steps (.rayTraverse die node) s t
      ∧ Emits t n (bits (recWord e.bytes 12) 0 8) [hitRecord e.bytes (if h.isSome then 1 else 0) h] := by
  have hrun := rayRun_box hbad hopen (s := u) die node none
  rw [hbox] at hrun
  cases h with
  | none => exact rayTraverse_gives hn hkind hfree htake hu' hrun
  | some h => exact rayTraverse_gives hn hkind hfree htake hu' hrun

theorem rayTraverse_invalid (hbox : rayBox 64 (96 * die) (rayOf e.bytes) 0 u none = .error .invalid)
    (hu : u.node? node = some n) :
    ∃ t, Steps (.rayTraverse die node) s t ∧ Emits t n (bits (recWord e.bytes 12) 0 8) [hitRecord e.bytes 2 none] := by
  have hrun := rayRun_box hbad hopen (s := u) die node none
  rw [hbox] at hrun
  exact rayTraverse_gives hn hkind hfree htake hu hrun

theorem rayTraverse_misses {va : Nat} (hbox : rayBox 64 (96 * die) (rayOf e.bytes) 0 u none = .error (.miss va)) :
    Steps (.rayTraverse die node) s (u.rayMisses die node va e) := by
  have hrun := rayRun_box hbad hopen (s := u) die node none
  rw [hbox] at hrun
  exact rayTraverse_takes hn hkind hfree htake hrun
end

section
variable {die node : Nat} {s : State} {n : Node} {x : RayWait} (hn : s.node? node = some n) (hkind : n.kind = kindRay)
  (hkept : (s.die die).rayWait.find? (fun x => x.node == node) = some x)
include hn hkind hkept

theorem rayTraverse_waits (h : x.answer = none) : Steps (.rayTraverse die node) s s := by
  refine congrArg Host.Outcome.next ?_
  rw [rayTraverseStep, hn]
  dsimp only
  rw [if_neg (not_not_intro hkind), hkept]
  dsimp only
  rw [h]

/-- A node whose page has been answered starts its traversal over. -/
theorem rayTraverse_restarts {mapped : Bool} {t : State} (h : x.answer = some mapped)
    (hrun : s.rayRun die node x.took (if mapped then none else some x.page) = some t) :
    Steps (.rayTraverse die node) s t := by
  refine congrArg Host.Outcome.next ?_
  rw [rayTraverseStep, hn]
  dsimp only
  rw [if_neg (not_not_intro hkind), hkept]
  dsimp only
  rw [h]
  dsimp only
  rw [hrun]
  rfl
end

/-! ## Scanout (13 R315, R316; 10 R215, R221) -/

/-- A head that is on presents what its nodes' queues hold for it, and reads its image. -/
theorem scanout_on {s : State} {head : Nat} {h : Machine.Head} (hh : s.heads[head]? = some h) (hon : h.on = true) :
    Steps (.scanoutVblank head) s
      (((s.headNodes (headDie head) head (List.range s.nodes.length)).drainCheck).headReads head) := by
  refine congrArg Host.Outcome.next ?_
  rw [hh]
  exact if_pos hon

theorem scanout_off {s : State} {head : Nat} {h : Machine.Head} (hh : s.heads[head]? = some h) (hoff : h.on = false) :
    Steps (.scanoutVblank head) s s := by
  refine congrArg Host.Outcome.next ?_
  rw [hh]
  exact if_neg (by simp [hoff])

/-! ### The image read -/

/-- Only what the homes keep of lines and the messages of theirs differ. -/
def ProbesOnly (s t : State) : Prop := t = { s with nextId := t.nextId, dir := t.dir, net := t.net, cores := t.cores }

theorem ProbesOnly.trans {s t u : State} (h : ProbesOnly s t) (h' : ProbesOnly t u) : ProbesOnly s u := by
  unfold ProbesOnly at *; rw [h', h]

theorem ProbesOnly.heads {s t : State} (h : ProbesOnly s t) : t.heads = s.heads := by rw [h]
theorem ProbesOnly.dies {s t : State} (h : ProbesOnly s t) : t.dies = s.dies := by rw [h]

theorem L1Only.probesOnly {s t : State} (h : L1Only s t) : ProbesOnly s t := by
  unfold L1Only at h; unfold ProbesOnly; rw [h]

theorem probesOnly_foldEach (s : State) (ls : List Nat) : ProbesOnly s (s.foldEach ls) := by
  induction ls generalizing s with
  | nil => rfl
  | cons l rest ih =>
    exact ProbesOnly.trans (ProbesOnly.trans (by rfl) (l1Only_sendProbes (s.modDir l _) l _).probesOnly) (ih _)

theorem probesOnly_headReads (s : State) (head : Nat) : ProbesOnly s (s.headReads head) := by
  unfold State.headReads
  split
  · exact probesOnly_foldEach _ _
  · rfl

theorem foldStart_dir (s : State) (line : Nat) (loads : List Nat) : (s.foldStart line loads).dir =
    mapSet DirEntry.empty s.dir line { s.dirOf line with
      holders := []
      fold := some { cores := (s.dirOf line).holders.filter (fun c => c != 192), loads := loads, poison := false } } :=
  (l1Only_sendProbes _ _ _).dir

theorem foldStart_msgs (s : State) (line : Nat) (loads : List Nat) : (s.foldStart line loads).msgs =
    s.msgs ++ ((s.dirOf line).holders.filter (fun c => c != 192)).map (fun c => .probe c line) := by
  rw [State.foldStart, State.sendProbes_msgs]
  rfl

/-- A table of one key whose value is changed, to no default. -/
theorem mapSet_only {β : Type} [DecidableEq β] {d v : β} (hv : v ≠ d) (k : Nat) (x : β) :
    mapSet d [(k, x)] k v = [(k, v)] := by
  simp [mapSet, hv, mapDel, mapIns]

theorem drainCheck_of_no_nodes {s : State} (h : s.nodes = []) : s.drainCheck = s := by
  unfold State.drainCheck
  cases hg : s.graph with
  | none => rfl
  | some g =>
    have hnil : g.nodes = [] := by simpa [State.nodes, hg] using h
    dsimp only
    split
    · rw [hnil]
      rfl
    · rfl

/-- The image of a head in a directory of one line that has something to fold. -/
theorem headReads_one {s : State} {head line : Nat} {h : Machine.Head} {x : DirEntry} {r : CRange}
    (hh : s.heads[head]? = some h) (hdir : s.dir = [(line, x)]) (hr : s.rangeOfLine line = some r)
    (hshows : h.shows (r.vaOf line) = true) (hclean : x.clean = false) (hfold : x.fold = none)
    (hready : s.foldReady line = true) : s.headReads head = s.foldStart line [] := by
  have himage : s.imageLines h = [line] := by
    simp [State.imageLines, hdir, hr, hshows, hclean, hfold, hready]
  rw [State.headReads, hh]
  dsimp only
  rw [himage]
  rfl

theorem dirOf_one {s : State} {line : Nat} {x : DirEntry} (hdir : s.dir = [(line, x)]) : s.dirOf line = x := by
  rw [State.dirOf, hdir, mapGet, if_pos rfl]

theorem scanout_folds {s : State} {head line : Nat} {h : Machine.Head} {x : DirEntry} {r : CRange}
    (hh : s.heads[head]? = some h) (hon : h.on = true) (hnodes : s.nodes = []) (hdir : s.dir = [(line, x)])
    (hr : s.rangeOfLine line = some r) (hshows : h.shows (r.vaOf line) = true) (hclean : x.clean = false)
    (hfold : x.fold = none) (hready : s.foldReady line = true) :
    let cs := x.holders.filter (fun c => c != 192)
    ∃ t, Steps (.scanoutVblank head) s t ∧ t.heads = s.heads ∧ MemKept s t
      ∧ t.dir = [(line, { x with holders := [], fold := some { cores := cs, loads := [], poison := false } })]
      ∧ t.net.map (fun m => m.msg) = s.net.map (fun m => m.msg) ++ cs.map (fun c => .probe c line) := by
  have hstep := scanout_on hh hon
  have hnone : s.headNodes (headDie head) head (List.range s.nodes.length) = s := by rw [hnodes]; rfl
  have hread := headReads_one hh hdir hr hshows hclean hfold hready
  rw [hnone, drainCheck_of_no_nodes hnodes] at hstep
  refine ⟨_, hstep, (probesOnly_headReads s head).heads, fun a => ?_, ?_, ?_⟩
  · rw [hread, State.foldStart_mem]
  · rw [hread, foldStart_dir, dirOf_one hdir, hdir]
    exact mapSet_only (fun h => by cases congrArg DirEntry.fold h) line x
  · rw [hread]
    have hmsgs := foldStart_msgs s line []
    rw [dirOf_one hdir] at hmsgs
    exact hmsgs

/-! ### The image presented -/

/-- A record that a head takes from a queue. -/
def QEntry.forHead (head : Nat) (e : QEntry) : Bool := e.open? && (e.bytes.headD 0#8).toNat % 4 == head

/-- A queue after a head has taken its k records. -/
def Queue.withoutHead (head k : Nat) (q : Queue) : Queue :=
  Queue.trim { q with qhead := (q.qhead + k) % 2 ^ 32, entries := q.entries.filter (fun e => !e.forHead head) }

/-- A head with one record in a queue takes it, counts it, and presents it where it keeps the limits. -/
theorem headTakes_eq {s : State} {die head node : Nat} {h : Machine.Head} {e : QEntry} (hh : s.heads[head]? = some h)
    (hes : (s.entries die node).filter (QEntry.forHead head) = [e]) : ∃ f, s.headTakes die head node =
      let u := (s.modQueue die node (Queue.withoutHead head 1)).setStatus node f
      if imageOk h e.bytes then { u with heads := modAt u.heads head (fun x => x.present e.bytes) } else u := by
  have hget (d : Machine.Head) : s.heads.getD head d = h := by rw [List.getD_eq_getElem?_getD, hh, Option.getD_some]
  unfold State.headTakes
  dsimp only
  have hmine : (s.entries die node).filter (fun e => e.open? && (e.bytes.headD 0#8).toNat % 4 == head) = [e] := hes
  rw [hmine, if_neg (List.cons_ne_nil _ _), hget]
  exact ⟨_, rfl⟩

theorem withoutHead_entries {head : Nat} {q : Queue} {e : QEntry} (hentries : q.entries = [e]) (he : e.forHead head = true)
    (k : Nat) : (q.withoutHead head k).entries = [] := by
  simp [Queue.withoutHead, Queue.trim, hentries, he, trimHead]

/-- The queue of one record and its head, once the head has taken it. -/
theorem headTakes_one {s : State} {die head node : Nat} {h : Machine.Head} {q : Queue} {e : QEntry}
    (hd : die < s.dies.length) (hh : s.heads[head]? = some h) (hq : s.queue? die node = some q) (hentries : q.entries = [e])
    (he : e.forHead head = true) : (s.headTakes die head node).entries die node = []
      ∧ (s.headTakes die head node).heads
        = if imageOk h e.bytes then modAt s.heads head (fun x => x.present e.bytes) else s.heads := by
  have hes : (s.entries die node).filter (QEntry.forHead head) = [e] := by
    simp [State.entries, hq, hentries, he]
  obtain ⟨f, hf⟩ := headTakes_eq hh hes
  have hstatus := statusOnly_setStatus (s.modQueue die node (Queue.withoutHead head 1)) node f
  have hqueue := State.queue?_modQueue_self s die node (Queue.withoutHead head 1) hd (fun _ => rfl)
  rw [hq, ← hstatus.queue?] at hqueue
  have hheads : ((s.modQueue die node (Queue.withoutHead head 1)).setStatus node f).heads = s.heads := by rw [hstatus]; rfl
  rw [hf]
  generalize (s.modQueue die node (Queue.withoutHead head 1)).setStatus node f = u at *
  have hread (l : List Machine.Head) : State.entries { u with heads := l } die node = [] := by
    rw [State.entries, queue?_of_dies (s := u) (t := { u with heads := l }) rfl, hqueue]
    exact withoutHead_entries hentries he 1
  dsimp only
  split
  · exact ⟨hread _, congrArg (modAt · head _) hheads⟩
  · exact ⟨hread _, hheads⟩

theorem headNodes_one (s : State) (die head : Nat) {n : Node} (hnodes : s.nodes = [n]) (hkind : n.kind = kindScanout) :
    s.headNodes die head (List.range s.nodes.length) = s.headTakes die head 0 := by
  have hn : s.node? 0 = some n := by rw [node?_eq_nodes, hnodes]; rfl
  rw [hnodes]
  change s.headNodes die head [0] = _
  rw [State.headNodes, hn]
  dsimp only
  rw [if_pos hkind]
  rfl

theorem scanout_presents {s : State} {head : Nat} {h : Machine.Head} {n : Node} {q : Queue} {e : QEntry}
    (hh : s.heads[head]? = some h) (hon : h.on = true) (hnodes : s.nodes = [n]) (hkind : n.kind = kindScanout)
    (hd : headDie head < s.dies.length) (hq : s.queue? (headDie head) 0 = some q) (hentries : q.entries = [e])
    (he : e.forHead head = true) : ∃ t, Steps (.scanoutVblank head) s t ∧ s.entries (headDie head) 0 = [e]
      ∧ t.entries (headDie head) 0 = []
      ∧ t.heads = if imageOk h e.bytes then modAt s.heads head (fun x => x.present e.bytes) else s.heads := by
  have hstep := scanout_on hh hon
  obtain ⟨hleft, hheads⟩ := headTakes_one hd hh hq hentries he
  rw [headNodes_one s _ head hnodes hkind] at hstep
  generalize s.headTakes (headDie head) head 0 = u at *
  have hdrain := statusOnly_drainCheck u
  have hread := probesOnly_headReads u.drainCheck head
  refine ⟨_, hstep, by rw [State.entries, hq]; exact hentries, ?_, ?_⟩
  · rw [State.entries, queue?_of_dies (hread.dies.trans hdrain.dies)]
    exact hleft
  · rw [hread.heads, hdrain]
    exact hheads

/-- Settles O47: the output of the rasteriser and of the ray node by what `nodeOutput` sends, the waits of a traversal by the
answer of its search, and the heads by the one queue and the one line that they meet. -/
theorem fixedNodes : Obligations.FixedNodes := by
  unfold Obligations.FixedNodes
  refine ⟨fun die node s u n e hn htake hu => ⟨fun hkind => ?_, fun hkind hfree => ?_⟩, ?resumes, ?scanout⟩
  · exact ⟨rasterise_finite hn hkind htake hu, rasterise_notFinite hn hkind htake⟩
  · exact ⟨rayTraverse_bad hn hkind hfree htake hu, rayTraverse_open hn hkind hfree htake hu,
      fun _ _ hbad hopen => rayTraverse_result hn hkind hfree htake hbad hopen,
      fun hbad hopen hbox => rayTraverse_invalid hn hkind hfree htake hbad hopen hbox hu,
      fun _ hbad hopen => rayTraverse_misses hn hkind hfree htake hbad hopen⟩
  case resumes =>
    intro die node s n x hn hkind hkept
    refine ⟨rayTraverse_waits hn hkind hkept, fun hbad hopen => ⟨fun va hans hpage hbox => ?_, fun va hans hbox => ?_⟩⟩
    · refine ⟨s.rayEnds die node x.took.bytes (hitRecord x.took.bytes 2 none), rayTraverse_restarts hn hkind hkept hans ?_,
        emits_rayEnds hn die _ _, fun _ _ _ => rayEnds_waits _ _ _ _ _⟩
      rw [rayRun_box hbad hopen, hbox]
      exact if_pos (congrArg some hpage.symm)
    · refine rayTraverse_restarts hn hkind hkept hans ?_
      rw [rayRun_box hbad hopen, hbox]
      rfl
  case scanout =>
    intro head s h n q e hh
    refine ⟨scanout_off hh, fun line x r hon hnodes hdir hr => scanout_folds hh hon hnodes hdir hr,
      fun hon hnodes hkind hd hq hentries hopen hmine => ?_⟩
    exact scanout_presents hh hon hnodes hkind hd hq hentries (by rw [QEntry.forHead, hopen, hmine]; simp)

end Sys2Proof.Machine

end
